-- ==== Sys2Proof/Word.lean ====
section
/-! DEFINITION. The word types of the DV-9640 family: bytes and 32-bit register words, as spec/00_scope.md R12 to R17 name them. -/

namespace Sys2Proof

/-- One byte. -/
abbrev Byte := BitVec 8

/-- One 32-bit register word (R13). -/
abbrev Word := BitVec 32

end Sys2Proof
end

