-- ==== Sys2Proof/Syntax.lean ====
section
/-! DEFINITION. The commands of the block: one constructor of `Instr` per row of spec/opcode_table.json,
with the operands that its rules name. An operand is what the outside world supplies: an address and a
value, a frame, a reading of a converter or a pin, the outcome of an analogue or radio process. -/

namespace Sys2Proof

/-- What one tracking epoch gives of a channel (R140): code lock, phase lock, C/N0 code, elevation code. -/
structure ChanObs where
  ch : Nat
  lock : Bool
  phase : Bool
  cn0 : Nat
  elev : Nat
  deriving DecidableEq, Repr

/-- A decoded navigation message (R139): system, message type, satellite, 40 bytes of message bits. -/
structure NavMsg where
  system : Nat
  msg : Nat
  svid : Nat
  bits : List Nat
  deriving DecidableEq, Repr

/-- What one tracking epoch gives beside the channels: a decoded UTC parameter set (offset and leap codes),
and tones per notch as (band, notch, level above the noise floor as a binary32 code in dB) (R131, R142). -/
structure EpochObs where
  chans : List ChanObs
  nav : List NavMsg
  utc : Option (Nat × Nat)
  tones : List (Nat × Nat × Nat)
  deriving DecidableEq, Repr

/-- A hypothesis of an acquisition pass (R137): power above the noise estimate as a binary32 code in dB, and
what the second dwell at its cell said. -/
structure Hypo where
  signal : Nat
  system : Nat
  svid : Nat
  cn0 : Nat
  elev : Nat
  power : Nat
  confirmed : Bool
  deriving DecidableEq, Repr

/-- A least-squares solution as the words of the FIX_OUT block 0x10 to 0x5F (20 words), its type and
measurements used, and the uncertainty of its clock bias in ns (R152). -/
structure FixSol where
  typ : Nat
  used : Nat
  words : List Nat
  clkUnc : Nat
  deriving DecidableEq, Repr

/-- One attempt at a solution (R144): the largest normalised residual and its channel. -/
structure FixTry where
  resid : Nat
  ch : Nat
  sol : FixSol
  deriving DecidableEq, Repr

/-- Raw measurement of a channel (R153): PR, PHASE, DOPPLER, CN0, LOCK and FLAGS bits 0 to 3. -/
structure RawMeas where
  ch : Nat
  pr : Nat
  phase : Nat
  doppler : Nat
  cn0 : Nat
  lock : Nat
  flags : Nat
  deriving DecidableEq, Repr

/-- What one fix epoch gives: attempts with no, one and two exclusions; per channel the pseudorange rate
difference (binary32 m/s), the jump since the last epoch (ns) and the normalised residual. -/
structure FixObs where
  tries : List FixTry
  rates : List (Nat × Nat)
  jumps : List (Nat × Int)
  resids : List (Nat × Nat)
  meas : List RawMeas
  deriving DecidableEq, Repr

/-- A CSI-2 packet as a port receives it (R162): start-of-transmission error, header ECC (0 right, 1 corrected,
2 uncorrectable), VCX bits not zero, virtual channel, data type, payload bytes, payload CRC right, a deskew
sequence completed before it. -/
structure CsiPacket where
  sot : Bool
  ecc : Nat
  vcx : Bool
  vc : Nat
  dt : Nat
  payload : List Nat
  crcOk : Bool
  skew : Bool
  deriving DecidableEq, Repr

/-- What a calibration of a precision ADC finds (R316, R318): offset in nV referred to the input at gain 1, gain error
in ppm, the currents of sources 0 to 7 in nA, and per fast path the offsets of its two gains and the low-gain
correction (binary32). -/
structure CalReading where
  offset : Int
  gainErr : Int
  srcs : List Nat
  fast : List (Int × Int × Nat)
  deriving DecidableEq, Repr

/-- A CAN frame on the bus (R445): identifier, extended, remote, error state indicator, data length code, FD format,
bit rate switch, data bytes. -/
structure CanFrame where
  id : Nat
  xtd : Bool
  rtr : Bool
  esi : Bool
  dlc : Nat
  fdf : Bool
  brs : Bool
  data : List Nat
  deriving DecidableEq, Repr

/-- What start-up finds (R79, R80, R520): BOOTSEL, the regions whose checker fails its self-test, whether the PCIe link
trains. -/
structure BootEnv where
  bootsel : Fin 4
  badRegions : BitVec 7
  pcie : Bool
  deriving DecidableEq, Repr

/-- The commands, one constructor per row of spec/opcode_table.json. -/
inductive Instr where
  /-- REGISTER_WRITE (R14): A host write to a register that has no row of its own takes effect according to the field's access type. -/
  | registerWrite (addr : Nat) (size : Nat) (value : Nat)
  /-- READ_CLEAR (R14): A host read of an RC field returns its count and clears it, without losing a same-cycle increment. -/
  | readClear (addr : Nat) (size : Nat)
  /-- MEMORY_WRITE (R501): A write to a memory region stores fresh check bits; a 32-bit write reads the word, merges the new half and writes it back as one operation. -/
  | memoryWrite (addr : Nat) (size : Nat) (value : Nat)
  /-- DEMAND_READ (R503): A read of a memory word corrects up to two bit errors, or returns a bus error and logs an uncorrectable word. -/
  | demandRead (addr : Nat) (size : Nat)
  /-- EVENT_CLEAR (R62): A W1C write to UNIT_EVT clears pending event bits. -/
  | eventClear (window : Fin 32) (mask : Word)
  /-- EVENT_ENABLE (R63): A write to UNIT_EVT_EN enables events, and sends a message for each bit that rises from 0 to 1 while its event is pending. -/
  | eventEnable (window : Fin 32) (value : Word)
  /-- VECTOR_UNMASK (R64): The host unmasks an MSI-X vector, and one held message is sent. -/
  | vectorUnmask (vec : Fin 64) (addr : BitVec 64) (data : Word)
  /-- READ_WORDS (R56): An HSPI read transaction fetches N words and returns them with a ready byte and a status byte. -/
  | readWords (addr : Word) (count : Fin 64) (timedOut : Bool)
  /-- WRITE_WORDS (R58): An HSPI write transaction is posted, and its words are applied when HSPI_CSn rises; a cut-short transaction writes nothing. -/
  | writeWords (addr : Word) (words : List Word) (cut : Bool)
  /-- READ_LAST_STATUS (R55): HSPI command 0x05 returns the last write status, the last read status and the error count. -/
  | readLastStatus
  /-- NO_OPERATION (R55): HSPI command 0x00 clocks its address phase and does nothing. -/
  | noOperation
  /-- UNKNOWN_COMMAND (R55): An HSPI transaction with an undefined command byte is ignored and counted in HST_SPI_ERR. -/
  | unknownCommand (command : BitVec 8)
  /-- PCIE_LINK_RESET (R52): A hot reset, a link-down or a return from D3hot resets configuration space, the MSI-X table and the DMA channels only. -/
  | pcieLinkReset (cause : Fin 3) (up : Bool)
  /-- DMA_POST (R67): A write to HST_DMA_POSTn appends a descriptor to channel n's queue. -/
  | dmaPost (ch : Fin 8) (value : Word)
  /-- DESCRIPTOR_COMPLETE (R575): A descriptor completes: OWN clears, DONE_LEN and ERR are written, and DONEn is raised when INT is 1. -/
  | descriptorComplete (ch : Fin 8) (data : List Nat) (moved : Option Nat)
  /-- KICK (R69): A write of the key to HST_KICK restarts the watchdog period and sets KICKED. -/
  | kick (value : Word)
  /-- WATCHDOG_PERIOD_WRITE (R69): A write to HST_WD arms the watchdog as a kick when the period is non-zero, and disarms it when the period is 0. -/
  | watchdogPeriodWrite (value : Word)
  /-- WATCHDOG_EXPIRY (R69): The watchdog period elapses without a kick: LOST is set, EXPIRED counts, and rank 3 applies. -/
  | watchdogExpiry
  /-- HOST_LOST_CLEAR (R70): A write of 1 to HST_LOST.LOST after a valid kick ends rank 3. -/
  | hostLostClear (value : Word)
  /-- PWR_LAT_WRITE (R72): A write to PWR_LAT_Gnn sets the group's wake tolerance, and the device chooses its power state anew. -/
  | pwrLatWrite (group : Fin 12) (value : Word)
  /-- ENTER_POWER_STATE (R72): A group that has no work enters the deepest state that its tolerance allows. -/
  | enterPowerState (group : Fin 12)
  /-- GROUP_WAKE (R72): Work arrives for a group that is gated, retained or off, and the group starts to wake. -/
  | groupWake (group : Fin 12)
  /-- WAKE_COMPLETE (R72): A waking group reaches full rate. -/
  | wakeComplete (group : Fin 12)
  /-- POWER_ON_RESET (R76): PORn or the supervisor resets everything except the always-on domain, and start-up runs. -/
  | powerOnReset (supv : Bool) (aon : Bool) (env : BootEnv)
  /-- WARM_RESET (R76): RSTn, or the SYS_RESET key after 1 µs, resets everything except the always-on domain, and start-up runs from step 2. -/
  | warmReset (pin : Bool) (env : BootEnv)
  /-- SYS_RESET (R76): A write of 0xD5A7 to SYS_RESET schedules a warm reset 1 µs later. -/
  | sysReset (value : Word)
  /-- UNIT_RESET (R77): A write to SYS_URESET starts a reset of each named unit to its committed configuration. -/
  | unitReset (mask : Word)
  /-- UNIT_RESET_COMPLETE (R77): A unit reset completes within 100 µs and its SYS_URESET bit reads 0. -/
  | unitResetComplete (window : Fin 32)
  /-- CHAIN_RESET (R78): A write to CHN_RESET resets a field die and its link, puts its outputs in safe state and retrains the link. -/
  | chainReset (mask : BitVec 2)
  /-- LINK_TRAINING_COMPLETE (R21): Chain link training completes, latency and frame phase are fixed, and the die's configuration is re-sent. -/
  | linkTrainingComplete (link : Fin 2)
  /-- OUTBOUND_FRAME (R19): The core sends an outbound chain frame each 1 µs period with commands, heartbeat and frame count. -/
  | outboundFrame (link : Fin 2)
  /-- INBOUND_FRAME (R23): An inbound chain frame reaches the core, is validated and its samples and status are taken. -/
  | inboundFrame (link : Fin 2) (aligned : Bool) (crcOk : Bool)
  /-- FIELD_DIE_FRAME_RECEIVE (R23): A field die receives an outbound frame, validates it and applies its commands. -/
  | fieldDieFrameReceive (link : Fin 2) (aligned : Bool) (crcOk : Bool)
  /-- INBOUND_FRAME_SEND (R19): A field die sends an inbound frame with samples and status once per outbound frame period. -/
  | inboundFrameSend (die : Fin 2)
  /-- LINK_LOST (R24): 3,000 ns pass without a valid inbound frame: CHN_STAT.LOST sets and the die's endpoints stop receiving. -/
  | linkLost (link : Fin 2)
  /-- SILENCE_TIMEOUT (R25): A field die receives no valid outbound frame for its timeout and enters safe state. -/
  | silenceTimeout (die : Fin 2)
  /-- RESUME (R26): A write of 1 to CHN_CTRL.RESUME sets RESUME in the next outbound frame. -/
  | resume (link : Fin 2)
  /-- AUTO_RESUME (R26): After 1 ms of valid frames in Run, the core sends RESUME by itself. -/
  | autoResume (link : Fin 2)
  /-- FCLK_STEP (R32): FCLK changes frequency at the thermal unit's command without a short or missing pulse. -/
  | fclkStep
  /-- LOAD (R101): PLAT_CMD LOAD starts a full load of the host image through parse, check and clamp. -/
  | load (key : BitVec 16)
  /-- COMMIT (R99): The staged configuration replaces the running one: units and field dies are reset and reconfigured, and pending amendments are discarded. -/
  | commit
  /-- AMEND (R108): PLAT_CMD AMEND parses and checks an amendment load and queues its amendments. -/
  | amend (key : BitVec 16)
  /-- AMENDMENT_APPLY (R110): Queued amendments for one target take effect together at the unit's boundary. -/
  | amendmentApply (sect : Nat) (index : Nat)
  /-- CHECK (R101): PLAT_CMD CHECK parses, checks and clamps the host image and writes the report without committing. -/
  | check (key : BitVec 16)
  /-- PROGRAM_A (R116): The host image is written into slot A with its header word written last, and then verified. -/
  | programA (key : BitVec 16)
  /-- PROGRAM_B (R116): The host image is written into slot B with its header word written last, and then verified. -/
  | programB (key : BitVec 16)
  /-- BOOT_A (R117): Slot A is verified and the three boot-pointer copies are rewritten to name it. -/
  | bootA (key : BitVec 16)
  /-- BOOT_B (R117): Slot B is verified and the three boot-pointer copies are rewritten to name it. -/
  | bootB (key : BitVec 16)
  /-- VERIFY_A (R101): The image in slot A is parsed and the outcome reported. -/
  | verifyA (key : BitVec 16)
  /-- VERIFY_B (R101): The image in slot B is parsed and the outcome reported. -/
  | verifyB (key : BitVec 16)
  /-- OP_UNDEFINED (R102): A write to PLAT_CMD with an undefined OP is refused with cause 0x05. -/
  | opUndefined (value : Word)
  /-- SERVO_UPDATE (R123): At each second boundary the servo estimates the offset and frequency and writes ADJ. -/
  | servoUpdate
  /-- STEP (R128): A permitted step adds Δ to device time at the second boundary, and stakes are moved with it. -/
  | step
  /-- TIME_HREF_WRITE (R124): A write of TIME_HREF_HI pairs the host's TAI time with the newest HPIN rising edge, or is refused. -/
  | timeHrefWrite (hi : Word)
  /-- HPIN_EDGE (R124): A rising edge on HPIN is captured for the host datum. -/
  | hpinEdge
  /-- PPS_EDGE (R129): A PPS generator places its rising edge at a second boundary. -/
  | ppsEdge (gen : Fin 4)
  /-- PPS_PULSE_END (R130): A PPS pulse ends after its width. -/
  | ppsPulseEnd (gen : Fin 4)
  /-- TRACKING_EPOCH (R140): In each 1 ms epoch the tracking loops update and channels are freed or handed to candidates. -/
  | trackingEpoch (obs : EpochObs)
  /-- ACQUISITION_PASS (R136): An acquisition pass over one Doppler bin completes and hypotheses above threshold are tested. -/
  | acquisitionPass (hyps : List Hypo)
  /-- CANDIDATE_EXPIRY (R141): A candidate that is not re-confirmed within 10 s leaves the waiting list. -/
  | candidateExpiry
  /-- NOTCH_RELEASE (R142): A notch releases after its tone has stayed below 6 dB for 1 s. -/
  | notchRelease (band : Fin 2) (notch : Fin 4)
  /-- JAMMING_INDICATOR (R143): Every 100 ms each band's jamming indicator is computed and compared with JAM_THR. -/
  | jammingIndicator (floors : List (Nat × Nat))
  /-- FIX_EPOCH (R152): At each fix epoch the fix engine solves, excludes outliers, writes FIX_OUT and queues a raw epoch record. -/
  | fixEpoch (obs : FixObs)
  /-- SPOOF_HOLD_END (R147): SPOOF_HOLD seconds pass without a further jump and the datum bar ends. -/
  | spoofHoldEnd
  /-- SPOOF_SUSPECT_CLEAR (R145): A channel's SPOOF_SUSPECT flag clears after 60 s with residuals inside the threshold. -/
  | spoofSuspectClear (ch : Fin 96)
  /-- REACQUISITION_BAR_END (R146): The 10 s bar after a false lock ends. -/
  | reacquisitionBarEnd
  /-- BURST_WAKE (R148): G02 is woken 5 ms before a tracking burst. -/
  | burstWake
  /-- BURST_START (R148): A tracking burst starts at a second boundary. -/
  | burstStart
  /-- BURST_END (R148): A burst ends after BURST_LEN, raw measurements are taken and G02 is powered off. -/
  | burstEnd
  /-- SNAPSHOT_GO (R150): A write to GNS_SNAP with GO = 1 arms a raw-sample capture. -/
  | snapshotGo (value : Word)
  /-- CAPTURE_START (R150): A snapshot capture begins at once, at GNS_SNAP_AT, or at the trigger edge. -/
  | captureStart (edge : Option (Fin 64))
  /-- CAPTURE_COMPLETE (R151): A capture is written with its header in commons, sent by DMA when selected, and SNAPDONE is raised. -/
  | captureComplete (samples : List (List Nat))
  /-- FIX_INJ_COMMIT (R154): The host's FIX_INJ block is taken whole, or refused with a cause. -/
  | fixInjCommit
  /-- FIX_OUTPUT_ELEMENT (R155): At OUT_RATE the fix engine extrapolates its base and produces elements on endpoints 384–399. -/
  | fixOutputElement
  /-- INJ_STALE (R157): The newest injection passes INJ_MAX_AGE. -/
  | injStale
  /-- FIXLOST (R157): No fix of type 1 or 2 has been made for 3 s. -/
  | fixlost
  /-- PACKET (R162): A CSI-2 packet reaches a pixel port and is corrected, passed on, ignored or discarded and counted. -/
  | packet (port : Fin 2) (pkt : CsiPacket)
  /-- PORT_ENABLE (R163): A write to PIX_CTRLn.EN enables or disables a port's lanes. -/
  | portEnable (port : Fin 2) (en : Bool)
  /-- IDLE (R164): An enabled port passes no long packet for 100 ms. -/
  | idle (port : Fin 2)
  /-- FRAME_START (R166): A Frame Start aligns a transit's stream and trims its edge-time queue to TRG_LAG. -/
  | frameStart (transit : Fin 8)
  /-- FRAME_END (R166): A Frame End reaches a transit and drops a scan line that it splits. -/
  | frameEnd (transit : Fin 8)
  /-- BAND_LINE (R166): A band line reaches a transit and is placed in the scan line being assembled. -/
  | bandLine (transit : Fin 8)
  /-- SCAN_LINE_PROCESSED (R188): A transit finishes a scan line: it corrects and classifies the pixels and updates the components. -/
  | scanLineProcessed (transit : Fin 8)
  /-- EDGE_TIME (R170): A trigger-pin edge time reaches a transit's 16-entry queue, and the oldest entry is discarded when the queue is full. -/
  | edgeTime (transit : Fin 8)
  /-- RESYNC (R171): A write of 1 to TRN_CTRLn.RESYNC empties the edge-time queue. -/
  | resync (transit : Fin 8)
  /-- TRANSIT_EN_WRITE (R195): Clearing TRN_CTRLn.EN discards open components; setting it waits for a Frame Start. -/
  | transitEnWrite (transit : Fin 8) (value : Word)
  /-- PIXEL_SNAPSHOT_GO (R191): A write to TRN_SNAPn with GO = 1 requests COUNT captured scan lines. -/
  | pixelSnapshotGo (transit : Fin 8) (value : Word)
  /-- INTAKE (R213): The tally engine takes one summary, pulse object or import, allocates or merges it and predicts its planes. -/
  | intake
  /-- PAIRING_WAIT_END (R218): WAIT ends without a match and the Open record becomes Closed and UNPAIRED. -/
  | pairingWaitEnd (slot : Fin 524288)
  /-- DISPATCH (R236): A Closed record enters a feature queue when a place and a classifier reservation are free. -/
  | dispatch (group : Fin 16)
  /-- FEATURE_COMPLETE (R237): A feature station finishes an object and passes its features to the reserved classifier place. -/
  | featureComplete (station : Fin 16)
  /-- CLASSIFIER_RESULT (R249): A classifier station finishes: it demotes the class where due, writes the class, action and score, and the engine requests stakes. -/
  | classifierResult (station : Fin 16)
  /-- STAKE_REQUEST_ENTRY (R222): A request held by a full request FIFO enters the crossing, after its lead is tested again. -/
  | stakeRequestEntry
  /-- STAKE_REPORT (R223): A stake report decrements STAKES, and the record moves on when STAKES reaches 0. -/
  | stakeReport
  /-- EXPORT_COMPLETE (R226): The DMA write of an Exported record completes and the record becomes Done. -/
  | exportComplete
  /-- QUARANTINE_RELEASE (R225): 1.1 s after quarantine a slot not covered by a table entry becomes allocatable. -/
  | quarantineRelease (slot : Fin 524288)
  /-- SUB_WINDOW_END (R252): At the end of a sub-window a class-rate stream emits its rate. -/
  | subWindowEnd (station : Fin 16)
  /-- STAKE_INTAKE (R262): The stake-out engine accepts one request into the stake store, correcting it for a step, or refuses it. -/
  | stakeIntake
  /-- FETCH (R267): The fetcher takes the pending stake with the earliest time and executes it against its target's level. -/
  | fetch
  /-- OFF_EDGE_COMMIT (R266): An off edge is committed at its placement deadline, after which it cannot be withdrawn. -/
  | offEdgeCommit (pin : Fin 64)
  /-- TIMED_PIN_EDGE (R275): A stake or level output edge is placed on a timed pin at its device time. -/
  | timedPinEdge (pin : Fin 64)
  /-- VALVE_LINK_FRAME (R279): Each microsecond an enabled valve link builds and sends a frame of up to 12 firing words. -/
  | valveLinkFrame (link : Fin 4)
  /-- RETURN_FRAME (R284): A return frame from a valve-driver assembly is validated and its status and fault are taken. -/
  | returnFrame (link : Fin 4) (bytes : List Nat)
  /-- VLLOST (R286): No valid return frame arrives within RET_TIMEOUT and the link's LOST is set. -/
  | vllost (link : Fin 4)
  /-- TEMPLATE_SUBMIT (R271): A template submits a stake LEAD before each period instant, with the newest loop width. -/
  | templateSubmit (template : Fin 16)
  /-- STK_H_GO (R269): A write to STK_H_GO submits the host stake held in the STK_H registers. -/
  | stkHGo
  /-- ENGINE_DISABLE (R296): A write of 0 to STK_CTRL.EN flushes unplaced stakes, sets every target inactive and sends close words. -/
  | engineDisable
  /-- VL_ENABLE_WRITE (R279): A write to VL_CTRLn.EN starts or stops the link's frames, and stopping discards its pending valve stakes. -/
  | vlEnableWrite (link : Fin 4) (en : Bool)
  /-- PIN_INPUT_EDGE (R273): An input edge on a timed pin is timestamped, queued, counted or rejected as a runt. -/
  | pinInputEdge (pin : Fin 64) (level : Bool) (width : Nat) (both : Bool)
  /-- GATE_END (R274): A timed-pin measurement gate ends and produces its count, rate or encoder element. -/
  | gateEnd (pin : Fin 64)
  /-- PWM_PULSE_START (R276): A PWM pin begins a pulse and takes its new HIGH. -/
  | pwmPulseStart (pin : Fin 64)
  /-- PWM_PULSE_END (R276): A PWM pulse ends after HIGH ns. -/
  | pwmPulseEnd (pin : Fin 64)
  /-- TIMESTAMP_QUEUE_READ (R273): A read of TPIN_TSQ_HI removes the oldest timestamp entry. -/
  | timestampQueueRead
  /-- REFLEX_INPUT_CHANGE (R289): A matrix input changes and the lookup functions, latches and gated pins respond. -/
  | reflexInputChange (pin : Fin 64) (level : Bool)
  /-- FABRIC_FLAG_CHANGE (R288): A fabric-flag source changes and its flag enters the matrix. -/
  | fabricFlagChange (flag : Fin 16)
  /-- STRETCH_END (R289): An output's stretch time ends. -/
  | stretchEnd (out : Fin 64)
  /-- LATCH_RESET (R289): A write of 1 to RFX_LATCHn resets an output latch. -/
  | latchReset (reg : Fin 2) (mask : Word)
  /-- CHANNEL_DUE (R314): An AFE channel falls due under INTERVAL and the sequencer serves it or counts a miss. -/
  | channelDue (ch : Fin 32)
  /-- SETTLING_EXPIRY (R320): A channel's settling counter expires and its conversions may start. -/
  | settlingExpiry (ch : Fin 32)
  /-- PRECISION_RESULT (R322): A precision conversion completes and its result is computed, flagged and sent. -/
  | precisionResult (die : Fin 2) (adc : Fin 2) (code : BitVec 24) (aref : Nat) (comply : Bool)
  /-- FAST_SAMPLE (R318): A fast path samples both gains, chooses one and tracks the gain match. -/
  | fastSample (die : Fin 2) (path : Fin 4) (hi : BitVec 16) (lo : BitVec 16)
  /-- PERIODIC_CHARGE_RESET (R312): QRESET_PERIOD expires and a charge-amplifier reset starts, or waits. -/
  | periodicChargeReset (die : Fin 2) (path : Fin 4)
  /-- THRESHOLD_CHARGE_RESET (R312): The low-gain output has stayed above QRESET_THR for QRESET_DWELL and a reset starts. -/
  | thresholdChargeReset (die : Fin 2) (path : Fin 4)
  /-- QRESET (R312): A write to AFE_CMD.QRESET resets a charge amplifier. -/
  | qreset (die : Fin 2) (mask : BitVec 4)
  /-- CHARGE_RESET_END (R312): A charge-amplifier reset switch opens after QRESET_NS. -/
  | chargeResetEnd (die : Fin 2) (path : Fin 4)
  /-- SWEEP (R310): A write to AFE_CMD.SWEEP starts a moisture sweep on a fast path. -/
  | sweep (die : Fin 2) (mask : BitVec 4)
  /-- DWELL_END (R311): The dwell at one sweep frequency ends, and the admittance is computed and the next frequency set. -/
  | dwellEnd (die : Fin 2) (z : Nat × Nat) (v : Nat × Nat) (ovr : Bool)
  /-- CABLE_RESET_END (R309): The RESET_MS off time of a cable scan ends and position 0 is excited. -/
  | cableResetEnd (ch : Fin 32)
  /-- STEP_PULSE_END (R308): A cable step pulse ends and the multiplexer advances one position. -/
  | stepPulseEnd (ch : Fin 32)
  /-- CALIBRATION (R316): Offset, gain and source-current calibration phases run every CAL_INTERVAL. -/
  | calibration (die : Fin 2) (adc : Fin 2) (res : CalReading)
  /-- CAL (R316): A write to AFE_CMD.CAL calibrates both ADCs. -/
  | cal (die : Fin 2)
  /-- PORT_INPUT (R334): An element reaches a signal station's port 0 queue, or is dropped when the queue is full. -/
  | portInput (station : Fin 96)
  /-- STATION_VISIT (R348): An engine runs one input element through a station's chain of operations. -/
  | stationVisit (station : Fin 96)
  /-- RATE_GATE (R341): At each GATE_MS boundary RATE emits its crossing rate and zeroes its count. -/
  | rateGate (station : Fin 96) (slot : Fin 4)
  /-- TICK_CLOSE (R350): An MSR tick closes, and its flow, totals, delay lines and endpoints are updated. -/
  | tickClose
  /-- CLASS_RESULT_ARRIVAL (R353): The final class of a pulse object reaches the MSR and a loss counter increments. -/
  | classResultArrival
  /-- LOSS_GROUP_EMIT (R354): A loss group emits its rate at the end of each sixteenth of WINDOW. -/
  | lossGroupEmit (group : Fin 4)
  /-- CLOSE (R355): A write to MSR_CMD.CLOSE closes the step at the end of the tick. -/
  | close
  /-- TOT_CLR (R359): A write to MSR_CMD.TOT_CLR zeroes both totals. -/
  | totClr
  /-- LOSS_CLR (R353): A write to MSR_CMD.LOSS_CLR zeroes every loss counter. -/
  | lossClr
  /-- LOOP_SAMPLE (R375): At each grid instant a loop shapes its set-point, computes the PID output, limits it and back-calculates. -/
  | loopSample (loop : Fin 64)
  /-- DEBOUNCED_CHANGE (R397): A new raw input level has held for DEBOUNCE and becomes the debounced state. -/
  | debouncedChange (ch : Fin 48) (level : Bool) (held : Nat)
  /-- INPUT_REPEAT (R397): An input's state is repeated on its endpoint every 100 ms. -/
  | inputRepeat (ch : Fin 48)
  /-- WIRE_BREAK (R398): The input current stays below 0.2 mA for 10 ms and WIRE_BREAK latches. -/
  | wireBreak (ch : Fin 48) (current : Nat)
  /-- OVER_CURRENT (R400): An output stays in current limit for OC_TIME, turns off and latches OVER_CURRENT. -/
  | overCurrent (ch : Fin 48)
  /-- SWITCH_THERMAL_SHUTDOWN (R401): A switch reaches 170 °C, turns off and latches THERMAL. -/
  | switchThermalShutdown (ch : Fin 48)
  /-- THERMAL_RETRY (R401): A switch cools to 160 °C and turns on again if it is still commanded on. -/
  | thermalRetry (ch : Fin 48)
  /-- OPEN_LOAD (R402): The on-state or off-state open-load condition holds for 1 ms and OPEN_LOAD latches. -/
  | openLoad (ch : Fin 48) (current : Nat)
  /-- SHORT_VS (R403): An off pin stays above 6.0 V for 100 µs and the channel latches SHORT_VS. -/
  | shortVs (ch : Fin 48)
  /-- UNDER_VOLTAGE (R407): A bank stays below 14.0 V for 20 µs and its outputs turn off and latch. -/
  | underVoltage (bank : Fin 6) (volt : Nat)
  /-- BANK_RESTORE (R407): A bank stays above 16.0 V for 10 ms after a trip and restores under UV_RESTORE. -/
  | bankRestore (bank : Fin 6) (volt : Nat)
  /-- BANK_WARN (R407): A bank supply crosses 18.0 V downward or 19.0 V upward and WARN sets or clears. -/
  | bankWarn (bank : Fin 6) (volt : Nat)
  /-- TIME_PROPORTIONING_PERIOD (R405): A time-proportioning period starts and the channel is on for its fraction. -/
  | timeProportioningPeriod (ch : Fin 48)
  /-- FAULT_CLEAR (R408): A W1C write to a cause register clears latched causes and may release an output. -/
  | faultClear (die : Fin 2) (cause : Fin 6) (value : Word)
  /-- OPEN_WIRE (R410): A current output falls short by more than 0.5 mA for 10 ms. -/
  | openWire (aout : Fin 8) (rb : Nat)
  /-- OVERLOAD (R410): A voltage output is off by more than 1 % for 10 ms. -/
  | overload (aout : Fin 8) (rb : Nat)
  /-- FAN_UPDATE (R421): Every CTRL_MS a fan controller updates its speed loop and applied drive. -/
  | fanUpdate (fan : Fin 8)
  /-- TACH_EDGE (R418): A tach falling edge is timed and the speed updated. -/
  | tachEdge (fan : Fin 8)
  /-- PRONK_END (R422): A pronk or watch ends on MIN_RPM or after PRONK_MS. -/
  | pronkEnd (fan : Fin 8)
  /-- STALL_OFF_END (R423): A stall-off period ends and a retry pronk starts. -/
  | stallOffEnd (fan : Fin 8)
  /-- TACH_LOST (R424): A running fan sees no tach edge for three intervals and tach loss or a failed start follows. -/
  | tachLost (fan : Fin 8)
  /-- PRONK (R422): A write to FAN_CMD.PRONK starts a test pronk. -/
  | pronk (mask : BitVec 8)
  /-- LEARN (R425): A write to FAN_CMD.LEARN starts baseline learning. -/
  | learn (mask : BitVec 8)
  /-- LEARN_HOLD_END (R425): A learning hold ends and its mean speed is stored. -/
  | learnHoldEnd (fan : Fin 8)
  /-- STALL_LATCHED_CLEAR (R423): A write of 1 to STALL_LATCHED releases the latch. -/
  | stallLatchedClear (fan : Fin 8)
  /-- TACH_LOST_CLEAR (R424): A write of 1 to TACH_LOST clears it and the channel continues. -/
  | tachLostClear (fan : Fin 8)
  /-- SENSOR_SAMPLE (R429): A thermal sensor sample is judged for failure, and its group's warning, level and shutdown are updated. -/
  | sensorSample (sensor : Fin 32) (raw : BitVec 16) (bad : Bool)
  /-- HOLD_EXPIRY (R429): A group's value has stayed below the lower threshold for HOLD_S and its level falls. -/
  | holdExpiry (group : Fin 4)
  /-- FLOOR_EXPIRY (R430): A level floor set by a sensor failure ends after HOLD_S. -/
  | floorExpiry (group : Fin 4)
  /-- GRACE_END (R431): A requested level's grace period ends and it is enforced. -/
  | graceEnd
  /-- ACCEPT (R431): A write to THM_CTRL.ACCEPT enforces the requested level at once. -/
  | accept
  /-- SENSFAIL_CLEAR (R428): A W1C write to THM_SENSFAIL clears a failure and the sensor is judged afresh. -/
  | sensfailClear (value : Word)
  /-- FRAME_RECEIVED (R448): A CAN controller receives a valid frame, filters it and takes its signals. -/
  | frameReceived (ctrl : Fin 4) (frame : CanFrame) (ago : Nat)
  /-- PROTOCOL_EXCEPTION (R439): A protocol exception is counted and the controller enters bus integration. -/
  | protocolException (ctrl : Fin 4)
  /-- FRAME_LOAD (R452): At the start of arbitration the best eligible transmit buffer is loaded. -/
  | frameLoad (ctrl : Fin 4)
  /-- TX_DONE (R452): A frame is sent and acknowledged, and TIME and RESULT are written. -/
  | txDone (ctrl : Fin 4) (ago : Nat) (delay : Nat)
  /-- ARBITRATION_LOST (R451): A frame loses arbitration and the choice is made afresh. -/
  | arbitrationLost (ctrl : Fin 4)
  /-- ERROR_FRAME (R457): An error frame is sent or detected and the error counters and state change. -/
  | errorFrame (ctrl : Fin 4) (tx : Bool) (code : Fin 7) (extra : Nat)
  /-- CAN_TXGO (R451): A write to CAN_TXGO makes a transmit buffer pending. -/
  | canTxgo (buf : Fin 512)
  /-- CAN_TXCANCEL (R455): A write to CAN_TXCANCEL cancels a pending buffer, or waits if its frame has begun. -/
  | canTxcancel (buf : Fin 512)
  /-- CAN_LOCKCLR (R450): A write to CAN_LOCKCLR releases a buffer lock and leaves the buffer full. -/
  | canLockclr (buf : Fin 512)
  /-- BUFFER_LOCK (R450): A host read of word 0 of a full receive buffer locks it. -/
  | bufferLock (buf : Fin 512)
  /-- BUFFER_RELEASE (R450): A host read of a locked buffer's release word empties it. -/
  | bufferRelease (buf : Fin 512)
  /-- LOCK_TIMEOUT (R450): A lock held longer than LOCK_TIMEOUT is released and counted. -/
  | lockTimeout (buf : Fin 512)
  /-- AT_MISSED (R453): LATE_WINDOW passes with no attempt begun and the buffer takes AT_MISSED. -/
  | atMissed (buf : Fin 512)
  /-- PERIODIC_REQUEST (R456): A TXBUF period instant requests its buffer, or counts a skip. -/
  | periodicRequest (buf : Fin 512)
  /-- RECOVER (R458): A write to CAN_CTRLn.RECOVER begins bus-off recovery. -/
  | recover (ctrl : Fin 4)
  /-- RECOVERED (R458): 128 occurrences of 11 recessive bits complete recovery. -/
  | recovered (ctrl : Fin 4)
  /-- CONTROLLER_ENABLE (R459): A write to CAN_CTRLn.EN or MODE stops or restarts a controller at the next bus idle. -/
  | controllerEnable (ctrl : Fin 4) (value : Word)
  /-- ABD_DWELL_TIMEOUT (R461): ABD_DWELL passes without a valid frame and detection moves to the next set. -/
  | abdDwellTimeout (ctrl : Fin 4)
  /-- ETH_FRAME_RECEIVE (R471): A MAC receives a frame and dispatches it by EtherType. -/
  | ethFrameReceive (mac : Fin 2) (frame : List Nat) (fcsOk : Bool) (ago : Nat)
  /-- TRANSMIT_POST (R472): A write to ETH_TXWRm posts transmit descriptors. -/
  | transmitPost (mac : Fin 2) (value : Word)
  /-- TRANSMIT_COMPLETE (R472): A frame is sent and its descriptor completes. -/
  | transmitComplete (mac : Fin 2)
  /-- MDIO_TRANSACTION (R470): A write to ETH_MDIO starts a PHY management transaction. -/
  | mdioTransaction (value : Word)
  /-- MDIO_COMPLETE (R470): An MDIO transaction ends and BUSY falls. -/
  | mdioComplete (data : BitVec 16)
  /-- SYNC_SEND (R474): As grandmaster or port master the device sends Sync and peer-delay messages. -/
  | syncSend
  /-- GATE_CONTROL_INTERVAL (R475): A gate control list interval ends and the next entry's gate states apply. -/
  | gateControlInterval (mac : Fin 2)
  /-- ANNOUNCE (R476): Every second the device sends an announce frame. -/
  | announce
  /-- HANDOFF_FLUSH (R480): A handoff frame is queued when it holds 13 entries or FLUSH_US after its first entry. -/
  | handoffFlush (channel : Fin 8)
  /-- HANDOFF_FRAME (R481): A received handoff frame is validated and its entries are tested for the import queue. -/
  | handoffFrame
  /-- HEARTBEAT (R485): Every 2 µs each device sends a heartbeat on the tie link. -/
  | heartbeat
  /-- TIE_MESSAGE (R485): A tie-link message is received, checked and acted on. -/
  | tieMessage (message : List Nat) (lat : BitVec 16)
  /-- OUTPUT_MESSAGE (R485): The primary sends its output commands every 1 ms and on change. -/
  | outputMessage
  /-- ALIVE_OUT_TOGGLE (R486): ALIVE_OUT toggles at each microsecond boundary. -/
  | aliveOutToggle
  /-- ROLE_DECISION (R487): After WAIT_MS the device becomes primary or standby. -/
  | roleDecision
  /-- PRIMARY_LOST (R491): Heartbeats are missed for 6.5 µs and the standby judges whether the primary is lost. -/
  | primaryLost
  /-- SWITCHOVER (R493): A write to PAIR_CTRL.SWITCHOVER hands control to the standby at an agreed boundary. -/
  | switchover
  /-- SCRUB_READ (R509): A region's scrubber reads its next word. -/
  | scrubRead (region : Fin 7)
  /-- LEAK (R504): Every 2^LEAK_K µs a region's bucket level falls by 1. -/
  | leak (region : Fin 7)
  /-- MEM_INIT (R506): A write to MEM_INIT marks regions initialised. -/
  | memInit (value : Word)
  /-- NV_COMMAND (R518): A write to MEM_NV_CMD queues one host MRAM word, or is refused. -/
  | nvCommand (value : Word)
  /-- NV_WORD_COMPLETE (R517): The NV controller completes an MRAM word and starts the next by priority. -/
  | nvWordComplete
  /-- REPAIR (R522): A write to MEM_REPAIR starts a field-repair fuse burn, or is refused. -/
  | repair (value : Word)
  /-- REPAIRDONE (R522): A fuse burn ends with its result. -/
  | repairdone (good : Bool)
  /-- SERIES_SAMPLE (R525): Each second the recorder bins one sample of each series and updates the extremes. -/
  | seriesSample (vddc : Nat)
  /-- PERIODIC_FLUSH (R533): FLUSH_S seconds after the last periodic flush a flush record is written. -/
  | periodicFlush
  /-- PFAIL (R533): PFAIL falls after 1 s high and a PFAIL flush starts. -/
  | pfail
  /-- FLUSH (R533): A write to REC_CMD.FLUSH starts a host flush. -/
  | flush
  /-- FLUSH_COMPLETE (R531): The last word of a flush is written and the record is read back. -/
  | flushComplete
  /-- DUMP (R542): A write to REC_CMD.DUMP sends every valid ring record and the live store on DMA channel 4. -/
  | dump
  /-- CLEAR (R542): A write of REC_CMD.CLEAR with the key zeroes the bins, extremes and REC_MISSED. -/
  | clear (key : BitVec 16)
  /-- OPERATING_TIME_TICK (R528): Operating time advances by one tick each 36 s while powered. -/
  | operatingTimeTick
  /-- WINDOW_READ (R540): A read of the last recorder window word advances REC_CURSOR.POS by 256. -/
  | windowRead
  /-- ETH_LINK_CHANGE (R494): An SGMII link goes up or down, ETH_STATm.LINK and SPEED change and LINKm is raised. -/
  | ethLinkChange (mac : Fin 2) (up : Bool) (speed : Fin 3)
  /-- BUS_INTEGRATION_COMPLETE (R459): A CAN controller in state integrating sees the bus idle and becomes error-active. -/
  | busIntegrationComplete (ctrl : Fin 4)
  /-- FIELD_DIE_SUPPLY_LOSS (R395): A loss of VDD_Fn resets the field die's configuration, safe states and standby registers, so that on return every channel is an input with outputs off until configured. -/
  | fieldDieSupplyLoss (die : Fin 2)
  /-- WIRE_INTACT (R398): An input's current lies between 0.3 mA and 1.5 mA for 10 ms, and WB clears. -/
  | wireIntact (ch : Fin 48) (current : Nat)
  /-- REF_OK_CHANGE (R329): A die's internal reference leaves or returns to its tolerance, AFE_STAT.REF_OK changes, and REF is raised on the fall. -/
  | refOkChange (die : Fin 2) (good : Bool)
  /-- PFAIL_RISE (R533): PFAIL rises and starts the 1 s high time that a later fall needs before it counts. -/
  | pfailRise
  /-- ALIVE_IN_EDGE (R491): An edge on the partner's ALIVE_IN pin is noted, and PAIR_STAT.ALIVE is kept up to date. -/
  | aliveInEdge
  deriving DecidableEq, Repr

end Sys2Proof
end

