-- ==== Sys2Proof/Decode.lean ====
section
/-! DEFINITION. The commands that a table word spells. No row of spec/opcode_table.json gives bits, so no word
spells one (a block has no decoder and no encoder). -/

namespace Sys2Proof

/-- The command that an `nbits`-bit word `w` spells by the table's bits: none. -/
def decodeTableWord (_nbits _w : Nat) : Option Instr := none

end Sys2Proof
end

