-- ==== Sys2Proof/Config.lean ====
section
/-! DEFINITION. The free values: what the spec leaves open although the machine goes on. Each is an opaque
constant with no body, so that a claim holds whatever it is (assumption log 4 and the rows it names). -/

namespace Sys2Proof

/-- A byte of SRAM that nothing has written since power-on number `epoch` (R505: arbitrary but stable). -/
opaque Config.sramByte : Nat → Nat → Byte

/-- Flipped bits (0 to 3) of an SRAM word that nothing has written since power-on number `epoch` (R505). -/
opaque Config.sramFlips : Nat → Nat → Nat

/-- A byte of MRAM outside the image slots and pointer copies before anything has written it (R516 is
silent on the rest). -/
opaque Config.mramByte : Nat → Byte

/-- A fresh value that the spec leaves open, by use `site` and serial number. -/
opaque Config.free : Nat → Nat → Nat

/-- arctangent of y over x as binary32 codes, by binary32 operands (the spec names no rounding error). -/
opaque Config.atan2 : Nat → Nat → Nat

/-- sine of a binary64 code. -/
opaque Config.sin64 : Nat → Nat

/-- cosine of a binary64 code. -/
opaque Config.cos64 : Nat → Nat

/-- exponential of a binary64 code. -/
opaque Config.exp64 : Nat → Nat

end Sys2Proof
end

