-- ==== Sys2Proof/Machine/Operands.lean ====
section
/-! DEFINITION. Operand forms: bit fields, two's complement, saturation, fixed point (R16, R17), CRC-32C,
little-endian words (R12) and the binary32 and binary64 arithmetic of R18, all on plain data. -/

namespace Sys2Proof.Machine

/-- Bits `hi` down to `lo` of `v`. -/
def bitsOf (v hi lo : Nat) : Nat := v / 2 ^ lo % 2 ^ (hi + 1 - lo)

/-- `v` with bits `hi` down to `lo` replaced by the low bits of `x`. -/
def setBits (v hi lo x : Nat) : Nat :=
  v - bitsOf v hi lo * 2 ^ lo + x % 2 ^ (hi + 1 - lo) * 2 ^ lo

/-- Bit `i` of `v`. -/
def bitAt (v i : Nat) : Bool := v / 2 ^ i % 2 == 1

/-- 1 for true, 0 for false. -/
def b2n (b : Bool) : Nat := if b then 1 else 0

/-- `v` with bit `i` set to `b`. -/
def setBit (v i : Nat) (b : Bool) : Nat := setBits v i i (b2n b)

/-- The two's complement value of a `w`-bit field. -/
def sint (w v : Nat) : Int :=
  let x := v % 2 ^ w
  if x < 2 ^ (w - 1) then (x : Int) else (x : Int) - (2 ^ w : Nat)

/-- The `w`-bit two's complement code of an integer. -/
def ucode (w : Nat) (i : Int) : Nat := (i % ((2 ^ w : Nat) : Int)).toNat

/-- `i` limited to `lo … hi`. -/
def limI (lo hi i : Int) : Int := if i < lo then lo else if hi < i then hi else i

/-- `i` limited to the range of a signed `w`-bit field. -/
def satS (w : Nat) (i : Int) : Int := limI (-(2 ^ (w - 1) : Nat)) ((2 ^ (w - 1) : Nat) - 1) i

/-- `n` limited to `lo … hi`. -/
def limN (lo hi n : Nat) : Nat := if n < lo then lo else if hi < n then hi else n

/-- `a + n`, saturating at `w` bits (the saturating counters of R14's RC fields). -/
def satAdd (w a n : Nat) : Nat := min (a + n) (2 ^ w - 1)

/-- Little-endian bytes of `v`, `n` of them (R12). -/
def leBytes : Nat → Nat → List Nat
  | 0, _ => []
  | n + 1, v => v % 256 :: leBytes n (v / 256)

/-- The number that little-endian bytes spell. -/
def leNat : List Nat → Nat
  | [] => 0
  | b :: t => b % 256 + 256 * leNat t

/-- `n` items of `l` from position `i`; short when `l` ends. -/
def slice {α : Type} (l : List α) (i n : Nat) : List α := (l.drop i).take n

/-- Little-endian field of `n` bytes at byte offset `i` of a byte string. -/
def leAt (l : List Nat) (i n : Nat) : Nat := leNat (slice l i n)

/-- Big-endian number of bytes (fields that a published standard defines, R12). -/
def beNat (l : List Nat) : Nat := l.foldl (fun a b => a * 256 + b % 256) 0

/-- Eight CRC shift steps on the reflected polynomial `poly`. -/
def crcStep (poly : Nat) : Nat → Nat → Nat
  | 0, c => c
  | k + 1, c => crcStep poly k (if c % 2 == 1 then (c / 2) ^^^ poly else c / 2)

/-- CRC over bytes with a reflected 32-bit polynomial, start and final value all ones. -/
def crc32Of (poly : Nat) (l : List Nat) : Nat :=
  (l.foldl (fun c b => crcStep poly 8 (c ^^^ (b % 256))) 0xFFFFFFFF) ^^^ 0xFFFFFFFF

/-- CRC-32C (Castagnoli), the code of images, frames and chain links. -/
def crc32c (l : List Nat) : Nat := crc32Of 0x82F63B78 l

/-- CRC-16-CCITT style register over bytes, most significant bit first. -/
def crc16Bits (poly : Nat) : Nat → Nat → Nat
  | 0, c => c
  | k + 1, c => crc16Bits poly k (if bitAt c 15 then ((c * 2) % 65536) ^^^ poly else (c * 2) % 65536)

/-- Replace item `i` of a list; unchanged past the end. -/
def listSet {α : Type} : List α → Nat → α → List α
  | [], _, _ => []
  | _ :: t, 0, v => v :: t
  | x :: t, n + 1, v => x :: listSet t n v

/-- Item `i` of a list, `d` past the end. -/
def listAt {α : Type} (l : List α) (i : Nat) (d : α) : α := (l[i]?).getD d

/-- Keep the newest `n` of a list whose newest item is last. -/
def keepLast {α : Type} (n : Nat) (l : List α) : List α := l.drop (l.length - n)

/-- Has a multiple of the period `p` been passed between two times? -/
def periodPassed (last now p : Nat) : Bool := decide (last / p < now / p)

/-! ## Floating point (R18) -/

/-- A floating-point datum: not a number, an infinity, or `±m × 2^e` exactly. -/
inductive FV where
  | nan
  | inf (neg : Bool)
  | fin (neg : Bool) (m : Nat) (e : Int)
  deriving DecidableEq, Repr

/-- A format: precision in bits and least normal exponent (of the leading bit), greatest exponent, and
whether results below the least normal are flushed (R18) rather than kept as subnormals. -/
structure FFmt where
  p : Nat
  emin : Int
  emax : Int
  flush : Bool
  deriving DecidableEq, Repr

/-- binary32 with R18's rules. -/
def f32 : FFmt := ⟨24, -126, 127, true⟩

/-- binary64, the format of the internal computations that the chapters name. -/
def f64 : FFmt := ⟨53, -1022, 1023, false⟩

/-- Positive zero. -/
def FV.zero : FV := .fin false 0 0

/-- The dyadic `±m × 2^e`, with `sticky` when the true magnitude lies strictly between `m × 2^e` and
`(m + 1) × 2^e`, rounded to nearest, ties to even, keeping bits of weight `2^q` and above. -/
def roundAt (m : Nat) (e q : Int) (sticky : Bool) : Nat × Int :=
  if q ≤ e then (m * 2 ^ (e - q).toNat, q)
  else
    let k := (q - e).toNat
    let hi := m / 2 ^ k
    let lo := m % 2 ^ k
    let half := 2 ^ (k - 1)
    let up := half < lo || (lo == half && (sticky || hi % 2 == 1))
    (if up then hi + 1 else hi, q)

/-- Round a dyadic to format `f` (R18 for binary32: unbounded exponent first, then flush). -/
def roundF (f : FFmt) (neg : Bool) (m : Nat) (e : Int) (sticky : Bool) : FV :=
  if m = 0 && !sticky then .fin neg 0 0
  else
    let lead : Int := (m.log2 : Int) + e
    let q0 : Int := lead + 1 - f.p
    let q : Int := if !f.flush && q0 < f.emin + 1 - f.p then f.emin + 1 - f.p else q0
    let r := roundAt m e q sticky
    if r.1 = 0 then .fin neg 0 0
    else
      let lead' : Int := (r.1.log2 : Int) + r.2
      if f.emax < lead' then .inf neg
      else if f.flush && lead' < f.emin then .fin neg 0 0
      else .fin neg r.1 r.2

/-- Round an exact datum to a format. -/
def FV.rnd (f : FFmt) : FV → FV
  | .nan => .nan
  | .inf s => .inf s
  | .fin s m e => roundF f s m e false

/-- Bring a dyadic to exponent `q ≤ e`. -/
def alignTo (m : Nat) (e q : Int) : Nat := m * 2 ^ (e - q).toNat

/-- Exact sum. -/
def FV.addX : FV → FV → FV
  | .nan, _ => .nan
  | _, .nan => .nan
  | .inf a, .inf b => if a == b then .inf a else .nan
  | .inf a, _ => .inf a
  | _, .inf b => .inf b
  | .fin a m e, .fin b n g =>
    let q := min e g
    let x : Int := if a then -(alignTo m e q : Int) else alignTo m e q
    let y : Int := if b then -(alignTo n g q : Int) else alignTo n g q
    let z := x + y
    if z = 0 then .fin (a && b) 0 0 else .fin (decide (z < 0)) z.natAbs q

/-- Sign change. -/
def FV.neg : FV → FV
  | .nan => .nan
  | .inf a => .inf (!a)
  | .fin a m e => .fin (!a) m e

/-- Magnitude. -/
def FV.abs : FV → FV
  | .nan => .nan
  | .inf _ => .inf false
  | .fin _ m e => .fin false m e

/-- Exact product. -/
def FV.mulX : FV → FV → FV
  | .nan, _ => .nan
  | _, .nan => .nan
  | .inf a, .inf b => .inf (a != b)
  | .inf a, .fin b m _ => if m = 0 then .nan else .inf (a != b)
  | .fin b m _, .inf a => if m = 0 then .nan else .inf (a != b)
  | .fin a m e, .fin b n g => if m * n = 0 then .fin (a != b) 0 0 else .fin (a != b) (m * n) (e + g)

/-- Sum, rounded to `f`. -/
def FV.add (f : FFmt) (x y : FV) : FV := (x.addX y).rnd f

/-- Difference, rounded to `f`. -/
def FV.sub (f : FFmt) (x y : FV) : FV := (x.addX y.neg).rnd f

/-- Product, rounded to `f`. -/
def FV.mul (f : FFmt) (x y : FV) : FV := (x.mulX y).rnd f

/-- Quotient, rounded once to `f`. -/
def FV.div (f : FFmt) : FV → FV → FV
  | .nan, _ => .nan
  | _, .nan => .nan
  | .inf _, .inf _ => .nan
  | .inf a, .fin b _ _ => .inf (a != b)
  | .fin a _ _, .inf b => .fin (a != b) 0 0
  | .fin a m e, .fin b n g =>
    if n = 0 then (if m = 0 then .nan else .inf (a != b))
    else
      let k := f.p + 3 + n.log2
      let x := m * 2 ^ k
      roundF f (a != b) (x / n) (e - g - k) (x % n != 0)

/-- Integer square root by bisection on the bits, `k` bits to find. -/
def isqrtGo (n : Nat) : Nat → Nat → Nat
  | 0, r => r
  | k + 1, r =>
    let c := r + 2 ^ k
    isqrtGo n k (if c * c ≤ n then c else r)

/-- Floor of the square root. -/
def isqrt (n : Nat) : Nat := isqrtGo n (n.log2 / 2 + 1) 0

/-- Square root, rounded once to `f`. -/
def FV.sqrt (f : FFmt) : FV → FV
  | .nan => .nan
  | .inf a => if a then .nan else .inf false
  | .fin a m e =>
    if m = 0 then .fin a 0 0
    else if a then .nan
    else
      let k : Nat := 2 * f.p + 4 + (if (e % 2 = 0) then 0 else 1)
      let x := m * 2 ^ k
      let r := isqrt x
      roundF f false r ((e - k) / 2) (r * r != x)

/-- Strict order; false when either is not a number. -/
def FV.lt (x y : FV) : Bool :=
  match x, y with
  | .nan, _ => false
  | _, .nan => false
  | .inf a, .inf b => a && !b
  | .inf a, .fin _ _ _ => a
  | .fin _ _ _, .inf b => !b
  | .fin a m e, .fin b n g =>
    let q := min e g
    let u : Int := if a then -(alignTo m e q : Int) else alignTo m e q
    let v : Int := if b then -(alignTo n g q : Int) else alignTo n g q
    decide (u < v)

/-- Equality of values (zeros of both signs are equal); false when either is not a number. -/
def FV.eqv (x y : FV) : Bool :=
  match x, y with
  | .nan, _ => false
  | _, .nan => false
  | x, y => !(x.lt y) && !(y.lt x)

/-- Less or equal. -/
def FV.le (x y : FV) : Bool := x.lt y || x.eqv y

/-- Is it not a number? -/
def FV.isNaN : FV → Bool
  | .nan => true
  | _ => false

/-- Is it finite? -/
def FV.isFin : FV → Bool
  | .fin _ _ _ => true
  | _ => false

/-- The lesser of two numbers (the first on a tie or a NaN in the second). -/
def FV.minV (x y : FV) : FV := if y.lt x then y else x

/-- The greater of two numbers. -/
def FV.maxV (x y : FV) : FV := if x.lt y then y else x

/-- Limit to `lo … hi`. -/
def FV.lim (lo hi x : FV) : FV := if x.lt lo then lo else if hi.lt x then hi else x

/-- An integer, exactly. -/
def FV.ofInt (i : Int) : FV := .fin (decide (i < 0)) i.natAbs 0

/-- The decimal `n / 10^d`, rounded to `f` (for the constants the chapters write). -/
def FV.dec (f : FFmt) (n : Int) (d : Nat) : FV := (FV.ofInt n).div f (FV.ofInt (10 ^ d : Nat))

/-- Floor; 0 for a datum that is not finite. -/
def FV.floorI : FV → Int
  | .fin a m e =>
    let v : Int := if a then -(m : Int) else m
    if 0 ≤ e then v * (2 ^ e.toNat : Nat) else v / ((2 ^ (-e).toNat : Nat) : Int)
  | _ => 0

/-- Nearest integer, ties to even; 0 for a datum that is not finite. -/
def FV.roundI : FV → Int
  | .fin a m e =>
    let r := roundAt m e 0 false
    let v := r.1 * 2 ^ r.2.toNat
    if a then -(v : Int) else v
  | _ => 0

/-- The datum of a binary32 code; subnormals are flushed to zero of the same sign (R18). -/
def ofB32 (w : Nat) : FV :=
  let s := bitAt w 31
  let x := bitsOf w 30 23
  let m := bitsOf w 22 0
  if x = 255 then (if m = 0 then .inf s else .nan)
  else if x = 0 then .fin s 0 0
  else .fin s (m + 2 ^ 23) ((x : Int) - 150)

/-- The quiet NaN code that device-produced binary32 values use. -/
def qNaN32 : Nat := 0x7FC00000

/-- The binary32 code of a datum, rounded under R18. -/
def toB32 (v : FV) : Nat :=
  match v.rnd f32 with
  | .nan => qNaN32
  | .inf s => (if s then 2 ^ 31 else 0) + 0x7F800000
  | .fin s m e =>
    let sb := if s then 2 ^ 31 else 0
    if m = 0 then sb
    else
      let l := m.log2
      let mant := if l ≤ 23 then m * 2 ^ (23 - l) else m / 2 ^ (l - 23)
      sb + ((l : Int) + e + 127).toNat * 2 ^ 23 + (mant - 2 ^ 23)

/-- The datum of a binary64 code. -/
def ofB64 (w : Nat) : FV :=
  let s := bitAt w 63
  let x := bitsOf w 62 52
  let m := bitsOf w 51 0
  if x = 2047 then (if m = 0 then .inf s else .nan)
  else if x = 0 then .fin s m (-1074)
  else .fin s (m + 2 ^ 52) ((x : Int) - 1075)

/-- The binary64 code of a datum. -/
def toB64 (v : FV) : Nat :=
  match v.rnd f64 with
  | .nan => 0x7FF8000000000000
  | .inf s => (if s then 2 ^ 63 else 0) + 0x7FF0000000000000
  | .fin s m e =>
    let sb := if s then 2 ^ 63 else 0
    if m = 0 then sb
    else
      let l := m.log2
      let ex : Int := (l : Int) + e
      if ex < -1022 then sb + (if e ≤ -1074 then m / 2 ^ (-1074 - e).toNat else m * 2 ^ (e + 1074).toNat)
      else
        let mant := if l ≤ 52 then m * 2 ^ (52 - l) else m / 2 ^ (l - 52)
        sb + (ex + 1023).toNat * 2 ^ 52 + (mant - 2 ^ 52)

end Sys2Proof.Machine
end

