-- ==== Sys2Proof/Machine/Assoc.lean ====
section
/-! DEFINITION. Finite maps by number, as lists with strictly rising keys: the machine's tables of like
things of which most are absent (open stakes, live records, elements, pending items). -/

namespace Sys2Proof.Machine

/-- The item at key `k`, if there is one. -/
def assocGet {α : Type} : List (Nat × α) → Nat → Option α
  | [], _ => none
  | (b, w) :: t, k => if k = b then some w else assocGet t k

/-- Put `v` at key `k`, keeping the keys rising. -/
def assocPut {α : Type} : List (Nat × α) → Nat → α → List (Nat × α)
  | [], k, v => [(k, v)]
  | (b, w) :: t, k, v =>
    if k < b then (k, v) :: (b, w) :: t else if k = b then (k, v) :: t else (b, w) :: assocPut t k v

/-- Remove key `k`. -/
def assocDel {α : Type} (l : List (Nat × α)) (k : Nat) : List (Nat × α) := l.filter (fun p => p.1 != k)

/-- The item at key `k`, or `d`. -/
def assocGetD {α : Type} (l : List (Nat × α)) (k : Nat) (d : α) : α := (assocGet l k).getD d

/-- Apply `f` to item `i` of a list. -/
def listMod {α : Type} : List α → Nat → (α → α) → List α
  | [], _, _ => []
  | x :: t, 0, f => f x :: t
  | x :: t, n + 1, f => x :: listMod t n f

end Sys2Proof.Machine
end

