-- ==== Sys2Proof/Machine/Cells.lean ====
section
/-! DEFINITION. Sparse stores in one canonical form: a list of (key, value) pairs with strictly rising
keys, no entry equal to the value that an unlisted key reads as. Registers and memory are such
stores. -/

namespace Sys2Proof.Machine

/-- The value at key `a`; an unlisted key reads `d a`. -/
def cellGet {α : Type} (d : Nat → α) : List (Nat × α) → Nat → α
  | [], a => d a
  | (b, w) :: t, a => if a = b then w else cellGet d t a

/-- The store without key `a`. -/
def cellDel {α : Type} (l : List (Nat × α)) (a : Nat) : List (Nat × α) := l.filter (fun p => p.1 != a)

/-- Store `v` at key `a`; storing the value an unlisted key reads as removes the entry. -/
def cellPut {α : Type} [DecidableEq α] (d : Nat → α) : List (Nat × α) → Nat → α → List (Nat × α)
  | [], a, v => if v = d a then [] else [(a, v)]
  | (b, w) :: t, a, v =>
    if a < b then (if v = d a then cellDel ((b, w) :: t) a else (a, v) :: (b, w) :: t)
    else if a = b then (if v = d a then cellDel t a else (a, v) :: t)
    else (b, w) :: cellPut d t a v

/-- The canonical form above lower bound `lo` (every key is at least `lo`). -/
def cellWfFrom {α : Type} [DecidableEq α] (d : Nat → α) : Nat → List (Nat × α) → Bool
  | _, [] => true
  | lo, (b, w) :: t => decide (lo ≤ b) && decide (w ≠ d b) && cellWfFrom d (b + 1) t

/-- The canonical form of a store. -/
def cellWf {α : Type} [DecidableEq α] (d : Nat → α) (l : List (Nat × α)) : Bool := cellWfFrom d 0 l

end Sys2Proof.Machine
end

