-- ==== Sys2Proof/Machine/RegMap.lean ====
section
/-! DEFINITION. The register map: every register the chapters of spec/ lay out, its BAR0 address (R60,
R61: window n at n × 0x1_0000), its instances, and its fields with access type (R14) and reset value.
A reset value the spec gives as "From image", "Fused", "From MRAM" or not at all stands here as 0; the
operations that load an image, fuses or MRAM write it (assumption log 2). -/

namespace Sys2Proof.Machine

/-- Register access types (R14). -/
inductive Acc where
  | ro | rw | w1c | w1s | rc | wo | rwh
  deriving DecidableEq, Repr

/-- A field's place: the address of instance (i, j) is `base + stride × i + stride2 × j`, with `count` instances i and
`count2` instances j. -/
structure Fld where
  base : Nat
  stride : Nat
  count : Nat
  stride2 : Nat
  count2 : Nat
  hi : Nat
  lo : Nat
  deriving DecidableEq, Repr

/-- A field's row of the map. -/
structure FldRow where
  hi : Nat
  lo : Nat
  acc : Acc
  reset : Nat
  deriving DecidableEq, Repr

/-- A register's row of the map. -/
structure RegRow where
  base : Nat
  stride : Nat
  count : Nat
  stride2 : Nat
  count2 : Nat
  fields : List FldRow
  deriving DecidableEq, Repr

/-- The address of an instance of a field's register. There is no instance past the last: numbers count modulo the
instances, so that no operation leaves the registers of its field. -/
def Fld.addr (f : Fld) (i j : Nat) : Nat := f.base + f.stride * (i % f.count) + f.stride2 * (j % f.count2)

/-- Does the row hold the register at address `a`? -/
def RegRow.holds (r : RegRow) (a : Nat) : Bool :=
  decide (r.base ≤ a) &&
    (List.range r.count2).any (fun j =>
      let b := r.base + r.stride2 * j
      decide (b ≤ a) && decide (a ≤ b + r.stride * (r.count - 1)) &&
        (if r.stride = 0 then decide (a = b) else (a - b) % r.stride == 0))

/-! ## spec/00_scope.md -/

def SYS_UNITS_VARIANT : Fld := ⟨0x8, 0x0, 1, 0x0, 1, 31, 24⟩
def SYS_UNITS_TIE : Fld := ⟨0x8, 0x0, 1, 0x0, 1, 6, 6⟩
def SYS_UNITS_ETH1 : Fld := ⟨0x8, 0x0, 1, 0x0, 1, 5, 5⟩
def SYS_UNITS_FLD1 : Fld := ⟨0x8, 0x0, 1, 0x0, 1, 4, 4⟩
def SYS_UNITS_FIX : Fld := ⟨0x8, 0x0, 1, 0x0, 1, 3, 3⟩
def SYS_UNITS_GNS : Fld := ⟨0x8, 0x0, 1, 0x0, 1, 2, 2⟩
def SYS_UNITS_TRN : Fld := ⟨0x8, 0x0, 1, 0x0, 1, 1, 1⟩
def SYS_UNITS_PIX : Fld := ⟨0x8, 0x0, 1, 0x0, 1, 0, 0⟩
def SYS_ABSENT_WR_COUNT : Fld := ⟨0xc, 0x0, 1, 0x0, 1, 31, 0⟩
def SYS_ABSENT_ADDR_ADDR : Fld := ⟨0x10, 0x0, 1, 0x0, 1, 31, 0⟩

/-- The registers of spec/00_scope.md. -/
def regRows00 : List RegRow :=
  [⟨0x8, 0x4, 1, 0x0, 1, [⟨31, 24, .ro, 0x0⟩, ⟨6, 6, .ro, 0x0⟩, ⟨5, 5, .ro, 0x0⟩, ⟨4, 4, .ro, 0x0⟩, ⟨3, 3, .ro, 0x0⟩, ⟨2, 2, .ro, 0x0⟩, ⟨1, 1, .ro, 0x0⟩, ⟨0, 0, .ro, 0x0⟩]⟩,
   ⟨0xc, 0x4, 1, 0x0, 1, [⟨31, 0, .rc, 0x0⟩]⟩,
   ⟨0x10, 0x4, 1, 0x0, 1, [⟨31, 0, .ro, 0x0⟩]⟩]

/-! ## spec/01_architecture.md -/

def CHN_CTRL_RESUME : Fld := ⟨0x190000, 0x100, 2, 0x0, 1, 31, 31⟩
def CHN_CTRL_AUTO_RESUME : Fld := ⟨0x190000, 0x100, 2, 0x0, 1, 16, 16⟩
def CHN_CTRL_TIMEOUT : Fld := ⟨0x190000, 0x100, 2, 0x0, 1, 9, 0⟩
def CHN_STAT_AGE : Fld := ⟨0x190004, 0x100, 2, 0x0, 1, 15, 8⟩
def CHN_STAT_SAFE : Fld := ⟨0x190004, 0x100, 2, 0x0, 1, 3, 3⟩
def CHN_STAT_LOST : Fld := ⟨0x190004, 0x100, 2, 0x0, 1, 2, 2⟩
def CHN_STAT_TRAINED : Fld := ⟨0x190004, 0x100, 2, 0x0, 1, 1, 1⟩
def CHN_STAT_PRESENT : Fld := ⟨0x190004, 0x100, 2, 0x0, 1, 0, 0⟩
def CHN_ERR_CRC : Fld := ⟨0x190008, 0x100, 2, 0x0, 1, 31, 16⟩
def CHN_ERR_SEQ : Fld := ⟨0x190008, 0x100, 2, 0x0, 1, 15, 0⟩
def CHN_RESET_LINK : Fld := ⟨0x190200, 0x0, 1, 0x0, 1, 1, 0⟩
def CLK_STAT_FSTEP : Fld := ⟨0x10000, 0x0, 1, 0x0, 1, 7, 6⟩
def CLK_STAT_FBUSY : Fld := ⟨0x10000, 0x0, 1, 0x0, 1, 5, 5⟩
def CLK_STAT_LOCKC : Fld := ⟨0x10000, 0x0, 1, 0x0, 1, 2, 2⟩
def CLK_STAT_LOCKB : Fld := ⟨0x10000, 0x0, 1, 0x0, 1, 1, 1⟩
def CLK_STAT_LOCKA : Fld := ⟨0x10000, 0x0, 1, 0x0, 1, 0, 0⟩
def SYS_XDROP_LAST : Fld := ⟨0x14, 0x0, 1, 0x0, 1, 31, 24⟩
def SYS_XDROP_COUNT : Fld := ⟨0x14, 0x0, 1, 0x0, 1, 23, 0⟩

/-- The registers of spec/01_architecture.md. -/
def regRows01 : List RegRow :=
  [⟨0x190000, 0x100, 2, 0x0, 1, [⟨31, 31, .wo, 0x0⟩, ⟨16, 16, .rw, 0x0⟩, ⟨9, 0, .rw, 0x64⟩]⟩,
   ⟨0x190004, 0x100, 2, 0x0, 1, [⟨15, 8, .ro, 0xff⟩, ⟨3, 3, .ro, 0x1⟩, ⟨2, 2, .ro, 0x1⟩, ⟨1, 1, .ro, 0x0⟩, ⟨0, 0, .ro, 0x0⟩]⟩,
   ⟨0x190008, 0x100, 2, 0x0, 1, [⟨31, 16, .rc, 0x0⟩, ⟨15, 0, .rc, 0x0⟩]⟩,
   ⟨0x190200, 0x4, 1, 0x0, 1, [⟨1, 0, .wo, 0x0⟩]⟩,
   ⟨0x10000, 0x4, 1, 0x0, 1, [⟨7, 6, .ro, 0x0⟩, ⟨5, 5, .ro, 0x0⟩, ⟨2, 2, .ro, 0x0⟩, ⟨1, 1, .ro, 0x0⟩, ⟨0, 0, .ro, 0x0⟩]⟩,
   ⟨0x14, 0x4, 1, 0x0, 1, [⟨31, 24, .ro, 0x0⟩, ⟨23, 0, .rc, 0x0⟩]⟩]

/-! ## spec/02_host_and_reset.md -/

def SYS_EVT_SUM_UNIT : Fld := ⟨0x18, 0x0, 1, 0x0, 1, 31, 0⟩
def HST_DMA_POST_INDEX : Fld := ⟨0x30100, 0x4, 8, 0x0, 1, 7, 0⟩
def HST_DMA_STAT_STALLED : Fld := ⟨0x30120, 0x4, 8, 0x0, 1, 16, 16⟩
def HST_DMA_STAT_QUEUED : Fld := ⟨0x30120, 0x4, 8, 0x0, 1, 8, 0⟩
def HST_DMA_STALL_COUNT : Fld := ⟨0x30140, 0x4, 8, 0x0, 1, 31, 0⟩
def HST_DMA_ERR_LAST : Fld := ⟨0x30160, 0x0, 1, 0x0, 1, 31, 24⟩
def HST_DMA_ERR_COUNT : Fld := ⟨0x30160, 0x0, 1, 0x0, 1, 23, 0⟩
def HST_SPI_ERR_LAST : Fld := ⟨0x30020, 0x0, 1, 0x0, 1, 31, 24⟩
def HST_SPI_ERR_COUNT : Fld := ⟨0x30020, 0x0, 1, 0x0, 1, 15, 0⟩
def HST_KICK_KEY : Fld := ⟨0x30000, 0x0, 1, 0x0, 1, 31, 0⟩
def HST_WD_PERIOD : Fld := ⟨0x30004, 0x0, 1, 0x0, 1, 15, 0⟩
def HST_LOST_EXPIRED : Fld := ⟨0x30008, 0x0, 1, 0x0, 1, 31, 16⟩
def HST_LOST_BADKEY : Fld := ⟨0x30008, 0x0, 1, 0x0, 1, 15, 8⟩
def HST_LOST_KICKED : Fld := ⟨0x30008, 0x0, 1, 0x0, 1, 1, 1⟩
def HST_LOST_LOST : Fld := ⟨0x30008, 0x0, 1, 0x0, 1, 0, 0⟩
def PWR_LAT_LAT : Fld := ⟨0x40000, 0x4, 12, 0x0, 1, 31, 0⟩
def PWR_STATE_BURST : Fld := ⟨0x40040, 0x0, 1, 0x0, 1, 24, 24⟩
def PWR_STATE_Gnn : Fld := ⟨0x40040, 0x0, 1, 0x0, 1, 23, 0⟩
def SYS_RESET_KEY : Fld := ⟨0x20, 0x0, 1, 0x0, 1, 15, 0⟩
def SYS_URESET_UNIT : Fld := ⟨0x24, 0x0, 1, 0x0, 1, 31, 0⟩
def SYS_RCAUSE_THERMAL : Fld := ⟨0x28, 0x0, 1, 0x0, 1, 5, 5⟩
def SYS_RCAUSE_SOFT : Fld := ⟨0x28, 0x0, 1, 0x0, 1, 4, 4⟩
def SYS_RCAUSE_RSTN : Fld := ⟨0x28, 0x0, 1, 0x0, 1, 3, 3⟩
def SYS_RCAUSE_SUPV : Fld := ⟨0x28, 0x0, 1, 0x0, 1, 2, 2⟩
def SYS_RCAUSE_PORN : Fld := ⟨0x28, 0x0, 1, 0x0, 1, 1, 1⟩
def SYS_RCAUSE_AON : Fld := ⟨0x28, 0x0, 1, 0x0, 1, 0, 0⟩
def SYS_STATE_IMGCRC : Fld := ⟨0x1c, 0x0, 1, 0x0, 1, 31, 16⟩
def SYS_STATE_STATE : Fld := ⟨0x1c, 0x0, 1, 0x0, 1, 3, 0⟩
def UNIT_EVT_EVT : Fld := ⟨0xf00, 0x10000, 32, 0x0, 1, 31, 0⟩
def UNIT_EVT_EN_EN : Fld := ⟨0xf04, 0x10000, 32, 0x0, 1, 31, 0⟩
def UNIT_EVT_VEC_VEC3 : Fld := ⟨0xf08, 0x4, 8, 0x10000, 32, 29, 24⟩
def UNIT_EVT_VEC_VEC2 : Fld := ⟨0xf08, 0x4, 8, 0x10000, 32, 21, 16⟩
def UNIT_EVT_VEC_VEC1 : Fld := ⟨0xf08, 0x4, 8, 0x10000, 32, 13, 8⟩
def UNIT_EVT_VEC_VEC0 : Fld := ⟨0xf08, 0x4, 8, 0x10000, 32, 5, 0⟩
def HST_DMA_POOL_WORD : Fld := ⟨0x38000, 0x4, 2048, 0x0, 1, 31, 0⟩

/-- The registers of spec/02_host_and_reset.md. -/
def regRows02 : List RegRow :=
  [⟨0x18, 0x4, 1, 0x0, 1, [⟨31, 0, .ro, 0x0⟩]⟩,
   ⟨0x30100, 0x4, 8, 0x0, 1, [⟨7, 0, .wo, 0x0⟩]⟩,
   ⟨0x30120, 0x4, 8, 0x0, 1, [⟨16, 16, .ro, 0x0⟩, ⟨8, 0, .ro, 0x0⟩]⟩,
   ⟨0x30140, 0x4, 8, 0x0, 1, [⟨31, 0, .rc, 0x0⟩]⟩,
   ⟨0x30160, 0x4, 1, 0x0, 1, [⟨31, 24, .ro, 0x0⟩, ⟨23, 0, .rc, 0x0⟩]⟩,
   ⟨0x30020, 0x4, 1, 0x0, 1, [⟨31, 24, .ro, 0x0⟩, ⟨15, 0, .rc, 0x0⟩]⟩,
   ⟨0x30000, 0x4, 1, 0x0, 1, [⟨31, 0, .wo, 0x0⟩]⟩,
   ⟨0x30004, 0x4, 1, 0x0, 1, [⟨15, 0, .rw, 0x0⟩]⟩,
   ⟨0x30008, 0x4, 1, 0x0, 1, [⟨31, 16, .ro, 0x0⟩, ⟨15, 8, .rc, 0x0⟩, ⟨1, 1, .ro, 0x0⟩, ⟨0, 0, .w1c, 0x0⟩]⟩,
   ⟨0x40000, 0x4, 12, 0x0, 1, [⟨31, 0, .rw, 0x0⟩]⟩,
   ⟨0x40040, 0x4, 1, 0x0, 1, [⟨24, 24, .ro, 0x0⟩, ⟨23, 0, .ro, 0x0⟩]⟩,
   ⟨0x20, 0x4, 1, 0x0, 1, [⟨15, 0, .wo, 0x0⟩]⟩,
   ⟨0x24, 0x4, 1, 0x0, 1, [⟨31, 0, .w1s, 0x0⟩]⟩,
   ⟨0x28, 0x4, 1, 0x0, 1, [⟨5, 5, .w1c, 0x0⟩, ⟨4, 4, .w1c, 0x0⟩, ⟨3, 3, .w1c, 0x0⟩, ⟨2, 2, .w1c, 0x0⟩, ⟨1, 1, .w1c, 0x0⟩, ⟨0, 0, .w1c, 0x1⟩]⟩,
   ⟨0x1c, 0x4, 1, 0x0, 1, [⟨31, 16, .ro, 0x0⟩, ⟨3, 0, .ro, 0x2⟩]⟩,
   ⟨0xf00, 0x10000, 32, 0x0, 1, [⟨31, 0, .w1c, 0x0⟩]⟩,
   ⟨0xf04, 0x10000, 32, 0x0, 1, [⟨31, 0, .rw, 0x0⟩]⟩,
   ⟨0xf08, 0x4, 8, 0x10000, 32, [⟨29, 24, .rw, 0x0⟩, ⟨21, 16, .rw, 0x0⟩, ⟨13, 8, .rw, 0x0⟩, ⟨5, 0, .rw, 0x0⟩]⟩,
   ⟨0x38000, 0x4, 2048, 0x0, 1, [⟨31, 0, .rw, 0x0⟩]⟩]

/-! ## spec/03_plat_image.md -/

def PLAT_CMD_KEY : Fld := ⟨0x50000, 0x0, 1, 0x0, 1, 31, 16⟩
def PLAT_CMD_OP : Fld := ⟨0x50000, 0x0, 1, 0x0, 1, 3, 0⟩
def PLAT_SRC_ADDR : Fld := ⟨0x50004, 0x0, 1, 0x0, 1, 31, 0⟩
def PLAT_LEN_LEN : Fld := ⟨0x50008, 0x0, 1, 0x0, 1, 31, 0⟩
def PLAT_STAT_SECURE : Fld := ⟨0x5000c, 0x0, 1, 0x0, 1, 31, 31⟩
def PLAT_STAT_FALLBACK : Fld := ⟨0x5000c, 0x0, 1, 0x0, 1, 30, 30⟩
def PLAT_STAT_SOURCE : Fld := ⟨0x5000c, 0x0, 1, 0x0, 1, 29, 28⟩
def PLAT_STAT_RESULT : Fld := ⟨0x5000c, 0x0, 1, 0x0, 1, 7, 4⟩
def PLAT_STAT_PHASE : Fld := ⟨0x5000c, 0x0, 1, 0x0, 1, 3, 1⟩
def PLAT_STAT_BUSY : Fld := ⟨0x5000c, 0x0, 1, 0x0, 1, 0, 0⟩
def PLAT_SEQ_COMMITTED : Fld := ⟨0x50010, 0x0, 1, 0x0, 1, 31, 16⟩
def PLAT_SEQ_LAST : Fld := ⟨0x50010, 0x0, 1, 0x0, 1, 15, 0⟩
def PLAT_SUM_REJECTS : Fld := ⟨0x50014, 0x0, 1, 0x0, 1, 31, 24⟩
def PLAT_SUM_DROPS : Fld := ⟨0x50014, 0x0, 1, 0x0, 1, 23, 16⟩
def PLAT_SUM_CLAMPS : Fld := ⟨0x50014, 0x0, 1, 0x0, 1, 15, 8⟩
def PLAT_SUM_INFO : Fld := ⟨0x50014, 0x0, 1, 0x0, 1, 7, 0⟩
def PLAT_REPORT_COUNT_COUNT : Fld := ⟨0x50018, 0x0, 1, 0x0, 1, 31, 0⟩
def PLAT_REPORT_PAGE_PAGE : Fld := ⟨0x5001c, 0x0, 1, 0x0, 1, 3, 0⟩
def PLAT_BOOT_GEN : Fld := ⟨0x50020, 0x0, 1, 0x0, 1, 31, 8⟩
def PLAT_BOOT_ODD : Fld := ⟨0x50020, 0x0, 1, 0x0, 1, 4, 4⟩
def PLAT_BOOT_B_OK : Fld := ⟨0x50020, 0x0, 1, 0x0, 1, 3, 3⟩
def PLAT_BOOT_A_OK : Fld := ⟨0x50020, 0x0, 1, 0x0, 1, 2, 2⟩
def PLAT_BOOT_SPLIT : Fld := ⟨0x50020, 0x0, 1, 0x0, 1, 1, 1⟩
def PLAT_BOOT_SLOT : Fld := ⟨0x50020, 0x0, 1, 0x0, 1, 0, 0⟩
def PLAT_AMEND_STAT_APPLIED : Fld := ⟨0x50024, 0x0, 1, 0x0, 1, 31, 16⟩
def PLAT_AMEND_STAT_PENDING : Fld := ⟨0x50024, 0x0, 1, 0x0, 1, 10, 0⟩
def PLAT_CMDERR_LAST : Fld := ⟨0x50028, 0x0, 1, 0x0, 1, 31, 24⟩
def PLAT_CMDERR_COUNT : Fld := ⟨0x50028, 0x0, 1, 0x0, 1, 23, 0⟩
def PLAT_IMAGEID_ID : Fld := ⟨0x5002c, 0x0, 1, 0x0, 1, 31, 0⟩
def PLAT_REPORT_WINDOW_ENTRY : Fld := ⟨0x51000, 0x4, 1024, 0x0, 1, 31, 0⟩

/-- The registers of spec/03_plat_image.md. -/
def regRows03 : List RegRow :=
  [⟨0x50000, 0x4, 1, 0x0, 1, [⟨31, 16, .wo, 0x0⟩, ⟨3, 0, .wo, 0x0⟩]⟩,
   ⟨0x50004, 0x4, 1, 0x0, 1, [⟨31, 0, .rw, 0x1000000⟩]⟩,
   ⟨0x50008, 0x4, 1, 0x0, 1, [⟨31, 0, .rw, 0x0⟩]⟩,
   ⟨0x5000c, 0x4, 1, 0x0, 1, [⟨31, 31, .ro, 0x0⟩, ⟨30, 30, .ro, 0x0⟩, ⟨29, 28, .ro, 0x0⟩, ⟨7, 4, .ro, 0x0⟩, ⟨3, 1, .ro, 0x0⟩, ⟨0, 0, .ro, 0x0⟩]⟩,
   ⟨0x50010, 0x4, 1, 0x0, 1, [⟨31, 16, .ro, 0x0⟩, ⟨15, 0, .ro, 0x0⟩]⟩,
   ⟨0x50014, 0x4, 1, 0x0, 1, [⟨31, 24, .ro, 0x0⟩, ⟨23, 16, .ro, 0x0⟩, ⟨15, 8, .ro, 0x0⟩, ⟨7, 0, .ro, 0x0⟩]⟩,
   ⟨0x50018, 0x4, 1, 0x0, 1, [⟨31, 0, .ro, 0x0⟩]⟩,
   ⟨0x5001c, 0x4, 1, 0x0, 1, [⟨3, 0, .rw, 0x0⟩]⟩,
   ⟨0x50020, 0x4, 1, 0x0, 1, [⟨31, 8, .ro, 0x0⟩, ⟨4, 4, .ro, 0x0⟩, ⟨3, 3, .ro, 0x0⟩, ⟨2, 2, .ro, 0x0⟩, ⟨1, 1, .ro, 0x0⟩, ⟨0, 0, .ro, 0x0⟩]⟩,
   ⟨0x50024, 0x4, 1, 0x0, 1, [⟨31, 16, .ro, 0x0⟩, ⟨10, 0, .ro, 0x0⟩]⟩,
   ⟨0x50028, 0x4, 1, 0x0, 1, [⟨31, 24, .ro, 0x0⟩, ⟨23, 0, .rc, 0x0⟩]⟩,
   ⟨0x5002c, 0x4, 1, 0x0, 1, [⟨31, 0, .ro, 0x0⟩]⟩,
   ⟨0x51000, 0x4, 1024, 0x0, 1, [⟨31, 0, .ro, 0x0⟩]⟩]

/-! ## spec/04_time_and_gnss.md -/

def TIME_NOW_LO_NOW : Fld := ⟨0x20000, 0x0, 1, 0x0, 1, 31, 0⟩
def TIME_NOW_HI_NOW : Fld := ⟨0x20004, 0x0, 1, 0x0, 1, 31, 0⟩
def TIME_RATE_ADJ : Fld := ⟨0x20008, 0x0, 1, 0x0, 1, 31, 0⟩
def TIME_HREF_LO_HREF : Fld := ⟨0x20028, 0x0, 1, 0x0, 1, 31, 0⟩
def TIME_HREF_HI_HREF : Fld := ⟨0x2002c, 0x0, 1, 0x0, 1, 31, 0⟩
def TIME_DATUM_HREF_ERR : Fld := ⟨0x20010, 0x0, 1, 0x0, 1, 31, 28⟩
def TIME_DATUM_ACTIVE : Fld := ⟨0x20010, 0x0, 1, 0x0, 1, 15, 12⟩
def TIME_DATUM_CANDIDATE : Fld := ⟨0x20010, 0x0, 1, 0x0, 1, 11, 8⟩
def TIME_DATUM_SPOOF : Fld := ⟨0x20010, 0x0, 1, 0x0, 1, 4, 4⟩
def TIME_DATUM_STEP_WAIT : Fld := ⟨0x20010, 0x0, 1, 0x0, 1, 3, 3⟩
def TIME_DATUM_SLEWING : Fld := ⟨0x20010, 0x0, 1, 0x0, 1, 2, 2⟩
def TIME_DATUM_STATE : Fld := ⟨0x20010, 0x0, 1, 0x0, 1, 1, 0⟩
def TIME_UNC_NS : Fld := ⟨0x20014, 0x0, 1, 0x0, 1, 31, 0⟩
def TIME_OFFSET_NS : Fld := ⟨0x20018, 0x0, 1, 0x0, 1, 31, 0⟩
def TIME_CTRL_STEP_NOW : Fld := ⟨0x2000c, 0x0, 1, 0x0, 1, 2, 2⟩
def TIME_CTRL_FORCE_HOLD : Fld := ⟨0x2000c, 0x0, 1, 0x0, 1, 1, 1⟩
def TIME_CTRL_STEP_EN : Fld := ⟨0x2000c, 0x0, 1, 0x0, 1, 0, 0⟩
def TIME_SLEW_LIMIT : Fld := ⟨0x2001c, 0x0, 1, 0x0, 1, 15, 0⟩
def TIME_STEP_THR_NS : Fld := ⟨0x20020, 0x0, 1, 0x0, 1, 31, 0⟩
def TIME_UTC_VALID : Fld := ⟨0x20040, 0x0, 1, 0x0, 1, 31, 31⟩
def TIME_UTC_LEAP : Fld := ⟨0x20040, 0x0, 1, 0x0, 1, 9, 8⟩
def TIME_UTC_OFFSET : Fld := ⟨0x20040, 0x0, 1, 0x0, 1, 7, 0⟩
def GNS_CH_STATE : Fld := ⟨0x1a1000, 0x4, 96, 0x0, 1, 31, 30⟩
def GNS_CH_SPOOF : Fld := ⟨0x1a1000, 0x4, 96, 0x0, 1, 29, 29⟩
def GNS_CH_FALSE : Fld := ⟨0x1a1000, 0x4, 96, 0x0, 1, 28, 28⟩
def GNS_CH_EXCL : Fld := ⟨0x1a1000, 0x4, 96, 0x0, 1, 27, 27⟩
def GNS_CH_PHASE : Fld := ⟨0x1a1000, 0x4, 96, 0x0, 1, 26, 26⟩
def GNS_CH_SIGNAL : Fld := ⟨0x1a1000, 0x4, 96, 0x0, 1, 25, 23⟩
def GNS_CH_SYSTEM : Fld := ⟨0x1a1000, 0x4, 96, 0x0, 1, 22, 21⟩
def GNS_CH_SVID : Fld := ⟨0x1a1000, 0x4, 96, 0x0, 1, 20, 13⟩
def GNS_CH_CN0 : Fld := ⟨0x1a1000, 0x4, 96, 0x0, 1, 7, 0⟩
def GNS_ELEV_ELEV : Fld := ⟨0x1a1200, 0x4, 96, 0x0, 1, 7, 0⟩
def GNS_STAT_JAM_B : Fld := ⟨0x1a0004, 0x0, 1, 0x0, 1, 31, 24⟩
def GNS_STAT_JAM_A : Fld := ⟨0x1a0004, 0x0, 1, 0x0, 1, 23, 16⟩
def GNS_STAT_NOTCH_B : Fld := ⟨0x1a0004, 0x0, 1, 0x0, 1, 15, 14⟩
def GNS_STAT_NOTCH_A : Fld := ⟨0x1a0004, 0x0, 1, 0x0, 1, 13, 12⟩
def GNS_STAT_WAITING : Fld := ⟨0x1a0004, 0x0, 1, 0x0, 1, 11, 7⟩
def GNS_STAT_TRACKED : Fld := ⟨0x1a0004, 0x0, 1, 0x0, 1, 6, 0⟩
def GNS_NOTCH_B : Fld := ⟨0x1a0008, 0x0, 1, 0x0, 1, 7, 4⟩
def GNS_NOTCH_A : Fld := ⟨0x1a0008, 0x0, 1, 0x0, 1, 3, 0⟩
def GNS_SNAP_GO : Fld := ⟨0x1a0030, 0x0, 1, 0x0, 1, 31, 31⟩
def GNS_SNAP_DMA : Fld := ⟨0x1a0030, 0x0, 1, 0x0, 1, 30, 30⟩
def GNS_SNAP_START : Fld := ⟨0x1a0030, 0x0, 1, 0x0, 1, 29, 28⟩
def GNS_SNAP_PIN : Fld := ⟨0x1a0030, 0x0, 1, 0x0, 1, 27, 22⟩
def GNS_SNAP_LEN : Fld := ⟨0x1a0030, 0x0, 1, 0x0, 1, 15, 8⟩
def GNS_SNAP_GSB : Fld := ⟨0x1a0030, 0x0, 1, 0x0, 1, 1, 1⟩
def GNS_SNAP_GSA : Fld := ⟨0x1a0030, 0x0, 1, 0x0, 1, 0, 0⟩
def GNS_SNAP_ADDR_ADDR : Fld := ⟨0x1a0034, 0x0, 1, 0x0, 1, 31, 0⟩
def GNS_SNAP_AT_LO_AT : Fld := ⟨0x1a0038, 0x0, 1, 0x0, 1, 31, 0⟩
def GNS_SNAP_AT_HI_AT : Fld := ⟨0x1a003c, 0x0, 1, 0x0, 1, 31, 0⟩
def GNS_RAW_DROP_COUNT : Fld := ⟨0x1a0040, 0x0, 1, 0x0, 1, 31, 0⟩
def FIX_INJ_COMMIT_GO : Fld := ⟨0x1b0240, 0x0, 1, 0x0, 1, 0, 0⟩
def FIX_INJ_ERR_LAST : Fld := ⟨0x1b0244, 0x0, 1, 0x0, 1, 31, 24⟩
def FIX_INJ_ERR_COUNT : Fld := ⟨0x1b0244, 0x0, 1, 0x0, 1, 23, 0⟩
def FIX_OUT_WORD : Fld := ⟨0x1b0100, 0x4, 25, 0x0, 1, 31, 0⟩
def FIX_INJ_WORD : Fld := ⟨0x1b0200, 0x4, 14, 0x0, 1, 31, 0⟩

/-- The registers of spec/04_time_and_gnss.md. -/
def regRows04 : List RegRow :=
  [⟨0x20000, 0x4, 1, 0x0, 1, [⟨31, 0, .ro, 0x0⟩]⟩,
   ⟨0x20004, 0x4, 1, 0x0, 1, [⟨31, 0, .ro, 0x0⟩]⟩,
   ⟨0x20008, 0x4, 1, 0x0, 1, [⟨31, 0, .rwh, 0x0⟩]⟩,
   ⟨0x20028, 0x4, 1, 0x0, 1, [⟨31, 0, .rw, 0x0⟩]⟩,
   ⟨0x2002c, 0x4, 1, 0x0, 1, [⟨31, 0, .rw, 0x0⟩]⟩,
   ⟨0x20010, 0x4, 1, 0x0, 1, [⟨31, 28, .rc, 0x0⟩, ⟨15, 12, .ro, 0x0⟩, ⟨11, 8, .ro, 0x0⟩, ⟨4, 4, .ro, 0x0⟩, ⟨3, 3, .ro, 0x0⟩, ⟨2, 2, .ro, 0x0⟩, ⟨1, 0, .ro, 0x0⟩]⟩,
   ⟨0x20014, 0x4, 1, 0x0, 1, [⟨31, 0, .ro, 0xffffffff⟩]⟩,
   ⟨0x20018, 0x4, 1, 0x0, 1, [⟨31, 0, .ro, 0x0⟩]⟩,
   ⟨0x2000c, 0x4, 1, 0x0, 1, [⟨2, 2, .w1s, 0x0⟩, ⟨1, 1, .rw, 0x0⟩, ⟨0, 0, .rw, 0x0⟩]⟩,
   ⟨0x2001c, 0x4, 1, 0x0, 1, [⟨15, 0, .rw, 0x0⟩]⟩,
   ⟨0x20020, 0x4, 1, 0x0, 1, [⟨31, 0, .rw, 0x0⟩]⟩,
   ⟨0x20040, 0x4, 1, 0x0, 1, [⟨31, 31, .ro, 0x0⟩, ⟨9, 8, .rwh, 0x0⟩, ⟨7, 0, .rwh, 0x25⟩]⟩,
   ⟨0x1a1000, 0x4, 96, 0x0, 1, [⟨31, 30, .ro, 0x0⟩, ⟨29, 29, .ro, 0x0⟩, ⟨28, 28, .ro, 0x0⟩, ⟨27, 27, .ro, 0x0⟩, ⟨26, 26, .ro, 0x0⟩, ⟨25, 23, .ro, 0x0⟩, ⟨22, 21, .ro, 0x0⟩, ⟨20, 13, .ro, 0x0⟩, ⟨7, 0, .ro, 0x0⟩]⟩,
   ⟨0x1a1200, 0x4, 96, 0x0, 1, [⟨7, 0, .ro, 0x80⟩]⟩,
   ⟨0x1a0004, 0x4, 1, 0x0, 1, [⟨31, 24, .ro, 0x0⟩, ⟨23, 16, .ro, 0x0⟩, ⟨15, 14, .ro, 0x0⟩, ⟨13, 12, .ro, 0x0⟩, ⟨11, 7, .ro, 0x0⟩, ⟨6, 0, .ro, 0x0⟩]⟩,
   ⟨0x1a0008, 0x4, 1, 0x0, 1, [⟨7, 4, .ro, 0x0⟩, ⟨3, 0, .ro, 0x0⟩]⟩,
   ⟨0x1a0030, 0x4, 1, 0x0, 1, [⟨31, 31, .w1s, 0x0⟩, ⟨30, 30, .rw, 0x0⟩, ⟨29, 28, .rw, 0x0⟩, ⟨27, 22, .rw, 0x0⟩, ⟨15, 8, .rw, 0x14⟩, ⟨1, 1, .rw, 0x0⟩, ⟨0, 0, .rw, 0x1⟩]⟩,
   ⟨0x1a0034, 0x4, 1, 0x0, 1, [⟨31, 0, .rw, 0x1400000⟩]⟩,
   ⟨0x1a0038, 0x4, 1, 0x0, 1, [⟨31, 0, .rw, 0x0⟩]⟩,
   ⟨0x1a003c, 0x4, 1, 0x0, 1, [⟨31, 0, .rw, 0x0⟩]⟩,
   ⟨0x1a0040, 0x4, 1, 0x0, 1, [⟨31, 0, .rc, 0x0⟩]⟩,
   ⟨0x1b0240, 0x4, 1, 0x0, 1, [⟨0, 0, .wo, 0x0⟩]⟩,
   ⟨0x1b0244, 0x4, 1, 0x0, 1, [⟨31, 24, .ro, 0x0⟩, ⟨23, 0, .rc, 0x0⟩]⟩,
   ⟨0x1b0100, 0x4, 25, 0x0, 1, [⟨31, 0, .ro, 0x0⟩]⟩,
   ⟨0x1b0200, 0x4, 14, 0x0, 1, [⟨31, 0, .rw, 0x0⟩]⟩]

/-! ## spec/05_pixel_transits.md -/

def PIX_CTRL_EN : Fld := ⟨0xe0000, 0x100, 2, 0x0, 1, 0, 0⟩
def PIX_STAT_VC_SEEN : Fld := ⟨0xe0004, 0x100, 2, 0x0, 1, 23, 20⟩
def PIX_STAT_ULPS : Fld := ⟨0xe0004, 0x100, 2, 0x0, 1, 19, 16⟩
def PIX_STAT_STOP : Fld := ⟨0xe0004, 0x100, 2, 0x0, 1, 15, 12⟩
def PIX_STAT_SKEW_DONE : Fld := ⟨0xe0004, 0x100, 2, 0x0, 1, 1, 1⟩
def PIX_STAT_CLK_HS : Fld := ⟨0xe0004, 0x100, 2, 0x0, 1, 0, 0⟩
def PIX_ERR_HDR : Fld := ⟨0xe0008, 0x100, 2, 0x0, 1, 31, 24⟩
def PIX_ERR_CRC : Fld := ⟨0xe0008, 0x100, 2, 0x0, 1, 23, 16⟩
def PIX_ERR_DT : Fld := ⟨0xe0008, 0x100, 2, 0x0, 1, 15, 8⟩
def PIX_ERR_SOT : Fld := ⟨0xe0008, 0x100, 2, 0x0, 1, 7, 0⟩
def PIX_ECC1_COUNT : Fld := ⟨0xe000c, 0x100, 2, 0x0, 1, 31, 0⟩
def PIX_LINES_COUNT : Fld := ⟨0xe0010, 0x100, 2, 0x0, 1, 31, 0⟩
def TRN_CTRL_RESYNC : Fld := ⟨0xf0000, 0x100, 8, 0x0, 1, 31, 31⟩
def TRN_CTRL_BANK : Fld := ⟨0xf0000, 0x100, 8, 0x0, 1, 1, 1⟩
def TRN_CTRL_EN : Fld := ⟨0xf0000, 0x100, 8, 0x0, 1, 0, 0⟩
def TRN_STAT_DECIM : Fld := ⟨0xf0004, 0x100, 8, 0x0, 1, 31, 28⟩
def TRN_STAT_ALIGNED : Fld := ⟨0xf0004, 0x100, 8, 0x0, 1, 27, 27⟩
def TRN_STAT_BANK : Fld := ⟨0xf0004, 0x100, 8, 0x0, 1, 26, 26⟩
def TRN_STAT_TRGQ : Fld := ⟨0xf0004, 0x100, 8, 0x0, 1, 25, 21⟩
def TRN_STAT_OPEN : Fld := ⟨0xf0004, 0x100, 8, 0x0, 1, 11, 0⟩
def TRN_LINE_LINE : Fld := ⟨0xf0008, 0x100, 8, 0x0, 1, 31, 0⟩
def TRN_OBJ_COUNT : Fld := ⟨0xf000c, 0x100, 8, 0x0, 1, 31, 0⟩
def TRN_LOSS_LINEDROP : Fld := ⟨0xf0010, 0x100, 8, 0x0, 1, 31, 24⟩
def TRN_LOSS_BANDERR : Fld := ⟨0xf0010, 0x100, 8, 0x0, 1, 23, 16⟩
def TRN_LOSS_LENERR : Fld := ⟨0xf0010, 0x100, 8, 0x0, 1, 15, 8⟩
def TRN_LOSS_OBJDROP : Fld := ⟨0xf0010, 0x100, 8, 0x0, 1, 7, 0⟩
def TRN_TRG_MISS : Fld := ⟨0xf0014, 0x100, 8, 0x0, 1, 31, 20⟩
def TRN_TRG_SLIP : Fld := ⟨0xf0014, 0x100, 8, 0x0, 1, 19, 8⟩
def TRN_TRG_OVER : Fld := ⟨0xf0014, 0x100, 8, 0x0, 1, 7, 0⟩
def TRN_BIG_OVERFLOW : Fld := ⟨0xf0018, 0x100, 8, 0x0, 1, 31, 16⟩
def TRN_BIG_OVERSIZE : Fld := ⟨0xf0018, 0x100, 8, 0x0, 1, 15, 0⟩
def TRN_UE_COUNT : Fld := ⟨0xf001c, 0x100, 8, 0x0, 1, 31, 0⟩
def TRN_SNAP_GO : Fld := ⟨0xf0020, 0x100, 8, 0x0, 1, 31, 31⟩
def TRN_SNAP_CORR : Fld := ⟨0xf0020, 0x100, 8, 0x0, 1, 30, 30⟩
def TRN_SNAP_BANDMASK : Fld := ⟨0xf0020, 0x100, 8, 0x0, 1, 27, 24⟩
def TRN_SNAP_EVERY : Fld := ⟨0xf0020, 0x100, 8, 0x0, 1, 23, 8⟩
def TRN_SNAP_COUNT : Fld := ⟨0xf0020, 0x100, 8, 0x0, 1, 7, 0⟩
def TRN_SNAP_AT_LINE : Fld := ⟨0xf0024, 0x100, 8, 0x0, 1, 31, 0⟩
def TRN_SNAP_SKIP_COUNT : Fld := ⟨0xf0028, 0x100, 8, 0x0, 1, 31, 0⟩

/-- The registers of spec/05_pixel_transits.md. -/
def regRows05 : List RegRow :=
  [⟨0xe0000, 0x100, 2, 0x0, 1, [⟨0, 0, .rw, 0x0⟩]⟩,
   ⟨0xe0004, 0x100, 2, 0x0, 1, [⟨23, 20, .ro, 0x0⟩, ⟨19, 16, .ro, 0x0⟩, ⟨15, 12, .ro, 0xf⟩, ⟨1, 1, .ro, 0x0⟩, ⟨0, 0, .ro, 0x0⟩]⟩,
   ⟨0xe0008, 0x100, 2, 0x0, 1, [⟨31, 24, .rc, 0x0⟩, ⟨23, 16, .rc, 0x0⟩, ⟨15, 8, .rc, 0x0⟩, ⟨7, 0, .rc, 0x0⟩]⟩,
   ⟨0xe000c, 0x100, 2, 0x0, 1, [⟨31, 0, .rc, 0x0⟩]⟩,
   ⟨0xe0010, 0x100, 2, 0x0, 1, [⟨31, 0, .ro, 0x0⟩]⟩,
   ⟨0xf0000, 0x100, 8, 0x0, 1, [⟨31, 31, .wo, 0x0⟩, ⟨1, 1, .rw, 0x0⟩, ⟨0, 0, .rw, 0x0⟩]⟩,
   ⟨0xf0004, 0x100, 8, 0x0, 1, [⟨31, 28, .ro, 0x1⟩, ⟨27, 27, .ro, 0x0⟩, ⟨26, 26, .ro, 0x0⟩, ⟨25, 21, .ro, 0x0⟩, ⟨11, 0, .ro, 0x0⟩]⟩,
   ⟨0xf0008, 0x100, 8, 0x0, 1, [⟨31, 0, .ro, 0x0⟩]⟩,
   ⟨0xf000c, 0x100, 8, 0x0, 1, [⟨31, 0, .ro, 0x0⟩]⟩,
   ⟨0xf0010, 0x100, 8, 0x0, 1, [⟨31, 24, .rc, 0x0⟩, ⟨23, 16, .rc, 0x0⟩, ⟨15, 8, .rc, 0x0⟩, ⟨7, 0, .rc, 0x0⟩]⟩,
   ⟨0xf0014, 0x100, 8, 0x0, 1, [⟨31, 20, .rc, 0x0⟩, ⟨19, 8, .rc, 0x0⟩, ⟨7, 0, .rc, 0x0⟩]⟩,
   ⟨0xf0018, 0x100, 8, 0x0, 1, [⟨31, 16, .rc, 0x0⟩, ⟨15, 0, .rc, 0x0⟩]⟩,
   ⟨0xf001c, 0x100, 8, 0x0, 1, [⟨31, 0, .rc, 0x0⟩]⟩,
   ⟨0xf0020, 0x100, 8, 0x0, 1, [⟨31, 31, .w1s, 0x0⟩, ⟨30, 30, .rw, 0x1⟩, ⟨27, 24, .rw, 0xf⟩, ⟨23, 8, .rw, 0x1⟩, ⟨7, 0, .rw, 0x1⟩]⟩,
   ⟨0xf0024, 0x100, 8, 0x0, 1, [⟨31, 0, .rw, 0xffffffff⟩]⟩,
   ⟨0xf0028, 0x100, 8, 0x0, 1, [⟨31, 0, .rc, 0x0⟩]⟩]

/-! ## spec/06_tally.md -/

def TAL_CTRL_EN : Fld := ⟨0xd0000, 0x0, 1, 0x0, 1, 0, 0⟩
def TAL_EXPORT_MODE : Fld := ⟨0xd0004, 0x0, 1, 0x0, 1, 31, 30⟩
def TAL_EXPORT_EVERY : Fld := ⟨0xd0004, 0x0, 1, 0x0, 1, 15, 0⟩
def TAL_EXPORT_CLS_CLASSES : Fld := ⟨0xd0008, 0x0, 1, 0x0, 1, 15, 0⟩
def TAL_STAT_FULL : Fld := ⟨0xd000c, 0x0, 1, 0x0, 1, 31, 31⟩
def TAL_STAT_EPOCH : Fld := ⟨0xd000c, 0x0, 1, 0x0, 1, 27, 20⟩
def TAL_STAT_LIVE : Fld := ⟨0xd000c, 0x0, 1, 0x0, 1, 19, 0⟩
def TAL_CURSOR_SLOT : Fld := ⟨0xd0010, 0x0, 1, 0x0, 1, 18, 0⟩
def TAL_UNTRACKED_COUNT : Fld := ⟨0xd0014, 0x0, 1, 0x0, 1, 31, 0⟩
def TAL_LATE_DECIDE : Fld := ⟨0xd0018, 0x0, 1, 0x0, 1, 31, 16⟩
def TAL_LATE_STAKE : Fld := ⟨0xd0018, 0x0, 1, 0x0, 1, 15, 0⟩
def TAL_STK_REFUSED : Fld := ⟨0xd001c, 0x0, 1, 0x0, 1, 31, 16⟩
def TAL_STK_DISCARDED : Fld := ⟨0xd001c, 0x0, 1, 0x0, 1, 15, 0⟩
def TAL_PAIR_UNPAIRED : Fld := ⟨0xd0020, 0x0, 1, 0x0, 1, 31, 16⟩
def TAL_PAIR_AMBIG : Fld := ⟨0xd0020, 0x0, 1, 0x0, 1, 15, 0⟩
def TAL_UE_COUNT : Fld := ⟨0xd0024, 0x0, 1, 0x0, 1, 31, 0⟩
def TAL_EXPDROP_COUNT : Fld := ⟨0xd0028, 0x0, 1, 0x0, 1, 31, 0⟩
def TAL_EXPQ_QUEUED : Fld := ⟨0xd002c, 0x0, 1, 0x0, 1, 14, 0⟩
def TAL_OBJ_LO_COUNT : Fld := ⟨0xd0030, 0x0, 1, 0x0, 1, 31, 0⟩
def TAL_OBJ_HI_COUNT : Fld := ⟨0xd0034, 0x0, 1, 0x0, 1, 31, 0⟩
def TAL_EXPSEQ_SEQ : Fld := ⟨0xd0038, 0x0, 1, 0x0, 1, 31, 0⟩

/-- The registers of spec/06_tally.md. -/
def regRows06 : List RegRow :=
  [⟨0xd0000, 0x4, 1, 0x0, 1, [⟨0, 0, .rw, 0x0⟩]⟩,
   ⟨0xd0004, 0x4, 1, 0x0, 1, [⟨31, 30, .rw, 0x0⟩, ⟨15, 0, .rw, 0x0⟩]⟩,
   ⟨0xd0008, 0x4, 1, 0x0, 1, [⟨15, 0, .rw, 0x0⟩]⟩,
   ⟨0xd000c, 0x4, 1, 0x0, 1, [⟨31, 31, .ro, 0x0⟩, ⟨27, 20, .ro, 0x0⟩, ⟨19, 0, .ro, 0x0⟩]⟩,
   ⟨0xd0010, 0x4, 1, 0x0, 1, [⟨18, 0, .ro, 0x0⟩]⟩,
   ⟨0xd0014, 0x4, 1, 0x0, 1, [⟨31, 0, .rc, 0x0⟩]⟩,
   ⟨0xd0018, 0x4, 1, 0x0, 1, [⟨31, 16, .rc, 0x0⟩, ⟨15, 0, .rc, 0x0⟩]⟩,
   ⟨0xd001c, 0x4, 1, 0x0, 1, [⟨31, 16, .rc, 0x0⟩, ⟨15, 0, .rc, 0x0⟩]⟩,
   ⟨0xd0020, 0x4, 1, 0x0, 1, [⟨31, 16, .rc, 0x0⟩, ⟨15, 0, .rc, 0x0⟩]⟩,
   ⟨0xd0024, 0x4, 1, 0x0, 1, [⟨31, 0, .rc, 0x0⟩]⟩,
   ⟨0xd0028, 0x4, 1, 0x0, 1, [⟨31, 0, .rc, 0x0⟩]⟩,
   ⟨0xd002c, 0x4, 1, 0x0, 1, [⟨14, 0, .ro, 0x0⟩]⟩,
   ⟨0xd0030, 0x4, 1, 0x0, 1, [⟨31, 0, .ro, 0x0⟩]⟩,
   ⟨0xd0034, 0x4, 1, 0x0, 1, [⟨31, 0, .ro, 0x0⟩]⟩,
   ⟨0xd0038, 0x4, 1, 0x0, 1, [⟨31, 0, .ro, 0x0⟩]⟩]

/-! ## spec/07_features_classifiers.md -/

def FEA_CTRL_EN : Fld := ⟨0x100000, 0x0, 1, 0x0, 1, 15, 0⟩
def FEA_STAT_BUSY : Fld := ⟨0x100100, 0x4, 16, 0x0, 1, 31, 31⟩
def FEA_STAT_ASSIGNED : Fld := ⟨0x100100, 0x4, 16, 0x0, 1, 30, 30⟩
def FEA_STAT_GROUP : Fld := ⟨0x100100, 0x4, 16, 0x0, 1, 27, 24⟩
def FEA_STAT_QUEUED : Fld := ⟨0x100100, 0x4, 16, 0x0, 1, 5, 0⟩
def FEA_OBJ_COUNT : Fld := ⟨0x100200, 0x4, 16, 0x0, 1, 31, 0⟩
def FEA_SAT_LAST : Fld := ⟨0x100300, 0x0, 1, 0x0, 1, 29, 24⟩
def FEA_SAT_COUNT : Fld := ⟨0x100300, 0x0, 1, 0x0, 1, 23, 0⟩
def FEA_UE_COUNT : Fld := ⟨0x100304, 0x0, 1, 0x0, 1, 31, 0⟩
def CLS_CTRL_EN : Fld := ⟨0x110000, 0x0, 1, 0x0, 1, 15, 0⟩
def CLS_BANK_OLD_BUSY : Fld := ⟨0x110004, 0x0, 1, 0x0, 1, 31, 16⟩
def CLS_BANK_BANK : Fld := ⟨0x110004, 0x0, 1, 0x0, 1, 15, 0⟩
def CLS_STAT_BUSY : Fld := ⟨0x110100, 0x4, 16, 0x0, 1, 31, 31⟩
def CLS_STAT_ASSIGNED : Fld := ⟨0x110100, 0x4, 16, 0x0, 1, 30, 30⟩
def CLS_STAT_BANK : Fld := ⟨0x110100, 0x4, 16, 0x0, 1, 29, 29⟩
def CLS_STAT_GROUP : Fld := ⟨0x110100, 0x4, 16, 0x0, 1, 27, 24⟩
def CLS_STAT_RESERVED : Fld := ⟨0x110100, 0x4, 16, 0x0, 1, 13, 8⟩
def CLS_STAT_QUEUED : Fld := ⟨0x110100, 0x4, 16, 0x0, 1, 5, 0⟩
def CLS_OBJ_COUNT : Fld := ⟨0x110200, 0x4, 16, 0x0, 1, 31, 0⟩
def CLS_UE_COUNT : Fld := ⟨0x110300, 0x0, 1, 0x0, 1, 31, 0⟩
def CLS_TREEERR_GROUP : Fld := ⟨0x110304, 0x0, 1, 0x0, 1, 31, 28⟩
def CLS_TREEERR_COUNT : Fld := ⟨0x110304, 0x0, 1, 0x0, 1, 27, 0⟩
def CLS_DEMOTE_COUNT : Fld := ⟨0x110308, 0x0, 1, 0x0, 1, 31, 0⟩
def CLS_RATE_RATE : Fld := ⟨0x110400, 0x4, 16, 0x0, 1, 31, 0⟩
def CLS_COUNT_COUNT : Fld := ⟨0x111000, 0x4, 256, 0x0, 1, 31, 0⟩

/-- The registers of spec/07_features_classifiers.md. -/
def regRows07 : List RegRow :=
  [⟨0x100000, 0x4, 1, 0x0, 1, [⟨15, 0, .rw, 0x0⟩]⟩,
   ⟨0x100100, 0x4, 16, 0x0, 1, [⟨31, 31, .ro, 0x0⟩, ⟨30, 30, .ro, 0x0⟩, ⟨27, 24, .ro, 0x0⟩, ⟨5, 0, .ro, 0x0⟩]⟩,
   ⟨0x100200, 0x4, 16, 0x0, 1, [⟨31, 0, .ro, 0x0⟩]⟩,
   ⟨0x100300, 0x4, 1, 0x0, 1, [⟨29, 24, .ro, 0x0⟩, ⟨23, 0, .rc, 0x0⟩]⟩,
   ⟨0x100304, 0x4, 1, 0x0, 1, [⟨31, 0, .rc, 0x0⟩]⟩,
   ⟨0x110000, 0x4, 1, 0x0, 1, [⟨15, 0, .rw, 0x0⟩]⟩,
   ⟨0x110004, 0x4, 1, 0x0, 1, [⟨31, 16, .ro, 0x0⟩, ⟨15, 0, .rw, 0x0⟩]⟩,
   ⟨0x110100, 0x4, 16, 0x0, 1, [⟨31, 31, .ro, 0x0⟩, ⟨30, 30, .ro, 0x0⟩, ⟨29, 29, .ro, 0x0⟩, ⟨27, 24, .ro, 0x0⟩, ⟨13, 8, .ro, 0x0⟩, ⟨5, 0, .ro, 0x0⟩]⟩,
   ⟨0x110200, 0x4, 16, 0x0, 1, [⟨31, 0, .ro, 0x0⟩]⟩,
   ⟨0x110300, 0x4, 1, 0x0, 1, [⟨31, 0, .rc, 0x0⟩]⟩,
   ⟨0x110304, 0x4, 1, 0x0, 1, [⟨31, 28, .ro, 0x0⟩, ⟨27, 0, .rc, 0x0⟩]⟩,
   ⟨0x110308, 0x4, 1, 0x0, 1, [⟨31, 0, .rc, 0x0⟩]⟩,
   ⟨0x110400, 0x4, 16, 0x0, 1, [⟨31, 0, .ro, 0x0⟩]⟩,
   ⟨0x111000, 0x4, 256, 0x0, 1, [⟨31, 0, .ro, 0x0⟩]⟩]

/-! ## spec/08_stakeout_reflex.md -/

def STK_CTRL_EN : Fld := ⟨0xc0000, 0x0, 1, 0x0, 1, 0, 0⟩
def STK_STAT_FULL : Fld := ⟨0xc0004, 0x0, 1, 0x0, 1, 31, 31⟩
def STK_STAT_STEPPAR : Fld := ⟨0xc0004, 0x0, 1, 0x0, 1, 30, 30⟩
def STK_STAT_SHADOW : Fld := ⟨0xc0004, 0x0, 1, 0x0, 1, 29, 29⟩
def STK_STAT_PENDING : Fld := ⟨0xc0004, 0x0, 1, 0x0, 1, 18, 0⟩
def STK_ACC_LO_COUNT : Fld := ⟨0xc0008, 0x0, 1, 0x0, 1, 31, 0⟩
def STK_ACC_HI_COUNT : Fld := ⟨0xc000c, 0x0, 1, 0x0, 1, 31, 0⟩
def STK_EXEC_LO_COUNT : Fld := ⟨0xc0010, 0x0, 1, 0x0, 1, 31, 0⟩
def STK_EXEC_HI_COUNT : Fld := ⟨0xc0014, 0x0, 1, 0x0, 1, 31, 0⟩
def STK_FULLCNT_COUNT : Fld := ⟨0xc0018, 0x0, 1, 0x0, 1, 31, 0⟩
def STK_REJECT_FAR : Fld := ⟨0xc001c, 0x0, 1, 0x0, 1, 31, 24⟩
def STK_REJECT_TARGET : Fld := ⟨0xc001c, 0x0, 1, 0x0, 1, 23, 16⟩
def STK_REJECT_UE : Fld := ⟨0xc001c, 0x0, 1, 0x0, 1, 15, 0⟩
def STK_LATE_DISCARDED : Fld := ⟨0xc0020, 0x0, 1, 0x0, 1, 31, 16⟩
def STK_LATE_TARDY : Fld := ⟨0xc0020, 0x0, 1, 0x0, 1, 15, 0⟩
def STK_FLUSH_COUNT : Fld := ⟨0xc0024, 0x0, 1, 0x0, 1, 31, 0⟩
def STK_LATE_TOL_NS : Fld := ⟨0xc0028, 0x0, 1, 0x0, 1, 16, 0⟩
def STK_HOSTWR_COUNT : Fld := ⟨0xc002c, 0x0, 1, 0x0, 1, 31, 0⟩
def STK_MIRLOST_COUNT : Fld := ⟨0xc0030, 0x0, 1, 0x0, 1, 31, 0⟩
def STK_H_TIME_LO_TIME : Fld := ⟨0xc0040, 0x0, 1, 0x0, 1, 31, 0⟩
def STK_H_TIME_HI_TIME : Fld := ⟨0xc0044, 0x0, 1, 0x0, 1, 31, 0⟩
def STK_H_TGT_LEVEL : Fld := ⟨0xc0048, 0x0, 1, 0x0, 1, 31, 31⟩
def STK_H_TGT_TARGET : Fld := ⟨0xc0048, 0x0, 1, 0x0, 1, 15, 0⟩
def STK_H_WIDTH_WIDTH : Fld := ⟨0xc004c, 0x0, 1, 0x0, 1, 23, 0⟩
def STK_H_GO_GO : Fld := ⟨0xc0050, 0x0, 1, 0x0, 1, 0, 0⟩
def STK_H_STAT_SEQ : Fld := ⟨0xc0054, 0x0, 1, 0x0, 1, 31, 16⟩
def STK_H_STAT_RESULT : Fld := ⟨0xc0054, 0x0, 1, 0x0, 1, 3, 0⟩
def VL_CTRL_INHIBIT : Fld := ⟨0xc0100, 0x20, 4, 0x0, 1, 1, 1⟩
def VL_CTRL_EN : Fld := ⟨0xc0100, 0x20, 4, 0x0, 1, 0, 0⟩
def VL_STAT_STATUS : Fld := ⟨0xc0104, 0x20, 4, 0x0, 1, 31, 24⟩
def VL_STAT_AGE : Fld := ⟨0xc0104, 0x20, 4, 0x0, 1, 23, 16⟩
def VL_STAT_FAULT : Fld := ⟨0xc0104, 0x20, 4, 0x0, 1, 2, 2⟩
def VL_STAT_LOST : Fld := ⟨0xc0104, 0x20, 4, 0x0, 1, 1, 1⟩
def VL_STAT_SENDING : Fld := ⟨0xc0104, 0x20, 4, 0x0, 1, 0, 0⟩
def VL_SPILL_COUNT : Fld := ⟨0xc0108, 0x20, 4, 0x0, 1, 31, 0⟩
def VL_ERR_CRC : Fld := ⟨0xc010c, 0x20, 4, 0x0, 1, 31, 16⟩
def VL_ERR_REMOTE : Fld := ⟨0xc010c, 0x20, 4, 0x0, 1, 15, 0⟩
def VL_FAULT_CODE : Fld := ⟨0xc0110, 0x20, 4, 0x0, 1, 31, 28⟩
def VL_FAULT_VALVE : Fld := ⟨0xc0110, 0x20, 4, 0x0, 1, 27, 16⟩
def VL_FAULT_OUTSTANDING : Fld := ⟨0xc0110, 0x20, 4, 0x0, 1, 10, 0⟩
def VL_ENV_TEMP : Fld := ⟨0xc0114, 0x20, 4, 0x0, 1, 31, 16⟩
def VL_ENV_SUPPLY : Fld := ⟨0xc0114, 0x20, 4, 0x0, 1, 15, 0⟩
def STK_VFMAP_FAULT : Fld := ⟨0xc1000, 0x4, 128, 0x0, 1, 31, 0⟩
def TPIN_IN0_LEVEL : Fld := ⟨0xb0000, 0x0, 1, 0x0, 1, 31, 0⟩
def TPIN_IN1_LEVEL : Fld := ⟨0xb0004, 0x0, 1, 0x0, 1, 31, 0⟩
def TPIN_DRIVE0_ACTIVE : Fld := ⟨0xb0008, 0x0, 1, 0x0, 1, 31, 0⟩
def TPIN_DRIVE1_ACTIVE : Fld := ⟨0xb000c, 0x0, 1, 0x0, 1, 31, 0⟩
def TPIN_BANK_PRESENT : Fld := ⟨0xb0010, 0x0, 1, 0x0, 1, 7, 4⟩
def TPIN_BANK_V33 : Fld := ⟨0xb0010, 0x0, 1, 0x0, 1, 3, 0⟩
def TPIN_TSQ_LO_ENTRY : Fld := ⟨0xb0020, 0x0, 1, 0x0, 1, 31, 0⟩
def TPIN_TSQ_HI_ENTRY : Fld := ⟨0xb0024, 0x0, 1, 0x0, 1, 31, 0⟩
def TPIN_TSQ_STAT_LOST : Fld := ⟨0xb0028, 0x0, 1, 0x0, 1, 31, 16⟩
def TPIN_TSQ_STAT_COUNT : Fld := ⟨0xb0028, 0x0, 1, 0x0, 1, 10, 0⟩
def TPIN_RUNT_COUNT : Fld := ⟨0xb002c, 0x0, 1, 0x0, 1, 31, 0⟩
def TPIN_PWM_HIGH : Fld := ⟨0xb0100, 0x4, 64, 0x0, 1, 31, 0⟩
def RFX_IN0_IN : Fld := ⟨0xa0000, 0x0, 1, 0x0, 1, 31, 0⟩
def RFX_IN1_IN : Fld := ⟨0xa0004, 0x0, 1, 0x0, 1, 31, 0⟩
def RFX_IN2_IN : Fld := ⟨0xa0008, 0x0, 1, 0x0, 1, 31, 0⟩
def RFX_OUT0_OUT : Fld := ⟨0xa000c, 0x0, 1, 0x0, 1, 31, 0⟩
def RFX_OUT1_OUT : Fld := ⟨0xa0010, 0x0, 1, 0x0, 1, 31, 0⟩
def RFX_LATCH0_SET : Fld := ⟨0xa0014, 0x0, 1, 0x0, 1, 31, 0⟩
def RFX_LATCH1_SET : Fld := ⟨0xa0018, 0x0, 1, 0x0, 1, 31, 0⟩
def RFX_HFLAG_FLAG : Fld := ⟨0xa001c, 0x0, 1, 0x0, 1, 15, 0⟩
def RFX_CNT_COUNT : Fld := ⟨0xa0100, 0x4, 64, 0x0, 1, 31, 0⟩

/-- The registers of spec/08_stakeout_reflex.md. -/
def regRows08 : List RegRow :=
  [⟨0xc0000, 0x4, 1, 0x0, 1, [⟨0, 0, .rw, 0x0⟩]⟩,
   ⟨0xc0004, 0x4, 1, 0x0, 1, [⟨31, 31, .ro, 0x0⟩, ⟨30, 30, .ro, 0x0⟩, ⟨29, 29, .ro, 0x0⟩, ⟨18, 0, .ro, 0x0⟩]⟩,
   ⟨0xc0008, 0x4, 1, 0x0, 1, [⟨31, 0, .ro, 0x0⟩]⟩,
   ⟨0xc000c, 0x4, 1, 0x0, 1, [⟨31, 0, .ro, 0x0⟩]⟩,
   ⟨0xc0010, 0x4, 1, 0x0, 1, [⟨31, 0, .ro, 0x0⟩]⟩,
   ⟨0xc0014, 0x4, 1, 0x0, 1, [⟨31, 0, .ro, 0x0⟩]⟩,
   ⟨0xc0018, 0x4, 1, 0x0, 1, [⟨31, 0, .rc, 0x0⟩]⟩,
   ⟨0xc001c, 0x4, 1, 0x0, 1, [⟨31, 24, .rc, 0x0⟩, ⟨23, 16, .rc, 0x0⟩, ⟨15, 0, .rc, 0x0⟩]⟩,
   ⟨0xc0020, 0x4, 1, 0x0, 1, [⟨31, 16, .rc, 0x0⟩, ⟨15, 0, .rc, 0x0⟩]⟩,
   ⟨0xc0024, 0x4, 1, 0x0, 1, [⟨31, 0, .rc, 0x0⟩]⟩,
   ⟨0xc0028, 0x4, 1, 0x0, 1, [⟨16, 0, .rw, 0x0⟩]⟩,
   ⟨0xc002c, 0x4, 1, 0x0, 1, [⟨31, 0, .rc, 0x0⟩]⟩,
   ⟨0xc0030, 0x4, 1, 0x0, 1, [⟨31, 0, .rc, 0x0⟩]⟩,
   ⟨0xc0040, 0x4, 1, 0x0, 1, [⟨31, 0, .rw, 0x0⟩]⟩,
   ⟨0xc0044, 0x4, 1, 0x0, 1, [⟨31, 0, .rw, 0x0⟩]⟩,
   ⟨0xc0048, 0x4, 1, 0x0, 1, [⟨31, 31, .rw, 0x0⟩, ⟨15, 0, .rw, 0x0⟩]⟩,
   ⟨0xc004c, 0x4, 1, 0x0, 1, [⟨23, 0, .rw, 0x0⟩]⟩,
   ⟨0xc0050, 0x4, 1, 0x0, 1, [⟨0, 0, .wo, 0x0⟩]⟩,
   ⟨0xc0054, 0x4, 1, 0x0, 1, [⟨31, 16, .ro, 0x0⟩, ⟨3, 0, .ro, 0x0⟩]⟩,
   ⟨0xc0100, 0x20, 4, 0x0, 1, [⟨1, 1, .rw, 0x0⟩, ⟨0, 0, .rw, 0x0⟩]⟩,
   ⟨0xc0104, 0x20, 4, 0x0, 1, [⟨31, 24, .ro, 0x0⟩, ⟨23, 16, .ro, 0xff⟩, ⟨2, 2, .ro, 0x0⟩, ⟨1, 1, .ro, 0x1⟩, ⟨0, 0, .ro, 0x0⟩]⟩,
   ⟨0xc0108, 0x20, 4, 0x0, 1, [⟨31, 0, .rc, 0x0⟩]⟩,
   ⟨0xc010c, 0x20, 4, 0x0, 1, [⟨31, 16, .rc, 0x0⟩, ⟨15, 0, .rc, 0x0⟩]⟩,
   ⟨0xc0110, 0x20, 4, 0x0, 1, [⟨31, 28, .ro, 0x0⟩, ⟨27, 16, .ro, 0x0⟩, ⟨10, 0, .ro, 0x0⟩]⟩,
   ⟨0xc0114, 0x20, 4, 0x0, 1, [⟨31, 16, .ro, 0x0⟩, ⟨15, 0, .ro, 0x0⟩]⟩,
   ⟨0xc1000, 0x4, 128, 0x0, 1, [⟨31, 0, .w1c, 0x0⟩]⟩,
   ⟨0xb0000, 0x4, 1, 0x0, 1, [⟨31, 0, .ro, 0x0⟩]⟩,
   ⟨0xb0004, 0x4, 1, 0x0, 1, [⟨31, 0, .ro, 0x0⟩]⟩,
   ⟨0xb0008, 0x4, 1, 0x0, 1, [⟨31, 0, .rw, 0x0⟩]⟩,
   ⟨0xb000c, 0x4, 1, 0x0, 1, [⟨31, 0, .rw, 0x0⟩]⟩] ++
  [⟨0xb0010, 0x4, 1, 0x0, 1, [⟨7, 4, .ro, 0x0⟩, ⟨3, 0, .ro, 0x0⟩]⟩,
   ⟨0xb0020, 0x4, 1, 0x0, 1, [⟨31, 0, .ro, 0x0⟩]⟩,
   ⟨0xb0024, 0x4, 1, 0x0, 1, [⟨31, 0, .ro, 0x0⟩]⟩,
   ⟨0xb0028, 0x4, 1, 0x0, 1, [⟨31, 16, .rc, 0x0⟩, ⟨10, 0, .ro, 0x0⟩]⟩,
   ⟨0xb002c, 0x4, 1, 0x0, 1, [⟨31, 0, .rc, 0x0⟩]⟩,
   ⟨0xb0100, 0x4, 64, 0x0, 1, [⟨31, 0, .rw, 0x0⟩]⟩,
   ⟨0xa0000, 0x4, 1, 0x0, 1, [⟨31, 0, .ro, 0x0⟩]⟩,
   ⟨0xa0004, 0x4, 1, 0x0, 1, [⟨31, 0, .ro, 0x0⟩]⟩,
   ⟨0xa0008, 0x4, 1, 0x0, 1, [⟨31, 0, .ro, 0x0⟩]⟩,
   ⟨0xa000c, 0x4, 1, 0x0, 1, [⟨31, 0, .ro, 0x0⟩]⟩,
   ⟨0xa0010, 0x4, 1, 0x0, 1, [⟨31, 0, .ro, 0x0⟩]⟩,
   ⟨0xa0014, 0x4, 1, 0x0, 1, [⟨31, 0, .w1c, 0x0⟩]⟩,
   ⟨0xa0018, 0x4, 1, 0x0, 1, [⟨31, 0, .w1c, 0x0⟩]⟩,
   ⟨0xa001c, 0x4, 1, 0x0, 1, [⟨15, 0, .rw, 0x0⟩]⟩,
   ⟨0xa0100, 0x4, 64, 0x0, 1, [⟨31, 0, .ro, 0x0⟩]⟩]

/-! ## spec/09_sensor_front_end.md -/

def AFE_CTRL_EN : Fld := ⟨0x150000, 0x0, 1, 0x10000, 2, 15, 0⟩
def AFE_STAT_CAL_BUSY : Fld := ⟨0x150004, 0x0, 1, 0x10000, 2, 31, 31⟩
def AFE_STAT_SINE_BUSY : Fld := ⟨0x150004, 0x0, 1, 0x10000, 2, 30, 30⟩
def AFE_STAT_SINE_PATH : Fld := ⟨0x150004, 0x0, 1, 0x10000, 2, 29, 28⟩
def AFE_STAT_REF_OK : Fld := ⟨0x150004, 0x0, 1, 0x10000, 2, 27, 27⟩
def AFE_STAT_ADC1_CH : Fld := ⟨0x150004, 0x0, 1, 0x10000, 2, 23, 20⟩
def AFE_STAT_ADC0_CH : Fld := ⟨0x150004, 0x0, 1, 0x10000, 2, 19, 16⟩
def AFE_STAT_SETTLING : Fld := ⟨0x150004, 0x0, 1, 0x10000, 2, 15, 0⟩
def AFE_CMD_CAL : Fld := ⟨0x150008, 0x0, 1, 0x10000, 2, 31, 31⟩
def AFE_CMD_SWEEP : Fld := ⟨0x150008, 0x0, 1, 0x10000, 2, 11, 8⟩
def AFE_CMD_QRESET : Fld := ⟨0x150008, 0x0, 1, 0x10000, 2, 3, 0⟩
def AFE_SCANLATE_LAST : Fld := ⟨0x15000c, 0x0, 1, 0x10000, 2, 31, 28⟩
def AFE_SCANLATE_COUNT : Fld := ⟨0x15000c, 0x0, 1, 0x10000, 2, 27, 0⟩
def AFE_CHSTAT_FLAGS : Fld := ⟨0x150100, 0x4, 16, 0x10000, 2, 31, 24⟩
def AFE_CHSTAT_GAIN : Fld := ⟨0x150100, 0x4, 16, 0x10000, 2, 22, 20⟩
def AFE_CHSTAT_SETTLE : Fld := ⟨0x150100, 0x4, 16, 0x10000, 2, 19, 0⟩
def AFE_CHVAL_VALUE : Fld := ⟨0x150140, 0x4, 16, 0x10000, 2, 31, 0⟩
def AFE_CNT_OVER : Fld := ⟨0x150180, 0x4, 16, 0x10000, 2, 31, 24⟩
def AFE_CNT_OPEN : Fld := ⟨0x150180, 0x4, 16, 0x10000, 2, 23, 16⟩
def AFE_CNT_LOOPFAULT : Fld := ⟨0x150180, 0x4, 16, 0x10000, 2, 15, 8⟩
def AFE_CNT_DROPPED : Fld := ⟨0x150180, 0x4, 16, 0x10000, 2, 7, 0⟩
def AFE_RANGE_GAIN : Fld := ⟨0x1501c0, 0x4, 16, 0x10000, 2, 2, 0⟩
def AFE_GMATCH_M : Fld := ⟨0x150200, 0x4, 4, 0x10000, 2, 31, 0⟩
def AFE_QRESET_THRESHOLD : Fld := ⟨0x150210, 0x4, 4, 0x10000, 2, 31, 16⟩
def AFE_QRESET_ALL : Fld := ⟨0x150210, 0x4, 4, 0x10000, 2, 15, 0⟩
def AFE_SRC_ON : Fld := ⟨0x150240, 0x4, 8, 0x10000, 2, 31, 31⟩
def AFE_SRC_COMPLIANCE : Fld := ⟨0x150240, 0x4, 8, 0x10000, 2, 30, 30⟩
def AFE_SRC_PIN : Fld := ⟨0x150240, 0x4, 8, 0x10000, 2, 29, 26⟩
def AFE_SRC_CAL_NA : Fld := ⟨0x150240, 0x4, 8, 0x10000, 2, 20, 0⟩
def AFE_SWEEPBLK_WORD : Fld := ⟨0x152000, 0x4, 32, 0x80, 4, 31, 0⟩
def AFE_CABLEBLK_WORD : Fld := ⟨0x154000, 0x4, 128, 0x200, 16, 31, 0⟩

/-- The registers of spec/09_sensor_front_end.md. -/
def regRows09 : List RegRow :=
  [⟨0x150000, 0x4, 1, 0x10000, 2, [⟨15, 0, .rw, 0x0⟩]⟩,
   ⟨0x150004, 0x4, 1, 0x10000, 2, [⟨31, 31, .ro, 0x0⟩, ⟨30, 30, .ro, 0x0⟩, ⟨29, 28, .ro, 0x0⟩, ⟨27, 27, .ro, 0x0⟩, ⟨23, 20, .ro, 0x0⟩, ⟨19, 16, .ro, 0x0⟩, ⟨15, 0, .ro, 0x0⟩]⟩,
   ⟨0x150008, 0x4, 1, 0x10000, 2, [⟨31, 31, .wo, 0x0⟩, ⟨11, 8, .wo, 0x0⟩, ⟨3, 0, .wo, 0x0⟩]⟩,
   ⟨0x15000c, 0x4, 1, 0x10000, 2, [⟨31, 28, .ro, 0x0⟩, ⟨27, 0, .rc, 0x0⟩]⟩,
   ⟨0x150100, 0x4, 16, 0x10000, 2, [⟨31, 24, .ro, 0x0⟩, ⟨22, 20, .ro, 0x0⟩, ⟨19, 0, .ro, 0x0⟩]⟩,
   ⟨0x150140, 0x4, 16, 0x10000, 2, [⟨31, 0, .ro, 0x0⟩]⟩,
   ⟨0x150180, 0x4, 16, 0x10000, 2, [⟨31, 24, .rc, 0x0⟩, ⟨23, 16, .rc, 0x0⟩, ⟨15, 8, .rc, 0x0⟩, ⟨7, 0, .rc, 0x0⟩]⟩,
   ⟨0x1501c0, 0x4, 16, 0x10000, 2, [⟨2, 0, .rw, 0x0⟩]⟩,
   ⟨0x150200, 0x4, 4, 0x10000, 2, [⟨31, 0, .ro, 0x0⟩]⟩,
   ⟨0x150210, 0x4, 4, 0x10000, 2, [⟨31, 16, .rc, 0x0⟩, ⟨15, 0, .rc, 0x0⟩]⟩,
   ⟨0x150240, 0x4, 8, 0x10000, 2, [⟨31, 31, .ro, 0x0⟩, ⟨30, 30, .ro, 0x0⟩, ⟨29, 26, .ro, 0x0⟩, ⟨20, 0, .ro, 0x0⟩]⟩,
   ⟨0x152000, 0x4, 32, 0x80, 4, [⟨31, 0, .ro, 0x0⟩]⟩,
   ⟨0x154000, 0x4, 128, 0x200, 16, [⟨31, 0, .ro, 0x0⟩]⟩]

/-! ## spec/10_signal_stations.md -/

def SIG_CTRL_EN : Fld := ⟨0x120000, 0x4, 3, 0x0, 1, 31, 0⟩
def SIG_BANK_BANK : Fld := ⟨0x120010, 0x4, 3, 0x0, 1, 31, 0⟩
def SIG_STAT_ASSIGNED : Fld := ⟨0x120100, 0x4, 96, 0x0, 1, 31, 31⟩
def SIG_STAT_AUXMISS : Fld := ⟨0x120100, 0x4, 96, 0x0, 1, 30, 30⟩
def SIG_STAT_NOPS : Fld := ⟨0x120100, 0x4, 96, 0x0, 1, 7, 6⟩
def SIG_STAT_QUEUED : Fld := ⟨0x120100, 0x4, 96, 0x0, 1, 5, 0⟩
def SIG_OUT_VALUE : Fld := ⟨0x120300, 0x4, 96, 0x0, 1, 31, 0⟩
def SIG_OVR_LAST : Fld := ⟨0x120600, 0x0, 1, 0x0, 1, 31, 24⟩
def SIG_OVR_COUNT : Fld := ⟨0x120600, 0x0, 1, 0x0, 1, 23, 0⟩
def SIG_NAN_LAST : Fld := ⟨0x120604, 0x0, 1, 0x0, 1, 31, 24⟩
def SIG_NAN_COUNT : Fld := ⟨0x120604, 0x0, 1, 0x0, 1, 23, 0⟩
def SIG_UE_LAST : Fld := ⟨0x120608, 0x0, 1, 0x0, 1, 31, 24⟩
def SIG_UE_COUNT : Fld := ⟨0x120608, 0x0, 1, 0x0, 1, 23, 0⟩
def SIG_LOAD_KCPS : Fld := ⟨0x120700, 0x4, 12, 0x0, 1, 31, 0⟩
def SIG_PDET_COUNT : Fld := ⟨0x120800, 0x4, 16, 0x0, 1, 31, 0⟩
def SIG_PLOSS_HELD : Fld := ⟨0x120840, 0x4, 16, 0x0, 1, 31, 16⟩
def SIG_PLOSS_TRUNC : Fld := ⟨0x120840, 0x4, 16, 0x0, 1, 15, 8⟩
def SIG_PLOSS_GAP : Fld := ⟨0x120840, 0x4, 16, 0x0, 1, 7, 0⟩
def MSR_CTRL_EN : Fld := ⟨0x130000, 0x0, 1, 0x0, 1, 0, 0⟩
def MSR_CMD_LOSS_CLR : Fld := ⟨0x130004, 0x0, 1, 0x0, 1, 2, 2⟩
def MSR_CMD_TOT_CLR : Fld := ⟨0x130004, 0x0, 1, 0x0, 1, 1, 1⟩
def MSR_CMD_CLOSE : Fld := ⟨0x130004, 0x0, 1, 0x0, 1, 0, 0⟩
def MSR_STAT_WORKING : Fld := ⟨0x130008, 0x0, 1, 0x0, 1, 31, 31⟩
def MSR_STAT_FILLED : Fld := ⟨0x130008, 0x0, 1, 0x0, 1, 30, 30⟩
def MSR_STAT_YQUEUED : Fld := ⟨0x130008, 0x0, 1, 0x0, 1, 6, 0⟩
def MSR_TOTM_LO_KG : Fld := ⟨0x130010, 0x0, 1, 0x0, 1, 31, 0⟩
def MSR_TOTM_HI_KG : Fld := ⟨0x130014, 0x0, 1, 0x0, 1, 31, 0⟩
def MSR_TOTA_LO_M2 : Fld := ⟨0x130018, 0x0, 1, 0x0, 1, 31, 0⟩
def MSR_TOTA_HI_M2 : Fld := ⟨0x13001c, 0x0, 1, 0x0, 1, 31, 0⟩
def MSR_YSEQ_COUNT : Fld := ⟨0x130020, 0x0, 1, 0x0, 1, 31, 0⟩
def MSR_YDROP_COUNT : Fld := ⟨0x130024, 0x0, 1, 0x0, 1, 31, 0⟩
def MSR_FLOW_V : Fld := ⟨0x130028, 0x0, 1, 0x0, 1, 31, 0⟩
def MSR_GRATE_V : Fld := ⟨0x130030, 0x4, 4, 0x0, 1, 31, 0⟩
def MSR_MISS_INPUT : Fld := ⟨0x130040, 0x0, 1, 0x0, 1, 7, 0⟩
def MSR_LOSS_COUNT : Fld := ⟨0x131000, 0x4, 256, 0x0, 1, 31, 0⟩
def MSR_LOSS_NC_COUNT : Fld := ⟨0x131400, 0x4, 16, 0x0, 1, 31, 0⟩

/-- The registers of spec/10_signal_stations.md. -/
def regRows10 : List RegRow :=
  [⟨0x120000, 0x4, 3, 0x0, 1, [⟨31, 0, .rw, 0x0⟩]⟩,
   ⟨0x120010, 0x4, 3, 0x0, 1, [⟨31, 0, .rw, 0x0⟩]⟩,
   ⟨0x120100, 0x4, 96, 0x0, 1, [⟨31, 31, .ro, 0x0⟩, ⟨30, 30, .ro, 0x0⟩, ⟨7, 6, .ro, 0x0⟩, ⟨5, 0, .ro, 0x0⟩]⟩,
   ⟨0x120300, 0x4, 96, 0x0, 1, [⟨31, 0, .ro, 0x0⟩]⟩,
   ⟨0x120600, 0x4, 1, 0x0, 1, [⟨31, 24, .ro, 0x0⟩, ⟨23, 0, .rc, 0x0⟩]⟩,
   ⟨0x120604, 0x4, 1, 0x0, 1, [⟨31, 24, .ro, 0x0⟩, ⟨23, 0, .rc, 0x0⟩]⟩,
   ⟨0x120608, 0x4, 1, 0x0, 1, [⟨31, 24, .ro, 0x0⟩, ⟨23, 0, .rc, 0x0⟩]⟩,
   ⟨0x120700, 0x4, 12, 0x0, 1, [⟨31, 0, .ro, 0x0⟩]⟩,
   ⟨0x120800, 0x4, 16, 0x0, 1, [⟨31, 0, .ro, 0x0⟩]⟩,
   ⟨0x120840, 0x4, 16, 0x0, 1, [⟨31, 16, .rc, 0x0⟩, ⟨15, 8, .rc, 0x0⟩, ⟨7, 0, .rc, 0x0⟩]⟩,
   ⟨0x130000, 0x4, 1, 0x0, 1, [⟨0, 0, .rw, 0x0⟩]⟩,
   ⟨0x130004, 0x4, 1, 0x0, 1, [⟨2, 2, .wo, 0x0⟩, ⟨1, 1, .wo, 0x0⟩, ⟨0, 0, .wo, 0x0⟩]⟩,
   ⟨0x130008, 0x4, 1, 0x0, 1, [⟨31, 31, .ro, 0x0⟩, ⟨30, 30, .ro, 0x0⟩, ⟨6, 0, .ro, 0x0⟩]⟩,
   ⟨0x130010, 0x4, 1, 0x0, 1, [⟨31, 0, .ro, 0x0⟩]⟩,
   ⟨0x130014, 0x4, 1, 0x0, 1, [⟨31, 0, .ro, 0x0⟩]⟩,
   ⟨0x130018, 0x4, 1, 0x0, 1, [⟨31, 0, .ro, 0x0⟩]⟩,
   ⟨0x13001c, 0x4, 1, 0x0, 1, [⟨31, 0, .ro, 0x0⟩]⟩,
   ⟨0x130020, 0x4, 1, 0x0, 1, [⟨31, 0, .ro, 0x0⟩]⟩,
   ⟨0x130024, 0x4, 1, 0x0, 1, [⟨31, 0, .rc, 0x0⟩]⟩,
   ⟨0x130028, 0x4, 1, 0x0, 1, [⟨31, 0, .ro, 0x0⟩]⟩,
   ⟨0x130030, 0x4, 4, 0x0, 1, [⟨31, 0, .ro, 0x0⟩]⟩,
   ⟨0x130040, 0x4, 1, 0x0, 1, [⟨7, 0, .ro, 0xff⟩]⟩,
   ⟨0x131000, 0x4, 256, 0x0, 1, [⟨31, 0, .ro, 0x0⟩]⟩,
   ⟨0x131400, 0x4, 16, 0x0, 1, [⟨31, 0, .ro, 0x0⟩]⟩]

/-! ## spec/11_loop_stations.md -/

def LOOP_CTRL0_EN : Fld := ⟨0x140000, 0x0, 1, 0x0, 1, 31, 0⟩
def LOOP_CTRL1_EN : Fld := ⟨0x140004, 0x0, 1, 0x0, 1, 31, 0⟩
def LOOP_FLAGGED0_LOOP : Fld := ⟨0x140008, 0x0, 1, 0x0, 1, 31, 0⟩
def LOOP_FLAGGED1_LOOP : Fld := ⟨0x14000c, 0x0, 1, 0x0, 1, 31, 0⟩
def LOOP_NUMERR_LAST : Fld := ⟨0x140010, 0x0, 1, 0x0, 1, 31, 26⟩
def LOOP_NUMERR_COUNT : Fld := ⟨0x140010, 0x0, 1, 0x0, 1, 25, 0⟩
def LOOP_GRP_SWITCHES : Fld := ⟨0x140040, 0x4, 16, 0x0, 1, 31, 16⟩
def LOOP_GRP_MEMBERS : Fld := ⟨0x140040, 0x4, 16, 0x0, 1, 15, 12⟩
def LOOP_GRP_VALID : Fld := ⟨0x140040, 0x4, 16, 0x0, 1, 7, 7⟩
def LOOP_GRP_SEL : Fld := ⟨0x140040, 0x4, 16, 0x0, 1, 5, 0⟩
def LOOP_MODE_MANUAL : Fld := ⟨0x141000, 0x40, 64, 0x0, 1, 0, 0⟩
def LOOP_SP_SP : Fld := ⟨0x141004, 0x40, 64, 0x0, 1, 31, 0⟩
def LOOP_MAN_VALUE : Fld := ⟨0x141008, 0x40, 64, 0x0, 1, 31, 0⟩
def LOOP_STAT_PV_BAD_S : Fld := ⟨0x14100c, 0x40, 64, 0x0, 1, 31, 31⟩
def LOOP_STAT_SP_BAD_S : Fld := ⟨0x14100c, 0x40, 64, 0x0, 1, 30, 30⟩
def LOOP_STAT_LIMIT_S : Fld := ⟨0x14100c, 0x40, 64, 0x0, 1, 29, 29⟩
def LOOP_STAT_OVERTRAVEL_S : Fld := ⟨0x14100c, 0x40, 64, 0x0, 1, 28, 28⟩
def LOOP_STAT_FAILMAN_S : Fld := ⟨0x14100c, 0x40, 64, 0x0, 1, 27, 27⟩
def LOOP_STAT_OVERRIDE_S : Fld := ⟨0x14100c, 0x40, 64, 0x0, 1, 26, 26⟩
def LOOP_STAT_NUMERIC_S : Fld := ⟨0x14100c, 0x40, 64, 0x0, 1, 25, 25⟩
def LOOP_STAT_SELECTED : Fld := ⟨0x14100c, 0x40, 64, 0x0, 1, 15, 15⟩
def LOOP_STAT_CASC_HOLD : Fld := ⟨0x14100c, 0x40, 64, 0x0, 1, 14, 14⟩
def LOOP_STAT_OVERRIDE : Fld := ⟨0x14100c, 0x40, 64, 0x0, 1, 13, 13⟩
def LOOP_STAT_OVERTRAVEL : Fld := ⟨0x14100c, 0x40, 64, 0x0, 1, 12, 12⟩
def LOOP_STAT_RATE : Fld := ⟨0x14100c, 0x40, 64, 0x0, 1, 11, 11⟩
def LOOP_STAT_LIMIT_HI : Fld := ⟨0x14100c, 0x40, 64, 0x0, 1, 10, 10⟩
def LOOP_STAT_LIMIT_LO : Fld := ⟨0x14100c, 0x40, 64, 0x0, 1, 9, 9⟩
def LOOP_STAT_FF_MISS : Fld := ⟨0x14100c, 0x40, 64, 0x0, 1, 8, 8⟩
def LOOP_STAT_SP_BAD : Fld := ⟨0x14100c, 0x40, 64, 0x0, 1, 7, 7⟩
def LOOP_STAT_PV_BAD : Fld := ⟨0x14100c, 0x40, 64, 0x0, 1, 6, 6⟩
def LOOP_STAT_GROUP : Fld := ⟨0x14100c, 0x40, 64, 0x0, 1, 4, 0⟩
def LOOP_OUT_VALUE : Fld := ⟨0x141010, 0x40, 64, 0x0, 1, 31, 0⟩
def LOOP_CAND_VALUE : Fld := ⟨0x141014, 0x40, 64, 0x0, 1, 31, 0⟩
def LOOP_PV_VALUE : Fld := ⟨0x141018, 0x40, 64, 0x0, 1, 31, 0⟩
def LOOP_RSP_VALUE : Fld := ⟨0x14101c, 0x40, 64, 0x0, 1, 31, 0⟩
def LOOP_INT_VALUE : Fld := ⟨0x141020, 0x40, 64, 0x0, 1, 31, 0⟩
def LOOP_SEQ_COUNT : Fld := ⟨0x141024, 0x40, 64, 0x0, 1, 31, 0⟩

/-- The registers of spec/11_loop_stations.md. -/
def regRows11 : List RegRow :=
  [⟨0x140000, 0x4, 1, 0x0, 1, [⟨31, 0, .rw, 0x0⟩]⟩,
   ⟨0x140004, 0x4, 1, 0x0, 1, [⟨31, 0, .rw, 0x0⟩]⟩,
   ⟨0x140008, 0x4, 1, 0x0, 1, [⟨31, 0, .ro, 0x0⟩]⟩,
   ⟨0x14000c, 0x4, 1, 0x0, 1, [⟨31, 0, .ro, 0x0⟩]⟩,
   ⟨0x140010, 0x4, 1, 0x0, 1, [⟨31, 26, .ro, 0x0⟩, ⟨25, 0, .rc, 0x0⟩]⟩,
   ⟨0x140040, 0x4, 16, 0x0, 1, [⟨31, 16, .rc, 0x0⟩, ⟨15, 12, .ro, 0x0⟩, ⟨7, 7, .ro, 0x0⟩, ⟨5, 0, .ro, 0x0⟩]⟩,
   ⟨0x141000, 0x40, 64, 0x0, 1, [⟨0, 0, .rw, 0x0⟩]⟩,
   ⟨0x141004, 0x40, 64, 0x0, 1, [⟨31, 0, .rw, 0x0⟩]⟩,
   ⟨0x141008, 0x40, 64, 0x0, 1, [⟨31, 0, .rwh, 0x0⟩]⟩,
   ⟨0x14100c, 0x40, 64, 0x0, 1, [⟨31, 31, .w1c, 0x0⟩, ⟨30, 30, .w1c, 0x0⟩, ⟨29, 29, .w1c, 0x0⟩, ⟨28, 28, .w1c, 0x0⟩, ⟨27, 27, .w1c, 0x0⟩, ⟨26, 26, .w1c, 0x0⟩, ⟨25, 25, .w1c, 0x0⟩, ⟨15, 15, .ro, 0x0⟩, ⟨14, 14, .ro, 0x0⟩, ⟨13, 13, .ro, 0x0⟩, ⟨12, 12, .ro, 0x0⟩, ⟨11, 11, .ro, 0x0⟩, ⟨10, 10, .ro, 0x0⟩, ⟨9, 9, .ro, 0x0⟩, ⟨8, 8, .ro, 0x0⟩, ⟨7, 7, .ro, 0x0⟩, ⟨6, 6, .ro, 0x0⟩, ⟨4, 0, .ro, 0x1f⟩]⟩,
   ⟨0x141010, 0x40, 64, 0x0, 1, [⟨31, 0, .ro, 0x0⟩]⟩,
   ⟨0x141014, 0x40, 64, 0x0, 1, [⟨31, 0, .ro, 0x0⟩]⟩,
   ⟨0x141018, 0x40, 64, 0x0, 1, [⟨31, 0, .ro, 0x0⟩]⟩,
   ⟨0x14101c, 0x40, 64, 0x0, 1, [⟨31, 0, .ro, 0x0⟩]⟩,
   ⟨0x141020, 0x40, 64, 0x0, 1, [⟨31, 0, .ro, 0x0⟩]⟩,
   ⟨0x141024, 0x40, 64, 0x0, 1, [⟨31, 0, .ro, 0x0⟩]⟩]

/-! ## spec/12_field_io.md -/

def FIO_STAT_FAULT : Fld := ⟨0x170000, 0x0, 1, 0x10000, 2, 31, 31⟩
def FIO_STAT_SAFE : Fld := ⟨0x170000, 0x0, 1, 0x10000, 2, 30, 30⟩
def FIO_STAT_HOSTLOST : Fld := ⟨0x170000, 0x0, 1, 0x10000, 2, 29, 29⟩
def FIO_OUT_ON : Fld := ⟨0x170004, 0x0, 1, 0x10000, 2, 23, 0⟩
def FIO_IN_STATE : Fld := ⟨0x170008, 0x0, 1, 0x10000, 2, 23, 0⟩
def FIO_PIN_STATE : Fld := ⟨0x17000c, 0x0, 1, 0x10000, 2, 23, 0⟩
def FIO_DRV_STATE : Fld := ⟨0x170010, 0x0, 1, 0x10000, 2, 23, 0⟩
def FIO_PARTNER_STATE : Fld := ⟨0x170014, 0x0, 1, 0x10000, 2, 23, 0⟩
def FIO_F_OC_CH : Fld := ⟨0x170020, 0x0, 1, 0x10000, 2, 23, 0⟩
def FIO_F_TH_CH : Fld := ⟨0x170024, 0x0, 1, 0x10000, 2, 23, 0⟩
def FIO_F_SVS_CH : Fld := ⟨0x170028, 0x0, 1, 0x10000, 2, 23, 0⟩
def FIO_F_OL_CH : Fld := ⟨0x17002c, 0x0, 1, 0x10000, 2, 23, 0⟩
def FIO_F_WB_CH : Fld := ⟨0x170030, 0x0, 1, 0x10000, 2, 23, 0⟩
def FIO_F_UV_CH : Fld := ⟨0x170034, 0x0, 1, 0x10000, 2, 23, 0⟩
def FIO_VBANK_UV : Fld := ⟨0x170040, 0x4, 3, 0x10000, 2, 31, 31⟩
def FIO_VBANK_WARN : Fld := ⟨0x170040, 0x4, 3, 0x10000, 2, 30, 30⟩
def FIO_VBANK_VOLT : Fld := ⟨0x170040, 0x4, 3, 0x10000, 2, 15, 0⟩
def FIO_CH_DIR : Fld := ⟨0x170100, 0x4, 24, 0x10000, 2, 31, 31⟩
def FIO_CH_WB : Fld := ⟨0x170100, 0x4, 24, 0x10000, 2, 30, 30⟩
def FIO_CH_OL : Fld := ⟨0x170100, 0x4, 24, 0x10000, 2, 29, 29⟩
def FIO_CH_LIMITING : Fld := ⟨0x170100, 0x4, 24, 0x10000, 2, 28, 28⟩
def FIO_CH_TH_OFF : Fld := ⟨0x170100, 0x4, 24, 0x10000, 2, 27, 27⟩
def FIO_CH_PARTNER : Fld := ⟨0x170100, 0x4, 24, 0x10000, 2, 26, 26⟩
def FIO_CH_SUPPLY_LOW : Fld := ⟨0x170100, 0x4, 24, 0x10000, 2, 25, 25⟩
def FIO_CH_STALE : Fld := ⟨0x170100, 0x4, 24, 0x10000, 2, 24, 24⟩
def FIO_CH_CURRENT : Fld := ⟨0x170100, 0x4, 24, 0x10000, 2, 11, 0⟩
def FIO_RETRY_COUNT : Fld := ⟨0x170180, 0x4, 24, 0x10000, 2, 31, 0⟩
def FIO_AOUTVAL_X : Fld := ⟨0x170200, 0x10, 4, 0x10000, 2, 31, 0⟩
def FIO_AOUTSTAT_OPEN_WIRE_L : Fld := ⟨0x170204, 0x10, 4, 0x10000, 2, 31, 31⟩
def FIO_AOUTSTAT_OVERLOAD_L : Fld := ⟨0x170204, 0x10, 4, 0x10000, 2, 30, 30⟩
def FIO_AOUTSTAT_OPEN_WIRE : Fld := ⟨0x170204, 0x10, 4, 0x10000, 2, 29, 29⟩
def FIO_AOUTSTAT_OVERLOAD : Fld := ⟨0x170204, 0x10, 4, 0x10000, 2, 28, 28⟩
def FIO_AOUTSTAT_HELD : Fld := ⟨0x170204, 0x10, 4, 0x10000, 2, 27, 27⟩
def FIO_AOUTSTAT_STALE : Fld := ⟨0x170204, 0x10, 4, 0x10000, 2, 26, 26⟩
def FIO_AOUTSTAT_CODE : Fld := ⟨0x170204, 0x10, 4, 0x10000, 2, 15, 0⟩
def FIO_AOUTRB_V : Fld := ⟨0x170208, 0x10, 4, 0x10000, 2, 31, 0⟩

/-- The registers of spec/12_field_io.md. -/
def regRows12 : List RegRow :=
  [⟨0x170000, 0x4, 1, 0x10000, 2, [⟨31, 31, .ro, 0x0⟩, ⟨30, 30, .ro, 0x1⟩, ⟨29, 29, .ro, 0x0⟩]⟩,
   ⟨0x170004, 0x4, 1, 0x10000, 2, [⟨23, 0, .rw, 0x0⟩]⟩,
   ⟨0x170008, 0x4, 1, 0x10000, 2, [⟨23, 0, .ro, 0x0⟩]⟩,
   ⟨0x17000c, 0x4, 1, 0x10000, 2, [⟨23, 0, .ro, 0x0⟩]⟩,
   ⟨0x170010, 0x4, 1, 0x10000, 2, [⟨23, 0, .ro, 0x0⟩]⟩,
   ⟨0x170014, 0x4, 1, 0x10000, 2, [⟨23, 0, .ro, 0x0⟩]⟩,
   ⟨0x170020, 0x4, 1, 0x10000, 2, [⟨23, 0, .w1c, 0x0⟩]⟩,
   ⟨0x170024, 0x4, 1, 0x10000, 2, [⟨23, 0, .w1c, 0x0⟩]⟩,
   ⟨0x170028, 0x4, 1, 0x10000, 2, [⟨23, 0, .w1c, 0x0⟩]⟩,
   ⟨0x17002c, 0x4, 1, 0x10000, 2, [⟨23, 0, .w1c, 0x0⟩]⟩,
   ⟨0x170030, 0x4, 1, 0x10000, 2, [⟨23, 0, .w1c, 0x0⟩]⟩,
   ⟨0x170034, 0x4, 1, 0x10000, 2, [⟨23, 0, .w1c, 0x0⟩]⟩,
   ⟨0x170040, 0x4, 3, 0x10000, 2, [⟨31, 31, .ro, 0x1⟩, ⟨30, 30, .ro, 0x1⟩, ⟨15, 0, .ro, 0x0⟩]⟩,
   ⟨0x170100, 0x4, 24, 0x10000, 2, [⟨31, 31, .ro, 0x0⟩, ⟨30, 30, .ro, 0x0⟩, ⟨29, 29, .ro, 0x0⟩, ⟨28, 28, .ro, 0x0⟩, ⟨27, 27, .ro, 0x0⟩, ⟨26, 26, .ro, 0x0⟩, ⟨25, 25, .ro, 0x0⟩, ⟨24, 24, .ro, 0x0⟩, ⟨11, 0, .ro, 0x0⟩]⟩,
   ⟨0x170180, 0x4, 24, 0x10000, 2, [⟨31, 0, .rc, 0x0⟩]⟩,
   ⟨0x170200, 0x10, 4, 0x10000, 2, [⟨31, 0, .rw, 0x0⟩]⟩,
   ⟨0x170204, 0x10, 4, 0x10000, 2, [⟨31, 31, .w1c, 0x0⟩, ⟨30, 30, .w1c, 0x0⟩, ⟨29, 29, .ro, 0x0⟩, ⟨28, 28, .ro, 0x0⟩, ⟨27, 27, .ro, 0x0⟩, ⟨26, 26, .ro, 0x0⟩, ⟨15, 0, .ro, 0x0⟩]⟩,
   ⟨0x170208, 0x10, 4, 0x10000, 2, [⟨31, 0, .ro, 0x0⟩]⟩]

/-! ## spec/13_fans_thermal.md -/

def FAN_CTRL_EN : Fld := ⟨0x90000, 0x0, 1, 0x0, 1, 7, 0⟩
def FAN_CMD_LEARN : Fld := ⟨0x90004, 0x0, 1, 0x0, 1, 15, 8⟩
def FAN_CMD_PRONK : Fld := ⟨0x90004, 0x0, 1, 0x0, 1, 7, 0⟩
def FAN_MODE_MANUAL : Fld := ⟨0x90100, 0x40, 8, 0x0, 1, 0, 0⟩
def FAN_SP_SP : Fld := ⟨0x90104, 0x40, 8, 0x0, 1, 31, 0⟩
def FAN_MAN_DRIVE : Fld := ⟨0x90108, 0x40, 8, 0x0, 1, 31, 0⟩
def FAN_STAT_STALL_LATCHED : Fld := ⟨0x9010c, 0x40, 8, 0x0, 1, 31, 31⟩
def FAN_STAT_TACH_LOST : Fld := ⟨0x9010c, 0x40, 8, 0x0, 1, 30, 30⟩
def FAN_STAT_AGEING : Fld := ⟨0x9010c, 0x40, 8, 0x0, 1, 29, 29⟩
def FAN_STAT_STALE : Fld := ⟨0x9010c, 0x40, 8, 0x0, 1, 28, 28⟩
def FAN_STAT_TRIES : Fld := ⟨0x9010c, 0x40, 8, 0x0, 1, 11, 8⟩
def FAN_STAT_STATE : Fld := ⟨0x9010c, 0x40, 8, 0x0, 1, 2, 0⟩
def FAN_SPEED_V : Fld := ⟨0x90110, 0x40, 8, 0x0, 1, 31, 0⟩
def FAN_DRIVE_SRC : Fld := ⟨0x90114, 0x40, 8, 0x0, 1, 31, 29⟩
def FAN_DRIVE_DRIVE : Fld := ⟨0x90114, 0x40, 8, 0x0, 1, 13, 0⟩
def FAN_AGE_V : Fld := ⟨0x90118, 0x40, 8, 0x0, 1, 31, 0⟩
def FAN_STALLCNT_COUNT : Fld := ⟨0x9011c, 0x40, 8, 0x0, 1, 31, 0⟩
def FAN_BASE_V : Fld := ⟨0x90120, 0x4, 8, 0x40, 8, 31, 0⟩
def THM_CTRL_ACCEPT : Fld := ⟨0x80000, 0x0, 1, 0x0, 1, 31, 31⟩
def THM_CTRL_FORCE : Fld := ⟨0x80000, 0x0, 1, 0x0, 1, 1, 0⟩
def THM_STAT_GRACE_MS : Fld := ⟨0x80004, 0x0, 1, 0x0, 1, 31, 16⟩
def THM_STAT_GRACE : Fld := ⟨0x80004, 0x0, 1, 0x0, 1, 15, 15⟩
def THM_STAT_WARN : Fld := ⟨0x80004, 0x0, 1, 0x0, 1, 14, 14⟩
def THM_STAT_ENFORCED : Fld := ⟨0x80004, 0x0, 1, 0x0, 1, 3, 2⟩
def THM_STAT_REQUESTED : Fld := ⟨0x80004, 0x0, 1, 0x0, 1, 1, 0⟩
def THM_SENSFAIL_FAILED : Fld := ⟨0x80008, 0x0, 1, 0x0, 1, 31, 0⟩
def THM_STALE_STALE : Fld := ⟨0x8000c, 0x0, 1, 0x0, 1, 31, 0⟩
def THM_GRP_MAX : Fld := ⟨0x80040, 0x4, 4, 0x0, 1, 31, 16⟩
def THM_GRP_LEVEL : Fld := ⟨0x80040, 0x4, 4, 0x0, 1, 15, 14⟩
def THM_GRP_FLOOR : Fld := ⟨0x80040, 0x4, 4, 0x0, 1, 13, 12⟩
def THM_GRP_WARN : Fld := ⟨0x80040, 0x4, 4, 0x0, 1, 11, 11⟩
def THM_GRP_FAILS : Fld := ⟨0x80040, 0x4, 4, 0x0, 1, 9, 8⟩
def THM_TEMP_RAW : Fld := ⟨0x80100, 0x4, 32, 0x0, 1, 31, 16⟩
def THM_TEMP_EFF : Fld := ⟨0x80100, 0x4, 32, 0x0, 1, 15, 0⟩

/-- The registers of spec/13_fans_thermal.md. -/
def regRows13 : List RegRow :=
  [⟨0x90000, 0x4, 1, 0x0, 1, [⟨7, 0, .rw, 0x0⟩]⟩,
   ⟨0x90004, 0x4, 1, 0x0, 1, [⟨15, 8, .wo, 0x0⟩, ⟨7, 0, .wo, 0x0⟩]⟩,
   ⟨0x90100, 0x40, 8, 0x0, 1, [⟨0, 0, .rw, 0x0⟩]⟩,
   ⟨0x90104, 0x40, 8, 0x0, 1, [⟨31, 0, .rw, 0x0⟩]⟩,
   ⟨0x90108, 0x40, 8, 0x0, 1, [⟨31, 0, .rwh, 0x0⟩]⟩,
   ⟨0x9010c, 0x40, 8, 0x0, 1, [⟨31, 31, .w1c, 0x0⟩, ⟨30, 30, .w1c, 0x0⟩, ⟨29, 29, .ro, 0x0⟩, ⟨28, 28, .ro, 0x0⟩, ⟨11, 8, .ro, 0x0⟩, ⟨2, 0, .ro, 0x0⟩]⟩,
   ⟨0x90110, 0x40, 8, 0x0, 1, [⟨31, 0, .ro, 0x0⟩]⟩,
   ⟨0x90114, 0x40, 8, 0x0, 1, [⟨31, 29, .ro, 0x7⟩, ⟨13, 0, .ro, 0x2710⟩]⟩,
   ⟨0x90118, 0x40, 8, 0x0, 1, [⟨31, 0, .ro, 0x3f800000⟩]⟩,
   ⟨0x9011c, 0x40, 8, 0x0, 1, [⟨31, 0, .rc, 0x0⟩]⟩,
   ⟨0x90120, 0x4, 8, 0x40, 8, [⟨31, 0, .ro, 0x0⟩]⟩,
   ⟨0x80000, 0x4, 1, 0x0, 1, [⟨31, 31, .wo, 0x0⟩, ⟨1, 0, .rw, 0x0⟩]⟩,
   ⟨0x80004, 0x4, 1, 0x0, 1, [⟨31, 16, .ro, 0x0⟩, ⟨15, 15, .ro, 0x0⟩, ⟨14, 14, .ro, 0x0⟩, ⟨3, 2, .ro, 0x0⟩, ⟨1, 0, .ro, 0x0⟩]⟩,
   ⟨0x80008, 0x4, 1, 0x0, 1, [⟨31, 0, .w1c, 0x0⟩]⟩,
   ⟨0x8000c, 0x4, 1, 0x0, 1, [⟨31, 0, .ro, 0x0⟩]⟩,
   ⟨0x80040, 0x4, 4, 0x0, 1, [⟨31, 16, .ro, 0x0⟩, ⟨15, 14, .ro, 0x0⟩, ⟨13, 12, .ro, 0x0⟩, ⟨11, 11, .ro, 0x0⟩, ⟨9, 8, .ro, 0x0⟩]⟩,
   ⟨0x80100, 0x4, 32, 0x0, 1, [⟨31, 16, .ro, 0x0⟩, ⟨15, 0, .ro, 0x0⟩]⟩]

/-! ## spec/14_can.md -/

def CAN_CTRL_RECOVER : Fld := ⟨0x1c0000, 0x40, 4, 0x0, 1, 31, 31⟩
def CAN_CTRL_MODE : Fld := ⟨0x1c0000, 0x40, 4, 0x0, 1, 3, 2⟩
def CAN_CTRL_AUTO_RECOVER : Fld := ⟨0x1c0000, 0x40, 4, 0x0, 1, 1, 1⟩
def CAN_CTRL_EN : Fld := ⟨0x1c0000, 0x40, 4, 0x0, 1, 0, 0⟩
def CAN_STAT_STATE : Fld := ⟨0x1c0004, 0x40, 4, 0x0, 1, 31, 28⟩
def CAN_STAT_WARN : Fld := ⟨0x1c0004, 0x40, 4, 0x0, 1, 27, 27⟩
def CAN_STAT_LEC : Fld := ⟨0x1c0004, 0x40, 4, 0x0, 1, 26, 24⟩
def CAN_STAT_REC : Fld := ⟨0x1c0004, 0x40, 4, 0x0, 1, 23, 16⟩
def CAN_STAT_TDCV : Fld := ⟨0x1c0004, 0x40, 4, 0x0, 1, 15, 9⟩
def CAN_STAT_TEC : Fld := ⟨0x1c0004, 0x40, 4, 0x0, 1, 8, 0⟩
def CAN_ERR_BUSOFF : Fld := ⟨0x1c0008, 0x40, 4, 0x0, 1, 31, 24⟩
def CAN_ERR_PEX : Fld := ⟨0x1c0008, 0x40, 4, 0x0, 1, 23, 16⟩
def CAN_ERR_ERRORS : Fld := ⟨0x1c0008, 0x40, 4, 0x0, 1, 15, 0⟩
def CAN_OVF_RX_OVERFLOW : Fld := ⟨0x1c000c, 0x40, 4, 0x0, 1, 31, 16⟩
def CAN_OVF_HPSPILL : Fld := ⟨0x1c000c, 0x40, 4, 0x0, 1, 15, 0⟩
def CAN_RING0_WP : Fld := ⟨0x1c0010, 0x40, 4, 0x0, 1, 24, 16⟩
def CAN_RING0_FULL : Fld := ⟨0x1c0010, 0x40, 4, 0x0, 1, 9, 0⟩
def CAN_RING1_WP : Fld := ⟨0x1c0014, 0x40, 4, 0x0, 1, 24, 16⟩
def CAN_RING1_FULL : Fld := ⟨0x1c0014, 0x40, 4, 0x0, 1, 9, 0⟩
def CAN_ABD_DONE : Fld := ⟨0x1c0018, 0x40, 4, 0x0, 1, 31, 31⟩
def CAN_ABD_FAIL : Fld := ⟨0x1c0018, 0x40, 4, 0x0, 1, 30, 30⟩
def CAN_ABD_TRYING : Fld := ⟨0x1c0018, 0x40, 4, 0x0, 1, 20, 16⟩
def CAN_ABD_SET : Fld := ⟨0x1c0018, 0x40, 4, 0x0, 1, 12, 8⟩
def CAN_ABD_GOOD : Fld := ⟨0x1c0018, 0x40, 4, 0x0, 1, 3, 0⟩
def CAN_TIMING_SET : Fld := ⟨0x1c001c, 0x40, 4, 0x0, 1, 4, 0⟩
def CAN_TXGO_INDEX : Fld := ⟨0x1c0200, 0x0, 1, 0x0, 1, 8, 0⟩
def CAN_TXCANCEL_INDEX : Fld := ⟨0x1c0204, 0x0, 1, 0x0, 1, 8, 0⟩
def CAN_LOCKCLR_INDEX : Fld := ⟨0x1c0208, 0x0, 1, 0x0, 1, 8, 0⟩
def CAN_BUFERR_LAST : Fld := ⟨0x1c020c, 0x0, 1, 0x0, 1, 31, 23⟩
def CAN_BUFERR_CAUSE : Fld := ⟨0x1c020c, 0x0, 1, 0x0, 1, 22, 20⟩
def CAN_BUFERR_COUNT : Fld := ⟨0x1c020c, 0x0, 1, 0x0, 1, 19, 0⟩
def CAN_LOCKTO_COUNT : Fld := ⟨0x1c0210, 0x0, 1, 0x0, 1, 31, 0⟩
def CAN_FULL_MAP : Fld := ⟨0x1c0400, 0x4, 16, 0x0, 1, 31, 0⟩
def CAN_LOCK_MAP : Fld := ⟨0x1c0440, 0x4, 16, 0x0, 1, 31, 0⟩
def CAN_PEND_MAP : Fld := ⟨0x1c0480, 0x4, 16, 0x0, 1, 31, 0⟩
def CAN_BSTAT_ROLE : Fld := ⟨0x1c2000, 0x4, 512, 0x0, 1, 31, 29⟩
def CAN_BSTAT_CTRL : Fld := ⟨0x1c2000, 0x4, 512, 0x0, 1, 28, 27⟩
def CAN_BSTAT_STATE : Fld := ⟨0x1c2000, 0x4, 512, 0x0, 1, 26, 24⟩
def CAN_BSTAT_CANCEL_LATE : Fld := ⟨0x1c2000, 0x4, 512, 0x0, 1, 8, 8⟩
def CAN_BSTAT_RESULT : Fld := ⟨0x1c2000, 0x4, 512, 0x0, 1, 3, 0⟩
def CAN_POOL_WORD : Fld := ⟨0x1c4000, 0x4, 10240, 0x0, 1, 31, 0⟩

/-- The registers of spec/14_can.md. -/
def regRows14 : List RegRow :=
  [⟨0x1c0000, 0x40, 4, 0x0, 1, [⟨31, 31, .wo, 0x0⟩, ⟨3, 2, .rw, 0x0⟩, ⟨1, 1, .rw, 0x0⟩, ⟨0, 0, .rw, 0x0⟩]⟩,
   ⟨0x1c0004, 0x40, 4, 0x0, 1, [⟨31, 28, .ro, 0x0⟩, ⟨27, 27, .ro, 0x0⟩, ⟨26, 24, .ro, 0x0⟩, ⟨23, 16, .ro, 0x0⟩, ⟨15, 9, .ro, 0x0⟩, ⟨8, 0, .ro, 0x0⟩]⟩,
   ⟨0x1c0008, 0x40, 4, 0x0, 1, [⟨31, 24, .rc, 0x0⟩, ⟨23, 16, .rc, 0x0⟩, ⟨15, 0, .rc, 0x0⟩]⟩,
   ⟨0x1c000c, 0x40, 4, 0x0, 1, [⟨31, 16, .rc, 0x0⟩, ⟨15, 0, .rc, 0x0⟩]⟩,
   ⟨0x1c0010, 0x40, 4, 0x0, 1, [⟨24, 16, .ro, 0x0⟩, ⟨9, 0, .ro, 0x0⟩]⟩,
   ⟨0x1c0014, 0x40, 4, 0x0, 1, [⟨24, 16, .ro, 0x0⟩, ⟨9, 0, .ro, 0x0⟩]⟩,
   ⟨0x1c0018, 0x40, 4, 0x0, 1, [⟨31, 31, .ro, 0x0⟩, ⟨30, 30, .ro, 0x0⟩, ⟨20, 16, .ro, 0x0⟩, ⟨12, 8, .ro, 0x0⟩, ⟨3, 0, .ro, 0x0⟩]⟩,
   ⟨0x1c001c, 0x40, 4, 0x0, 1, [⟨4, 0, .ro, 0x0⟩]⟩,
   ⟨0x1c0200, 0x4, 1, 0x0, 1, [⟨8, 0, .wo, 0x0⟩]⟩,
   ⟨0x1c0204, 0x4, 1, 0x0, 1, [⟨8, 0, .wo, 0x0⟩]⟩,
   ⟨0x1c0208, 0x4, 1, 0x0, 1, [⟨8, 0, .wo, 0x0⟩]⟩,
   ⟨0x1c020c, 0x4, 1, 0x0, 1, [⟨31, 23, .ro, 0x0⟩, ⟨22, 20, .ro, 0x0⟩, ⟨19, 0, .rc, 0x0⟩]⟩,
   ⟨0x1c0210, 0x4, 1, 0x0, 1, [⟨31, 0, .rc, 0x0⟩]⟩,
   ⟨0x1c0400, 0x4, 16, 0x0, 1, [⟨31, 0, .ro, 0x0⟩]⟩,
   ⟨0x1c0440, 0x4, 16, 0x0, 1, [⟨31, 0, .ro, 0x0⟩]⟩,
   ⟨0x1c0480, 0x4, 16, 0x0, 1, [⟨31, 0, .ro, 0x0⟩]⟩,
   ⟨0x1c2000, 0x4, 512, 0x0, 1, [⟨31, 29, .ro, 0x0⟩, ⟨28, 27, .ro, 0x0⟩, ⟨26, 24, .ro, 0x0⟩, ⟨8, 8, .ro, 0x0⟩, ⟨3, 0, .ro, 0x0⟩]⟩,
   ⟨0x1c4000, 0x4, 10240, 0x0, 1, [⟨31, 0, .rw, 0x0⟩]⟩]

/-! ## spec/15_township_pair.md -/

def ETH_CTRL_PROMISC : Fld := ⟨0x1d0000, 0x100, 2, 0x0, 1, 1, 1⟩
def ETH_CTRL_EN : Fld := ⟨0x1d0000, 0x100, 2, 0x0, 1, 0, 0⟩
def ETH_STAT_SPEED : Fld := ⟨0x1d0004, 0x100, 2, 0x0, 1, 2, 1⟩
def ETH_STAT_LINK : Fld := ⟨0x1d0004, 0x100, 2, 0x0, 1, 0, 0⟩
def ETH_RXWR_INDEX : Fld := ⟨0x1d0010, 0x100, 2, 0x0, 1, 11, 0⟩
def ETH_RXRD_INDEX : Fld := ⟨0x1d0014, 0x100, 2, 0x0, 1, 11, 0⟩
def ETH_TXWR_INDEX : Fld := ⟨0x1d0018, 0x100, 2, 0x0, 1, 11, 0⟩
def ETH_TXDONE_INDEX : Fld := ⟨0x1d001c, 0x100, 2, 0x0, 1, 11, 0⟩
def ETH_ERR_FCS : Fld := ⟨0x1d0020, 0x100, 2, 0x0, 1, 31, 16⟩
def ETH_ERR_NODESC : Fld := ⟨0x1d0020, 0x100, 2, 0x0, 1, 15, 0⟩
def ETH_MDIO_BUSY : Fld := ⟨0x1d0800, 0x0, 1, 0x0, 1, 31, 31⟩
def ETH_MDIO_READ : Fld := ⟨0x1d0800, 0x0, 1, 0x0, 1, 30, 30⟩
def ETH_MDIO_PHY : Fld := ⟨0x1d0800, 0x0, 1, 0x0, 1, 29, 25⟩
def ETH_MDIO_REG : Fld := ⟨0x1d0800, 0x0, 1, 0x0, 1, 24, 20⟩
def ETH_MDIO_DATA : Fld := ⟨0x1d0800, 0x0, 1, 0x0, 1, 15, 0⟩
def TWN_STAT_DUP : Fld := ⟨0x1e0000, 0x0, 1, 0x0, 1, 31, 31⟩
def TWN_STAT_GM : Fld := ⟨0x1e0000, 0x0, 1, 0x0, 1, 30, 30⟩
def TWN_STAT_SIDE : Fld := ⟨0x1e0000, 0x0, 1, 0x0, 1, 15, 15⟩
def TWN_STAT_PARCEL : Fld := ⟨0x1e0000, 0x0, 1, 0x0, 1, 11, 0⟩
def TWN_PTP_V : Fld := ⟨0x1e0004, 0x0, 1, 0x0, 1, 31, 0⟩
def TWN_OUT_DROP : Fld := ⟨0x1e0100, 0x4, 8, 0x0, 1, 31, 16⟩
def TWN_OUT_SENT : Fld := ⟨0x1e0100, 0x4, 8, 0x0, 1, 15, 0⟩
def TWN_IMP_LO_ACCEPTED : Fld := ⟨0x1e0200, 0x8, 8, 0x0, 1, 31, 16⟩
def TWN_IMP_LO_LATE : Fld := ⟨0x1e0200, 0x8, 8, 0x0, 1, 15, 0⟩
def TWN_IMP_HI_GAP : Fld := ⟨0x1e0204, 0x8, 8, 0x0, 1, 31, 16⟩
def TWN_IMP_HI_QFULL : Fld := ⟨0x1e0204, 0x8, 8, 0x0, 1, 15, 8⟩
def TWN_IMP_HI_UNLOCKED : Fld := ⟨0x1e0204, 0x8, 8, 0x0, 1, 7, 0⟩
def TWN_IMPERR_V : Fld := ⟨0x1e0300, 0x0, 1, 0x0, 1, 31, 0⟩
def TWN_MIRDROP_V : Fld := ⟨0x1e0304, 0x0, 1, 0x0, 1, 31, 0⟩
def PAIR_CTRL_SWITCHOVER : Fld := ⟨0x1f0000, 0x0, 1, 0x0, 1, 0, 0⟩
def PAIR_STAT_ROLE : Fld := ⟨0x1f0004, 0x0, 1, 0x0, 1, 31, 30⟩
def PAIR_STAT_MODE : Fld := ⟨0x1f0004, 0x0, 1, 0x0, 1, 29, 29⟩
def PAIR_STAT_LINK : Fld := ⟨0x1f0004, 0x0, 1, 0x0, 1, 28, 28⟩
def PAIR_STAT_SPLIT : Fld := ⟨0x1f0004, 0x0, 1, 0x0, 1, 27, 27⟩
def PAIR_STAT_ALIVE : Fld := ⟨0x1f0004, 0x0, 1, 0x0, 1, 26, 26⟩
def PAIR_STAT_LAT_NS : Fld := ⟨0x1f0004, 0x0, 1, 0x0, 1, 15, 0⟩
def PAIR_DIV_LOOP : Fld := ⟨0x1f0008, 0x0, 1, 0x0, 1, 31, 20⟩
def PAIR_DIV_EXTRA : Fld := ⟨0x1f0008, 0x0, 1, 0x0, 1, 19, 10⟩
def PAIR_DIV_MISSING : Fld := ⟨0x1f0008, 0x0, 1, 0x0, 1, 9, 0⟩
def PAIR_ERR_V : Fld := ⟨0x1f000c, 0x0, 1, 0x0, 1, 31, 0⟩
def PAIR_TAKEOVERS_V : Fld := ⟨0x1f0010, 0x0, 1, 0x0, 1, 31, 0⟩

/-- The registers of spec/15_township_pair.md. -/
def regRows15 : List RegRow :=
  [⟨0x1d0000, 0x100, 2, 0x0, 1, [⟨1, 1, .rw, 0x0⟩, ⟨0, 0, .rw, 0x0⟩]⟩,
   ⟨0x1d0004, 0x100, 2, 0x0, 1, [⟨2, 1, .ro, 0x0⟩, ⟨0, 0, .ro, 0x0⟩]⟩,
   ⟨0x1d0010, 0x100, 2, 0x0, 1, [⟨11, 0, .ro, 0x0⟩]⟩,
   ⟨0x1d0014, 0x100, 2, 0x0, 1, [⟨11, 0, .rw, 0x0⟩]⟩,
   ⟨0x1d0018, 0x100, 2, 0x0, 1, [⟨11, 0, .rw, 0x0⟩]⟩,
   ⟨0x1d001c, 0x100, 2, 0x0, 1, [⟨11, 0, .ro, 0x0⟩]⟩,
   ⟨0x1d0020, 0x100, 2, 0x0, 1, [⟨31, 16, .rc, 0x0⟩, ⟨15, 0, .rc, 0x0⟩]⟩,
   ⟨0x1d0800, 0x4, 1, 0x0, 1, [⟨31, 31, .ro, 0x0⟩, ⟨30, 30, .rw, 0x0⟩, ⟨29, 25, .rw, 0x0⟩, ⟨24, 20, .rw, 0x0⟩, ⟨15, 0, .rw, 0x0⟩]⟩,
   ⟨0x1e0000, 0x4, 1, 0x0, 1, [⟨31, 31, .w1c, 0x0⟩, ⟨30, 30, .ro, 0x0⟩, ⟨15, 15, .ro, 0x0⟩, ⟨11, 0, .ro, 0x0⟩]⟩,
   ⟨0x1e0004, 0x4, 1, 0x0, 1, [⟨31, 0, .ro, 0x0⟩]⟩,
   ⟨0x1e0100, 0x4, 8, 0x0, 1, [⟨31, 16, .rc, 0x0⟩, ⟨15, 0, .ro, 0x0⟩]⟩,
   ⟨0x1e0200, 0x8, 8, 0x0, 1, [⟨31, 16, .ro, 0x0⟩, ⟨15, 0, .rc, 0x0⟩]⟩,
   ⟨0x1e0204, 0x8, 8, 0x0, 1, [⟨31, 16, .rc, 0x0⟩, ⟨15, 8, .rc, 0x0⟩, ⟨7, 0, .rc, 0x0⟩]⟩,
   ⟨0x1e0300, 0x4, 1, 0x0, 1, [⟨31, 0, .rc, 0x0⟩]⟩,
   ⟨0x1e0304, 0x4, 1, 0x0, 1, [⟨31, 0, .rc, 0x0⟩]⟩,
   ⟨0x1f0000, 0x4, 1, 0x0, 1, [⟨0, 0, .wo, 0x0⟩]⟩,
   ⟨0x1f0004, 0x4, 1, 0x0, 1, [⟨31, 30, .ro, 0x0⟩, ⟨29, 29, .ro, 0x0⟩, ⟨28, 28, .ro, 0x0⟩, ⟨27, 27, .w1c, 0x0⟩, ⟨26, 26, .ro, 0x0⟩, ⟨15, 0, .ro, 0x0⟩]⟩,
   ⟨0x1f0008, 0x4, 1, 0x0, 1, [⟨31, 20, .rc, 0x0⟩, ⟨19, 10, .rc, 0x0⟩, ⟨9, 0, .rc, 0x0⟩]⟩,
   ⟨0x1f000c, 0x4, 1, 0x0, 1, [⟨31, 0, .rc, 0x0⟩]⟩,
   ⟨0x1f0010, 0x4, 1, 0x0, 1, [⟨31, 0, .rc, 0x0⟩]⟩]

/-! ## spec/16_memory_ecc.md -/

def MEM_REGION_UNUSABLE : Fld := ⟨0x60000, 0x0, 1, 0x0, 1, 22, 16⟩
def MEM_REGION_INIT : Fld := ⟨0x60000, 0x0, 1, 0x0, 1, 6, 0⟩
def MEM_INIT_MARK : Fld := ⟨0x60004, 0x0, 1, 0x0, 1, 5, 0⟩
def MEM_MERGE_COUNT : Fld := ⟨0x60008, 0x0, 1, 0x0, 1, 31, 0⟩
def MEM_NVIGN_COUNT : Fld := ⟨0x6000c, 0x0, 1, 0x0, 1, 31, 0⟩
def MEM_NV_ADDR_ADDR : Fld := ⟨0x60020, 0x0, 1, 0x0, 1, 23, 0⟩
def MEM_NV_DATA_LO_DATA : Fld := ⟨0x60024, 0x0, 1, 0x0, 1, 31, 0⟩
def MEM_NV_DATA_HI_DATA : Fld := ⟨0x60028, 0x0, 1, 0x0, 1, 31, 0⟩
def MEM_NV_CMD_KEY : Fld := ⟨0x6002c, 0x0, 1, 0x0, 1, 31, 16⟩
def MEM_NV_CMD_GO : Fld := ⟨0x6002c, 0x0, 1, 0x0, 1, 0, 0⟩
def MEM_NV_STAT_BUSY : Fld := ⟨0x60030, 0x0, 1, 0x0, 1, 31, 31⟩
def MEM_NV_STAT_RESULT : Fld := ⟨0x60030, 0x0, 1, 0x0, 1, 30, 28⟩
def MEM_REPAIR_ADDR_ADDR : Fld := ⟨0x60040, 0x0, 1, 0x0, 1, 31, 0⟩
def MEM_REPAIR_KEY : Fld := ⟨0x60044, 0x0, 1, 0x0, 1, 31, 16⟩
def MEM_REPAIR_GO : Fld := ⟨0x60044, 0x0, 1, 0x0, 1, 0, 0⟩
def MEM_REPAIR_STAT_BUSY : Fld := ⟨0x60048, 0x0, 1, 0x0, 1, 31, 31⟩
def MEM_REPAIR_STAT_RESULT : Fld := ⟨0x60048, 0x0, 1, 0x0, 1, 30, 28⟩
def MEM_RSEL_MACRO : Fld := ⟨0x6004c, 0x0, 1, 0x0, 1, 7, 0⟩
def MEM_RINFO_FROWS : Fld := ⟨0x60050, 0x0, 1, 0x0, 1, 6, 4⟩
def MEM_RINFO_FCOLS : Fld := ⟨0x60050, 0x0, 1, 0x0, 1, 3, 2⟩
def MEM_RINFO_FIELD : Fld := ⟨0x60050, 0x0, 1, 0x0, 1, 1, 0⟩
def MEM_SCRUB_EN : Fld := ⟨0x60100, 0x40, 7, 0x0, 1, 31, 31⟩
def MEM_SCRUB_RATE : Fld := ⟨0x60100, 0x40, 7, 0x0, 1, 4, 0⟩
def MEM_BUCKET_LEAK_K : Fld := ⟨0x60104, 0x40, 7, 0x0, 1, 20, 16⟩
def MEM_BUCKET_SIZE : Fld := ⟨0x60104, 0x40, 7, 0x0, 1, 15, 0⟩
def MEM_LEVEL_LEVEL : Fld := ⟨0x60108, 0x40, 7, 0x0, 1, 15, 0⟩
def MEM_CE_COUNT : Fld := ⟨0x6010c, 0x40, 7, 0x0, 1, 31, 0⟩
def MEM_UE_SCRUB : Fld := ⟨0x60110, 0x40, 7, 0x0, 1, 31, 16⟩
def MEM_UE_DEMAND : Fld := ⟨0x60110, 0x40, 7, 0x0, 1, 15, 0⟩
def MEM_UEADDR_ADDR : Fld := ⟨0x60114, 0x40, 7, 0x0, 1, 31, 0⟩
def MEM_POS_WORD : Fld := ⟨0x60118, 0x40, 7, 0x0, 1, 22, 0⟩
def MEM_PASS_COUNT : Fld := ⟨0x6011c, 0x40, 7, 0x0, 1, 31, 0⟩
def MEM_QSTAT_OVF : Fld := ⟨0x60120, 0x40, 7, 0x0, 1, 31, 16⟩
def MEM_QSTAT_COUNT : Fld := ⟨0x60120, 0x40, 7, 0x0, 1, 6, 0⟩
def MEM_Q_VALID : Fld := ⟨0x61000, 0x4, 448, 0x0, 1, 31, 31⟩
def MEM_Q_WORD : Fld := ⟨0x61000, 0x4, 448, 0x0, 1, 22, 0⟩

/-- The registers of spec/16_memory_ecc.md. -/
def regRows16 : List RegRow :=
  [⟨0x60000, 0x4, 1, 0x0, 1, [⟨22, 16, .ro, 0x0⟩, ⟨6, 0, .ro, 0x40⟩]⟩,
   ⟨0x60004, 0x4, 1, 0x0, 1, [⟨5, 0, .w1s, 0x0⟩]⟩,
   ⟨0x60008, 0x4, 1, 0x0, 1, [⟨31, 0, .rc, 0x0⟩]⟩,
   ⟨0x6000c, 0x4, 1, 0x0, 1, [⟨31, 0, .rc, 0x0⟩]⟩,
   ⟨0x60020, 0x4, 1, 0x0, 1, [⟨23, 0, .rw, 0x0⟩]⟩,
   ⟨0x60024, 0x4, 1, 0x0, 1, [⟨31, 0, .rw, 0x0⟩]⟩,
   ⟨0x60028, 0x4, 1, 0x0, 1, [⟨31, 0, .rw, 0x0⟩]⟩,
   ⟨0x6002c, 0x4, 1, 0x0, 1, [⟨31, 16, .wo, 0x0⟩, ⟨0, 0, .wo, 0x0⟩]⟩,
   ⟨0x60030, 0x4, 1, 0x0, 1, [⟨31, 31, .ro, 0x0⟩, ⟨30, 28, .ro, 0x0⟩]⟩,
   ⟨0x60040, 0x4, 1, 0x0, 1, [⟨31, 0, .rw, 0x0⟩]⟩,
   ⟨0x60044, 0x4, 1, 0x0, 1, [⟨31, 16, .wo, 0x0⟩, ⟨0, 0, .wo, 0x0⟩]⟩,
   ⟨0x60048, 0x4, 1, 0x0, 1, [⟨31, 31, .ro, 0x0⟩, ⟨30, 28, .ro, 0x0⟩]⟩,
   ⟨0x6004c, 0x4, 1, 0x0, 1, [⟨7, 0, .rw, 0x0⟩]⟩,
   ⟨0x60050, 0x4, 1, 0x0, 1, [⟨6, 4, .ro, 0x0⟩, ⟨3, 2, .ro, 0x0⟩, ⟨1, 0, .ro, 0x0⟩]⟩,
   ⟨0x60100, 0x40, 7, 0x0, 1, [⟨31, 31, .rw, 0x1⟩, ⟨4, 0, .rw, 0xc⟩]⟩,
   ⟨0x60104, 0x40, 7, 0x0, 1, [⟨20, 16, .rw, 0x18⟩, ⟨15, 0, .rw, 0x20⟩]⟩,
   ⟨0x60108, 0x40, 7, 0x0, 1, [⟨15, 0, .ro, 0x0⟩]⟩,
   ⟨0x6010c, 0x40, 7, 0x0, 1, [⟨31, 0, .rc, 0x0⟩]⟩,
   ⟨0x60110, 0x40, 7, 0x0, 1, [⟨31, 16, .rc, 0x0⟩, ⟨15, 0, .rc, 0x0⟩]⟩,
   ⟨0x60114, 0x40, 7, 0x0, 1, [⟨31, 0, .ro, 0x0⟩]⟩,
   ⟨0x60118, 0x40, 7, 0x0, 1, [⟨22, 0, .ro, 0x0⟩]⟩,
   ⟨0x6011c, 0x40, 7, 0x0, 1, [⟨31, 0, .ro, 0x0⟩]⟩,
   ⟨0x60120, 0x40, 7, 0x0, 1, [⟨31, 16, .rc, 0x0⟩, ⟨6, 0, .ro, 0x0⟩]⟩,
   ⟨0x61000, 0x4, 448, 0x0, 1, [⟨31, 31, .ro, 0x0⟩, ⟨22, 0, .ro, 0x0⟩]⟩]

/-! ## spec/17_recorder.md -/

def REC_CTRL_EN : Fld := ⟨0x70000, 0x0, 1, 0x0, 1, 0, 0⟩
def REC_CMD_KEY : Fld := ⟨0x70004, 0x0, 1, 0x0, 1, 31, 16⟩
def REC_CMD_DUMP : Fld := ⟨0x70004, 0x0, 1, 0x0, 1, 2, 2⟩
def REC_CMD_CLEAR : Fld := ⟨0x70004, 0x0, 1, 0x0, 1, 1, 1⟩
def REC_CMD_FLUSH : Fld := ⟨0x70004, 0x0, 1, 0x0, 1, 0, 0⟩
def REC_STAT_DEGRADED : Fld := ⟨0x70008, 0x0, 1, 0x0, 1, 31, 31⟩
def REC_STAT_RELOADED : Fld := ⟨0x70008, 0x0, 1, 0x0, 1, 30, 30⟩
def REC_STAT_AON_RESTORED : Fld := ⟨0x70008, 0x0, 1, 0x0, 1, 29, 29⟩
def REC_STAT_BENCH_SPLIT : Fld := ⟨0x70008, 0x0, 1, 0x0, 1, 28, 28⟩
def REC_STAT_DUMPING : Fld := ⟨0x70008, 0x0, 1, 0x0, 1, 27, 27⟩
def REC_STAT_FLUSHING : Fld := ⟨0x70008, 0x0, 1, 0x0, 1, 26, 26⟩
def REC_STAT_DCAUSE : Fld := ⟨0x70008, 0x0, 1, 0x0, 1, 25, 24⟩
def REC_STAT_BADSLOT : Fld := ⟨0x70008, 0x0, 1, 0x0, 1, 7, 0⟩
def REC_SEQ_SEQ : Fld := ⟨0x7000c, 0x0, 1, 0x0, 1, 31, 0⟩
def REC_RSEQ_RSEQ : Fld := ⟨0x70010, 0x0, 1, 0x0, 1, 31, 0⟩
def REC_RING_SHUT : Fld := ⟨0x70014, 0x0, 1, 0x0, 1, 15, 8⟩
def REC_RING_RING : Fld := ⟨0x70014, 0x0, 1, 0x0, 1, 7, 0⟩
def REC_OPTIME_VALUE : Fld := ⟨0x70018, 0x0, 1, 0x0, 1, 31, 0⟩
def REC_PCYCLE_VALUE : Fld := ⟨0x7001c, 0x0, 1, 0x0, 1, 31, 0⟩
def REC_SUPPRESS_HOST : Fld := ⟨0x70020, 0x0, 1, 0x0, 1, 23, 16⟩
def REC_SUPPRESS_PFAIL : Fld := ⟨0x70020, 0x0, 1, 0x0, 1, 15, 8⟩
def REC_SUPPRESS_PERIODIC : Fld := ⟨0x70020, 0x0, 1, 0x0, 1, 7, 0⟩
def REC_SRC_KIND : Fld := ⟨0x70024, 0x0, 1, 0x0, 1, 9, 8⟩
def REC_SRC_INDEX : Fld := ⟨0x70024, 0x0, 1, 0x0, 1, 7, 0⟩
def REC_CURSOR_POS : Fld := ⟨0x70028, 0x0, 1, 0x0, 1, 10, 0⟩
def REC_MISSED_COUNT : Fld := ⟨0x7002c, 0x0, 1, 0x0, 1, 31, 0⟩
def REC_BENCH_VALID : Fld := ⟨0x70030, 0x0, 1, 0x0, 1, 31, 31⟩
def REC_BENCH_STATUS : Fld := ⟨0x70030, 0x0, 1, 0x0, 1, 23, 16⟩
def REC_BENCH_DCAUSE : Fld := ⟨0x70030, 0x0, 1, 0x0, 1, 15, 8⟩
def REC_BENCH_LAST_CAUSE : Fld := ⟨0x70030, 0x0, 1, 0x0, 1, 7, 0⟩
def REC_WINDOW_V : Fld := ⟨0x71000, 0x4, 64, 0x0, 1, 31, 0⟩

/-- The registers of spec/17_recorder.md. -/
def regRows17 : List RegRow :=
  [⟨0x70000, 0x4, 1, 0x0, 1, [⟨0, 0, .rw, 0x0⟩]⟩,
   ⟨0x70004, 0x4, 1, 0x0, 1, [⟨31, 16, .wo, 0x0⟩, ⟨2, 2, .wo, 0x0⟩, ⟨1, 1, .wo, 0x0⟩, ⟨0, 0, .wo, 0x0⟩]⟩,
   ⟨0x70008, 0x4, 1, 0x0, 1, [⟨31, 31, .ro, 0x0⟩, ⟨30, 30, .ro, 0x0⟩, ⟨29, 29, .ro, 0x0⟩, ⟨28, 28, .ro, 0x0⟩, ⟨27, 27, .ro, 0x0⟩, ⟨26, 26, .ro, 0x0⟩, ⟨25, 24, .ro, 0x0⟩, ⟨7, 0, .rc, 0x0⟩]⟩,
   ⟨0x7000c, 0x4, 1, 0x0, 1, [⟨31, 0, .ro, 0x0⟩]⟩,
   ⟨0x70010, 0x4, 1, 0x0, 1, [⟨31, 0, .ro, 0x0⟩]⟩,
   ⟨0x70014, 0x4, 1, 0x0, 1, [⟨15, 8, .ro, 0xff⟩, ⟨7, 0, .ro, 0xff⟩]⟩,
   ⟨0x70018, 0x4, 1, 0x0, 1, [⟨31, 0, .ro, 0x0⟩]⟩,
   ⟨0x7001c, 0x4, 1, 0x0, 1, [⟨31, 0, .ro, 0x0⟩]⟩,
   ⟨0x70020, 0x4, 1, 0x0, 1, [⟨23, 16, .ro, 0x0⟩, ⟨15, 8, .ro, 0x0⟩, ⟨7, 0, .ro, 0x0⟩]⟩,
   ⟨0x70024, 0x4, 1, 0x0, 1, [⟨9, 8, .rw, 0x0⟩, ⟨7, 0, .rw, 0x0⟩]⟩,
   ⟨0x70028, 0x4, 1, 0x0, 1, [⟨10, 0, .rwh, 0x0⟩]⟩,
   ⟨0x7002c, 0x4, 1, 0x0, 1, [⟨31, 0, .rc, 0x0⟩]⟩,
   ⟨0x70030, 0x4, 1, 0x0, 1, [⟨31, 31, .ro, 0x0⟩, ⟨23, 16, .ro, 0x0⟩, ⟨15, 8, .ro, 0x0⟩, ⟨7, 0, .ro, 0x0⟩]⟩,
   ⟨0x71000, 0x4, 64, 0x0, 1, [⟨31, 0, .ro, 0x0⟩]⟩]

/-- Every register of the map. -/
def regRows : List RegRow :=
  regRows00 ++ regRows01 ++ regRows02 ++ regRows03 ++ regRows04 ++ regRows05 ++ regRows06 ++ regRows07 ++ regRows08 ++ regRows09 ++ regRows10 ++ regRows11 ++ regRows12 ++ regRows13 ++ regRows14 ++ regRows15 ++ regRows16 ++ regRows17

/-- The registers with a reset value other than 0. -/
def resetRows : List RegRow :=
  [⟨0x190000, 0x100, 2, 0x0, 1, [⟨31, 31, .wo, 0x0⟩, ⟨16, 16, .rw, 0x0⟩, ⟨9, 0, .rw, 0x64⟩]⟩,
   ⟨0x190004, 0x100, 2, 0x0, 1, [⟨15, 8, .ro, 0xff⟩, ⟨3, 3, .ro, 0x1⟩, ⟨2, 2, .ro, 0x1⟩, ⟨1, 1, .ro, 0x0⟩, ⟨0, 0, .ro, 0x0⟩]⟩,
   ⟨0x28, 0x4, 1, 0x0, 1, [⟨5, 5, .w1c, 0x0⟩, ⟨4, 4, .w1c, 0x0⟩, ⟨3, 3, .w1c, 0x0⟩, ⟨2, 2, .w1c, 0x0⟩, ⟨1, 1, .w1c, 0x0⟩, ⟨0, 0, .w1c, 0x1⟩]⟩,
   ⟨0x1c, 0x4, 1, 0x0, 1, [⟨31, 16, .ro, 0x0⟩, ⟨3, 0, .ro, 0x2⟩]⟩,
   ⟨0x50004, 0x4, 1, 0x0, 1, [⟨31, 0, .rw, 0x1000000⟩]⟩,
   ⟨0x20014, 0x4, 1, 0x0, 1, [⟨31, 0, .ro, 0xffffffff⟩]⟩,
   ⟨0x20040, 0x4, 1, 0x0, 1, [⟨31, 31, .ro, 0x0⟩, ⟨9, 8, .rwh, 0x0⟩, ⟨7, 0, .rwh, 0x25⟩]⟩,
   ⟨0x1a1200, 0x4, 96, 0x0, 1, [⟨7, 0, .ro, 0x80⟩]⟩,
   ⟨0x1a0030, 0x4, 1, 0x0, 1, [⟨31, 31, .w1s, 0x0⟩, ⟨30, 30, .rw, 0x0⟩, ⟨29, 28, .rw, 0x0⟩, ⟨27, 22, .rw, 0x0⟩, ⟨15, 8, .rw, 0x14⟩, ⟨1, 1, .rw, 0x0⟩, ⟨0, 0, .rw, 0x1⟩]⟩,
   ⟨0x1a0034, 0x4, 1, 0x0, 1, [⟨31, 0, .rw, 0x1400000⟩]⟩,
   ⟨0xe0004, 0x100, 2, 0x0, 1, [⟨23, 20, .ro, 0x0⟩, ⟨19, 16, .ro, 0x0⟩, ⟨15, 12, .ro, 0xf⟩, ⟨1, 1, .ro, 0x0⟩, ⟨0, 0, .ro, 0x0⟩]⟩,
   ⟨0xf0004, 0x100, 8, 0x0, 1, [⟨31, 28, .ro, 0x1⟩, ⟨27, 27, .ro, 0x0⟩, ⟨26, 26, .ro, 0x0⟩, ⟨25, 21, .ro, 0x0⟩, ⟨11, 0, .ro, 0x0⟩]⟩,
   ⟨0xf0020, 0x100, 8, 0x0, 1, [⟨31, 31, .w1s, 0x0⟩, ⟨30, 30, .rw, 0x1⟩, ⟨27, 24, .rw, 0xf⟩, ⟨23, 8, .rw, 0x1⟩, ⟨7, 0, .rw, 0x1⟩]⟩,
   ⟨0xf0024, 0x100, 8, 0x0, 1, [⟨31, 0, .rw, 0xffffffff⟩]⟩,
   ⟨0xc0104, 0x20, 4, 0x0, 1, [⟨31, 24, .ro, 0x0⟩, ⟨23, 16, .ro, 0xff⟩, ⟨2, 2, .ro, 0x0⟩, ⟨1, 1, .ro, 0x1⟩, ⟨0, 0, .ro, 0x0⟩]⟩,
   ⟨0x130040, 0x4, 1, 0x0, 1, [⟨7, 0, .ro, 0xff⟩]⟩,
   ⟨0x14100c, 0x40, 64, 0x0, 1, [⟨31, 31, .w1c, 0x0⟩, ⟨30, 30, .w1c, 0x0⟩, ⟨29, 29, .w1c, 0x0⟩, ⟨28, 28, .w1c, 0x0⟩, ⟨27, 27, .w1c, 0x0⟩, ⟨26, 26, .w1c, 0x0⟩, ⟨25, 25, .w1c, 0x0⟩, ⟨15, 15, .ro, 0x0⟩, ⟨14, 14, .ro, 0x0⟩, ⟨13, 13, .ro, 0x0⟩, ⟨12, 12, .ro, 0x0⟩, ⟨11, 11, .ro, 0x0⟩, ⟨10, 10, .ro, 0x0⟩, ⟨9, 9, .ro, 0x0⟩, ⟨8, 8, .ro, 0x0⟩, ⟨7, 7, .ro, 0x0⟩, ⟨6, 6, .ro, 0x0⟩, ⟨4, 0, .ro, 0x1f⟩]⟩,
   ⟨0x170000, 0x4, 1, 0x10000, 2, [⟨31, 31, .ro, 0x0⟩, ⟨30, 30, .ro, 0x1⟩, ⟨29, 29, .ro, 0x0⟩]⟩,
   ⟨0x170040, 0x4, 3, 0x10000, 2, [⟨31, 31, .ro, 0x1⟩, ⟨30, 30, .ro, 0x1⟩, ⟨15, 0, .ro, 0x0⟩]⟩,
   ⟨0x90114, 0x40, 8, 0x0, 1, [⟨31, 29, .ro, 0x7⟩, ⟨13, 0, .ro, 0x2710⟩]⟩,
   ⟨0x90118, 0x40, 8, 0x0, 1, [⟨31, 0, .ro, 0x3f800000⟩]⟩,
   ⟨0x60000, 0x4, 1, 0x0, 1, [⟨22, 16, .ro, 0x0⟩, ⟨6, 0, .ro, 0x40⟩]⟩,
   ⟨0x60100, 0x40, 7, 0x0, 1, [⟨31, 31, .rw, 0x1⟩, ⟨4, 0, .rw, 0xc⟩]⟩,
   ⟨0x60104, 0x40, 7, 0x0, 1, [⟨20, 16, .rw, 0x18⟩, ⟨15, 0, .rw, 0x20⟩]⟩,
   ⟨0x70014, 0x4, 1, 0x0, 1, [⟨15, 8, .ro, 0xff⟩, ⟨7, 0, .ro, 0xff⟩]⟩]

/-- The value the fields of a row make up at reset. -/
def rowReset (r : RegRow) : Nat := (r.fields.map (fun f => f.reset * 2 ^ f.lo)).sum

/-- What the register at BAR0 address `a` holds at reset. -/
def regReset (a : Nat) : Word :=
  match resetRows.find? (fun r => r.holds a) with
  | some r => BitVec.ofNat 32 (rowReset r)
  | none => 0

/-- The row of the register at BAR0 address `a`, if there is one. -/
def regRow (a : Nat) : Option RegRow := regRows.find? (fun r => r.holds a)

end Sys2Proof.Machine
end

