-- ==== Sys2Proof/Machine/Schema.lean ====
section
/-! DEFINITION. The record schema of the plat image: for every section type of R90 and every record kind
of the chapters, the fields in order (R88), their widths, what happens out of range (R94), their reset
values (R89) and whether an amendment may set them (R108). A field without a default in its table takes
reset value 0 (assumption log 3). -/

namespace Sys2Proof.Machine

/-- What the check phase does with a field (R94, R18). -/
inductive FRule where
  | any
  | flag
  | mask (m : Nat)
  | key (ranges : List (Nat × Nat))
  | clampU (lo hi : Nat)
  | zeroOrU (lo hi : Nat)
  | clampS (lo hi : Int)
  | float
  | floatNZ
  | clampF (lo hi : Nat)
  | zeroOrF (lo hi : Nat)
  | stepsU (lo hi st : Nat)
  | steps (vals : List Nat)
  | noneAbove (hi : Nat)
  | gain
  | opcode
  | axes
  | nomatch
  | datum
  deriving DecidableEq, Repr

/-- One field of a record kind: width in bits, rule, reset value, amendable. -/
structure CField where
  w : Nat
  rule : FRule
  dflt : Nat
  amend : Bool
  deriving DecidableEq, Repr

/-- One record kind: section type, kind, the fields that name the instance, the fields. -/
structure CKind where
  sect : Nat
  kind : Nat
  keys : List Nat
  fields : List CField
  deriving DecidableEq, Repr

/-- A field's place in the committed configuration. -/
structure CRef where
  sect : Nat
  kind : Nat
  field : Nat
  dflt : Nat
  deriving DecidableEq, Repr

/-! PIN (0x10 kind 0) -/

def C_PIN_PIN : CRef := ⟨0x10, 0, 0, 0x0⟩
def C_PIN_MODE : CRef := ⟨0x10, 0, 1, 0x0⟩
def C_PIN_POLARITY : CRef := ⟨0x10, 0, 2, 0x0⟩
def C_PIN_EDGES : CRef := ⟨0x10, 0, 3, 0x3⟩
def C_PIN_GLITCH : CRef := ⟨0x10, 0, 4, 0x0⟩
def C_PIN_DRIVE : CRef := ⟨0x10, 0, 5, 0x2⟩
def C_PIN_GATE : CRef := ⟨0x10, 0, 6, 0x0⟩
def C_PIN_MIN_W : CRef := ⟨0x10, 0, 7, 0x14⟩
def C_PIN_MIN_GAP : CRef := ⟨0x10, 0, 8, 0x0⟩
def C_PIN_PERIOD : CRef := ⟨0x10, 0, 9, 0x9c40⟩
def C_PIN_PHASE : CRef := ⟨0x10, 0, 10, 0x0⟩
def C_PIN_DUTY_SRC : CRef := ⟨0x10, 0, 11, 0x0⟩
def C_PIN_WIDTH : CRef := ⟨0x10, 0, 12, 0x0⟩
def C_PIN_GATE_US : CRef := ⟨0x10, 0, 13, 0x2710⟩
def C_PIN_RATE_SCALE : CRef := ⟨0x10, 0, 14, 0x3f800000⟩

/-- The PIN record. -/
def kindPin : CKind :=
  ⟨0x10, 0, [0],
    [⟨8, .key [(0, 63)], 0x0, false⟩, ⟨8, .key [(0, 7)], 0x0, false⟩, ⟨8, .flag, 0x0, true⟩, ⟨8, .mask 0x3, 0x3, true⟩, ⟨8, .any, 0x0, true⟩, ⟨8, .clampU 0 3, 0x2, true⟩, ⟨8, .clampU 0 2, 0x0, true⟩, ⟨32, .clampU 1 134217720, 0x14, true⟩, ⟨32, .clampU 0 134217720, 0x0, true⟩, ⟨32, .clampU 40 1000000000, 0x9c40, true⟩, ⟨32, .any, 0x0, true⟩, ⟨8, .clampU 0 2, 0x0, false⟩, ⟨32, .any, 0x0, true⟩, ⟨32, .clampU 100 1000000, 0x2710, true⟩, ⟨32, .clampF 0xce6e6b28 0x4e6e6b28, 0x3f800000, true⟩]⟩

/-! FLAG (0x10 kind 1) -/

def C_FLAG_FLAG : CRef := ⟨0x10, 1, 0, 0x0⟩
def C_FLAG_SOURCE : CRef := ⟨0x10, 1, 1, 0x0⟩
def C_FLAG_INVERT : CRef := ⟨0x10, 1, 2, 0x0⟩

/-- The FLAG record. -/
def kindFlag : CKind :=
  ⟨0x10, 1, [0],
    [⟨8, .key [(0, 15)], 0x0, false⟩, ⟨16, .any, 0x0, false⟩, ⟨8, .flag, 0x0, true⟩]⟩

/-! REFLEX_OUT (0x10 kind 2) -/

def C_REFLEX_OUT_OUT : CRef := ⟨0x10, 2, 0, 0x0⟩
def C_REFLEX_OUT_SEL0 : CRef := ⟨0x10, 2, 1, 0xff⟩
def C_REFLEX_OUT_SEL1 : CRef := ⟨0x10, 2, 2, 0xff⟩
def C_REFLEX_OUT_SEL2 : CRef := ⟨0x10, 2, 3, 0xff⟩
def C_REFLEX_OUT_SEL3 : CRef := ⟨0x10, 2, 4, 0xff⟩
def C_REFLEX_OUT_SEL4 : CRef := ⟨0x10, 2, 5, 0xff⟩
def C_REFLEX_OUT_SEL5 : CRef := ⟨0x10, 2, 6, 0xff⟩
def C_REFLEX_OUT_LUT : CRef := ⟨0x10, 2, 7, 0x0⟩
def C_REFLEX_OUT_LATCH : CRef := ⟨0x10, 2, 8, 0x0⟩
def C_REFLEX_OUT_RESET_SEL : CRef := ⟨0x10, 2, 9, 0xff⟩
def C_REFLEX_OUT_RESET_INV : CRef := ⟨0x10, 2, 10, 0x0⟩
def C_REFLEX_OUT_STRETCH : CRef := ⟨0x10, 2, 11, 0x0⟩
def C_REFLEX_OUT_EVT : CRef := ⟨0x10, 2, 12, 0xff⟩

/-- The REFLEX_OUT record. -/
def kindReflexOut : CKind :=
  ⟨0x10, 2, [0],
    [⟨8, .key [(0, 63)], 0x0, false⟩, ⟨8, .key [(0, 79), (255, 255)], 0xff, true⟩, ⟨8, .key [(0, 79), (255, 255)], 0xff, true⟩, ⟨8, .key [(0, 79), (255, 255)], 0xff, true⟩, ⟨8, .key [(0, 79), (255, 255)], 0xff, true⟩, ⟨8, .key [(0, 79), (255, 255)], 0xff, true⟩, ⟨8, .key [(0, 79), (255, 255)], 0xff, true⟩, ⟨64, .any, 0x0, true⟩, ⟨8, .flag, 0x0, true⟩, ⟨8, .key [(0, 79), (255, 255)], 0xff, true⟩, ⟨8, .flag, 0x0, true⟩, ⟨16, .any, 0x0, true⟩, ⟨8, .noneAbove 15, 0xff, true⟩]⟩

/-! CHAIN (0x20 kind 0) -/

def C_CHAIN_LINK : CRef := ⟨0x20, 0, 0, 0x0⟩
def C_CHAIN_TIMEOUT : CRef := ⟨0x20, 0, 1, 0x64⟩
def C_CHAIN_AUTO_RESUME : CRef := ⟨0x20, 0, 2, 0x0⟩

/-- The CHAIN record. -/
def kindChain : CKind :=
  ⟨0x20, 0, [0],
    [⟨8, .key [(0, 1)], 0x0, false⟩, ⟨16, .clampU 1 1000, 0x64, true⟩, ⟨8, .flag, 0x0, true⟩]⟩

/-! CHANNEL (0x30 kind 0) -/

def C_CHANNEL_CHANNEL : CRef := ⟨0x30, 0, 0, 0x0⟩
def C_CHANNEL_MODE : CRef := ⟨0x30, 0, 1, 0x0⟩
def C_CHANNEL_PIN_N : CRef := ⟨0x30, 0, 2, 0x10⟩
def C_CHANNEL_PIN_X : CRef := ⟨0x30, 0, 3, 0xff⟩
def C_CHANNEL_PIN_R : CRef := ⟨0x30, 0, 4, 0x10⟩
def C_CHANNEL_SOURCE : CRef := ⟨0x30, 0, 5, 0xff⟩
def C_CHANNEL_IEXC : CRef := ⟨0x30, 0, 6, 0x64⟩
def C_CHANNEL_WIRES : CRef := ⟨0x30, 0, 7, 0x4⟩
def C_CHANNEL_LEADCOMP : CRef := ⟨0x30, 0, 8, 0x0⟩
def C_CHANNEL_LEAD_OHM : CRef := ⟨0x30, 0, 9, 0x0⟩
def C_CHANNEL_REVERSE : CRef := ⟨0x30, 0, 10, 0x0⟩
def C_CHANNEL_ADC : CRef := ⟨0x30, 0, 11, 0x0⟩
def C_CHANNEL_GAIN : CRef := ⟨0x30, 0, 12, 0x0⟩
def C_CHANNEL_REF : CRef := ⟨0x30, 0, 13, 0x0⟩
def C_CHANNEL_ATTEN : CRef := ⟨0x30, 0, 14, 0x0⟩
def C_CHANNEL_RATE : CRef := ⟨0x30, 0, 15, 0x9⟩
def C_CHANNEL_SETTLE : CRef := ⟨0x30, 0, 16, 0x3e8⟩
def C_CHANNEL_INTERVAL : CRef := ⟨0x30, 0, 17, 0x0⟩
def C_CHANNEL_PASS_UNSETTLED : CRef := ⟨0x30, 0, 18, 0x0⟩
def C_CHANNEL_SHUNT : CRef := ⟨0x30, 0, 19, 0x437a0000⟩

/-- The CHANNEL record. -/
def kindChannel : CKind :=
  ⟨0x30, 0, [0],
    [⟨8, .key [(0, 31)], 0x0, false⟩, ⟨8, .key [(0, 8)], 0x0, false⟩, ⟨8, .key [(0, 17)], 0x10, false⟩, ⟨8, .key [(0, 15), (255, 255)], 0xff, false⟩, ⟨8, .key [(0, 16)], 0x10, false⟩, ⟨8, .key [(0, 7), (255, 255)], 0xff, false⟩, ⟨16, .clampU 1 2000, 0x64, true⟩, ⟨8, .clampU 2 4, 0x4, false⟩, ⟨8, .flag, 0x0, false⟩, ⟨32, .clampF 0x0 0x447a0000, 0x0, true⟩, ⟨8, .flag, 0x0, true⟩, ⟨8, .flag, 0x0, false⟩, ⟨8, .gain, 0x0, true⟩, ⟨8, .flag, 0x0, false⟩, ⟨8, .flag, 0x0, false⟩, ⟨8, .clampU 0 10, 0x9, true⟩, ⟨32, .clampU 0 1000000, 0x3e8, true⟩, ⟨32, .clampU 0 3600000, 0x0, true⟩, ⟨8, .flag, 0x0, true⟩, ⟨32, .clampF 0x3f800000 0x461c4000, 0x437a0000, true⟩]⟩

/-! FAST (0x30 kind 1) -/

def C_FAST_CHANNEL : CRef := ⟨0x30, 1, 0, 0x0⟩
def C_FAST_PATH : CRef := ⟨0x30, 1, 1, 0x0⟩
def C_FAST_LO_RANGE : CRef := ⟨0x30, 1, 2, 0x1⟩
def C_FAST_RATIO : CRef := ⟨0x30, 1, 3, 0x1⟩
def C_FAST_SWITCH_THR : CRef := ⟨0x30, 1, 4, 0x3f666666⟩
def C_FAST_DECIM : CRef := ⟨0x30, 1, 5, 0x1⟩
def C_FAST_CF : CRef := ⟨0x30, 1, 6, 0x6⟩
def C_FAST_INVERT : CRef := ⟨0x30, 1, 7, 0x0⟩
def C_FAST_QRESET_MODE : CRef := ⟨0x30, 1, 8, 0x2⟩
def C_FAST_QRESET_PERIOD : CRef := ⟨0x30, 1, 9, 0x3e8⟩
def C_FAST_QRESET_THR : CRef := ⟨0x30, 1, 10, 0x3f000000⟩
def C_FAST_QRESET_DWELL : CRef := ⟨0x30, 1, 11, 0x3e8⟩
def C_FAST_QRESET_NS : CRef := ⟨0x30, 1, 12, 0x1388⟩

/-- The FAST record. -/
def kindFast : CKind :=
  ⟨0x30, 1, [0],
    [⟨8, .key [(0, 31)], 0x0, false⟩, ⟨8, .key [(0, 3)], 0x0, false⟩, ⟨8, .clampU 0 2, 0x1, false⟩, ⟨8, .clampU 0 2, 0x1, false⟩, ⟨32, .clampF 0x3f000000 0x3f733333, 0x3f666666, true⟩, ⟨8, .steps [1, 2, 4, 8], 0x1, true⟩, ⟨8, .clampU 0 9, 0x6, true⟩, ⟨8, .flag, 0x0, true⟩, ⟨8, .mask 0x3, 0x2, true⟩, ⟨32, .clampU 1 60000, 0x3e8, true⟩, ⟨32, .clampF 0x3dcccccd 0x3f733333, 0x3f000000, true⟩, ⟨32, .clampU 10 100000, 0x3e8, true⟩, ⟨32, .clampU 1000 100000, 0x1388, true⟩]⟩

/-! SWEEP (0x30 kind 2) -/

def C_SWEEP_CHANNEL : CRef := ⟨0x30, 2, 0, 0x0⟩
def C_SWEEP_DRIVE_PIN : CRef := ⟨0x30, 2, 1, 0x0⟩
def C_SWEEP_AMPL : CRef := ⟨0x30, 2, 2, 0x3f800000⟩
def C_SWEEP_NFREQ : CRef := ⟨0x30, 2, 3, 0x8⟩
def C_SWEEP_F0 : CRef := ⟨0x30, 2, 4, 0x3e8⟩
def C_SWEEP_F1 : CRef := ⟨0x30, 2, 5, 0x7d0⟩
def C_SWEEP_F2 : CRef := ⟨0x30, 2, 6, 0x1388⟩
def C_SWEEP_F3 : CRef := ⟨0x30, 2, 7, 0x2710⟩
def C_SWEEP_F4 : CRef := ⟨0x30, 2, 8, 0xc350⟩
def C_SWEEP_F5 : CRef := ⟨0x30, 2, 9, 0x30d40⟩
def C_SWEEP_F6 : CRef := ⟨0x30, 2, 10, 0x7a120⟩
def C_SWEEP_F7 : CRef := ⟨0x30, 2, 11, 0x1e8480⟩
def C_SWEEP_DWELL : CRef := ⟨0x30, 2, 12, 0x7d0⟩
def C_SWEEP_REFCAL : CRef := ⟨0x30, 2, 13, 0x64⟩

/-- The SWEEP record. -/
def kindSweep : CKind :=
  ⟨0x30, 2, [0],
    [⟨8, .key [(0, 31)], 0x0, false⟩, ⟨8, .key [(0, 15)], 0x0, false⟩, ⟨32, .clampF 0x3dcccccd 0x40000000, 0x3f800000, true⟩, ⟨8, .clampU 1 8, 0x8, true⟩, ⟨32, .clampU 1000 2000000, 0x3e8, true⟩, ⟨32, .clampU 1000 2000000, 0x7d0, true⟩, ⟨32, .clampU 1000 2000000, 0x1388, true⟩, ⟨32, .clampU 1000 2000000, 0x2710, true⟩, ⟨32, .clampU 1000 2000000, 0xc350, true⟩, ⟨32, .clampU 1000 2000000, 0x30d40, true⟩, ⟨32, .clampU 1000 2000000, 0x7a120, true⟩, ⟨32, .clampU 1000 2000000, 0x1e8480, true⟩, ⟨32, .clampU 10 100000, 0x7d0, true⟩, ⟨16, .any, 0x64, true⟩]⟩

/-! CABLE (0x30 kind 3) -/

def C_CABLE_CHANNEL : CRef := ⟨0x30, 3, 0, 0x0⟩
def C_CABLE_POSITIONS : CRef := ⟨0x30, 3, 1, 0x8⟩
def C_CABLE_STEP_UA : CRef := ⟨0x30, 3, 2, 0x7d0⟩
def C_CABLE_STEP_US : CRef := ⟨0x30, 3, 3, 0x7d0⟩
def C_CABLE_RESET_MS : CRef := ⟨0x30, 3, 4, 0x32⟩
def C_CABLE_OUT : CRef := ⟨0x30, 3, 5, 0x1⟩

/-- The CABLE record. -/
def kindCable : CKind :=
  ⟨0x30, 3, [0],
    [⟨8, .key [(0, 31)], 0x0, false⟩, ⟨8, .clampU 1 32, 0x8, false⟩, ⟨16, .clampU 1000 2000, 0x7d0, true⟩, ⟨32, .clampU 100 100000, 0x7d0, true⟩, ⟨16, .clampU 1 10000, 0x32, true⟩, ⟨8, .clampU 0 2, 0x1, true⟩]⟩

/-! DIE (0x30 kind 4) -/

def C_DIE_DIE : CRef := ⟨0x30, 4, 0, 0x0⟩
def C_DIE_CAL_INTERVAL : CRef := ⟨0x30, 4, 1, 0x258⟩
def C_DIE_RREF : CRef := ⟨0x30, 4, 2, 0x0⟩

/-- The DIE record. -/
def kindDie : CKind :=
  ⟨0x30, 4, [0],
    [⟨8, .key [(0, 1)], 0x0, false⟩, ⟨32, .clampU 0 86400, 0x258, true⟩, ⟨32, .zeroOrF 0x3f800000 0x49742400, 0x0, true⟩]⟩

/-! FEATURE_GROUP (0x40 kind 0) -/

def C_FEATURE_GROUP_GROUP : CRef := ⟨0x40, 0, 0, 0x0⟩
def C_FEATURE_GROUP_STATIONS : CRef := ⟨0x40, 0, 1, 0x0⟩
def C_FEATURE_GROUP_Y_SCALE : CRef := ⟨0x40, 0, 2, 0x3f800000⟩

/-- The FEATURE_GROUP record. -/
def kindFeatureGroup : CKind :=
  ⟨0x40, 0, [0],
    [⟨8, .key [(0, 15)], 0x0, false⟩, ⟨16, .key [(1, 65535)], 0x0, false⟩, ⟨32, .clampF 0x3c23d70a 0x42c80000, 0x3f800000, true⟩]⟩

/-! FEATURE_DEF (0x40 kind 1) -/

def C_FEATURE_DEF_GROUP : CRef := ⟨0x40, 1, 0, 0x0⟩
def C_FEATURE_DEF_INDEX : CRef := ⟨0x40, 1, 1, 0x0⟩
def C_FEATURE_DEF_OP : CRef := ⟨0x40, 1, 2, 0x0⟩
def C_FEATURE_DEF_ARG_A : CRef := ⟨0x40, 1, 3, 0x0⟩
def C_FEATURE_DEF_ARG_B : CRef := ⟨0x40, 1, 4, 0x0⟩
def C_FEATURE_DEF_VIEW : CRef := ⟨0x40, 1, 5, 0x0⟩
def C_FEATURE_DEF_SCALE : CRef := ⟨0x40, 1, 6, 0x3f800000⟩
def C_FEATURE_DEF_OFFSET : CRef := ⟨0x40, 1, 7, 0x0⟩

/-- The FEATURE_DEF record. -/
def kindFeatureDef : CKind :=
  ⟨0x40, 1, [0, 1],
    [⟨8, .key [(0, 15)], 0x0, false⟩, ⟨8, .key [(0, 47)], 0x0, false⟩, ⟨8, .opcode, 0x0, true⟩, ⟨8, .clampU 0 3, 0x0, true⟩, ⟨8, .clampU 0 3, 0x0, true⟩, ⟨8, .clampU 0 3, 0x0, true⟩, ⟨32, .clampF 0xc7800000 0x47800000, 0x3f800000, true⟩, ⟨32, .clampF 0xc7800000 0x47800000, 0x0, true⟩]⟩

/-! SIGNAL_STATION (0x40 kind 2) -/

def C_SIGNAL_STATION_STATION : CRef := ⟨0x40, 2, 0, 0x0⟩
def C_SIGNAL_STATION_NOPS : CRef := ⟨0x40, 2, 1, 0x0⟩
def C_SIGNAL_STATION_EN : CRef := ⟨0x40, 2, 2, 0x1⟩
def C_SIGNAL_STATION_RATE_MAX : CRef := ⟨0x40, 2, 3, 0x3e8⟩

/-- The SIGNAL_STATION record. -/
def kindSignalStation : CKind :=
  ⟨0x40, 2, [0],
    [⟨8, .key [(0, 95)], 0x0, false⟩, ⟨8, .key [(1, 255)], 0x0, false⟩, ⟨8, .flag, 0x1, true⟩, ⟨32, .clampU 1 2000000, 0x3e8, false⟩]⟩

/-! SIGNAL_OP (0x40 kind 3) -/

def C_SIGNAL_OP_STATION : CRef := ⟨0x40, 3, 0, 0x0⟩
def C_SIGNAL_OP_SLOT : CRef := ⟨0x40, 3, 1, 0x0⟩
def C_SIGNAL_OP_OP : CRef := ⟨0x40, 3, 2, 0x0⟩
def C_SIGNAL_OP_TAGMODE : CRef := ⟨0x40, 3, 3, 0x0⟩
def C_SIGNAL_OP_N : CRef := ⟨0x40, 3, 4, 0x0⟩
def C_SIGNAL_OP_DECIM : CRef := ⟨0x40, 3, 5, 0x1⟩
def C_SIGNAL_OP_P0 : CRef := ⟨0x40, 3, 6, 0x0⟩
def C_SIGNAL_OP_P1 : CRef := ⟨0x40, 3, 7, 0x0⟩
def C_SIGNAL_OP_P2 : CRef := ⟨0x40, 3, 8, 0x0⟩
def C_SIGNAL_OP_P3 : CRef := ⟨0x40, 3, 9, 0x0⟩
def C_SIGNAL_OP_P4 : CRef := ⟨0x40, 3, 10, 0x0⟩
def C_SIGNAL_OP_P5 : CRef := ⟨0x40, 3, 11, 0x0⟩
def C_SIGNAL_OP_TABLE0 : CRef := ⟨0x40, 3, 12, 0x0⟩
def C_SIGNAL_OP_TABLE1 : CRef := ⟨0x40, 3, 13, 0x0⟩
def C_SIGNAL_OP_COEF0 : CRef := ⟨0x40, 3, 14, 0x0⟩
def C_SIGNAL_OP_COEF1 : CRef := ⟨0x40, 3, 15, 0x0⟩
def C_SIGNAL_OP_COEF2 : CRef := ⟨0x40, 3, 16, 0x0⟩
def C_SIGNAL_OP_COEF3 : CRef := ⟨0x40, 3, 17, 0x0⟩
def C_SIGNAL_OP_COEF4 : CRef := ⟨0x40, 3, 18, 0x0⟩
def C_SIGNAL_OP_COEF5 : CRef := ⟨0x40, 3, 19, 0x0⟩
def C_SIGNAL_OP_COEF6 : CRef := ⟨0x40, 3, 20, 0x0⟩
def C_SIGNAL_OP_COEF7 : CRef := ⟨0x40, 3, 21, 0x0⟩
def C_SIGNAL_OP_COEF8 : CRef := ⟨0x40, 3, 22, 0x0⟩
def C_SIGNAL_OP_COEF9 : CRef := ⟨0x40, 3, 23, 0x0⟩
def C_SIGNAL_OP_COEF10 : CRef := ⟨0x40, 3, 24, 0x0⟩
def C_SIGNAL_OP_COEF11 : CRef := ⟨0x40, 3, 25, 0x0⟩
def C_SIGNAL_OP_COEF12 : CRef := ⟨0x40, 3, 26, 0x0⟩
def C_SIGNAL_OP_COEF13 : CRef := ⟨0x40, 3, 27, 0x0⟩
def C_SIGNAL_OP_COEF14 : CRef := ⟨0x40, 3, 28, 0x0⟩
def C_SIGNAL_OP_COEF15 : CRef := ⟨0x40, 3, 29, 0x0⟩
def C_SIGNAL_OP_COEF16 : CRef := ⟨0x40, 3, 30, 0x0⟩
def C_SIGNAL_OP_COEF17 : CRef := ⟨0x40, 3, 31, 0x0⟩
def C_SIGNAL_OP_COEF18 : CRef := ⟨0x40, 3, 32, 0x0⟩
def C_SIGNAL_OP_COEF19 : CRef := ⟨0x40, 3, 33, 0x0⟩
def C_SIGNAL_OP_COEF20 : CRef := ⟨0x40, 3, 34, 0x0⟩
def C_SIGNAL_OP_COEF21 : CRef := ⟨0x40, 3, 35, 0x0⟩
def C_SIGNAL_OP_COEF22 : CRef := ⟨0x40, 3, 36, 0x0⟩
def C_SIGNAL_OP_COEF23 : CRef := ⟨0x40, 3, 37, 0x0⟩
def C_SIGNAL_OP_COEF24 : CRef := ⟨0x40, 3, 38, 0x0⟩
def C_SIGNAL_OP_COEF25 : CRef := ⟨0x40, 3, 39, 0x0⟩
def C_SIGNAL_OP_COEF26 : CRef := ⟨0x40, 3, 40, 0x0⟩
def C_SIGNAL_OP_COEF27 : CRef := ⟨0x40, 3, 41, 0x0⟩
def C_SIGNAL_OP_COEF28 : CRef := ⟨0x40, 3, 42, 0x0⟩
def C_SIGNAL_OP_COEF29 : CRef := ⟨0x40, 3, 43, 0x0⟩
def C_SIGNAL_OP_COEF30 : CRef := ⟨0x40, 3, 44, 0x0⟩
def C_SIGNAL_OP_COEF31 : CRef := ⟨0x40, 3, 45, 0x0⟩
def C_SIGNAL_OP_COEF32 : CRef := ⟨0x40, 3, 46, 0x0⟩
def C_SIGNAL_OP_COEF33 : CRef := ⟨0x40, 3, 47, 0x0⟩
def C_SIGNAL_OP_COEF34 : CRef := ⟨0x40, 3, 48, 0x0⟩
def C_SIGNAL_OP_COEF35 : CRef := ⟨0x40, 3, 49, 0x0⟩
def C_SIGNAL_OP_COEF36 : CRef := ⟨0x40, 3, 50, 0x0⟩
def C_SIGNAL_OP_COEF37 : CRef := ⟨0x40, 3, 51, 0x0⟩
def C_SIGNAL_OP_COEF38 : CRef := ⟨0x40, 3, 52, 0x0⟩
def C_SIGNAL_OP_COEF39 : CRef := ⟨0x40, 3, 53, 0x0⟩
def C_SIGNAL_OP_COEF40 : CRef := ⟨0x40, 3, 54, 0x0⟩
def C_SIGNAL_OP_COEF41 : CRef := ⟨0x40, 3, 55, 0x0⟩
def C_SIGNAL_OP_COEF42 : CRef := ⟨0x40, 3, 56, 0x0⟩
def C_SIGNAL_OP_COEF43 : CRef := ⟨0x40, 3, 57, 0x0⟩
def C_SIGNAL_OP_COEF44 : CRef := ⟨0x40, 3, 58, 0x0⟩
def C_SIGNAL_OP_COEF45 : CRef := ⟨0x40, 3, 59, 0x0⟩
def C_SIGNAL_OP_COEF46 : CRef := ⟨0x40, 3, 60, 0x0⟩
def C_SIGNAL_OP_COEF47 : CRef := ⟨0x40, 3, 61, 0x0⟩
def C_SIGNAL_OP_COEF48 : CRef := ⟨0x40, 3, 62, 0x0⟩
def C_SIGNAL_OP_COEF49 : CRef := ⟨0x40, 3, 63, 0x0⟩
def C_SIGNAL_OP_COEF50 : CRef := ⟨0x40, 3, 64, 0x0⟩
def C_SIGNAL_OP_COEF51 : CRef := ⟨0x40, 3, 65, 0x0⟩
def C_SIGNAL_OP_COEF52 : CRef := ⟨0x40, 3, 66, 0x0⟩
def C_SIGNAL_OP_COEF53 : CRef := ⟨0x40, 3, 67, 0x0⟩
def C_SIGNAL_OP_COEF54 : CRef := ⟨0x40, 3, 68, 0x0⟩
def C_SIGNAL_OP_COEF55 : CRef := ⟨0x40, 3, 69, 0x0⟩
def C_SIGNAL_OP_COEF56 : CRef := ⟨0x40, 3, 70, 0x0⟩
def C_SIGNAL_OP_COEF57 : CRef := ⟨0x40, 3, 71, 0x0⟩
def C_SIGNAL_OP_COEF58 : CRef := ⟨0x40, 3, 72, 0x0⟩
def C_SIGNAL_OP_COEF59 : CRef := ⟨0x40, 3, 73, 0x0⟩
def C_SIGNAL_OP_COEF60 : CRef := ⟨0x40, 3, 74, 0x0⟩
def C_SIGNAL_OP_COEF61 : CRef := ⟨0x40, 3, 75, 0x0⟩
def C_SIGNAL_OP_COEF62 : CRef := ⟨0x40, 3, 76, 0x0⟩
def C_SIGNAL_OP_COEF63 : CRef := ⟨0x40, 3, 77, 0x0⟩

/-- The SIGNAL_OP record. -/
def kindSignalOp : CKind :=
  ⟨0x40, 3, [0, 1],
    [⟨8, .key [(0, 95)], 0x0, false⟩, ⟨8, .any, 0x0, false⟩, ⟨8, .key [(0, 12)], 0x0, false⟩, ⟨8, .flag, 0x0, true⟩, ⟨16, .any, 0x0, false⟩, ⟨16, .any, 0x1, false⟩, ⟨32, .float, 0x0, true⟩, ⟨32, .float, 0x0, true⟩, ⟨32, .float, 0x0, true⟩, ⟨32, .float, 0x0, true⟩, ⟨32, .float, 0x0, true⟩, ⟨32, .float, 0x0, true⟩, ⟨16, .clampU 0 127, 0x0, false⟩, ⟨16, .clampU 0 127, 0x0, false⟩, ⟨32, .float, 0x0, true⟩, ⟨32, .float, 0x0, true⟩, ⟨32, .float, 0x0, true⟩, ⟨32, .float, 0x0, true⟩, ⟨32, .float, 0x0, true⟩, ⟨32, .float, 0x0, true⟩, ⟨32, .float, 0x0, true⟩, ⟨32, .float, 0x0, true⟩, ⟨32, .float, 0x0, true⟩, ⟨32, .float, 0x0, true⟩] ++
    [⟨32, .float, 0x0, true⟩, ⟨32, .float, 0x0, true⟩, ⟨32, .float, 0x0, true⟩, ⟨32, .float, 0x0, true⟩, ⟨32, .float, 0x0, true⟩, ⟨32, .float, 0x0, true⟩, ⟨32, .float, 0x0, true⟩, ⟨32, .float, 0x0, true⟩, ⟨32, .float, 0x0, true⟩, ⟨32, .float, 0x0, true⟩, ⟨32, .float, 0x0, true⟩, ⟨32, .float, 0x0, true⟩, ⟨32, .float, 0x0, true⟩, ⟨32, .float, 0x0, true⟩, ⟨32, .float, 0x0, true⟩, ⟨32, .float, 0x0, true⟩, ⟨32, .float, 0x0, true⟩, ⟨32, .float, 0x0, true⟩, ⟨32, .float, 0x0, true⟩, ⟨32, .float, 0x0, true⟩, ⟨32, .float, 0x0, true⟩, ⟨32, .float, 0x0, true⟩, ⟨32, .float, 0x0, true⟩, ⟨32, .float, 0x0, true⟩] ++
    [⟨32, .float, 0x0, true⟩, ⟨32, .float, 0x0, true⟩, ⟨32, .float, 0x0, true⟩, ⟨32, .float, 0x0, true⟩, ⟨32, .float, 0x0, true⟩, ⟨32, .float, 0x0, true⟩, ⟨32, .float, 0x0, true⟩, ⟨32, .float, 0x0, true⟩, ⟨32, .float, 0x0, true⟩, ⟨32, .float, 0x0, true⟩, ⟨32, .float, 0x0, true⟩, ⟨32, .float, 0x0, true⟩, ⟨32, .float, 0x0, true⟩, ⟨32, .float, 0x0, true⟩, ⟨32, .float, 0x0, true⟩, ⟨32, .float, 0x0, true⟩, ⟨32, .float, 0x0, true⟩, ⟨32, .float, 0x0, true⟩, ⟨32, .float, 0x0, true⟩, ⟨32, .float, 0x0, true⟩, ⟨32, .float, 0x0, true⟩, ⟨32, .float, 0x0, true⟩, ⟨32, .float, 0x0, true⟩, ⟨32, .float, 0x0, true⟩] ++
    [⟨32, .float, 0x0, true⟩, ⟨32, .float, 0x0, true⟩, ⟨32, .float, 0x0, true⟩, ⟨32, .float, 0x0, true⟩, ⟨32, .float, 0x0, true⟩, ⟨32, .float, 0x0, true⟩]⟩

/-! ROUTE (0x50 kind 0) -/

def C_ROUTE_SOURCE : CRef := ⟨0x50, 0, 0, 0x0⟩
def C_ROUTE_DEST_KIND : CRef := ⟨0x50, 0, 1, 0x0⟩
def C_ROUTE_DEST : CRef := ⟨0x50, 0, 2, 0x0⟩
def C_ROUTE_PORT : CRef := ⟨0x50, 0, 3, 0x0⟩
def C_ROUTE_STALE : CRef := ⟨0x50, 0, 4, 0x0⟩

/-- The ROUTE record. -/
def kindRoute : CKind :=
  ⟨0x50, 0, [],
    [⟨16, .key [(0, 415)], 0x0, false⟩, ⟨8, .key [(0, 3)], 0x0, false⟩, ⟨16, .any, 0x0, false⟩, ⟨8, .any, 0x0, false⟩, ⟨16, .any, 0x0, true⟩]⟩

/-! PORT (0x60 kind 0) -/

def C_PORT_PORT : CRef := ⟨0x60, 0, 0, 0x0⟩
def C_PORT_EN : CRef := ⟨0x60, 0, 1, 0x1⟩
def C_PORT_LANES : CRef := ⟨0x60, 0, 2, 0x4⟩
def C_PORT_LANE_MAP : CRef := ⟨0x60, 0, 3, 0xe4⟩
def C_PORT_POLARITY : CRef := ⟨0x60, 0, 4, 0x0⟩
def C_PORT_RATE : CRef := ⟨0x60, 0, 5, 0x5dc⟩
def C_PORT_CLK_CONT : CRef := ⟨0x60, 0, 6, 0x0⟩

/-- The PORT record. -/
def kindPort : CKind :=
  ⟨0x60, 0, [0],
    [⟨8, .key [(0, 1)], 0x0, false⟩, ⟨8, .flag, 0x1, false⟩, ⟨8, .steps [1, 2, 4], 0x4, false⟩, ⟨8, .any, 0xe4, false⟩, ⟨8, .mask 0x1F, 0x0, false⟩, ⟨16, .clampU 80 2500, 0x5dc, false⟩, ⟨8, .flag, 0x0, false⟩]⟩

/-! STREAM (0x60 kind 1) -/

def C_STREAM_TRANSIT : CRef := ⟨0x60, 1, 0, 0x0⟩
def C_STREAM_PORT : CRef := ⟨0x60, 1, 1, 0x0⟩
def C_STREAM_VC : CRef := ⟨0x60, 1, 2, 0x0⟩
def C_STREAM_DT : CRef := ⟨0x60, 1, 3, 0x0⟩
def C_STREAM_BANDS : CRef := ⟨0x60, 1, 4, 0x1⟩
def C_STREAM_BAND_ORDER : CRef := ⟨0x60, 1, 5, 0xe4⟩
def C_STREAM_LINE_PX : CRef := ⟨0x60, 1, 6, 0x2000⟩
def C_STREAM_X_START : CRef := ⟨0x60, 1, 7, 0x0⟩
def C_STREAM_X_END : CRef := ⟨0x60, 1, 8, 0x1fff⟩
def C_STREAM_TRIG_PIN : CRef := ⟨0x60, 1, 9, 0x0⟩
def C_STREAM_EXP_OFFSET : CRef := ⟨0x60, 1, 10, 0x0⟩
def C_STREAM_PERIOD : CRef := ⟨0x60, 1, 11, 0x186a0⟩
def C_STREAM_TRG_LAG : CRef := ⟨0x60, 1, 12, 0x2⟩
def C_STREAM_CLOSE_LINES : CRef := ⟨0x60, 1, 13, 0x2⟩
def C_STREAM_DEFAULT_CLASS : CRef := ⟨0x60, 1, 14, 0x0⟩
def C_STREAM_DECIM : CRef := ⟨0x60, 1, 15, 0x411⟩
def C_STREAM_FF_EN : CRef := ⟨0x60, 1, 16, 0x1⟩
def C_STREAM_FF_BANK : CRef := ⟨0x60, 1, 17, 0x0⟩

/-- The STREAM record. -/
def kindStream : CKind :=
  ⟨0x60, 1, [0],
    [⟨8, .key [(0, 7)], 0x0, false⟩, ⟨8, .key [(0, 1)], 0x0, false⟩, ⟨8, .key [(0, 3)], 0x0, false⟩, ⟨8, .key [(42, 44)], 0x0, false⟩, ⟨8, .clampU 1 4, 0x1, false⟩, ⟨8, .any, 0xe4, false⟩, ⟨16, .clampU 16 8192, 0x2000, false⟩, ⟨16, .any, 0x0, true⟩, ⟨16, .any, 0x1fff, true⟩, ⟨8, .key [(0, 63)], 0x0, false⟩, ⟨32, .clampS (-1000000) (1000000), 0x0, true⟩, ⟨32, .clampU 2000 1000000, 0x186a0, true⟩, ⟨8, .clampU 0 15, 0x2, true⟩, ⟨8, .clampU 1 15, 0x2, true⟩, ⟨8, .clampU 0 2, 0x0, true⟩, ⟨16, .any, 0x411, true⟩, ⟨8, .flag, 0x1, true⟩, ⟨8, .flag, 0x0, true⟩]⟩

/-! COMBINE (0x60 kind 2) -/

def C_COMBINE_TRANSIT : CRef := ⟨0x60, 2, 0, 0x0⟩
def C_COMBINE_PLANE : CRef := ⟨0x60, 2, 1, 0x0⟩
def C_COMBINE_MODE : CRef := ⟨0x60, 2, 2, 0x0⟩
def C_COMBINE_SHIFT : CRef := ⟨0x60, 2, 3, 0xc⟩
def C_COMBINE_A0 : CRef := ⟨0x60, 2, 4, 0x0⟩
def C_COMBINE_A1 : CRef := ⟨0x60, 2, 5, 0x0⟩
def C_COMBINE_A2 : CRef := ⟨0x60, 2, 6, 0x0⟩
def C_COMBINE_A3 : CRef := ⟨0x60, 2, 7, 0x0⟩
def C_COMBINE_A_BIAS : CRef := ⟨0x60, 2, 8, 0x0⟩
def C_COMBINE_E0 : CRef := ⟨0x60, 2, 9, 0x0⟩
def C_COMBINE_E1 : CRef := ⟨0x60, 2, 10, 0x0⟩
def C_COMBINE_E2 : CRef := ⟨0x60, 2, 11, 0x0⟩
def C_COMBINE_E3 : CRef := ⟨0x60, 2, 12, 0x0⟩
def C_COMBINE_E_BIAS : CRef := ⟨0x60, 2, 13, 0x0⟩

/-- The COMBINE record. -/
def kindCombine : CKind :=
  ⟨0x60, 2, [0, 1],
    [⟨8, .key [(0, 7)], 0x0, false⟩, ⟨8, .key [(0, 3)], 0x0, false⟩, ⟨8, .flag, 0x0, true⟩, ⟨8, .clampU 0 24, 0xc, true⟩, ⟨16, .any, 0x0, true⟩, ⟨16, .any, 0x0, true⟩, ⟨16, .any, 0x0, true⟩, ⟨16, .any, 0x0, true⟩, ⟨32, .any, 0x0, true⟩, ⟨16, .any, 0x0, true⟩, ⟨16, .any, 0x0, true⟩, ⟨16, .any, 0x0, true⟩, ⟨16, .any, 0x0, true⟩, ⟨32, .any, 0x0, true⟩]⟩

/-! BOX (0x60 kind 3) -/

def C_BOX_TRANSIT : CRef := ⟨0x60, 3, 0, 0x0⟩
def C_BOX_BOX : CRef := ⟨0x60, 3, 1, 0x0⟩
def C_BOX_SHAPE : CRef := ⟨0x60, 3, 2, 0x2⟩
def C_BOX_CLASS : CRef := ⟨0x60, 3, 3, 0x0⟩
def C_BOX_AXES : CRef := ⟨0x60, 3, 4, 0xffff⟩
def C_BOX_P0 : CRef := ⟨0x60, 3, 5, 0x0⟩
def C_BOX_P1 : CRef := ⟨0x60, 3, 6, 0x0⟩
def C_BOX_P2 : CRef := ⟨0x60, 3, 7, 0x0⟩
def C_BOX_P3 : CRef := ⟨0x60, 3, 8, 0x0⟩
def C_BOX_Q0 : CRef := ⟨0x60, 3, 9, 0x0⟩
def C_BOX_Q1 : CRef := ⟨0x60, 3, 10, 0x0⟩
def C_BOX_Q2 : CRef := ⟨0x60, 3, 11, 0x0⟩
def C_BOX_Q3 : CRef := ⟨0x60, 3, 12, 0x0⟩

/-- The BOX record. -/
def kindBox : CKind :=
  ⟨0x60, 3, [0, 1],
    [⟨8, .key [(0, 7)], 0x0, false⟩, ⟨8, .key [(0, 7)], 0x0, false⟩, ⟨8, .clampU 0 2, 0x2, true⟩, ⟨8, .clampU 0 2, 0x0, true⟩, ⟨16, .axes, 0xffff, true⟩, ⟨16, .any, 0x0, true⟩, ⟨16, .any, 0x0, true⟩, ⟨16, .any, 0x0, true⟩, ⟨16, .any, 0x0, true⟩, ⟨16, .any, 0x0, true⟩, ⟨16, .any, 0x0, true⟩, ⟨16, .any, 0x0, true⟩, ⟨16, .any, 0x0, true⟩]⟩

/-! ENGINE (0x70 kind 0) -/

def C_ENGINE_EN : CRef := ⟨0x70, 0, 0, 0x1⟩
def C_ENGINE_STAKE_LEAD : CRef := ⟨0x70, 0, 1, 0x2710⟩
def C_ENGINE_EXPORT_MODE : CRef := ⟨0x70, 0, 2, 0x0⟩
def C_ENGINE_EXPORT_EVERY : CRef := ⟨0x70, 0, 3, 0x3e8⟩
def C_ENGINE_EXPORT_CLASSES : CRef := ⟨0x70, 0, 4, 0x0⟩
def C_ENGINE_EXPORT_MAX : CRef := ⟨0x70, 0, 5, 0x1000⟩

/-- The ENGINE record. -/
def kindEngine : CKind :=
  ⟨0x70, 0, [],
    [⟨8, .flag, 0x1, true⟩, ⟨32, .clampU 5000 1000000, 0x2710, true⟩, ⟨8, .clampU 0 3, 0x0, true⟩, ⟨16, .clampU 1 65535, 0x3e8, true⟩, ⟨16, .any, 0x0, true⟩, ⟨16, .clampU 0 16384, 0x1000, true⟩]⟩

/-! SOURCE (0x70 kind 1) -/

def C_SOURCE_SOURCE : CRef := ⟨0x70, 1, 0, 0x0⟩
def C_SOURCE_ORIGIN : CRef := ⟨0x70, 1, 1, 0x0⟩
def C_SOURCE_MODEL : CRef := ⟨0x70, 1, 2, 0x0⟩
def C_SOURCE_V0 : CRef := ⟨0x70, 1, 3, 0x453b8000⟩
def C_SOURCE_G : CRef := ⟨0x70, 1, 4, 0x46193a9a⟩
def C_SOURCE_DRAG : CRef := ⟨0x70, 1, 5, 0x0⟩
def C_SOURCE_C1 : CRef := ⟨0x70, 1, 6, 0x0⟩
def C_SOURCE_C2 : CRef := ⟨0x70, 1, 7, 0x0⟩
def C_SOURCE_C3 : CRef := ⟨0x70, 1, 8, 0x0⟩
def C_SOURCE_PX_PITCH : CRef := ⟨0x70, 1, 9, 0x3e800000⟩
def C_SOURCE_X0 : CRef := ⟨0x70, 1, 10, 0x0⟩
def C_SOURCE_DRIFT : CRef := ⟨0x70, 1, 11, 0x0⟩
def C_SOURCE_SIZE_SCALE : CRef := ⟨0x70, 1, 12, 0x3f800000⟩
def C_SOURCE_THR0 : CRef := ⟨0x70, 1, 13, 0x1000⟩
def C_SOURCE_THR1 : CRef := ⟨0x70, 1, 14, 0x1000⟩
def C_SOURCE_THR2 : CRef := ⟨0x70, 1, 15, 0x1000⟩
def C_SOURCE_THR3 : CRef := ⟨0x70, 1, 16, 0x1000⟩
def C_SOURCE_THR4 : CRef := ⟨0x70, 1, 17, 0x1000⟩
def C_SOURCE_THR5 : CRef := ⟨0x70, 1, 18, 0x1000⟩
def C_SOURCE_THR6 : CRef := ⟨0x70, 1, 19, 0x1000⟩
def C_SOURCE_THR7 : CRef := ⟨0x70, 1, 20, 0x1000⟩
def C_SOURCE_THR8 : CRef := ⟨0x70, 1, 21, 0x1000⟩
def C_SOURCE_THR9 : CRef := ⟨0x70, 1, 22, 0x1000⟩
def C_SOURCE_THR10 : CRef := ⟨0x70, 1, 23, 0x1000⟩
def C_SOURCE_THR11 : CRef := ⟨0x70, 1, 24, 0x1000⟩
def C_SOURCE_THR12 : CRef := ⟨0x70, 1, 25, 0x1000⟩
def C_SOURCE_THR13 : CRef := ⟨0x70, 1, 26, 0x1000⟩
def C_SOURCE_THR14 : CRef := ⟨0x70, 1, 27, 0x1000⟩
def C_SOURCE_PLANE_A : CRef := ⟨0x70, 1, 28, 0xff⟩
def C_SOURCE_PLANE_B : CRef := ⟨0x70, 1, 29, 0xff⟩
def C_SOURCE_DEFAULT_ACTION : CRef := ⟨0x70, 1, 30, 0x0⟩

/-- The SOURCE record. -/
def kindSource : CKind :=
  ⟨0x70, 1, [0],
    [⟨8, .key [(0, 31)], 0x0, false⟩, ⟨8, .any, 0x0, false⟩, ⟨8, .key [(0, 3)], 0x0, false⟩, ⟨32, .clampF 0x3f800000 0x47c35000, 0x453b8000, true⟩, ⟨32, .clampF 0x0 0x469c4000, 0x46193a9a, true⟩, ⟨32, .clampF 0x0 0x42c80000, 0x0, true⟩, ⟨32, .clampF 0x0 0x447a0000, 0x0, true⟩, ⟨32, .clampF 0xc2c80000 0x42c80000, 0x0, true⟩, ⟨32, .clampF 0xbf800000 0x3f800000, 0x0, true⟩, ⟨32, .clampF 0x3a83126f 0x42c80000, 0x3e800000, true⟩, ⟨32, .clampF 0xc61c4000 0x461c4000, 0x0, true⟩, ⟨32, .clampF 0xc61c4000 0x461c4000, 0x0, true⟩, ⟨32, .clampF 0x0 0x447a0000, 0x3f800000, true⟩, ⟨16, .clampU 0 4096, 0x1000, true⟩, ⟨16, .clampU 0 4096, 0x1000, true⟩, ⟨16, .clampU 0 4096, 0x1000, true⟩, ⟨16, .clampU 0 4096, 0x1000, true⟩, ⟨16, .clampU 0 4096, 0x1000, true⟩, ⟨16, .clampU 0 4096, 0x1000, true⟩, ⟨16, .clampU 0 4096, 0x1000, true⟩, ⟨16, .clampU 0 4096, 0x1000, true⟩, ⟨16, .clampU 0 4096, 0x1000, true⟩, ⟨16, .clampU 0 4096, 0x1000, true⟩, ⟨16, .clampU 0 4096, 0x1000, true⟩] ++
    [⟨16, .clampU 0 4096, 0x1000, true⟩, ⟨16, .clampU 0 4096, 0x1000, true⟩, ⟨16, .clampU 0 4096, 0x1000, true⟩, ⟨16, .clampU 0 4096, 0x1000, true⟩, ⟨8, .key [(0, 15), (255, 255)], 0xff, false⟩, ⟨8, .key [(0, 15), (255, 255)], 0xff, false⟩, ⟨8, .clampU 0 4, 0x0, true⟩]⟩

/-! PLANE (0x70 kind 2) -/

def C_PLANE_PLANE : CRef := ⟨0x70, 2, 0, 0x0⟩
def C_PLANE_KIND : CRef := ⟨0x70, 2, 1, 0x0⟩
def C_PLANE_TARGET : CRef := ⟨0x70, 2, 2, 0x0⟩
def C_PLANE_ROW_LEN : CRef := ⟨0x70, 2, 3, 0x100⟩
def C_PLANE_DIST : CRef := ⟨0x70, 2, 4, 0x43160000⟩
def C_PLANE_ROW_X0 : CRef := ⟨0x70, 2, 5, 0x0⟩
def C_PLANE_VPITCH : CRef := ⟨0x70, 2, 6, 0x40800000⟩
def C_PLANE_VALVES_MAX : CRef := ⟨0x70, 2, 7, 0x4⟩
def C_PLANE_MARGIN : CRef := ⟨0x70, 2, 8, 0x3f000000⟩
def C_PLANE_VALVE_DELAY : CRef := ⟨0x70, 2, 9, 0x16e360⟩
def C_PLANE_PRE : CRef := ⟨0x70, 2, 10, 0x493e0⟩
def C_PLANE_POST : CRef := ⟨0x70, 2, 11, 0x493e0⟩
def C_PLANE_MIN_WIDTH : CRef := ⟨0x70, 2, 12, 0xf4240⟩
def C_PLANE_MAX_WIDTH : CRef := ⟨0x70, 2, 13, 0x989680⟩

/-- The PLANE record. -/
def kindPlane : CKind :=
  ⟨0x70, 2, [0],
    [⟨8, .key [(0, 15)], 0x0, false⟩, ⟨8, .key [(0, 1)], 0x0, false⟩, ⟨16, .key [(0, 4095)], 0x0, false⟩, ⟨16, .clampU 1 1024, 0x100, false⟩, ⟨32, .clampF 0x0 0x461c4000, 0x43160000, true⟩, ⟨32, .clampF 0xc61c4000 0x461c4000, 0x0, true⟩, ⟨32, .clampF 0x3dcccccd 0x447a0000, 0x40800000, true⟩, ⟨8, .clampU 1 15, 0x4, true⟩, ⟨32, .clampF 0x0 0x42c80000, 0x3f000000, true⟩, ⟨32, .clampU 0 100000000, 0x16e360, true⟩, ⟨32, .clampU 0 10000000, 0x493e0, true⟩, ⟨32, .clampU 0 10000000, 0x493e0, true⟩, ⟨32, .clampU 8 134217720, 0xf4240, true⟩, ⟨32, .clampU 8 134217720, 0x989680, true⟩]⟩

/-! TPAIR (0x70 kind 3) -/

def C_TPAIR_PRIMARY : CRef := ⟨0x70, 3, 0, 0x0⟩
def C_TPAIR_SECONDARY : CRef := ⟨0x70, 3, 1, 0x0⟩
def C_TPAIR_DT : CRef := ⟨0x70, 3, 2, 0x0⟩
def C_TPAIR_T_WIN : CRef := ⟨0x70, 3, 3, 0x186a0⟩
def C_TPAIR_X_SCALE : CRef := ⟨0x70, 3, 4, 0xbf800000⟩
def C_TPAIR_X_OFFSET : CRef := ⟨0x70, 3, 5, 0x457ff000⟩
def C_TPAIR_X_WIN : CRef := ⟨0x70, 3, 6, 0x8⟩
def C_TPAIR_WAIT : CRef := ⟨0x70, 3, 7, 0x1f4⟩

/-- The TPAIR record. -/
def kindTpair : CKind :=
  ⟨0x70, 3, [0],
    [⟨8, .key [(0, 7)], 0x0, false⟩, ⟨8, .key [(0, 7)], 0x0, false⟩, ⟨32, .clampS (-10000000) (10000000), 0x0, true⟩, ⟨32, .clampU 0 10000000, 0x186a0, true⟩, ⟨32, .clampF 0xc1800000 0x41800000, 0xbf800000, true⟩, ⟨32, .clampF 0xc7800000 0x47800000, 0x457ff000, true⟩, ⟨16, .clampU 0 8191, 0x8, true⟩, ⟨16, .any, 0x1f4, true⟩]⟩

/-! MODEL (0x80 kind 0) -/

def C_MODEL_GROUP : CRef := ⟨0x80, 0, 0, 0x0⟩
def C_MODEL_STATIONS : CRef := ⟨0x80, 0, 1, 0x0⟩
def C_MODEL_TYPE : CRef := ⟨0x80, 0, 2, 0x0⟩
def C_MODEL_TREES : CRef := ⟨0x80, 0, 3, 0x40⟩
def C_MODEL_DEPTH : CRef := ⟨0x80, 0, 4, 0x8⟩
def C_MODEL_INPUTS : CRef := ⟨0x80, 0, 5, 0x40⟩
def C_MODEL_CLASSES : CRef := ⟨0x80, 0, 6, 0x10⟩
def C_MODEL_SHIFT : CRef := ⟨0x80, 0, 7, 0xe⟩
def C_MODEL_TABLE0 : CRef := ⟨0x80, 0, 8, 0x0⟩
def C_MODEL_TABLE1 : CRef := ⟨0x80, 0, 9, 0x0⟩
def C_MODEL_BANK : CRef := ⟨0x80, 0, 10, 0x0⟩

/-- The MODEL record. -/
def kindModel : CKind :=
  ⟨0x80, 0, [0],
    [⟨8, .key [(0, 15)], 0x0, false⟩, ⟨16, .key [(1, 65535)], 0x0, false⟩, ⟨8, .key [(0, 1)], 0x0, false⟩, ⟨8, .clampU 1 64, 0x40, false⟩, ⟨8, .clampU 1 8, 0x8, false⟩, ⟨8, .clampU 1 64, 0x40, false⟩, ⟨8, .clampU 1 16, 0x10, true⟩, ⟨8, .clampU 0 47, 0xe, true⟩, ⟨32, .any, 0x0, false⟩, ⟨32, .any, 0x0, false⟩, ⟨8, .flag, 0x0, true⟩]⟩

/-! ASSIGN (0x80 kind 1) -/

def C_ASSIGN_SOURCE : CRef := ⟨0x80, 1, 0, 0x0⟩
def C_ASSIGN_FGROUP : CRef := ⟨0x80, 1, 1, 0x0⟩
def C_ASSIGN_CGROUP : CRef := ⟨0x80, 1, 2, 0x0⟩
def C_ASSIGN_SELECT0 : CRef := ⟨0x80, 1, 3, 0x0⟩
def C_ASSIGN_SELECT1 : CRef := ⟨0x80, 1, 4, 0x1⟩
def C_ASSIGN_SELECT2 : CRef := ⟨0x80, 1, 5, 0x2⟩
def C_ASSIGN_SELECT3 : CRef := ⟨0x80, 1, 6, 0x3⟩
def C_ASSIGN_SELECT4 : CRef := ⟨0x80, 1, 7, 0x4⟩
def C_ASSIGN_SELECT5 : CRef := ⟨0x80, 1, 8, 0x5⟩
def C_ASSIGN_SELECT6 : CRef := ⟨0x80, 1, 9, 0x6⟩
def C_ASSIGN_SELECT7 : CRef := ⟨0x80, 1, 10, 0x7⟩

/-- The ASSIGN record. -/
def kindAssign : CKind :=
  ⟨0x80, 1, [0],
    [⟨8, .key [(0, 23)], 0x0, false⟩, ⟨8, .key [(0, 15)], 0x0, false⟩, ⟨8, .key [(0, 15)], 0x0, false⟩, ⟨8, .clampU 0 63, 0x0, true⟩, ⟨8, .clampU 0 63, 0x1, true⟩, ⟨8, .clampU 0 63, 0x2, true⟩, ⟨8, .clampU 0 63, 0x3, true⟩, ⟨8, .clampU 0 63, 0x4, true⟩, ⟨8, .clampU 0 63, 0x5, true⟩, ⟨8, .clampU 0 63, 0x6, true⟩, ⟨8, .clampU 0 63, 0x7, true⟩]⟩

/-! ACTIONS (0x80 kind 2) -/

def C_ACTIONS_GROUP : CRef := ⟨0x80, 2, 0, 0x0⟩
def C_ACTIONS_ACTION0 : CRef := ⟨0x80, 2, 1, 0x0⟩
def C_ACTIONS_ACTION1 : CRef := ⟨0x80, 2, 2, 0x0⟩
def C_ACTIONS_ACTION2 : CRef := ⟨0x80, 2, 3, 0x0⟩
def C_ACTIONS_ACTION3 : CRef := ⟨0x80, 2, 4, 0x0⟩
def C_ACTIONS_ACTION4 : CRef := ⟨0x80, 2, 5, 0x0⟩
def C_ACTIONS_ACTION5 : CRef := ⟨0x80, 2, 6, 0x0⟩
def C_ACTIONS_ACTION6 : CRef := ⟨0x80, 2, 7, 0x0⟩
def C_ACTIONS_ACTION7 : CRef := ⟨0x80, 2, 8, 0x0⟩
def C_ACTIONS_ACTION8 : CRef := ⟨0x80, 2, 9, 0x0⟩
def C_ACTIONS_ACTION9 : CRef := ⟨0x80, 2, 10, 0x0⟩
def C_ACTIONS_ACTION10 : CRef := ⟨0x80, 2, 11, 0x0⟩
def C_ACTIONS_ACTION11 : CRef := ⟨0x80, 2, 12, 0x0⟩
def C_ACTIONS_ACTION12 : CRef := ⟨0x80, 2, 13, 0x0⟩
def C_ACTIONS_ACTION13 : CRef := ⟨0x80, 2, 14, 0x0⟩
def C_ACTIONS_ACTION14 : CRef := ⟨0x80, 2, 15, 0x0⟩
def C_ACTIONS_ACTION15 : CRef := ⟨0x80, 2, 16, 0x0⟩
def C_ACTIONS_DEMOTE_THR0 : CRef := ⟨0x80, 2, 17, 0x0⟩
def C_ACTIONS_DEMOTE_THR1 : CRef := ⟨0x80, 2, 18, 0x0⟩
def C_ACTIONS_DEMOTE_THR2 : CRef := ⟨0x80, 2, 19, 0x0⟩
def C_ACTIONS_DEMOTE_THR3 : CRef := ⟨0x80, 2, 20, 0x0⟩
def C_ACTIONS_DEMOTE_THR4 : CRef := ⟨0x80, 2, 21, 0x0⟩
def C_ACTIONS_DEMOTE_THR5 : CRef := ⟨0x80, 2, 22, 0x0⟩
def C_ACTIONS_DEMOTE_THR6 : CRef := ⟨0x80, 2, 23, 0x0⟩
def C_ACTIONS_DEMOTE_THR7 : CRef := ⟨0x80, 2, 24, 0x0⟩
def C_ACTIONS_DEMOTE_THR8 : CRef := ⟨0x80, 2, 25, 0x0⟩
def C_ACTIONS_DEMOTE_THR9 : CRef := ⟨0x80, 2, 26, 0x0⟩
def C_ACTIONS_DEMOTE_THR10 : CRef := ⟨0x80, 2, 27, 0x0⟩
def C_ACTIONS_DEMOTE_THR11 : CRef := ⟨0x80, 2, 28, 0x0⟩
def C_ACTIONS_DEMOTE_THR12 : CRef := ⟨0x80, 2, 29, 0x0⟩
def C_ACTIONS_DEMOTE_THR13 : CRef := ⟨0x80, 2, 30, 0x0⟩
def C_ACTIONS_DEMOTE_THR14 : CRef := ⟨0x80, 2, 31, 0x0⟩
def C_ACTIONS_DEMOTE_THR15 : CRef := ⟨0x80, 2, 32, 0x0⟩
def C_ACTIONS_DEMOTE_TO0 : CRef := ⟨0x80, 2, 33, 0x0⟩
def C_ACTIONS_DEMOTE_TO1 : CRef := ⟨0x80, 2, 34, 0x0⟩
def C_ACTIONS_DEMOTE_TO2 : CRef := ⟨0x80, 2, 35, 0x0⟩
def C_ACTIONS_DEMOTE_TO3 : CRef := ⟨0x80, 2, 36, 0x0⟩
def C_ACTIONS_DEMOTE_TO4 : CRef := ⟨0x80, 2, 37, 0x0⟩
def C_ACTIONS_DEMOTE_TO5 : CRef := ⟨0x80, 2, 38, 0x0⟩
def C_ACTIONS_DEMOTE_TO6 : CRef := ⟨0x80, 2, 39, 0x0⟩
def C_ACTIONS_DEMOTE_TO7 : CRef := ⟨0x80, 2, 40, 0x0⟩
def C_ACTIONS_DEMOTE_TO8 : CRef := ⟨0x80, 2, 41, 0x0⟩
def C_ACTIONS_DEMOTE_TO9 : CRef := ⟨0x80, 2, 42, 0x0⟩
def C_ACTIONS_DEMOTE_TO10 : CRef := ⟨0x80, 2, 43, 0x0⟩
def C_ACTIONS_DEMOTE_TO11 : CRef := ⟨0x80, 2, 44, 0x0⟩
def C_ACTIONS_DEMOTE_TO12 : CRef := ⟨0x80, 2, 45, 0x0⟩
def C_ACTIONS_DEMOTE_TO13 : CRef := ⟨0x80, 2, 46, 0x0⟩
def C_ACTIONS_DEMOTE_TO14 : CRef := ⟨0x80, 2, 47, 0x0⟩
def C_ACTIONS_DEMOTE_TO15 : CRef := ⟨0x80, 2, 48, 0x0⟩

/-- The ACTIONS record. -/
def kindActions : CKind :=
  ⟨0x80, 2, [0],
    [⟨8, .key [(0, 15)], 0x0, false⟩, ⟨8, .clampU 0 4, 0x0, true⟩, ⟨8, .clampU 0 4, 0x0, true⟩, ⟨8, .clampU 0 4, 0x0, true⟩, ⟨8, .clampU 0 4, 0x0, true⟩, ⟨8, .clampU 0 4, 0x0, true⟩, ⟨8, .clampU 0 4, 0x0, true⟩, ⟨8, .clampU 0 4, 0x0, true⟩, ⟨8, .clampU 0 4, 0x0, true⟩, ⟨8, .clampU 0 4, 0x0, true⟩, ⟨8, .clampU 0 4, 0x0, true⟩, ⟨8, .clampU 0 4, 0x0, true⟩, ⟨8, .clampU 0 4, 0x0, true⟩, ⟨8, .clampU 0 4, 0x0, true⟩, ⟨8, .clampU 0 4, 0x0, true⟩, ⟨8, .clampU 0 4, 0x0, true⟩, ⟨8, .clampU 0 4, 0x0, true⟩, ⟨8, .any, 0x0, true⟩, ⟨8, .any, 0x0, true⟩, ⟨8, .any, 0x0, true⟩, ⟨8, .any, 0x0, true⟩, ⟨8, .any, 0x0, true⟩, ⟨8, .any, 0x0, true⟩, ⟨8, .any, 0x0, true⟩] ++
    [⟨8, .any, 0x0, true⟩, ⟨8, .any, 0x0, true⟩, ⟨8, .any, 0x0, true⟩, ⟨8, .any, 0x0, true⟩, ⟨8, .any, 0x0, true⟩, ⟨8, .any, 0x0, true⟩, ⟨8, .any, 0x0, true⟩, ⟨8, .any, 0x0, true⟩, ⟨8, .any, 0x0, true⟩, ⟨8, .clampU 0 15, 0x0, true⟩, ⟨8, .clampU 0 15, 0x0, true⟩, ⟨8, .clampU 0 15, 0x0, true⟩, ⟨8, .clampU 0 15, 0x0, true⟩, ⟨8, .clampU 0 15, 0x0, true⟩, ⟨8, .clampU 0 15, 0x0, true⟩, ⟨8, .clampU 0 15, 0x0, true⟩, ⟨8, .clampU 0 15, 0x0, true⟩, ⟨8, .clampU 0 15, 0x0, true⟩, ⟨8, .clampU 0 15, 0x0, true⟩, ⟨8, .clampU 0 15, 0x0, true⟩, ⟨8, .clampU 0 15, 0x0, true⟩, ⟨8, .clampU 0 15, 0x0, true⟩, ⟨8, .clampU 0 15, 0x0, true⟩, ⟨8, .clampU 0 15, 0x0, true⟩] ++
    [⟨8, .clampU 0 15, 0x0, true⟩]⟩

/-! RATE (0x80 kind 3) -/

def C_RATE_STATION : CRef := ⟨0x80, 3, 0, 0x0⟩
def C_RATE_SCOPE : CRef := ⟨0x80, 3, 1, 0x1⟩
def C_RATE_SOURCES : CRef := ⟨0x80, 3, 2, 0xffffffff⟩
def C_RATE_CLASSES : CRef := ⟨0x80, 3, 3, 0x0⟩
def C_RATE_WINDOW : CRef := ⟨0x80, 3, 4, 0x640⟩

/-- The RATE record. -/
def kindRate : CKind :=
  ⟨0x80, 3, [0],
    [⟨8, .key [(0, 15)], 0x0, false⟩, ⟨8, .flag, 0x1, true⟩, ⟨32, .any, 0xffffffff, true⟩, ⟨16, .any, 0x0, true⟩, ⟨16, .stepsU 16 65520 16, 0x640, true⟩]⟩

/-! SENGINE (0x90 kind 0) -/

def C_SENGINE_EN : CRef := ⟨0x90, 0, 0, 0x1⟩
def C_SENGINE_LATE_TOL : CRef := ⟨0x90, 0, 1, 0x7d0⟩

/-- The SENGINE record. -/
def kindSengine : CKind :=
  ⟨0x90, 0, [],
    [⟨8, .flag, 0x1, true⟩, ⟨32, .clampU 0 100000, 0x7d0, true⟩]⟩

/-! VLINK (0x90 kind 1) -/

def C_VLINK_LINK : CRef := ⟨0x90, 1, 0, 0x0⟩
def C_VLINK_EN : CRef := ⟨0x90, 1, 1, 0x1⟩
def C_VLINK_CABLE_NS : CRef := ⟨0x90, 1, 2, 0x14⟩
def C_VLINK_MIN_W : CRef := ⟨0x90, 1, 3, 0xf4240⟩
def C_VLINK_MIN_GAP : CRef := ⟨0x90, 1, 4, 0x30d40⟩
def C_VLINK_RET_TIMEOUT : CRef := ⟨0x90, 1, 5, 0x10⟩
def C_VLINK_INHIBIT_RFX : CRef := ⟨0x90, 1, 6, 0xff⟩

/-- The VLINK record. -/
def kindVlink : CKind :=
  ⟨0x90, 1, [0],
    [⟨8, .key [(0, 3)], 0x0, false⟩, ⟨8, .flag, 0x1, true⟩, ⟨8, .clampU 0 100, 0x14, true⟩, ⟨32, .stepsU 8 134217720 8, 0xf4240, true⟩, ⟨32, .stepsU 0 134217720 8, 0x30d40, true⟩, ⟨16, .clampU 8 1000, 0x10, true⟩, ⟨8, .key [(0, 63), (255, 255)], 0xff, false⟩]⟩

/-! TEMPLATE (0x90 kind 2) -/

def C_TEMPLATE_INDEX : CRef := ⟨0x90, 2, 0, 0x0⟩
def C_TEMPLATE_TARGET : CRef := ⟨0x90, 2, 1, 0x0⟩
def C_TEMPLATE_PERIOD : CRef := ⟨0x90, 2, 2, 0x3e8⟩
def C_TEMPLATE_PHASE : CRef := ⟨0x90, 2, 3, 0x0⟩
def C_TEMPLATE_LEAD : CRef := ⟨0x90, 2, 4, 0x2710⟩
def C_TEMPLATE_MIN_WIDTH : CRef := ⟨0x90, 2, 5, 0x8⟩
def C_TEMPLATE_MAX_WIDTH : CRef := ⟨0x90, 2, 6, 0x7fffff8⟩

/-- The TEMPLATE record. -/
def kindTemplate : CKind :=
  ⟨0x90, 2, [0],
    [⟨8, .key [(0, 15)], 0x0, false⟩, ⟨16, .any, 0x0, false⟩, ⟨32, .clampU 10 1000000, 0x3e8, true⟩, ⟨32, .any, 0x0, true⟩, ⟨32, .clampU 5000 1000000, 0x2710, true⟩, ⟨32, .clampU 8 134217720, 0x8, true⟩, ⟨32, .clampU 8 134217720, 0x7fffff8, true⟩]⟩

/-! YIELD (0xa0 kind 0) -/

def C_YIELD_EN : CRef := ⟨0xa0, 0, 0, 0x1⟩
def C_YIELD_GRID_MS : CRef := ⟨0xa0, 0, 1, 0xa⟩
def C_YIELD_YMODE : CRef := ⟨0xa0, 0, 2, 0x1⟩
def C_YIELD_STEP_T : CRef := ⟨0xa0, 0, 3, 0x3e8⟩
def C_YIELD_STEP_M : CRef := ⟨0xa0, 0, 4, 0x40a00000⟩
def C_YIELD_MAX_T : CRef := ⟨0xa0, 0, 5, 0x1388⟩
def C_YIELD_NONWORK : CRef := ⟨0xa0, 0, 6, 0x0⟩
def C_YIELD_WORK_THR : CRef := ⟨0xa0, 0, 7, 0x3f000000⟩
def C_YIELD_F0 : CRef := ⟨0xa0, 0, 8, 0x0⟩
def C_YIELD_F1 : CRef := ⟨0xa0, 0, 9, 0x3f800000⟩
def C_YIELD_F2 : CRef := ⟨0xa0, 0, 10, 0x0⟩
def C_YIELD_F3 : CRef := ⟨0xa0, 0, 11, 0x0⟩
def C_YIELD_FLOW_ZERO : CRef := ⟨0xa0, 0, 12, 0x0⟩
def C_YIELD_CAL : CRef := ⟨0xa0, 0, 13, 0x3f800000⟩
def C_YIELD_FLOW_MAX : CRef := ⟨0xa0, 0, 14, 0x42480000⟩
def C_YIELD_DELAY0 : CRef := ⟨0xa0, 0, 15, 0x0⟩
def C_YIELD_DELAY1 : CRef := ⟨0xa0, 0, 16, 0x0⟩
def C_YIELD_DELAY2 : CRef := ⟨0xa0, 0, 17, 0x0⟩
def C_YIELD_DELAY3 : CRef := ⟨0xa0, 0, 18, 0x0⟩
def C_YIELD_DELAY4 : CRef := ⟨0xa0, 0, 19, 0x0⟩
def C_YIELD_DELAY5 : CRef := ⟨0xa0, 0, 20, 0x0⟩
def C_YIELD_DELAY6 : CRef := ⟨0xa0, 0, 21, 0x0⟩
def C_YIELD_DELAY7 : CRef := ⟨0xa0, 0, 22, 0x0⟩

/-- The YIELD record. -/
def kindYield : CKind :=
  ⟨0xa0, 0, [],
    [⟨8, .flag, 0x1, true⟩, ⟨16, .clampU 1 1000, 0xa, false⟩, ⟨8, .flag, 0x1, true⟩, ⟨32, .any, 0x3e8, true⟩, ⟨32, .clampF 0x3dcccccd 0x447a0000, 0x40a00000, true⟩, ⟨32, .any, 0x1388, true⟩, ⟨8, .flag, 0x0, true⟩, ⟨32, .float, 0x3f000000, true⟩, ⟨32, .float, 0x0, true⟩, ⟨32, .float, 0x3f800000, true⟩, ⟨32, .float, 0x0, true⟩, ⟨32, .float, 0x0, true⟩, ⟨32, .float, 0x0, true⟩, ⟨32, .clampF 0x3f000000 0x40000000, 0x3f800000, true⟩, ⟨32, .clampF 0x3dcccccd 0x447a0000, 0x42480000, true⟩, ⟨32, .clampU 0 30000, 0x0, false⟩, ⟨32, .clampU 0 30000, 0x0, false⟩, ⟨32, .clampU 0 30000, 0x0, false⟩, ⟨32, .clampU 0 30000, 0x0, false⟩, ⟨32, .clampU 0 30000, 0x0, false⟩, ⟨32, .clampU 0 30000, 0x0, false⟩, ⟨32, .clampU 0 30000, 0x0, false⟩, ⟨32, .clampU 0 30000, 0x0, false⟩]⟩

/-! LOSS (0xa0 kind 1) -/

def C_LOSS_GROUP : CRef := ⟨0xa0, 1, 0, 0x0⟩
def C_LOSS_SOURCES : CRef := ⟨0xa0, 1, 1, 0x0⟩
def C_LOSS_CLASSES : CRef := ⟨0xa0, 1, 2, 0xffff⟩
def C_LOSS_WINDOW : CRef := ⟨0xa0, 1, 3, 0x640⟩
def C_LOSS_GAIN : CRef := ⟨0xa0, 1, 4, 0x3f800000⟩
def C_LOSS_DELAY : CRef := ⟨0xa0, 1, 5, 0x0⟩

/-- The LOSS record. -/
def kindLoss : CKind :=
  ⟨0xa0, 1, [0],
    [⟨8, .key [(0, 3)], 0x0, false⟩, ⟨16, .any, 0x0, true⟩, ⟨16, .any, 0xffff, true⟩, ⟨16, .stepsU 16 65520 16, 0x640, true⟩, ⟨32, .float, 0x3f800000, true⟩, ⟨32, .clampU 0 30000, 0x0, false⟩]⟩

/-! LOOP (0xb0 kind 0) -/

def C_LOOP_LOOP : CRef := ⟨0xb0, 0, 0, 0x0⟩
def C_LOOP_EN : CRef := ⟨0xb0, 0, 1, 0x1⟩
def C_LOOP_MAN_INIT : CRef := ⟨0xb0, 0, 2, 0x0⟩
def C_LOOP_PERIOD : CRef := ⟨0xb0, 0, 3, 0x2710⟩
def C_LOOP_PHASE : CRef := ⟨0xb0, 0, 4, 0x0⟩
def C_LOOP_GROUP : CRef := ⟨0xb0, 0, 5, 0xff⟩
def C_LOOP_ACTION : CRef := ⟨0xb0, 0, 6, 0x0⟩
def C_LOOP_SP_SRC : CRef := ⟨0xb0, 0, 7, 0x0⟩
def C_LOOP_SP_CONST : CRef := ⟨0xb0, 0, 8, 0x0⟩
def C_LOOP_SP_LO : CRef := ⟨0xb0, 0, 9, 0xf149f2ca⟩
def C_LOOP_SP_HI : CRef := ⟨0xb0, 0, 10, 0x7149f2ca⟩
def C_LOOP_SP_INIT : CRef := ⟨0xb0, 0, 11, 0x0⟩
def C_LOOP_PV_TRACK : CRef := ⟨0xb0, 0, 12, 0x0⟩
def C_LOOP_VMAX : CRef := ⟨0xb0, 0, 13, 0x0⟩
def C_LOOP_AMAX : CRef := ⟨0xb0, 0, 14, 0x0⟩
def C_LOOP_HARD_REV : CRef := ⟨0xb0, 0, 15, 0x0⟩
def C_LOOP_KP : CRef := ⟨0xb0, 0, 16, 0x3f800000⟩
def C_LOOP_KI : CRef := ⟨0xb0, 0, 17, 0x0⟩
def C_LOOP_KD : CRef := ⟨0xb0, 0, 18, 0x0⟩
def C_LOOP_TF : CRef := ⟨0xb0, 0, 19, 0x0⟩
def C_LOOP_DMODE : CRef := ⟨0xb0, 0, 20, 0x0⟩
def C_LOOP_BQ_EN : CRef := ⟨0xb0, 0, 21, 0x0⟩
def C_LOOP_BQ1_B0 : CRef := ⟨0xb0, 0, 22, 0x3f800000⟩
def C_LOOP_BQ1_B1 : CRef := ⟨0xb0, 0, 23, 0x0⟩
def C_LOOP_BQ1_B2 : CRef := ⟨0xb0, 0, 24, 0x0⟩
def C_LOOP_BQ1_A1 : CRef := ⟨0xb0, 0, 25, 0x0⟩
def C_LOOP_BQ1_A2 : CRef := ⟨0xb0, 0, 26, 0x0⟩
def C_LOOP_BQ2_B0 : CRef := ⟨0xb0, 0, 27, 0x3f800000⟩
def C_LOOP_BQ2_B1 : CRef := ⟨0xb0, 0, 28, 0x0⟩
def C_LOOP_BQ2_B2 : CRef := ⟨0xb0, 0, 29, 0x0⟩
def C_LOOP_BQ2_A1 : CRef := ⟨0xb0, 0, 30, 0x0⟩
def C_LOOP_BQ2_A2 : CRef := ⟨0xb0, 0, 31, 0x0⟩
def C_LOOP_FF_GAIN : CRef := ⟨0xb0, 0, 32, 0x0⟩
def C_LOOP_FF_OFFSET : CRef := ⟨0xb0, 0, 33, 0x0⟩
def C_LOOP_LIM_LO : CRef := ⟨0xb0, 0, 34, 0x0⟩
def C_LOOP_LIM_HI : CRef := ⟨0xb0, 0, 35, 0x3f800000⟩
def C_LOOP_RATE_LIM : CRef := ⟨0xb0, 0, 36, 0x0⟩
def C_LOOP_TT : CRef := ⟨0xb0, 0, 37, 0x0⟩
def C_LOOP_PV_FAIL : CRef := ⟨0xb0, 0, 38, 0x0⟩
def C_LOOP_FAIL_OUT : CRef := ⟨0xb0, 0, 39, 0x0⟩
def C_LOOP_INIT_OUT : CRef := ⟨0xb0, 0, 40, 0x0⟩
def C_LOOP_SINK_KIND : CRef := ⟨0xb0, 0, 41, 0x0⟩
def C_LOOP_SINK_INDEX : CRef := ⟨0xb0, 0, 42, 0x0⟩

/-- The LOOP record. -/
def kindLoop : CKind :=
  ⟨0xb0, 0, [0],
    [⟨8, .key [(0, 63)], 0x0, false⟩, ⟨8, .flag, 0x1, true⟩, ⟨8, .flag, 0x0, false⟩, ⟨32, .clampU 20 1000000, 0x2710, false⟩, ⟨32, .any, 0x0, false⟩, ⟨8, .key [(0, 15), (255, 255)], 0xff, false⟩, ⟨8, .flag, 0x0, true⟩, ⟨8, .key [(0, 3)], 0x0, false⟩, ⟨32, .float, 0x0, true⟩, ⟨32, .float, 0xf149f2ca, true⟩, ⟨32, .float, 0x7149f2ca, true⟩, ⟨8, .flag, 0x0, false⟩, ⟨8, .flag, 0x0, true⟩, ⟨32, .clampF 0x0 0x7149f2ca, 0x0, true⟩, ⟨32, .clampF 0x0 0x7149f2ca, 0x0, true⟩, ⟨8, .flag, 0x0, true⟩, ⟨32, .clampF 0xd368d4a5 0x5368d4a5, 0x3f800000, true⟩, ⟨32, .clampF 0xd368d4a5 0x5368d4a5, 0x0, true⟩, ⟨32, .clampF 0xd368d4a5 0x5368d4a5, 0x0, true⟩, ⟨32, .clampF 0x0 0x447a0000, 0x0, true⟩, ⟨8, .flag, 0x0, true⟩, ⟨8, .mask 0x3, 0x0, true⟩, ⟨32, .float, 0x3f800000, true⟩, ⟨32, .float, 0x0, true⟩] ++
    [⟨32, .float, 0x0, true⟩, ⟨32, .float, 0x0, true⟩, ⟨32, .float, 0x0, true⟩, ⟨32, .float, 0x3f800000, true⟩, ⟨32, .float, 0x0, true⟩, ⟨32, .float, 0x0, true⟩, ⟨32, .float, 0x0, true⟩, ⟨32, .float, 0x0, true⟩, ⟨32, .float, 0x0, true⟩, ⟨32, .float, 0x0, true⟩, ⟨32, .float, 0x0, true⟩, ⟨32, .float, 0x3f800000, true⟩, ⟨32, .clampF 0x0 0x7149f2ca, 0x0, true⟩, ⟨32, .clampF 0x0 0x461c4000, 0x0, true⟩, ⟨8, .clampU 0 2, 0x0, true⟩, ⟨32, .float, 0x0, true⟩, ⟨32, .float, 0x0, true⟩, ⟨8, .key [(0, 3)], 0x0, false⟩, ⟨8, .any, 0x0, false⟩]⟩

/-! GROUP (0xb0 kind 1) -/

def C_GROUP_GROUP : CRef := ⟨0xb0, 1, 0, 0x0⟩
def C_GROUP_PERIOD : CRef := ⟨0xb0, 1, 1, 0x2710⟩
def C_GROUP_PHASE : CRef := ⟨0xb0, 1, 2, 0x0⟩
def C_GROUP_SINK_KIND : CRef := ⟨0xb0, 1, 3, 0x0⟩
def C_GROUP_SINK_INDEX : CRef := ⟨0xb0, 1, 4, 0x0⟩

/-- The GROUP record. -/
def kindGroup : CKind :=
  ⟨0xb0, 1, [0],
    [⟨8, .key [(0, 15)], 0x0, false⟩, ⟨32, .clampU 20 1000000, 0x2710, false⟩, ⟨32, .any, 0x0, false⟩, ⟨8, .key [(0, 3)], 0x0, false⟩, ⟨8, .any, 0x0, false⟩]⟩

/-! DIO (0xc0 kind 0) -/

def C_DIO_CHANNEL : CRef := ⟨0xc0, 0, 0, 0x0⟩
def C_DIO_DIR : CRef := ⟨0xc0, 0, 1, 0x0⟩
def C_DIO_TYPE : CRef := ⟨0xc0, 0, 2, 0x0⟩
def C_DIO_DEBOUNCE : CRef := ⟨0xc0, 0, 3, 0x3e8⟩
def C_DIO_WB_EN : CRef := ⟨0xc0, 0, 4, 0x0⟩
def C_DIO_SOURCE : CRef := ⟨0xc0, 0, 5, 0x0⟩
def C_DIO_OUT_MODE : CRef := ⟨0xc0, 0, 6, 0x0⟩
def C_DIO_TP_PERIOD : CRef := ⟨0xc0, 0, 7, 0x3e8⟩
def C_DIO_INIT : CRef := ⟨0xc0, 0, 8, 0x0⟩
def C_DIO_ILIM : CRef := ⟨0xc0, 0, 9, 0x258⟩
def C_DIO_OC_TIME : CRef := ⟨0xc0, 0, 10, 0xa⟩
def C_DIO_RETRY_MAX : CRef := ⟨0xc0, 0, 11, 0x0⟩
def C_DIO_OL_ON_EN : CRef := ⟨0xc0, 0, 12, 0x0⟩
def C_DIO_OL_OFF_EN : CRef := ⟨0xc0, 0, 13, 0x0⟩
def C_DIO_OL_ON_MA : CRef := ⟨0xc0, 0, 14, 0x5⟩
def C_DIO_PARTNER_DRIVE : CRef := ⟨0xc0, 0, 15, 0x0⟩
def C_DIO_SAFE : CRef := ⟨0xc0, 0, 16, 0x0⟩
def C_DIO_HOSTLOST : CRef := ⟨0xc0, 0, 17, 0x0⟩
def C_DIO_UV_RESTORE : CRef := ⟨0xc0, 0, 18, 0x0⟩
def C_DIO_STALE_ACT : CRef := ⟨0xc0, 0, 19, 0x0⟩

/-- The DIO record. -/
def kindDio : CKind :=
  ⟨0xc0, 0, [0],
    [⟨8, .key [(0, 47)], 0x0, false⟩, ⟨8, .key [(0, 1)], 0x0, false⟩, ⟨8, .flag, 0x0, false⟩, ⟨16, .clampU 1 65535, 0x3e8, true⟩, ⟨8, .flag, 0x0, true⟩, ⟨8, .key [(0, 1)], 0x0, false⟩, ⟨8, .flag, 0x0, true⟩, ⟨32, .clampU 10 60000, 0x3e8, true⟩, ⟨8, .flag, 0x0, true⟩, ⟨16, .stepsU 100 600 50, 0x258, true⟩, ⟨8, .clampU 0 100, 0xa, true⟩, ⟨8, .any, 0x0, true⟩, ⟨8, .flag, 0x0, true⟩, ⟨8, .flag, 0x0, true⟩, ⟨8, .clampU 1 100, 0x5, true⟩, ⟨8, .flag, 0x0, true⟩, ⟨8, .clampU 0 2, 0x0, true⟩, ⟨8, .clampU 0 2, 0x0, true⟩, ⟨8, .flag, 0x0, true⟩, ⟨8, .flag, 0x0, true⟩]⟩

/-! AOUT (0xc0 kind 1) -/

def C_AOUT_AOUT : CRef := ⟨0xc0, 1, 0, 0x0⟩
def C_AOUT_MODE : CRef := ⟨0xc0, 1, 1, 0x0⟩
def C_AOUT_SOURCE : CRef := ⟨0xc0, 1, 2, 0x0⟩
def C_AOUT_SCALE : CRef := ⟨0xc0, 1, 3, 0x3f800000⟩
def C_AOUT_OFFSET : CRef := ⟨0xc0, 1, 4, 0x0⟩
def C_AOUT_INIT : CRef := ⟨0xc0, 1, 5, 0x0⟩
def C_AOUT_SAFE_V : CRef := ⟨0xc0, 1, 6, 0x0⟩
def C_AOUT_HOSTLOST : CRef := ⟨0xc0, 1, 7, 0x0⟩
def C_AOUT_OPEN_EN : CRef := ⟨0xc0, 1, 8, 0x1⟩
def C_AOUT_STALE_ACT : CRef := ⟨0xc0, 1, 9, 0x0⟩

/-- The AOUT record. -/
def kindAout : CKind :=
  ⟨0xc0, 1, [0],
    [⟨8, .key [(0, 7)], 0x0, false⟩, ⟨8, .key [(0, 2)], 0x0, false⟩, ⟨8, .key [(0, 2)], 0x0, false⟩, ⟨32, .float, 0x3f800000, true⟩, ⟨32, .float, 0x0, true⟩, ⟨32, .float, 0x0, true⟩, ⟨32, .float, 0x0, true⟩, ⟨8, .clampU 0 2, 0x0, true⟩, ⟨8, .flag, 0x1, true⟩, ⟨8, .flag, 0x0, true⟩]⟩

/-! FAN (0xd0 kind 0) -/

def C_FAN_CHANNEL : CRef := ⟨0xd0, 0, 0, 0x0⟩
def C_FAN_EN : CRef := ⟨0xd0, 0, 1, 0x1⟩
def C_FAN_DRIVE_KIND : CRef := ⟨0xd0, 0, 2, 0x0⟩
def C_FAN_AOUT : CRef := ⟨0xd0, 0, 3, 0x0⟩
def C_FAN_PWM_INV : CRef := ⟨0xd0, 0, 4, 0x0⟩
def C_FAN_PPR : CRef := ⟨0xd0, 0, 5, 0x2⟩
def C_FAN_CTRL_MODE : CRef := ⟨0xd0, 0, 6, 0x0⟩
def C_FAN_SP_SRC : CRef := ⟨0xd0, 0, 7, 0x0⟩
def C_FAN_MAN_INIT : CRef := ⟨0xd0, 0, 8, 0x0⟩
def C_FAN_SP_INIT : CRef := ⟨0xd0, 0, 9, 0x0⟩
def C_FAN_MIN_RPM : CRef := ⟨0xd0, 0, 10, 0x43480000⟩
def C_FAN_RAMP : CRef := ⟨0xd0, 0, 11, 0x43fa0000⟩
def C_FAN_KP : CRef := ⟨0xd0, 0, 12, 0x3c23d70a⟩
def C_FAN_KI : CRef := ⟨0xd0, 0, 13, 0x3d4ccccd⟩
def C_FAN_DRIVE_MIN : CRef := ⟨0xd0, 0, 14, 0x41a00000⟩
def C_FAN_DRIVE_MAX : CRef := ⟨0xd0, 0, 15, 0x42c80000⟩
def C_FAN_CTRL_MS : CRef := ⟨0xd0, 0, 16, 0xa⟩
def C_FAN_PRONK_EN : CRef := ⟨0xd0, 0, 17, 0x1⟩
def C_FAN_PRONK_MS : CRef := ⟨0xd0, 0, 18, 0x7d0⟩
def C_FAN_OFF_MS : CRef := ⟨0xd0, 0, 19, 0x1388⟩
def C_FAN_RETRIES : CRef := ⟨0xd0, 0, 20, 0x3⟩
def C_FAN_FAIL_DRIVE : CRef := ⟨0xd0, 0, 21, 0x42c80000⟩
def C_FAN_CS_CHANNEL : CRef := ⟨0xd0, 0, 22, 0xff⟩
def C_FAN_I_RUN_LO : CRef := ⟨0xd0, 0, 23, 0x0⟩
def C_FAN_I_RUN_HI : CRef := ⟨0xd0, 0, 24, 0x41c80000⟩
def C_FAN_CURVE_GROUP : CRef := ⟨0xd0, 0, 25, 0xff⟩
def C_FAN_CURVE_T0 : CRef := ⟨0xd0, 0, 26, 0x0⟩
def C_FAN_CURVE_T1 : CRef := ⟨0xd0, 0, 27, 0x0⟩
def C_FAN_CURVE_T2 : CRef := ⟨0xd0, 0, 28, 0x0⟩
def C_FAN_CURVE_T3 : CRef := ⟨0xd0, 0, 29, 0x0⟩
def C_FAN_CURVE_D0 : CRef := ⟨0xd0, 0, 30, 0x0⟩
def C_FAN_CURVE_D1 : CRef := ⟨0xd0, 0, 31, 0x0⟩
def C_FAN_CURVE_D2 : CRef := ⟨0xd0, 0, 32, 0x0⟩
def C_FAN_CURVE_D3 : CRef := ⟨0xd0, 0, 33, 0x0⟩
def C_FAN_AGE_LIMIT : CRef := ⟨0xd0, 0, 34, 0x3f933333⟩
def C_FAN_LEARN_S : CRef := ⟨0xd0, 0, 35, 0x14⟩
def C_FAN_BASE_RPM0 : CRef := ⟨0xd0, 0, 36, 0x0⟩
def C_FAN_BASE_RPM1 : CRef := ⟨0xd0, 0, 37, 0x0⟩
def C_FAN_BASE_RPM2 : CRef := ⟨0xd0, 0, 38, 0x0⟩
def C_FAN_BASE_RPM3 : CRef := ⟨0xd0, 0, 39, 0x0⟩
def C_FAN_BASE_RPM4 : CRef := ⟨0xd0, 0, 40, 0x0⟩
def C_FAN_BASE_RPM5 : CRef := ⟨0xd0, 0, 41, 0x0⟩
def C_FAN_BASE_RPM6 : CRef := ⟨0xd0, 0, 42, 0x0⟩
def C_FAN_BASE_RPM7 : CRef := ⟨0xd0, 0, 43, 0x0⟩

/-- The FAN record. -/
def kindFan : CKind :=
  ⟨0xd0, 0, [0],
    [⟨8, .key [(0, 7)], 0x0, false⟩, ⟨8, .flag, 0x1, true⟩, ⟨8, .key [(0, 1)], 0x0, false⟩, ⟨8, .any, 0x0, false⟩, ⟨8, .flag, 0x0, true⟩, ⟨8, .clampU 1 4, 0x2, true⟩, ⟨8, .flag, 0x0, false⟩, ⟨8, .key [(0, 1)], 0x0, false⟩, ⟨8, .flag, 0x0, false⟩, ⟨32, .clampF 0x0 0x47c35000, 0x0, true⟩, ⟨32, .clampF 0x41200000 0x461c4000, 0x43480000, true⟩, ⟨32, .clampF 0x3f800000 0x47c35000, 0x43fa0000, true⟩, ⟨32, .clampF 0x0 0x42c80000, 0x3c23d70a, true⟩, ⟨32, .clampF 0x0 0x42c80000, 0x3d4ccccd, true⟩, ⟨32, .clampF 0x0 0x42c80000, 0x41a00000, true⟩, ⟨32, .clampF 0x0 0x42c80000, 0x42c80000, true⟩, ⟨16, .clampU 1 1000, 0xa, true⟩, ⟨8, .flag, 0x1, true⟩, ⟨16, .clampU 100 30000, 0x7d0, true⟩, ⟨16, .clampU 1000 60000, 0x1388, true⟩, ⟨8, .clampU 0 15, 0x3, true⟩, ⟨32, .clampF 0x0 0x42c80000, 0x42c80000, true⟩, ⟨8, .key [(0, 31), (255, 255)], 0xff, false⟩, ⟨32, .clampF 0x0 0x41c80000, 0x0, true⟩] ++
    [⟨32, .clampF 0x0 0x41c80000, 0x41c80000, true⟩, ⟨8, .noneAbove 3, 0xff, true⟩, ⟨16, .any, 0x0, true⟩, ⟨16, .any, 0x0, true⟩, ⟨16, .any, 0x0, true⟩, ⟨16, .any, 0x0, true⟩, ⟨32, .clampF 0x0 0x42c80000, 0x0, true⟩, ⟨32, .clampF 0x0 0x42c80000, 0x0, true⟩, ⟨32, .clampF 0x0 0x42c80000, 0x0, true⟩, ⟨32, .clampF 0x0 0x42c80000, 0x0, true⟩, ⟨32, .clampF 0x3f8147ae 0x40000000, 0x3f933333, true⟩, ⟨16, .clampU 5 600, 0x14, true⟩, ⟨32, .zeroOrF 0x41200000 0x47c35000, 0x0, true⟩, ⟨32, .zeroOrF 0x41200000 0x47c35000, 0x0, true⟩, ⟨32, .zeroOrF 0x41200000 0x47c35000, 0x0, true⟩, ⟨32, .zeroOrF 0x41200000 0x47c35000, 0x0, true⟩, ⟨32, .zeroOrF 0x41200000 0x47c35000, 0x0, true⟩, ⟨32, .zeroOrF 0x41200000 0x47c35000, 0x0, true⟩, ⟨32, .zeroOrF 0x41200000 0x47c35000, 0x0, true⟩, ⟨32, .zeroOrF 0x41200000 0x47c35000, 0x0, true⟩]⟩

/-! SENSOR (0xe0 kind 0) -/

def C_SENSOR_SENSOR : CRef := ⟨0xe0, 0, 0, 0x0⟩
def C_SENSOR_TYPE : CRef := ⟨0xe0, 0, 1, 0x0⟩
def C_SENSOR_OFFSET : CRef := ⟨0xe0, 0, 2, 0x0⟩
def C_SENSOR_NEIGH0 : CRef := ⟨0xe0, 0, 3, 0xff⟩
def C_SENSOR_NEIGH1 : CRef := ⟨0xe0, 0, 4, 0xff⟩
def C_SENSOR_NEIGH2 : CRef := ⟨0xe0, 0, 5, 0xff⟩
def C_SENSOR_DISAGREE : CRef := ⟨0xe0, 0, 6, 0xc0⟩
def C_SENSOR_REPL_OFFSET : CRef := ⟨0xe0, 0, 7, 0x50⟩
def C_SENSOR_IDEALITY : CRef := ⟨0xe0, 0, 8, 0x3f810625⟩
def C_SENSOR_BETA : CRef := ⟨0xe0, 0, 9, 0x4576e000⟩
def C_SENSOR_RNOM : CRef := ⟨0xe0, 0, 10, 0x461c4000⟩

/-- The SENSOR record. -/
def kindSensor : CKind :=
  ⟨0xe0, 0, [0],
    [⟨8, .key [(0, 31)], 0x0, false⟩, ⟨8, .clampU 0 2, 0x0, false⟩, ⟨16, .clampS (-160) (160), 0x0, true⟩, ⟨8, .noneAbove 31, 0xff, true⟩, ⟨8, .noneAbove 31, 0xff, true⟩, ⟨8, .noneAbove 31, 0xff, true⟩, ⟨16, .clampS (16) (1600), 0xc0, true⟩, ⟨16, .clampS (0) (800), 0x50, true⟩, ⟨32, .clampF 0x3f800000 0x3f8ccccd, 0x3f810625, true⟩, ⟨32, .clampF 0x447a0000 0x461c4000, 0x4576e000, true⟩, ⟨32, .clampF 0x447a0000 0x47c35000, 0x461c4000, true⟩]⟩

/-! TGROUP (0xe0 kind 1) -/

def C_TGROUP_GROUP : CRef := ⟨0xe0, 1, 0, 0x0⟩
def C_TGROUP_WARN : CRef := ⟨0xe0, 1, 1, 0x0⟩
def C_TGROUP_THROTTLE : CRef := ⟨0xe0, 1, 2, 0x0⟩
def C_TGROUP_SHUTDOWN : CRef := ⟨0xe0, 1, 3, 0x0⟩
def C_TGROUP_HYST_W : CRef := ⟨0xe0, 1, 4, 0x50⟩
def C_TGROUP_HYST_T : CRef := ⟨0xe0, 1, 5, 0x50⟩
def C_TGROUP_STEP : CRef := ⟨0xe0, 1, 6, 0x50⟩
def C_TGROUP_SHUT_EN : CRef := ⟨0xe0, 1, 7, 0x1⟩

/-- The TGROUP record. -/
def kindTgroup : CKind :=
  ⟨0xe0, 1, [0],
    [⟨8, .key [(0, 3)], 0x0, false⟩, ⟨16, .any, 0x0, true⟩, ⟨16, .any, 0x0, true⟩, ⟨16, .any, 0x0, true⟩, ⟨16, .clampS (0) (320), 0x50, true⟩, ⟨16, .clampS (0) (320), 0x50, true⟩, ⟨16, .clampS (16) (480), 0x50, true⟩, ⟨8, .flag, 0x1, true⟩]⟩

/-! POLICY (0xe0 kind 2) -/

def C_POLICY_GRACE_MS : CRef := ⟨0xe0, 2, 0, 0x1388⟩
def C_POLICY_HOLD_S : CRef := ⟨0xe0, 2, 1, 0x3c⟩
def C_POLICY_SHUT_SAMPLES : CRef := ⟨0xe0, 2, 2, 0x2⟩

/-- The POLICY record. -/
def kindPolicy : CKind :=
  ⟨0xe0, 2, [],
    [⟨16, .clampU 0 60000, 0x1388, true⟩, ⟨16, .clampU 1 3600, 0x3c, true⟩, ⟨8, .clampU 1 16, 0x2, true⟩]⟩

/-! CONTROLLER (0xf0 kind 0) -/

def C_CONTROLLER_CTRL : CRef := ⟨0xf0, 0, 0, 0x0⟩
def C_CONTROLLER_EN : CRef := ⟨0xf0, 0, 1, 0x1⟩
def C_CONTROLLER_MODE : CRef := ⟨0xf0, 0, 2, 0x0⟩
def C_CONTROLLER_FD_EN : CRef := ⟨0xf0, 0, 3, 0x0⟩
def C_CONTROLLER_TIMING : CRef := ⟨0xf0, 0, 4, 0x0⟩
def C_CONTROLLER_TX_BASE : CRef := ⟨0xf0, 0, 5, 0x0⟩
def C_CONTROLLER_TX_COUNT : CRef := ⟨0xf0, 0, 6, 0x0⟩
def C_CONTROLLER_RING0_BASE : CRef := ⟨0xf0, 0, 7, 0x0⟩
def C_CONTROLLER_RING0_LEN : CRef := ⟨0xf0, 0, 8, 0x0⟩
def C_CONTROLLER_RING1_BASE : CRef := ⟨0xf0, 0, 9, 0x0⟩
def C_CONTROLLER_RING1_LEN : CRef := ⟨0xf0, 0, 10, 0x0⟩
def C_CONTROLLER_HP_BUF : CRef := ⟨0xf0, 0, 11, 0x1ff⟩
def C_CONTROLLER_NOMATCH : CRef := ⟨0xf0, 0, 12, 0x3⟩
def C_CONTROLLER_AUTO_RECOVER : CRef := ⟨0xf0, 0, 13, 0x1⟩
def C_CONTROLLER_LATE_WINDOW : CRef := ⟨0xf0, 0, 14, 0x0⟩
def C_CONTROLLER_LOCK_TIMEOUT : CRef := ⟨0xf0, 0, 15, 0x0⟩
def C_CONTROLLER_TDC_EN : CRef := ⟨0xf0, 0, 16, 0x1⟩
def C_CONTROLLER_TDCO : CRef := ⟨0xf0, 0, 17, 0x8⟩
def C_CONTROLLER_ABD_FIRST : CRef := ⟨0xf0, 0, 18, 0x0⟩
def C_CONTROLLER_ABD_COUNT : CRef := ⟨0xf0, 0, 19, 0x1⟩
def C_CONTROLLER_ABD_DWELL : CRef := ⟨0xf0, 0, 20, 0x1f4⟩
def C_CONTROLLER_ABD_JOIN : CRef := ⟨0xf0, 0, 21, 0x0⟩

/-- The CONTROLLER record. -/
def kindController : CKind :=
  ⟨0xf0, 0, [0],
    [⟨8, .key [(0, 3)], 0x0, false⟩, ⟨8, .flag, 0x1, true⟩, ⟨8, .clampU 0 2, 0x0, true⟩, ⟨8, .flag, 0x0, false⟩, ⟨8, .key [(0, 31)], 0x0, true⟩, ⟨16, .key [(0, 511)], 0x0, false⟩, ⟨16, .key [(0, 512)], 0x0, false⟩, ⟨16, .key [(0, 511)], 0x0, false⟩, ⟨16, .key [(0, 512)], 0x0, false⟩, ⟨16, .key [(0, 511)], 0x0, false⟩, ⟨16, .key [(0, 512)], 0x0, false⟩, ⟨16, .key [(0, 511)], 0x1ff, false⟩, ⟨8, .nomatch, 0x3, true⟩, ⟨8, .flag, 0x1, true⟩, ⟨32, .clampU 0 60000000, 0x0, true⟩, ⟨16, .any, 0x0, true⟩, ⟨8, .flag, 0x1, true⟩, ⟨8, .clampU 0 127, 0x8, true⟩, ⟨8, .key [(0, 31)], 0x0, true⟩, ⟨8, .clampU 1 16, 0x1, true⟩, ⟨16, .clampU 10 10000, 0x1f4, true⟩, ⟨8, .flag, 0x0, true⟩]⟩

/-! TIMING (0xf0 kind 1) -/

def C_TIMING_SET : CRef := ⟨0xf0, 1, 0, 0x0⟩
def C_TIMING_NBRP : CRef := ⟨0xf0, 1, 1, 0x1⟩
def C_TIMING_NTSEG1 : CRef := ⟨0xf0, 1, 2, 0x2⟩
def C_TIMING_NTSEG2 : CRef := ⟨0xf0, 1, 3, 0x1⟩
def C_TIMING_NSJW : CRef := ⟨0xf0, 1, 4, 0x1⟩
def C_TIMING_DBRP : CRef := ⟨0xf0, 1, 5, 0x0⟩
def C_TIMING_DTSEG1 : CRef := ⟨0xf0, 1, 6, 0x0⟩
def C_TIMING_DTSEG2 : CRef := ⟨0xf0, 1, 7, 0x0⟩
def C_TIMING_DSJW : CRef := ⟨0xf0, 1, 8, 0x0⟩

/-- The TIMING record. -/
def kindTiming : CKind :=
  ⟨0xf0, 1, [0],
    [⟨8, .key [(0, 31)], 0x0, false⟩, ⟨16, .clampU 1 256, 0x1, true⟩, ⟨16, .clampU 2 256, 0x2, true⟩, ⟨16, .clampU 1 128, 0x1, true⟩, ⟨16, .clampU 1 128, 0x1, true⟩, ⟨8, .clampU 0 32, 0x0, true⟩, ⟨8, .clampU 0 32, 0x0, true⟩, ⟨8, .clampU 0 16, 0x0, true⟩, ⟨8, .clampU 0 16, 0x0, true⟩]⟩

/-! FILTER (0xf0 kind 2) -/

def C_FILTER_INDEX : CRef := ⟨0xf0, 2, 0, 0x0⟩
def C_FILTER_CTRL : CRef := ⟨0xf0, 2, 1, 0x0⟩
def C_FILTER_XTD : CRef := ⟨0xf0, 2, 2, 0x2⟩
def C_FILTER_TYPE : CRef := ⟨0xf0, 2, 3, 0x0⟩
def C_FILTER_ID1 : CRef := ⟨0xf0, 2, 4, 0x0⟩
def C_FILTER_ID2 : CRef := ⟨0xf0, 2, 5, 0x0⟩
def C_FILTER_ACTION : CRef := ⟨0xf0, 2, 6, 0x0⟩

/-- The FILTER record. -/
def kindFilter : CKind :=
  ⟨0xf0, 2, [0],
    [⟨8, .any, 0x0, false⟩, ⟨8, .key [(0, 3)], 0x0, false⟩, ⟨8, .clampU 0 2, 0x2, true⟩, ⟨8, .key [(0, 2)], 0x0, true⟩, ⟨32, .mask 0x1FFFFFFF, 0x0, true⟩, ⟨32, .mask 0x1FFFFFFF, 0x0, true⟩, ⟨8, .clampU 0 3, 0x0, true⟩]⟩

/-! TXBUF (0xf0 kind 3) -/

def C_TXBUF_BUF : CRef := ⟨0xf0, 3, 0, 0x0⟩
def C_TXBUF_ID : CRef := ⟨0xf0, 3, 1, 0x0⟩
def C_TXBUF_XTD : CRef := ⟨0xf0, 3, 2, 0x0⟩
def C_TXBUF_FDF : CRef := ⟨0xf0, 3, 3, 0x0⟩
def C_TXBUF_BRS : CRef := ⟨0xf0, 3, 4, 0x0⟩
def C_TXBUF_ONESHOT : CRef := ⟨0xf0, 3, 5, 0x0⟩
def C_TXBUF_INT : CRef := ⟨0xf0, 3, 6, 0x0⟩
def C_TXBUF_DLC : CRef := ⟨0xf0, 3, 7, 0x8⟩
def C_TXBUF_FILL : CRef := ⟨0xf0, 3, 8, 0xff⟩
def C_TXBUF_PERIOD_MS : CRef := ⟨0xf0, 3, 9, 0x0⟩
def C_TXBUF_PHASE_MS : CRef := ⟨0xf0, 3, 10, 0x0⟩

/-- The TXBUF record. -/
def kindTxbuf : CKind :=
  ⟨0xf0, 3, [0],
    [⟨16, .key [(0, 511)], 0x0, false⟩, ⟨32, .mask 0x1FFFFFFF, 0x0, true⟩, ⟨8, .flag, 0x0, true⟩, ⟨8, .flag, 0x0, true⟩, ⟨8, .flag, 0x0, true⟩, ⟨8, .flag, 0x0, true⟩, ⟨8, .flag, 0x0, true⟩, ⟨8, .clampU 0 15, 0x8, true⟩, ⟨8, .any, 0xff, true⟩, ⟨32, .clampU 0 3600000, 0x0, true⟩, ⟨32, .any, 0x0, true⟩]⟩

/-! RXSIG (0xf0 kind 4) -/

def C_RXSIG_SIGNAL : CRef := ⟨0xf0, 4, 0, 0x0⟩
def C_RXSIG_CTRL : CRef := ⟨0xf0, 4, 1, 0x0⟩
def C_RXSIG_XTD : CRef := ⟨0xf0, 4, 2, 0x0⟩
def C_RXSIG_ID : CRef := ⟨0xf0, 4, 3, 0x0⟩
def C_RXSIG_ID_MASK : CRef := ⟨0xf0, 4, 4, 0x0⟩
def C_RXSIG_START : CRef := ⟨0xf0, 4, 5, 0x0⟩
def C_RXSIG_LEN : CRef := ⟨0xf0, 4, 6, 0x0⟩
def C_RXSIG_ORDER : CRef := ⟨0xf0, 4, 7, 0x0⟩
def C_RXSIG_SIGNED : CRef := ⟨0xf0, 4, 8, 0x0⟩
def C_RXSIG_NA_EN : CRef := ⟨0xf0, 4, 9, 0x0⟩
def C_RXSIG_SCALE : CRef := ⟨0xf0, 4, 10, 0x3f800000⟩
def C_RXSIG_OFFSET : CRef := ⟨0xf0, 4, 11, 0x0⟩

/-- The RXSIG record. -/
def kindRxsig : CKind :=
  ⟨0xf0, 4, [0],
    [⟨8, .key [(0, 31)], 0x0, false⟩, ⟨8, .key [(0, 3)], 0x0, false⟩, ⟨8, .clampU 0 2, 0x0, true⟩, ⟨32, .mask 0x1FFFFFFF, 0x0, true⟩, ⟨32, .mask 0x1FFFFFFF, 0x0, true⟩, ⟨16, .key [(0, 511)], 0x0, true⟩, ⟨8, .key [(1, 32)], 0x0, false⟩, ⟨8, .flag, 0x0, true⟩, ⟨8, .flag, 0x0, true⟩, ⟨8, .flag, 0x0, true⟩, ⟨32, .floatNZ, 0x3f800000, true⟩, ⟨32, .float, 0x0, true⟩]⟩

/-! TXSIG (0xf0 kind 5) -/

def C_TXSIG_SIGNAL : CRef := ⟨0xf0, 5, 0, 0x0⟩
def C_TXSIG_BUF : CRef := ⟨0xf0, 5, 1, 0x0⟩
def C_TXSIG_START : CRef := ⟨0xf0, 5, 2, 0x0⟩
def C_TXSIG_LEN : CRef := ⟨0xf0, 5, 3, 0x0⟩
def C_TXSIG_ORDER : CRef := ⟨0xf0, 5, 4, 0x0⟩
def C_TXSIG_SIGNED : CRef := ⟨0xf0, 5, 5, 0x0⟩
def C_TXSIG_NA_EN : CRef := ⟨0xf0, 5, 6, 0x0⟩
def C_TXSIG_SCALE : CRef := ⟨0xf0, 5, 7, 0x3f800000⟩
def C_TXSIG_OFFSET : CRef := ⟨0xf0, 5, 8, 0x0⟩

/-- The TXSIG record. -/
def kindTxsig : CKind :=
  ⟨0xf0, 5, [0],
    [⟨8, .key [(0, 15)], 0x0, false⟩, ⟨16, .key [(0, 511)], 0x0, false⟩, ⟨16, .key [(0, 511)], 0x0, true⟩, ⟨8, .key [(1, 32)], 0x0, false⟩, ⟨8, .flag, 0x0, true⟩, ⟨8, .flag, 0x0, true⟩, ⟨8, .flag, 0x0, true⟩, ⟨32, .floatNZ, 0x3f800000, true⟩, ⟨32, .float, 0x0, true⟩]⟩

/-! PARCEL (0x100 kind 0) -/

def C_PARCEL_PARCEL : CRef := ⟨0x100, 0, 0, 0x0⟩
def C_PARCEL_HMAC : CRef := ⟨0x100, 0, 1, 0x0⟩
def C_PARCEL_HQUEUE : CRef := ⟨0x100, 0, 2, 0x6⟩
def C_PARCEL_HPCP : CRef := ⟨0x100, 0, 3, 0x5⟩
def C_PARCEL_VLAN : CRef := ⟨0x100, 0, 4, 0x0⟩
def C_PARCEL_ANNOUNCE : CRef := ⟨0x100, 0, 5, 0x1⟩
def C_PARCEL_MIRROR : CRef := ⟨0x100, 0, 6, 0x0⟩

/-- The PARCEL record. -/
def kindParcel : CKind :=
  ⟨0x100, 0, [],
    [⟨16, .key [(0, 4095)], 0x0, false⟩, ⟨8, .key [(0, 1)], 0x0, false⟩, ⟨8, .clampU 0 7, 0x6, true⟩, ⟨8, .clampU 0 7, 0x5, true⟩, ⟨16, .clampU 0 4094, 0x0, true⟩, ⟨8, .flag, 0x1, true⟩, ⟨8, .flag, 0x0, true⟩]⟩

/-! MAC (0x100 kind 1) -/

def C_MAC_MAC : CRef := ⟨0x100, 1, 0, 0x0⟩
def C_MAC_EN : CRef := ⟨0x100, 1, 1, 0x1⟩
def C_MAC_PROMISC : CRef := ⟨0x100, 1, 2, 0x0⟩
def C_MAC_ADDR : CRef := ⟨0x100, 1, 3, 0x0⟩
def C_MAC_GROUP0 : CRef := ⟨0x100, 1, 4, 0x0⟩
def C_MAC_GROUP1 : CRef := ⟨0x100, 1, 5, 0x0⟩
def C_MAC_GROUP2 : CRef := ⟨0x100, 1, 6, 0x0⟩
def C_MAC_GROUP3 : CRef := ⟨0x100, 1, 7, 0x0⟩
def C_MAC_GROUP4 : CRef := ⟨0x100, 1, 8, 0x0⟩
def C_MAC_GROUP5 : CRef := ⟨0x100, 1, 9, 0x0⟩
def C_MAC_GROUP6 : CRef := ⟨0x100, 1, 10, 0x0⟩
def C_MAC_GROUP7 : CRef := ⟨0x100, 1, 11, 0x0⟩
def C_MAC_RX_BASE : CRef := ⟨0x100, 1, 12, 0x0⟩
def C_MAC_TX_BASE : CRef := ⟨0x100, 1, 13, 0x0⟩
def C_MAC_RX_COUNT : CRef := ⟨0x100, 1, 14, 0x0⟩
def C_MAC_TX_COUNT : CRef := ⟨0x100, 1, 15, 0x0⟩
def C_MAC_PHY_RX_NS : CRef := ⟨0x100, 1, 16, 0x0⟩
def C_MAC_PHY_TX_NS : CRef := ⟨0x100, 1, 17, 0x0⟩
def C_MAC_CYCLE_NS : CRef := ⟨0x100, 1, 18, 0x0⟩
def C_MAC_BASE_NS : CRef := ⟨0x100, 1, 19, 0x0⟩

/-- The MAC record. -/
def kindMac : CKind :=
  ⟨0x100, 1, [0],
    [⟨8, .key [(0, 1)], 0x0, false⟩, ⟨8, .flag, 0x1, true⟩, ⟨8, .flag, 0x0, true⟩, ⟨48, .any, 0x0, false⟩, ⟨48, .any, 0x0, true⟩, ⟨48, .any, 0x0, true⟩, ⟨48, .any, 0x0, true⟩, ⟨48, .any, 0x0, true⟩, ⟨48, .any, 0x0, true⟩, ⟨48, .any, 0x0, true⟩, ⟨48, .any, 0x0, true⟩, ⟨48, .any, 0x0, true⟩, ⟨32, .any, 0x0, false⟩, ⟨32, .any, 0x0, false⟩, ⟨16, .clampU 2 4096, 0x0, false⟩, ⟨16, .clampU 2 4096, 0x0, false⟩, ⟨16, .clampU 0 2000, 0x0, true⟩, ⟨16, .clampU 0 2000, 0x0, true⟩, ⟨32, .zeroOrU 1000 1000000000, 0x0, true⟩, ⟨64, .any, 0x0, true⟩]⟩

/-! GATE (0x100 kind 2) -/

def C_GATE_MAC : CRef := ⟨0x100, 2, 0, 0x0⟩
def C_GATE_INDEX : CRef := ⟨0x100, 2, 1, 0x0⟩
def C_GATE_STATES : CRef := ⟨0x100, 2, 2, 0x0⟩
def C_GATE_INTERVAL : CRef := ⟨0x100, 2, 3, 0x0⟩

/-- The GATE record. -/
def kindGate : CKind :=
  ⟨0x100, 2, [0, 1],
    [⟨8, .key [(0, 1)], 0x0, false⟩, ⟨8, .key [(0, 63)], 0x0, false⟩, ⟨8, .any, 0x0, true⟩, ⟨32, .clampU 1 1000000, 0x0, true⟩]⟩

/-! PTP (0x100 kind 3) -/

def C_PTP_MAC : CRef := ⟨0x100, 3, 0, 0x0⟩
def C_PTP_GM_CAPABLE : CRef := ⟨0x100, 3, 1, 0x0⟩
def C_PTP_PRIORITY1 : CRef := ⟨0x100, 3, 2, 0xf8⟩
def C_PTP_PRIORITY2 : CRef := ⟨0x100, 3, 3, 0xf8⟩
def C_PTP_SYNC_LOG : CRef := ⟨0x100, 3, 4, 0xfd⟩
def C_PTP_PDELAY_LOG : CRef := ⟨0x100, 3, 5, 0x0⟩

/-- The PTP record. -/
def kindPtp : CKind :=
  ⟨0x100, 3, [],
    [⟨8, .key [(0, 1)], 0x0, false⟩, ⟨8, .flag, 0x0, true⟩, ⟨8, .any, 0xf8, true⟩, ⟨8, .any, 0xf8, true⟩, ⟨8, .clampS (-7) (0), 0xfd, true⟩, ⟨8, .clampS (-7) (0), 0x0, true⟩]⟩

/-! HANDOFF_OUT (0x100 kind 4) -/

def C_HANDOFF_OUT_CHANNEL : CRef := ⟨0x100, 4, 0, 0x0⟩
def C_HANDOFF_OUT_SOURCES : CRef := ⟨0x100, 4, 1, 0x0⟩
def C_HANDOFF_OUT_CLASSES : CRef := ⟨0x100, 4, 2, 0x0⟩
def C_HANDOFF_OUT_DEST_CHANNEL : CRef := ⟨0x100, 4, 3, 0x0⟩
def C_HANDOFF_OUT_DEST_MAC : CRef := ⟨0x100, 4, 4, 0x0⟩
def C_HANDOFF_OUT_PLANE_A : CRef := ⟨0x100, 4, 5, 0x0⟩
def C_HANDOFF_OUT_PLANE_B : CRef := ⟨0x100, 4, 6, 0x0⟩
def C_HANDOFF_OUT_LOCAL : CRef := ⟨0x100, 4, 7, 0x0⟩
def C_HANDOFF_OUT_FLUSH_US : CRef := ⟨0x100, 4, 8, 0x14⟩

/-- The HANDOFF_OUT record. -/
def kindHandoffOut : CKind :=
  ⟨0x100, 4, [0],
    [⟨8, .key [(0, 7)], 0x0, false⟩, ⟨32, .any, 0x0, true⟩, ⟨16, .any, 0x0, true⟩, ⟨8, .clampU 0 7, 0x0, true⟩, ⟨48, .any, 0x0, true⟩, ⟨8, .key [(0, 15), (255, 255)], 0x0, false⟩, ⟨8, .key [(0, 15), (255, 255)], 0x0, false⟩, ⟨8, .flag, 0x0, true⟩, ⟨16, .clampU 1 10000, 0x14, true⟩]⟩

/-! IMPORT (0x100 kind 5) -/

def C_IMPORT_CHANNEL : CRef := ⟨0x100, 5, 0, 0x0⟩
def C_IMPORT_FROM_PARCEL : CRef := ⟨0x100, 5, 1, 0x0⟩
def C_IMPORT_GUARD : CRef := ⟨0x100, 5, 2, 0x4e20⟩
def C_IMPORT_REQUIRE_LOCK : CRef := ⟨0x100, 5, 3, 0x0⟩

/-- The IMPORT record. -/
def kindImport : CKind :=
  ⟨0x100, 5, [0],
    [⟨8, .key [(0, 7)], 0x0, false⟩, ⟨16, .key [(0, 4095)], 0x0, false⟩, ⟨32, .clampU 1000 1000000, 0x4e20, true⟩, ⟨8, .flag, 0x0, true⟩]⟩

/-! PAIRREC (0x100 kind 6) -/

def C_PAIRREC_MODE : CRef := ⟨0x100, 6, 0, 0x0⟩
def C_PAIRREC_SIDE : CRef := ⟨0x100, 6, 1, 0x0⟩
def C_PAIRREC_ALIVE_OUT : CRef := ⟨0x100, 6, 2, 0x0⟩
def C_PAIRREC_ALIVE_IN : CRef := ⟨0x100, 6, 3, 0x0⟩
def C_PAIRREC_WAIT_MS : CRef := ⟨0x100, 6, 4, 0x64⟩
def C_PAIRREC_COMPARE_WIN : CRef := ⟨0x100, 6, 5, 0x3e8⟩
def C_PAIRREC_COMPARE_WAIT : CRef := ⟨0x100, 6, 6, 0x1f4⟩
def C_PAIRREC_LOOP_TOL : CRef := ⟨0x100, 6, 7, 0x3ca3d70a⟩

/-- The PAIRREC record. -/
def kindPairrec : CKind :=
  ⟨0x100, 6, [],
    [⟨8, .key [(0, 1)], 0x0, false⟩, ⟨8, .key [(0, 1)], 0x0, false⟩, ⟨8, .key [(0, 63), (255, 255)], 0x0, false⟩, ⟨8, .key [(0, 63), (255, 255)], 0x0, false⟩, ⟨16, .clampU 1 10000, 0x64, true⟩, ⟨32, .clampU 0 100000, 0x3e8, true⟩, ⟨16, .clampU 1 10000, 0x1f4, true⟩, ⟨32, .clampF 0x3a83126f 0x3f800000, 0x3ca3d70a, true⟩]⟩

/-! TIMEBASE (0x110 kind 0) -/

def C_TIMEBASE_DATUM_ORDER : CRef := ⟨0x110, 0, 0, 0x41⟩
def C_TIMEBASE_STEP_EN : CRef := ⟨0x110, 0, 1, 0x1⟩
def C_TIMEBASE_STEP_THR : CRef := ⟨0x110, 0, 2, 0xf4240⟩
def C_TIMEBASE_SLEW : CRef := ⟨0x110, 0, 3, 0x3e8⟩
def C_TIMEBASE_QUALIFY : CRef := ⟨0x110, 0, 4, 0xa⟩
def C_TIMEBASE_LOST_TIME : CRef := ⟨0x110, 0, 5, 0x3⟩
def C_TIMEBASE_HOLD_R : CRef := ⟨0x110, 0, 6, 0x41200000⟩
def C_TIMEBASE_HOLD_D : CRef := ⟨0x110, 0, 7, 0x3e4ccccd⟩
def C_TIMEBASE_UNC_LIMIT : CRef := ⟨0x110, 0, 8, 0x0⟩
def C_TIMEBASE_FREE_ADJ : CRef := ⟨0x110, 0, 9, 0x0⟩
def C_TIMEBASE_HPIN : CRef := ⟨0x110, 0, 10, 0xff⟩

/-- The TIMEBASE record. -/
def kindTimebase : CKind :=
  ⟨0x110, 0, [],
    [⟨16, .datum, 0x41, true⟩, ⟨8, .flag, 0x1, true⟩, ⟨32, .clampU 1000 1000000000, 0xf4240, true⟩, ⟨16, .clampU 1 50000, 0x3e8, true⟩, ⟨16, .clampU 1 600, 0xa, true⟩, ⟨16, .clampU 1 60, 0x3, true⟩, ⟨32, .clampF 0x0 0x447a0000, 0x41200000, true⟩, ⟨32, .clampF 0x0 0x42c80000, 0x3e4ccccd, true⟩, ⟨32, .any, 0x0, true⟩, ⟨32, .clampS (-858993) (858993), 0x0, true⟩, ⟨8, .key [(0, 63), (255, 255)], 0xff, false⟩]⟩

/-! PPS (0x110 kind 1) -/

def C_PPS_INDEX : CRef := ⟨0x110, 1, 0, 0x0⟩
def C_PPS_PIN : CRef := ⟨0x110, 1, 1, 0x0⟩
def C_PPS_WIDTH : CRef := ⟨0x110, 1, 2, 0x186a0⟩
def C_PPS_HOLD_WIDTH : CRef := ⟨0x110, 1, 3, 0x0⟩

/-- The PPS record. -/
def kindPps : CKind :=
  ⟨0x110, 1, [0],
    [⟨8, .key [(0, 3)], 0x0, false⟩, ⟨8, .key [(0, 63)], 0x0, false⟩, ⟨32, .clampU 1 500000, 0x186a0, true⟩, ⟨32, .clampU 0 500000, 0x0, true⟩]⟩

/-! GPORT (0x110 kind 2) -/

def C_GPORT_PORT : CRef := ⟨0x110, 2, 0, 0x0⟩
def C_GPORT_COMPLEX : CRef := ⟨0x110, 2, 1, 0x1⟩
def C_GPORT_BITS : CRef := ⟨0x110, 2, 2, 0x2⟩
def C_GPORT_CODING : CRef := ⟨0x110, 2, 3, 0x0⟩
def C_GPORT_RATE : CRef := ⟨0x110, 2, 4, 0xf9c180⟩
def C_GPORT_IF : CRef := ⟨0x110, 2, 5, 0x0⟩
def C_GPORT_AGC_PIN : CRef := ⟨0x110, 2, 6, 0xff⟩
def C_GPORT_AGC_TARGET : CRef := ⟨0x110, 2, 7, 0x23⟩

/-- The GPORT record. -/
def kindGport : CKind :=
  ⟨0x110, 2, [0],
    [⟨8, .key [(0, 1)], 0x0, false⟩, ⟨8, .flag, 0x1, false⟩, ⟨8, .clampU 1 4, 0x2, false⟩, ⟨8, .clampU 0 2, 0x0, false⟩, ⟨32, .clampU 2000000 81840000, 0xf9c180, false⟩, ⟨32, .any, 0x0, true⟩, ⟨8, .key [(0, 63), (255, 255)], 0xff, false⟩, ⟨8, .clampU 10 90, 0x23, true⟩]⟩

/-! TRACK (0x110 kind 3) -/

def C_TRACK_SIGNALS : CRef := ⟨0x110, 3, 0, 0xff⟩
def C_TRACK_ELEV_MASK : CRef := ⟨0x110, 3, 1, 0x5⟩
def C_TRACK_RELEASE : CRef := ⟨0x110, 3, 2, 0x7d0⟩
def C_TRACK_TCOH : CRef := ⟨0x110, 3, 3, 0x1⟩
def C_TRACK_NNC : CRef := ⟨0x110, 3, 4, 0x4⟩
def C_TRACK_BIN : CRef := ⟨0x110, 3, 5, 0x1f4⟩
def C_TRACK_SPAN : CRef := ⟨0x110, 3, 6, 0x2710⟩
def C_TRACK_ACQ_THR : CRef := ⟨0x110, 3, 7, 0x41400000⟩
def C_TRACK_DLL_BW : CRef := ⟨0x110, 3, 8, 0x40000000⟩
def C_TRACK_PLL_BW : CRef := ⟨0x110, 3, 9, 0x41700000⟩
def C_TRACK_FLL_BW : CRef := ⟨0x110, 3, 10, 0x41200000⟩
def C_TRACK_BURST_LEN : CRef := ⟨0x110, 3, 11, 0x14⟩
def C_TRACK_NOTCH_EN : CRef := ⟨0x110, 3, 12, 0x1⟩
def C_TRACK_JAM_THR : CRef := ⟨0x110, 3, 13, 0x30⟩

/-- The TRACK record. -/
def kindTrack : CKind :=
  ⟨0x110, 3, [],
    [⟨8, .any, 0xff, true⟩, ⟨8, .clampU 0 60, 0x5, true⟩, ⟨16, .clampU 100 60000, 0x7d0, true⟩, ⟨8, .clampU 1 10, 0x1, true⟩, ⟨8, .clampU 1 64, 0x4, true⟩, ⟨16, .stepsU 50 2000 50, 0x1f4, true⟩, ⟨16, .clampU 1000 50000, 0x2710, true⟩, ⟨32, .clampF 0x40400000 0x41f00000, 0x41400000, true⟩, ⟨32, .clampF 0x3f000000 0x41200000, 0x40000000, true⟩, ⟨32, .clampF 0x40a00000 0x41f00000, 0x41700000, true⟩, ⟨32, .clampF 0x3f800000 0x41a00000, 0x41200000, true⟩, ⟨16, .clampU 10 200, 0x14, true⟩, ⟨8, .flag, 0x1, true⟩, ⟨8, .clampU 1 255, 0x30, true⟩]⟩

/-! FIX (0x110 kind 4) -/

def C_FIX_RATE : CRef := ⟨0x110, 4, 0, 0xa⟩
def C_FIX_OUT_RATE : CRef := ⟨0x110, 4, 1, 0x64⟩
def C_FIX_ORIGIN_LAT : CRef := ⟨0x110, 4, 2, 0x0⟩
def C_FIX_ORIGIN_LON : CRef := ⟨0x110, 4, 3, 0x0⟩
def C_FIX_ORIGIN_HGT : CRef := ⟨0x110, 4, 4, 0x0⟩
def C_FIX_RESID_THR : CRef := ⟨0x110, 4, 5, 0x40800000⟩
def C_FIX_RATE_TOL : CRef := ⟨0x110, 4, 6, 0x40000000⟩
def C_FIX_CLOCK_JUMP : CRef := ⟨0x110, 4, 7, 0x3e8⟩
def C_FIX_SPOOF_HOLD : CRef := ⟨0x110, 4, 8, 0x3c⟩
def C_FIX_INJ_MAX_AGE : CRef := ⟨0x110, 4, 9, 0x7d0⟩
def C_FIX_INJ_FALLBACK : CRef := ⟨0x110, 4, 10, 0x1⟩

/-- The FIX record. -/
def kindFix : CKind :=
  ⟨0x110, 4, [],
    [⟨8, .clampU 1 100, 0xa, true⟩, ⟨16, .clampU 1 1000, 0x64, true⟩, ⟨64, .clampS (-900000000000) (900000000000), 0x0, true⟩, ⟨64, .clampS (-1800000000000) (1800000000000), 0x0, true⟩, ⟨32, .any, 0x0, true⟩, ⟨32, .clampF 0x3f800000 0x42c80000, 0x40800000, true⟩, ⟨32, .clampF 0x3dcccccd 0x42c80000, 0x40000000, true⟩, ⟨32, .clampU 10 100000, 0x3e8, true⟩, ⟨16, .clampU 1 3600, 0x3c, true⟩, ⟨16, .clampU 100 10000, 0x7d0, true⟩, ⟨8, .flag, 0x1, true⟩]⟩

/-! RECORDER (0x120 kind 0) -/

def C_RECORDER_EN : CRef := ⟨0x120, 0, 0, 0x1⟩
def C_RECORDER_FLUSH_S : CRef := ⟨0x120, 0, 1, 0x258⟩
def C_RECORDER_LIM_PERIODIC : CRef := ⟨0x120, 0, 2, 0x0⟩
def C_RECORDER_LIM_PFAIL : CRef := ⟨0x120, 0, 3, 0xc⟩
def C_RECORDER_LIM_HOST : CRef := ⟨0x120, 0, 4, 0x6⟩

/-- The RECORDER record. -/
def kindRecorder : CKind :=
  ⟨0x120, 0, [],
    [⟨8, .flag, 0x1, true⟩, ⟨32, .clampU 60 86400, 0x258, true⟩, ⟨16, .clampU 0 3600, 0x0, true⟩, ⟨16, .clampU 0 3600, 0xc, true⟩, ⟨16, .clampU 0 3600, 0x6, true⟩]⟩

/-! SERIES (0x120 kind 1) -/

def C_SERIES_SERIES : CRef := ⟨0x120, 1, 0, 0x0⟩
def C_SERIES_LO : CRef := ⟨0x120, 1, 1, 0x0⟩
def C_SERIES_WIDTH : CRef := ⟨0x120, 1, 2, 0x3f800000⟩
def C_SERIES_SOURCE : CRef := ⟨0x120, 1, 3, 0xffff⟩

/-- The SERIES record. -/
def kindSeries : CKind :=
  ⟨0x120, 1, [0],
    [⟨8, .key [(0, 8), (10, 15)], 0x0, false⟩, ⟨32, .float, 0x0, true⟩, ⟨32, .clampF 0x358637bd 0x5368d4a5, 0x3f800000, true⟩, ⟨16, .any, 0xffff, false⟩]⟩

/-! POWER (0x130 kind 0) -/

def C_POWER_GROUP : CRef := ⟨0x130, 0, 0, 0x0⟩
def C_POWER_LAT : CRef := ⟨0x130, 0, 1, 0x0⟩

/-- The POWER record. -/
def kindPower : CKind :=
  ⟨0x130, 0, [0],
    [⟨8, .key [(0, 11)], 0x0, false⟩, ⟨32, .any, 0x0, true⟩]⟩

/-- Every record kind but MEMFILL and AMEND, in ascending section type. -/
def schema : List CKind :=
  [kindPin,
   kindFlag,
   kindReflexOut,
   kindChain,
   kindChannel,
   kindFast,
   kindSweep,
   kindCable,
   kindDie,
   kindFeatureGroup,
   kindFeatureDef,
   kindSignalStation,
   kindSignalOp,
   kindRoute,
   kindPort,
   kindStream,
   kindCombine,
   kindBox,
   kindEngine,
   kindSource,
   kindPlane,
   kindTpair,
   kindModel,
   kindAssign,
   kindActions,
   kindRate,
   kindSengine,
   kindVlink,
   kindTemplate,
   kindYield,
   kindLoss,
   kindLoop,
   kindGroup,
   kindDio,
   kindAout,
   kindFan,
   kindSensor,
   kindTgroup,
   kindPolicy,
   kindController,
   kindTiming,
   kindFilter,
   kindTxbuf,
   kindRxsig,
   kindTxsig,
   kindParcel,
   kindMac,
   kindGate,
   kindPtp,
   kindHandoffOut,
   kindImport,
   kindPairrec,
   kindTimebase,
   kindPps,
   kindGport,
   kindTrack,
   kindFix,
   kindRecorder,
   kindSeries,
   kindPower]

/-- The record kind `kind` of section `sect`. -/
def kindOf (sect kind : Nat) : Option CKind := schema.find? (fun k => k.sect == sect && k.kind == kind)

end Sys2Proof.Machine
end

