-- ==== Sys2Proof/Machine/Types.lean ====
section
/-! DEFINITION. The parts of the state that are no registers: what each chapter of spec/ says the block
remembers beside its registers, as plain data. -/

namespace Sys2Proof.Machine

/-- A stream element of the traverse: 32-bit value, short-time tag, format (0 binary32, 1 signed,
2 unsigned) (R39). -/
structure Elem where
  val : Nat
  tag : Nat
  fmt : Nat
  deriving DecidableEq, Repr

/-- A committed record of the configuration: section type, kind, record index in its section and the
applied field values in order (R88). -/
structure CfgRec where
  sect : Nat
  kind : Nat
  index : Nat
  vals : List Nat
  deriving DecidableEq, Repr

/-- What the factory fuses hold (R1, R86, R521): variant code, secure boot, key hashes, revoked key
slots; per macro the factory rows and columns used and the field rows burned. -/
structure Fuses where
  variant : Nat := 0x40
  secure : Bool := false
  keyHash : List Nat := [0, 0, 0, 0]
  revoked : Nat := 0
  frows : List (Nat × Nat) := []
  fcols : List (Nat × Nat) := []
  fieldRows : List (Nat × Nat) := []
  deriving DecidableEq, Repr

/-- The clocks (R118, R119): TCLK cycles since power-up, device time in ns with its 2^-32 ns fraction and the
real-time clock of the always-on domain. -/
structure Clock where
  el : Nat := 0
  now : Nat := 0
  frac : Nat := 0
  rtc : Nat := 0
  deriving DecidableEq, Repr

/-- One DMA channel: posted descriptors in order, the records that wait for it (each a byte string), and whether
the first of them is the rest of a split record (R575). -/
structure DmaCh where
  posted : List Nat := []
  ready : List (List Nat) := []
  cont : Bool := false
  deriving DecidableEq, Repr

/-- The host ports: MSI-X table (message address and data by vector), mask and pending bits (R50, R63, R64), PCIe
link, HSPI status bytes (R55), 64-bit pair latches and held low words by address (R15), DMA channels (R65 to R68),
start of the watchdog period (R69), power states entered and starts of wakes by group (R72), warm reset due (R76), unit
resets running by window (R77), Thermal Halt (R82). -/
structure HostPort where
  msixTable : List (Nat × (Nat × Nat)) := []
  msixMask : Nat := 0xFFFFFFFFFFFFFFFF
  msixPba : Nat := 0
  pcieUp : Bool := false
  lastWrite : Nat := 0x5A
  lastRead : Nat := 0x5A
  latchHi : List (Nat × Nat) := []
  heldLo : List (Nat × Nat) := []
  dma : List DmaCh := List.replicate 8 {}
  wdStart : Nat := 0
  asleep : List (Nat × Nat) := []
  wake : List (Nat × Nat) := []
  resetAt : Option Nat := none
  uresetAt : List (Nat × Nat) := []
  halted : Bool := false
  deriving DecidableEq, Repr

/-- A field sample on its way to the core (R19, R22): endpoint, value, format, field timestamp (10 ns). -/
structure FSample where
  ep : Nat
  val : Nat
  fmt : Nat
  stamp : Nat
  deriving DecidableEq, Repr

/-- An outbound chain frame (R19): frame time, RESUME, HALT, the safe-state command, the silence timeout,
commands of the 24 field outputs, codes of the 4 analogue outputs, drives of the 4 fans in 0.01 %, a standby or
takeover command (R488), and a configuration write when there is one. -/
structure OutFrame where
  count : Nat
  resume : Bool
  halt : Bool
  safe : Bool
  timeout : Nat
  dio : Nat
  aout : List Nat
  fan : List Nat
  standby : Option Bool
  cfg : Option (List CfgRec)
  deriving DecidableEq, Repr

/-- An inbound chain frame (R19): echo of the outbound frame time, field counter, SAFE flag, samples. -/
structure InFrame where
  echo : Nat
  counter : Nat
  safe : Bool
  samples : List FSample
  deriving DecidableEq, Repr

/-- One chain link at the core die (R19 to R26): frame count, frames in flight, the reference of R23, the
times (elapsed ns) that R24 and R26 need, RESUME and configuration waiting for the next frame. -/
structure ChainLink where
  count : Nat := 0
  resumeNext : Bool := false
  cfgNext : Bool := false
  safeCmd : Bool := true
  halt : Bool := false
  lastOut : Nat := 0
  down : List OutFrame := []
  up : List InFrame := []
  ref : Option Nat := none
  lastValid : Nat := 0
  heard : Bool := false
  validSince : Option Nat := none
  safeRep : Bool := true
  trainEnd : Nat := 0
  training : Bool := false
  deriving DecidableEq, Repr

/-- One field die: its configuration and standby registers (R395, R488), silence timer and safe state (R25, R26, R432), the
reference of R23, commands in force, levels held at entry to safe state, samples to send, and per channel the
retries since F_TH was cleared (R401), last turn-off (R403) and last repeat (R397). -/
structure FieldDie where
  configured : Bool := false
  cfg : List CfgRec := []
  safe : Bool := true
  safeAt : Nat := 0
  standby : Bool := false
  halt : Bool := false
  ref : Option Nat := none
  echo : Nat := 0
  lastFrame : Nat := 0
  lastSend : Nat := 0
  validSince : Option Nat := none
  timeoutMs : Nat := 100
  dio : Nat := 0
  held : Nat := 0
  aout : List Nat := [0, 0, 0, 0]
  fan : List Nat := [10000, 10000, 10000, 10000]
  samples : List FSample := []
  tries : List Nat := List.replicate 24 0
  offAt : List Nat := List.replicate 24 0
  repAt : List Nat := List.replicate 24 0
  deriving DecidableEq, Repr

/-- The core's side of field I/O for one die (R405 to R411): last commands, commands at entry to rank 3,
time-proportioning period index and on time in ns per channel, last x of the analogue outputs and their codes
at entry to rank 3. -/
structure FioCore where
  cmd : Nat := 0
  lost : Nat := 0
  tp : List (Nat × Nat) := List.replicate 24 (0, 0)
  x : List Nat := [0, 0, 0, 0]
  lostCodes : List Nat := [0, 0, 0, 0]
  deriving DecidableEq, Repr

/-- Baseline learning of a fan (R425): hold number, its end, mean speeds stored, sum and count of the last
5 s. -/
structure FanLearn where
  k : Nat
  till : Nat
  vals : List Nat
  sum : Nat
  n : Nat
  deriving DecidableEq, Repr

/-- A fan channel (R418 to R426): ramped set-point, integrator and last good set-point (binary32 codes), own
request above 0 at the last update, ends of pronk or watch and of stall-off, tach edges, learning, ageing. -/
structure FanUnit where
  spr : Nat := 0
  i : Nat := 0
  sp : Nat := 0
  ownWas : Bool := false
  updAt : Nat := 0
  ctrl : Nat := 0
  pronkEnd : Option Nat := none
  offEnd : Option Nat := none
  lastEdge : Option Nat := none
  gaps : List Nat := []
  learn : Option FanLearn := none
  nearSince : Option Nat := none
  deriving DecidableEq, Repr

/-- The thermal unit (R427 to R432): sensors sampled so far, disagreement runs, last time each sensor was its
group's hottest, per group the times since M has been below each level's lower threshold, floor ends, floors
held while a sensor is failed, shutdown runs and when each last went up, and since when each level has been requested. -/
structure ThmUnit where
  seen : Nat := 0
  disRun : List Nat := List.replicate 32 0
  hotAt : List (Option Nat) := List.replicate 32 none
  below : List (List (Option Nat)) := List.replicate 4 [none, none, none]
  floorEnd : List (Option Nat) := List.replicate 4 none
  floorHold : List Bool := List.replicate 4 false
  shutRun : List Nat := [0, 0, 0, 0]
  shutAt : List Nat := [0, 0, 0, 0]
  since : List (Option Nat) := [none, none, none]
  deriving DecidableEq, Repr

/-- One entry of the load report (R105). -/
structure RepEntry where
  sect : Nat
  recIx : Nat
  field : Nat
  reason : Nat
  seq : Nat
  req : Nat
  app : Nat
  deriving DecidableEq, Repr

/-- A MEMFILL record (R112). -/
structure MemFill where
  index : Nat
  region : Nat
  mark : Bool
  inl : Bool
  offset : Nat
  len : Nat
  pattern : Nat
  data : List Nat
  deriving DecidableEq, Repr

/-- An amendment: the load it came from, its record index, its target record, and the fields it sets. -/
structure Amend where
  seq : Nat
  recIx : Nat
  tsect : Nat
  tindex : Nat
  sets : List (Nat × Nat)
  deriving DecidableEq, Repr

/-- A staged configuration, between clamp and commit (R92). -/
structure Staged where
  recs : List CfgRec
  fills : List MemFill
  amends : List Amend
  imgCrc : Nat
  imageId : Nat
  source : Nat
  deriving DecidableEq, Repr

/-- The loader: committed configuration, its image's CRC, staging, report, amendments (R92 to R111). -/
structure Loader where
  committed : Bool := false
  recs : List CfgRec := []
  imageRecs : List CfgRec := []
  staged : Option Staged := none
  report : List RepEntry := []
  pendingAmends : List Amend := []
  applied : List Amend := []
  commitTime : Nat := 0
  deriving DecidableEq, Repr

/-- What the block drives to the outside, newest first: the model's own record of its outputs. -/
inductive Out where
  | msix (vec addr data : Nat)
  | readData (a v : Nat)
  | busError (a : Nat)
  | unsupported (a : Nat)
  | hspi (bytes : List Nat)
  | dma (ch haddr : Nat) (bytes : List Nat)
  | chain (link time : Nat) (resume halt safe : Bool)
  | chainIn (link echo counter : Nat) (safe : Bool)
  | pin (pin : Nat) (level : Bool) (t : Nat)
  | valveFrame (link frame start : Nat) (words : List Nat)
  | can (ctrl id : Nat) (xtd : Bool) (data : List Nat)
  | eth (mac : Nat) (bytes : List Nat)
  | mdio (read : Bool) (phy reg data : Nat)
  | tie (bytes : List Nat)
  | aliveOut (level : Bool)
  | nvWord (addr : Nat)
  | fclk (step : Nat)
  deriving DecidableEq, Repr

/-! ## Memories (spec/16_memory_ecc.md) -/

/-- A word waiting for the NV controller: priority class of R517, BAR0 byte address, data. -/
structure NvReq where
  prio : Nat
  addr : Nat
  data : Nat
  deriving DecidableEq, Repr

/-- The MEM unit: waiting NV words and the word in progress (R517), device time of each region's last
leak (R504) and last scrub read (R509), the macro of a burn in progress with the base of its row, and the MRAM rows that
the next power-on reset replaces (R522). -/
structure MemUnit where
  nvq : List NvReq := []
  nvCur : Option NvReq := none
  lastLeak : List Nat := List.replicate 7 0
  lastScrub : List Nat := List.replicate 7 0
  burn : Option Nat := none
  burnRow : Nat := 0
  newRows : List Nat := []
  deriving DecidableEq, Repr

/-! ## Recorder (spec/17_recorder.md) -/

/-- An extreme: binary32 value and its stamps (R525). -/
structure Extreme where
  val : Nat := 0x7FC00000
  optime : Nat := 0
  pcycle : Nat := 0
  deriving DecidableEq, Repr

/-- A flush in progress: code, slot, the record (R530, R531). -/
structure Flush where
  code : Nat
  slot : Nat
  bytes : List Nat
  deriving DecidableEq, Repr

/-- The recorder: accumulation store (16 series of 16 bins, extremes), flush in progress, the times that
govern flushes and samples (elapsed ns), flood-control history (R535), PFAIL level, pins of degradation. -/
structure RecUnit where
  bins : List Nat := List.replicate 256 0
  maxs : List Extreme := List.replicate 16 {}
  mins : List Extreme := List.replicate 16 {}
  flush : Option Flush := none
  lastSample : Nat := 0
  lastSampleDtime : Nat := 0
  lastPeriodic : Nat := 0
  history : List (Nat × Nat) := []
  pfailHigh : Bool := false
  pfailSince : Nat := 0
  badRun : Nat := 0
  nextSlot : Nat := 0
  shutNext : Nat := 0
  newestRseq : Option Nat := none
  newestDtime : Nat := 0
  newestCode : Nat := 0
  newestPcycle : Nat := 0
  benchDtime : Nat := 0
  reloadedFlag : Bool := false
  seriesFlag : Bool := false
  optimeEl : Nat := 0
  prevObj : Nat := 0
  prevExec : Nat := 0
  deriving DecidableEq, Repr

/-! ## Time base and GNSS (spec/04_time_and_gnss.md) -/

/-- A datum source (R121, R122): offset of its newest measurement (device time minus datum time, ns), since
when its measurements have been consistent and when the last consistent one came (elapsed ns), usable. -/
structure Datum where
  off : Option Int := none
  since : Option Nat := none
  last : Nat := 0
  usable : Bool := false
  deriving DecidableEq, Repr

/-- A PPS generator (R129, R130): second and elapsed time of its last rising edge, end of its pulse. -/
structure Pps where
  sec : Nat := 0
  rise : Option Nat := none
  fall : Option Nat := none
  deriving DecidableEq, Repr

/-- The time base: sources 1 to 3, second of the last servo update, holdover entry, frequency correction,
pending step and last step, newest HPIN edge (device time, elapsed time), PPS generators, end of R147's bar, sum of all
steps so far. -/
structure TimeUnit where
  srcs : List Datum := [{}, {}, {}]
  servoSec : Nat := 0
  holdAt : Nat := 0
  uEntry : Nat := 0
  freq : Int := 0
  step : Option Int := none
  stepSec : Nat := 0
  lastStep : Option Nat := none
  hpin : Option (Nat × Nat) := none
  pps : List Pps := [{}, {}, {}, {}]
  spoofUntil : Nat := 0
  stepSum : Int := 0
  deriving DecidableEq, Repr

/-- What a tracking channel remembers beside its registers (R140 to R148). -/
structure GnsChan where
  lastLock : Nat := 0
  locked : Bool := false
  exclRun : Nat := 0
  rateRun : Nat := 0
  suspectAt : Nat := 0
  deriving DecidableEq, Repr

/-- A waiting candidate (R141); elevation code 0x80 is unknown. -/
structure GnsCand where
  signal : Nat
  system : Nat
  svid : Nat
  cn0 : Nat
  elev : Nat
  seen : Nat
  deriving DecidableEq, Repr

/-- A snapshot in progress (R150, R151): device and elapsed time of its start, uncertainty, frequency error
and state flags at its start, and the control register's selection. -/
structure GnsSnap where
  t0 : Nat
  el : Nat
  tunc : Nat
  foff : Nat
  flags : Nat
  deriving DecidableEq, Repr

/-- The GNSS baseband and fix engine. -/
structure GnsUnit where
  chans : List GnsChan := List.replicate 96 {}
  cands : List GnsCand := []
  bars : List (Nat × Nat × Nat) := []
  acqBin : Nat := 0
  agc : List Nat := [0, 0]
  quiet : List (Nat × Nat) := [(0, 0), (0, 0)]
  learnUntil : Option Nat := none
  jamAt : Nat := 0
  notchAt : List Nat := List.replicate 8 0
  burst : Nat := 0
  burstSec : Nat := 0
  burstEnd : Nat := 0
  epochMs : Nat := 0
  snap : Option GnsSnap := none
  snapDma : Bool := false
  fixEpoch : Nat := 0
  outEpoch : Nat := 0
  rawSeq : Nat := 0
  stepSince : Bool := false
  fresh : Bool := false
  own : Option (List Nat) := none
  lastFix : Nat := 0
  lostRaised : Bool := false
  inj : Option (List Nat) := none
  injAt : Option Nat := none
  staleRaised : Bool := false
  deriving DecidableEq, Repr

/-! ## Pixel ports and transits (spec/05_pixel_transits.md) -/

/-- What a pixel port passes to a transit: Frame Start, Frame End, a band line's widened samples, or a band
line lost to a CRC error (R162, R166). -/
inductive PixItem where
  | frameStart
  | frameEnd
  | band (px : List Nat)
  | lost
  deriving DecidableEq, Repr

/-- A pixel port: end of its last long packet or enable (elapsed ns), IDLE raised since. -/
structure PixPort where
  lastLong : Nat := 0
  idled : Bool := false
  deriving DecidableEq, Repr

/-- A scan line from its start to the end of its processing (R169, R170, R188, R190): unwrapped number, line
time, the steps of device time it holds (R128), time estimated, decimation factor, flat-field bank, input-buffer slot, a band line of wrong length,
fewest pixels of a band line, kind (0 kept, 1 dropped, 2 skipped), all bands received, end of processing. -/
structure TLine where
  num : Nat
  time : Nat
  sig : Int
  est : Bool
  k : Nat
  bank : Nat
  slot : Nat
  lenErr : Bool := false
  len : Nat := 8192
  kind : Nat := 0
  full : Bool := false
  ready : Nat := 0
  deriving DecidableEq, Repr

/-- An open component (R179 to R186): opening order, flags, largest decimation factor, first and last
occupied lines (unwrapped), time of the last, the steps it holds, whether estimated, empty lines since, footprint, runs of
the line in work, aggregates over columns and unwrapped line numbers, band sums and sums of squares. -/
structure Comp where
  order : Nat
  flags : Nat := 0
  k : Nat := 1
  first : Nat
  last : Nat
  time : Nat
  sig : Int
  est : Bool
  empty : Nat := 0
  foot : List (Nat × Nat) := []
  new : List (Nat × Nat) := []
  xmin : Nat := 8191
  xmax : Nat := 0
  n : Nat := 0
  sx : Nat := 0
  sy : Nat := 0
  sxx : Nat := 0
  syy : Nat := 0
  sxy : Nat := 0
  defects : Nat := 0
  sum : List Nat := [0, 0, 0, 0]
  sq : List Nat := [0, 0, 0, 0]
  deriving DecidableEq, Repr

/-- A transit: items and edge times on their way to it, position in the scan line being assembled, whether
that line has started and is condemned, next line number (unwrapped), previous line time, edge-time queue,
lines not yet processed, open components, footprints of components closed as OVERSIZE in the last line,
next opening order, end of the last line's processing, next line to capture and captures handed over,
summaries for the tally engine (R187). -/
structure Transit where
  inq : List PixItem := []
  edgeIn : List (Nat × Int) := []
  pos : Nat := 0
  started : Bool := false
  doomed : Bool := false
  next : Nat := 0
  prev : Option (Nat × Int) := none
  edges : List (Nat × Int) := []
  lines : List TLine := []
  comps : List Comp := []
  oversize : List (Nat × Nat) := []
  order : Nat := 0
  busyTill : Nat := 0
  snapNext : Nat := 0
  handed : Nat := 0
  sums : List (List Nat) := []
  deriving DecidableEq, Repr

/-- The pixel ports and transits: ports, transits, staged snapshot records in completion order (R193). -/
structure PixUnit where
  ports : List PixPort := [{}, {}]
  trn : List Transit := List.replicate 8 {}
  stage : List (Nat × List Nat) := []
  deriving DecidableEq, Repr

/-! ## Tally engine and stations (spec/06_tally.md, spec/07_features_classifiers.md) -/

/-- A stake request (R261, R262); width in 8 ns units. -/
structure StakeReq where
  time : Int
  target : Nat
  width : Nat
  slot : Nat := 0
  origin : Nat := 0
  epoch : Nat := 0
  steptag : Nat := 0
  level : Bool := false
  deriving DecidableEq, Repr

/-- A stake report (R269): slot, epoch bit, result (0 executed, 1 refused, 2 discarded late). -/
structure StakeRep where
  slot : Nat
  epoch : Nat
  result : Nat
  deriving DecidableEq, Repr

/-- A plane's prediction (R219, R220): centre time, passage, cross-flow shift in mm, the PLANE record it was
made with, and the imported edge codes XL, XC, XR (R483). -/
structure Lane where
  centre : Int
  passage : Nat
  shift : FV
  plane : CfgRec
  edges : Option (List Nat) := none
  deriving DecidableEq, Repr

/-- Where a live object is (R211, R225, R236). -/
inductive Stage where
  | openWait (pair : Nat) (primary : Bool) (till : Int)
  | waiting (group : Nat)
  | feature (fst cst : Nat)
  | classifier (cst : Nat)
  | staking
  | exported
  | quarantined (till : Nat)
  deriving DecidableEq, Repr

/-- What the engine holds of an object beside its record: source, place in the herd, allocation number since the
epoch change, reference time and height of its view in ns, SOURCE record of its intake, summaries (primary first),
pulse, planes, STAKE_LEAD, deadline, requests held, classifier inputs, ASSIGN record that its class was worked with, ID. -/
structure Obj where
  source : Nat
  stage : Stage
  ord : Nat := 0
  tc : Int := 0
  h : Nat := 0
  src : Option CfgRec := none
  frags : List (List Nat) := []
  pulse : Option (List Nat) := none
  lanes : List (Option Lane) := [none, none]
  lead : Nat := 0
  deadline : Option Int := none
  held : Nat := 0
  x : List Int := []
  asg : Option CfgRec := none
  id : Nat := 0
  deriving DecidableEq, Repr

/-- What a classifier station has found for the object in service: class, score, trees in error; `none` when a
read failed (R246 to R248). -/
structure ClsRes where
  cls : Nat
  score : Nat
  treeErr : Nat
  deriving DecidableEq, Repr

/-- An object in service: slot, end of service (elapsed ns), inputs, saturated features, bank, result, and the ACTIONS and
ASSIGN records in force at its start (R110: an object is worked entirely with the old values or the new). -/
structure Service where
  slot : Nat
  till : Nat
  x : List Int := []
  sat : List Nat := []
  bad : Bool := false
  bank : Nat := 0
  res : Option ClsRes := none
  acts : Option CfgRec := none
  asg : Option CfgRec := none
  deriving DecidableEq, Repr

/-- A feature or classifier station: dispatch queue, places reserved, object in service. -/
structure Station where
  queue : List Nat := []
  reserved : Nat := 0
  cur : Option Service := none
  deriving DecidableEq, Repr

/-- A class-rate window (R252): the sixteen last sub-window counts, oldest first, the running one and its end. -/
structure RateWin where
  counts : List Nat := List.replicate 16 0
  cur : Nat := 0
  till : Nat := 0
  deriving DecidableEq, Repr

/-- An import entry (R479): channel, its 112 bytes, the steps of device time at its receipt. -/
structure Import where
  ch : Nat
  bytes : List Nat
  sig : Int
  deriving DecidableEq, Repr

/-- The tally engine and the stations: herd by slot, intake turn, pulse and import queues, held requests with their lead, request
FIFO, report FIFO, export queue, allocations since the epoch change, wait lists per feature group. -/
structure TallyUnit where
  herd : List (Nat × Obj) := []
  rr : Nat := 0
  pulses : List (List Nat × Int) := []
  imports : List Import := []
  held : List (StakeReq × Nat) := []
  fifo : List StakeReq := []
  reports : List StakeRep := []
  exportQ : List Nat := []
  ord : Nat := 0
  waits : List (List Nat) := List.replicate 16 []
  fst : List Station := List.replicate 16 {}
  cst : List Station := List.replicate 16 {}
  rates : List RateWin := List.replicate 16 {}
  deriving DecidableEq, Repr

/-! ## Stake-out engine, pins, valve links, reflex matrix (spec/08_stakeout_reflex.md) -/

/-- A pending stake: store entry, acceptance order, the stake. -/
structure StkEnt where
  entry : Nat
  order : Nat
  st : StakeReq
  deriving DecidableEq, Repr

/-- An active run of a target (R265, R266): on edge, scheduled end (`none` for ever), acceptance order, on edge
placed, off edge committed, stakes to report when the on edge and the off edge are placed (with TARDY). -/
structure Run where
  on : Int
  stop : Option Int
  order : Nat
  placed : Bool := false
  commit : Bool := false
  reps : List (StakeReq × Bool) := []
  offReps : List (StakeReq × Bool) := []
  deriving DecidableEq, Repr

/-- A target: its runs in time order, its placed level, its last placed off edge, elapsed time of the last
change. -/
structure Target where
  runs : List Run := []
  active : Bool := false
  lastOff : Option Int := none
  changed : Nat := 0
  deriving DecidableEq, Repr

/-- A valve link: last frame number, words (valve, level) that precede the scheduled edges (R293, R296), valves open at the assembly, last valid return frame (elapsed). -/
structure VLink where
  last : Option Nat := none
  first : List (Nat × Bool) := []
  opened : List Nat := []
  lastRet : Nat := 0
  heard : Bool := false
  deriving DecidableEq, Repr

/-- The stake-out engine: mirrored, template and host requests, turn, last source the tally FIFO, acceptance
counter, calendar, targets, entries withheld (R270), links, last template instants, last fetch (in half ns),
the last step. -/
structure StkUnit where
  mirror : List StakeReq := []
  tmpl : List StakeReq := []
  host : List StakeReq := []
  turn : Nat := 0
  lastTally : Bool := false
  order : Nat := 0
  cal : List StkEnt := []
  targets : List (Nat × Target) := []
  withheld : List Nat := []
  links : List VLink := List.replicate 4 {}
  tmplK : List (Option Nat) := List.replicate 16 none
  nextFetch : Nat := 0
  delta : Int := 0
  deriving DecidableEq, Repr

/-- A timed pin: level from outside, level driven (`none` high impedance), level last passed by the glitch filter, edges of the running
gate (count, first, last), last edge ever, previous rate, encoder count, last gate end (device and elapsed time),
PWM pulse start and its high time, active. -/
structure TPin where
  ext : Bool := false
  drv : Option Bool := none
  seen : Bool := false
  n : Nat := 0
  tFirst : Int := 0
  tLast : Option Int := none
  rate : Nat := 0
  count : Nat := 0
  gateEnd : Nat := 0
  gateEl : Nat := 0
  pStart : Option Int := none
  pStartEl : Nat := 0
  high : Nat := 0
  pulse : Bool := false
  deriving DecidableEq, Repr

/-- The timed pins: pins, timestamp queue, entries lost since the last one queued. -/
structure PinUnit where
  pins : List TPin := List.replicate 64 {}
  tsq : List Nat := []
  lost : Bool := false
  deriving DecidableEq, Repr

/-- The reflex matrix (R289): value of each function and output at the last evaluation, end of each stretch, the
fabric flags. -/
structure RfxUnit where
  outs : Nat := 0
  flags : Nat := 0
  stretch : List Nat := List.replicate 64 0
  deriving DecidableEq, Repr

/-! ## Sensor front end (spec/09_sensor_front_end.md) -/

/-- A channel of the front end (R314, R317, R320): last multiple of INTERVAL seen, due, end of the settling counter
(elapsed ns), gain code in force and wanted, gain changed since the last result, run of results below 20 %. -/
structure AfeChan where
  dueIx : Nat := 0
  due : Bool := false
  settleTill : Nat := 0
  gain : Nat := 0
  want : Nat := 0
  chg : Bool := false
  low : Nat := 0
  deriving DecidableEq, Repr

/-- What a precision ADC is doing in a visit: the off time of a cable scan, a step pulse, settling, converting. -/
inductive AdcStage where
  | reset
  | pulse
  | settle
  | conv
  deriving DecidableEq, Repr

/-- A visit of a precision ADC (R305, R309, R314, R315): channel, stage and its end (elapsed ns), cable position,
device time of its start, continuous or not; readings of the position so far (binary32 codes), field timestamps of
its conversions, greatest code, limit or compliance met, the position open; positions done (resistance, lead, open). -/
structure AdcRun where
  ch : Nat
  stage : AdcStage
  till : Nat
  pos : Nat := 0
  t0 : Nat
  cont : Bool
  got : List Nat := []
  stamps : List Nat := []
  mag : Nat := 0
  sat : Bool := false
  opened : Bool := false
  res : List (Nat × Nat × Bool) := []
  deriving DecidableEq, Repr

/-- A precision ADC: visit, channel served last plus one, calibration waiting, its end when it runs, and the elapsed
time of the last (R316). -/
structure AfeAdc where
  run : Option AdcRun := none
  last : Nat := 0
  calWait : Bool := false
  calTill : Option Nat := none
  calAt : Nat := 0
  deriving DecidableEq, Repr

/-- A fast path and its charge amplifier (R312, R318, R319): last sample, mean in progress (binary32 sum, samples,
flags, sum of instants), low-gain magnitude of the last sample, since when above the threshold, reset in progress
(start, end), when the switch last opened, last periodic reset, offsets; and its sweeps (R310, R311): waiting, reference
sweep waiting or run since the last sweep, sweeps since commit, correction per frequency. -/
structure AfePath where
  lastAt : Nat := 0
  acc : Nat := 0
  n : Nat := 0
  flags : Nat := 0
  stampSum : Nat := 0
  lo : Nat := 0
  above : Option Nat := none
  rst : Option (Nat × Nat) := none
  openAt : Option Nat := none
  perAt : Nat := 0
  offHi : Int := 0
  offLo : Int := 0
  fresh : Bool := true
  wait : Bool := false
  refWait : Bool := false
  refSince : Bool := false
  sweeps : Nat := 0
  k : List (Nat × Nat) := List.replicate 8 (0x3F800000, 0)
  deriving DecidableEq, Repr

/-- The sweep on a die's sine generator: path, reference or not, frequency index, end of the dwell (`none` while it
settles), start of the dwell (device time), centres of the dwells done, admittances, flags. -/
structure SineRun where
  path : Nat
  isRef : Bool
  k : Nat := 0
  till : Option Nat := none
  start : Nat := 0
  centres : List Nat := []
  ys : List (Nat × Nat) := []
  flags : Nat := 0
  deriving DecidableEq, Repr

/-- The front end of a field die: channels, precision ADCs, fast paths, sine generator, path swept last plus one. -/
structure AfeDie where
  chans : List AfeChan := List.replicate 16 {}
  adcs : List AfeAdc := [{}, {}]
  paths : List AfePath := List.replicate 4 {}
  sine : Option SineRun := none
  lastSweep : Nat := 0
  deriving DecidableEq, Repr

/-! ## Signal stations and the measurement unit (spec/10_signal_stations.md) -/

/-- What an operation of a signal station remembers (R338 to R343): inputs since the start, window newest first as
(binary32, tag), CIC windows and running sums and other states as binary64 codes, phase (pulse 0 idle, 1 pulse, 2
hold; RATE armed), the last gate and crossings of RATE, times of PULSE (start, peak, previous, end). -/
structure OpSt where
  n : Nat := 0
  win : List (Nat × Nat) := []
  wins : List (List Nat) := []
  sums : List Nat := []
  phase : Nat := 0
  gate : Nat := 0
  cross : Nat := 0
  ts : List Nat := [0, 0, 0, 0]
  deriving DecidableEq, Repr

/-- The signal stations: elements on their way to port 0, port 0 queues, operation states (key 4 × station + slot). -/
structure SigUnit where
  way : List (Nat × List Elem) := []
  queue : List (Nat × List Elem) := []
  ops : List (Nat × OpSt) := []
  deriving DecidableEq, Repr

/-- A tick of the measurement unit in its delay lines: input values (`none` missing), loss counts. -/
structure MTick where
  vals : List (Option Nat)
  loss : List Nat
  deriving DecidableEq, Repr

/-- An open yield step (R355 to R357): settings taken at its start, its first entries, sums (binary64 codes), last
cut instant and values, loss counts, flags. Distance in µm. -/
structure YStep where
  ymode : Nat
  stepT : Nat
  stepM : Nat
  maxT : Nat
  nonwork : Nat
  working : Bool
  ticks : Nat := 0
  dist : Int := 0
  mass : Nat := 0
  wet : Nat := 0
  wMass : Nat := 0
  moist : Nat := 0
  nMoist : Nat := 0
  swath : Nat := 0
  nSwath : Nat := 0
  loss : List Nat := [0, 0, 0, 0]
  time : Nat := 0
  last : List (Option Nat) := []
  flags : Nat := 0
  deriving DecidableEq, Repr

/-- The measurement unit: elements that reached its inputs, held elements, last closed tick, ticks since the start,
delay lines newest first, open step, distance carried over, CLOSE asked, loss counts of the running tick, loss
windows, class results under way, a step of time or an amendment since the last tick. -/
structure MsrUnit where
  ins : List (List Elem) := List.replicate 8 []
  held : List (Option Elem) := List.replicate 8 none
  tick : Nat := 0
  count : Nat := 0
  hist : List MTick := []
  step : Option YStep := none
  carry : Int := 0
  close : Bool := false
  loss : List Nat := [0, 0, 0, 0]
  rates : List RateWin := List.replicate 4 {}
  results : List (Nat × Option Nat) := []
  stepped : Bool := false
  amended : Bool := false
  deriving DecidableEq, Repr

/-! ## Loop stations (spec/11_loop_stations.md) -/

/-- A loop station (R373 to R382): set-point and velocity of the ramp (binary32 codes), whether the set-point stands,
last good target; integrator, derivative, inputs and output of the previous sample, biquad states; first sample since
a start or a bad input, re-entry due, manual and overridden at the last sample, elapsed time of the last sample (or
of the start) and whether there was one. -/
structure LoopSt where
  r : Nat := 0
  v : Nat := 0
  rSet : Bool := true
  g : Nat := 0
  i : Nat := 0
  d : Nat := 0
  eP : Nat := 0
  yP : Nat := 0
  fP : Nat := 0
  uP : Nat := 0
  bq : List Nat := [0, 0, 0, 0]
  first : Bool := true
  bump : Bool := true
  man : Bool := false
  ovr : Bool := false
  last : Nat := 0
  ran : Bool := false
  deriving DecidableEq, Repr

/-! ## CAN (spec/14_can.md) -/

/-- A CAN controller (R448 to R461): buffer on the bus, a cancel that waits for it, mode in force, to stop after the
frame on the bus, stores since it was enabled, start of the detection dwell (elapsed ns). -/
structure CanCtl where
  cur : Option Nat := none
  cancel : Bool := false
  mode : Nat := 0
  stop : Bool := false
  seq : Nat := 0
  dwell : Nat := 0
  deriving DecidableEq, Repr

/-- The CAN unit: controllers, elapsed time of each lock, last periodic instant of each buffer (R450, R456). -/
structure CanUnit where
  ctl : List CanCtl := [{}, {}, {}, {}]
  lockAt : List (Nat × Nat) := []
  lastReq : List (Nat × Nat) := []
  deriving DecidableEq, Repr

/-! ## Township and pair (spec/15_township_pair.md) -/

/-- A transmit descriptor in work: index in its ring, its first word as fetched (`none` when it could not be read),
elapsed time of its posting, done. -/
structure TxDesc where
  idx : Nat
  w0 : Option Nat
  since : Nat
  done : Bool := false
  deriving DecidableEq, Repr

/-- An Ethernet MAC (R470 to R475): transmit descriptors posted and not yet passed by TXDONE, elapsed times until
which the line is busy and PAUSE holds, and the gate cycle: running, start, its STEP sum, entries (states, interval),
position, end of the interval (elapsed). -/
structure EthMac where
  tx : List TxDesc := []
  freeAt : Nat := 0
  pauseTill : Nat := 0
  gOn : Bool := false
  gStart : Nat := 0
  gSum : Int := 0
  gList : List (Nat × Nat) := []
  gIdx : Nat := 0
  gTill : Nat := 0
  deriving DecidableEq, Repr

/-- A handoff out channel: entries collected, time of the first (elapsed), next SEQ. -/
structure HandOut where
  ents : List (List Nat) := []
  since : Nat := 0
  seq : Nat := 0
  deriving DecidableEq, Repr

/-- A frame that waits in the handoff MAC's queue: payload bytes, out channel (8 for an announce), entries, elapsed
time of its queueing. -/
structure HFrame where
  bytes : List Nat
  ch : Nat
  n : Nat
  since : Nat
  deriving DecidableEq, Repr

/-- A received township frame: source address, receive timestamp, steps of device time at its receipt, payload. -/
structure TwnRx where
  src : Nat
  stamp : Int
  sig : Int
  bytes : List Nat
  deriving DecidableEq, Repr

/-- The 802.1AS end station (R474): best announce message heard (priority vector as one number, source port) and
its elapsed time, Sync that awaits its Follow_Up (sequence, receive time), mean link delay, peer-delay exchange
(sequence, t1; t2, t4 when the response has come), sequence counts and elapsed times of Sync, Pdelay_Req, Announce. -/
structure Ptp where
  best : Option (Nat × Nat) := none
  bestAt : Nat := 0
  sync : Option (Nat × Int) := none
  delay : Int := 0
  req : Option (Nat × Int) := none
  resp : Option (Int × Int) := none
  syncSeq : Nat := 0
  pdSeq : Nat := 0
  annSeq : Nat := 0
  syncAt : Option Nat := none
  pdAt : Option Nat := none
  annAt : Option Nat := none
  deriving DecidableEq, Repr

/-- The township unit: out channels, frames waiting, frames received, expected SEQ per import channel, announces sent,
second of the last announce, 802.1AS. -/
structure TwnUnit where
  outs : List HandOut := List.replicate 8 {}
  frames : List HFrame := []
  rx : List TwnRx := []
  expect : List (Option Nat) := List.replicate 8 none
  annSeq : Nat := 0
  annSec : Nat := 0
  ptp : Ptp := {}
  deriving DecidableEq, Repr

/-- The pair unit (R485 to R493), with elapsed times: last valid heartbeat, whether any came and whether one claimed
primary while listening, start of the wait, last ALIVE_IN edge, ALIVE_OUT level and last toggled microsecond,
heartbeats sent and last 2 us slot, last OUTPUT message and its body, own requests and mirrored stakes that wait for
their match, own requests held, since when each loop differs, mirrored outputs of loops, output commands loaded, switchover
asked. -/
structure PairUnit where
  lastHb : Nat := 0
  heardAny : Bool := false
  heardPrimary : Bool := false
  listenFrom : Option Nat := none
  lastAlive : Option Nat := none
  aliveOut : Bool := false
  aliveUs : Nat := 0
  hbCount : Nat := 0
  hbSlot : Nat := 0
  outAt : Nat := 0
  outLast : List Nat := []
  cmp : List (StakeReq × Nat) := []
  mir : List (StakeReq × Nat) := []
  held : List (StakeReq × Nat) := []
  loopSince : List (Option Nat) := List.replicate 64 none
  loopU : List (Nat × Nat) := []
  outs : List Nat := []
  switching : Bool := false
  deriving DecidableEq, Repr

end Sys2Proof.Machine
end

