-- ==== Sys2Proof/Machine/State.lean ====
section
/-! DEFINITION. The state of the block: the register file, the memories, and the parts of
Machine/Types.lean that the chapters of spec/ give each unit beside its registers. -/

namespace Sys2Proof.Machine

open Sys2Proof

/-- What a byte of memory that nothing has written reads as: the factory contents of the MRAM slots and
pointer copies (R516), else a free value (R505). -/
def memByte0 (epoch a : Nat) : Byte :=
  if a < 0x4000000 then Config.sramByte epoch a
  else if a < 0x4800000 then 0
  else
    let o := a % 0x200000
    if o < 8 && a < 0x4E00000 then
      (if o = 5 then 0x48 else if o = 6 then 0xA7 else if o = 7 then 0xB5 else 0)
    else Config.mramByte a

/-- The flipped bits of a word that nothing has written: free in SRAM (R505), none in the MRAM. -/
def memFlips0 (epoch w : Nat) : Nat := if w < 0x800000 then Config.sramFlips epoch w % 4 else 0

/-- The state. -/
structure State where
  regs : List (Nat × Word) := []
  mem : List Host.Cell := []
  memErr : List (Nat × Nat) := []
  memEpoch : Nat := 0
  freeCount : Nat := 0
  fuses : Fuses := {}
  clk : Clock := {}
  host : HostPort := {}
  links : List ChainLink := [{}, {}]
  dies : List FieldDie := [{}, {}]
  fio : List FioCore := [{}, {}]
  fans : List FanUnit := List.replicate 8 {}
  thm : ThmUnit := {}
  loader : Loader := {}
  trav : List (Nat × Elem) := []
  time : TimeUnit := {}
  gns : GnsUnit := {}
  memu : MemUnit := {}
  spoor : RecUnit := {}
  pix : PixUnit := {}
  tally : TallyUnit := {}
  stk : StkUnit := {}
  tpin : PinUnit := {}
  rfx : RfxUnit := {}
  afe : List AfeDie := [{}, {}]
  sig : SigUnit := {}
  msr : MsrUnit := {}
  loops : List LoopSt := List.replicate 64 {}
  can : CanUnit := {}
  eth : List EthMac := [{}, {}]
  twn : TwnUnit := {}
  pair : PairUnit := {}
  sinks : List (Nat × Nat) := []
  out : List Out := []
  pending : List Instr := []
  deriving DecidableEq, Repr

/-- A fault: no command of this block ends in one; the type is here because the interface asks for it. -/
inductive Fault where
  /-- Never raised. Safe. -/
  | none
  deriving DecidableEq, Repr

/-- Why a command has no meaning. -/
inductive Refusal where
  /-- Raised by `exec` on a command that has no meaning yet, by mnemonic. Safe. -/
  | notModelled (mnemonic : String)
  deriving DecidableEq, Repr

/-- The machine right after a power-on reset of a DV-9640, before start-up runs: the registers at their
reset values with the fused fields set (R2), both field dies in safe state (R25, R46), nothing in memory
written, no command waiting. -/
def State.reset : State :=
  { regs := [(0x8, 0x4000007F), (0x190004, 0xFF0D), (0x190104, 0xFF0D)] }

end Sys2Proof.Machine
end

