-- ==== Sys2Proof/Machine/Ops.lean ====
section
/-! DEFINITION. The named operations over registers, memory, events, the traverse and the committed
configuration, which every meaning is written with. -/

namespace Sys2Proof.Machine

open Sys2Proof

/-! ## Registers -/

/-- The register at BAR0 address `a`. -/
def State.reg (s : State) (a : Nat) : Nat := (cellGet regReset s.regs a).toNat

/-- Set the register at BAR0 address `a`. -/
def State.setReg (s : State) (a v : Nat) : State :=
  { s with regs := cellPut regReset s.regs a (BitVec.ofNat 32 v) }

/-- Read field `f` of instance (i, j). -/
def State.rdij (s : State) (f : Fld) (i j : Nat) : Nat := bitsOf (s.reg (f.addr i j)) f.hi f.lo

/-- Write field `f` of instance (i, j); the register's other bits stay. -/
def State.wrij (s : State) (f : Fld) (i j v : Nat) : State :=
  s.setReg (f.addr i j) (setBits (s.reg (f.addr i j)) f.hi f.lo v)

/-- Read field `f` of instance `i`. -/
def State.rdi (s : State) (f : Fld) (i : Nat) : Nat := s.rdij f i 0

/-- Write field `f` of instance `i`. -/
def State.wri (s : State) (f : Fld) (i v : Nat) : State := s.wrij f i 0 v

/-- Read field `f`. -/
def State.rd (s : State) (f : Fld) : Nat := s.rdij f 0 0

/-- Write field `f`. -/
def State.wr (s : State) (f : Fld) (v : Nat) : State := s.wrij f 0 0 v

/-- Add to a counter field of instance (i, j), saturating at its width. -/
def State.incij (s : State) (f : Fld) (i j n : Nat) : State :=
  s.wrij f i j (satAdd (f.hi + 1 - f.lo) (s.rdij f i j) n)

/-- Add to a counter field of instance `i`, saturating. -/
def State.inci (s : State) (f : Fld) (i n : Nat) : State := s.incij f i 0 n

/-- Add to a counter field, saturating. -/
def State.inc (s : State) (f : Fld) (n : Nat) : State := s.incij f 0 0 n

/-- Add to a counter field of instance (i, j) that wraps. -/
def State.wrapij (s : State) (f : Fld) (i j n : Nat) : State := s.wrij f i j (s.rdij f i j + n)

/-- Add to a counter field that wraps, of instance `i`. -/
def State.wrapi (s : State) (f : Fld) (i n : Nat) : State := s.wrapij f i 0 n

/-- A 64-bit quantity in a register pair (R15). -/
def State.rd64 (s : State) (lo hi : Fld) : Nat := s.rd lo + s.rd hi * 2 ^ 32

/-- Set a 64-bit quantity in a register pair. -/
def State.wr64 (s : State) (lo hi : Fld) (v : Nat) : State := (s.wr lo v).wr hi (v / 2 ^ 32)

/-! ## Variants and absent units (R1 to R8) -/

/-- Is the device a DV-9620? -/
def State.is20 (s : State) : Bool := s.fuses.variant == 0x20

/-- Is the unit of register window `w` present? -/
def State.winPresent (s : State) (w : Nat) : Bool :=
  match s.fuses.variant with
  | 0x40 => true
  | 0x30 => w != 14 && w != 15
  | _ => !(w == 14 || w == 15 || w == 22 || w == 24 || w == 26 || w == 27 || w == 31)

/-- Does BAR0 address `a` belong to an absent unit, instance or memory (R3)? -/
def State.absentAddr (s : State) (a : Nat) : Bool :=
  (decide (a < 0x400000) && !s.winPresent (a / 0x10000)) ||
  (s.is20 &&
    ((decide (0x190100 ≤ a) && decide (a < 0x190200)) ||
     (decide (0x90200 ≤ a) && decide (a < 0x90300)) ||
     (decide (0x80148 ≤ a) && decide (a < 0x80160)) ||
     (decide (0x1D0100 ≤ a) && decide (a < 0x1D0200)) ||
     (decide (0x600000 ≤ a) && decide (a < 0x700000))))

/-- Is field die `d` present? -/
def State.diePresent (s : State) (d : Nat) : Bool := d == 0 || !s.is20

/-! ## Outputs and free values -/

/-- Record an output. -/
def State.emit (s : State) (o : Out) : State := { s with out := o :: s.out }

/-- A fresh free value at use `site`. -/
def State.free (s : State) (site : Nat) : Nat × State :=
  (Config.free site s.freeCount, { s with freeCount := s.freeCount + 1 })

/-! ## Events (R62 to R64) -/

/-- Send an MSI-X message on vector `v`, or hold it while the vector is masked (R63, R64). -/
def State.msix (s : State) (v : Nat) : State :=
  if bitAt s.host.msixMask v then
    { s with host := { s.host with msixPba := setBit s.host.msixPba v true } }
  else
    let m := assocGetD s.host.msixTable v (0, 0)
    s.emit (.msix v m.1 m.2)

/-- The vector of event `e` of window `w`: byte `e mod 4` of the vector registers (R62). -/
def State.vector (s : State) (w e : Nat) : Nat :=
  bitsOf (s.reg (UNIT_EVT_VEC_VEC0.addr (e / 4) w)) (8 * (e % 4) + 5) (8 * (e % 4))

/-- Event `e` of window `w` occurs: its EVT bit is set, and a message is sent when the bit goes from 0
to 1 while enabled (R63). An absent unit never sets one (R7), nor does a core in Thermal Halt (R82). -/
def State.raise (s : State) (w e : Nat) : State :=
  if s.winPresent w && !s.host.halted then
    let was := bitAt (s.rdi UNIT_EVT_EVT w) e
    let s1 := s.wri UNIT_EVT_EVT w (setBit (s.rdi UNIT_EVT_EVT w) e true)
    if !was && bitAt (s.rdi UNIT_EVT_EN_EN w) e then s1.msix (s.vector w e) else s1
  else s

/-- Raise when a condition holds. -/
def State.raiseIf (s : State) (c : Bool) (w e : Nat) : State := if c then s.raise w e else s

/-! ## Memory (R499 to R514) -/

/-- Base and size of memory region `r` (R499). -/
def regionSpan (r : Nat) : Nat × Nat :=
  listAt [(0x2000000, 0x2000000), (0xC00000, 0x400000), (0x800000, 0x400000), (0x400000, 0x200000),
    (0x600000, 0x100000), (0x1000000, 0x800000), (0x4000000, 0x1000000)] r (0, 0)

/-- The region that holds BAR0 address `a`. -/
def regionOf (a : Nat) : Option Nat :=
  (List.range 7).find? (fun r => decide ((regionSpan r).1 ≤ a) && decide (a < (regionSpan r).1 + (regionSpan r).2))

/-- Is region `r` usable (R520)? -/
def State.usable (s : State) (r : Nat) : Bool := !bitAt (s.rd MEM_REGION_UNUSABLE) r

/-- Is region `r` marked initialised (R506)? The MRAM always is. -/
def State.marked (s : State) (r : Nat) : Bool := r == 6 || bitAt (s.rd MEM_REGION_INIT) r

/-- The stored data of the word at byte address `a` (8-byte aligned). -/
def State.memWord (s : State) (a : Nat) : Nat :=
  leNat ((List.range 8).map (fun k => (cellGet (memByte0 s.memEpoch) s.mem (a + k)).toNat))

/-- The flipped bits of the stored word at byte address `a`. -/
def State.memFlips (s : State) (a : Nat) : Nat := cellGet (memFlips0 s.memEpoch) s.memErr (a / 8)

/-- The quarantine slot of region `r` that holds word `w` (R511). -/
def State.quarSlot (s : State) (r w : Nat) : Option Nat :=
  (List.range 64).find? (fun e => s.rdi MEM_Q_VALID (64 * r + e) == 1 && s.rdi MEM_Q_WORD (64 * r + e) == w)

/-- A free quarantine slot of region `r`. -/
def State.quarFree (s : State) (r : Nat) : Option Nat :=
  (List.range 64).find? (fun e => s.rdi MEM_Q_VALID (64 * r + e) == 0)

/-- Remove the quarantine entry of word `w`, if there is one (R512). -/
def State.quarDel (s : State) (r w : Nat) : State :=
  match s.quarSlot r w with
  | some e =>
    (s.setReg (MEM_Q_VALID.addr (64 * r + e) 0) 0).wri MEM_QSTAT_COUNT r (s.rdi MEM_QSTAT_COUNT r - 1)
  | none => s

/-- Store eight bytes. -/
def putBytes (d : Nat → Byte) (m : List Host.Cell) (a v : Nat) : Nat → List Host.Cell
  | 0 => m
  | k + 1 => putBytes d (cellPut d m a (BitVec.ofNat 8 v)) (a + 1) (v / 256) k

/-- Store a clean word at byte address `a` (R501): fresh check bits, quarantine entry removed (R512). -/
def State.memPut (s : State) (a v : Nat) : State :=
  let s1 := { s with
    mem := putBytes (memByte0 s.memEpoch) s.mem a v 8
    memErr := cellPut (memFlips0 s.memEpoch) s.memErr (a / 8) 0 }
  match regionOf a with
  | some r => s1.quarDel r ((a - (regionSpan r).1) / 8)
  | none => s1

/-- The word at byte address `a` has `f` flipped bits. -/
def State.setFlips (s : State) (a f : Nat) : State :=
  { s with memErr := cellPut (memFlips0 s.memEpoch) s.memErr (a / 8) f }

/-- A correction in region `r` (R502, R504): counted, and raised in the leaky bucket. -/
def State.memCorrect (s : State) (r : Nat) : State :=
  let s1 := s.inci MEM_CE_COUNT r 1
  if s1.rdi MEM_LEVEL_LEVEL r = s1.rdi MEM_BUCKET_SIZE r then (s1.wri MEM_LEVEL_LEVEL r 0).raise 6 r
  else s1.wri MEM_LEVEL_LEVEL r (s1.rdi MEM_LEVEL_LEVEL r + 1)

/-- A demand read of the word at byte address `a` (R502, R503): the word, or `none` when it is
uncorrectable, counted and logged. A word of an unusable region reads as an error and is not counted
(R520). -/
def State.memRead (s : State) (a : Nat) : Option Nat × State :=
  match regionOf a with
  | none => (none, s)
  | some r =>
    if !s.usable r then (none, s)
    else
      let f := s.memFlips a
      if f = 0 then (some (s.memWord a), s)
      else if f ≤ 2 then (some (s.memWord a), s.memCorrect r)
      else (none, ((s.inci MEM_UE_DEMAND r 1).wri MEM_UEADDR_ADDR r (a / 8 * 8)).raise 6 16)

/-- Demand reads of `n` consecutive words from byte address `a`. -/
def State.memReads (s : State) (a : Nat) : Nat → List (Option Nat) × State
  | 0 => ([], s)
  | n + 1 =>
    let (v, s1) := s.memRead a
    let (l, s2) := s1.memReads (a + 8) n
    (v :: l, s2)

/-- Write consecutive words. -/
def State.memPuts (s : State) (a : Nat) : List Nat → State
  | [] => s
  | v :: t => (s.memPut a v).memPuts (a + 8) t

/-- A 32-bit write merges with the other half (R501); a write to an unusable region is ignored (R520). -/
def State.memMerge (s : State) (a v : Nat) : State :=
  let w := a / 8 * 8
  let (old, s1) := s.memRead w
  let s2 := if old.isNone then s1.inc MEM_MERGE_COUNT 1 else s1
  let o := old.getD 0
  if a % 8 < 4 then s2.memPut w (o / 2 ^ 32 * 2 ^ 32 + v % 2 ^ 32)
  else s2.memPut w (o % 2 ^ 32 + v % 2 ^ 32 * 2 ^ 32)

/-- The bytes of the words that cover `n` bytes from 8-byte aligned `a`; `none` when a word is
uncorrectable. -/
def State.memBytes (s : State) (a n : Nat) : Option (List Nat) × State :=
  let (l, s1) := s.memReads a ((n + 7) / 8)
  if l.any (·.isNone) then (none, s1)
  else (some ((l.flatMap (fun v => leBytes 8 (v.getD 0))).take n), s1)

/-- Write a byte string whose length is a multiple of 8 at aligned `a`. -/
def State.memPutBytes (s : State) (a : Nat) (l : List Nat) : State :=
  s.memPuts a ((List.range ((l.length + 7) / 8)).map (fun k => leAt l (8 * k) 8))

/-! ## The committed configuration -/

/-- The committed records of a section kind, in record order. -/
def State.recs (s : State) (sect kind : Nat) : List CfgRec :=
  s.loader.recs.filter (fun r => r.sect == sect && r.kind == kind)

/-- A record's value of a field. -/
def CfgRec.v (r : CfgRec) (c : CRef) : Nat := listAt r.vals c.field c.dflt

/-- The committed record of a kind whose first field is `key`. -/
def State.crec (s : State) (c : CRef) (key : Nat) : Option CfgRec :=
  s.loader.recs.find? (fun r => r.sect == c.sect && r.kind == c.kind && listAt r.vals 0 0 == key)

/-- The committed record of a kind whose first two fields are `k1` and `k2`. -/
def State.crec2 (s : State) (c : CRef) (k1 k2 : Nat) : Option CfgRec :=
  s.loader.recs.find? (fun r => r.sect == c.sect && r.kind == c.kind && listAt r.vals 0 0 == k1 &&
    listAt r.vals 1 0 == k2)

/-- The only committed record of a kind that holds one record. -/
def State.crec1 (s : State) (c : CRef) : Option CfgRec :=
  s.loader.recs.find? (fun r => r.sect == c.sect && r.kind == c.kind)

/-- A committed field by instance; its reset value when there is no record. -/
def State.cv (s : State) (c : CRef) (key : Nat) : Nat :=
  match s.crec c key with
  | some r => r.v c
  | none => c.dflt

/-- A committed field of a kind with one record. -/
def State.cv1 (s : State) (c : CRef) : Nat :=
  match s.crec1 c with
  | some r => r.v c
  | none => c.dflt

/-- Is there a committed record for instance `key`? -/
def State.has (s : State) (c : CRef) (key : Nat) : Bool := (s.crec c key).isSome

/-! ## The traverse (R38 to R43) -/

/-- The short time of the clock (R16). -/
def State.short (s : State) : Nat := s.clk.now % 2 ^ 48

/-- An element starts on its way to the readers that take every element of their source: port 0 of signal
stations (R334) and the inputs of the measurement unit (R350). -/
def State.carry (s : State) (ep : Nat) (e : Elem) : State :=
  (s.loader.recs.filter (fun r => r.sect == 0x50 && r.v C_ROUTE_SOURCE == ep)).foldl (fun t r =>
    if r.v C_ROUTE_DEST_KIND = 1 && r.v C_ROUTE_PORT = 0 then
      let q := assocGetD t.sig.way (r.v C_ROUTE_DEST) []
      { t with sig := { t.sig with way := assocPut t.sig.way (r.v C_ROUTE_DEST) (q ++ [e]) } }
    else if r.v C_ROUTE_DEST_KIND = 3 then
      { t with msr := { t.msr with ins := listMod t.msr.ins (r.v C_ROUTE_PORT) (fun l => l ++ [e]) } }
    else t) s

/-- A source endpoint produces an element. -/
def State.produce (s : State) (ep val fmt tag : Nat) : State :=
  ({ s with trav := assocPut s.trav ep ⟨val % 2 ^ 32, tag % 2 ^ 48, fmt⟩ }).carry ep ⟨val % 2 ^ 32, tag % 2 ^ 48, fmt⟩

/-- The newest element of a source endpoint since the last commit (R39). -/
def State.elem (s : State) (ep : Nat) : Option Elem := assocGet s.trav ep

/-- The age of a short-time tag in ns against device time. -/
def State.age (s : State) (tag : Nat) : Nat := (s.short + 2 ^ 48 - tag % 2 ^ 48) % 2 ^ 48

/-- A short time expanded to device time against the clock (R120). -/
def State.expand (s : State) (tag : Nat) : Int :=
  (s.clk.now : Int) + sint 48 (tag % 2 ^ 48 + 2 ^ 48 - s.short)

/-- The route record that feeds port `port` of reader `dest` of kind `kind` (R42). -/
def State.route (s : State) (kind dest port : Nat) : Option CfgRec :=
  s.loader.recs.find? (fun r => r.sect == 0x50 && r.v C_ROUTE_DEST_KIND == kind && r.v C_ROUTE_DEST == dest &&
    r.v C_ROUTE_PORT == port)

/-- What a reader sees on its route: no element, or the newest element and its STALE flag (R41). -/
def State.routeIn (s : State) (kind dest port : Nat) : Option (Elem × Bool) :=
  match s.route kind dest port with
  | none => none
  | some r =>
    match s.elem (r.v C_ROUTE_SOURCE) with
    | none => none
    | some e => some (e, r.v C_ROUTE_STALE != 0 && decide (r.v C_ROUTE_STALE * 1000 < s.age e.tag))

/-- An element's value as a number in its declared format (R39). -/
def Elem.num (e : Elem) : FV :=
  if e.fmt = 0 then ofB32 e.val else if e.fmt = 1 then FV.ofInt (sint 32 e.val) else FV.ofInt e.val

/-! ## DMA records (R67, R575) -/

/-- Channel `n` has a record to write; with no posted descriptor it stalls once (R67). -/
def State.dmaReady (s : State) (n : Nat) (rec : List Nat) : State :=
  let s1 := { s with host := { s.host with
    dma := listMod s.host.dma n (fun c => { c with ready := c.ready ++ [rec] }) } }
  if (listAt s.host.dma n {}).posted.isEmpty && s.rdi HST_DMA_STAT_STALLED n == 0 then
    ((s1.wri HST_DMA_STAT_STALLED n 1).inci HST_DMA_STALL_COUNT n 1).raise 3 (8 + n)
  else s1

/-- Records waiting on channel `n`. -/
def State.dmaWaiting (s : State) (n : Nat) : Nat := (listAt s.host.dma n {}).ready.length

/-- Discard every record that waits for channel `n`; with nothing left a stall is over. -/
def State.dmaDiscard (s : State) (n : Nat) : State :=
  ({ s with host := { s.host with dma := listMod s.host.dma n (fun c => { c with ready := [], cont := false }) } }).wri
    HST_DMA_STAT_STALLED n 0

/-- Drop the oldest waiting record of channel `n` that is not being written. -/
def State.dmaDropOldest (s : State) (n : Nat) : State :=
  { s with host := { s.host with dma := listMod s.host.dma n (fun c =>
    { c with ready := if c.cont then c.ready.take 1 ++ c.ready.drop 2 else c.ready.drop 1 }) } }

/-- A step that answers a next state. -/
def ok (s : State) : Host.Outcome State Fault Refusal := .next s

/-- The state of a step that answers one. -/
def nextOr (s : State) (o : Host.Outcome State Fault Refusal) : State :=
  match o with
  | .next t => t
  | _ => s

/-- In Thermal Halt the core die is powered down (R82): what it would do does not happen. -/
def State.powered (s : State) (r : Host.Outcome State Fault Refusal) : Host.Outcome State Fault Refusal :=
  if s.host.halted then ok s else r

end Sys2Proof.Machine
end

