-- ==== Sys2Proof/Machine/Flags.lean ====
section
/-! DEFINITION. The lines and conditions that follow from the registers: the event summary and IRQn (R59, R62), THERMn
(R432), the device state, the role, the rank of R46 and the FCLK frequency. -/

namespace Sys2Proof.Machine

open Sys2Proof

/-! ## Events and lines -/

/-- SYS_EVT_SUM: bit n is 1 while window n has a pending enabled event. -/
def State.evtSum (s : State) : Nat :=
  ((List.range 32).map (fun w =>
    if s.winPresent w && (s.rdi UNIT_EVT_EVT w &&& s.rdi UNIT_EVT_EN_EN w) != 0 then 2 ^ w else 0)).sum

/-- IRQn is low while SYS_EVT_SUM is not 0 (R59). -/
def State.irqLow (s : State) : Bool := !s.host.halted && s.evtSum != 0

/-- A group is at warning (fabric flag 0x043). -/
def State.thermWarn (s : State) : Bool := (List.range 4).any (fun g => s.rdi THM_GRP_WARN g == 1)

/-- THERMn is asserted: a group at warning, or Thermal Halt (R432). -/
def State.thermLow (s : State) : Bool := s.host.halted || s.thermWarn

/-! ## Device state and precedence (R46, R79 to R82) -/

/-- SYS_STATE.STATE reads Run. -/
def State.running (s : State) : Bool := s.rd SYS_STATE_STATE == 6

/-- The device is Unplatted (R81). -/
def State.unplatted (s : State) : Bool := s.rd SYS_STATE_STATE == 7

/-- The host-lost state is in force (R69, R70). -/
def State.hostLost (s : State) : Bool := s.rd HST_LOST_LOST == 1

/-- The device is standby of its pair (R487). -/
def State.standby (s : State) : Bool := s.winPresent 31 && s.rd PAIR_STAT_ROLE == 2

/-- The device is primary of its pair. -/
def State.primary (s : State) : Bool := s.winPresent 31 && s.rd PAIR_STAT_ROLE == 1

/-- The rank of R46 in force on field die `d`. -/
def State.rank (s : State) (d : Nat) : Nat :=
  let die := listAt s.dies d {}
  if s.host.halted || die.halt then 1
  else if die.safe || s.unplatted then 2
  else if s.hostLost then 3
  else 4

/-- The FCLK frequency in MHz (R29). -/
def State.fclkMHz (s : State) : Nat :=
  match s.rd CLK_STAT_FSTEP with
  | 0 => 800
  | 1 => 600
  | 2 => 400
  | _ => 200

end Sys2Proof.Machine
end

