-- ==== Sys2Proof/Machine/Fieldio.lean ====
section
/-! DEFINITION. Field I/O and analogue outputs: what the field die applies, the protections and the causes,
inputs, and the commands the core decides (spec/12_field_io.md R394 to R417). -/

namespace Sys2Proof.Machine

open Sys2Proof

/-- Change field die `d`. -/
def State.dieM (s : State) (d : Nat) (f : FieldDie → FieldDie) : State := { s with dies := listMod s.dies d f }

/-- Field die `d`. -/
def State.die (s : State) (d : Nat) : FieldDie := listAt s.dies d {}

/-- Change the core's field I/O state of die `d`. -/
def State.fioM (s : State) (d : Nat) (f : FioCore → FioCore) : State := { s with fio := listMod s.fio d f }

/-- A field of the configuration that die `d` holds for its channel `i` (R395). -/
def State.dieDio (s : State) (d i : Nat) (c : CRef) : Nat :=
  match (s.die d).cfg.find? (fun r => r.sect == 0xC0 && r.kind == 0 && r.v C_DIO_CHANNEL == 24 * d + i) with
  | some r => r.v c
  | none => c.dflt

/-- A field of the configuration that die `d` holds for its analogue output `j`, when it has one. -/
def State.dieAout (s : State) (d j : Nat) : Option CfgRec :=
  (s.die d).cfg.find? (fun r => r.sect == 0xC0 && r.kind == 1 && r.v C_AOUT_AOUT == 4 * d + j)

/-- Is channel `i` of die `d` an output (R394, R395)? -/
def State.dioOut (s : State) (d i : Nat) : Bool := (s.die d).configured && s.dieDio d i C_DIO_DIR == 1

/-- The command decided under R46 for an output (R406). -/
def State.dioDecided (s : State) (d i : Nat) : Bool :=
  if s.rank d ≤ 2 then
    match s.dieDio d i C_DIO_SAFE with
    | 0 => false
    | 1 => true
    | _ => bitAt (s.die d).held i
  else bitAt (s.die d).dio i

/-- Does a protection hold the output off (R399 to R403, R407, R408)? -/
def State.dioBlocked (s : State) (d i : Nat) : Bool :=
  (bitAt (s.rdij FIO_F_OC_CH 0 d) i && s.dieDio d i C_DIO_OC_TIME != 0) ||
  bitAt (s.rdij FIO_F_SVS_CH 0 d) i ||
  s.rdij FIO_CH_TH_OFF i d == 1 ||
  (bitAt (s.rdij FIO_F_TH_CH 0 d) i && s.dieDio d i C_DIO_RETRY_MAX != 0 &&
    decide (s.dieDio d i C_DIO_RETRY_MAX ≤ listAt (s.die d).tries i 0)) ||
  s.rdij FIO_VBANK_UV (i / 8) d == 1 ||
  (bitAt (s.rdij FIO_F_UV_CH 0 d) i && s.dieDio d i C_DIO_UV_RESTORE == 1)

/-- The switch of an output channel is on (R399); a standby drives nothing (R488). -/
def State.dioOn (s : State) (d i : Nat) : Bool :=
  s.dioOut d i && s.dioDecided d i && !s.dioBlocked d i && !(s.die d).standby

/-- Nonnegative `v × num / den` rounded half up. -/
def halfUp (v : FV) (num den : Nat) : Nat :=
  match v with
  | .fin false m e =>
    let n := if 0 ≤ e then m * 2 ^ e.toNat else m
    let d := if 0 ≤ e then 1 else 2 ^ (-e).toNat
    (2 * n * num + d * den) / (2 * d * den)
  | _ => 0

/-- Code of an analogue output value under its mode (R409). -/
def aoutCode (mode : Nat) (v : FV) : Nat :=
  let w := if v.isNaN then FV.zero else v
  match mode with
  | 0 => halfUp (FV.lim FV.zero (FV.ofInt 10) w) 6400 1
  | 1 => limN 0 57344 (halfUp (FV.lim FV.zero (FV.ofInt 21) w) 65536 24)
  | _ => limN 9830 57344 (halfUp (FV.lim (FV.dec f32 36 1) (FV.ofInt 21) w) 65536 24)

/-- Code of x under a record: v = x × SCALE + OFFSET (R409). -/
def aoutOf (r : CfgRec) (x : FV) : Nat :=
  aoutCode (r.v C_AOUT_MODE) (FV.add f32 (FV.mul f32 x (ofB32 (r.v C_AOUT_SCALE))) (ofB32 (r.v C_AOUT_OFFSET)))

/-- The fan that drives analogue output `k`, if any (R418). -/
def State.fanOfAout (s : State) (k : Nat) : Option Nat :=
  (s.recs 0xD0 0).find? (fun r => r.v C_FAN_DRIVE_KIND == 1 && r.v C_FAN_AOUT == k) |>.map (fun r => r.v C_FAN_CHANNEL)

/-- The code that die `d` applies on output `j` (R46, R409, R411, R419): fan drive under every rank for an
output with SOURCE 2, SAFE_V under ranks 1 and 2, else the commanded code. -/
def State.aoutApplied (s : State) (d j : Nat) : Nat :=
  match s.dieAout d j with
  | none => 0
  | some r =>
    if !(s.die d).configured || (s.die d).standby then 0
    else if r.v C_AOUT_SOURCE = 2 && (s.fanOfAout (4 * d + j)).isSome then
      (if s.rank d ≤ 2 then aoutOf r (FV.ofInt 100) else listAt (s.die d).aout j 0)
    else if s.rank d ≤ 2 then aoutCode (r.v C_AOUT_MODE) (ofB32 (r.v C_AOUT_SAFE_V))
    else listAt (s.die d).aout j 0

/-- Does rank 1, 2 or 3 decide the value of output `j` of die `d` (R411, R412)? A fan's drive under rank 3 is not
decided by it (R419). -/
def State.aoutRanked (s : State) (d j : Nat) : Bool :=
  decide (s.rank d ≤ 2) || (s.rank d == 3 &&
    (match s.dieAout d j with
    | some r => r.v C_AOUT_HOSTLOST != 2 && r.v C_AOUT_SOURCE != 2
    | none => true))

/-- Channel `i` of die `d` with its switch on or off as `on` says: a switch that changed has no open load yet (R402),
and one that is on has no partner's drive (R404). -/
def State.swShow (s : State) (d i : Nat) (was on : Bool) : State :=
  let s1 := if was != on then s.wrij FIO_CH_OL i d 0 else s
  if on && s.rdij FIO_CH_PARTNER i d == 1 then
    (s1.wrij FIO_CH_PARTNER i d 0).wrij FIO_PARTNER_STATE 0 d (setBit (s.rdij FIO_PARTNER_STATE 0 d) i false)
  else s1

/-- Apply what die `d` has been told and what its protections allow: switches, analogue codes, rank bits
(R399, R409, R412); a turn-off starts R403's 500 µs. -/
def State.outRefresh (s : State) (d : Nat) : State :=
  let drv := ((List.range 24).map (fun i => if s.dioOn d i then 2 ^ i else 0)).sum
  let was := s.rdij FIO_DRV_STATE 0 d
  let off := fun (x : FieldDie) => (List.range 24).map (fun i =>
    if bitAt was i && !bitAt drv i then s.clk.el else listAt x.offAt i 0)
  let s0 := (List.range 24).foldl (fun t i => t.swShow d i (bitAt was i) (bitAt drv i)) s
  let s1 := s0.dieM d (fun x => { x with offAt := off x })
  let s2 := ((s1.wrij FIO_DRV_STATE 0 d drv).wrij FIO_STAT_SAFE 0 d (b2n (decide (s.rank d ≤ 2)))).wrij
    FIO_STAT_HOSTLOST 0 d (b2n (s.rank d == 3))
  (List.range 4).foldl (fun t j =>
    (t.wrij FIO_AOUTSTAT_CODE j d (t.aoutApplied d j)).wrij FIO_AOUTSTAT_HELD j d (b2n (t.aoutRanked d j))) s2

/-- FIO_STAT.FAULT and its event (R408, R413). -/
def State.fioFault (s : State) (d : Nat) : State :=
  let any := [FIO_F_OC_CH, FIO_F_TH_CH, FIO_F_SVS_CH, FIO_F_OL_CH, FIO_F_WB_CH, FIO_F_UV_CH].any
      (fun f => s.rdij f 0 d != 0) ||
    (List.range 4).any (fun j => s.rdij FIO_AOUTSTAT_OPEN_WIRE_L j d == 1 || s.rdij FIO_AOUTSTAT_OVERLOAD_L j d == 1)
  let was := s.rdij FIO_STAT_FAULT 0 d
  (s.wrij FIO_STAT_FAULT 0 d (b2n any)).raiseIf (any && was == 0) (23 + d) 0

/-- Latch a cause for channel `i` (R408, R413). -/
def State.fioLatch (s : State) (f : Fld) (d i evt : Nat) : State :=
  let was := bitAt (s.rdij f 0 d) i
  ((s.wrij f 0 d (setBit (s.rdij f 0 d) i true)).raiseIf (!was) (23 + d) evt).fioFault d

/-- The field timestamp counter (R20): 10 ns units of the recovered clock. -/
def State.fieldCount (s : State) : Nat := s.clk.el / 10 % 2 ^ 32

/-- A sample joins those the die will send (R19, R22); with no trained link it is lost (R24, R324). -/
def State.sample (s : State) (d ep val fmt stamp : Nat) : State :=
  if s.rdi CHN_STAT_TRAINED d = 0 then s
  else s.dieM d (fun x => { x with samples := x.samples ++ [⟨ep, val, fmt, stamp % 2 ^ 32⟩] })

/-- Is the bank of channel `i` tripped or below 14 V (R398, R407)? -/
def State.bankLow (s : State) (d i : Nat) : Bool :=
  s.rdij FIO_VBANK_UV (i / 8) d == 1 || decide (s.rdij FIO_VBANK_VOLT (i / 8) d < 1400)

/-- Set the debounced state and send its element (R397). -/
def State.dioState (s : State) (d i : Nat) (on : Bool) (stamp : Nat) : State :=
  ((s.wrij FIO_IN_STATE 0 d (setBit (s.rdij FIO_IN_STATE 0 d) i on)).dieM d (fun x => { x with
    repAt := listSet x.repAt i s.clk.el })).sample d (240 + 24 * d + i) (b2n on) 2 stamp

/-- A partner-driven pin that is no longer high while off clears PARTNER (R404). -/
def State.partnerGone (s : State) (d i : Nat) : State :=
  (s.wrij FIO_CH_PARTNER i d 0).wrij FIO_PARTNER_STATE 0 d (setBit (s.rdij FIO_PARTNER_STATE 0 d) i false)

/-- DEBOUNCED_CHANGE (R397, R398): a raw level has held for `held` µs, DEBOUNCE or more. A pin that reads on has its
wire whole. -/
def execDebouncedChange (ch : Fin 48) (level : Bool) (held : Nat) (s : State) : Host.Outcome State Fault Refusal :=
  let d := ch.val / 24
  let i := ch.val % 24
  if !s.diePresent d then ok s
  else
    let s1 := s.wrij FIO_PIN_STATE 0 d (setBit (s.rdij FIO_PIN_STATE 0 d) i level)
    let s2 := if level then s1.wrij FIO_CH_WB i d 0 else if s.dioOut d i then s1.partnerGone d i else s1
    if s.dieDio d i C_DIO_DEBOUNCE ≤ held && bitAt (s.rdij FIO_IN_STATE 0 d) i != level then
      ok (s2.dioState d i level (s.fieldCount + 2 ^ 32 - held * 100 % 2 ^ 32))
    else ok s2

/-- INPUT_REPEAT (R397): every 100 ms the state is repeated, tagged with its own sample instant. -/
def execInputRepeat (ch : Fin 48) (s : State) : Host.Outcome State Fault Refusal :=
  let d := ch.val / 24
  let i := ch.val % 24
  if s.diePresent d && decide (listAt (s.die d).repAt i 0 + 100000000 ≤ s.clk.el) then
    ok (s.dioState d i (bitAt (s.rdij FIO_IN_STATE 0 d) i) s.fieldCount)
  else ok s

/-- WIRE_BREAK (R398): below 0.2 mA for 10 ms; a broken wire reads 0 (R397). `current` is in 10 µA. -/
def execWireBreak (ch : Fin 48) (current : Nat) (s : State) : Host.Outcome State Fault Refusal :=
  let d := ch.val / 24
  let i := ch.val % 24
  let s1 := s.wrij FIO_CH_CURRENT i d current
  if s.diePresent d && decide (current < 20) && s.dieDio d i C_DIO_WB_EN == 1 && !s.dioOut d i && !s.bankLow d i then
    let s2 := (s1.wrij FIO_CH_WB i d 1).fioLatch FIO_F_WB_CH d i 5
    if bitAt (s.rdij FIO_IN_STATE 0 d) i then ok (s2.dioState d i false s.fieldCount) else ok s2
  else if s.diePresent d then ok s1 else ok s

/-- WIRE_INTACT (R398): 0.3 mA to 1.5 mA for 10 ms, and WB clears. -/
def execWireIntact (ch : Fin 48) (current : Nat) (s : State) : Host.Outcome State Fault Refusal :=
  let d := ch.val / 24
  let i := ch.val % 24
  if !s.diePresent d then ok s
  else
    let s1 := s.wrij FIO_CH_CURRENT i d current
    if 30 ≤ current && decide (current ≤ 150) && s.dieDio d i C_DIO_WB_EN == 1 && !s.bankLow d i then
      ok (s1.wrij FIO_CH_WB i d 0)
    else ok s1

/-- OVER_CURRENT (R400): in limit for OC_TIME without a break. -/
def execOverCurrent (ch : Fin 48) (s : State) : Host.Outcome State Fault Refusal :=
  let d := ch.val / 24
  let i := ch.val % 24
  if s.diePresent d && s.dioOn d i && s.dieDio d i C_DIO_OC_TIME != 0 then
    ok (((s.wrij FIO_CH_LIMITING i d 0).fioLatch FIO_F_OC_CH d i 1).outRefresh d)
  else ok s

/-- SWITCH_THERMAL_SHUTDOWN (R401): the switch reaches 170 °C. -/
def execSwitchThermalShutdown (ch : Fin 48) (s : State) : Host.Outcome State Fault Refusal :=
  let d := ch.val / 24
  let i := ch.val % 24
  if s.diePresent d && s.dioOut d i then
    ok (((s.wrij FIO_CH_TH_OFF i d 1).fioLatch FIO_F_TH_CH d i 2).outRefresh d)
  else ok s

/-- THERMAL_RETRY (R401): at 160 °C the switch turns on again if it is commanded on and RETRY_MAX allows. -/
def execThermalRetry (ch : Fin 48) (s : State) : Host.Outcome State Fault Refusal :=
  let d := ch.val / 24
  let i := ch.val % 24
  if s.diePresent d && s.rdij FIO_CH_TH_OFF i d == 1 then
    let s1 := s.wrij FIO_CH_TH_OFF i d 0
    if s1.dioOn d i then
      ok (((s1.incij FIO_RETRY_COUNT i d 1).dieM d (fun x => { x with
        tries := listMod x.tries i (fun n => satAdd 8 n 1) })).outRefresh d)
    else ok (s1.outRefresh d)
  else ok s

/-- OPEN_LOAD (R402): the channel draws `current` mA. The on-state condition (load current `current` mA below OL_ON_MA) or the off-state
condition (pin between 2.5 V and 4.5 V, the pull-up enabled) has held for 1 ms, or neither holds any more. -/
def execOpenLoad (ch : Fin 48) (current : Nat) (s : State) : Host.Outcome State Fault Refusal :=
  let d := ch.val / 24
  let i := ch.val % 24
  let on := s.dioOn d i && s.dieDio d i C_DIO_OL_ON_EN == 1 && decide (current < s.dieDio d i C_DIO_OL_ON_MA)
  let off := !s.dioOn d i && s.dieDio d i C_DIO_OL_OFF_EN == 1 && s.dieDio d i C_DIO_PARTNER_DRIVE == 0
  if !s.diePresent d || !s.dioOut d i then ok s
  else
    let s1 := s.wrij FIO_CH_CURRENT i d (min current 4095)
    if on || off then ok ((s1.wrij FIO_CH_OL i d 1).fioLatch FIO_F_OL_CH d i 4) else ok (s1.wrij FIO_CH_OL i d 0)

/-- SHORT_VS (R403, R404): an off pin above 6.0 V for 100 µs, from 500 µs after the last turn-off; on a
partner-driven channel it sets PARTNER and never latches. -/
def execShortVs (ch : Fin 48) (s : State) : Host.Outcome State Fault Refusal :=
  let d := ch.val / 24
  let i := ch.val % 24
  if s.diePresent d && s.dioOut d i && !s.dioOn d i then
    if s.dieDio d i C_DIO_PARTNER_DRIVE = 1 then
      ok ((s.wrij FIO_CH_PARTNER i d 1).wrij FIO_PARTNER_STATE 0 d (setBit (s.rdij FIO_PARTNER_STATE 0 d) i true))
    else if listAt (s.die d).offAt i 0 + 600000 ≤ s.clk.el then
      ok ((s.fioLatch FIO_F_SVS_CH d i 3).outRefresh d)
    else ok s
  else ok s

/-- The outputs and inputs of bank `b` of die `d`. -/
def bankChans (b : Nat) : List Nat := (List.range 8).map (fun k => 8 * b + k)

/-- UNDER_VOLTAGE (R407): below 14.0 V for 20 µs; `volt` in 0.01 V. -/
def execUnderVoltage (bank : Fin 6) (volt : Nat) (s : State) : Host.Outcome State Fault Refusal :=
  let d := bank.val / 3
  let b := bank.val % 3
  if !s.diePresent d then ok s
  else
    let s1 := s.wrij FIO_VBANK_VOLT b d volt
    if volt < 1400 then
      let s2 := s1.wrij FIO_VBANK_UV b d 1
      let s3 := (bankChans b).foldl (fun t i =>
        if t.dioOut d i then t.fioLatch FIO_F_UV_CH d i 6 else t.wrij FIO_CH_SUPPLY_LOW i d 1) s2
      ok (s3.outRefresh d)
    else ok s1

/-- BANK_RESTORE (R407): above 16.0 V for 10 ms after a trip. -/
def execBankRestore (bank : Fin 6) (volt : Nat) (s : State) : Host.Outcome State Fault Refusal :=
  let d := bank.val / 3
  let b := bank.val % 3
  if !s.diePresent d then ok s
  else
    let s1 := s.wrij FIO_VBANK_VOLT b d volt
    if 1600 < volt && s.rdij FIO_VBANK_UV b d == 1 then
      let s2 := (bankChans b).foldl (fun t i => t.wrij FIO_CH_SUPPLY_LOW i d 0) (s1.wrij FIO_VBANK_UV b d 0)
      ok ((s2.raise (23 + d) 8).outRefresh d)
    else ok s1

/-- BANK_WARN (R407): the supply crosses 18.0 V downward or 19.0 V upward. -/
def execBankWarn (bank : Fin 6) (volt : Nat) (s : State) : Host.Outcome State Fault Refusal :=
  let d := bank.val / 3
  let b := bank.val % 3
  if !s.diePresent d then ok s
  else
    let s1 := s.wrij FIO_VBANK_VOLT b d volt
    let was := s.rdij FIO_VBANK_WARN b d
    if volt < 1800 then ok ((s1.wrij FIO_VBANK_WARN b d 1).raiseIf (was == 0) (23 + d) 7)
    else if 1900 < volt then ok (s1.wrij FIO_VBANK_WARN b d 0)
    else ok s1

/-- Which cause register a FAULT_CLEAR names: F_OC, F_TH, F_SVS, F_OL, F_WB, F_UV. -/
def causeFld (k : Nat) : Fld :=
  listAt [FIO_F_OC_CH, FIO_F_TH_CH, FIO_F_SVS_CH, FIO_F_OL_CH, FIO_F_WB_CH, FIO_F_UV_CH] k FIO_F_UV_CH

/-- FAULT_CLEAR (R400 to R403, R407, R408): a W1C write to a cause register of die `d`. SHORT_VS sets again while the
pin of the off channel is still high (R403). -/
def State.causeClear (s : State) (d k v : Nat) : State :=
  let f := causeFld k
  let cur := s.rdij f 0 d
  let again := fun i => k == 2 && bitAt (s.rdij FIO_PIN_STATE 0 d) i && !bitAt (s.rdij FIO_DRV_STATE 0 d) i
  let next := ((List.range 24).map (fun i => if bitAt cur i && (!bitAt v i || again i) then 2 ^ i else 0)).sum
  let s1 := s.wrij f 0 d next
  let left := fun (x : FieldDie) => (List.range 24).map (fun i => if bitAt v i then 0 else listAt x.tries i 0)
  let s2 := if k = 1 then s1.dieM d (fun x => { x with tries := left x }) else s1
  (s2.fioFault d).outRefresh d

/-- FAULT_CLEAR. -/
def execFaultClear (die : Fin 2) (cause : Fin 6) (value : Word) (s : State) : Host.Outcome State Fault Refusal := s.powered <|
  if s.winPresent (23 + die.val) then ok (s.causeClear die cause value.toNat) else ok s

/-- A W1C write of FIO_AOUTSTATj. -/
def State.aoutClear (s : State) (d j v : Nat) : State :=
  let s1 := if bitAt v 31 then s.wrij FIO_AOUTSTAT_OPEN_WIRE_L j d 0 else s
  let s2 := if bitAt v 30 then s1.wrij FIO_AOUTSTAT_OVERLOAD_L j d 0 else s1
  s2.fioFault d

/-- The value in mA or V that a code stands for. -/
def aoutValue (mode code : Nat) : FV :=
  if mode = 0 then FV.div f32 (FV.ofInt code) (FV.ofInt 6400)
  else FV.div f32 (FV.ofInt (24 * code : Nat)) (FV.ofInt 65536)

/-- OPEN_WIRE (R410): the delivered current `rb` (binary32 mA) has fallen short of v for 10 ms. -/
def execOpenWire (aout : Fin 8) (rb : Nat) (s : State) : Host.Outcome State Fault Refusal :=
  let d := aout.val / 4
  let j := aout.val % 4
  match s.dieAout d j with
  | none => ok s
  | some r =>
    let s1 := s.wrij FIO_AOUTRB_V j d rb
    let v := aoutValue (r.v C_AOUT_MODE) (s.rdij FIO_AOUTSTAT_CODE j d)
    if s.diePresent d && r.v C_AOUT_MODE != 0 && r.v C_AOUT_OPEN_EN == 1 && (FV.ofInt 1).le v &&
        (FV.dec f32 5 1).lt (FV.sub f32 v (ofB32 rb)) then
      let was := s.rdij FIO_AOUTSTAT_OPEN_WIRE_L j d
      ok ((((s1.wrij FIO_AOUTSTAT_OPEN_WIRE j d 1).wrij FIO_AOUTSTAT_OPEN_WIRE_L j d 1).raiseIf (was == 0) (23 + d) 9).fioFault d)
    else ok (s1.wrij FIO_AOUTSTAT_OPEN_WIRE j d 0)

/-- OVERLOAD (R410): the output voltage `rb` (binary32 V) has been off by more than 0.1 V for 10 ms. -/
def execOverload (aout : Fin 8) (rb : Nat) (s : State) : Host.Outcome State Fault Refusal :=
  let d := aout.val / 4
  let j := aout.val % 4
  match s.dieAout d j with
  | none => ok s
  | some r =>
    let s1 := s.wrij FIO_AOUTRB_V j d rb
    let v := aoutValue 0 (s.rdij FIO_AOUTSTAT_CODE j d)
    if s.diePresent d && r.v C_AOUT_MODE == 0 && (FV.dec f32 1 1).lt (FV.sub f32 v (ofB32 rb)).abs then
      let was := s.rdij FIO_AOUTSTAT_OVERLOAD_L j d
      ok ((((s1.wrij FIO_AOUTSTAT_OVERLOAD j d 1).wrij FIO_AOUTSTAT_OVERLOAD_L j d 1).raiseIf (was == 0) (23 + d) 9).fioFault d)
    else ok (s1.wrij FIO_AOUTSTAT_OVERLOAD j d 0)

/-! ## Commands at the core (R405, R406, R409) -/

/-- A route element as an on fraction: none when it is stale or not a number. -/
def State.dioFrac (s : State) (c mode : Nat) : Option (Option FV) :=
  match s.routeIn 0 (432 + c) 0 with
  | none => none
  | some (e, stale) =>
    if stale then some none
    else if e.fmt ≠ 0 then some (some (if e.val = 0 then FV.zero else FV.ofInt 1))
    else if (ofB32 e.val).isNaN then some none
    else if mode = 0 then some (some (if (FV.dec f32 5 1).le (ofB32 e.val) then FV.ofInt 1 else FV.zero))
    else some (some (FV.lim FV.zero (FV.ofInt 1) (ofB32 e.val)))

/-- TIME_PROPORTIONING_PERIOD (R405): at a multiple of TP_PERIOD ms of device time the on time is taken from
the newest element, rounded to 1 µs. -/
def execTimeProportioningPeriod (ch : Fin 48) (s : State) : Host.Outcome State Fault Refusal := s.powered <|
  match s.crec C_DIO_CHANNEL ch with
  | none => ok s
  | some r =>
    let d := ch.val / 24
    let i := ch.val % 24
    let p := r.v C_DIO_TP_PERIOD * 1000000
    let k := s.clk.now / p
    let cur := listAt (listAt s.fio d {}).tp i (0, 0)
    if r.v C_DIO_DIR != 1 || r.v C_DIO_SOURCE != 1 || r.v C_DIO_OUT_MODE != 1 || cur.1 == k then ok s
    else
      let onNs := match s.dioFrac ch 1 with
        | some (some f) => 1000 * (FV.mul f64 f (FV.ofInt (p / 1000 : Nat))).roundI.toNat
        | some none => cur.2
        | none => if r.v C_DIO_INIT = 1 then p else 0
      ok (s.fioM d (fun x => { x with tp := listSet x.tp i (k, onNs) }))

/-- The rank-4 command of channel `i` of die `d`, and whether its stale rule applies (R405). -/
def State.dioCmd (s : State) (d i : Nat) (r : CfgRec) : Bool × Bool :=
  let c := 24 * d + i
  let last := bitAt (listAt s.fio d {}).cmd i
  if r.v C_DIO_SOURCE = 0 then (bitAt (s.rdij FIO_OUT_ON 0 d) i, false)
  else
    match s.dioFrac c (r.v C_DIO_OUT_MODE) with
    | none => (r.v C_DIO_INIT == 1, false)
    | some none =>
      if r.v C_DIO_STALE_ACT = 0 then (last, false)
      else ((match r.v C_DIO_SAFE with
        | 0 => false
        | 1 => true
        | _ => last), true)
    | some (some f) =>
      if r.v C_DIO_OUT_MODE = 1 then
        let p := r.v C_DIO_TP_PERIOD * 1000000
        (decide (s.clk.now % p < (listAt (listAt s.fio d {}).tp i (0, 0)).2), false)
      else (FV.zero.lt f, false)

/-- The command that an outbound frame carries for channel `i`: HOSTLOST under rank 3 (R406). -/
def State.dioFrame (s : State) (d i : Nat) (r : CfgRec) (cmd : Bool) : Bool :=
  if s.hostLost then
    let held := bitAt (listAt s.fio d {}).lost i
    match r.v C_DIO_HOSTLOST with
    | 0 => (match r.v C_DIO_SAFE with
      | 0 => false
      | 1 => true
      | _ => held)
    | 1 => held
    | _ => cmd
  else cmd

/-- x of an analogue output and whether its stale rule applies (R409); none for the stale rule's SAFE_V. -/
def State.aoutX (s : State) (d j : Nat) (r : CfgRec) : Option Nat × Bool :=
  let k := 4 * d + j
  let last := listAt (listAt s.fio d {}).x j 0
  match r.v C_AOUT_SOURCE with
  | 0 => (some (s.rdij FIO_AOUTVAL_X j d), false)
  | 1 =>
    match s.routeIn 0 (416 + k) 0 with
    | none => (some (listAt s.pair.outs (2 + k) (r.v C_AOUT_INIT)), false)
    | some (e, stale) =>
      if stale || (e.fmt == 0 && (ofB32 e.val).isNaN) then
        (if r.v C_AOUT_STALE_ACT = 0 then (some last, false) else (none, true))
      else (some (toB32 e.num), false)
  | _ =>
    match s.fanOfAout k with
    | some n => (some (toB32 (FV.div f32 (FV.ofInt (s.rdi FAN_DRIVE_DRIVE n)) (FV.ofInt 100))), false)
    | none => (some (r.v C_AOUT_INIT), false)

/-- The code that an outbound frame carries for output `j` (R409, R411, R419). -/
def State.aoutFrame (s : State) (d j : Nat) (r : CfgRec) (x : Option Nat) : Nat :=
  let safe := aoutCode (r.v C_AOUT_MODE) (ofB32 (r.v C_AOUT_SAFE_V))
  let cmd := match x with
    | some v => aoutOf r (ofB32 v)
    | none => safe
  if s.hostLost && r.v C_AOUT_SOURCE != 2 then
    match r.v C_AOUT_HOSTLOST with
    | 0 => safe
    | 1 => listAt (listAt s.fio d {}).lostCodes j 0
    | _ => cmd
  else cmd

/-- The commands of die `d`'s next frame; the core keeps the levels, values and codes it sent (R405, R409). -/
def State.fioCommands (s : State) (d : Nat) : Nat × List Nat × State :=
  let recsD := fun i => s.crec C_DIO_CHANNEL (24 * d + i)
  let cmds := (List.range 24).map (fun i => match recsD i with
    | some r => if r.v C_DIO_DIR = 1 then some (r, s.dioCmd d i r) else none
    | none => none)
  let cmdBits := ((List.range 24).map (fun i => match listAt cmds i none with
    | some (_, b, _) => if b then 2 ^ i else 0
    | none => 0)).sum
  let frame := ((List.range 24).map (fun i => match listAt cmds i none with
    | some (r, b, _) => if s.dioFrame d i r b then 2 ^ i else 0
    | none => 0)).sum
  let s1 := (List.range 24).foldl (fun t i => match listAt cmds i none with
    | some (_, _, st) => t.wrij FIO_CH_STALE i d (b2n st)
    | none => t) s
  let ao := (List.range 4).map (fun j => match s.crec C_AOUT_AOUT (4 * d + j) with
    | some r => some (r, s.aoutX d j r)
    | none => none)
  let codes := (List.range 4).map (fun j => match listAt ao j none with
    | some (r, x, _) => s.aoutFrame d j r x
    | none => 0)
  let s2 := (List.range 4).foldl (fun t j => match listAt ao j none with
    | some (_, _, st) => t.wrij FIO_AOUTSTAT_STALE j d (b2n st)
    | none => t) s1
  let s3 := s2.fioM d (fun x => { x with
    cmd := cmdBits
    x := (List.range 4).map (fun j => match listAt ao j none with
      | some (_, some v, _) => v
      | _ => listAt x.x j 0) })
  (frame, codes, s3)

/-- Entry to rank 3 (R406, R411): the levels and codes in force are kept for HOSTLOST 1. -/
def State.fioLost (s : State) : State :=
  { s with fio := (List.range 2).map (fun d =>
    let x := listAt s.fio d {}
    { x with lost := (s.die d).dio, lostCodes := (s.die d).aout }) }

/-- Is output channel `c` held by a rank (R406)? -/
def State.dioHeld (s : State) (c : Nat) : Bool :=
  decide (s.rank (c / 24) ≤ 2) || (s.rank (c / 24) == 3 && s.cv C_DIO_HOSTLOST c != 2)

/-- Is analogue output `k` held by a rank (R406, R411)? -/
def State.aoutHeld (s : State) (k : Nat) : Bool :=
  decide (s.rank (k / 4) ≤ 2) || (s.rank (k / 4) == 3 && s.cv C_AOUT_HOSTLOST k != 2)

/-- Die `d` enters safe state (R25, R406): the levels commanded at entry are kept for SAFE 2. -/
def State.enterSafe (s : State) (d : Nat) : State :=
  if (s.die d).safe then s
  else (s.dieM d (fun x => { x with safe := true, safeAt := s.clk.el, held := x.dio })).outRefresh d

/-- FIO_OUT and FIO_AOUTVAL at their image values, CH.DIR from the records (R414, R416). -/
def State.fioInit (s : State) (d : Nat) : State :=
  let bits := ((List.range 24).map (fun i => if s.cv C_DIO_INIT (24 * d + i) = 1 then 2 ^ i else 0)).sum
  let s1 := s.wrij FIO_OUT_ON 0 d bits
  let s2 := (List.range 24).foldl (fun t i => t.wrij FIO_CH_DIR i d (s.cv C_DIO_DIR (24 * d + i))) s1
  let s3 := (List.range 4).foldl (fun t j => t.wrij FIO_AOUTVAL_X j d (s.cv C_AOUT_INIT (4 * d + j))) s2
  s3.fioM d (fun _ => {})

/-- A cause of channel `i` whose condition is still present sets again: a hot switch, a broken wire, a tripped bank
(R414); the open-load timer starts afresh. -/
def State.fioAgain (s : State) (d i : Nat) : State :=
  let s1 := s.wrij FIO_CH_OL i d 0
  let s2 := if s1.rdij FIO_CH_TH_OFF i d = 1 then s1.fioLatch FIO_F_TH_CH d i 2 else s1
  let s3 := if s2.rdij FIO_CH_WB i d = 1 then s2.fioLatch FIO_F_WB_CH d i 5 else s2
  if s3.rdij FIO_VBANK_UV (i / 8) d = 1 && s3.dioOut d i then s3.fioLatch FIO_F_UV_CH d i 6 else s3

/-- The latches of the analogue outputs whose faults are still present set again (R414). -/
def State.aoutAgain (s : State) (d : Nat) : State :=
  (List.range 4).foldl (fun t j =>
    let w := t.rdij FIO_AOUTSTAT_OPEN_WIRE j d == 1
    let o := t.rdij FIO_AOUTSTAT_OVERLOAD j d == 1
    let t1 := if w then t.wrij FIO_AOUTSTAT_OPEN_WIRE_L j d 1 else t
    let t2 := if o then t1.wrij FIO_AOUTSTAT_OVERLOAD_L j d 1 else t1
    (t2.raiseIf (w || o) (23 + d) 9).fioFault d) s

/-- Unit reset of FIO0 or FIO1 (R414): image values, causes cleared; conditions still present set them again. -/
def State.fioReset (s : State) (d : Nat) : State :=
  let s1 := s.fioInit d
  let s2 := (List.range 6).foldl (fun t k => t.causeClear d k 0xFFFFFF) s1
  let s3 := (List.range 4).foldl (fun t j => t.aoutClear d j 0xC0000000) s2
  ((List.range 24).foldl (fun t i => t.fioAgain d i) s3).aoutAgain d |>.outRefresh d

/-- FIELD_DIE_SUPPLY_LOSS (R395): the die's configuration, safe states and standby registers are lost; on
return every channel is an input and every output is off. -/
def execFieldDieSupplyLoss (die : Fin 2) (s : State) : Host.Outcome State Fault Refusal :=
  if s.diePresent die then
    let s1 := (List.range 24).foldl (fun t i => t.wrij FIO_CH_DIR i die 0) s
    ok ((s1.dieM die (fun _ => { lastFrame := s.clk.el, safeAt := s.clk.el })).outRefresh die)
  else ok s

end Sys2Proof.Machine
end

