-- ==== Sys2Proof/Machine/Afe.lean ====
section
/-! DEFINITION. Sensor front end: scan sequencer, precision and fast results, charge amplifiers, moisture sweeps,
cable scans, calibration (spec/09_sensor_front_end.md). -/

namespace Sys2Proof.Machine

open Sys2Proof

/-! ## State parts -/

/-- Change the front end of die `d`. -/
def State.afeM (s : State) (d : Nat) (f : AfeDie → AfeDie) : State := { s with afe := listMod s.afe d f }

/-- The front end of die `d`. -/
def State.afeD (s : State) (d : Nat) : AfeDie := listAt s.afe d {}

/-- Change channel `i` of die `d`. -/
def State.afeChM (s : State) (d i : Nat) (f : AfeChan → AfeChan) : State :=
  s.afeM d (fun x => { x with chans := listMod x.chans i f })

/-- Channel `i` of die `d`. -/
def State.afeCh (s : State) (d i : Nat) : AfeChan := listAt (s.afeD d).chans i {}

/-- Change precision ADC `a` of die `d`. -/
def State.adcM (s : State) (d a : Nat) (f : AfeAdc → AfeAdc) : State :=
  s.afeM d (fun x => { x with adcs := listMod x.adcs a f })

/-- Precision ADC `a` of die `d`. -/
def State.adc (s : State) (d a : Nat) : AfeAdc := listAt (s.afeD d).adcs a {}

/-- Change fast path `j` of die `d`. -/
def State.pathM (s : State) (d j : Nat) (f : AfePath → AfePath) : State :=
  s.afeM d (fun x => { x with paths := listMod x.paths j f })

/-- Fast path `j` of die `d`. -/
def State.path (s : State) (d j : Nat) : AfePath := listAt (s.afeD d).paths j {}

/-- The committed CHANNEL record of local channel `i` of die `d`. -/
def State.chanRec (s : State) (d i : Nat) : Option CfgRec := s.crec C_CHANNEL_CHANNEL (16 * d + i)

/-- A field of that record, with its default. -/
def State.chanV (s : State) (d i : Nat) (c : CRef) : Nat := s.cv c (16 * d + i)

/-- Is the channel enabled? -/
def State.chanEn (s : State) (d i : Nat) : Bool := bitAt (s.rdij AFE_CTRL_EN 0 d) i && (s.chanRec d i).isSome

/-- Is the channel measured by a precision ADC (R304)? -/
def precisionMode (m : Nat) : Bool := m == 1 || m == 3 || m == 4 || m == 5 || m == 8

/-- Do results of die `d` reach the core (R324)? -/
def State.afeLink (s : State) (d : Nat) : Bool :=
  s.diePresent d && s.rdi CHN_STAT_TRAINED d == 1 && s.rdi CHN_STAT_LOST d == 0

/-- The data period of a RATE code in ns (R313). -/
def ratePeriod (r : Nat) : Nat :=
  listAt [31250, 62500, 125000, 250000, 500000, 1000000, 2000000, 4000000, 10000000, 20000000, 100000000] r 20000000

/-- The FAST record of path `j` of die `d` (R331). -/
def State.fastRec (s : State) (d j : Nat) : Option CfgRec :=
  s.loader.recs.find? (fun r => r.sect == 0x30 && r.kind == 1 && r.v C_FAST_CHANNEL / 16 == d && r.v C_FAST_PATH == j)

/-! ## Settling and counters -/

/-- The settling counter of a channel restarts (R320). -/
def State.settleStart (s : State) (d i : Nat) : State :=
  (s.afeChM d i (fun x => { x with settleTill := s.clk.el + s.chanV d i C_CHANNEL_SETTLE * 1000 })).wrij AFE_STAT_SETTLING 0 d
    (setBit (s.rdij AFE_STAT_SETTLING 0 d) i true)

/-- Is the settling counter running? -/
def State.settling (s : State) (d i : Nat) : Bool := bitAt (s.rdij AFE_STAT_SETTLING 0 d) i

/-- AFE_CHSTAT.SETTLE: what is left of the settling counter, in µs. -/
def State.settleLeft (s : State) (d i : Nat) : Nat :=
  if s.settling d i then min ((s.afeCh d i).settleTill - s.clk.el) 1048575000 / 1000 else 0

/-- `n` missed instances of channel `i` (R310, R314). -/
def State.scanLate (s : State) (d i n : Nat) : State :=
  if n = 0 then s
  else ((s.wrij AFE_SCANLATE_LAST 0 d i).incij AFE_SCANLATE_COUNT 0 d n).raiseIf
    (decide (s.rdij AFE_SCANLATE_COUNT 0 d < 0xFFFFFFF)) (21 + d) 13

/-- A result count goes up with its event. -/
def State.afeCount (s : State) (f : Fld) (d i evt : Nat) (c : Bool) : State :=
  if c then (s.incij f i d 1).raiseIf (decide (s.rdij f i d < 255)) (21 + d) evt else s

/-- A result of a channel (R320, R321): last value and flags, counts, and whether it is produced. A result that falls in
chain silence is lost (R324). -/
def State.afeTake (s : State) (d i val flags : Nat) : Bool × State :=
  if !s.afeLink d then (false, s)
  else
    let s1 := (s.wrij AFE_CHVAL_VALUE i d val).wrij AFE_CHSTAT_FLAGS i d flags
    let s2 := ((s1.afeCount AFE_CNT_OVER d i 0 (bitAt flags 2)).afeCount AFE_CNT_OPEN d i 1 (bitAt flags 3)).afeCount
      AFE_CNT_LOOPFAULT d i 2 (bitAt flags 4)
    if bitAt flags 5 || (bitAt flags 0 && s.chanV d i C_CHANNEL_PASS_UNSETTLED == 0) then
      (false, s2.incij AFE_CNT_DROPPED i d 1)
    else (true, s2)

/-- A result of a channel that is one sample on its endpoint. -/
def State.afeSample (s : State) (d i val flags stamp : Nat) : State :=
  let (go, s1) := s.afeTake d i val flags
  if go then s1.sample d (208 + 16 * d + i) val 0 stamp else s1

/-! ## Sources (R302, R303, R305) -/

/-- Sources that a channel claims: its own, and side B of the pair with LEADCOMP 1 (R305, R331). -/
def chanSources (r : CfgRec) : List Nat :=
  let k := r.v C_CHANNEL_SOURCE
  if 8 ≤ k || r.v C_CHANNEL_MODE == 5 then []
  else if r.v C_CHANNEL_MODE == 4 && r.v C_CHANNEL_WIRES == 3 && r.v C_CHANNEL_LEADCOMP == 1 then [k / 2 * 2, k / 2 * 2 + 1]
  else if r.v C_CHANNEL_MODE == 8 && r.v C_CHANNEL_LEADCOMP == 1 then [k / 2 * 2, k / 2 * 2 + 1]
  else [k]

/-- Phases of a measurement (R305): M, then L for 3-wire without LEADCOMP; twice each with REVERSE. -/
def phaseCount (r : CfgRec) : Nat :=
  let m := r.v C_CHANNEL_MODE
  if m == 4 || m == 8 then
    (if r.v C_CHANNEL_WIRES == 3 && r.v C_CHANNEL_LEADCOMP == 0 then 2 else 1) * (if r.v C_CHANNEL_REVERSE == 1 then 2 else 1)
  else 1

/-- The pin that a source drives in a phase (R305): X for 4-wire and for side B, else P; R when reversed. -/
def sourcePin (r : CfgRec) (phase : Nat) (side : Nat) : Nat :=
  if r.v C_CHANNEL_REVERSE == 1 && phase % 2 == 1 then r.v C_CHANNEL_PIN_R
  else if side == 1 || (r.v C_CHANNEL_MODE == 4 && r.v C_CHANNEL_WIRES == 4) then r.v C_CHANNEL_PIN_X
  else r.v C_CHANNEL_CHANNEL % 16

/-- The sources of a channel are on for a phase. -/
def State.srcOn (s : State) (d : Nat) (r : CfgRec) (phase : Nat) : State :=
  ((chanSources r).zipIdx).foldl (fun t p =>
    (t.wrij AFE_SRC_ON p.1 d 1).wrij AFE_SRC_PIN p.1 d (sourcePin r phase p.2)) s

/-- The sources of a channel are off. -/
def State.srcOff (s : State) (d : Nat) (r : CfgRec) : State :=
  (chanSources r).foldl (fun t k => t.wrij AFE_SRC_ON k d 0) s

/-! ## The scan sequencer (R314, R315) -/

/-- Is channel `i` due on precision ADC `a`? -/
def State.chanDue (s : State) (d a i : Nat) : Bool :=
  s.chanEn d i && precisionMode (s.chanV d i C_CHANNEL_MODE) && s.chanV d i C_CHANNEL_ADC == a &&
    (s.chanV d i C_CHANNEL_INTERVAL == 0 || (s.afeCh d i).due)

/-- The due channels of an ADC in ascending order. -/
def State.dueList (s : State) (d a : Nat) : List Nat := (List.range 16).filter (s.chanDue d a)

/-- Does the ADC convert channel `i` continuously (R315)? -/
def State.continuous (s : State) (d a i : Nat) : Bool :=
  s.dueList d a == [i] && s.chanV d i C_CHANNEL_INTERVAL == 0 &&
    (match s.chanRec d i with
    | some r => phaseCount r == 1 && r.v C_CHANNEL_MODE != 8
    | none => false)

/-- The gain that a channel asks for (R317). -/
def State.gainWanted (s : State) (d i : Nat) : Nat :=
  if s.chanV d i C_CHANNEL_GAIN = 0xFF then (s.afeCh d i).want else s.rdij AFE_RANGE_GAIN i d

/-- A conversion starts (R317): the gain wanted comes into force and the filter starts afresh, 3 data periods. -/
def State.convStart (s : State) (d a i : Nat) : State :=
  let g := s.gainWanted d i
  let s1 := if g = (s.afeCh d i).gain then s
    else (s.afeChM d i (fun x => { x with gain := g, chg := true })).wrij AFE_CHSTAT_GAIN i d g
  let till := s.clk.el + 3 * ratePeriod (s.chanV d i C_CHANNEL_RATE)
  s1.adcM d a (fun x => { x with run := x.run.map (fun y => { y with stage := .conv, till := till }) })

/-- A visit of channel `i` begins (R309, R314, R315). -/
def State.visit (s : State) (d a i : Nat) (r : CfgRec) : State :=
  let s1 := s.wrij (if a = 0 then AFE_STAT_ADC0_CH else AFE_STAT_ADC1_CH) 0 d i
  if r.v C_CHANNEL_MODE = 8 then
    let till := s.clk.el + s.cv C_CABLE_RESET_MS (16 * d + i) * 1000000
    let run : AdcRun := { ch := i, stage := .reset, till := till, t0 := s.clk.now, cont := false }
    (s1.srcOff d r).adcM d a (fun x => { x with run := some run })
  else
    let cont := s.continuous d a i
    let run : AdcRun := { ch := i, stage := .settle, till := 0, t0 := s.clk.now, cont := cont }
    let s2 := ((s1.srcOn d r 0).settleStart d i).adcM d a (fun x => { x with run := some run })
    if cont then s2.convStart d a i else s2

/-- An idle ADC takes its next due channel: ascending, then again from the lowest (R314). -/
def State.adcNext (s : State) (d a : Nat) : State :=
  let x := s.adc d a
  if x.run.isSome || x.calWait || x.calTill.isSome || !s.afeLink d then s
  else
    let due := s.dueList d a
    match ((due.filter (fun i => decide (x.last ≤ i))) ++ due).head? with
    | none => s
    | some i =>
      match s.chanRec d i with
      | some r => s.visit d a i r
      | none => s

/-- A visit ends: sources off, the channel served, the next one begins. -/
def State.visitEnd (s : State) (d a i : Nat) (r : CfgRec) : State :=
  (((s.srcOff d r).afeChM d i (fun x => { x with due := false })).adcM d a (fun x => { x with
    run := none, last := i + 1 })).adcNext d a

/-! ## Precision results -/

/-- The reading of a code (R304 to R306, R313): volts at the pins with REF 0, else the ratio to the reference. -/
def adcReading (r : CfgRec) (gain : Nat) (code : Int) : FV :=
  let n : FV := .fin (decide (code < 0)) (code.natAbs * (if r.v C_CHANNEL_ATTEN = 1 then 4 else 1)) (-23 - (gain : Int))
  if r.v C_CHANNEL_REF = 1 then n.rnd f32 else FV.mul f32 n (.fin false 5 (-1))

/-- Ohms per unit of v (R306): the calibrated current with REF 0, the reference resistor with REF 1. -/
def State.ohmScale (s : State) (d : Nat) (r : CfgRec) : FV :=
  if r.v C_CHANNEL_REF = 1 then ofB32 (s.cv C_DIE_RREF d)
  else FV.div f32 (FV.ofInt 1) ((FV.ofInt (s.rdij AFE_SRC_CAL_NA (r.v C_CHANNEL_SOURCE) d)).div f32 (FV.ofInt 1000000000))

/-- v_m and v_l of the readings of a measurement (R305): REVERSE belongs to MODES 4 and 8. -/
def phaseValues (r : CfgRec) (got : List Nat) : FV × FV :=
  let g (k : Nat) : FV := ofB32 (listAt got k 0)
  if r.v C_CHANNEL_REVERSE = 1 && (r.v C_CHANNEL_MODE == 4 || r.v C_CHANNEL_MODE == 8) then
    let h (k : Nat) : FV := FV.mul f32 (FV.sub f32 (g k) (g (k + 1))) (.fin false 1 (-1))
    (h 0, h 2)
  else (g 0, g 1)

/-- The resistance (R306). -/
def resistance (r : CfgRec) (scale vm vl : FV) : FV :=
  match r.v C_CHANNEL_WIRES with
  | 2 => FV.sub f32 (FV.mul f32 vm scale) (ofB32 (r.v C_CHANNEL_LEAD_OHM))
  | 3 =>
    if r.v C_CHANNEL_LEADCOMP = 0 then FV.mul f32 (FV.sub f32 vm vl) scale else FV.mul f32 vm scale
  | _ => FV.mul f32 vm scale

/-- The value of a precision measurement outside MODE 8 (R304). With REF 1 a voltage is the ratio times the reference
`aref`. -/
def State.precisionValue (s : State) (d : Nat) (r : CfgRec) (aref : Nat) (got : List Nat) : FV :=
  let vm := (phaseValues r got).1
  let volts := if r.v C_CHANNEL_REF = 1 then FV.mul f32 vm (ofB32 aref) else vm
  match r.v C_CHANNEL_MODE with
  | 3 => FV.div f32 (FV.mul f32 volts (FV.ofInt 1000)) (ofB32 (r.v C_CHANNEL_SHUNT))
  | 4 => resistance r (s.ohmScale d r) vm (phaseValues r got).2
  | 5 => FV.mul f32 (FV.ofInt 1000) vm
  | _ => volts

/-- Autoranging after a result (R317). -/
def autorange (x : AfeChan) (mag : Nat) (ovr : Bool) : AfeChan :=
  if ovr then { x with want := 0, low := 0 }
  else if 9 * 2 ^ 23 < 10 * mag then { x with want := x.gain - 1, low := 0 }
  else if 5 * mag < 2 ^ 23 then
    (if x.low = 3 then { x with want := min 7 (x.gain + 1), low := 0 } else { x with low := x.low + 1 })
  else { x with low := 0 }

/-- Flags that a run gives its result (R321), beside those of the value. -/
def State.runFlags (s : State) (d : Nat) (run : AdcRun) : Nat :=
  b2n (s.settling d run.ch && run.cont) + 2 * b2n (s.afeCh d run.ch).chg + 4 * b2n run.sat + 8 * b2n run.opened

/-- The result's gain bookkeeping (R317). -/
def State.rangeDone (s : State) (d : Nat) (run : AdcRun) : State :=
  s.afeChM d run.ch (fun x => autorange { x with chg := false } run.mag run.sat)

/-- Word `w` of cable block `i` of die `d`. -/
def cableWord (d i w : Nat) : Nat := AFE_CABLEBLK_WORD.addr w i + 0x10000 * (d % 2)

/-- The block of a cable scan is written, its element produced, its event raised (R309). -/
def State.cableSend (s : State) (d i seq mask val fmt : Nat) (run : AdcRun) : State :=
  let t1 := (s.setReg (cableWord d i 0) seq).setReg (cableWord d i 1) mask
  let t2 := (t1.setReg (cableWord d i 2) (run.t0 % 2 ^ 32)).setReg (cableWord d i 3) (run.t0 / 2 ^ 32)
  let t3 := (List.range 32).foldl (fun u p =>
    (u.setReg (cableWord d i (4 + p)) (listAt run.res p (0, 0, false)).1).setReg (cableWord d i (36 + p))
      (listAt run.res p (0, 0, false)).2.1) t2
  ((t3.setReg (cableWord d i 68) seq).produce (208 + 16 * d + i) val fmt run.t0).raise (21 + d) 12

/-- A cable scan ends (R309): the block is written, the element produced. -/
def State.cableDone (s : State) (d a : Nat) (r : CfgRec) (run : AdcRun) : State :=
  let i := run.ch
  let seq := (s.reg (cableWord d i 0) + 1) % 2 ^ 32
  let mask := (run.res.zipIdx.map (fun p => if p.1.2.2 then 2 ^ p.2 else 0)).sum
  let shut := (run.res.filter (fun p => !p.2.2)).map (fun p => ofB32 p.1)
  let out := s.cv C_CABLE_OUT (16 * d + i)
  let val := match out, shut with
    | 0, _ => seq
    | _, [] => qNaN32
    | k, x :: t => toB32 (t.foldl (fun b y => if k = 1 then b.maxV y else b.minV y) x)
  let run2 : AdcRun := { run with opened := run.res.any (fun p => p.2.2) }
  let flags := s.runFlags d run2
  let (go, s1) := s.afeTake d i val flags
  let s2 := if go then s1.cableSend d i seq mask val (if out = 0 then 2 else 0) run else s1
  (s2.rangeDone d run).visitEnd d a i r

/-- A measurement outside MODE 8 ends (R304, R307, R322). -/
def State.resultDone (s : State) (d a : Nat) (r : CfgRec) (run : AdcRun) (aref : Nat) : State :=
  let i := run.ch
  let v := s.precisionValue d r aref run.got
  let fault := r.v C_CHANNEL_MODE == 3 && !run.opened &&
    (v.lt (FV.dec f32 36 1) || (FV.dec f32 210 1).lt v)
  let flags := s.runFlags d run + 16 * b2n fault
  let val := if run.opened then qNaN32 else toB32 v
  let stamp := run.stamps.sum / max 1 run.stamps.length
  let s1 := (s.afeSample d i val flags stamp).rangeDone d run
  if run.cont && s1.continuous d a i && !(s1.adc d a).calWait then
    let next : AdcRun := { run with
      till := run.till + ratePeriod (r.v C_CHANNEL_RATE), got := [], stamps := [], mag := 0, sat := false, opened := false }
    let s2 := s1.adcM d a (fun x => { x with run := some next })
    if s1.gainWanted d i = (s1.afeCh d i).gain then s2 else s2.convStart d a i
  else s1.visitEnd d a i r

/-- After a conversion: the next phase, the next position, or the end of the measurement (R305, R309). -/
def State.convNext (s : State) (d a : Nat) (r : CfgRec) (run : AdcRun) (aref : Nat) : State :=
  let i := run.ch
  if run.got.length < phaseCount r then
    let s1 := s.adcM d a (fun x => { x with run := some { run with stage := .settle } })
    if r.v C_CHANNEL_MODE = 8 then s1.convStart d a i
    else (s1.srcOn d r run.got.length).settleStart d i
  else if r.v C_CHANNEL_MODE = 8 then
    let sc := s.ohmScale d r
    let v := phaseValues r run.got
    let res := if run.opened then qNaN32 else toB32 (resistance r sc v.1 v.2)
    let lead := toB32 (FV.mul f32 v.2 sc)
    let done : AdcRun := { run with res := run.res ++ [(res, lead, run.opened)] }
    if run.pos + 1 < s.cv C_CABLE_POSITIONS (16 * d + i) then
      let till := s.clk.el + s.cv C_CABLE_STEP_US (16 * d + i) * 1000
      let next : AdcRun := { done with
        stage := .pulse, till := till, pos := run.pos + 1, got := [], stamps := [], opened := false }
      s.adcM d a (fun x => { x with run := some next })
    else s.cableDone d a r done
  else s.resultDone d a r run aref

/-- PRECISION_RESULT (R303 to R307, R309, R317, R322): the conversion in progress on an ADC completes with `code`;
`comply` when its source reached compliance. -/
def execPrecisionResult (die adc : Fin 2) (code : BitVec 24) (aref : Nat) (comply : Bool) (s : State) :
    Host.Outcome State Fault Refusal := s.powered <|
  let d := die.val
  let a := adc.val
  match (s.adc d a).run with
  | none => ok s
  | some run =>
    match s.chanRec d run.ch with
    | none => ok s
    | some r =>
      if run.stage == .conv && decide (run.till ≤ s.clk.el) then
        let c := code.toInt
        let lim := c == 8388607 || c == -8388608
        let src := chanSources r
        let hit := comply && !src.isEmpty
        let s1 := (src.foldl (fun t k => t.wrij AFE_SRC_COMPLIANCE k d (b2n comply)) s).raiseIf hit (21 + d) 3
        let stamp := (run.till - 3 * ratePeriod (r.v C_CHANNEL_RATE) / 2) / 10
        let got := run.got ++ [toB32 (adcReading r (s.afeCh d run.ch).gain c)]
        let stamps := run.stamps ++ [stamp]
        let next : AdcRun := { run with
          got := got, stamps := stamps, mag := max run.mag c.natAbs, sat := run.sat || lim, opened := run.opened || hit }
        ok (s1.convNext d a r next aref)
      else ok s

/-! ## Moisture sweeps (R310, R311) -/

/-- The channel of fast path `j` of die `d` with its CHANNEL record, when it is enabled. -/
def State.pathChan (s : State) (d j : Nat) : Option (Nat × CfgRec × CfgRec) :=
  match s.fastRec d j with
  | none => none
  | some f =>
    let i := f.v C_FAST_CHANNEL % 16
    match s.chanRec d i with
    | some r => if s.chanEn d i then some (i, f, r) else none
    | none => none

/-- Is a sweep due on path `j`? -/
def State.sweepWaits (s : State) (d j : Nat) : Bool :=
  ((s.path d j).wait || (s.path d j).refWait) &&
    (match s.pathChan d j with
    | some (_, _, r) => r.v C_CHANNEL_MODE == 7
    | none => false)

/-- An idle sine generator takes its next waiting sweep, a reference sweep first where one precedes it. -/
def State.sineNext (s : State) (d : Nat) : State :=
  if (s.afeD d).sine.isSome || !s.afeLink d then s
  else
    let w := (List.range 4).filter (s.sweepWaits d)
    match ((w.filter (fun j => decide ((s.afeD d).lastSweep ≤ j))) ++ w).head? with
    | none => s
    | some j =>
      match s.pathChan d j with
      | none => s
      | some (i, _, _) =>
        let p := s.path d j
        let every := s.cv C_SWEEP_REFCAL (16 * d + i)
        let ref := p.refWait || (every != 0 && (p.sweeps + 1) % every == 0 && !p.refSince)
        let run : SineRun := { path := j, isRef := ref }
        (((s.afeM d (fun x => { x with sine := some run })).settleStart d i).wrij AFE_STAT_SINE_BUSY 0 d 1).wrij
          AFE_STAT_SINE_PATH 0 d j

/-- Frequency `k` of a channel's sweep, in Hz. -/
def State.sweepFreq (s : State) (d i k : Nat) : Nat :=
  s.cv (listAt [C_SWEEP_F0, C_SWEEP_F1, C_SWEEP_F2, C_SWEEP_F3, C_SWEEP_F4, C_SWEEP_F5, C_SWEEP_F6, C_SWEEP_F7] k C_SWEEP_F0)
    (16 * d + i)

/-- The dwell in ns: DWELL rounded up to whole cycles (R310). -/
def State.dwellNs (s : State) (d i k : Nat) : Nat :=
  let f := max 1 (s.sweepFreq d i k)
  let cycles := (s.cv C_SWEEP_DWELL (16 * d + i) * f + 999999) / 1000000
  (cycles * 1000000000 + f - 1) / f

/-- A channel starts its dwell when its settling counter has run out. -/
def State.dwellStart (s : State) (d i : Nat) : State :=
  match (s.afeD d).sine with
  | none => s
  | some run =>
    match s.pathChan d run.path with
    | some (c, _, _) =>
      if c = i && run.till.isNone then
        let next : SineRun := { run with till := some (s.clk.el + s.dwellNs d i run.k), start := s.clk.now }
        s.afeM d (fun x => { x with sine := some next })
      else s
    | none => s

/-- Complex product in binary32. -/
def cmul (x y : FV × FV) : FV × FV :=
  (FV.sub f32 (FV.mul f32 x.1 y.1) (FV.mul f32 x.2 y.2), FV.add f32 (FV.mul f32 x.1 y.2) (FV.mul f32 x.2 y.1))

/-- Complex quotient in binary32. -/
def cdiv (x y : FV × FV) : FV × FV :=
  let den := FV.add f32 (FV.mul f32 y.1 y.1) (FV.mul f32 y.2 y.2)
  ((FV.add f32 (FV.mul f32 x.1 y.1) (FV.mul f32 x.2 y.2)).div f32 den,
   (FV.sub f32 (FV.mul f32 x.2 y.1) (FV.mul f32 x.1 y.2)).div f32 den)

/-- The feedback capacitance of a CF code in pF, binary32 (R331). -/
def cfPf (code : Nat) : FV :=
  FV.dec f32 (listAt [10, 22, 47, 100, 220, 470, 1000, 2200, 4700, 10000] code 1000) 1

/-- Angular frequency in binary32. -/
def omega (f : Nat) : FV := FV.mul f32 (ofB32 0x40C90FDB) (FV.ofInt f)

/-- y_raw (R311), from left to right. -/
def yRaw (f : Nat) (cf : FV) (z v : FV × FV) : FV × FV :=
  let wc := FV.mul f32 (omega f) (FV.mul f32 cf (FV.dec f32 1 12))
  cdiv (FV.mul f32 wc z.2, (FV.mul f32 wc z.1).neg) v

/-- Word `w` of sweep block `j` of die `d`. -/
def sweepWord (d j w : Nat) : Nat := AFE_SWEEPBLK_WORD.addr w j + 0x10000 * (d % 2)

/-- The block of a moisture sweep is written, its element produced, its event raised (R311). -/
def State.sweepSend (s : State) (d i seq time : Nat) (run : SineRun) : State :=
  let j := run.path
  let fl := run.flags + 256 * b2n (s.path d j).refSince + 65536 * run.ys.length
  let t1 := (s.setReg (sweepWord d j 0) seq).setReg (sweepWord d j 1) fl
  let t2 := (t1.setReg (sweepWord d j 2) (time % 2 ^ 32)).setReg (sweepWord d j 3) (time / 2 ^ 32)
  let t3 := (List.range 8).foldl (fun u k =>
    (u.setReg (sweepWord d j (4 + 2 * k)) (listAt run.ys k (0, 0)).1).setReg (sweepWord d j (5 + 2 * k))
      (listAt run.ys k (0, 0)).2) t2
  ((t3.setReg (sweepWord d j 20) seq).produce (208 + 16 * d + i) seq 2 time).raise (21 + d) (8 + j)

/-- A moisture sweep is complete (R311): the block, the event and the element. -/
def State.sweepDone (s : State) (d i : Nat) (run : SineRun) : State :=
  let j := run.path
  let seq := (s.reg (sweepWord d j 0) + 1) % 2 ^ 32
  let time := run.centres.sum / max 1 run.centres.length
  let (go, s1) := s.afeTake d i seq run.flags
  let s2 := if go then s1.sweepSend d i seq time run else s1
  s2.pathM d j (fun x => { x with
    wait := s.chanV d i C_CHANNEL_INTERVAL == 0, refSince := false, sweeps := x.sweeps + 1 })

/-- DWELL_END (R311): the dwell ends with demodulated output `z` and drive phasor `v` (binary32 parts). -/
def execDwellEnd (die : Fin 2) (z v : Nat × Nat) (ovr : Bool) (s : State) : Host.Outcome State Fault Refusal := s.powered <|
  let d := die.val
  match (s.afeD d).sine with
  | none => ok s
  | some run =>
    match s.pathChan d run.path, run.till with
    | some (i, f, _), some till =>
      if s.clk.el < till then ok s
      else
        let hz := s.sweepFreq d i run.k
        let y := yRaw hz (cfPf (f.v C_FAST_CF)) (ofB32 z.1, ofB32 z.2) (ofB32 v.1, ofB32 v.2)
        let kc := listAt (s.path d run.path).k run.k (0x3F800000, 0)
        let ref := cdiv (FV.zero, FV.mul f32 (omega hz) (FV.dec f32 1 10)) y
        let w := if run.isRef then ref else cmul y (ofB32 kc.1, ofB32 kc.2)
        let ys := run.ys ++ [(toB32 w.1, toB32 w.2)]
        let centres := run.centres ++ [(run.start + s.clk.now) / 2]
        let next : SineRun := { run with
          k := run.k + 1, till := none, ys := ys, centres := centres, flags := run.flags ||| 4 * b2n ovr }
        if run.k + 1 < s.cv C_SWEEP_NFREQ (16 * d + i) then
          ok ((s.afeM d (fun x => { x with sine := some next })).settleStart d i)
        else
          let idle := ((s.afeM d (fun x => { x with
            sine := none, lastSweep := if run.isRef then run.path else run.path + 1 })).wrij AFE_STAT_SINE_BUSY 0 d 0)
          let fin := if run.isRef then
              idle.pathM d run.path (fun x => { x with
                refWait := false, refSince := true, k := ys ++ x.k.drop ys.length })
            else idle.sweepDone d i next
          ok (fin.sineNext d)
    | _, _ => ok s

/-- SWEEP (R310, R328): a write of AFE_CMD.SWEEP; ignored for a path without a moisture channel, while that path's
sweep runs, and while it already waits. -/
def execSweep (die : Fin 2) (mask : BitVec 4) (s : State) : Host.Outcome State Fault Refusal := s.powered <|
  let d := die.val
  let runs (t : State) (j : Nat) : Bool :=
    match (t.afeD d).sine with
    | some r => r.path == j
    | none => false
  ok (((List.range 4).foldl (fun t j =>
    match t.pathChan d j with
    | some (_, _, r) =>
      if bitAt mask.toNat j && r.v C_CHANNEL_MODE == 7 && !runs t j then t.pathM d j (fun x => { x with wait := true }) else t
    | none => t) s).sineNext d)

/-! ## Due channels and settling -/

/-- Path of a fast channel. -/
def State.chanPath (s : State) (d i : Nat) : Nat := s.cv C_FAST_PATH (16 * d + i)

/-- CHANNEL_DUE (R310, R314): the channel is due at multiples of INTERVAL, always with INTERVAL 0; instances that
came before it was served are missed. -/
def execChannelDue (ch : Fin 32) (s : State) : Host.Outcome State Fault Refusal := s.powered <|
  let d := ch.val / 16
  let i := ch.val % 16
  let mode := s.chanV d i C_CHANNEL_MODE
  let adc := s.chanV d i C_CHANNEL_ADC
  let t := s.chanV d i C_CHANNEL_INTERVAL * 1000000
  if !s.diePresent d || !s.chanEn d i then ok s
  else
    let ix := if t = 0 then 0 else s.clk.now / t
    let n := if t = 0 then 0 else ix - (s.afeCh d i).dueIx
    if t != 0 && n == 0 then ok s
    else if precisionMode mode then
      let missed := n - 1 + b2n ((s.afeCh d i).due && n != 0)
      ok (((s.afeChM d i (fun x => { x with due := true, dueIx := ix })).scanLate d i missed).adcNext d adc)
    else if mode = 7 then
      let j := s.chanPath d i
      let missed := n - 1 + b2n ((s.path d j).wait && n != 0)
      ok ((((s.afeChM d i (fun x => { x with dueIx := ix })).pathM d j (fun x => { x with wait := true })).scanLate
        d i missed).sineNext d)
    else ok s

/-- SETTLING_EXPIRY (R320): the counter has run out; conversions or the dwell that waited for it start. -/
def execSettlingExpiry (ch : Fin 32) (s : State) : Host.Outcome State Fault Refusal := s.powered <|
  let d := ch.val / 16
  let i := ch.val % 16
  if !s.settling d i || decide (s.clk.el < (s.afeCh d i).settleTill) then ok s
  else
    let s1 := s.wrij AFE_STAT_SETTLING 0 d (setBit (s.rdij AFE_STAT_SETTLING 0 d) i false)
    let waits (t : State) (a : Nat) : Bool :=
      match (t.adc d a).run with
      | some r => r.ch == i && r.stage == .settle
      | none => false
    let s2 := (List.range 2).foldl (fun t a => if waits t a then t.convStart d a i else t) s1
    ok (s2.dwellStart d i)

/-- The ADC whose run on channel `i` is at a stage that has ended. -/
def State.stageDone (s : State) (d i : Nat) (g : AdcStage) : Option (Nat × AdcRun) :=
  (List.range 2).findSome? (fun a =>
    match (s.adc d a).run with
    | some r => if r.ch == i && r.stage == g && decide (r.till ≤ s.clk.el) then some (a, r) else none
    | none => none)

/-- A cable position is excited: the source at IEXC, settling restarts (R309). -/
def State.cableExcite (s : State) (d i a : Nat) (run : AdcRun) : State :=
  match s.chanRec d i with
  | some r => ((s.srcOn d r 0).adcM d a (fun x => { x with run := some { run with stage := .settle } })).settleStart d i
  | none => s

/-- CABLE_RESET_END (R309): the off time is over. -/
def execCableResetEnd (ch : Fin 32) (s : State) : Host.Outcome State Fault Refusal := s.powered <|
  match s.stageDone (ch.val / 16) (ch.val % 16) .reset with
  | some (a, run) => ok (s.cableExcite (ch.val / 16) (ch.val % 16) a run)
  | none => ok s

/-- STEP_PULSE_END (R308, R309): the multiplexer advances and the next position is excited. -/
def execStepPulseEnd (ch : Fin 32) (s : State) : Host.Outcome State Fault Refusal := s.powered <|
  match s.stageDone (ch.val / 16) (ch.val % 16) .pulse with
  | some (a, run) => ok (s.cableExcite (ch.val / 16) (ch.val % 16) a run)
  | none => ok s

/-! ## Fast paths and charge amplifiers (R312, R318, R319) -/

/-- The low-gain step in V (R318, R331). -/
def fastLsb (range : Nat) : FV :=
  FV.mul f32 (FV.dec f32 (listAt [1024, 256, 64] range 256) 2) (.fin false 1 (-15))

/-- RATIO as a number. -/
def fastRatio (code : Nat) : Nat := listAt [4, 16, 64] code 16

/-- The dual-gain choice (R318): chosen value, flags LOWGAIN and OVER, tracked match after the sample. -/
def fastChoose (f : CfgRec) (p : AfePath) (m : FV) (hi lo : Int) : FV × Nat × FV :=
  let r := fastRatio (f.v C_FAST_RATIO)
  let lsb := fastLsb (f.v C_FAST_LO_RANGE)
  let top := FV.mul f32 (ofB32 (f.v C_FAST_SWITCH_THR)) (FV.ofInt 32767)
  let high := (FV.ofInt hi.natAbs).le top
  let v := if high then FV.div f32 (FV.mul f32 (FV.ofInt (hi - p.offHi)) lsb) (FV.ofInt r)
    else FV.mul f32 (FV.mul f32 (FV.ofInt (lo - p.offLo)) lsb) m
  let ovr := decide (32767 ≤ lo) || decide (lo ≤ -32768)
  let track := decide (8192 ≤ hi.natAbs) && high && decide (256 ≤ (lo - p.offLo).natAbs)
  let ratio := FV.div f32 (FV.ofInt (hi - p.offHi)) (FV.ofInt (r * (lo - p.offLo)))
  let m2 := if track then FV.add f32 m (FV.mul f32 (FV.sub f32 ratio m) (.fin false 1 (-12))) else m
  (v, 64 * b2n (!high) + 4 * b2n ovr, m2)

/-- Is the low-gain magnitude above QRESET_THR (R312)? -/
def aboveThr (f : CfgRec) (lo : Nat) : Bool := (FV.mul f32 (ofB32 (f.v C_FAST_QRESET_THR)) (FV.ofInt 32768)).lt (FV.ofInt lo)

/-- A fast channel's value of a mean output voltage (R304, R312). -/
def fastValue (f r : CfgRec) (v : FV) : FV :=
  if r.v C_CHANNEL_MODE = 6 then
    let q := FV.mul f32 v (cfPf (f.v C_FAST_CF))
    if f.v C_FAST_INVERT = 1 then q else q.neg
  else v

/-- FAST_SAMPLE (R318, R319): both converters of a path sample. -/
def execFastSample (die : Fin 2) (path : Fin 4) (hi lo : BitVec 16) (s : State) : Host.Outcome State Fault Refusal := s.powered <|
  let d := die.val
  let j := path.val
  let p := s.path d j
  match s.pathChan d j with
  | none => ok s
  | some (i, f, r) =>
    if r.v C_CHANNEL_MODE = 7 || decide (s.clk.el < p.lastAt + 500) || !s.diePresent d then ok s
    else
      let (v, fl, m) := fastChoose f p (ofB32 (s.rdij AFE_GMATCH_M j d)) hi.toInt lo.toInt
      let inReset := p.rst.isSome || (match p.openAt with
        | some t => decide (s.clk.el < t + 2000)
        | none => false)
      let flags := p.flags ||| fl ||| b2n (s.settling d i) ||| 32 * b2n inReset
      let acc := if p.n = 0 then v else FV.add f32 (ofB32 p.acc) v
      let mag := lo.toInt.natAbs
      let above := if aboveThr f mag && p.rst.isNone then some (p.above.getD s.clk.el) else none
      let k := f.v C_FAST_DECIM
      let last := decide (k ≤ p.n + 1)
      let s1 := (s.wrij AFE_GMATCH_M j d (toB32 m)).pathM d j (fun x => { x with
        lastAt := s.clk.el
        lo := mag
        above := above
        acc := toB32 acc
        n := if last then 0 else p.n + 1
        flags := if last then 0 else flags
        stampSum := if last then 0 else p.stampSum + s.clk.el / 10 })
      if last then
        let val := toB32 (fastValue f r (FV.div f32 acc (FV.ofInt (p.n + 1))))
        let stamp := (p.stampSum + s.clk.el / 10) / (p.n + 1)
        ok (s1.afeSample d i val flags stamp)
      else ok s1

/-- A reset of charge amplifier `j` starts (R312, R328): counted once for one start. -/
def State.qStart (s : State) (d j : Nat) (thr : Bool) : State :=
  let dur := match s.fastRec d j with
    | some f => f.v C_FAST_QRESET_NS
    | none => C_FAST_QRESET_NS.dflt
  let same := match (s.path d j).rst with
    | some (t, _) => t == s.clk.el
    | none => false
  if same then s
  else
    let s1 := (s.incij AFE_QRESET_ALL j d 1).pathM d j (fun x => { x with
      rst := some (s.clk.el, s.clk.el + dur), above := none })
    if thr then (s1.incij AFE_QRESET_THRESHOLD j d 1).raise (21 + d) 7 else s1

/-- PERIODIC_CHARGE_RESET (R312): every QRESET_PERIOD; put off while the output is above 5 %, at most 1 ms. -/
def execPeriodicChargeReset (die : Fin 2) (path : Fin 4) (s : State) : Host.Outcome State Fault Refusal := s.powered <|
  let d := die.val
  let p := s.path d path
  match s.pathChan d path with
  | none => ok s
  | some (_, f, r) =>
    let due := p.perAt + f.v C_FAST_QRESET_PERIOD * 1000000
    if r.v C_CHANNEL_MODE != 6 || !bitAt (f.v C_FAST_QRESET_MODE) 0 || decide (s.clk.el < due) then ok s
    else if 32768 < 20 * p.lo && s.clk.el < due + 1000000 then ok s
    else ok ((s.pathM d path (fun x => { x with perAt := due })).qStart d path false)

/-- THRESHOLD_CHARGE_RESET (R312): above QRESET_THR for QRESET_DWELL without a break. -/
def execThresholdChargeReset (die : Fin 2) (path : Fin 4) (s : State) : Host.Outcome State Fault Refusal := s.powered <|
  let d := die.val
  match s.pathChan d path, (s.path d path).above with
  | some (_, f, r), some t =>
    if r.v C_CHANNEL_MODE == 6 && bitAt (f.v C_FAST_QRESET_MODE) 1 &&
      decide (t + f.v C_FAST_QRESET_DWELL * 1000 ≤ s.clk.el) then ok (s.qStart d path true)
    else ok s
  | _, _ => ok s

/-- QRESET (R312): a write of AFE_CMD.QRESET. -/
def execQreset (die : Fin 2) (mask : BitVec 4) (s : State) : Host.Outcome State Fault Refusal := s.powered <|
  if s.diePresent die then
    ok ((List.range 4).foldl (fun t j => if bitAt mask.toNat j then t.qStart die j false else t) s)
  else ok s

/-- CHARGE_RESET_END (R312): the switch opens. -/
def execChargeResetEnd (die : Fin 2) (path : Fin 4) (s : State) : Host.Outcome State Fault Refusal := s.powered <|
  match (s.path die path).rst with
  | some (_, t) =>
    if t ≤ s.clk.el then ok (s.pathM die path (fun x => { x with rst := none, openAt := some s.clk.el })) else ok s
  | none => ok s

/-! ## Calibration (R316) -/

/-- Sources of the channels that ADC `a` serves. -/
def State.adcSources (s : State) (d a : Nat) : List Nat :=
  ((List.range 16).flatMap (fun i =>
    match s.chanRec d i with
    | some r => if r.v C_CHANNEL_ADC = a then chanSources r else []
    | none => [])).dedup

/-- Do the two sides of each pair that LEADCOMP 1 uses match within 0.05 % (R327)? -/
def State.pairsMatch (s : State) (d a : Nat) (srcs : List Nat) : Bool :=
  (List.range 16).all (fun i =>
    match s.chanRec d i with
    | some r =>
      match chanSources r with
      | [x, y] =>
        let p := listAt srcs x 0
        let q := listAt srcs y 0
        r.v C_CHANNEL_ADC != a || decide ((max p q - min p q) * 2000 ≤ max p q)
      | _ => true
    | none => true)

/-- Is the result of a calibration inside the accuracy tables (R316, R326, R327)? -/
def State.calGood (s : State) (d a : Nat) (c : CalReading) : Bool :=
  decide (c.offset.natAbs ≤ 100000) && decide (c.gainErr.natAbs ≤ 800) && s.pairsMatch d a c.srcs

/-- CAL_BUSY follows the two ADCs. -/
def State.calBusy (s : State) (d : Nat) : State :=
  s.wrij AFE_STAT_CAL_BUSY 0 d (b2n ((s.adc d 0).calTill.isSome || (s.adc d 1).calTill.isSome))

/-- The result of a calibration is taken: source currents, offsets, and the gain match of a path that has none. -/
def State.calTake (s : State) (d a : Nat) (c : CalReading) : State :=
  let s1 := (s.adcSources d a).foldl (fun t k => t.wrij AFE_SRC_CAL_NA k d (listAt c.srcs k 0)) s
  (List.range 4).foldl (fun t j =>
    match c.fast[j]? with
    | some (oh, ol, m) =>
      let t1 := t.pathM d j (fun x => { x with offHi := oh, offLo := ol, fresh := false })
      if (t.path d j).fresh then t1.wrij AFE_GMATCH_M j d m else t1
    | none => t) s1

/-- CALIBRATION (R316): at commit, on CAL and every CAL_INTERVAL an ADC runs calibration phases at RATE 5 between two
visits; when they are over their result `res` is taken, or refused. -/
def execCalibration (die adc : Fin 2) (res : CalReading) (s : State) : Host.Outcome State Fault Refusal := s.powered <|
  let d := die.val
  let a := adc.val
  let x := s.adc d a
  let every := s.cv C_DIE_CAL_INTERVAL d
  if !s.diePresent d then ok s
  else
    match x.calTill with
    | some t =>
      if s.clk.el < t then ok s
      else
        let s1 := (s.adcM d a (fun y => { y with calTill := none, calAt := s.clk.el })).calBusy d
        let s2 := if s.calGood d a res then (s1.calTake d a res).raise (21 + d) 4 else s1.raise (21 + d) 5
        ok (s2.adcNext d a)
    | none =>
      if x.calWait || (every != 0 && decide (x.calAt + every * 1000000000 ≤ s.clk.el)) then
        let free := match x.run with
          | none => true
          | some r => r.cont
        if free then
          let till := s.clk.el + (2 + (s.adcSources d a).length) * 3000000
          ok ((s.adcM d a (fun y => { y with run := none, calWait := false, calTill := some till })).calBusy d)
        else ok (s.adcM d a (fun y => { y with calWait := true }))
      else ok s

/-- CAL (R316): a write of AFE_CMD.CAL. -/
def execCal (die : Fin 2) (s : State) : Host.Outcome State Fault Refusal := s.powered <|
  if s.diePresent die then
    ok ((List.range 2).foldl (fun t a => t.adcM die a (fun y => { y with calWait := true })) s)
  else ok s

/-- REF_OK_CHANGE (R329). -/
def execRefOkChange (die : Fin 2) (good : Bool) (s : State) : Host.Outcome State Fault Refusal := s.powered <|
  if s.diePresent die then
    ok ((s.wrij AFE_STAT_REF_OK 0 die (b2n good)).raiseIf (!good && s.rdij AFE_STAT_REF_OK 0 die == 1) (21 + die) 6)
  else ok s

/-! ## Enables, restart, configuration, amendment, step -/

/-- The sources of a fast channel are on while it converts, which is all the time (R302). -/
def State.fastSrcOn (s : State) (d i : Nat) : State :=
  match s.chanRec d i with
  | some r => if r.v C_CHANNEL_MODE = 2 || r.v C_CHANNEL_MODE = 6 then s.srcOn d r 0 else s
  | none => s

/-- A channel goes off (R328): what was due of it is dropped, and the sources of a fast channel go off. -/
def State.chanOff (s : State) (d i : Nat) : State :=
  let s1 := s.afeChM d i (fun x => { x with due := false })
  match s.chanRec d i with
  | some r =>
    if r.v C_CHANNEL_MODE = 2 || r.v C_CHANNEL_MODE = 6 then s1.srcOff d r
    else if r.v C_CHANNEL_MODE = 7 then s1.pathM d (s.chanPath d i) (fun x => { x with wait := false })
    else s1
  | none => s1

/-- A channel comes on (R310, R314, R320): it settles, and its due times count from now. -/
def State.chanOn (s : State) (d i : Nat) : State :=
  let t := s.chanV d i C_CHANNEL_INTERVAL * 1000000
  let s1 := s.afeChM d i (fun x => { x with dueIx := if t = 0 then x.dueIx else s.clk.now / t })
  let s2 := if s.chanV d i C_CHANNEL_MODE = 7 && t = 0 then
      s1.pathM d (s.chanPath d i) (fun x => { x with wait := true })
    else s1
  (s2.fastSrcOn d i).settleStart d i

/-- Scans, sweeps and cables restart from their first step and every settling counter restarts (R320, R324, R330). -/
def State.afeRestart (s : State) (d : Nat) : State :=
  let s0 := (List.range 8).foldl (fun t k => t.wrij AFE_SRC_ON k d 0) s
  let s1 := match (s.afeD d).sine with
    | some r => s0.pathM d r.path (fun x => { x with wait := x.wait || !r.isRef, refWait := x.refWait || r.isRef })
    | none => s0
  let s2 := (s1.afeM d (fun x => { x with sine := none, adcs := x.adcs.map (fun a => { a with run := none }) })).wrij
    AFE_STAT_SINE_BUSY 0 d 0
  let s3 := (List.range 16).foldl (fun t i => if t.chanEn d i then (t.fastSrcOn d i).settleStart d i else t) s2
  ((s3.adcNext d 0).adcNext d 1).sineNext d

/-- AFE_CTRL.EN becomes `v` (R328): a channel that goes off abandons its phase, one that comes on settles. -/
def State.afeEnable (s : State) (d v : Nat) : State :=
  let was := s.rdij AFE_CTRL_EN 0 d
  let s1 := s.wrij AFE_CTRL_EN 0 d v
  let off (t : State) (a : Nat) : State :=
    match (t.adc d a).run with
    | some r =>
      if bitAt v r.ch then t
      else
        let t1 := t.adcM d a (fun x => { x with run := none })
        match t.chanRec d r.ch with
        | some c => t1.srcOff d c
        | none => t1
    | none => t
  let s2 := off (off s1 0) 1
  let stop (r : SineRun) : Bool :=
    match s1.fastRec d r.path with
    | some f => !bitAt v (f.v C_FAST_CHANNEL % 16)
    | none => true
  let s3 := match (s2.afeD d).sine with
    | some r =>
      if stop r then (s2.afeM d (fun x => { x with sine := none })).wrij AFE_STAT_SINE_BUSY 0 d 0 else s2
    | none => s2
  let s4 := (List.range 16).foldl (fun t i =>
    if bitAt v i && !bitAt was i && (t.chanRec d i).isSome then t.chanOn d i
    else if !bitAt v i && bitAt was i then t.chanOff d i
    else t) s3
  ((s4.adcNext d 0).adcNext d 1).sineNext d

/-- Registers at the values of the committed image (R330): enables, gains. -/
def State.afeImage (s : State) (d : Nat) : State :=
  let en := ((List.range 16).map (fun i => if s.chanV d i C_CHANNEL_MODE = 0 then 0 else 2 ^ i)).sum
  let gain (t : State) (i : Nat) : Nat := if t.chanV d i C_CHANNEL_GAIN < 8 then t.chanV d i C_CHANNEL_GAIN else 0
  ((List.range 16).foldl (fun t i => t.wrij AFE_RANGE_GAIN i d (gain t i)) s).wrij AFE_CTRL_EN 0 d en

/-- The die is configured afresh (R330, commit): reference sweeps and a calibration are asked for. -/
def State.afeReset (s : State) (d : Nat) : State :=
  if !s.diePresent d then s
  else
    let chan (i : Nat) : AfeChan :=
      { dueIx := s.clk.now / (max 1 (s.chanV d i C_CHANNEL_INTERVAL) * 1000000) }
    let path (j : Nat) : AfePath :=
      match s.fastRec d j with
      | some f =>
        let i := f.v C_FAST_CHANNEL % 16
        let m7 := s.chanV d i C_CHANNEL_MODE == 7
        { perAt := s.clk.el, refWait := m7, wait := m7 && s.chanV d i C_CHANNEL_INTERVAL == 0 }
      | none => {}
    let fresh : AfeDie :=
      { chans := (List.range 16).map chan
        paths := (List.range 4).map path }
    let s1 := (s.afeM d (fun _ => fresh)).afeImage d
    let s2 := (List.range 16).foldl (fun t i =>
      match t.chanRec d i with
      | some r => (chanSources r).foldl (fun u k => u.wrij AFE_SRC_CAL_NA k d (r.v C_CHANNEL_IEXC * 1000)) t
      | none => t) s1
    let s3 := s2.afeRestart d
    (s3.adcM d 0 (fun y => { y with calWait := true })).adcM d 1 (fun y => { y with calWait := true })

/-- Fields of channel `i` have been amended (R332): settling restarts, the gain register and the calibrated currents
follow (`old` is the IEXC before), due times follow the new interval. -/
def State.afeAmended (s : State) (d i old : Nat) (gain timing : Bool) : State :=
  match s.chanRec d i with
  | none => s
  | some r =>
    let g := r.v C_CHANNEL_GAIN
    let t := r.v C_CHANNEL_INTERVAL * 1000000
    let s1 := if gain && decide (g < 8) then s.wrij AFE_RANGE_GAIN i d g else s
    let s2 := (chanSources r).foldl (fun u k =>
      u.wrij AFE_SRC_CAL_NA k d (s.rdij AFE_SRC_CAL_NA k d * r.v C_CHANNEL_IEXC / max 1 old)) s1
    let s3 := if t = 0 || !timing then s2 else s2.afeChM d i (fun x => { x with dueIx := s.clk.now / t })
    ((s3.settleStart d i).adcNext d 0).adcNext d 1

/-- A step of device time on one channel (R328): its due times follow the new device time; times that a positive step
passed over count as missed. -/
def State.afeStepChan (s : State) (ahead : Bool) (d i : Nat) : State :=
  let t := s.chanV d i C_CHANNEL_INTERVAL * 1000000
  let mode := s.chanV d i C_CHANNEL_MODE
  if t = 0 then s
  else if ahead then
    let ix := (s.clk.now - 1) / t
    let n := if s.chanEn d i && (precisionMode mode || mode == 7) then ix - (s.afeCh d i).dueIx else 0
    (s.afeChM d i (fun x => { x with dueIx := max x.dueIx ix })).scanLate d i n
  else s.afeChM d i (fun x => { x with dueIx := s.clk.now / t })

/-- A step of device time on both front ends (R328). -/
def State.afeStep (s : State) (delta : Int) : State :=
  (List.range 32).foldl (fun t c => t.afeStepChan (decide (0 ≤ delta)) (c / 16) (c % 16)) s

/-- Is a conversion of channel `i` in progress, so that an amendment of it waits for its end (R328, R332)? A visit counts
from its first conversion to its last, as do a cable scan and a moisture sweep. -/
def State.afeBusy (s : State) (d i : Nat) : Bool :=
  (s.afeD d).adcs.any (fun x =>
    match x.run with
    | some r => r.ch == i && !r.cont && r.stage != .reset && !(r.stage == .settle && r.got.isEmpty && r.pos == 0)
    | none => false) ||
    (match (s.afeD d).sine with
    | some r => s.chanV d i C_CHANNEL_MODE == 7 && r.path == s.chanPath d i && (r.k != 0 || r.till.isSome)
    | none => false)

end Sys2Proof.Machine
end

