-- ==== Sys2Proof/Machine/Can.lean ====
section
/-! DEFINITION. CAN controllers: buffers, filters, rings, locks, transmission, errors, detection, signals
(spec/14_can.md). Error counting follows ISO 11898-1, which spec/14_can.md names and does not repeat. -/

namespace Sys2Proof.Machine

open Sys2Proof

/-! ## State parts -/

/-- Change controller `n`. -/
def State.canM (s : State) (n : Nat) (f : CanCtl → CanCtl) : State :=
  { s with can := { s.can with ctl := listMod s.can.ctl n f } }

/-- Controller `n`. -/
def State.canC (s : State) (n : Nat) : CanCtl := listAt s.can.ctl n {}

/-- A field of the committed CONTROLLER record of controller `n`. -/
def State.canV (s : State) (n : Nat) (c : CRef) : Nat := s.cv c n

/-- Word `w` of buffer `b` (R445). -/
def State.bufWord (s : State) (b w : Nat) : Nat := s.rdi CAN_POOL_WORD (20 * b + w)

/-- Set word `w` of buffer `b`. -/
def State.bufPut (s : State) (b w v : Nat) : State := s.wri CAN_POOL_WORD (20 * b + w) v

/-- Set consecutive words of buffer `b`. -/
def State.bufPuts (s : State) (b w : Nat) : List Nat → State
  | [] => s
  | v :: t => (s.bufPut b w v).bufPuts b (w + 1) t

/-- Role of buffer `b` (R447). -/
def State.bufRole (s : State) (b : Nat) : Nat := s.rdi CAN_BSTAT_ROLE b

/-- State of buffer `b` (CAN_BSTAT.STATE). -/
def State.bufState (s : State) (b : Nat) : Nat := s.rdi CAN_BSTAT_STATE b

/-- Set bit `b` of a buffer map. -/
def State.bufMap (s : State) (f : Fld) (b : Nat) (on : Bool) : State :=
  s.wri f (b / 32) (setBit (s.rdi f (b / 32)) (b % 32) on)

/-- Base and length of ring `k` of controller `n`. -/
def State.ringOf (s : State) (n k : Nat) : Nat × Nat :=
  if k = 0 then (s.canV n C_CONTROLLER_RING0_BASE, s.canV n C_CONTROLLER_RING0_LEN)
  else (s.canV n C_CONTROLLER_RING1_BASE, s.canV n C_CONTROLLER_RING1_LEN)

/-- RING.FULL: buffers of a ring that are full or locked. -/
def State.ringFull (s : State) (n k : Nat) : State :=
  let (base, len) := s.ringOf n k
  s.wri (if k = 0 then CAN_RING0_FULL else CAN_RING1_FULL) n ((List.range len).countP (fun i => s.bufState (base + i) != 0))

/-- A buffer takes a state; its maps and ring count follow. -/
def State.bufSet (s : State) (b st : Nat) : State :=
  let s1 := s.wri CAN_BSTAT_STATE b st
  if s.bufRole b = 1 then s1.bufMap CAN_PEND_MAP b (st == 1 || st == 2)
  else
    let s2 := (s1.bufMap CAN_FULL_MAP b (st != 0)).bufMap CAN_LOCK_MAP b (st == 2)
    let n := s.rdi CAN_BSTAT_CTRL b
    if s.bufRole b = 2 then s2.ringFull n 0 else if s.bufRole b = 3 then s2.ringFull n 1 else s2

/-- A refused buffer operation (CAN_BUFERR). -/
def State.bufErr (s : State) (b cause : Nat) : State :=
  ((s.wr CAN_BUFERR_LAST b).wr CAN_BUFERR_CAUSE cause).inc CAN_BUFERR_COUNT 1

/-- May the host write buffer `b` (R447)? -/
def State.bufWritable (s : State) (b : Nat) : Bool :=
  match s.bufRole b with
  | 0 => true
  | 1 => s.bufState b != 1 && s.bufState b != 2
  | _ => false

/-- A transmit buffer takes a RESULT (R452). -/
def State.bufResult (s : State) (b res : Nat) : State :=
  let n := s.rdi CAN_BSTAT_CTRL b
  ((s.bufSet b 3).wri CAN_BSTAT_RESULT b res).raiseIf (bitAt (s.bufWord b 1) 8) 28 (8 * n + 2)

/-- The transmit buffers of controller `n`. -/
def State.txBufs (s : State) (n : Nat) : List Nat :=
  (List.range (s.canV n C_CONTROLLER_TX_COUNT)).map (fun i => s.canV n C_CONTROLLER_TX_BASE + i)

/-! ## Error state (R457, R458) -/

/-- The error state of counters. -/
def errState (tec rec_ : Nat) : Nat := if 127 < tec || 127 < rec_ then 2 else 1

/-- Set the counters, WARN and the state; ERRn on a change of state or WARN. -/
def State.canCount (s : State) (n tec rec_ : Nat) : State :=
  let warn := decide (96 ≤ tec) || decide (96 ≤ rec_)
  let st := s.rdi CAN_STAT_STATE n
  let st' := if st = 1 || st = 2 then errState tec rec_ else st
  let s1 := ((s.wri CAN_STAT_TEC n (min tec 256)).wri CAN_STAT_REC n (min rec_ 255)).wri CAN_STAT_WARN n (b2n warn)
  (s1.wri CAN_STAT_STATE n st').raiseIf (st != st' || b2n warn != s.rdi CAN_STAT_WARN n) 28 (8 * n + 4)

/-- Apply what waited for the bus to be idle: a mode written, a stop (R459). -/
def State.busIdle (s : State) (n : Nat) : State :=
  let c := s.canC n
  if c.cur.isSome then s
  else if c.stop then (s.canM n (fun x => { x with stop := false })).wri CAN_STAT_STATE n 0
  else
    let m := s.rdi CAN_CTRL_MODE n
    if c.mode = m then s
    else
      let s1 := s.canM n (fun x => { x with mode := m, dwell := s.clk.el })
      let st := s.rdi CAN_STAT_STATE n
      if m = 2 then
        let s2 := (((s1.wri CAN_ABD_DONE n 0).wri CAN_ABD_FAIL n 0).wri CAN_ABD_GOOD n 0).wri CAN_ABD_TRYING n
          (s.canV n C_CONTROLLER_ABD_FIRST)
        let s3 := s2.wri CAN_TIMING_SET n (s.canV n C_CONTROLLER_ABD_FIRST)
        if st = 1 || st = 2 then s3.wri CAN_STAT_STATE n 5 else s3
      else if st = 5 then
        s1.wri CAN_STAT_STATE n (errState (s1.rdi CAN_STAT_TEC n) (s1.rdi CAN_STAT_REC n))
      else s1

/-- The frame on the bus ends without success (R451, R454, R455). -/
def State.txFail (s : State) (n : Nat) : State :=
  match (s.canC n).cur with
  | none => s
  | some b =>
    let s1 := s.canM n (fun x => { x with cur := none, cancel := false })
    if (s.canC n).cancel then s1.bufResult b 2
    else if bitAt (s.bufWord b 1) 6 then s1.bufResult b 3
    else s1.bufSet b 1

/-- Bus-off (R458). -/
def State.busOff (s : State) (n : Nat) : State :=
  let s1 := s.txFail n
  let s2 := (s1.txBufs n).foldl (fun t b =>
    if t.bufState b = 1 && bitAt (t.bufWord b 1) 6 then t.bufResult b 3 else t) s1
  let st := if s.rdi CAN_CTRL_AUTO_RECOVER n = 1 then 4 else 3
  (((s2.inci CAN_ERR_BUSOFF n 1).raise 28 (8 * n + 5)).wri CAN_STAT_STATE n st).raise 28 (8 * n + 4)

/-! ## Detection (R461) -/

/-- Detection moves to the next timing set. -/
def State.abdNext (s : State) (n : Nat) : State :=
  let first := s.canV n C_CONTROLLER_ABD_FIRST
  let t := s.rdi CAN_ABD_TRYING n + 1
  let wrap := decide (first + s.canV n C_CONTROLLER_ABD_COUNT ≤ t)
  let set := (if wrap then first else t) % 32
  let s1 := (((s.wri CAN_ABD_TRYING n set).wri CAN_ABD_GOOD n 0).wri CAN_TIMING_SET n set).canM n (fun x => { x with
    dwell := s.clk.el })
  if wrap && s.rdi CAN_ABD_FAIL n == 0 then (s1.wri CAN_ABD_FAIL n 1).raise 28 (8 * n + 7) else s1

/-- A frame received without error during detection. -/
def State.abdGood (s : State) (n : Nat) : State :=
  let s1 := (s.wri CAN_ABD_GOOD n (s.rdi CAN_ABD_GOOD n + 1)).canM n (fun x => { x with dwell := s.clk.el })
  if s.rdi CAN_ABD_GOOD n + 1 < 8 then s1
  else
    let m := if s.canV n C_CONTROLLER_ABD_JOIN = 1 then 0 else 1
    let s2 := ((s1.wri CAN_ABD_DONE n 1).wri CAN_ABD_FAIL n 0).wri CAN_ABD_SET n (s.rdi CAN_ABD_TRYING n)
    ((((s2.wri CAN_CTRL_MODE n m).canM n (fun x => { x with mode := m })).wri CAN_STAT_STATE n
      (errState (s.rdi CAN_STAT_TEC n) (s.rdi CAN_STAT_REC n)))).raise 28 (8 * n + 7)

/-! ## Storing (R445 to R449) -/

/-- Data bytes of a length code (R446). -/
def canLen (fdf : Bool) (dlc : Nat) : Nat :=
  if fdf then listAt [0, 1, 2, 3, 4, 5, 6, 7, 8, 12, 16, 20, 24, 32, 48, 64] dlc 64 else min dlc 8

/-- The data bytes of a frame: none of a remote frame, its length filled with zeros. -/
def canBytes (f : CanFrame) : List Nat :=
  if f.rtr && !f.fdf then [] else (List.range (canLen f.fdf f.dlc)).map (fun i => listAt f.data i 0 % 256)

/-- The words that bytes fill, little-endian. -/
def wordsOf (l : List Nat) : List Nat := (List.range ((l.length + 3) / 4)).map (fun k => leAt l (4 * k) 4)

/-- Does a filter element match a frame (R448)? -/
def filterHit (r : CfgRec) (f : CanFrame) : Bool :=
  let a := r.v C_FILTER_ID1 % 2 ^ 29
  let b := r.v C_FILTER_ID2 % 2 ^ 29
  (r.v C_FILTER_XTD == 2 || r.v C_FILTER_XTD == b2n f.xtd) &&
    (match r.v C_FILTER_TYPE with
    | 0 => (f.id &&& b) == (a &&& b)
    | 1 => decide (a ≤ f.id) && decide (f.id ≤ b)
    | _ => f.id == a || f.id == b)

/-- The first filter element of controller `n` that matches: its index and action; 0x1FF and NOMATCH when none does. -/
def State.canFilter (s : State) (n : Nat) (f : CanFrame) : Nat × Nat :=
  let hits := (List.range 256).filterMap (fun i =>
    match s.crec C_FILTER_INDEX i with
    | some r => if r.v C_FILTER_CTRL = n && filterHit r f then some (i, r.v C_FILTER_ACTION) else none
    | none => none)
  hits.headD (0x1FF, s.canV n C_CONTROLLER_NOMATCH)

/-- A frame is written into a receive buffer, which becomes full. -/
def State.canStore (s : State) (n b : Nat) (f : CanFrame) (filter time : Nat) (spill : Bool) : State :=
  let w0 := f.id % 2 ^ 29 + 2 ^ 29 * b2n f.xtd + 2 ^ 30 * b2n f.rtr + 2 ^ 31 * b2n (f.fdf && f.esi)
  let w1 := f.dlc % 16 + 16 * b2n f.fdf + 32 * b2n f.brs + 512 * b2n spill + 1024 * n + 4096 * filter +
    2 ^ 21 * ((s.canC n).seq % 2048)
  ((s.bufPuts b 0 ([w0, w1, time % 2 ^ 32, time / 2 ^ 32] ++ wordsOf (canBytes f))).canM n (fun x => { x with
    seq := (x.seq + 1) % 2048 })).bufSet b 1

/-- A ring store (R449). -/
def State.ringStore (s : State) (n k : Nat) (f : CanFrame) (filter time : Nat) (spill : Bool) : State :=
  let (base, len) := s.ringOf n k
  let wpf := if k = 0 then CAN_RING0_WP else CAN_RING1_WP
  let wp := s.rdi wpf n - base
  match (List.range len).find? (fun i => s.bufState (base + (wp + i) % len) == 0) with
  | some i =>
    let b := base + (wp + i) % len
    ((s.canStore n b f filter time spill).wri wpf n (base + (wp + i + 1) % len)).raise 28 (8 * n)
  | none => (s.inci CAN_OVF_RX_OVERFLOW n 1).raise 28 (8 * n + 3)

/-- The high-priority buffer of controller `n`: none where HP_BUF is 0x1FF (R468). -/
def State.hpBuf (s : State) (n : Nat) : Option Nat :=
  let b := s.canV n C_CONTROLLER_HP_BUF
  if b < 0x1FF then some b else none

/-- A ring of controller `n` has an empty buffer. -/
def State.ringRoom (s : State) (n k : Nat) : Bool :=
  let (base, len) := s.ringOf n k
  (List.range len).any (fun i => s.bufState (base + i) == 0)

/-- A frame for the high-priority buffer that does not find it empty, or finds none (R449): ring 0, with HPSPILL. -/
def State.hpSpill (s : State) (n : Nat) (f : CanFrame) (filter time : Nat) : State :=
  if s.ringRoom n 0 then
    ((s.ringStore n 0 f filter time true).inci CAN_OVF_HPSPILL n 1).raise 28 (8 * n + 1)
  else s.ringStore n 0 f filter time true

/-- A frame for the high-priority buffer (R449). -/
def State.hpStore (s : State) (n : Nat) (f : CanFrame) (filter time : Nat) : State :=
  match s.hpBuf n with
  | some b =>
    if s.bufState b = 0 then (s.canStore n b f filter time false).raise 28 (8 * n + 1)
    else s.hpSpill n f filter time
  | none => s.hpSpill n f filter time

/-! ## Signals (R462, R463) -/

/-- Position of bit `i` of a field (bit 0 least significant) as (byte, bit) (R462). -/
def fieldBit (start len order i : Nat) : Nat × Nat :=
  if order = 0 then ((start + i) / 8, (start + i) % 8)
  else ((start + len - 1 - i) / 8, 7 - (start + len - 1 - i) % 8)

/-- The raw value of a field in data bytes. -/
def fieldRaw (bytes : List Nat) (start len order : Nat) : Nat :=
  ((List.range len).map (fun i =>
    let p := fieldBit start len order i
    if bitAt (listAt bytes p.1 0) p.2 then 2 ^ i else 0)).sum

/-- Put a raw value into data bytes. -/
def fieldPut (bytes : List Nat) (start len order raw : Nat) : List Nat :=
  (List.range len).foldl (fun l i =>
    let p := fieldBit start len order i
    listSet l p.1 (setBit (listAt l p.1 0) p.2 (bitAt raw i))) bytes

/-- The receive signals take a frame (R462). -/
def State.rxSignals (s : State) (n : Nat) (f : CanFrame) (time : Nat) : State :=
  (List.range 32).foldl (fun t k =>
    match t.crec C_RXSIG_SIGNAL k with
    | none => t
    | some r =>
      let m := r.v C_RXSIG_ID_MASK % 2 ^ 29
      let start := r.v C_RXSIG_START
      let len := r.v C_RXSIG_LEN
      if r.v C_RXSIG_CTRL = n && (r.v C_RXSIG_XTD == 2 || r.v C_RXSIG_XTD == b2n f.xtd) &&
          (f.id &&& m) == (r.v C_RXSIG_ID &&& m) && decide (start + len ≤ 8 * (canBytes f).length) then
        let raw := fieldRaw (canBytes f) start len (r.v C_RXSIG_ORDER)
        let num : Int := if r.v C_RXSIG_SIGNED = 1 then sint len raw else (raw : Int)
        let v := FV.add f64 (FV.mul f64 (FV.ofInt num) (ofB32 (r.v C_RXSIG_SCALE))) (ofB32 (r.v C_RXSIG_OFFSET))
        let code := if r.v C_RXSIG_NA_EN = 1 && raw + 1 == 2 ^ len then qNaN32 else toB32 v
        t.produce (352 + k) code 0 time
      else t) s

/-- The raw value a transmit signal writes, `none` to keep the one that stands (R463). -/
def State.txRaw (s : State) (r : CfgRec) : Option Nat :=
  let len := r.v C_TXSIG_LEN
  let na := if r.v C_TXSIG_NA_EN = 1 then some (2 ^ len - 1) else none
  match s.routeIn 0 (480 + r.v C_TXSIG_SIGNAL) 0 with
  | some (e, false) =>
    if e.num.isNaN then na
    else
      let q := FV.div f64 (FV.sub f64 e.num (ofB32 (r.v C_TXSIG_OFFSET))) (ofB32 (r.v C_TXSIG_SCALE))
      let signed := r.v C_TXSIG_SIGNED == 1
      let lo : Int := if signed then -((2 ^ (len - 1) : Nat) : Int) else 0
      let hi : Int := if signed then ((2 ^ (len - 1) : Nat) : Int) - 1 else ((2 ^ len : Nat) : Int) - 1
      let i := match q with
        | .inf neg => if neg then lo else hi
        | _ => limI lo hi q.roundI
      some (ucode len i)
  | _ => na

/-- The transmit signals of a buffer are packed into it (R463). -/
def State.txPack (s : State) (b : Nat) : State :=
  (List.range 16).foldl (fun t k =>
    match t.crec C_TXSIG_SIGNAL k with
    | none => t
    | some r =>
      if r.v C_TXSIG_BUF = b then
        match t.txRaw r with
        | some raw =>
          let old := (List.range 16).flatMap (fun i => leBytes 4 (t.bufWord b (4 + i)))
          t.bufPuts b 4 (wordsOf (fieldPut old (r.v C_TXSIG_START) (r.v C_TXSIG_LEN) (r.v C_TXSIG_ORDER) raw))
        | none => t
      else t) s

/-! ## Reception -/

/-- FRAME_RECEIVED (R448, R449, R457, R461, R462): a frame without error, whose start of frame was `ago` ns ago. The
receive counter falls as ISO 11898-1 says; from above 127 it becomes a value of 119 to 127 that ISO leaves open. -/
def execFrameReceived (ctrl : Fin 4) (frame : CanFrame) (ago : Nat) (s : State) : Host.Outcome State Fault Refusal := s.powered <|
  let n := ctrl.val
  let st := s.rdi CAN_STAT_STATE n
  if frame.fdf && s.canV n C_CONTROLLER_FD_EN == 0 then ok s
  else if st = 5 then ok (s.abdGood n)
  else if st != 1 && st != 2 then ok s
  else
    let rec_ := s.rdi CAN_STAT_REC n
    let (fv, s0) := s.free 11
    let s1 := if (s.canC n).mode != 0 || rec_ = 0 then s
      else if 127 < rec_ then s0.canCount n (s.rdi CAN_STAT_TEC n) (119 + fv % 9)
      else s.canCount n (s.rdi CAN_STAT_TEC n) (rec_ - 1)
    let time := s.clk.now - ago
    let (filter, act) := s.canFilter n frame
    let s2 := match act with
      | 0 => s1.ringStore n 0 frame filter time false
      | 1 => s1.ringStore n 1 frame filter time false
      | 2 => s1.hpStore n frame filter time
      | _ => s1
    ok (s2.rxSignals n frame time)

/-- PROTOCOL_EXCEPTION (R439, R457): counted, and the controller enters bus integration. -/
def execProtocolException (ctrl : Fin 4) (s : State) : Host.Outcome State Fault Refusal := s.powered <|
  let n := ctrl.val
  let st := s.rdi CAN_STAT_STATE n
  if st = 1 || st = 2 then
    ok ((((s.txFail n).inci CAN_ERR_PEX n 1).wri CAN_STAT_STATE n 6).busIdle n)
  else if st = 5 then ok (s.inci CAN_ERR_PEX n 1)
  else ok s

/-- BUS_INTEGRATION_COMPLETE (R459): the bus is idle; the controller becomes error-active, or detects. -/
def execBusIntegrationComplete (ctrl : Fin 4) (s : State) : Host.Outcome State Fault Refusal := s.powered <|
  let n := ctrl.val
  if s.rdi CAN_STAT_STATE n != 6 then ok s
  else if (s.canC n).mode = 2 then ok ((s.wri CAN_STAT_STATE n 5).canM n (fun x => { x with dwell := s.clk.el }))
  else ok (s.wri CAN_STAT_STATE n (errState (s.rdi CAN_STAT_TEC n) (s.rdi CAN_STAT_REC n)))

/-! ## Transmission (R451 to R456) -/

/-- The arbitration field of a buffer as a number: the lower wins (R451). -/
def State.arbKey (s : State) (n b : Nat) : Nat :=
  let w := s.bufWord b 0
  let fd := bitAt (s.bufWord b 1) 4 && s.canV n C_CONTROLLER_FD_EN == 1
  let rtr := b2n (bitAt w 30 && !fd)
  let id := w % 2 ^ 29
  if bitAt w 29 then id / 2 ^ 18 * 2 ^ 21 + 2 ^ 20 + 2 ^ 19 + id % 2 ^ 18 * 2 + rtr
  else id % 2 ^ 11 * 2 ^ 21 + rtr * 2 ^ 20

/-- TIME of a buffer. -/
def State.bufTime (s : State) (b : Nat) : Nat := s.bufWord b 2 + s.bufWord b 3 * 2 ^ 32

/-- Is a pending buffer's latest start past (R453)? -/
def State.atLate (s : State) (n b : Nat) : Bool :=
  bitAt (s.bufWord b 1) 7 && s.canV n C_CONTROLLER_LATE_WINDOW != 0 &&
    decide (s.bufTime b + s.canV n C_CONTROLLER_LATE_WINDOW * 1000 < s.clk.now)

/-- Is a buffer eligible (R451, R453)? -/
def State.eligible (s : State) (n b : Nat) : Bool :=
  s.bufState b == 1 && (!bitAt (s.bufWord b 1) 7 || (decide (s.bufTime b ≤ s.clk.now) && !s.atLate n b))

/-- The eligible buffer whose frame would win arbitration, the lowest index among equals (R451). -/
def State.bestBuf (s : State) (n : Nat) : Option Nat :=
  ((s.txBufs n).filter (s.eligible n)).foldl (fun a b =>
    match a with
    | none => some b
    | some c => if s.arbKey n b < s.arbKey n c then some b else some c) none

/-- The frame of a transmit buffer, as it goes on the bus (R441, R446). -/
def State.bufFrame (s : State) (n b : Nat) : CanFrame :=
  let w0 := s.bufWord b 0
  let w1 := s.bufWord b 1
  let fd := bitAt w1 4 && s.canV n C_CONTROLLER_FD_EN == 1
  { id := w0 % 2 ^ 29, xtd := bitAt w0 29, rtr := bitAt w0 30 && !fd, esi := false, dlc := w1 % 16, fdf := fd
    brs := bitAt w1 5 && fd
    data := (List.range 16).flatMap (fun i => leBytes 4 (s.bufWord b (4 + i))) }

/-- FRAME_LOAD (R451, R452, R463): arbitration starts, and the best eligible buffer is packed and loaded. -/
def execFrameLoad (ctrl : Fin 4) (s : State) : Host.Outcome State Fault Refusal := s.powered <|
  let n := ctrl.val
  let st := s.rdi CAN_STAT_STATE n
  if (st = 1 || st = 2) && (s.canC n).mode == 0 && (s.canC n).cur.isNone then
    match s.bestBuf n with
    | none => ok s
    | some b =>
      let s1 := ((s.txPack b).bufSet b 2).canM n (fun x => { x with cur := some b, cancel := false })
      let f := s1.bufFrame n b
      ok (s1.emit (.can n f.id f.xtd (canBytes f)))
  else ok s

/-- TX_DONE (R452, R455, R457): the frame whose start left `ago` ns ago is acknowledged; `delay` is the loop delay
measured in CCLK cycles (R442). -/
def execTxDone (ctrl : Fin 4) (ago delay : Nat) (s : State) : Host.Outcome State Fault Refusal := s.powered <|
  let n := ctrl.val
  match (s.canC n).cur with
  | none => ok s
  | some b =>
    let time := s.clk.now - ago
    let f := s.bufFrame n b
    let s1 := (s.bufPuts b 2 [time % 2 ^ 32, time / 2 ^ 32]).wri CAN_BSTAT_CANCEL_LATE b (b2n (s.canC n).cancel)
    let s2 := (s1.canM n (fun x => { x with cur := none, cancel := false })).bufResult b 1
    let s3 := if f.brs && s.canV n C_CONTROLLER_TDC_EN == 1 then s2.wri CAN_STAT_TDCV n (min delay 127) else s2
    ok ((s3.canCount n (s.rdi CAN_STAT_TEC n - 1) (s.rdi CAN_STAT_REC n)).busIdle n)

/-- ARBITRATION_LOST (R451, R454, R455). -/
def execArbitrationLost (ctrl : Fin 4) (s : State) : Host.Outcome State Fault Refusal := s.powered <| ok ((s.txFail ctrl).busIdle ctrl)

/-- ERROR_FRAME (R457, R458, R460, R461): an error frame, the controller transmitting or receiving; `extra` counts the
happenings of the frame for which ISO 11898-1 adds 8 more. -/
def execErrorFrame (ctrl : Fin 4) (tx : Bool) (code : Fin 7) (extra : Nat) (s : State) : Host.Outcome State Fault Refusal := s.powered <|
  let n := ctrl.val
  let st := s.rdi CAN_STAT_STATE n
  if st != 1 && st != 2 && st != 5 then ok s
  else
    let s1 := (s.inci CAN_ERR_ERRORS n 1).wri CAN_STAT_LEC n code.val
    if st = 5 then ok (s1.abdNext n)
    else if (s.canC n).mode != 0 then ok s1
    else
      let t := s.rdi CAN_STAT_TEC n
      let r := s.rdi CAN_STAT_REC n
      let own := tx && (s.canC n).cur.isSome
      let quiet := code.val == 3 && st == 2 && extra == 0
      let t' := if own then (if quiet then t else t + 8 + 8 * extra) else t
      let r' := if own then r else r + 1 + 8 * extra
      let s2 := s1.canCount n t' r'
      if 255 < t' then ok ((s2.busOff n).busIdle n) else ok ((s2.txFail n).busIdle n)

/-- A buffer becomes pending (R451, R456). -/
def State.txRequest (s : State) (b : Nat) : State :=
  ((s.wri CAN_BSTAT_RESULT b 0).wri CAN_BSTAT_CANCEL_LATE b 0).bufSet b 1

/-- Is a transmit buffer pending or on the bus? -/
def State.bufPending (s : State) (b : Nat) : Bool := s.bufState b == 1 || s.bufState b == 2

/-- CAN_TXGO (R451). -/
def execCanTxgo (buf : Fin 512) (s : State) : Host.Outcome State Fault Refusal := s.powered <|
  if s.bufRole buf != 1 || s.bufPending buf then ok (s.bufErr buf 2) else ok (s.txRequest buf)

/-- CAN_TXCANCEL (R455). -/
def execCanTxcancel (buf : Fin 512) (s : State) : Host.Outcome State Fault Refusal := s.powered <|
  let n := s.rdi CAN_BSTAT_CTRL buf
  if s.bufRole buf != 1 || !s.bufPending buf then ok (s.bufErr buf 3)
  else if s.bufState buf = 2 then ok (s.canM n (fun x => { x with cancel := true }))
  else ok (s.bufResult buf 2)

/-- AT_MISSED (R453): the late window has passed without an attempt. -/
def execAtMissed (buf : Fin 512) (s : State) : Host.Outcome State Fault Refusal := s.powered <|
  if s.bufRole buf == 1 && s.bufState buf == 1 && s.atLate (s.rdi CAN_BSTAT_CTRL buf) buf then ok (s.bufResult buf 4)
  else ok s

/-- The number of request instants of a TXBUF record that device time has reached (R456). -/
def State.periodIx (s : State) (r : CfgRec) : Nat :=
  let p := r.v C_TXBUF_PERIOD_MS * 1000000
  let ph := r.v C_TXBUF_PHASE_MS * 1000000
  if p = 0 || s.clk.now < ph then 0 else (s.clk.now - ph) / p + 1

/-- The instants of a buffer's period that have passed are not requested again. -/
def State.periodFrom (s : State) (r : CfgRec) : State :=
  { s with can := { s.can with lastReq := assocPut s.can.lastReq (r.v C_TXBUF_BUF) (s.periodIx r) } }

/-- PERIODIC_REQUEST (R456): an instant of the buffer's period. -/
def execPeriodicRequest (buf : Fin 512) (s : State) : Host.Outcome State Fault Refusal := s.powered <|
  let b := buf.val
  match s.crec C_TXBUF_BUF b with
  | none => ok s
  | some r =>
    if s.periodIx r ≤ assocGetD s.can.lastReq b 0 then ok s
    else
      let s1 := s.periodFrom r
      if s.bufRole b != 1 then ok s1
      else if s.bufPending b then ok (s1.bufErr b 4)
      else ok (s1.txRequest b)

/-! ## Locks (R450) -/

/-- Reading word 0 of a buffer locks it when it is full. -/
def State.bufLock (s : State) (b : Nat) : State :=
  if 2 ≤ s.bufRole b && s.bufState b = 1 then
    { s.bufSet b 2 with can := { s.can with lockAt := assocPut s.can.lockAt b s.clk.el } }
  else s

/-- The word of a receive buffer that holds its last data byte (R446). -/
def State.releaseWord (s : State) (b : Nat) : Nat :=
  let w := s.bufWord b 1
  let len := if bitAt (s.bufWord b 0) 30 && !bitAt w 4 then 0 else canLen (bitAt w 4) (w % 16)
  3 + (len + 3) / 4

/-- Reading the release word of a locked buffer empties it. -/
def State.bufRelease (s : State) (b : Nat) : State :=
  if 2 ≤ s.bufRole b && s.bufState b = 2 then
    { s.bufSet b 0 with can := { s.can with lockAt := assocDel s.can.lockAt b } }
  else s

/-- What a host read of word `w` of buffer `b` does beside its value: word 0 locks, the release word releases. -/
def State.bufTouch (s : State) (b w : Nat) : State :=
  if w = 0 then s.bufLock b else if w = s.releaseWord b then s.bufRelease b else s

/-- BUFFER_LOCK (R450): a host read of word 0. -/
def execBufferLock (buf : Fin 512) (s : State) : Host.Outcome State Fault Refusal := s.powered <|
  ok ((s.bufLock buf).emit (.readData (0x1C4000 + 80 * buf) (s.bufWord buf 0)))

/-- BUFFER_RELEASE (R450): a host read of the release word. -/
def execBufferRelease (buf : Fin 512) (s : State) : Host.Outcome State Fault Refusal := s.powered <|
  let w := s.releaseWord buf
  ok ((s.bufRelease buf).emit (.readData (0x1C4000 + 80 * buf + 4 * w) (s.bufWord buf w)))

/-- A lock is released and the buffer stays full. -/
def State.bufUnlock (s : State) (b : Nat) : State :=
  if 2 ≤ s.bufRole b && s.bufState b = 2 then
    { s.bufSet b 1 with can := { s.can with lockAt := assocDel s.can.lockAt b } }
  else s

/-- CAN_LOCKCLR (R450). -/
def execCanLockclr (buf : Fin 512) (s : State) : Host.Outcome State Fault Refusal := s.powered <| ok (s.bufUnlock buf)

/-- LOCK_TIMEOUT (R450): the lock is older than LOCK_TIMEOUT. -/
def execLockTimeout (buf : Fin 512) (s : State) : Host.Outcome State Fault Refusal := s.powered <|
  let t := s.canV (s.rdi CAN_BSTAT_CTRL buf) C_CONTROLLER_LOCK_TIMEOUT * 1000
  match assocGet s.can.lockAt buf with
  | some a => if t != 0 && decide (a + t < s.clk.el) then ok ((s.bufUnlock buf).inc CAN_LOCKTO_COUNT 1) else ok s
  | none => ok s

/-! ## Control (R458, R459, R461) -/

/-- RECOVER (R458): the host begins bus-off recovery. -/
def execRecover (ctrl : Fin 4) (s : State) : Host.Outcome State Fault Refusal := s.powered <|
  if s.rdi CAN_STAT_STATE ctrl = 3 then ok (s.wri CAN_STAT_STATE ctrl 4) else ok s

/-- RECOVERED (R458): 128 occurrences of 11 recessive bits. -/
def execRecovered (ctrl : Fin 4) (s : State) : Host.Outcome State Fault Refusal := s.powered <|
  let n := ctrl.val
  if s.rdi CAN_STAT_STATE n = 4 then
    ok ((((s.canCount n 0 0).wri CAN_STAT_STATE n 1).raise 28 (8 * n + 4)).raise 28 (8 * n + 6))
  else ok s

/-- A controller starts: counters and SEQ at 0, bus integration (R459). -/
def State.canStart (s : State) (n : Nat) : State :=
  let m := s.rdi CAN_CTRL_MODE n
  let fresh : CanCtl := { mode := m, dwell := s.clk.el }
  let s1 := (((s.wri CAN_STAT_TEC n 0).wri CAN_STAT_REC n 0).wri CAN_STAT_WARN n 0).wri CAN_STAT_STATE n 6
  let s2 := s1.canM n (fun _ => fresh)
  if m = 2 then
    let first := s.canV n C_CONTROLLER_ABD_FIRST
    ((((s2.wri CAN_ABD_DONE n 0).wri CAN_ABD_FAIL n 0).wri CAN_ABD_GOOD n 0).wri CAN_ABD_TRYING n first).wri CAN_TIMING_SET n first
  else s2

/-- CONTROLLER_ENABLE (R459): a write of CAN_CTRL's EN, AUTO_RECOVER and MODE; a MODE of 3 is taken as 1. -/
def execControllerEnable (ctrl : Fin 4) (value : Word) (s : State) : Host.Outcome State Fault Refusal := s.powered <|
  let n := ctrl.val
  let v := value.toNat
  let mode := if bitsOf v 3 2 = 3 then 1 else bitsOf v 3 2
  let was := s.rdi CAN_CTRL_EN n
  let s1 := ((s.wri CAN_CTRL_MODE n mode).wri CAN_CTRL_AUTO_RECOVER n (bitsOf v 1 1)).wri CAN_CTRL_EN n (v % 2)
  if was = 0 && v % 2 = 1 then
    if (s.canC n).stop then ok ((s1.canM n (fun x => { x with stop := false })).busIdle n) else ok (s1.canStart n)
  else if was = 1 && v % 2 = 0 then ok ((s1.canM n (fun x => { x with stop := true })).busIdle n)
  else ok (s1.busIdle n)

/-- ABD_DWELL_TIMEOUT (R461). -/
def execAbdDwellTimeout (ctrl : Fin 4) (s : State) : Host.Outcome State Fault Refusal := s.powered <|
  let n := ctrl.val
  if s.rdi CAN_STAT_STATE n = 5 && decide ((s.canC n).dwell + s.canV n C_CONTROLLER_ABD_DWELL * 1000000 ≤ s.clk.el) then
    ok (s.abdNext n)
  else ok s

/-! ## Commit and unit reset (R447, R467) -/

/-- The header that a TXBUF record gives its buffer, and its FILL bytes (R468). -/
def State.txHeader (s : State) (r : CfgRec) (fill : Bool) : State :=
  let b := r.v C_TXBUF_BUF
  let xtd := r.v C_TXBUF_XTD
  let id := r.v C_TXBUF_ID % (if xtd = 1 then 2 ^ 29 else 2 ^ 11)
  let w1 := r.v C_TXBUF_DLC + 16 * r.v C_TXBUF_FDF + 32 * r.v C_TXBUF_BRS + 64 * r.v C_TXBUF_ONESHOT + 256 * r.v C_TXBUF_INT
  let s1 := s.bufPuts b 0 [id + 2 ^ 29 * xtd, w1]
  if fill then s1.bufPuts b 4 (List.replicate 16 (r.v C_TXBUF_FILL * 0x01010101)) else s1

/-- The roles of the buffers of controller `n`. -/
def State.canRoles (s : State) (n : Nat) : State :=
  let put (t : State) (role b : Nat) : State := (t.wri CAN_BSTAT_ROLE b role).wri CAN_BSTAT_CTRL b n
  let run (t : State) (role : Nat) (p : Nat × Nat) : State := (List.range p.2).foldl (fun u i => put u role (p.1 + i)) t
  if !s.has C_CONTROLLER_CTRL n then s
  else
    let s1 := (s.txBufs n).foldl (fun t b => put t 1 b) s
    let s2 := run (run s1 2 (s.ringOf n 0)) 3 (s.ringOf n 1)
    match s.hpBuf n with
    | some b => put s2 4 b
    | none => s2

/-- Registers of the pool and of the buffer maps are cleared; results stay when `keep`. -/
def State.canClear (s : State) (keep : Bool) : State :=
  let gone (a : Nat) : Bool :=
    (decide (0x1C4000 ≤ a) && decide (a < 0x1CE000)) || (decide (0x1C0400 ≤ a) && decide (a < 0x1C04C0)) ||
      (!keep && decide (0x1C2000 ≤ a) && decide (a < 0x1C2800))
  { s with regs := s.regs.filter (fun p => !gone p.1), can := {} }

/-- Controllers restart from the committed image (R467), and start at commit. -/
def State.canImage (s : State) : State :=
  let s0 := (s.recs 0xF0 3).foldl (fun t r => t.periodFrom r) s
  let s1 := (List.range 4).foldl (fun t n => t.canRoles n) s0
  let s2 := (s1.recs 0xF0 3).foldl (fun t r => t.txHeader r true) s1
  (List.range 4).foldl (fun t n =>
    let has := t.has C_CONTROLLER_CTRL n
    let v (c : CRef) : Nat := if has then t.canV n c else 0
    let t1 := ((t.wri CAN_CTRL_MODE n (v C_CONTROLLER_MODE)).wri CAN_CTRL_AUTO_RECOVER n (v C_CONTROLLER_AUTO_RECOVER)).wri
      CAN_CTRL_EN n (v C_CONTROLLER_EN)
    let t2 := ((t1.wri CAN_TIMING_SET n (v C_CONTROLLER_TIMING)).wri CAN_RING0_WP n (v C_CONTROLLER_RING0_BASE)).wri
      CAN_RING1_WP n (v C_CONTROLLER_RING1_BASE)
    let t3 := (t2.wri CAN_RING0_FULL n 0).wri CAN_RING1_FULL n 0
    let t4 := (t3.setReg (CAN_STAT_STATE.addr n 0) 0).setReg (CAN_ABD_DONE.addr n 0) 0
    if v C_CONTROLLER_EN = 1 then t4.canStart n else t4) s2

/-- A CAN unit reset (R467): pending buffers take ABORTED, the pool is cleared, the controllers restart. -/
def State.canReset (s : State) : State :=
  let s1 := (List.range 4).foldl (fun t n => (t.txBufs n).foldl (fun u b =>
    if u.bufPending b then u.bufResult b 5 else u) t) s
  let s2 := (List.range 512).foldl (fun t b => if t.bufRole b = 1 then t else t.wri CAN_BSTAT_STATE b 0) s1
  (s2.canClear true).canImage

/-- The CAN unit at commit of a full load: everything from the new image. -/
def State.canCommit (s : State) : State := (s.canClear false).canImage

end Sys2Proof.Machine
end

