-- ==== Sys2Proof/Machine/Fans.lean ====
section
/-! DEFINITION. Fan channels: drive requests, the speed controller, pronk and blocked start, tach loss, the
ageing indicator and its baseline (spec/13_fans_thermal.md R418 to R426, R433 to R436). -/

namespace Sys2Proof.Machine

open Sys2Proof

/-- Change fan channel `n`. -/
def State.fanM (s : State) (n : Nat) (f : FanUnit → FanUnit) : State := { s with fans := listMod s.fans n f }

/-- Fan channel `n`. -/
def State.fan (s : State) (n : Nat) : FanUnit := listAt s.fans n {}

/-- binary32 operations (R18). -/
def sAdd : FV → FV → FV := FV.add f32
/-- binary32 difference. -/
def sSub : FV → FV → FV := FV.sub f32
/-- binary32 product. -/
def sMul : FV → FV → FV := FV.mul f32
/-- binary32 quotient. -/
def sDiv : FV → FV → FV := FV.div f32

/-- Linear interpolation through points (x, y) in rising x, held beyond the ends. -/
def interp (x : FV) : List (FV × FV) → FV
  | [] => FV.zero
  | [p] => p.2
  | p :: q :: t =>
    if x.lt p.1 then p.2
    else if x.lt q.1 then sAdd p.2 (sDiv (sMul (sSub q.2 p.2) (sSub x p.1)) (sSub q.1 p.1))
    else interp x (q :: t)

/-- A temperature code s12.4 as a number of degrees. -/
def degC (w : Nat) : FV := .fin (decide (sint 16 w < 0)) (sint 16 w).natAbs (-4)

/-- The curve request (R420). -/
def State.fanCurve (s : State) (r : CfgRec) : FV :=
  let g := r.v C_FAN_CURVE_GROUP
  if 4 ≤ g then FV.zero
  else interp (degC (s.rdi THM_GRP_MAX g))
    [(degC (r.v C_FAN_CURVE_T0), ofB32 (r.v C_FAN_CURVE_D0)), (degC (r.v C_FAN_CURVE_T1), ofB32 (r.v C_FAN_CURVE_D1)),
     (degC (r.v C_FAN_CURVE_T2), ofB32 (r.v C_FAN_CURVE_D2)), (degC (r.v C_FAN_CURVE_T3), ofB32 (r.v C_FAN_CURVE_D3))]

/-- The greater request; at equal values the higher source code wins (R419). -/
def reqMax (a b : FV × Nat) : FV × Nat :=
  if a.1.lt b.1 then b else if b.1.lt a.1 then a else if a.2 < b.2 then b else a

/-- The channel's own request and its source code (R419). -/
def State.fanOwn (s : State) (n : Nat) : FV × Nat :=
  match s.crec C_FAN_CHANNEL n with
  | none => (FV.zero, 0)
  | some r =>
    let st := s.rdi FAN_STAT_STATE n
    if !bitAt (s.rd FAN_CTRL_EN) n || st == 3 then (FV.zero, 0)
    else if st = 4 || st = 5 then (ofB32 (r.v C_FAN_FAIL_DRIVE), 4)
    else
      let base : FV × Nat := if st = 1 then (FV.ofInt 100, 3)
        else match (s.fan n).learn with
          | some l => (FV.ofInt (30 + 10 * l.k : Nat), 3)
          | none =>
            if s.rdi FAN_MODE_MANUAL n = 1 then (FV.lim FV.zero (FV.ofInt 100) (ofB32 (s.rdi FAN_MAN_DRIVE n)), 1)
            else (ofB32 (s.fan n).ctrl, 0)
      let c := s.fanCurve r
      if FV.zero.lt c then reqMax base (c, 2) else base

/-- The applied request (R46, R47, R419): 100 % under ranks 1 to 3. -/
def State.fanRequest (s : State) (n : Nat) : FV × Nat :=
  let own := s.fanOwn n
  let k := if s.running then s.rank (n / 4) else min 2 (s.rank (n / 4))
  if k ≤ 3 then reqMax own (FV.ofInt 100, 8 - k) else own

/-- Set FAN_DRIVEn from the requests (R419). -/
def State.fanApply (s : State) (n : Nat) : State :=
  let q := s.fanRequest n
  let d := limN 0 10000 (sMul q.1 (FV.ofInt 100)).roundI.toNat
  (s.wri FAN_DRIVE_DRIVE n d).wri FAN_DRIVE_SRC n q.2

/-- Apply every fan channel (after a change of rank). -/
def State.fansApply (s : State) : State :=
  (List.range (if s.is20 then 4 else 8)).foldl State.fanApply s

/-- The applied drive in per cent. -/
def State.fanPct (s : State) (n : Nat) : FV := sDiv (FV.ofInt (s.rdi FAN_DRIVE_DRIVE n)) (FV.ofInt 100)

/-- STATE of a channel that runs: learning or running. -/
def State.fanRunState (s : State) (n : Nat) : Nat := if (s.fan n).learn.isSome then 6 else 2

/-- A pronk, or with PRONK_EN 0 a watch, starts (R422); a disabled channel is off. -/
def State.pronkStart (s : State) (n : Nat) (r : CfgRec) : State :=
  if bitAt (s.rd FAN_CTRL_EN) n then
    let kick := r.v C_FAN_PRONK_EN == 1
    ((s.fanM n (fun f => { f with
      pronkEnd := some (s.clk.el + r.v C_FAN_PRONK_MS * 1000000), offEnd := none })).wri
      FAN_STAT_STATE n (if kick then 1 else s.fanRunState n)).fanApply n
  else ((s.fanM n (fun f => { f with pronkEnd := none, offEnd := none })).wri FAN_STAT_STATE n 0).fanApply n

/-- Learning ends without a new baseline (R425). -/
def State.learnFail (s : State) (n : Nat) : State :=
  match (s.fan n).learn with
  | some _ => (s.fanM n (fun f => { f with learn := none })).raise 9 26
  | none => s

/-- A failed start (R423). -/
def State.failedStart (s : State) (n : Nat) (r : CfgRec) : State :=
  let s1 := (((s.learnFail n).inci FAN_STALLCNT_COUNT n 1).raise 9 n).fanM n (fun f => { f with pronkEnd := none })
  if s1.rdi FAN_STAT_TRIES n < r.v C_FAN_RETRIES then
    ((s1.wri FAN_STAT_STATE n 3).fanM n (fun f => { f with
      offEnd := some (s.clk.el + r.v C_FAN_OFF_MS * 1000000) })).fanApply n
  else (((s1.wri FAN_STAT_STATE n 4).wri FAN_STAT_STALL_LATCHED n 1).raise 9 (8 + n)).fanApply n

/-- The channel goes on under R421 from the drive applied now (R421, R424). -/
def State.fanResume (s : State) (n : Nat) : State :=
  ((s.fanM n (fun f => { f with
    i := toB32 (s.fanPct n)
    ctrl := toB32 (s.fanPct n)
    spr := s.rdi FAN_SPEED_V n
    pronkEnd := none
    offEnd := none })).wri FAN_STAT_STATE n (s.fanRunState n)).fanApply n

/-- Set-point element of a channel: the last good one when there is none, it is stale or not a number
(R421). -/
def State.fanSp (s : State) (n : Nat) (r : CfgRec) : Nat × Bool :=
  if r.v C_FAN_SP_SRC = 0 then (s.rdi FAN_SP_SP n, false)
  else
    match s.routeIn 0 (424 + n) 0 with
    | none => ((s.fan n).sp, true)
    | some (e, stale) => if stale || e.num.isNaN then ((s.fan n).sp, true) else (toB32 e.num, false)

/-- One step of the speed controller: new ramped set-point, integrator and ctrl (R421). -/
def fanLoop (r : CfgRec) (spr i sp speed : FV) : FV × FV × FV :=
  let t := sDiv (FV.ofInt (r.v C_FAN_CTRL_MS)) (FV.ofInt 1000)
  let step := sMul (ofB32 (r.v C_FAN_RAMP)) t
  let spr' := sAdd spr (FV.lim step.neg step (sSub sp spr))
  let e := sSub spr' speed
  let kp := ofB32 (r.v C_FAN_KP)
  let i1 := sAdd i (sMul (sMul (ofB32 (r.v C_FAN_KI)) t) e)
  let c := FV.lim (ofB32 (r.v C_FAN_DRIVE_MIN)) (ofB32 (r.v C_FAN_DRIVE_MAX)) (sAdd (sMul kp e) i1)
  (spr', sSub c (sMul kp e), if spr'.le FV.zero then FV.zero else c)

/-- The baseline of a channel as (speed, drive) points. -/
def State.fanBase (s : State) (n : Nat) : List (FV × FV) :=
  (List.range 8).map (fun k => (ofB32 (s.rdij FAN_BASE_V k n), FV.ofInt (30 + 10 * k : Nat)))

/-- One ageing sample, when it is due (R426). -/
def State.fanAge (s : State) (n : Nat) (r : CfgRec) : State :=
  let f := s.fan n
  let speed := ofB32 (s.rdi FAN_SPEED_V n)
  let spr := ofB32 f.spr
  let base := s.fanBase n
  let near := (sSub speed spr).abs.le (sMul (FV.dec f32 2 2) spr)
  let auto := s.rdi FAN_MODE_MANUAL n == 0 && r.v C_FAN_CTRL_MODE == 0 && base.all (fun p => FV.zero.lt p.1)
  let since := if near && auto then some (f.nearSince.getD s.clk.el) else none
  let s1 := s.fanM n (fun f => { f with nearSince := since })
  let lo := (listAt base 0 (FV.zero, FV.zero)).1
  let hi := (listAt base 7 (FV.zero, FV.zero)).1
  match since with
  | none => s1
  | some e =>
    if e + 10000000000 ≤ s.clk.el && lo.le speed && speed.le hi then
      let sample := sDiv (s.fanPct n) (interp speed base)
      let t := FV.div f64 (FV.ofInt (r.v C_FAN_CTRL_MS)) (FV.ofInt (-3600000))
      let k := FV.sub f64 (FV.ofInt 1) (ofB64 (Config.exp64 (toB64 t)))
      let age := ofB32 (s.rdi FAN_AGE_V n)
      let age' := (FV.add f64 age (FV.mul f64 k (FV.sub f64 sample age))).rnd f32
      let lim := ofB32 (r.v C_FAN_AGE_LIMIT)
      let was := s.rdi FAN_STAT_AGEING n
      let s2 := s1.wri FAN_AGE_V n (toB32 age')
      if lim.lt age' then (s2.wri FAN_STAT_AGEING n 1).raiseIf (was == 0) 9 24
      else if age'.lt (sSub lim (FV.dec f32 2 2)) then s2.wri FAN_STAT_AGEING n 0
      else s2
    else s1

/-- FAN_UPDATE (R418 to R422, R425, R426): every CTRL_MS. -/
def execFanUpdate (fan : Fin 8) (s : State) : Host.Outcome State Fault Refusal := s.powered <|
  let n := fan.val
  match s.crec C_FAN_CHANNEL n with
  | none => ok (s.fanApply n)
  | some r =>
    if s.clk.el < (s.fan n).updAt + r.v C_FAN_CTRL_MS * 1000000 then ok s
    else
      let quiet := match (s.fan n).lastEdge with
        | some e => decide (e + 1000000000 ≤ s.clk.el)
        | none => true
      let s1 := if quiet then s.wri FAN_SPEED_V n 0 else s
      let (sp, stale) := s1.fanSp n r
      let st := s1.rdi FAN_STAT_STATE n
      let f := s1.fan n
      let speed := ofB32 (s1.rdi FAN_SPEED_V n)
      let frozen := st == 1 || st == 3 || st == 4 || st == 5 || st == 6
      let (spr, i, ctrl) :=
        if r.v C_FAN_CTRL_MODE = 1 then (ofB32 f.spr, ofB32 f.i, FV.lim FV.zero (FV.ofInt 100) (ofB32 sp))
        else if frozen then (ofB32 f.spr, ofB32 f.i, ofB32 f.ctrl)
        else fanLoop r (ofB32 f.spr) (ofB32 f.i) (ofB32 sp) speed
      let learn := f.learn.map (fun l =>
        if l.till ≤ s.clk.el + 5000000000 then { l with sum := toB32 (sAdd (ofB32 l.sum) speed), n := l.n + 1 } else l)
      let s2 := (s1.fanM n (fun f => { f with
        updAt := s.clk.el, sp := sp, spr := toB32 spr, i := toB32 i, ctrl := toB32 ctrl, learn := learn })).wri
        FAN_STAT_STALE n (b2n stale)
      let own := FV.zero.lt (s2.fanOwn n).1
      let rise := own && !f.ownWas && speed.eqv FV.zero && (st == 0 || st == 2 || st == 6) && f.pronkEnd.isNone
      let s3 := s2.fanM n (fun f => { f with ownWas := own })
      let s4 := if rise then s3.pronkStart n r
        else if st = 0 || st = 2 then s3.wri FAN_STAT_STATE n (if own then 2 else 0) else s3
      let s5 := s4.fanApply n
      let s6 := if s5.rdi FAN_MODE_MANUAL n = 0 then s5.wri FAN_MAN_DRIVE n (toB32 (s5.fanPct n)) else s5
      ok (s6.fanAge n r)

/-- TACH_EDGE (R418, R423): a falling edge is timed at 10 ns and the speed is the mean over the last PPR
intervals. -/
def execTachEdge (fan : Fin 8) (s : State) : Host.Outcome State Fault Refusal := s.powered <|
  let n := fan.val
  match s.crec C_FAN_CHANNEL n with
  | none => ok s
  | some r =>
    let t := s.clk.el / 10 * 10
    let ppr := r.v C_FAN_PPR
    let gaps := match (s.fan n).lastEdge with
      | some e => if t < e + 1000000000 then keepLast ppr ((s.fan n).gaps ++ [t - e]) else []
      | none => []
    let s1 := s.fanM n (fun f => { f with lastEdge := some t, gaps := gaps })
    if gaps.length < ppr then ok s1
    else
      let v := sDiv (FV.ofInt 60000000000) (FV.ofInt gaps.sum)
      if v.lt (ofB32 (r.v C_FAN_MIN_RPM)) then ok (s1.wri FAN_SPEED_V n 0)
      else ok ((s1.wri FAN_SPEED_V n (toB32 v)).wri FAN_STAT_TRIES n 0)

/-- PRONK_END (R422, R423): on MIN_RPM, or after PRONK_MS; with the speed still 0 a failed start. -/
def execPronkEnd (fan : Fin 8) (s : State) : Host.Outcome State Fault Refusal := s.powered <|
  let n := fan.val
  match s.crec C_FAN_CHANNEL n, (s.fan n).pronkEnd with
  | some r, some e =>
    let speed := ofB32 (s.rdi FAN_SPEED_V n)
    if (ofB32 (r.v C_FAN_MIN_RPM)).le speed then ok (s.fanResume n)
    else if e ≤ s.clk.el then
      (if speed.eqv FV.zero then ok (s.failedStart n r) else ok (s.fanResume n))
    else ok s
  | _, _ => ok s

/-- STALL_OFF_END (R422, R423): OFF_MS have passed and a retry pronk starts. -/
def execStallOffEnd (fan : Fin 8) (s : State) : Host.Outcome State Fault Refusal := s.powered <|
  let n := fan.val
  match s.crec C_FAN_CHANNEL n, (s.fan n).offEnd with
  | some r, some e =>
    if s.rdi FAN_STAT_STATE n = 3 && decide (e ≤ s.clk.el) then ok ((s.inci FAN_STAT_TRIES n 1).pronkStart n r) else ok s
  | _, _ => ok s

/-- Enter tach_lost (R424). -/
def State.tachLost (s : State) (n : Nat) : State :=
  (((((s.learnFail n).fanM n (fun f => { f with pronkEnd := none })).wri FAN_STAT_TACH_LOST n 1).wri FAN_STAT_STATE n 5).raise
    9 (16 + n)).fanApply n

/-- TACH_LOST (R424): no edge for three intervals, at least 10 ms. -/
def execTachLost (fan : Fin 8) (s : State) : Host.Outcome State Fault Refusal := s.powered <|
  let n := fan.val
  match s.crec C_FAN_CHANNEL n, (s.fan n).lastEdge with
  | some r, some e =>
    let wait := max 10000000 (3 * ((s.fan n).gaps.getLast?.getD 0))
    let st := s.rdi FAN_STAT_STATE n
    if (st == 2 || st == 6) && (ofB32 (r.v C_FAN_MIN_RPM)).le (ofB32 (s.rdi FAN_SPEED_V n)) &&
        s.rdi FAN_DRIVE_DRIVE n != 0 && decide (e + wait < s.clk.el) then
      if r.v C_FAN_CS_CHANNEL = 0xFF then ok (s.tachLost n)
      else
        let cur := match s.elem (208 + r.v C_FAN_CS_CHANNEL) with
          | some x => x.num
          | none => .nan
        if (ofB32 (r.v C_FAN_I_RUN_LO)).le cur && cur.le (ofB32 (r.v C_FAN_I_RUN_HI)) then ok (s.tachLost n)
        else ok (s.failedStart n r)
    else ok s
  | _, _ => ok s

/-- PRONK (R422): a test pronk of each named channel that runs. -/
def execPronk (mask : BitVec 8) (s : State) : Host.Outcome State Fault Refusal := s.powered <|
  ok ((List.range 8).foldl (fun t n =>
    match t.crec C_FAN_CHANNEL n with
    | some r =>
      let st := t.rdi FAN_STAT_STATE n
      if bitAt mask.toNat n && bitAt (t.rd FAN_CTRL_EN) n && st != 4 && st != 5 then t.pronkStart n r else t
    | none => t) s)

/-- LEARN (R425): baseline learning of each named channel starts. -/
def execLearn (mask : BitVec 8) (s : State) : Host.Outcome State Fault Refusal := s.powered <|
  ok ((List.range 8).foldl (fun t n =>
    match t.crec C_FAN_CHANNEL n with
    | some r =>
      let st := t.rdi FAN_STAT_STATE n
      if bitAt mask.toNat n && bitAt (t.rd FAN_CTRL_EN) n && (st == 0 || st == 2) then
        ((t.fanM n (fun f => { f with
          learn := some ⟨0, t.clk.el + r.v C_FAN_LEARN_S * 1000000000, [], 0, 0⟩ })).wri FAN_STAT_STATE n 6).fanApply n
      else t
    | none => t) s)

/-- LEARN_HOLD_END (R425): the mean of the hold's last 5 s is stored; after the eighth the baseline is
written; speeds that do not rise strictly end the learning. -/
def execLearnHoldEnd (fan : Fin 8) (s : State) : Host.Outcome State Fault Refusal := s.powered <|
  let n := fan.val
  match s.crec C_FAN_CHANNEL n, (s.fan n).learn with
  | some r, some l =>
    if s.clk.el < l.till then ok s
    else
      let mean := if l.n = 0 then FV.zero else sDiv (ofB32 l.sum) (FV.ofInt l.n)
      let prev := match l.vals.getLast? with
        | some p => ofB32 p
        | none => FV.zero
      if !prev.lt mean then ok ((s.learnFail n).fanResume n)
      else if l.k < 7 then
        ok ((s.fanM n (fun f => { f with
          learn := some ⟨l.k + 1, s.clk.el + r.v C_FAN_LEARN_S * 1000000000, l.vals ++ [toB32 mean], 0, 0⟩ })).fanApply n)
      else
        let vals := l.vals ++ [toB32 mean]
        let s1 := (List.range 8).foldl (fun t k => t.wrij FAN_BASE_V k n (listAt vals k 0)) s
        ok (((s1.fanM n (fun f => { f with learn := none })).raise 9 25).fanResume n)
  | _, _ => ok s

/-- STALL_LATCHED_CLEAR (R422, R423): the latch is released; a pronk when the speed is 0. -/
def execStallLatchedClear (fan : Fin 8) (s : State) : Host.Outcome State Fault Refusal := s.powered <|
  let n := fan.val
  match s.crec C_FAN_CHANNEL n with
  | none => ok s
  | some r =>
    if s.rdi FAN_STAT_STALL_LATCHED n = 1 then
      let s1 := s.wri FAN_STAT_STALL_LATCHED n 0
      if (ofB32 (s.rdi FAN_SPEED_V n)).eqv FV.zero then ok (s1.pronkStart n r) else ok (s1.fanResume n)
    else ok s

/-- TACH_LOST_CLEAR (R422, R424): on from the applied drive, or a pronk when the speed is 0. -/
def execTachLostClear (fan : Fin 8) (s : State) : Host.Outcome State Fault Refusal := s.powered <|
  let n := fan.val
  match s.crec C_FAN_CHANNEL n with
  | none => ok s
  | some r =>
    if s.rdi FAN_STAT_TACH_LOST n = 1 then
      let s1 := s.wri FAN_STAT_TACH_LOST n 0
      if (ofB32 (s.rdi FAN_SPEED_V n)).eqv FV.zero then ok (s1.pronkStart n r) else ok (s1.fanResume n)
    else ok s

/-- FAN_CTRL.EN becomes `v`: a channel that goes off ends its start, its stall-off and its learning; a latched or tach-lost
one keeps its state until the host clears it (R423, R424). -/
def State.fanEnable (s : State) (v : Nat) : State :=
  let was := s.rd FAN_CTRL_EN
  ((List.range 8).foldl (fun t n =>
    let st := t.rdi FAN_STAT_STATE n
    if bitAt was n && !bitAt v n && st != 4 && st != 5 then
      ((t.learnFail n).fanM n (fun f => { f with pronkEnd := none, offEnd := none, ownWas := false })).wri FAN_STAT_STATE n 0
    else t) (s.wr FAN_CTRL_EN (v % 256))).fansApply

/-- Registers and hidden state of the fan channels at their image values (R433, R436). -/
def State.fanImage (s : State) : State :=
  let en := ((List.range 8).map (fun n => if s.has C_FAN_CHANNEL n && s.cv C_FAN_EN n = 1 then 2 ^ n else 0)).sum
  (List.range 8).foldl (fun t n =>
    (((t.wri FAN_MODE_MANUAL n (t.cv C_FAN_MAN_INIT n)).wri FAN_SP_SP n (t.cv C_FAN_SP_INIT n)).wri
      FAN_MAN_DRIVE n 0).fanM n (fun f => { f with sp := t.cv C_FAN_SP_INIT n })) (s.wr FAN_CTRL_EN en)

/-- The baselines of an image (R436). -/
def State.fanBaseImage (s : State) : State :=
  (List.range 8).foldl (fun t n => (List.range 8).foldl (fun u k =>
    u.wrij FAN_BASE_V k n (match u.crec C_FAN_CHANNEL n with
      | some r => listAt r.vals (36 + k) 0
      | none => 0)) t) s

/-- Unit reset of FAN (R433). -/
def State.fanReset (s : State) : State :=
  let s1 := s.fanImage
  (List.range 8).foldl (fun t n =>
    let t1 := ((t.wri FAN_STAT_STALL_LATCHED n 0).wri FAN_STAT_TACH_LOST n 0).wri FAN_STAT_TRIES n 0
    let t2 := t1.fanM n (fun f => { f with learn := none })
    match t2.crec C_FAN_CHANNEL n with
    | none => t2.wri FAN_STAT_STATE n 0
    | some r => if (ofB32 (t2.rdi FAN_SPEED_V n)).eqv FV.zero then t2.pronkStart n r else t2.fanResume n) s1

end Sys2Proof.Machine
end

