-- ==== Sys2Proof/Machine/Chain.lean ====
section
/-! DEFINITION. Chain links and field dies: frames, validation, silence, RESUME, loss and training, and the
FCLK step (spec/01_architecture.md R19 to R33, R46; spec/02_host_and_reset.md R78). -/

namespace Sys2Proof.Machine

open Sys2Proof

/-- Change chain link `n`. -/
def State.linkM (s : State) (n : Nat) (f : ChainLink → ChainLink) : State := { s with links := listMod s.links n f }

/-- Chain link `n`. -/
def State.link (s : State) (n : Nat) : ChainLink := listAt s.links n {}

/-- Is link `n` trained, on a die that is present? -/
def State.linkUp (s : State) (n : Nat) : Bool := s.diePresent n && s.rdi CHN_STAT_TRAINED n == 1

/-- The records of a field die's configuration (R395). -/
def State.dieRecords (s : State) (d : Nat) : List CfgRec :=
  s.loader.recs.filter (fun r => r.sect == 0xC0 &&
    ((r.kind == 0 && r.v C_DIO_CHANNEL / 24 == d) || (r.kind == 1 && r.v C_AOUT_AOUT / 4 == d)))

/-- The standby or takeover command that outbound frames carry (R488, R492): none without a committed pair. -/
def State.standbyCmd (s : State) : Option Bool :=
  if (s.crec1 C_PAIRREC_MODE).isSome then
    match s.rd PAIR_STAT_ROLE with
    | 1 => some false
    | 2 => some true
    | _ => none
  else none

/-- OUTBOUND_FRAME (R19, R26, R79, R405, R409): each 1,000 TCLK cycles a trained link sends a frame with the
commands, RESUME when it waits, and the safe-state command from training until a RESUME. -/
def execOutboundFrame (link : Fin 2) (s : State) : Host.Outcome State Fault Refusal := s.powered <|
  let n := link.val
  let l := s.link n
  if !s.linkUp n || decide (s.clk.el < l.lastOut + 1000) then ok s
  else
    let (bits, codes, s1) := s.fioCommands n
    let f : OutFrame :=
      { count := l.count
        resume := l.resumeNext
        halt := l.halt
        safe := (l.safeCmd && !l.resumeNext) || s.unplatted
        timeout := s.rdi CHN_CTRL_TIMEOUT n
        dio := bits
        aout := codes
        fan := (List.range 4).map (fun k => s.rdi FAN_DRIVE_DRIVE (4 * n + k))
        standby := s.standbyCmd
        cfg := if l.cfgNext then some (s.dieRecords n) else none }
    ok ((s1.linkM n (fun x => { x with
      count := (x.count + 1) % 2 ^ 32
      resumeNext := false
      cfgNext := false
      safeCmd := x.safeCmd && !x.resumeNext
      lastOut := s.clk.el
      down := x.down ++ [f] })).emit (.chain n l.count f.resume f.halt f.safe))

/-- Does a received frame pass R23's sequence test, and the reference after it? -/
def frameTest (ref : Option Nat) (aligned crcOk : Bool) (t : Nat) : Bool × Option Nat :=
  if aligned && crcOk then
    match ref with
    | none => (true, some t)
    | some r => (decide (t = (r + 1) % 2 ^ 32), some t)
  else (false, ref)

/-- What a field die does with a valid frame (R23, R26, R324, R395, R432, R488). -/
def State.dieApply (s : State) (d : Nat) (f : OutFrame) : State :=
  let was := s.die d
  let halt := (was.halt && f.cfg.isNone) || f.halt
  let leave := f.resume && !halt && !f.safe
  let s1 := s.dieM d (fun x => { x with
    lastFrame := s.clk.el
    echo := f.count
    validSince := some (x.validSince.getD s.clk.el)
    timeoutMs := f.timeout
    halt := halt
    cfg := f.cfg.getD x.cfg
    configured := x.configured || f.cfg.isSome
    standby := f.standby.getD x.standby
    dio := f.dio
    aout := f.aout
    fan := f.fan })
  let s2 := if (f.safe || f.halt) && !was.safe then
      s1.dieM d (fun x => { x with safe := true, safeAt := s.clk.el, held := was.dio })
    else if leave then s1.dieM d (fun x => { x with safe := false }) else s1
  let s3 := if f.cfg.isSome then
      ((List.range 24).foldl (fun t i => t.wrij FIO_CH_DIR i d (t.dieDio d i C_DIO_DIR)) s2).afeRestart d
    else s2
  s3.outRefresh d

/-- FIELD_DIE_FRAME_RECEIVE (R23, R25, R26, R432): the next frame on the link reaches the die. -/
def execFieldDieFrameReceive (link : Fin 2) (aligned crcOk : Bool) (s : State) : Host.Outcome State Fault Refusal :=
  let n := link.val
  match (s.link n).down with
  | [] => ok s
  | f :: rest =>
    let s1 := s.linkM n (fun x => { x with down := rest })
    let (good, ref) := frameTest (s.die n).ref aligned crcOk f.count
    let s2 := s1.dieM n (fun x => { x with ref := ref })
    if good then ok (s2.dieApply n f).fansApply
    else ok (s2.dieM n (fun x => { x with validSince := none }))

/-- INBOUND_FRAME_SEND (R19, R22): once per outbound frame period the die sends its samples and status. -/
def execInboundFrameSend (die : Fin 2) (s : State) : Host.Outcome State Fault Refusal :=
  let n := die.val
  let d := s.die n
  if !s.linkUp n || decide (s.clk.el < d.lastSend + 1000) then ok s
  else
    let f : InFrame := ⟨d.echo, s.fieldCount, d.safe, d.samples⟩
    ok (((s.linkM n (fun x => { x with up := x.up ++ [f] })).dieM n (fun x => { x with
      samples := [], lastSend := s.clk.el })).emit (.chainIn n f.echo f.counter f.safe))

/-- The device time of a field sample (R22): `a` when the comma arrived, `f` the frame's counter, `t` the
sample's. -/
def sampleTime (a f t : Nat) : Int := (a : Int) - 2000 + 10 * sint 32 (t + 2 ^ 32 - f % 2 ^ 32)

/-- INBOUND_FRAME (R22 to R24, R27): the next frame on the link reaches the core. -/
def execInboundFrame (link : Fin 2) (aligned crcOk : Bool) (s : State) : Host.Outcome State Fault Refusal := s.powered <|
  let n := link.val
  match (s.link n).up with
  | [] => ok s
  | f :: rest =>
    let s1 := s.linkM n (fun x => { x with up := rest })
    let (good, ref) := frameTest (s.link n).ref aligned crcOk f.echo
    let s2 := s1.linkM n (fun x => { x with ref := ref })
    if good then
      let s3 := s2.linkM n (fun x => { x with
        lastValid := s.clk.el, heard := true, validSince := some (x.validSince.getD s.clk.el), safeRep := f.safe })
      let s4 := ((s3.wri CHN_STAT_LOST n 0).wri CHN_STAT_SAFE n (b2n f.safe)).raiseIf
        (f.safe && !(s.link n).safeRep) 25 (2 + n)
      ok (f.samples.foldl (fun t x =>
        t.produce x.ep x.val x.fmt (sampleTime s.clk.now f.counter x.stamp % (2 ^ 48 : Nat)).toNat) s4)
    else
      let s3 := s2.linkM n (fun x => { x with validSince := none })
      ok ((if aligned && !crcOk then s3.inci CHN_ERR_CRC n 1 else s3.inci CHN_ERR_SEQ n 1).raise 25 (4 + n))

/-- The thermal group of a field die's sensors: bits 12 to 17 or 18 to 23 (R427). -/
def dieSensors (n : Nat) : Nat := if n = 0 then 0x3F000 else 0xFC0000

/-- LINK_LOST (R24, R427): 3,000 ns after the last valid inbound comma. -/
def execLinkLost (link : Fin 2) (s : State) : Host.Outcome State Fault Refusal := s.powered <|
  let n := link.val
  if s.diePresent n && s.rdi CHN_STAT_LOST n == 0 && decide ((s.link n).lastValid + 3000 ≤ s.clk.el) then
    ok (((((s.wri CHN_STAT_LOST n 1).wri CHN_STAT_SAFE n 1).wr THM_STALE_STALE
      (s.rd THM_STALE_STALE ||| (dieSensors n &&& s.thm.seen))).linkM n (fun x => { x with validSince := none })).raise 25 n)
  else ok s

/-- SILENCE_TIMEOUT (R25, R406, R411, R419): no valid outbound frame for the timeout, and the die enters safe
state by itself. -/
def execSilenceTimeout (die : Fin 2) (s : State) : Host.Outcome State Fault Refusal :=
  let n := die.val
  let d := s.die n
  if s.diePresent n && !d.safe && decide (d.lastFrame + d.timeoutMs * 1000000 ≤ s.clk.el) then
    ok ((s.enterSafe n).dieM n (fun x => { x with validSince := none })).fansApply
  else ok s

/-- RESUME (R26): the next outbound frame carries RESUME. -/
def execResume (link : Fin 2) (s : State) : Host.Outcome State Fault Refusal := s.powered <|
  if s.diePresent link then ok (s.linkM link (fun x => { x with resumeNext := true })) else ok s

/-- May the core send RESUME by itself (R26): Run, a committed image, 1 ms of valid frames both ways after the
latest of safe entry, training and commit? -/
def State.autoDue (s : State) (n : Nat) : Bool :=
  s.linkUp n && s.rdi CHN_CTRL_AUTO_RESUME n == 1 && s.running && s.loader.committed && (s.link n).safeRep &&
    (match (s.link n).validSince, (s.die n).validSince with
    | some a, some b =>
      decide (max (max a b) (max (s.die n).safeAt (max (s.link n).trainEnd s.loader.commitTime)) + 1000000 ≤ s.clk.el)
    | _, _ => false)

/-- AUTO_RESUME (R26). -/
def execAutoResume (link : Fin 2) (s : State) : Host.Outcome State Fault Refusal := s.powered <|
  if s.autoDue link then ok (s.linkM link (fun x => { x with resumeNext := true })) else ok s

/-- Field die `n` and its link are reset (R76, R78): safe state, link down until training ends. -/
def State.chainReset1 (s : State) (n : Nat) : State :=
  if !s.diePresent n then s
  else
    let s1 := (s.enterSafe n).dieM n (fun x => { x with ref := none, validSince := none, samples := [] })
    (s1.linkM n (fun x => { x with
      training := true, down := [], up := [], ref := none, validSince := none, resumeNext := false })).wri
      CHN_STAT_TRAINED n 0

/-- CHAIN_RESET (R78): each named field die and its link. -/
def execChainReset (mask : BitVec 2) (s : State) : Host.Outcome State Fault Refusal := s.powered <|
  ok ((List.range 2).foldl (fun t n => if bitAt mask.toNat n then t.chainReset1 n else t) s).fansApply

/-- Link `n` is trained (R19, R21, R78, R79): the frame count is loaded, the configuration is re-sent, frames
command safe state until a RESUME. -/
def State.trained (s : State) (n : Nat) : State :=
  if !s.diePresent n then s
  else
    ((s.linkM n (fun x => { x with
      training := false
      count := s.clk.now / 1000 % 2 ^ 32
      cfgNext := s.loader.committed
      safeCmd := true
      resumeNext := false
      ref := none
      down := []
      up := []
      trainEnd := s.clk.el })).dieM n (fun x => { x with ref := none })).wri CHN_STAT_TRAINED n 1

/-- LINK_TRAINING_COMPLETE (R21, R78, R79). -/
def execLinkTrainingComplete (link : Fin 2) (s : State) : Host.Outcome State Fault Refusal := s.powered <|
  if (s.link link).training then ok (s.trained link) else ok s

/-- CHN_CTRL at the values of the committed CHAIN records (R28). -/
def State.chainCommit (s : State) : State :=
  (List.range 2).foldl (fun t n =>
    (t.wri CHN_CTRL_TIMEOUT n (t.cv C_CHAIN_TIMEOUT n)).wri CHN_CTRL_AUTO_RESUME n (t.cv C_CHAIN_AUTO_RESUME n)) s

/-- FCLK_STEP (R29, R32): the commanded frequency takes over, and every unit keeps its state. -/
def execFclkStep (s : State) : Host.Outcome State Fault Refusal := s.powered <|
  if s.rd CLK_STAT_FSTEP = s.rd THM_STAT_ENFORCED then ok s
  else ok (((s.wr CLK_STAT_FSTEP (s.rd THM_STAT_ENFORCED)).wr CLK_STAT_FBUSY 0).emit (.fclk (s.rd THM_STAT_ENFORCED)))

end Sys2Proof.Machine
end

