-- ==== Sys2Proof/Machine/Pads.lean ====
section
/-! DEFINITION. The pads of the timed pins and the reflex matrix that joins them (spec/08_stakeout_reflex.md R272,
R275 to R277, R288 to R291), and the edge times sent to the transits (spec/05_pixel_transits.md R170). -/

namespace Sys2Proof.Machine

open Sys2Proof

/-! ## Edge times to the transits -/

/-- Transit `t`. -/
def State.trn (s : State) (t : Nat) : Transit := listAt s.pix.trn t {}

/-- TRN_STATn shows the open components and the queued edge times. -/
def State.trnShow (s : State) (t : Nat) : State :=
  (s.wri TRN_STAT_OPEN t (s.trn t).comps.length).wri TRN_STAT_TRGQ t (s.trn t).edges.length

/-- Apply `f` to transit `t`, and show its counts. -/
def State.trnM (s : State) (t : Nat) (f : Transit → Transit) : State :=
  ({ s with pix := { s.pix with trn := listMod s.pix.trn t f } }).trnShow t

/-- Does transit `t` run: enabled, with a stream, and the LINE region marked initialised (R172)? -/
def State.trnOn (s : State) (t : Nat) : Bool :=
  s.winPresent 15 && s.rdi TRN_CTRL_EN t == 1 && s.has C_STREAM_TRANSIT t && s.marked 2

/-- The timed-pin unit sends the time of a rising edge of pin `p` to every transit that names it (R170). -/
def State.sendEdge (s : State) (p time : Nat) : State :=
  (List.range 8).foldl (fun s t =>
    if s.trnOn t && s.cv C_STREAM_TRIG_PIN t == p then
      s.trnM t (fun x => { x with edgeIn := x.edgeIn ++ [(time, s.time.stepSum)] })
    else s) s

/-! ## Fabric flags (R288) -/

/-- The source of a fabric flag by its code. -/
def State.flagSource (s : State) (c : Nat) : Bool :=
  if c < 0x30 then bitAt (s.rdij FIO_IN_STATE 0 (c / 24)) (c % 24)
  else if c = 0x40 || c = 0x41 then s.rdi CHN_STAT_LOST (c - 0x40) == 1
  else if c = 0x42 then s.hostLost
  else if c = 0x43 then s.thermWarn
  else if c = 0x44 then s.rd THM_STAT_ENFORCED != 0
  else if c = 0x45 then s.rd TAL_STAT_FULL == 1
  else if c = 0x46 then s.rd STK_STAT_FULL == 1
  else if 0x48 ≤ c && decide (c < 0x4C) then
    s.rdi VL_STAT_LOST (c - 0x48) == 1 || bitAt (s.rdi VL_STAT_STATUS (c - 0x48)) 2 || bitAt (s.rdi VL_STAT_STATUS (c - 0x48)) 3
  else if 0x80 ≤ c && decide (c < 0xC0) then
    s.rdi LOOP_STAT_LIMIT_HI (c - 0x80) == 1 || s.rdi LOOP_STAT_LIMIT_LO (c - 0x80) == 1
  else if 0x100 ≤ c && decide (c < 0x110) then bitAt (s.rd RFX_HFLAG_FLAG) (c - 0x100)
  else false

/-- The value of fabric flag `n` now; 0 without a record. -/
def State.flagNow (s : State) (n : Nat) : Bool :=
  match s.crec C_FLAG_FLAG n with
  | some r => s.flagSource (r.v C_FLAG_SOURCE) != (r.v C_FLAG_INVERT == 1)
  | none => false

/-! ## Pads (R272 to R277, R290) -/

/-- Pin `p`. -/
def State.pin (s : State) (p : Nat) : TPin := listAt s.tpin.pins p {}

/-- Apply `f` to pin `p`. -/
def State.pinM (s : State) (p : Nat) (f : TPin → TPin) : State :=
  { s with tpin := { s.tpin with pins := listMod s.tpin.pins p f } }

/-- Do the timed-pin outputs drive (R49, R277, R292): committed, not Unplatted, not standby, not in Thermal Halt? -/
def State.pinsDrive (s : State) : Bool :=
  !s.host.halted && s.loader.committed && !s.unplatted && !(s.winPresent 31 && s.rd PAIR_STAT_ROLE == 2)

/-- Target `c` of the stake-out engine. -/
def State.target (s : State) (c : Nat) : Target := assocGetD s.stk.targets c {}

/-- Reflex output `k` is active. -/
def State.rfxOut (s : State) (k : Nat) : Bool := bitAt s.rfx.outs k

/-- The level that the device drives on pin `p`; none for high impedance (R272, R275 to R277, R290). Pins of PPS
generators and of ALIVE_OUT are driven by those units (R129, R486). -/
def State.driveVal (s : State) (p : Nat) : Option Bool :=
  if !s.pinsDrive then none
  else
    match s.crec C_PIN_PIN p with
    | some r =>
      let m := r.v C_PIN_MODE
      if m < 4 then none
      else
        let base := match m with
          | 4 => (s.target p).active
          | 5 => (s.pin p).pulse
          | 6 => bitAt (s.rd TPIN_DRIVE0_ACTIVE + s.rd TPIN_DRIVE1_ACTIVE * 2 ^ 32) p
          | _ => s.rfxOut p
        let gated := match r.v C_PIN_GATE with
          | 1 => base && !s.rfxOut p
          | 2 => base || s.rfxOut p
          | _ => base
        let active := gated && !bitAt (s.rd SYS_URESET_UNIT) 11
        some (active != (r.v C_PIN_POLARITY == 1))
    | none =>
      match (s.recs 0x110 1).find? (fun r => r.v C_PPS_PIN == p) with
      | some r => some (listAt s.time.pps (r.v C_PPS_INDEX) {}).fall.isSome
      | none =>
        match s.crec1 C_PAIRREC_MODE with
        | some r => if r.v C_PAIRREC_ALIVE_OUT = p then some s.pair.aliveOut else none
        | none => none

/-- The pad level of pin `p`: what drives it, else the level from outside. -/
def State.padLevel (s : State) (p : Nat) : Bool := (s.pin p).drv.getD (s.pin p).ext

/-- The pad levels as one number. -/
def State.padBits (s : State) : Nat := ((List.range 64).map (fun p => if s.padLevel p then 2 ^ p else 0)).sum

/-- Drive every pin as its unit says; a change of level is an output. -/
def State.padDrive (s : State) : State :=
  (List.range 64).foldl (fun s p =>
    let v := s.driveVal p
    if v = (s.pin p).drv then s
    else
      let s1 := s.pinM p (fun x => { x with drv := v })
      match v with
      | some b => s1.emit (.pin p b s.clk.now)
      | none => s1) s

/-! ## Reflex matrix (R288, R289) -/

/-- Matrix inputs: pads and fabric flags. -/
def State.rfxInputs (s : State) : Nat := s.padBits + s.rfx.flags * 2 ^ 64

/-- The lookup function of an output on matrix inputs `i` (R289). -/
def lutValue (r : CfgRec) (i : Nat) : Bool :=
  let ix := ((List.range 6).map (fun j =>
    let sel := listAt r.vals (C_REFLEX_OUT_SEL0.field + j) 0xFF
    if sel != 0xFF && bitAt i sel then 2 ^ j else 0)).sum
  bitAt (r.v C_REFLEX_OUT_LUT) ix

/-- Is the latch of an output held reset by its RESET_SEL input (R289)? -/
def latchReset (r : CfgRec) (i : Nat) : Bool :=
  let sel := r.v C_REFLEX_OUT_RESET_SEL
  sel != 0xFF && (bitAt i sel != (r.v C_REFLEX_OUT_RESET_INV == 1))

/-- The latches. -/
def State.latches (s : State) : Nat := s.rd RFX_LATCH0_SET + s.rd RFX_LATCH1_SET * 2 ^ 32

/-- Set latch `k`. -/
def State.latchPut (s : State) (k : Nat) (b : Bool) : State :=
  if k < 32 then s.wr RFX_LATCH0_SET (setBit (s.rd RFX_LATCH0_SET) k b)
  else s.wr RFX_LATCH1_SET (setBit (s.rd RFX_LATCH1_SET) (k - 32) b)

/-- Evaluate output `k` on inputs `i` (R289): latch, stretch, counting and event of a rise. -/
def State.rfxStep (s : State) (i k : Nat) : State :=
  match s.crec C_REFLEX_OUT_OUT k with
  | none => { s with rfx := { s.rfx with outs := setBit s.rfx.outs k false } }
  | some r =>
    let f := lutValue r i
    let held := latchReset r i
    let s1 := if r.v C_REFLEX_OUT_LATCH = 1 then s.latchPut k (!held && (f || bitAt s.latches k)) else s
    let raw := if r.v C_REFLEX_OUT_LATCH = 1 then bitAt s1.latches k else f
    let was := s.rfxOut k
    let now := raw || decide (s.clk.el < listAt s.rfx.stretch k 0)
    let s2 := { s1 with rfx := { s1.rfx with outs := setBit s1.rfx.outs k now } }
    if now && !was then
      let s3 := { s2 with rfx := { s2.rfx with stretch := listSet s2.rfx.stretch k (s.clk.el + r.v C_REFLEX_OUT_STRETCH) } }
      (s3.wrapi RFX_CNT_COUNT k 1).raiseIf (decide (r.v C_REFLEX_OUT_EVT < 16)) 10 (r.v C_REFLEX_OUT_EVT)
    else s2

/-- Show matrix inputs and outputs and pad levels. -/
def State.rfxShow (s : State) : State :=
  let p := s.padBits
  let o := s.rfx.outs
  let s1 := ((s.wr TPIN_IN0_LEVEL p).wr TPIN_IN1_LEVEL (p / 2 ^ 32)).wr RFX_IN0_IN p
  (((s1.wr RFX_IN1_IN (p / 2 ^ 32)).wr RFX_IN2_IN s.rfx.flags).wr RFX_OUT0_OUT o).wr RFX_OUT1_OUT (o / 2 ^ 32)

/-- Pads and matrix settle: outputs are driven, functions evaluated, until nothing changes (at most `n` rounds;
DESIGN CHOICE log 16 for a matrix that never settles). -/
def State.settle : Nat → State → State
  | 0, s => s
  | n + 1, s =>
    let s1 := s.padDrive
    let i := s1.rfxInputs
    let s2 := (List.range 64).foldl (fun s k => s.rfxStep i k) s1
    if s2.rfx.outs = s1.rfx.outs then s2 else State.settle n s2

/-- A pad, a flag, a driver or a setting has changed: pads and matrix follow. -/
def State.padRefresh (s : State) : State := (State.settle 128 s).rfxShow

end Sys2Proof.Machine
end

