-- ==== Sys2Proof/Machine/Time.lean ====
section
/-! DEFINITION. Device time and the datum servo: the clock, the sources, holdover, slewing, steps, the pulse
generators (spec/04_time_and_gnss.md R118 to R132). -/

namespace Sys2Proof.Machine

open Sys2Proof

/-- Change the time base. -/
def State.timeM (s : State) (f : TimeUnit → TimeUnit) : State := { s with time := f s.time }

/-- The second of device time. -/
def State.sec (s : State) : Nat := s.clk.now / 1000000000

/-- Nanoseconds of device time since the last second boundary. -/
def State.subSec (s : State) : Nat := s.clk.now % 1000000000

/-- `n` TCLK cycles pass (R118): each adds 1 ns plus ADJ × 2^-32 ns through the fraction accumulator. In Thermal Halt
only the clock of the always-on domain goes on (R82), and the operating time stands (R528). -/
def State.advance (s : State) (n : Nat) : State :=
  if s.host.halted then
    let u := s.spoor
    { s with clk := { s.clk with el := s.clk.el + n, rtc := s.clk.rtc + n }, spoor := { u with optimeEl := u.optimeEl + n } }
  else
  let t : Int := ((s.clk.now * 2 ^ 32 + s.clk.frac : Nat) : Int) + (n : Int) * ((2 ^ 32 : Nat) + sint 32 (s.rd TIME_RATE_ADJ))
  let u := t.toNat
  { s with clk := { s.clk with el := s.clk.el + n, now := u / 2 ^ 32 % 2 ^ 64, frac := u % 2 ^ 32, rtc := s.clk.rtc + n } }

/-- One TCLK cycle with no command: time passes. -/
def State.tick (s : State) : State := s.advance 1

/-- The nibbles of DATUM_ORDER up to the first 0 (R121, R159). -/
def datumCodes (w : Nat) : Nat → List Nat
  | 0 => []
  | k + 1 => if w % 16 = 0 then [] else w % 16 :: datumCodes (w / 16) k

/-- The listed sources in order: code 4 and repeats passed over, code 1 ignored on a DV-9620 (R121). -/
def State.datumOrder (s : State) : List Nat :=
  (datumCodes (s.cv1 C_TIMEBASE_DATUM_ORDER) 4).foldl (fun l c =>
    if c = 4 || c > 4 || l.contains c || (c == 1 && s.is20) then l else l ++ [c]) []

/-- The state of source `c` (1 to 3). -/
def State.datum (s : State) (c : Nat) : Datum := listAt s.time.srcs (c - 1) {}

/-- Is source `c` usable now (R122, R147)? A grandmaster never uses code 2 (R474). -/
def State.datumUsable (s : State) (c : Nat) : Bool :=
  let d := s.datum c
  d.usable && decide (s.clk.el < d.last + s.cv1 C_TIMEBASE_LOST_TIME * 1000000000) &&
    !(c == 1 && s.rd TIME_DATUM_SPOOF == 1) && !(c == 2 && s.rd TWN_STAT_GM == 1)

/-- A measurement of source `c` (R122): consistent when it agrees with the one before within `tol`; after
QUALIFY seconds of consistent measurements the source is usable. -/
def State.datumMeas (s : State) (c : Nat) (off : Int) (tol : Nat) : State :=
  s.timeM (fun t => { t with srcs := listMod t.srcs (c - 1) (fun d =>
    let good := match d.off with
      | some o => decide ((off - o).natAbs ≤ tol)
      | none => true
    let gap := decide (d.last + s.cv1 C_TIMEBASE_LOST_TIME * 1000000000 ≤ s.clk.el)
    let since := match d.since with
      | some e => if good && !gap then e else s.clk.el
      | none => s.clk.el
    { off := some off
      since := some since
      last := if good then s.clk.el else d.last
      usable := (d.usable && !gap) ||
        (good && decide (since + s.cv1 C_TIMEBASE_QUALIFY * 1000000000 ≤ s.clk.el)) } ) })

/-- The highest-priority usable source, 0 when there is none or FORCE_HOLD is 1. -/
def State.bestDatum (s : State) : Nat :=
  if s.rd TIME_CTRL_FORCE_HOLD = 1 then 0
  else (s.datumOrder.find? s.datumUsable).getD 0

/-- CANDIDATE: the first listed source above the active one that has begun to qualify. -/
def State.candidate (s : State) (active : Nat) : Nat :=
  let above := s.datumOrder.takeWhile (fun c => c != active)
  (above.find? (fun c => (s.datum c).since.isSome && !s.datumUsable c &&
    decide (s.clk.el < (s.datum c).last + s.cv1 C_TIMEBASE_LOST_TIME * 1000000000))).getD 0

/-- The slew limit of TIME_SLEW. -/
def State.slewLimit (s : State) : Nat := s.rd TIME_SLEW_LIMIT

/-- A rate in ns/s as an ADJ term (2^-32 ns/ns), nearest. -/
def rateAdj (nsps : Int) : Int := (nsps * (2 ^ 32 : Nat) + 500000000) / 1000000000

/-- Set TIME_DATUM.ACTIVE; DATUM_CHANGE when it changes (R122, R132). -/
def State.setActive (s : State) (a : Nat) : State :=
  if s.rd TIME_DATUM_ACTIVE = a then s else (s.wr TIME_DATUM_ACTIVE a).raise 2 7

/-- Write ADJ, held at its limit (R123). -/
def State.setAdj (s : State) (a : Int) : State :=
  let b := limI (-858993) 858993 a
  (s.wr TIME_RATE_ADJ (ucode 32 b)).raiseIf (decide (a ≠ b)) 2 10

/-- Set TIME_UNC; UNC_LIMIT when it rises past the limit (R132). -/
def State.setUnc (s : State) (u : Nat) : State :=
  let v := min u 0xFFFFFFFF
  let l := s.cv1 C_TIMEBASE_UNC_LIMIT
  (s.wr TIME_UNC_NS v).raiseIf (l != 0 && decide (s.rd TIME_UNC_NS ≤ l) && decide (l < v)) 2 9

/-- The uncertainty in holdover (R125). -/
def State.holdUnc (s : State) : Nat :=
  let t := FV.div f64 (FV.ofInt (s.clk.el - s.time.holdAt : Nat)) (FV.ofInt 1000000000)
  let r := ofB32 (s.cv1 C_TIMEBASE_HOLD_R)
  let d := ofB32 (s.cv1 C_TIMEBASE_HOLD_D)
  let g := FV.add f64 (FV.mul f64 r t) (FV.mul f64 (FV.mul f64 (FV.dec f64 5 1) d) (FV.mul f64 t t))
  (FV.add f64 (FV.ofInt s.time.uEntry) g).roundI.toNat

/-- No source drives the servo (R125): Holdover, Free-running or Initial. -/
def State.servoNone (s : State) : State :=
  let st := s.rd TIME_DATUM_STATE
  let s0 := (s.wr TIME_DATUM_SLEWING 0).wr TIME_DATUM_STEP_WAIT 0
  if st = 0 then
    if s.datumOrder.isEmpty || s.rd TIME_CTRL_FORCE_HOLD = 1 then
      (((s0.wr TIME_DATUM_STATE 3).setActive 4).wr TIME_UNC_NS 0xFFFFFFFF).setAdj
        (sint 32 (s.cv1 C_TIMEBASE_FREE_ADJ))
    else s0
  else if st = 1 then
    let s1 := (s0.timeM (fun t => { t with holdAt := s.clk.el, uEntry := s.rd TIME_UNC_NS })).wr TIME_DATUM_STATE 2
    ((s1.setActive 0).raise 2 5).setAdj s.time.freq
  else if st = 2 then (s0.setAdj s.time.freq).setUnc s0.holdUnc
  else s0.setAdj (sint 32 (s.cv1 C_TIMEBASE_FREE_ADJ))

/-- Is a step permitted (R127)? -/
def State.stepPermitted (s : State) : Bool :=
  s.rd TIME_CTRL_STEP_EN == 1 || s.rd TIME_CTRL_STEP_NOW == 1 || s.rd TIME_DATUM_STATE == 0

/-- Source `c` drives the servo (R122, R123, R126, R127). The frequency estimate and the uncertainty while
locked are free values: the spec gives no estimator. -/
def State.servoRun (s : State) (c : Nat) : State :=
  let off := (s.datum c).off.getD 0
  let (fq, s1) := s.free 1
  let (un, s2) := s1.free 2
  let freq := sint 32 fq
  let past := decide ((s.rd TIME_STEP_THR_NS : Int) < off.natAbs)
  let recent := match s.time.lastStep with
    | some e => decide (s.clk.el < e + 1000000000)
    | none => false
  let doStep := past && s.stepPermitted && !recent && s.time.step.isNone
  let slew : Int := if off.natAbs ≤ 10 || doStep then 0 else limI (-(s.slewLimit : Int)) s.slewLimit (-off)
  let s3 := s2.timeM (fun t => { t with
    freq := limI (-858993) 858993 freq
    step := if doStep then some (-off) else t.step
    stepSec := if doStep then s.sec else t.stepSec })
  let s4 := ((s3.wr TIME_OFFSET_NS (ucode 32 (satS 32 off))).wr TIME_DATUM_SLEWING (b2n (decide (slew ≠ 0)))).wr
    TIME_DATUM_STEP_WAIT (b2n (past && !s.stepPermitted))
  let s5 := (s4.setAdj (freq + rateAdj slew)).setUnc (un % 2 ^ 32)
  let s6 := s5.setActive c
  if s.rd TIME_DATUM_STATE = 1 then s6 else (s6.wr TIME_DATUM_STATE 1).raise 2 6

/-- SERVO_UPDATE (R119, R122 to R127): once in each second of device time. A standby follows the primary and its datum
list is suspended (R489). -/
def execServoUpdate (s : State) : Host.Outcome State Fault Refusal := s.powered <|
  if s.time.servoSec = s.sec then ok s
  else if s.standby then ok (s.timeM (fun t => { t with servoSec := s.sec }))
  else
    let s0 := s.timeM (fun t => { t with
      servoSec := s.sec
      srcs := t.srcs.map (fun d =>
        if d.last + s.cv1 C_TIMEBASE_LOST_TIME * 1000000000 ≤ s.clk.el then
          { d with usable := false, since := none } else d) })
    let c := s0.bestDatum
    let s1 := if c = 0 then s0.servoNone else s0.servoRun c
    let s2 := s1.wr TIME_DATUM_CANDIDATE (s1.candidate c)
    if s2.rd TIME_DATUM_STATE = 1 then ok { s2 with clk := { s2.clk with rtc := s2.clk.now } }
    else ok s2

/-- The time base's part of a step (R128): Δ is added to device time, measured offsets move with it, STEP is
raised, STEP_NOW clears. -/
def State.timeStep (s : State) (d : Int) : State :=
  let now' := ((s.clk.now : Int) + d).toNat % 2 ^ 64
  let due := s.time.servoSec != s.sec
  let s1 := { s with clk := { s.clk with now := now' } }
  let s2 := s1.timeM (fun t => { t with
    step := none
    stepSum := t.stepSum + d
    lastStep := some s.clk.el
    servoSec := if due then s1.sec + 1 else s1.sec
    srcs := t.srcs.map (fun x => { x with off := x.off.map (fun o => o + d) }) })
  (s2.wr TIME_CTRL_STEP_NOW 0).raise 2 4

/-- A step that falls due (R127): scheduled, and a second boundary has come. -/
def State.stepDue (s : State) : Option Int := if s.time.stepSec = s.sec then none else s.time.step

/-- A write of TIME_HREF_HI (R124): the pair is matched with the newest HPIN edge of the last second. -/
def execTimeHrefWrite (hi : Word) (s : State) : Host.Outcome State Fault Refusal := s.powered <|
  let lo := assocGetD s.host.heldLo 0x20028 (s.rd TIME_HREF_LO_HREF)
  match s.time.hpin with
  | some (t, e) =>
    if s.clk.el ≤ e + 1000000000 then
      let tai : Nat := lo + hi.toNat * 2 ^ 32
      let (tol, s1) := s.free 3
      ok (((s1.wr TIME_HREF_LO_HREF lo).wr TIME_HREF_HI_HREF hi.toNat).datumMeas 3 ((t : Int) - (tai : Int)) tol)
    else ok (s.inc TIME_DATUM_HREF_ERR 1)
  | none => ok (s.inc TIME_DATUM_HREF_ERR 1)

/-- HPIN_EDGE (R124): a rising edge on HPIN is captured. -/
def execHpinEdge (s : State) : Host.Outcome State Fault Refusal := s.powered <|
  if s.cv1 C_TIMEBASE_HPIN = 0xFF then ok s
  else ok (s.timeM (fun t => { t with hpin := some (s.clk.now, s.clk.el) }))

/-- The pulse width of a generator in ns (R129). -/
def State.ppsWidth (s : State) (r : CfgRec) : Nat :=
  let w := r.v C_PPS_WIDTH
  let h := r.v C_PPS_HOLD_WIDTH
  1000 * (if 2 ≤ s.rd TIME_DATUM_STATE && h != 0 then h else w)

/-- PPS_EDGE (R129, R130): at a second boundary that comes at least 0.5 s after the last rising edge. -/
def execPpsEdge (gen : Fin 4) (s : State) : Host.Outcome State Fault Refusal := s.powered <|
  match s.crec C_PPS_INDEX gen with
  | none => ok s
  | some r =>
    let p := listAt s.time.pps gen {}
    let early := match p.rise with
      | some e => decide (s.clk.el < e + 500000000 + s.subSec)
      | none => false
    if p.sec = s.sec || early then ok s
    else
      let s1 := s.timeM (fun t => { t with pps := listSet t.pps gen ⟨s.sec, some s.clk.el, some (s.clk.el + s.ppsWidth r)⟩ })
      ok ((s1.sendEdge (r.v C_PPS_PIN) s.clk.now).padRefresh.raise 2 gen)

/-- PPS_PULSE_END (R130): the pulse has lasted its width in elapsed time. -/
def execPpsPulseEnd (gen : Fin 4) (s : State) : Host.Outcome State Fault Refusal := s.powered <|
  let p := listAt s.time.pps gen {}
  match p.fall with
  | some e =>
    if e ≤ s.clk.el then
      let s1 := s.timeM (fun t => { t with pps := listSet t.pps gen { p with fall := none } })
      ok s1.padRefresh
    else ok s
  | none => ok s

/-- SPOOF_HOLD_END (R147): the bar has run out. -/
def execSpoofHoldEnd (s : State) : Host.Outcome State Fault Refusal := s.powered <|
  if s.rd TIME_DATUM_SPOOF = 1 && decide (s.time.spoofUntil ≤ s.clk.el) then
    ok ((s.wr TIME_DATUM_SPOOF 0).timeM (fun t => { t with
      srcs := listMod t.srcs 0 (fun d => { d with usable := false, since := none }) }))
  else ok s

/-- The time base takes the settings of a new image (R99, R160): step permission, slew limit, threshold. -/
def State.timeCommit (s : State) : State :=
  ((s.wr TIME_CTRL_STEP_EN (s.cv1 C_TIMEBASE_STEP_EN)).wr TIME_SLEW_LIMIT (s.cv1 C_TIMEBASE_SLEW)).wr
    TIME_STEP_THR_NS (s.cv1 C_TIMEBASE_STEP_THR)

/-- Device time is loaded from the RTC (R119). -/
def State.timeFromRtc (s : State) : State :=
  let t := s.clk.rtc
  let s1 := { s with clk := { s.clk with now := t, frac := 0 } }
  { s1 with time := { servoSec := t / 1000000000, pps := (List.range 4).map (fun _ => { sec := t / 1000000000 }) } }

end Sys2Proof.Machine
end

