-- ==== Sys2Proof/Machine/Gnss.lean ====
section
/-! DEFINITION. Satellite navigation: acquisition, tracking channels, interference, bursts, snapshots and
the fix engine (spec/04_time_and_gnss.md R133 to R160). -/

namespace Sys2Proof.Machine

open Sys2Proof

/-- Change the GNSS unit. -/
def State.gnsM (s : State) (f : GnsUnit → GnsUnit) : State := { s with gns := f s.gns }

/-- Does the baseband work: unit present, memory usable and marked, a TRACK record (R98, R158)? -/
def State.gnsOn (s : State) : Bool :=
  s.winPresent 26 && s.usable 4 && s.marked 4 && (s.crec1 C_TRACK_SIGNALS).isSome

/-- Does the fix engine work? -/
def State.fixOn (s : State) : Bool :=
  s.winPresent 27 && s.usable 4 && s.marked 4 && (s.crec1 C_FIX_RATE).isSome

/-- Is burst tracking selected (R148)? -/
def State.bursting (s : State) : Bool := s.rd PWR_STATE_BURST == 1

/-- Do the correlators run now: always, or inside a burst? -/
def State.gnsLive (s : State) : Bool := s.gnsOn && (!s.bursting || s.gns.burst == 2)

/-- Is channel `c` free? -/
def State.chanFree (s : State) (c : Nat) : Bool := s.rdi GNS_CH_STATE c == 0

/-- Set TRACKED and WAITING (R141). -/
def State.gnsCounts (s : State) : State :=
  (s.wr GNS_STAT_TRACKED ((List.range 96).filter (fun c => !s.chanFree c)).length).wr
    GNS_STAT_WAITING (min 31 s.gns.cands.length)

/-- The rank of a candidate's elevation. -/
def elevRank (e : Nat) : Int := sint 8 e

/-- Does candidate `a` rank above `b` (R141)? -/
def candBetter (a b : GnsCand) : Bool :=
  let x := elevRank a.elev
  let y := elevRank b.elev
  decide (y < x) || (x == y && (decide (b.cn0 < a.cn0) || (a.cn0 == b.cn0 &&
    (decide (a.signal < b.signal) || (a.signal == b.signal && decide (a.svid < b.svid))))))

/-- The candidate that gets the next channel. -/
def bestCand : List GnsCand → Option GnsCand
  | [] => none
  | c :: t =>
    match bestCand t with
    | none => some c
    | some d => if candBetter d c then some d else some c

/-- Hand channel `c` to a signal (R137). -/
def State.chanAssign (s : State) (c : Nat) (k : GnsCand) : State :=
  let s1 := s.setReg (GNS_CH_STATE.addr c 0) 0
  let s2 := ((((s1.wri GNS_CH_STATE c 1).wri GNS_CH_SIGNAL c k.signal).wri GNS_CH_SYSTEM c k.system).wri
    GNS_CH_SVID c k.svid).wri GNS_CH_CN0 c k.cn0
  (s2.wri GNS_ELEV_ELEV c k.elev).gnsM (fun g => { g with
    chans := listSet g.chans c { lastLock := s.clk.el }
    cands := g.cands.filter (fun d => !(d.signal == k.signal && d.svid == k.svid)) })

/-- Free channel `c`; FALSE stays readable when FALSE_LOCK released it (R140, R141, R146). -/
def State.chanDrop (s : State) (c : Nat) : State :=
  let f := s.rdi GNS_CH_FALSE c
  let s1 := ((s.setReg (GNS_CH_STATE.addr c 0) 0).wri GNS_CH_FALSE c f).wri GNS_ELEV_ELEV c 0x80
  let s2 := s1.gnsM (fun g => { g with chans := listSet g.chans c {} })
  match bestCand s2.gns.cands with
  | some k => (s2.chanAssign c k).gnsCounts
  | none => s2.gnsCounts

/-- Is a signal selected and its port committed (R134, R140)? -/
def State.signalOn (s : State) (sig : Nat) : Bool :=
  bitAt (s.cv1 C_TRACK_SIGNALS) sig && s.has C_GPORT_PORT (sig % 2)

/-- Is a signal of a satellite barred (R146)? -/
def State.gnsBarred (s : State) (sig svid : Nat) : Bool :=
  s.gns.bars.any (fun b => b.1 == sig && b.2.1 == svid && decide (s.clk.el < b.2.2))

/-- A confirmed signal: a free channel, or a place in the waiting list (R137, R141). -/
def State.confirmed (s : State) (k : GnsCand) : State :=
  if (List.range 96).any (fun c => !s.chanFree c && s.rdi GNS_CH_SIGNAL c == k.signal && s.rdi GNS_CH_SVID c == k.svid) then s
  else
    match (List.range 96).find? (fun c => s.chanFree c) with
    | some c => (s.chanAssign c k).gnsCounts
    | none =>
      let rest := s.gns.cands.filter (fun d => !(d.signal == k.signal && d.svid == k.svid))
      let isNew := rest.length == s.gns.cands.length
      ((s.gnsM (fun g => { g with cands := rest ++ [k] })).gnsCounts).raiseIf isNew 26 6

/-- Bins of the search (R136). -/
def State.acqBins (s : State) : Nat := 2 * (s.cv1 C_TRACK_SPAN / s.cv1 C_TRACK_BIN) + 1

/-- ACQUISITION_PASS (R136, R137, R141, R146): hypotheses above ACQ_THR that the second dwell confirms. -/
def execAcquisitionPass (hyps : List Hypo) (s : State) : Host.Outcome State Fault Refusal := s.powered <|
  if s.gnsLive then
    let s1 := hyps.foldl (fun t h =>
      if h.confirmed && (ofB32 (t.cv1 C_TRACK_ACQ_THR)).lt (ofB32 h.power) && t.signalOn h.signal &&
          !t.gnsBarred h.signal h.svid then
        t.confirmed ⟨h.signal, h.system, h.svid, h.cn0, h.elev, t.clk.el⟩
      else t) s
    ok (s1.gnsM (fun g => { g with acqBin := (g.acqBin + 1) % s.acqBins }))
  else ok s

/-- CANDIDATE_EXPIRY (R141): candidates not re-confirmed within 10 s. -/
def execCandidateExpiry (s : State) : Host.Outcome State Fault Refusal := s.powered <|
  ok (s.gnsM (fun g => { g with
    cands := g.cands.filter (fun k => decide (s.clk.el < k.seen + 10000000000)) })).gnsCounts

/-- BAR0 address of record `k` of the assistance area (R139). -/
def assistAddr (k : Nat) : Nat := 0x680000 + 48 * k

/-- Write assistance record `k` (R139). -/
def State.navPut (s : State) (m : NavMsg) (k : Nat) : State :=
  if s.usable 4 then
    s.memPutBytes (assistAddr k) (leBytes 1 m.system ++ leBytes 1 m.msg ++ leBytes 1 m.svid ++ [0] ++
      leBytes 4 (s.clk.now / 1000000000) ++ slice (m.bits ++ List.replicate 40 0) 0 40)
  else s

/-- SYSTEM, MSG and SVID of assistance record `k`. -/
def State.navKey (s : State) (k : Nat) : Nat := s.memWord (assistAddr k) % 2 ^ 24

/-- The numbers of the assistance records (R139). -/
def assistRecords : List Nat := List.range 4096

/-- A decoded message goes into the record of its satellite and type (R139); a first message takes the
lowest empty record, and with none empty a free one (the spec gives no place). -/
def State.navStore (s : State) (m : NavMsg) : State :=
  match assistRecords.find? (fun k => s.navKey k == m.system + m.msg * 256 + m.svid * 65536) with
  | some k => s.navPut m k
  | none =>
    match assistRecords.find? (fun k => s.navKey k % 256 == 0xFF) with
    | some k => s.navPut m k
    | none =>
      let (k, s1) := s.free 6
      s1.navPut m (k % 4096)

/-- Notch status bits and counts of a band (R142). -/
def State.notchSet (s : State) (band k : Nat) (on : Bool) : State :=
  let f := if band = 0 then GNS_NOTCH_A else GNS_NOTCH_B
  let g := if band = 0 then GNS_STAT_NOTCH_A else GNS_STAT_NOTCH_B
  let v := setBit (s.rd f) k on
  let n := ((List.range 4).filter (fun i => bitAt v i)).length
  (s.wr f v).wr g (min 3 n)

/-- A tone at a notch (R142): engaged at 10 dB, kept while at 6 dB or more. -/
def State.tone (s : State) (band k level : Nat) : State :=
  let f := if band = 0 then GNS_NOTCH_A else GNS_NOTCH_B
  let l := ofB32 level
  let s1 := if (FV.ofInt 6).le l then
    s.gnsM (fun g => { g with notchAt := listSet g.notchAt (4 * band + k) s.clk.el }) else s
  if (FV.ofInt 10).le l && !bitAt (s.rd f) k then s1.notchSet band k true else s1

/-- A channel in one tracking epoch (R140). -/
def State.chanEpoch (s : State) (o : ChanObs) : State :=
  if s.chanFree o.ch then s
  else
    let s1 := ((s.wri GNS_CH_CN0 o.ch o.cn0).wri GNS_CH_PHASE o.ch (b2n (o.lock && o.phase))).wri GNS_ELEV_ELEV o.ch o.elev
    let s2 := if o.lock then s1.wri GNS_CH_STATE o.ch 2 else s1
    s2.gnsM (fun g => { g with chans := listMod g.chans o.ch (fun c =>
      { c with locked := o.lock, lastLock := if o.lock then s.clk.el else c.lastLock }) })

/-- Is channel `c` to be freed (R140)? -/
def State.chanTimedOut (s : State) (c : Nat) : Bool :=
  !s.chanFree c &&
    (decide ((listAt s.gns.chans c {}).lastLock + s.cv1 C_TRACK_RELEASE * 1000000 ≤ s.clk.el) ||
      (s.rdi GNS_ELEV_ELEV c != 0x80 && decide (elevRank (s.rdi GNS_ELEV_ELEV c) < (s.cv1 C_TRACK_ELEV_MASK : Int))) ||
      !s.signalOn (s.rdi GNS_CH_SIGNAL c))

/-- TRACKING_EPOCH (R131, R135, R139 to R142): once in each millisecond of device time. -/
def execTrackingEpoch (obs : EpochObs) (s : State) : Host.Outcome State Fault Refusal := s.powered <|
  let ms := s.clk.now / 1000000
  if !s.gnsLive || s.gns.epochMs == ms then ok s
  else
    let s1 := (List.range 2).foldl (fun t b =>
      if t.has C_GPORT_PORT b && t.cv C_GPORT_AGC_PIN b != 0xFF then
        let (d, u) := t.free 4
        u.gnsM (fun g => { g with agc := listSet g.agc b d })
      else t) (s.gnsM (fun g => { g with epochMs := ms }))
    let s2 := obs.chans.foldl State.chanEpoch s1
    let s3 := (List.range 96).foldl (fun t c => if t.chanTimedOut c then t.chanDrop c else t) s2
    let s4 := obs.nav.foldl State.navStore s3
    let s5 : State := match obs.utc with
      | some (o, l) => ((s4.wr TIME_UTC_OFFSET o).wr TIME_UTC_LEAP l).wr TIME_UTC_VALID 1
      | none => s4
    let s6 : State := if s5.cv1 C_TRACK_NOTCH_EN = 1 then
        obs.tones.foldl (fun t n => if n.1 < 2 && n.2.1 < 4 then t.tone n.1 n.2.1 n.2.2 else t) s5
      else ((s5.wr GNS_NOTCH_A 0).wr GNS_NOTCH_B 0 |>.wr GNS_STAT_NOTCH_A 0).wr GNS_STAT_NOTCH_B 0
    ok s6.gnsCounts

/-- NOTCH_RELEASE (R142): the tone has stayed below 6 dB for 1 s. -/
def execNotchRelease (band : Fin 2) (notch : Fin 4) (s : State) : Host.Outcome State Fault Refusal := s.powered <|
  if listAt s.gns.notchAt (4 * band + notch) 0 + 1000000000 ≤ s.clk.el then ok (s.notchSet band notch false) else ok s

/-- The indicator of R143 from a rise and a gain reduction in dB. -/
def jamIndicator (rise agc : FV) : Nat :=
  let p := fun x => FV.maxV FV.zero x
  min 255 (FV.mul f64 (FV.ofInt 8) (FV.add f64 (p rise) (p agc))).roundI.toNat

/-- The indicator of one band from its noise floor and AGC gain reduction (binary32 dB). The quiet references
are learned in the first 60 s after Run; what is learned is a free value. -/
def State.jamBand (s : State) (b : Nat) (floor gain : Nat) : State :=
  let learning := match s.gns.learnUntil with
    | some e => decide (s.clk.el < e)
    | none => false
  let s1 := if learning then
      let (x, u) := s.free 5
      let (y, v) := u.free 5
      v.gnsM (fun g => { g with quiet := listSet g.quiet b (x % 2 ^ 32, y % 2 ^ 32) })
    else s
  let q := listAt s1.gns.quiet b (0, 0)
  let ji := jamIndicator (FV.sub f64 (ofB32 floor) (ofB32 q.1)) (FV.sub f64 (ofB32 gain) (ofB32 q.2))
  let f := if b = 0 then GNS_STAT_JAM_A else GNS_STAT_JAM_B
  let thr := s.cv1 C_TRACK_JAM_THR
  (s1.wr f ji).raiseIf (decide (s.rd f ≤ thr) && decide (thr < ji)) 26 b

/-- The quiet references are learned in the first 60 s after Run (R143). -/
def State.jamLearn (s : State) : State :=
  s.gnsM (fun g => { g with learnUntil := some (g.learnUntil.getD (s.clk.el + 60 * 1000000000)) })

/-- JAMMING_INDICATOR (R143): every 100 ms, for each band its floor and gain reduction in turn. -/
def execJammingIndicator (floors : List (Nat × Nat)) (s : State) : Host.Outcome State Fault Refusal := s.powered <|
  if s.gnsLive && decide (s.gns.jamAt + 100000000 ≤ s.clk.el) then
    let s1 := s.gnsM (fun g => { g with jamAt := s.clk.el })
    ok ((List.range (min 2 floors.length)).foldl (fun t b =>
      if t.has C_GPORT_PORT b then t.jamBand b (listAt floors b (0, 0)).1 (listAt floors b (0, 0)).2 else t) s1)
  else ok s

/-- Set SPOOF_SUSPECT on a channel (R145, R147). -/
def State.suspect (s : State) (c : Nat) : State :=
  ((s.wri GNS_CH_SPOOF c 1).gnsM (fun g => { g with
    chans := listMod g.chans c (fun x => { x with suspectAt := s.clk.el }) })).raise 26 2

/-- The attempt whose residuals pass, the channels excluded on the way, and whether none passed (R144). -/
def pickFix (thr : FV) : Nat → List FixTry → List Nat → Option FixSol × List Nat × Bool
  | _, [], ex => (none, ex, false)
  | n, t :: rest, ex =>
    if thr.lt (ofB32 t.resid) then
      match n, rest with
      | 0, _ => (some t.sol, ex, true)
      | _ + 1, [] => (some t.sol, ex, true)
      | n + 1, r => pickFix thr n r (ex ++ [t.ch])
    else (some t.sol, ex, false)

/-- Fixes per second: FIX.RATE, 1 in burst tracking (R149). -/
def State.fixRate (s : State) : Nat := if s.bursting then 1 else s.cv1 C_FIX_RATE

/-- One entry of a raw record (R153). -/
def State.rawEntry (s : State) (m : List RawMeas) (c : Nat) : List Nat :=
  let x := (m.find? (fun r => r.ch == c)).getD ⟨c, 0, 0, 0, 0, 0, 0⟩
  let fl := x.flags % 16 + 16 * s.rdi GNS_CH_SPOOF c + 32 * s.rdi GNS_CH_FALSE c + 64 * s.rdi GNS_CH_EXCL c +
    128 * b2n (s.rdi GNS_CH_STATE c == 3)
  leBytes 8 x.pr ++ leBytes 8 x.phase ++ leBytes 4 x.doppler ++ leBytes 2 x.cn0 ++ leBytes 2 x.lock ++
    [s.rdi GNS_CH_SYSTEM c, s.rdi GNS_CH_SIGNAL c, s.rdi GNS_CH_SVID c, c] ++ leBytes 4 fl

/-- The epoch record goes to DMA channel 2; the 65th waiting discards the oldest (R153). -/
def State.rawEmit (s : State) (m : List RawMeas) (t bias : Nat) : State :=
  let cs := (List.range 96).filter (fun c => !s.chanFree c)
  let fl := b2n (s.rd TIME_DATUM_STATE == 2) + 2 * b2n s.bursting + 4 * b2n s.gns.stepSince
  let rec' := leBytes 4 0x4D574152 ++ leBytes 2 cs.length ++ leBytes 2 fl ++ leBytes 8 t ++ leBytes 4 bias ++
    leBytes 4 s.gns.rawSeq ++ leBytes 8 0 ++ cs.flatMap (s.rawEntry m)
  let s1 := s.gnsM (fun g => { g with rawSeq := (g.rawSeq + 1) % 2 ^ 32, stepSince := false })
  if 64 ≤ s1.dmaWaiting 2 then (((s1.dmaDropOldest 2).inc GNS_RAW_DROP_COUNT 1).raise 26 5).dmaReady 2 rec'
  else s1.dmaReady 2 rec'

/-- Write the FIX_OUT block (R152). -/
def State.fixOut (s : State) (words : List Nat) : State :=
  (List.range 23).foldl (fun t k => t.wri FIX_OUT_WORD (k + 1) (listAt words k 0)) s

/-- FIX_EPOCH (R144 to R147, R149, R152, R153): at each multiple of 1/RATE s of device time. -/
def execFixEpoch (obs : FixObs) (s : State) : Host.Outcome State Fault Refusal := s.powered <|
  let k := s.clk.now * s.fixRate / 1000000000
  if !s.fixOn || s.gns.fixEpoch == k then ok s
  else
    let t := k * 1000000000 / s.fixRate
    let thr := ofB32 (s.cv1 C_FIX_RESID_THR)
    let (sol, ex, bad) := pickFix thr 2 obs.tries []
    let live := (List.range 96).filter (fun c => !s.chanFree c)
    -- R145: exclusions and residuals of suspect channels
    let s1 := live.foldl (fun u c =>
      let x := ex.contains c
      let u1 := (u.wri GNS_CH_EXCL c (b2n x)).gnsM (fun g => { g with chans := listMod g.chans c (fun h =>
        { h with exclRun := if x then h.exclRun + 1 else 0 }) })
      let u2 := if x && decide (3 ≤ (listAt u1.gns.chans c {}).exclRun) && u1.rdi GNS_CH_SPOOF c == 0 then u1.suspect c
        else u1
      if u2.rdi GNS_CH_SPOOF c == 1 && obs.resids.any (fun r => r.1 == c && thr.lt (ofB32 r.2)) then
        u2.gnsM (fun g => { g with chans := listMod g.chans c (fun h => { h with suspectAt := s.clk.el }) })
      else u2) (s.gnsM (fun g => { g with fixEpoch := k }))
    -- R147: a common jump
    let jump := s.cv1 C_FIX_CLOCK_JUMP
    let up := (live.filter (fun c => obs.jumps.any (fun j => j.1 == c && decide ((jump : Int) < j.2)))).length
    let dn := (live.filter (fun c => obs.jumps.any (fun j => j.1 == c && decide (j.2 < -(jump : Int))))).length
    let common := decide (0 < max up dn) && decide (live.length ≤ max up dn + 1)
    let s2 := if common then
        let v := live.foldl State.suspect s1
        ((v.wr TIME_DATUM_SPOOF 1).raiseIf (s.rd TIME_DATUM_SPOOF == 0) 2 8).timeM (fun q => { q with
          spoofUntil := s.clk.el + s.cv1 C_FIX_SPOOF_HOLD * 1000000000 })
      else s1
    -- R146: rate differences
    let tol := ofB32 (s.cv1 C_FIX_RATE_TOL)
    let s3 := live.foldl (fun u c =>
      let x := obs.rates.any (fun r => r.1 == c && tol.lt (ofB32 r.2).abs)
      let u1 := u.gnsM (fun g => { g with chans := listMod g.chans c (fun h =>
        { h with rateRun := if x then h.rateRun + 1 else 0 }) })
      if x && decide (3 ≤ (listAt u1.gns.chans c {}).rateRun) then (u1.wri GNS_CH_FALSE c 1).raise 26 3 else u1) s2
    -- R152: the block
    let fx := sol.getD ⟨0, 0, [], 0⟩
    let jam := decide (s.cv1 C_TRACK_JAM_THR < s.rd GNS_STAT_JAM_A) || decide (s.cv1 C_TRACK_JAM_THR < s.rd GNS_STAT_JAM_B)
    let sus := (List.range 96).any (fun c => s3.rdi GNS_CH_SPOOF c == 1)
    let flags := fx.typ % 16 + 16 * (fx.used % 256) + 4096 * b2n bad + 8192 * b2n (!ex.isEmpty) +
      16384 * b2n s.bursting + 32768 * b2n (s.rd TIME_DATUM_STATE == 2) + 65536 * b2n jam + 131072 * b2n sus
    let body := slice (fx.words ++ List.replicate 20 0) 0 20
    let seq := (s.rdi FIX_OUT_WORD 0 + 1) % 2 ^ 32
    let words := flags :: t % 2 ^ 32 :: t / 2 ^ 32 :: body
    let s4 := (((s3.wri FIX_OUT_WORD 0 seq).fixOut words).wri FIX_OUT_WORD 24 seq).raise 27 0
    let s5 := s4.raiseIf bad 27 1
    let good := fx.typ == 1 || fx.typ == 2
    let s6 := if good then s5.gnsM (fun g => { g with
        own := some (seq :: words), lastFix := s.clk.el, lostRaised := false, fresh := true }) else s5
    let bias := listAt body 14 0
    let s7 := if good && !bad && s6.rd TIME_DATUM_SPOOF == 0 then
        s6.datumMeas 1 (-(sint 32 bias)) fx.clkUnc else s6
    let s8 := if s.gnsOn then s7.rawEmit obs.meas t bias else s7
    -- R146: release
    ok (live.foldl (fun u c =>
      if u.rdi GNS_CH_FALSE c == 1 && !u.chanFree c && s.rdi GNS_CH_FALSE c == 0 then
        (u.gnsM (fun g => { g with bars :=
          (u.rdi GNS_CH_SIGNAL c, u.rdi GNS_CH_SVID c, s.clk.el + 10000000000) :: g.bars })).chanDrop c
      else u) s8)

/-- SPOOF_SUSPECT_CLEAR (R145): 60 s with residuals inside the threshold. -/
def execSpoofSuspectClear (ch : Fin 96) (s : State) : Host.Outcome State Fault Refusal := s.powered <|
  if s.rdi GNS_CH_SPOOF ch = 1 && decide ((listAt s.gns.chans ch {}).suspectAt + 60000000000 ≤ s.clk.el) then
    ok (s.wri GNS_CH_SPOOF ch 0)
  else ok s

/-- REACQUISITION_BAR_END (R146): bars of 10 s that have run out. -/
def execReacquisitionBarEnd (s : State) : Host.Outcome State Fault Refusal := s.powered <|
  ok (s.gnsM (fun g => { g with bars := g.bars.filter (fun b => decide (s.clk.el < b.2.2)) }))

/-- BURST_WAKE (R148): 5 ms before a burst group G02 wakes. -/
def execBurstWake (s : State) : Host.Outcome State Fault Refusal := s.powered <|
  if s.gnsOn && s.bursting && s.gns.burst == 0 && decide (995000000 ≤ s.subSec) then
    ok ((s.gnsM (fun g => { g with burst := 1, burstSec := s.sec })).wr PWR_STATE_Gnn (setBits (s.rd PWR_STATE_Gnn) 5 4 0))
  else ok s

/-- BURST_START (R148): at the second boundary; channels without lock go to reacquisition. -/
def execBurstStart (s : State) : Host.Outcome State Fault Refusal := s.powered <|
  if s.gnsOn && s.bursting && s.gns.burst == 1 && s.gns.burstSec != s.sec then
    let s1 := (List.range 96).foldl (fun t c =>
      if t.chanFree c then t
      else t.wri GNS_CH_STATE c (if (listAt t.gns.chans c {}).locked then 2 else 1)) s
    ok (s1.gnsM (fun g => { g with
      burst := 2
      burstEnd := s.clk.el + s.cv1 C_TRACK_BURST_LEN * 1000000
      chans := g.chans.map (fun c => { c with lastLock := s.clk.el }) }))
  else ok s

/-- BURST_END (R148): the burst has lasted BURST_LEN; channels are predicted across the gap, G02 goes Off. -/
def execBurstEnd (s : State) : Host.Outcome State Fault Refusal := s.powered <|
  if s.gns.burst == 2 && decide (s.gns.burstEnd ≤ s.clk.el) then
    let s1 := (List.range 96).foldl (fun t c => if t.chanFree c then t else t.wri GNS_CH_STATE c 3) s
    ok ((s1.gnsM (fun g => { g with burst := 0 })).wr PWR_STATE_Gnn (setBits (s.rd PWR_STATE_Gnn) 5 4 3))
  else ok s

/-- SNAPSHOT_GO (R150): a write of GNS_SNAP, ignored while GO is 1. -/
def execSnapshotGo (value : Word) (s : State) : Host.Outcome State Fault Refusal := s.powered <|
  if !s.winPresent 26 || s.rd GNS_SNAP_GO = 1 then ok s
  else
    let v := value.toNat
    let st := bitsOf v 29 28
    let s1 := ((s.wr GNS_SNAP_DMA (bitsOf v 30 30)).wr GNS_SNAP_START (if st = 3 then 0 else st)).wr GNS_SNAP_PIN (bitsOf v 27 22)
    let s2 := ((s1.wr GNS_SNAP_LEN (limN 2 32 (bitsOf v 15 8))).wr GNS_SNAP_GSB (bitsOf v 1 1)).wr GNS_SNAP_GSA (bitsOf v 0 0)
    ok (s2.wr GNS_SNAP_GO (bitsOf v 31 31))

/-- CAPTURE_START (R150): at once, at GNS_SNAP_AT, or at a rising edge on the trigger pin. -/
def execCaptureStart (edge : Option (Fin 64)) (s : State) : Host.Outcome State Fault Refusal := s.powered <|
  let go := match s.rd GNS_SNAP_START with
    | 0 => true
    | 1 => decide (s.rd64 GNS_SNAP_AT_LO_AT GNS_SNAP_AT_HI_AT ≤ s.clk.now)
    | _ => match edge with
      | some p => p.val == s.rd GNS_SNAP_PIN
      | none => false
  if s.rd GNS_SNAP_GO = 1 && s.gns.snap.isNone && go then
    let foff := ucode 32 (satS 32 (-(s.time.freq * 1000000000000 / (2 ^ 32 : Nat))))
    let fl := b2n (s.rd TIME_DATUM_STATE == 2) + 4 * b2n (s.rd TIME_DATUM_STATE == 0)
    let s1 := if s.bursting then s.wr PWR_STATE_Gnn (setBits (s.rd PWR_STATE_Gnn) 5 4 0) else s
    ok (s1.gnsM (fun g => { g with snap := some ⟨s.clk.now, s.clk.el, s.rd TIME_UNC_NS, foff, fl⟩ }))
  else ok s

/-- Pack samples of `w` bits, floor(32 / w) to a word (R151). -/
def packSamples (w : Nat) (l : List Nat) : List Nat :=
  let per := 32 / w
  (List.range ((l.length + per - 1) / per)).map (fun i =>
    (slice l (per * i) per).foldr (fun x a => x % 2 ^ w + a * 2 ^ w) 0)

/-- Position and uncertainty of the last own fix in a snapshot header (R151). -/
def State.snapPos (s : State) : List Nat :=
  match s.gns.own with
  | none => leBytes 12 0 ++ leBytes 4 0xFFFFFFFF
  | some w =>
    let ax := fun i => leBytes 4 (ucode 32 (satS 32 (sint 64 (listAt w i 0 + 2 ^ 32 * listAt w (i + 1) 0) / 1000)))
    ax 4 ++ ax 6 ++ ax 8 ++ leBytes 4 ((listAt w 20 0 + 999) / 1000)

/-- One port's snapshot with `room` bytes left in commons (R150, R151). -/
def State.snapBytes (s : State) (c : GnsSnap) (port room : Nat) (samples : List Nat) : List Nat :=
  let cx := s.cv C_GPORT_COMPLEX port
  let bits := s.cv C_GPORT_BITS port
  let w := bits * (1 + cx)
  let n := s.cv C_GPORT_RATE port * s.rd GNS_SNAP_LEN / 1000
  let all := packSamples w (slice (samples ++ List.replicate n 0) 0 n)
  let data := all.take ((room - 64) / 4)
  let trunc := decide (data.length < all.length)
  let ns := if trunc then data.length * (32 / w) else n
  let h := leBytes 4 0x50414E53 ++ leBytes 2 3 ++ leBytes 2 64 ++ [port, cx + 2 * (bits - 1) + 8 * s.cv C_GPORT_CODING port] ++
    leBytes 2 (c.flags + 2 * b2n trunc) ++ leBytes 4 (s.cv C_GPORT_RATE port) ++ leBytes 4 (s.cv C_GPORT_IF port) ++
    leBytes 4 ns ++ leBytes 8 c.t0 ++ leBytes 4 c.tunc ++ leBytes 4 c.foff ++ s.snapPos ++ leBytes 4 (4 * data.length)
  let body := data.flatMap (leBytes 4)
  h ++ leBytes 4 (crc32c (h ++ body)) ++ body

/-- Write a byte string of whole 32-bit words at `a` in a usable region, merging a last half word (R501). -/
def State.memStore (s : State) (a : Nat) (l : List Nat) : State :=
  match regionOf a with
  | none => s
  | some r =>
    if !s.usable r then s
    else (List.range (l.length / 4)).foldl (fun t k => t.memMerge (a + 4 * k) (leAt l (4 * k) 4)) s

/-- CAPTURE_COMPLETE (R150, R151): LEN ms of raw samples per selected port go to commons, GSA first, and by
DMA when selected; SNAPDONE when nothing is left to send. -/
def execCaptureComplete (samples : List (List Nat)) (s : State) : Host.Outcome State Fault Refusal := s.powered <|
  match s.gns.snap with
  | none => ok s
  | some c =>
    if s.clk.el < c.el + s.rd GNS_SNAP_LEN * 1000000 then ok s
    else
      let ports := (if s.rd GNS_SNAP_GSA = 1 && s.has C_GPORT_PORT 0 then [0] else []) ++
        (if s.rd GNS_SNAP_GSB = 1 && s.has C_GPORT_PORT 1 then [1] else [])
      let a := s.rd GNS_SNAP_ADDR_ADDR / 8 * 8
      let bytes := ports.foldl (fun b p =>
        let room := 0x1800000 - (a + b.length)
        if a + b.length < 0x1000000 || room < 64 then b else b ++ s.snapBytes c p room (listAt samples p [])) []
      let s1 := ((s.memStore a bytes).wr GNS_SNAP_GO 0).gnsM (fun g => { g with snap := none })
      if s.rd GNS_SNAP_DMA = 1 then ok ((s1.gnsM (fun g => { g with snapDma := true })).dmaReady 3 bytes)
      else ok (s1.raise 26 4)

/-- The injected block as words (R154). -/
def State.injWords (s : State) : List Nat := (List.range 14).map (fun k => s.rdi FIX_INJ_WORD k)

/-- A 64-bit word pair of a word list. -/
def pair64 (l : List Nat) (i : Nat) : Nat := listAt l i 0 + 2 ^ 32 * listAt l (i + 1) 0

/-- The cause of refusal of an injection, 0 when it is taken (R154). -/
def State.injCause (s : State) : Nat :=
  let w := s.injWords
  let t := pair64 w 0
  let lat := sint 64 (pair64 w 2)
  let lon := sint 64 (pair64 w 4)
  if s.clk.now + 1000000 < t then 1
  else if t + s.cv1 C_FIX_INJ_MAX_AGE * 1000000 < s.clk.now then 2
  else if 900000000000 < lat.natAbs || 1800000000000 < lon.natAbs then 3
  else match s.gns.injAt with
    | some e => if s.clk.el < e + 1000000 then 4 else 0
    | none => 0

/-- FIX_INJ_COMMIT (R154): the block is taken whole, or refused with its cause. -/
def execFixInjCommit (s : State) : Host.Outcome State Fault Refusal := s.powered <|
  if !s.winPresent 27 then ok s
  else
    let c := s.injCause
    if c = 0 then ok (s.gnsM (fun g => { g with inj := some s.injWords, injAt := some s.clk.el, staleRaised := false }))
    else ok (((s.inc FIX_INJ_ERR_COUNT 1).wr FIX_INJ_ERR_LAST c).raise 27 2)

/-- Is the held injection younger than INJ_MAX_AGE (R155)? -/
def State.injYoung (s : State) : Bool :=
  match s.gns.inj with
  | some w => decide (s.clk.now < pair64 w 0 + s.cv1 C_FIX_INJ_MAX_AGE * 1000000)
  | none => false

/-- A base of extrapolation (R155): type, time, latitude, longitude, height, velocity, uncertainty, quality. -/
structure FixBase where
  typ : Nat
  t : Nat
  lat : Int
  lon : Int
  hgt : Int
  vn : Int
  ve : Int
  vu : Int
  unc : Nat
  quality : Nat
  deriving DecidableEq, Repr

/-- A base read from words at the given places. -/
def fixBase (typ : Nat) (w : List Nat) (t ll h v u q : Nat) : FixBase :=
  { typ := typ
    t := pair64 w t
    lat := sint 64 (pair64 w ll)
    lon := sint 64 (pair64 w (ll + 2))
    hgt := sint 32 (listAt w h 0)
    vn := sint 32 (listAt w v 0)
    ve := sint 32 (listAt w (v + 1) 0)
    vu := sint 32 (listAt w (v + 2) 0)
    unc := listAt w u 0
    quality := q }

/-- The base in use (R155, R156). -/
def State.fixBaseNow (s : State) : Option FixBase :=
  let own := s.gns.own.map (fun w => fixBase 3 w 2 10 14 15 20 0)
  match s.gns.inj with
  | none => if s.gns.fresh then own else none
  | some w =>
    let q := bitsOf (listAt w 12 0) 7 0
    if s.injYoung then some (fixBase 4 w 0 2 6 7 10 q)
    else if s.cv1 C_FIX_INJ_FALLBACK = 1 then (if s.gns.fresh then own else none)
    else some (fixBase 6 w 0 2 6 7 10 q)

/-- binary64 operations. -/
def dAdd : FV → FV → FV := FV.add f64
/-- binary64 difference. -/
def dSub : FV → FV → FV := FV.sub f64
/-- binary64 product. -/
def dMul : FV → FV → FV := FV.mul f64
/-- binary64 quotient. -/
def dDiv : FV → FV → FV := FV.div f64
/-- sine in binary64 (Config.sin64). -/
def dSin (x : FV) : FV := ofB64 (Config.sin64 (toB64 x))
/-- cosine in binary64 (Config.cos64). -/
def dCos (x : FV) : FV := ofB64 (Config.cos64 (toB64 x))
/-- π in binary64. -/
def dPi : FV := FV.dec f64 3141592653589793238 18
/-- Semi-major axis of WGS-84. -/
def wgsA : FV := FV.ofInt 6378137
/-- First eccentricity squared of WGS-84. -/
def wgsE2 : FV := FV.dec f64 669437999014 14

/-- An angle code in 10^-10 degree as radians. -/
def angRad (c : Int) : FV := dDiv (dMul (FV.ofInt c) dPi) (FV.ofInt 1800000000000)

/-- Thousandths as a number. -/
def milli (c : Int) : FV := dDiv (FV.ofInt c) (FV.ofInt 1000)

/-- Prime vertical radius at latitude φ (R155). -/
def radN (phi : FV) : FV :=
  let s := dSin phi
  dDiv wgsA (FV.sqrt f64 (dSub (FV.ofInt 1) (dMul wgsE2 (dMul s s))))

/-- Meridian radius (R155). -/
def radM (phi : FV) : FV :=
  let s := dSin phi
  dDiv (dMul (radN phi) (dSub (FV.ofInt 1) wgsE2)) (dSub (FV.ofInt 1) (dMul wgsE2 (dMul s s)))

/-- Extrapolated latitude, longitude, height at time `t` (R155). -/
def extrapolate (b : FixBase) (t : Nat) : FV × FV × FV :=
  let dt := dDiv (FV.ofInt ((t : Int) - b.t)) (FV.ofInt 1000000000)
  let phi := angRad b.lat
  let lam := angRad b.lon
  let h := milli b.hgt
  (dAdd phi (dDiv (dMul (milli b.vn) dt) (dAdd (radM phi) h)),
   dAdd lam (dDiv (dMul (milli b.ve) dt) (dMul (dAdd (radN phi) h) (dCos phi))),
   dAdd h (dMul (milli b.vu) dt))

/-- Earth-centred coordinates of a position. -/
def ecef (phi lam h : FV) : FV × FV × FV :=
  let n := radN phi
  (dMul (dMul (dAdd n h) (dCos phi)) (dCos lam), dMul (dMul (dAdd n h) (dCos phi)) (dSin lam),
   dMul (dAdd (dMul n (dSub (FV.ofInt 1) wgsE2)) h) (dSin phi))

/-- East, north, up of a position about an origin (R156). -/
def localEnu (o p : FV × FV × FV) : FV × FV × FV :=
  let a := ecef o.1 o.2.1 o.2.2
  let b := ecef p.1 p.2.1 p.2.2
  let x := dSub b.1 a.1
  let y := dSub b.2.1 a.2.1
  let z := dSub b.2.2 a.2.2
  let sp := dSin o.1
  let cp := dCos o.1
  let sl := dSin o.2.1
  let cl := dCos o.2.1
  let h := dAdd (dMul cl x) (dMul sl y)
  (dSub (dMul cl y) (dMul sl x), dSub (dMul cp z) (dMul sp h), dAdd (dMul cp h) (dMul sp z))

/-- Course over ground in degrees, 0 to 360 (R156). -/
def course (ve vn : FV) : FV :=
  let a := dDiv (dMul (ofB32 (Config.atan2 (toB32 ve) (toB32 vn))) (FV.ofInt 180)) dPi
  if a.lt FV.zero then dAdd a (FV.ofInt 360) else a

/-- FIX_OUTPUT_ELEMENT (R155, R156): endpoints 384 to 399 at each multiple of 1/OUT_RATE s. -/
def execFixOutputElement (s : State) : Host.Outcome State Fault Refusal := s.powered <|
  let rate := s.cv1 C_FIX_OUT_RATE
  let k := s.clk.now * rate / 1000000000
  if !s.fixOn || s.gns.outEpoch == k then ok s
  else
    let t := k * 1000000000 / rate
    let s0 := s.gnsM (fun g => { g with outEpoch := k })
    if s.gns.inj.isNone && !s.gns.fresh then ok s0
    else
      let out := fun (u : State) (e : Nat) (v : FV) => u.produce e (toB32 v) 0 t
      let raw := fun (u : State) (e v : Nat) => u.produce e v 2 t
      let b := s.fixBaseNow
      let s1 := match b with
        | none => s0
        | some x =>
          let o := (angRad (sint 64 (s.cv1 C_FIX_ORIGIN_LAT)), angRad (sint 64 (s.cv1 C_FIX_ORIGIN_LON)),
            milli (sint 32 (s.cv1 C_FIX_ORIGIN_HGT)))
          let p := localEnu o (extrapolate x t)
          let ve := milli x.ve
          let vn := milli x.vn
          let u1 := out (out (out s0 384 p.1) 385 p.2.1) 386 p.2.2
          let u2 := out (out (out u1 387 ve) 388 vn) 389 (milli x.vu)
          let u3 := out u2 390 (course ve vn)
          let u4 := out u3 391 (FV.sqrt f64 (dAdd (dMul ve ve) (dMul vn vn)))
          out u4 392 (milli x.unc)
      let ty := (b.map (·.typ)).getD 0
      let q := (b.map (·.quality)).getD 0
      let own := s.gns.own.getD []
      let s2 := raw (raw (raw (raw s1 393 (ty + 256 * q)) 394 (s.rd TIME_UNC_NS)) 395 (s.rd GNS_STAT_JAM_A)) 396 (s.rd GNS_STAT_JAM_B)
      let s3 := raw s2 397 (bitsOf (listAt own 1 0) 11 4)
      let s4 := out s3 398 (dDiv (FV.ofInt (bitsOf (listAt own 22 0) 31 16)) (FV.ofInt 100))
      ok (raw s4 399 (s.reg 0x20010 % 65536))

/-- INJ_STALE (R155, R157): the newest injection passes INJ_MAX_AGE. -/
def execInjStale (s : State) : Host.Outcome State Fault Refusal := s.powered <|
  if s.gns.inj.isSome && !s.injYoung && !s.gns.staleRaised then
    ok ((s.gnsM (fun g => { g with staleRaised := true })).raise 27 3)
  else ok s

/-- FIXLOST (R157): no fix of type 1 or 2 for 3 s. -/
def execFixlost (s : State) : Host.Outcome State Fault Refusal := s.powered <|
  if s.fixOn && !s.gns.lostRaised && decide (s.gns.lastFix + 3000000000 ≤ s.clk.el) then
    ok ((s.gnsM (fun g => { g with lostRaised := true })).raise 27 4)
  else ok s

/-- Unit reset of the GNSS baseband (R158). -/
def State.gnsReset (s : State) : State :=
  let n := s.dmaWaiting 2
  let s1 := (List.range 96).foldl (fun t c =>
    (t.setReg (GNS_CH_STATE.addr c 0) 0).wri GNS_ELEV_ELEV c 0x80) s
  let s2 := (((s1.wr GNS_NOTCH_A 0).wr GNS_NOTCH_B 0).wr GNS_STAT_NOTCH_A 0).wr GNS_STAT_NOTCH_B 0
  let s3 := ((s2.wr GNS_SNAP_GO 0).inc GNS_RAW_DROP_COUNT n).raiseIf (decide (0 < n)) 26 5
  let s4 := s3.dmaDiscard 2
  (s4.gnsM (fun g => { g with
    chans := List.replicate 96 {}
    cands := []
    bars := []
    acqBin := 0
    burst := 0
    snap := none
    snapDma := false })).gnsCounts

/-- Unit reset of the fix engine (R158): the solution and the held injection go; FIX_OUT stays. -/
def State.fixReset (s : State) : State :=
  s.gnsM (fun g => { g with fresh := false, inj := none, staleRaised := false, lastFix := s.clk.el, lostRaised := false })

end Sys2Proof.Machine
end

