-- ==== Sys2Proof/Machine/Handoff.lean ====
section
/-! DEFINITION. The sending side of object handoff: entries that collect into frames, and the frames that wait
at the handoff MAC (spec/15_township_pair.md R476 to R480); messages of the tie link (R485) and what the standby
compares (R490). -/

namespace Sys2Proof.Machine

open Sys2Proof

/-- The handoff MAC (R476). -/
def State.hmac (s : State) : Nat := s.cv1 C_PARCEL_HMAC

/-- The 24-byte header of a handoff or announce frame (R479). -/
def State.frameHead (s : State) (typ channel count seq : Nat) : List Nat :=
  [typ, 1] ++ leBytes 2 (s.rd TWN_STAT_PARCEL + s.rd TWN_STAT_SIDE * 2 ^ 15) ++ [channel, count] ++ leBytes 2 seq ++
    leBytes 8 s.clk.now ++ leBytes 2 (b2n (s.rd TIME_DATUM_STATE != 1)) ++ [s.rd TAL_STAT_EPOCH] ++ List.replicate 5 0

/-- Apply `f` to out channel `c`. -/
def State.outM (s : State) (c : Nat) (f : HandOut → HandOut) : State :=
  { s with twn := { s.twn with outs := listMod s.twn.outs c f } }

/-- Out channel `c`. -/
def State.outCh (s : State) (c : Nat) : HandOut := listAt s.twn.outs c {}

/-- The collected entries of channel `c` become a frame on the MAC's queue, when it has room for one of its 32
(R480). -/
def State.handQueue (s : State) (c : Nat) : State :=
  let o := s.outCh c
  if o.ents.isEmpty || decide (32 ≤ s.twn.frames.length) then s
  else
    let bytes := s.frameHead 1 (s.cv C_HANDOFF_OUT_DEST_CHANNEL c) o.ents.length o.seq ++ o.ents.flatten
    let s1 := s.outM c (fun o => { o with ents := [], seq := (o.seq + 1) % 65536 })
    { s1 with twn := { s1.twn with frames := s1.twn.frames ++ [({ bytes, ch := c, n := o.ents.length, since := s.clk.el } : HFrame)] } }

/-- An entry joins the frame of channel `c`; it is dropped when the frame is full and cannot be queued (R480). A
standby sends nothing (R476). -/
def State.handEntry (s : State) (c : Nat) (e : List Nat) : State :=
  if s.standby then s
  else if 13 ≤ (s.outCh c).ents.length then (s.inci TWN_OUT_DROP c 1).raise 30 2
  else
    let s1 := s.outM c (fun o =>
      { o with ents := o.ents ++ [e], since := if o.ents.isEmpty then s.clk.el else o.since })
    if (s1.outCh c).ents.length = 13 then s1.handQueue c else s1

/-! ## Tie link (R485, R489, R490) -/

/-- Change the pair unit. -/
def State.pairM (s : State) (f : PairUnit → PairUnit) : State := { s with pair := f s.pair }

/-- A tie message: header with its CRC, body (R485). -/
def tieMsg (typ count : Nat) (body : List Nat) : List Nat :=
  let h := [typ, count % 256] ++ leBytes 2 body.length
  h ++ leBytes 4 (crc32c (h ++ [0, 0, 0, 0] ++ body)) ++ body

/-- The primary sends a tie message; another device sends none. -/
def State.tieSend (s : State) (typ count : Nat) (body : List Nat) : State :=
  if s.primary then s.emit (.tie (tieMsg typ count body)) else s

/-- The device is a hot standby. -/
def State.hotStandby (s : State) : Bool := s.standby && s.rd PAIR_STAT_MODE == 1

/-- The device is a warm standby. -/
def State.warmStandby (s : State) : Bool := s.standby && s.rd PAIR_STAT_MODE == 0

/-- Remove the first item that `p` picks; whether there was one. -/
def takeFirst {α : Type} (p : α → Bool) : List α → Bool × List α
  | [] => (false, [])
  | x :: t =>
    if p x then (true, t)
    else
      let (b, l) := takeFirst p t
      (b, x :: l)

/-- Do an own request and a mirrored stake match (R490)? -/
def State.stakeMatch (s : State) (a b : StakeReq) : Bool :=
  a.target == b.target && decide ((a.time - b.time).natAbs ≤ s.cv1 C_PAIRREC_COMPARE_WIN)

/-- PAIR_DIV counts `n` in field `f`; DIVERGE (R490, R494). -/
def State.diverge (s : State) (f : Fld) (n : Nat) : State := if n = 0 then s else (s.inc f n).raise 31 3

/-- What has waited COMPARE_WAIT without its match is counted; requests held 64 µs are dropped (R489, R490). -/
def State.pairAge (s : State) : State :=
  let old (p : StakeReq × Nat) : Bool := decide (p.2 + s.cv1 C_PAIRREC_COMPARE_WAIT * 1000 ≤ s.clk.el)
  let s1 := (s.diverge PAIR_DIV_MISSING (s.pair.cmp.countP old)).diverge PAIR_DIV_EXTRA (s.pair.mir.countP old)
  s1.pairM (fun u => { u with
    cmp := u.cmp.filter (fun p => !old p)
    mir := u.mir.filter (fun p => !old p)
    held := u.held.filter (fun p => decide (s.clk.el < p.2 + 64000)) })

/-- A hot standby's own request (R292, R489, R490): compared with the mirrored stakes, and held. -/
def State.pairRequest (s : State) (r : StakeReq) : State :=
  let (hit, rest) := takeFirst (fun p => s.stakeMatch r p.1) s.pair.mir
  (if hit then s.pairM (fun u => { u with mir := rest })
  else s.pairM (fun u => { u with cmp := u.cmp ++ [(r, s.clk.el)], held := u.held ++ [(r, s.clk.el)] })).pairAge

/-- A mirrored stake at a hot standby (R490): one of origin 0 or 1 is compared with the own requests. -/
def State.pairMirror (s : State) (r : StakeReq) : State :=
  if 2 ≤ r.origin then s
  else
    let (hit, rest) := takeFirst (fun p => s.stakeMatch p.1 r) s.pair.cmp
    let kept := (takeFirst (fun p => s.stakeMatch p.1 r) s.pair.held).2
    s.pairM (fun u => { u with
      cmp := rest, held := kept, mir := if hit then u.mir else u.mir ++ [(r, s.clk.el)] })

/-- The mirrored output of loop `n` that a hot standby applies (R489). -/
def State.mirroredU (s : State) (n : Nat) : Option Nat := if s.hotStandby then assocGet s.pair.loopU n else none

/-- A hot standby compares loop `n`'s own output with the mirrored one (R490): counted after 1 s of difference. -/
def State.pairLoop (s : State) (n : Nat) (r : CfgRec) (c : FV) : State :=
  match s.mirroredU n with
  | none => s
  | some u =>
    let span := FV.sub f32 (ofB32 (r.v C_LOOP_LIM_HI)) (ofB32 (r.v C_LOOP_LIM_LO))
    if (FV.mul f32 (ofB32 (s.cv1 C_PAIRREC_LOOP_TOL)) span).lt (FV.sub f32 c (ofB32 u)).abs then
      match listAt s.pair.loopSince n none with
      | none => s.pairM (fun p => { p with loopSince := listSet p.loopSince n (some s.clk.el) })
      | some t =>
        if t + 1000000000 ≤ s.clk.el then
          (s.pairM (fun p => { p with loopSince := listSet p.loopSince n (some s.clk.el) })).diverge PAIR_DIV_LOOP 1
        else s
    else s.pairM (fun p => { p with loopSince := listSet p.loopSince n none })

end Sys2Proof.Machine
end

