-- ==== Sys2Proof/Machine/Tally.lean ====
section
/-! DEFINITION. The tally engine: the herd, intake, pairing, prediction, stake requests, export
(spec/06_tally.md), and the handoff entries it makes (spec/15_township_pair.md R477, R478). -/

namespace Sys2Proof.Machine

open Sys2Proof

/-! ## The store and the herd (R203 to R211) -/

/-- The record of slot `n`. -/
def slotAddr (n : Nat) : Nat := 0x2000000 + 64 * n

/-- Bits of word `i` of a record. -/
def recBits (w : List Nat) (i hi lo : Nat) : Nat := bitsOf (listAt w i 0) hi lo

/-- Set bits of word `i` of a record. -/
def recSet (i hi lo v : Nat) (w : List Nat) : List Nat := listMod w i (fun x => setBits x hi lo v)

/-- Set FLAGS bit `b` when `on` (R210). -/
def recFlag (b : Nat) (on : Bool) (w : List Nat) : List Nat :=
  if on then listMod w 0 (fun x => setBit x (40 + b) true) else w

/-- Set STATE (R211). -/
def recState (st : Nat) (w : List Nat) : List Nat := recSet 0 39 37 st w

/-- Apply `f` to the tally unit. -/
def State.talM (s : State) (f : TallyUnit → TallyUnit) : State := { s with tally := f s.tally }

/-- The object in slot `n`. -/
def State.obj (s : State) (n : Nat) : Option Obj := assocGet s.tally.herd n

/-- Put an object in slot `n`. -/
def State.objPut (s : State) (n : Nat) (o : Obj) : State := s.talM (fun t => { t with herd := assocPut t.herd n o })

/-- Is the slot still held Quarantined (R225)? -/
def Obj.quar (o : Obj) : Bool :=
  match o.stage with
  | .quarantined _ => true
  | _ => false

/-- Is the object Exported? -/
def Obj.isExported (o : Obj) : Bool :=
  match o.stage with
  | .exported => true
  | _ => false

/-- Slots that an entry of the TALLY quarantine table covers (R206, R514). -/
def State.talCovered (s : State) : List Nat :=
  ((List.range 64).filterMap (fun e => if s.rdi MEM_Q_VALID e = 1 then some (s.rdi MEM_Q_WORD e / 8) else none)).eraseDups

/-- Is slot `n` allocatable (R206)? -/
def State.slotFree (s : State) (n : Nat) : Bool := (s.obj n).isNone && !s.talCovered.contains n

/-- TAL_STAT shows the herd; FULL is raised when no slot is left (R224, R231). -/
def State.talShow (s : State) : State :=
  let live := (s.tally.herd.filter (fun p => !p.2.quar)).length
  let full := decide (524288 ≤ s.tally.herd.length + (s.talCovered.filter (fun n => (s.obj n).isNone)).length)
  let s1 := s.wr TAL_STAT_LIVE live
  (s1.wr TAL_STAT_FULL (b2n full)).raiseIf (full && s.rd TAL_STAT_FULL == 0) 13 0

/-- Write a record, word 0 last (R207). -/
def State.recPut (s : State) (n : Nat) (w : List Nat) : State :=
  (s.memPuts (slotAddr n + 8) (w.drop 1)).memPut (slotAddr n) (listAt w 0 0)

/-- Take a slot off every list of waiting work. -/
def State.talDrop (s : State) (n : Nat) : State :=
  let off (l : List Nat) : List Nat := l.filter (fun k => k != n)
  let freed := match (s.obj n).map (·.stage) with
    | some (.feature _ c) => some c
    | _ => none
  s.talM (fun t => { t with
    waits := t.waits.map off
    fst := t.fst.map (fun x => { x with queue := off x.queue })
    cst := (List.range 16).map (fun k =>
      let x := listAt t.cst k {}
      { x with queue := off x.queue, reserved := if freed = some k then x.reserved - 1 else x.reserved })
    exportQ := off t.exportQ
    held := t.held.filter (fun r => !(r.1.origin == 0 && r.1.slot == n)) })

/-- An uncorrectable read of a live record (R225): the object is abandoned and its slot held 1.1 s. -/
def State.talQuarantine (s : State) (n : Nat) (o : Obj) (w0 : Option Nat) : State :=
  let base := w0.getD (o.id + o.source * 2 ^ 32)
  let s1 := (s.talDrop n).memPut (slotAddr n) (setBit (setBits base 39 37 7) 47 true)
  let s2 := if o.isExported then s1.wr TAL_EXPQ_QUEUED (s1.rd TAL_EXPQ_QUEUED - 1) else s1
  let s3 := s2.objPut n { o with stage := .quarantined (s.clk.el + 1100000000), held := 0 }
  ((s3.inc TAL_UE_COUNT 1).raise 13 7).talShow

/-- The engine reads the record of a live object (R225): its eight words, or the slot is quarantined. -/
def State.recRead (s : State) (n : Nat) (o : Obj) : Option (List Nat) × State :=
  let (l, s1) := s.memReads (slotAddr n) 8
  if l.any (·.isNone) then (none, s1.talQuarantine n o (listAt l 0 none)) else (some (l.map (fun x => x.getD 0)), s1)

/-- The engine updates the record of a live object: the new words, or the slot is quarantined. -/
def State.recUpd (s : State) (n : Nat) (o : Obj) (f : List Nat → List Nat) : Option (List Nat) × State :=
  match s.recRead n o with
  | (some w, s1) => (some (f w), s1.recPut n (f w))
  | (none, s1) => (none, s1)

/-- The next allocatable slot from `c` (R206). -/
def State.slotSearch (s : State) : Nat → Nat → Option Nat
  | 0, _ => none
  | k + 1, c => if s.slotFree c then some c else s.slotSearch k ((c + 1) % 524288)

/-! ## Prediction (R219 to R222) -/

/-- Rounding to the nearest integer, halves upward. -/
def roundHalfUp (x : FV) : Int := (x.addX (.fin false 1 (-1))).floorI

/-- Exponential in binary64 (Config.exp64). -/
def dExp (x : FV) : FV := ofB64 (Config.exp64 (toB64 x))

/-- A number 0 < x. -/
def FV.pos (x : FV) : Bool := FV.zero.lt x

/-- Newton steps of the free-fall equation with drag (R219): time at which distance `d` is reached. -/
def dragSolve (gk dv k d : FV) : Nat → FV → FV
  | 0, t => t
  | n + 1, t =>
    let e := dExp (dMul k t).neg
    let x := dAdd (dMul gk t) (dDiv (dMul dv (dSub (FV.ofInt 1) e)) k)
    let v := dAdd gk (dMul dv e)
    dragSolve gk dv k d n (dSub t (dDiv (dSub x d) v))

/-- Time in s and speed in mm/s at distance `d` mm from the reference, by the source's motion model (R219). -/
def fall (r : CfgRec) (d : FV) : Option (FV × FV) :=
  let v0 := ofB32 (r.v C_SOURCE_V0)
  let g := ofB32 (r.v C_SOURCE_G)
  let k := ofB32 (r.v C_SOURCE_DRAG)
  let c1 := ofB32 (r.v C_SOURCE_C1)
  let c2 := ofB32 (r.v C_SOURCE_C2)
  let c3 := ofB32 (r.v C_SOURCE_C3)
  let two := FV.ofInt 2
  let res := match r.v C_SOURCE_MODEL with
    | 1 =>
      if k.eqv FV.zero && g.eqv FV.zero then some (dDiv d v0, v0)
      else if k.eqv FV.zero then
        let dt := dDiv (dSub (FV.sqrt f64 (dAdd (dMul v0 v0) (dMul (dMul two g) d))) v0) g
        some (dt, dAdd v0 (dMul g dt))
      else if g.eqv FV.zero && v0.le (dMul k d) then none
      else
        let gk := dDiv g k
        let dv := dSub v0 gk
        let dt := dragSolve gk dv k d 24 (dDiv d v0)
        some (dt, dAdd gk (dMul dv (dExp (dMul k dt).neg)))
    | 2 => some (dDiv d v0, v0)
    | 3 =>
      let d2 := dMul d d
      some (dMul (dAdd (dAdd (dMul c1 d) (dMul c2 d2)) (dMul c3 (dMul d2 d))) (FV.dec f64 1 6),
        dDiv (FV.ofInt 1000000) (dAdd (dAdd c1 (dMul (dMul two c2) d)) (dMul (dMul (FV.ofInt 3) c3) d2)))
    | _ => none
  match res with
  | some (dt, vp) => if dt.pos && dt.le (FV.ofInt 1) && vp.pos && vp.isFin then some (dt, vp) else none
  | none => none

/-- The prediction for one plane (R219): reference time, height in ns. -/
def State.predict (s : State) (r : CfgRec) (tc : Int) (h p : Nat) : Option Lane :=
  match s.crec C_PLANE_PLANE p with
  | none => none
  | some pl =>
    match fall r (ofB32 (pl.v C_PLANE_DIST)) with
    | none => none
    | some (dt, vp) => some {
      centre := tc + roundHalfUp (dMul dt (FV.ofInt 1000000000))
      passage := (roundHalfUp (dDiv (dMul (FV.ofInt h) (ofB32 (r.v C_SOURCE_V0))) vp)).toNat
      shift := dMul (ofB32 (r.v C_SOURCE_DRIFT)) dt
      plane := pl }

/-- The stake time of a plane (R222). -/
def Lane.on (l : Lane) : Int :=
  l.centre - ((l.passage + 1) / 2 : Nat) - l.plane.v C_PLANE_PRE - l.plane.v C_PLANE_VALVE_DELAY

/-- Up to a multiple of 8. -/
def up8 (n : Nat) : Nat := (n + 7) / 8 * 8

/-- The pulse width of a plane in ns (R222). -/
def Lane.width (l : Lane) : Nat :=
  let w := up8 (l.passage + l.plane.v C_PLANE_PRE + l.plane.v C_PLANE_POST)
  up8 (min (max w (l.plane.v C_PLANE_MIN_WIDTH)) (l.plane.v C_PLANE_MAX_WIDTH))

/-- Edges and centre of an object at a plane in mm, without MARGIN (R220): left, centre, right. -/
def laneEdges (r : CfgRec) (shift : FV) (cx xmin xmax : Nat) : FV × FV × FV :=
  let x0 := ofB32 (r.v C_SOURCE_X0)
  let px := ofB32 (r.v C_SOURCE_PX_PITCH)
  let at_ (c : FV) : FV := dAdd (dAdd x0 (dMul c px)) shift
  (at_ (FV.ofInt xmin), at_ (.fin false cx (-4)), at_ (FV.ofInt (xmax + 1)))

/-- The valves of a row that edges with margin cover (R220): first, number, trimmed to VALVES_MAX. -/
def valveRange (pl : CfgRec) (left xc right : FV) : Nat × Nat × Bool :=
  let rel (x : FV) : FV := dDiv (dSub x (ofB32 (pl.v C_PLANE_ROW_X0))) (ofB32 (pl.v C_PLANE_VPITCH))
  let half : FV := .fin false 1 (-1)
  let a0 : Int := -(dSub (rel left) half).neg.floorI
  let b0 : Int := (dSub (rel right) half).floorI
  let c : Int := (rel xc).floorI
  let a1 : Int := max (if b0 < a0 then c else a0) 0
  let b1 : Int := min (if b0 < a0 then c else b0) ((pl.v C_PLANE_ROW_LEN : Int) - 1)
  let vm : Int := pl.v C_PLANE_VALVES_MAX
  if b1 < a1 then (0, 0, false)
  else if vm < b1 - a1 + 1 then
    let k := min (max (c - ((vm - 1) / 2)) 0) ((pl.v C_PLANE_ROW_LEN : Int) - vm)
    (k.toNat, vm.toNat, true)
  else (a1.toNat, (b1 - a1 + 1).toNat, false)

/-- What a target choice needs of an object: SOURCE record, whether it has columns, CX, X_MIN, X_MAX. -/
structure Geo where
  src : Option CfgRec
  cols : Bool
  cx : Nat
  xmin : Nat
  xmax : Nat

/-- The targets of a plane (R220, R483): first valve or pin, number, trimmed. -/
def Lane.targets (l : Lane) (g : Geo) : Nat × Nat × Bool :=
  let t := l.plane.v C_PLANE_TARGET
  if l.plane.v C_PLANE_KIND = 1 then (t, 1, false)
  else
    let m := ofB32 (l.plane.v C_PLANE_MARGIN)
    let pick (e : FV × FV × FV) : Nat × Nat × Bool :=
      let (k, n, lim) := valveRange l.plane (dSub e.1 m) e.2.1 (dAdd e.2.2 m)
      (t + k, n, lim)
    match l.edges, g.src with
    | some e, _ =>
      let x := e.map ofB32
      if x.any FV.isNaN then (t, 1, false) else pick (listAt x 0 .nan, listAt x 1 .nan, listAt x 2 .nan)
    | none, some r => if g.cols then pick (laneEdges r l.shift g.cx g.xmin g.xmax) else (t, 1, false)
    | none, none => (t, 1, false)

/-- The stake requests of a plane, in ascending order of target (R222). -/
def State.laneReqs (s : State) (l : Lane) (first n slot origin : Nat) : List StakeReq :=
  let base := if l.plane.v C_PLANE_KIND = 1 then first else 0x1000 + first
  (List.range n).map (fun k =>
    { time := l.on, target := base + k, width := l.width / 8, slot, origin, epoch := s.rd TAL_STAT_EPOCH % 2,
      steptag := s.rd STK_STAT_STEPPAR })

/-- A request at the crossing (R222): it enters when it still has its lead; else it is not made. -/
def State.reqTry (s : State) (r : StakeReq) (lead : Nat) : Bool × State :=
  if ((s.clk.now + lead : Nat) : Int) ≤ r.time then (true, s.talM (fun t => { t with fifo := t.fifo ++ [r] }))
  else (false, (s.inc TAL_LATE_STAKE 1).raise 13 2)

/-- Requests go to the crossing in order; those that find the FIFO of 256 full are held: made, held, late. -/
def State.reqAll (s : State) (lead : Nat) : List StakeReq → (Nat × Nat × Bool) × State
  | [] => ((0, 0, false), s)
  | r :: rest =>
    if !s.tally.held.isEmpty || decide (256 ≤ s.tally.fifo.length) then
      let ((m, h, l), s1) := (s.talM (fun t => { t with held := t.held ++ [(r, lead)] })).reqAll lead rest
      ((m, h + 1, l), s1)
    else
      let (ok_, s1) := s.reqTry r lead
      let ((m, h, l), s2) := s1.reqAll lead rest
      ((m + b2n ok_, h, l || !ok_), s2)

/-! ## Export and the end of a record (R211, R226, R227) -/

/-- Is an object selected for export (R226)? -/
def State.talSelected (s : State) (o : Obj) (w : List Nat) : Bool :=
  recBits w 0 55 52 == 4 ||
    match s.rd TAL_EXPORT_MODE with
    | 1 => true
    | 2 => o.ord % max 1 (s.rd TAL_EXPORT_EVERY) == 0
    | 3 => bitAt (s.rd TAL_EXPORT_CLS_CLASSES) (recBits w 0 51 48)
    | _ => false

/-- The record becomes Done and leaves the herd. -/
def State.talDone (s : State) (n : Nat) (w : List Nat) : State :=
  ((s.recPut n (recState 5 w)).talM (fun t => { t with herd := assocDel t.herd n })).talShow

/-- The record's life ends: it is exported when selected and there is room, else Done (R226, R227). -/
def State.talFinish (s : State) (n : Nat) (o : Obj) (w : List Nat) : State :=
  if s.talSelected o w then
    if s.rd TAL_EXPQ_QUEUED < s.cv1 C_ENGINE_EXPORT_MAX then
      let s1 := s.wrapij TAL_EXPSEQ_SEQ 0 0 1
      let w1 := recState 6 (recSet 7 31 20 (s1.rd TAL_EXPSEQ_SEQ) w)
      let s2 := ((s1.recPut n w1).objPut n { o with stage := .exported }).talM (fun t => { t with exportQ := t.exportQ ++ [n] })
      (s2.wr TAL_EXPQ_QUEUED (s2.rd TAL_EXPQ_QUEUED + 1)).dmaReady 0 (w1.flatMap (leBytes 8))
    else ((s.inc TAL_EXPDROP_COUNT 1).raise 13 8).talDone n w
  else s.talDone n w

/-! ## Action (R211, R222, R477, R478) -/

/-- The geometry of a record. -/
def Obj.geo (o : Obj) (w : List Nat) : Geo :=
  { src := o.src, cols := !o.frags.isEmpty, cx := recBits w 2 23 0, xmin := recBits w 4 12 0, xmax := recBits w 4 25 13 }

/-- The plane block of a handoff entry (R478). -/
def State.handBlock (s : State) (o : Obj) (w : List Nat) (p : Nat) : List Nat :=
  let g := o.geo w
  match o.src with
  | none => List.replicate 24 0
  | some r =>
    match s.predict r o.tc o.h p with
    | none => List.replicate 24 0
    | some l =>
      let e := laneEdges r l.shift g.cx g.xmin g.xmax
      let x := if g.cols then [toB32 e.1, toB32 e.2.1, toB32 e.2.2] else [qNaN32, qNaN32, qNaN32]
      leBytes 8 (ucode 64 l.centre) ++ leBytes 4 l.passage ++ x.flatMap (leBytes 4)

/-- The lowest out channel that selects an object (R477). -/
def State.handChannel (s : State) (o : Obj) (cls : Nat) : Option Nat :=
  (List.range 8).find? (fun c => s.has C_HANDOFF_OUT_CHANNEL c && bitAt (s.cv C_HANDOFF_OUT_SOURCES c) o.source &&
    bitAt (s.cv C_HANDOFF_OUT_CLASSES c) cls)

/-- Stake a record's plane (R222): requests are made, the record becomes Staked, or ends when none is left. -/
def State.talStake (s : State) (n : Nat) (o : Obj) (w : List Nat) (l : Lane) : State :=
  let (first, k, lim) := l.targets (o.geo w)
  if k = 0 then
    let w1 := recFlag 2 true w
    (s.recPut n w1).talFinish n o w1
  else
    let ((m, h, late), s1) := s.reqAll o.lead (s.laneReqs l first k n 0)
    let w1 := recFlag 5 late (recFlag 6 lim (recSet 7 19 16 m (recSet 7 15 12 k (recSet 7 11 0 first w))))
    let w2 := if 0 < m then recState 4 w1 else w1
    let s2 := (s1.recPut n w2).objPut n { o with stage := .staking, held := h }
    if m = 0 && h = 0 then s2.talFinish n o w2 else s2

/-- A record has become Classified: handoff, then its action (R211, R222, R477). -/
def State.talAct (s : State) (n : Nat) (o : Obj) (w : List Nat) : State :=
  let hc := s.handChannel o (recBits w 0 51 48)
  let s1 := match hc with
    | some c => s.handEntry c (w.flatMap (leBytes 8) ++ s.handBlock o w (s.cv C_HANDOFF_OUT_PLANE_A c) ++
        s.handBlock o w (s.cv C_HANDOFF_OUT_PLANE_B c))
    | none => s
  let localStake := match hc with
    | some c => s.cv C_HANDOFF_OUT_LOCAL c == 1
    | none => true
  let act := recBits w 0 55 52
  if (act = 1 || act = 2) && localStake then
    match listAt o.lanes (act - 1) none with
    | some l => s1.talStake n o w l
    | none =>
      let w1 := recFlag 2 true w
      (s1.recPut n w1).talFinish n o w1
  else s1.talFinish n o w

/-- DEFAULT_ACTION of an object's source. -/
def defaultAction (r : Option CfgRec) : Nat := (r.map (fun r => r.v C_SOURCE_DEFAULT_ACTION)).getD 0

/-- A record gets its class, score and action (R211, R243, R249) and the engine carries the action out. -/
def State.classified (s : State) (n : Nat) (o : Obj) (cls score act : Nat) (f : List Nat → List Nat) : State :=
  let sel := fun (w : List Nat) =>
    match o.asg with
    | some a =>
      if o.x.isEmpty then w
      else
        let x := (List.range 8).map (fun k => ucode 16 (listAt o.x (listAt a.vals (C_ASSIGN_SELECT0.field + k) k) 0))
        let word (l : List Nat) : Nat := leNat (l.flatMap (leBytes 2))
        listSet (listSet w 5 (word (x.take 4))) 6 (word (x.drop 4))
    | none => w
  let g := fun w => recState 3 (recSet 0 63 56 score (recSet 0 55 52 act (recSet 0 51 48 cls (f (sel w)))))
  match s.recUpd n o g with
  | (some w, s1) => s1.talAct n o w
  | (none, s1) => s1

/-- The final class of a pulse object, or that it has none, leaves for the measurement unit (R353). -/
def State.lossResult (s : State) (source : Nat) (cls : Option Nat) : State :=
  if 8 ≤ source && source < 24 then
    { s with msr := { s.msr with results := s.msr.results ++ [(source - 8, cls)] } }
  else s

/-- The default path (R250). -/
def State.defaultPath (s : State) (n : Nat) (o : Obj) (bad : Bool) : State :=
  ((s.talDrop n).lossResult o.source none).classified n { o with x := [], asg := none } 0 0 (defaultAction o.src) (fun w => recFlag 7 bad (recFlag 2 true w))

/-- A record has become Closed (R211, R236, R250): it waits for dispatch, or takes its default. -/
def State.talClosed (s : State) (n : Nat) (o : Obj) : State :=
  match s.crec C_ASSIGN_SOURCE o.source with
  | some a =>
    if s.has C_MODEL_GROUP (a.v C_ASSIGN_CGROUP) then
      let g := a.v C_ASSIGN_FGROUP
      (s.objPut n { o with stage := .waiting g }).talM (fun t => { t with waits := listMod t.waits g (fun l => l ++ [n]) })
    else s.defaultPath n o false
  | none =>
    let act := defaultAction o.src
    let s0 := s.lossResult o.source none
    if act = 1 || act = 2 then s0.classified n o 0 0 act (recFlag 2 true)
    else
      match s0.recUpd n o (fun w => recFlag 2 true (recSet 0 63 56 0 (recSet 0 55 52 act (recSet 0 51 48 0 w)))) with
      | (some w, s1) => s1.talFinish n o w
      | (none, s1) => s1

/-! ## Intake (R213 to R218, R224) -/

/-- An object as it is taken in: source, summary, pulse or import entry, steps of device time it holds. -/
structure InObj where
  source : Nat
  frag : Option (List Nat) := none
  pulse : Option (List Nat) := none
  imp : Option (List Nat) := none
  sig : Int

/-- The SOURCE record that stands for a missing one: every field at its default (R212). -/
def sourceDefault : CfgRec := ⟨0x70, 1, 0, kindSource.fields.map (fun f => f.dflt)⟩

/-- Size magnitude and class (R214). -/
def sizeOf (r : Option CfgRec) (m : FV) : Nat × Nat :=
  match r with
  | none => (0, 0)
  | some r =>
    let x := FV.mul f32 m (ofB32 (r.v C_SOURCE_SIZE_SCALE))
    let mag := match x with
      | .nan => 0
      | .inf neg => if neg then 0 else 4095
      | x => (limI 0 4095 (roundHalfUp x)).toNat
    (mag, ((List.range 15).filter (fun i => decide (listAt r.vals (C_SOURCE_THR0.field + i) 0 ≤ mag))).length)

/-- Closure time of an incoming object. -/
def InObj.close (i : InObj) : Nat :=
  match i.frag, i.pulse, i.imp with
  | some f, _, _ => listAt f 1 0
  | none, some p, _ => leAt p 0 8
  | none, none, some e => leAt e 8 8
  | _, _, _ => 0

/-- Reference time of an incoming object, moved by the steps since (R128, R216, R219). -/
def State.inTc (s : State) (i : InObj) : Int :=
  let moved : Int := (i.close : Int) + (s.time.stepSum - i.sig)
  match i.frag with
  | some f => moved - ((recBits f 3 47 24 * s.cv C_STREAM_PERIOD i.source * 2 + 16) / 32 : Nat)
  | none => moved

/-- Height of a view in ns (R219). -/
def State.inH (s : State) (i : InObj) : Nat :=
  match i.frag with
  | some f => recBits f 2 35 26 * s.cv C_STREAM_PERIOD i.source
  | none => 0

/-- The planes of an incoming object: predicted, or given by the import entry (R215, R219, R483). -/
def State.inLanes (s : State) (i : InObj) (r : Option CfgRec) : List (Option Lane) :=
  match r with
  | none => [none, none]
  | some r =>
    [r.v C_SOURCE_PLANE_A, r.v C_SOURCE_PLANE_B].zipIdx.map (fun (p, k) =>
      match i.imp with
      | some e =>
        let b := slice e (64 + 24 * k) 24
        match s.crec C_PLANE_PLANE p with
        | some pl =>
          if leAt b 0 8 = 0 then none
          else some {
            centre := sint 64 (leAt b 0 8) + (s.time.stepSum - i.sig), passage := leAt b 8 4, shift := FV.zero, plane := pl,
            edges := some [leAt b 12 4, leAt b 16 4, leAt b 20 4] }
        | none => none
      | none => s.predict r (s.inTc i) (s.inH i) p)

/-- The earliest deadline of an object's planes (R221). -/
def deadlineOf (lanes : List (Option Lane)) (lead : Nat) : Option Int :=
  lanes.foldl (fun a l =>
    match a, l with
    | none, some l => some (l.on - lead)
    | some x, some l => some (min x (l.on - lead))
    | a, none => a) none

/-- Words 1, 2 and 4 of a record from a view (R209, R217). -/
def InObj.viewWords (i : InObj) (r : Option CfgRec) (w : List Nat) : List Nat :=
  let w1 := listSet w 1 i.close
  match i.frag, i.pulse with
  | some f, _ =>
    let n := recBits f 2 59 36
    let (mag, cls) := sizeOf r (FV.ofInt n)
    let last := recBits f 0 63 32
    let h := recBits f 2 35 26
    let w2 := recSet 2 63 60 cls (recSet 2 59 48 mag (recSet 2 47 24 (recBits f 3 47 24) (recSet 2 23 0 (recBits f 3 23 0) w1)))
    recSet 4 63 52 (min n 4095) (recSet 4 51 39 last (recSet 4 38 26 (last + 2 ^ 13 + 1 - h) (recSet 4 25 13 (recBits f 2 25 13)
      (recSet 4 12 0 (recBits f 2 12 0) w2))))
  | none, some p =>
    let (mag, cls) := sizeOf r (ofB32 (leAt p 12 4))
    recSet 2 63 60 cls (recSet 2 59 48 mag w1)
  | none, none => w1

/-- A speed as the s16.8 code of word 3 (R209). -/
def velCode (v : FV) : Nat := ucode 24 (satS 24 (v.mulX (.fin false 1 8)).roundI)

/-- ARRIVE of word 3 (R209). -/
def arriveCode (lanes : List (Option Lane)) (close : Int) : Nat :=
  match lanes.find? Option.isSome with
  | some (some l) => (limI 0 65535 ((l.centre - close + 500) / 1000)).toNat
  | _ => 0

/-- A fresh record (R209). -/
def State.newWords (s : State) (i : InObj) (r : Option CfgRec) (id : Nat) (lanes : List (Option Lane)) (st : Nat) : List Nat :=
  let close : Int := (i.close : Int) + (s.time.stepSum - i.sig)
  let ff := (i.frag.map (fun f => recBits f 0 15 8)).getD 0
  let w := [id + i.source * 2 ^ 32 + st * 2 ^ 37, 0, 0, arriveCode lanes close * 2 ^ 48, 0, 0, 0,
    ff * 2 ^ 32 + s.rd TAL_STAT_EPOCH * 2 ^ 40]
  let vx := match i.frag, r with
    | some _, some r => velCode (ofB32 (r.v C_SOURCE_DRIFT))
    | _, _ => 0
  let vy := match i.imp, r with
    | none, some r => velCode (ofB32 (r.v C_SOURCE_V0))
    | _, _ => 0
  let w1 := recFlag 7 (bitAt ff 7) (recSet 3 47 24 vy (recSet 3 23 0 vx (i.viewWords r w)))
  match i.imp with
  | some e =>
    let w0 := leAt e 0 8
    listSet (listSet (recSet 0 63 56 (bitsOf w0 63 56) (recSet 0 55 52 (bitsOf w0 55 52) (recSet 0 51 48 (bitsOf w0 51 48) w1)))
      5 (leAt e 40 8)) 6 (leAt e 48 8)
  | none => w1

/-- An object without a record takes its source's default action (R224). -/
def State.untracked (s : State) (source : Nat) (r : Option CfgRec) (lanes : List (Option Lane)) (g : Geo) : State :=
  let s1 := ((s.lossResult source none).inc TAL_UNTRACKED_COUNT 1).raise 13 1
  let act := defaultAction r
  if act = 1 || act = 2 then
    match listAt lanes (act - 1) none with
    | some l =>
      let (first, k, _) := l.targets g
      (s1.reqAll (s.cv1 C_ENGINE_STAKE_LEAD) (s1.laneReqs l first k 0 1)).2
    | none => s1
  else s1

/-- The geometry of an incoming object. -/
def InObj.geo (i : InObj) (r : Option CfgRec) : Geo :=
  match i.frag with
  | some f => ⟨r, true, recBits f 3 23 0, recBits f 2 12 0, recBits f 2 25 13⟩
  | none => ⟨r, false, 0, 0, 0⟩

/-- The PAIR record of a transit, and whether the transit is its primary. -/
def State.pairOf (s : State) (src : Nat) : Option (CfgRec × Bool) :=
  match (s.recs 0x70 3).find? (fun r => r.v C_TPAIR_PRIMARY == src || r.v C_TPAIR_SECONDARY == src) with
  | some r => some (r, r.v C_TPAIR_PRIMARY == src)
  | none => none

/-- A secondary column in 1/16 px mapped into primary columns (R216). -/
def mapCol (r : CfgRec) (c : FV) : FV :=
  ((ofB32 (r.v C_TPAIR_X_SCALE)).mulX c).addX (ofB32 (r.v C_TPAIR_X_OFFSET))

/-- Does a secondary view match a primary view (R216)? The distance of their reference times from DT, if so. -/
def pairMatch (r : CfgRec) (ts tp : Int) (cxS cxP : Nat) : Option Nat :=
  let dt : Int := ts - tp - sint 32 (r.v C_TPAIR_DT)
  let dx := ((mapCol r (.fin false cxS (-4))).addX (.fin true cxP (-4))).abs
  if dt.natAbs ≤ r.v C_TPAIR_T_WIN && dx.le (FV.ofInt (r.v C_TPAIR_X_WIN)) then some dt.natAbs else none

/-- Open objects of a PAIR record. -/
def State.openOf (s : State) (pair : Nat) : List (Nat × Obj × Bool) :=
  s.tally.herd.filterMap (fun (n, o) =>
    match o.stage with
    | .openWait p prim _ => if p = pair then some (n, o, prim) else none
    | _ => none)

/-- Open records that an incoming view matches, with the distance of R217. -/
def State.pairMatches (s : State) (i : InObj) (r : CfgRec) (prim : Bool) : List (Nat × Nat × Obj) :=
  let cx := (i.frag.map (fun f => recBits f 3 23 0)).getD 0
  let tc := s.inTc i
  (s.openOf (r.v C_TPAIR_PRIMARY)).filterMap (fun (n, o, p) =>
    if p = prim then none
    else
      let ox := recBits (listAt o.frags 0 []) 3 23 0
      let m := if prim then pairMatch r o.tc tc ox cx else pairMatch r tc o.tc cx ox
      m.map (fun d => (d, n, o)))

/-- The nearest match, ties to the lower slot. -/
def bestMatch : List (Nat × Nat × Obj) → Option (Nat × Nat × Obj)
  | [] => none
  | m :: t =>
    match bestMatch t with
    | some b => if b.1 < m.1 then some b else some m
    | none => some m

/-- The geometry of a record that only the secondary view made, mapped into primary columns (R218). -/
def unpairedWords (p : CfgRec) (w : List Nat) : List Nat :=
  let col (c : Nat) : Nat := (limI 0 8191 (roundHalfUp (mapCol p (FV.ofInt c)))).toNat
  let a := col (recBits w 4 12 0)
  let b := col (recBits w 4 25 13)
  let flip := (ofB32 (p.v C_TPAIR_X_SCALE)).lt FV.zero
  let cx := (limI 0 131056 (roundHalfUp ((mapCol p (.fin false (recBits w 2 23 0) (-4))).mulX (FV.ofInt 16)))).toNat
  recSet 4 25 13 (if flip then a else b) (recSet 4 12 0 (if flip then b else a) (recSet 2 23 0 cx w))

/-- A view merges into the Open record of slot `n` (R217); ARRIVE follows the CLOSE_TIME that the record keeps (R209). -/
def State.talMerge (s : State) (i : InObj) (r : Option CfgRec) (prim : Bool) (n : Nat) (o : Obj) : State :=
  let f := i.frag.getD []
  let ff := recBits f 0 15 8
  let upd := fun (w : List Nat) =>
    let close : Int := (i.close : Int) + (s.time.stepSum - i.sig)
    let w1 := if prim then recSet 3 63 48 (arriveCode o.lanes close) (i.viewWords r w) else w
    let w2 := listMod w1 7 (fun x => x ||| (ff * 2 ^ 32))
    recState 2 (recFlag 0 true (recFlag 7 (bitAt ff 7) w2))
  match s.recUpd n o upd with
  | (some _, s1) => s1.talClosed n { o with frags := if prim then f :: o.frags else o.frags ++ [f] }
  | (none, s1) => s1

/-- An object that needs a new slot is allocated, or is untracked (R206, R211, R224). -/
def State.talAlloc (s : State) (i : InObj) (r : Option CfgRec) (pair : Option (CfgRec × Bool)) : State :=
  let lanes := s.inLanes i r
  let busy := s.tally.herd.length + 65
  match s.slotSearch busy (s.rd TAL_CURSOR_SLOT) with
  | none => (s.untracked i.source r lanes (i.geo r)).talShow
  | some n =>
    let (old, s1) := s.memRead (slotAddr n)
    let gen := match old with
      | some v => (bitsOf v 31 19 + 1) % 8192
      | none => 0
    let id := n + gen * 2 ^ 19
    let full := match pair with
      | some (p, _) => decide (4096 ≤ (s.openOf (p.v C_TPAIR_PRIMARY)).length)
      | none => false
    let st := if i.imp.isSome then 3 else if pair.isSome && !full then 1 else 2
    let w0 := recFlag 1 full (s1.newWords i r id lanes st)
    let w := match pair with
      | some (p, false) => if full then unpairedWords p w0 else w0
      | _ => w0
    let lead := s.cv1 C_ENGINE_STAKE_LEAD
    let ord := s.tally.ord + 1
    let stage := match pair with
      | some (p, prim) =>
        if full then .waiting 0
        else .openWait (p.v C_TPAIR_PRIMARY) prim ((s.clk.now + p.v C_TPAIR_WAIT * 1000 : Nat) : Int)
      | none => .waiting 0
    let o : Obj := {
      source := i.source, stage, ord, tc := s.inTc i, h := s.inH i, src := r, frags := i.frag.toList, pulse := i.pulse,
      lanes, lead, deadline := deadlineOf lanes lead, id }
    let s2 := (s1.wr TAL_CURSOR_SLOT (n + 1)).wr64 TAL_OBJ_LO_COUNT TAL_OBJ_HI_COUNT
      ((s1.rd64 TAL_OBJ_LO_COUNT TAL_OBJ_HI_COUNT + 1) % 2 ^ 64)
    let s3 := (((s2.recPut n w).objPut n o).talM (fun t => { t with ord := ord })).talShow
    if i.imp.isSome then s3.talAct n o w
    else if st = 1 then s3
    else
      let s4 := if full then (s3.inc TAL_PAIR_UNPAIRED 1).raise 13 5 else s3
      s4.talClosed n o

/-- One incoming object (R213 to R217, R224, R232). -/
def State.intakeObj (s : State) (i : InObj) : State :=
  let r := some ((s.crec C_SOURCE_SOURCE i.source).getD sourceDefault)
  if s.rd TAL_CTRL_EN = 0 || !s.marked 0 || (assocGet s.host.uresetAt 13).isSome then
    (s.untracked i.source r (s.inLanes i r) (i.geo r)).talShow
  else
    let pair := if i.frag.isSome then s.pairOf i.source else none
    match pair with
    | some (p, prim) =>
      let m := s.pairMatches i p prim
      match bestMatch m with
      | some (_, n, o) =>
        let s1 := if 2 ≤ m.length then (s.inc TAL_PAIR_AMBIG 1).raise 13 6 else s
        s1.talMerge i r prim n o
      | none => s.talAlloc i r pair
    | none => s.talAlloc i r none

/-- The object at the front of intake queue `q` (R213): transits 0 to 7, pulses 8, imports 9. -/
def State.inFront (s : State) (q : Nat) : Option InObj :=
  if q < 8 then
    match (listAt s.pix.trn q {}).sums with
    | f :: _ => some { source := q, frag := some (f.take 14), sig := sint 64 (listAt f 14 0) }
    | [] => none
  else if q = 8 then
    match s.tally.pulses with
    | (b, sig) :: _ => some { source := 8 + leAt b 24 1, pulse := some b, sig }
    | [] => none
  else
    match s.tally.imports with
    | e :: _ => some { source := 24 + e.ch, imp := some e.bytes, sig := e.sig }
    | [] => none

/-- Remove the front of intake queue `q`. -/
def State.inPop (s : State) (q : Nat) : State :=
  if q < 8 then { s with pix := { s.pix with trn := listMod s.pix.trn q (fun x => { x with sums := x.sums.drop 1 }) } }
  else if q = 8 then s.talM (fun t => { t with pulses := t.pulses.drop 1 })
  else s.talM (fun t => { t with imports := t.imports.drop 1 })

/-- INTAKE (R213): the next input, round-robin over the ten queues. -/
def execIntake (s : State) : Host.Outcome State Fault Refusal := s.powered <|
  match ((List.range 10).map (fun k => (s.tally.rr + k) % 10)).find? (fun q => (s.inFront q).isSome) with
  | some q =>
    match s.inFront q with
    | some i => ok (((s.inPop q).talM (fun t => { t with rr := (q + 1) % 10 })).intakeObj i)
    | none => ok s
  | none => ok s

/-- PAIRING_WAIT_END (R218): the Open record of a slot whose WAIT has passed becomes Closed and UNPAIRED. -/
def execPairingWaitEnd (slot : Fin 524288) (s : State) : Host.Outcome State Fault Refusal := s.powered <|
  let n := slot.val
  match s.obj n with
  | some o =>
    match o.stage with
    | .openWait pair prim till =>
      if till ≤ (s.clk.now : Int) then
        let p := s.crec C_TPAIR_PRIMARY pair
        let upd := fun (w : List Nat) =>
          let w1 := recState 2 (recFlag 1 true w)
          match prim, p with
          | false, some p => unpairedWords p w1
          | _, _ => w1
        match s.recUpd n o upd with
        | (some _, s1) => ok (((s1.inc TAL_PAIR_UNPAIRED 1).raise 13 5).talClosed n o)
        | (none, s1) => ok s1
      else ok s
    | _ => ok s
  | none => ok s

/-! ## Requests, reports, export, quarantine -/

/-- STAKE_REQUEST_ENTRY (R222): the oldest held request is tested again and enters the crossing. -/
def execStakeRequestEntry (s : State) : Host.Outcome State Fault Refusal := s.powered <|
  match s.tally.held with
  | (r, lead) :: rest =>
    if 256 ≤ s.tally.fifo.length then ok s
    else
      let (made, s1) := (s.talM (fun t => { t with held := rest })).reqTry r lead
      match (if r.origin = 0 then s1.obj r.slot else none) with
      | some o =>
        let o1 := { o with held := o.held - 1 }
        let upd := fun (w : List Nat) =>
          if made then recState 4 (recSet 7 19 16 (recBits w 7 19 16 + 1) w) else recFlag 5 true w
        match (s1.objPut r.slot o1).recUpd r.slot o1 upd with
        | (some w, s2) => if o1.held = 0 && recBits w 7 19 16 = 0 then ok (s2.talFinish r.slot o1 w) else ok s2
        | (none, s2) => ok s2
      | none => ok s1
  | [] => ok s

/-- STAKE_REPORT (R223): the oldest report reaches its record; a report of another epoch, or of a slot that is not
Staked, is ignored. -/
def execStakeReport (s : State) : Host.Outcome State Fault Refusal := s.powered <|
  match s.tally.reports with
  | p :: rest =>
    let s0 := s.talM (fun t => { t with reports := rest })
    match (if p.epoch = s.rd TAL_STAT_EPOCH % 2 then s0.obj p.slot else none) with
    | some o =>
      if o.stage = .staking then
        match s0.recRead p.slot o with
        | (some w, s1) =>
          if recBits w 0 39 37 = 4 then
            let k := recBits w 7 19 16
            let w1 := recFlag 5 (p.result = 2) (recFlag 4 (p.result = 1) (recSet 7 19 16 (k - 1) w))
            let s2 := s1.recPut p.slot w1
            let s3 := if p.result = 1 then (s2.inc TAL_STK_REFUSED 1).raise 13 3
              else if p.result = 2 then (s2.inc TAL_STK_DISCARDED 1).raise 13 4 else s2
            if k ≤ 1 && o.held = 0 then ok (s3.talFinish p.slot o w1) else ok s3
          else ok s1
        | (none, s1) => ok s1
      else ok s0
    | none => ok s0
  | [] => ok s

/-- EXPORT_COMPLETE (R226): the oldest Exported record whose DMA write is complete becomes Done. -/
def execExportComplete (s : State) : Host.Outcome State Fault Refusal := s.powered <|
  match s.tally.exportQ with
  | n :: rest =>
    if s.dmaWaiting 0 < s.tally.exportQ.length then
      let s1 := (s.talM (fun t => { t with exportQ := rest })).wr TAL_EXPQ_QUEUED (s.rd TAL_EXPQ_QUEUED - 1)
      match s1.obj n with
      | some o =>
        match s1.recRead n o with
        | (some w, s2) => ok (s2.talDone n w)
        | (none, s2) => ok (s2.wr TAL_EXPQ_QUEUED (s1.rd TAL_EXPQ_QUEUED))
      | none => ok s1
    else ok s
  | [] => ok s

/-- QUARANTINE_RELEASE (R225): 1.1 s have passed and no table entry covers the slot. -/
def execQuarantineRelease (slot : Fin 524288) (s : State) : Host.Outcome State Fault Refusal := s.powered <|
  match (s.obj slot.val).map (fun (o : Obj) => o.stage) with
  | some (Stage.quarantined till) =>
    if till ≤ s.clk.el && !s.talCovered.contains slot.val then
      ok ((s.talM (fun t => { t with herd := assocDel t.herd slot.val })).talShow)
    else ok s
  | _ => ok s

/-! ## Epochs and resets (R205, R223, R232) -/

/-- Stakes of origin 0 are handled as origin 1 from an epoch change on (R223). -/
def StakeReq.old (r : StakeReq) : StakeReq := if r.origin = 0 then { r with origin := 1 } else r

/-- The epoch changes (R205, R223): the herd is left but for held Quarantined slots, and older stakes lose their
records. -/
def State.epochChange (s : State) : State :=
  let old2 (l : List (StakeReq × Bool)) : List (StakeReq × Bool) := l.map (fun p => (p.1.old, p.2))
  let s1 := s.wr TAL_STAT_EPOCH (s.rd TAL_STAT_EPOCH + 1)
  let s2 := s1.talM (fun t => { t with
    herd := t.herd.filter (fun p => p.2.quar)
    held := t.held.map (fun r => (r.1.old, r.2))
    fifo := t.fifo.map StakeReq.old
    reports := []
    exportQ := []
    ord := 0
    waits := List.replicate 16 []
    fst := List.replicate 16 {}
    cst := List.replicate 16 {} })
  let oldRun (r : Run) : Run := { r with reps := old2 r.reps, offReps := old2 r.offReps }
  let oldEnt (e : StkEnt) : StkEnt := { e with st := e.st.old }
  let oldTgt (x : Target) : Target := { x with runs := x.runs.map oldRun }
  let k := s2.stk
  let s3 : State := { s2 with stk := { k with
    cal := k.cal.map oldEnt
    targets := k.targets.map (fun p => (p.1, oldTgt p.2)) } }
  let s4 := s3.dmaDiscard 0
  ((s4.wr TAL_EXPQ_QUEUED 0).talShow)

/-- The image's values of TAL_CTRL, TAL_EXPORT and TAL_EXPORT_CLS. -/
def State.talImage (s : State) : State :=
  (((s.wr TAL_CTRL_EN (if (s.crec1 C_ENGINE_EN).isSome then s.cv1 C_ENGINE_EN else 0)).wr TAL_EXPORT_MODE
    (s.cv1 C_ENGINE_EXPORT_MODE)).wr TAL_EXPORT_EVERY (s.cv1 C_ENGINE_EXPORT_EVERY)).wr TAL_EXPORT_CLS_CLASSES
    (s.cv1 C_ENGINE_EXPORT_CLASSES)

/-- Is a live object Open, Closed or Classified, so that a TAL unit reset takes it in flight (R232)? -/
def State.inFlight (s : State) (n : Nat) (o : Obj) : Bool :=
  match o.stage with
  | .quarantined _ => false
  | .exported => false
  | .staking => bitsOf (s.memWord (slotAddr n)) 39 37 == 3
  | _ => true

/-- A TAL unit reset (R232). -/
def State.talReset (s : State) : State :=
  let fly := s.tally.herd.filter (fun p => s.inFlight p.1 p.2)
  let s1 := fly.foldl (fun s p =>
    let w := (List.range 8).map (fun k => s.memWord (slotAddr p.1 + 8 * k))
    (s.talDrop p.1).untracked (if p.2.stage = Stage.staking then 255 else p.2.source) p.2.src p.2.lanes (p.2.geo w)) s
  s1.epochChange.talImage

end Sys2Proof.Machine
end

