-- ==== Sys2Proof/Machine/Stakeout.lean ====
section
/-! DEFINITION. The stake-out engine: intake, store, fetch, execution, templates, host stakes
(spec/08_stakeout_reflex.md R261 to R271, R292, R293, R296). -/

namespace Sys2Proof.Machine

open Sys2Proof

/-- Apply `f` to the stake-out unit. -/
def State.stkM (s : State) (f : StkUnit → StkUnit) : State := { s with stk := f s.stk }

/-- Word 1 of a stake (R261). -/
def StakeReq.word1 (r : StakeReq) : Nat :=
  r.target % 2 ^ 16 + r.width % 2 ^ 24 * 2 ^ 16 + r.slot % 2 ^ 19 * 2 ^ 40 + r.origin % 4 * 2 ^ 59 + r.epoch % 2 * 2 ^ 61 +
    r.steptag % 2 * 2 ^ 62 + b2n r.level * 2 ^ 63

/-- The stake that two words hold (R261). -/
def stakeOf (w0 w1 : Nat) : StakeReq :=
  { time := w0 % 2 ^ 64, target := bitsOf w1 15 0, width := bitsOf w1 39 16, slot := bitsOf w1 58 40, origin := bitsOf w1 60 59,
    epoch := bitsOf w1 61 61, steptag := bitsOf w1 62 62, level := bitAt w1 63 }

/-- Store entry `e` (R264). -/
def stkAddr (e : Nat) : Nat := 0xC00000 + 16 * e

/-- Is a target a valve? -/
def isValve (t : Nat) : Bool := decide (0x1000 ≤ t) && decide (t < 0x2000)

/-- The link of a valve target. -/
def linkOf (t : Nat) : Nat := (t - 0x1000) / 1024

/-- Can a target take stakes (R263)? -/
def State.targetOk (s : State) (t : Nat) : Bool :=
  if t < 64 then (s.crec C_PIN_PIN t).isSome && s.cv C_PIN_MODE t == 4
  else isValve t && s.has C_VLINK_LINK (linkOf t) && s.rdi VL_CTRL_EN (linkOf t) == 1

/-- A time on the target's grid: valves have 8 ns steps, ties down (R281). -/
def gridTime (t : Nat) (x : Int) : Int := if isValve t then (x + 3) / 8 * 8 else x

/-- MIN_W of a target (R266). -/
def State.minW (s : State) (t : Nat) : Int := if isValve t then s.cv C_VLINK_MIN_W (linkOf t) else s.cv C_PIN_MIN_W t

/-- MIN_GAP of a target (R266). -/
def State.minGap (s : State) (t : Nat) : Int := if isValve t then s.cv C_VLINK_MIN_GAP (linkOf t) else s.cv C_PIN_MIN_GAP t

/-- The frame that the link will build next (R279). -/
def State.nextFrame (s : State) (l : Nat) : Nat :=
  let n := s.clk.now / 1000
  if (listAt s.stk.links l {}).last = some n then n + 1 else n

/-- The earliest instant at which a target can still place an edge (R266, R268). -/
def State.earliest (s : State) (t : Nat) : Int :=
  if isValve t then ((s.nextFrame (linkOf t) + 3) * 1000 : Nat) else ((s.clk.now + 200 : Nat) : Int)

/-- STK_STAT follows the store. -/
def State.stkShow (s : State) : State :=
  ((s.wr STK_STAT_PENDING s.stk.cal.length).wr STK_STAT_FULL (b2n (decide (262144 ≤ s.stk.cal.length)))).wr STK_STAT_SHADOW
    (b2n s.standby)

/-- STK_H_STAT.RESULT takes a new value (R269, R295). -/
def State.hostResult (s : State) (v : Nat) : State :=
  if s.rd STK_H_STAT_RESULT = v then s else (s.wr STK_H_STAT_RESULT v).raise 12 5

/-- The outcome of a stake is reported (R269): to the tally engine for origin 0 (reports of origin 1 are ignored
there), to the host for origin 2. `result`: 0 executed, 1 refused, 2 discarded late. -/
def State.report (s : State) (r : StakeReq) (result host : Nat) : State :=
  if r.origin = 0 then s.talM (fun t => { t with reports := t.reports ++ [({ slot := r.slot, epoch := r.epoch, result } : StakeRep)] })
  else if r.origin = 2 then s.hostResult host
  else s

/-- A stake is executed (R269). -/
def State.executed (s : State) (p : StakeReq × Bool) : State :=
  let n := s.rd64 STK_EXEC_LO_COUNT STK_EXEC_HI_COUNT + 1
  (s.wr64 STK_EXEC_LO_COUNT STK_EXEC_HI_COUNT (n % 2 ^ 64)).report p.1 0 (if p.2 then 7 else 6)

/-- A stake is discarded late (R268). -/
def State.lateDiscard (s : State) (r : StakeReq) : State := ((s.inc STK_LATE_DISCARDED 1).raise 12 1).report r 2 5

/-- A stake is refused for its target, EN or the region (R263). -/
def State.refuseTarget (s : State) (r : StakeReq) : State := ((s.inc STK_REJECT_TARGET 1).raise 12 4).report r 1 4

/-- Words of the stake store that an entry of the quarantine table covers, as store entries (R264). -/
def State.stkCovered (s : State) : List Nat :=
  (List.range 64).filterMap (fun e => if s.rdi MEM_Q_VALID (64 + e) = 1 then some (s.rdi MEM_Q_WORD (64 + e) / 2) else none)

/-- May a store entry be taken (R264, R270)? -/
def State.entryFree (s : State) (e : Nat) : Bool :=
  !s.stk.cal.any (fun c => c.entry == e) && !s.stkCovered.contains e &&
    !(s.stk.withheld.contains e && (decide (2 < s.memFlips (stkAddr e)) || decide (2 < s.memFlips (stkAddr e + 8))))

/-- The lowest free entry from `e`. -/
def State.entrySearch (s : State) : Nat → Nat → Option Nat
  | 0, _ => none
  | k + 1, e => if 262144 ≤ e then none else if s.entryFree e then some e else s.entrySearch k (e + 1)

/-- A request is accepted into the store (R262, R264); a primary mirrors it at once (R292). -/
def State.stkAccept (s : State) (e : Nat) (r : StakeReq) : State :=
  let k := s.stk.order
  let s1 := s.memPuts (stkAddr e) [ucode 64 r.time, r.word1]
  let s2 := s1.stkM (fun u => { u with
    cal := u.cal ++ [({ entry := e, order := k, st := r } : StkEnt)], order := k + 1, withheld := u.withheld.filter (· != e) })
  let n := s2.rd64 STK_ACC_LO_COUNT STK_ACC_HI_COUNT + 1
  let s3 := s2.wr64 STK_ACC_LO_COUNT STK_ACC_HI_COUNT (n % 2 ^ 64)
  ((if r.origin = 2 then s3.hostResult 1 else s3).stkShow).tieSend 2 1 (leBytes 8 (ucode 64 r.time) ++ leBytes 8 r.word1)

/-- One request at the intake (R262, R263, R268): corrected for a step, then refused, discarded or accepted.
`mirrored` for a stake from the tie link. -/
def State.stkIntake (s : State) (q : StakeReq) (mirrored : Bool) : State :=
  let par := s.rd STK_STAT_STEPPAR
  let r := if q.steptag = par then q else { q with time := q.time + s.stk.delta, steptag := par }
  if s.rd STK_CTRL_EN = 0 || !s.marked 1 || !s.targetOk r.target then s.refuseTarget r
  else if (s.clk.now : Int) + 1048576000 < r.time then ((s.inc STK_REJECT_FAR 1).raise 12 4).report r 1 3
  else if (s.rd STK_LATE_TOL_NS : Int) < s.earliest r.target - r.time then s.lateDiscard r
  else
    match s.entrySearch (s.stk.cal.length + s.stk.withheld.length + 65) 0 with
    | some e => s.stkAccept e r
    | none =>
      if mirrored then (s.inc STK_MIRLOST_COUNT 1).raise 12 6
      else (((s.inc STK_FULLCNT_COUNT 1).wr STK_STAT_FULL 1).raise 12 0).report r 1 2

/-- The request source that the next intake cycle serves (R262): 0 tally, 1 mirror, 2 templates, 3 host. -/
def State.stkSource (s : State) : Option Nat :=
  let u := s.stk
  let others := ((List.range 3).map (fun k => (u.turn + k) % 3 + 1)).find? (fun q =>
    !(if q = 1 then u.mirror else if q = 2 then u.tmpl else u.host).isEmpty)
  if !s.tally.fifo.isEmpty && (!u.lastTally || others.isNone) then some 0 else others

/-- STAKE_INTAKE (R262): one request is taken. A hot standby's own tally requests go to comparison (R292). -/
def execStakeIntake (s : State) : Host.Outcome State Fault Refusal := s.powered <|
  match s.stkSource with
  | none => ok s
  | some 0 =>
    match s.tally.fifo with
    | r :: rest =>
      let s1 := (s.talM (fun t => { t with fifo := rest })).stkM (fun u => { u with lastTally := true })
      if s.standby then
        if s.rd PAIR_STAT_MODE = 1 then ok (s1.pairRequest r) else ok s1
      else ok (s1.stkIntake r false)
    | [] => ok s
  | some q =>
    let u := s.stk
    let l := if q = 1 then u.mirror else if q = 2 then u.tmpl else u.host
    match l with
    | r :: rest =>
      let s1 := s.stkM (fun u => { u with
        mirror := if q = 1 then rest else u.mirror
        tmpl := if q = 2 then rest else u.tmpl
        host := if q = 3 then rest else u.host
        turn := q % 3
        lastTally := false })
      ok (s1.stkIntake r (q == 1))
    | [] => ok s

/-! ## Execution (R265 to R268) -/

/-- The off edge of a run: its end, and not before MIN_W has passed. -/
def Run.off (r : Run) (minW : Int) : Option Int := r.stop.map (fun e => max e (r.on + minW))

/-- Is the off edge committed (R266)? -/
def State.offCommitted (s : State) (t : Nat) (r : Run) : Bool :=
  r.commit || (!isValve t &&
    (match r.off (s.minW t) with
     | some e => decide (e ≤ (s.clk.now : Int) + 200)
     | none => false))

/-- Apply `f` to target `t`. -/
def State.targetM (s : State) (t : Nat) (f : Target → Target) : State :=
  s.stkM (fun u => { u with targets := assocPut u.targets t (f (assocGetD u.targets t {})) })

/-- Change the last run of a target. -/
def Target.lastM (x : Target) (f : Run → Run) : Target :=
  match x.runs.getLast? with
  | some r => { x with runs := x.runs.dropLast ++ [f r] }
  | none => x

/-- Execute one fetched stake against its target's level (R265, R266, R268). -/
def State.execute (s : State) (c : StkEnt) : State :=
  let st := c.st
  let t := st.target
  let x := s.target t
  let minW := s.minW t
  let gap := s.minGap t
  let time := gridTime t st.time
  let last := x.runs.getLast?
  let fixed := match last with
    | some r => s.offCommitted t r
    | none => false
  let lastOff : Option Int := match last with
    | some r => r.off minW
    | none => x.lastOff
  let blocked := last.isNone || fixed
  let early := s.earliest t
  let first := match lastOff with
    | some e => if blocked && decide (time < e + gap) then max early (e + gap) else early
    | none => early
  let late := first - time
  if (s.rd STK_LATE_TOL_NS : Int) < late then s.lateDiscard st
  else
    let tardy := decide (0 < late)
    let s1 := if tardy then (s.inc STK_LATE_TARDY 1).raise 12 2 else s
    let at_ := max time first
    let live := match last, lastOff with
      | some _, some e => !fixed && decide (at_ < e)
      | some _, none => true
      | none, _ => false
    if st.width = 0 && !st.level then
      if live then s1.targetM t (fun x => x.lastM (fun r => { r with stop := some at_, offReps := r.offReps ++ [(st, tardy)] }))
      else s1.executed (st, tardy)
    else
      let stop : Option Int := if st.width = 0 then none else some (gridTime t (st.time + 8 * st.width))
      let joins := match last, lastOff with
        | some _, some e => !fixed && decide (at_ < e + gap)
        | some _, none => true
        | none, _ => false
      if joins then
        let placed := (last.map (fun r => r.placed)).getD false
        let s2 := s1.targetM t (fun x => x.lastM (fun r => { r with
          stop := match r.stop, stop with
            | some a, some b => some (max a b)
            | _, _ => none
          reps := if placed then r.reps else r.reps ++ [(st, tardy)] }))
        if placed then s2.executed (st, tardy) else s2
      else
        let run : Run := { on := at_, stop, order := c.order, reps := [(st, tardy)] }
        s1.targetM t (fun x => { x with runs := x.runs ++ [run] })

/-- The pending stake with the earliest time, ties in acceptance order. -/
def earliestEnt : List StkEnt → Option StkEnt
  | [] => none
  | c :: t =>
    match earliestEnt t with
    | some d => if d.st.time < c.st.time then some d else some c
    | none => some c

/-- FETCH (R267, R268, R270): the earliest stake within 64 µs is fetched, at one per 62.5 ns, and executed. -/
def execFetch (s : State) : Host.Outcome State Fault Refusal := s.powered <|
  match earliestEnt s.stk.cal with
  | none => ok s
  | some c =>
    if c.st.time ≤ (s.clk.now : Int) + 64000 && decide (s.stk.nextFetch ≤ 2 * s.clk.el) then
      let (l, s1) := s.memReads (stkAddr c.entry) 2
      let s2 := (s1.stkM (fun u => { u with
        cal := u.cal.filter (fun d => d.entry != c.entry), nextFetch := 2 * s.clk.el + 125 })).stkShow
      if l.any (·.isNone) then
        let s3 := s2.stkM (fun u => { u with withheld := c.entry :: u.withheld })
        ok (((s3.inc STK_REJECT_UE 1).raise 12 3).report c.st 1 8)
      else ok (s2.execute c)
    else ok s

/-- Reports of placed edges. -/
def State.executedAll (s : State) (l : List (StakeReq × Bool)) : State := l.foldl (fun s p => s.executed p) s

/-- OFF_EDGE_COMMIT (R266): 200 ns before it, a timed pin's off edge can no longer be withdrawn. -/
def execOffEdgeCommit (pin : Fin 64) (s : State) : Host.Outcome State Fault Refusal := s.powered <|
  let t := pin.val
  let minW := s.minW t
  let f (r : Run) : Run := if s.offCommitted t r then { r with commit := true, stop := r.off minW } else r
  if (s.target t).runs.any (fun r => !r.commit && s.offCommitted t r) then
    ok (s.targetM t (fun x => { x with runs := x.runs.map f }))
  else ok s

/-- TIMED_PIN_EDGE (R265, R275): the next edge of a stake-output pin that is due is placed. -/
def execTimedPinEdge (pin : Fin 64) (s : State) : Host.Outcome State Fault Refusal := s.powered <|
  let t := pin.val
  let x := s.target t
  match x.runs with
  | [] => ok s
  | r :: rest =>
    if !r.placed then
      if r.on ≤ (s.clk.now : Int) then
        let s1 := s.targetM t (fun x => { x with runs := { r with placed := true, reps := [] } :: rest, active := true, changed := s.clk.el })
        ok ((s1.executedAll r.reps).padRefresh)
      else ok s
    else
      match r.off (s.minW t) with
      | some e =>
        if e ≤ (s.clk.now : Int) then
          let s1 := s.targetM t (fun x => { x with runs := rest, active := false, lastOff := some e, changed := s.clk.el })
          ok ((s1.executedAll r.offReps).padRefresh)
        else ok s
      | none => ok s

/-! ## Templates and host stakes (R269, R271) -/

/-- The width of a template's stake in 8 ns units (R271); none when it issues no stake. -/
def templateWidth (r : CfgRec) (v : Option Nat) : Option Nat :=
  match v with
  | none => none
  | some c =>
    let x := ofB32 c
    if x.isNaN || !x.pos then none
    else
      let lo := r.v C_TEMPLATE_MIN_WIDTH
      let hi := r.v C_TEMPLATE_MAX_WIDTH
      let n := if x.isFin then (-x.neg.floorI).toNat else hi
      some (up8 (min (max (up8 n) lo) hi) / 8)

/-- The latest instant whose submission time, LEAD before it, has come (R271). -/
def State.tmplIx (s : State) (r : CfgRec) : Option Nat :=
  let due := s.clk.now + r.v C_TEMPLATE_LEAD
  if due < r.v C_TEMPLATE_PHASE then none else some ((due - r.v C_TEMPLATE_PHASE) / (r.v C_TEMPLATE_PERIOD * 1000))

/-- Instants whose submission time has passed are not submitted (R271). -/
def State.tmplPass (s : State) : State :=
  s.stkM (fun u => { u with tmplK := (List.range 16).map (fun i => (s.crec C_TEMPLATE_INDEX i).bind s.tmplIx) })

/-- TEMPLATE_SUBMIT (R271): LEAD before a period instant the template submits a stake of the newest sink width. -/
def execTemplateSubmit (template : Fin 16) (s : State) : Host.Outcome State Fault Refusal := s.powered <|
  let i := template.val
  match s.crec C_TEMPLATE_INDEX i with
  | none => ok s
  | some r =>
    let per := r.v C_TEMPLATE_PERIOD * 1000
    match s.tmplIx r with
    | none => ok s
    | some k =>
      if listAt s.stk.tmplK i none = some k then ok s
      else
        let s1 := s.stkM (fun u => { u with tmplK := listSet u.tmplK i (some k) })
        match templateWidth r (assocGet s.sinks (2 * 256 + i)) with
        | none => ok s1
        | some w =>
          let q : StakeReq := { time := (k * per + r.v C_TEMPLATE_PHASE : Nat), target := r.v C_TEMPLATE_TARGET, width := w,
                                origin := 3, steptag := s.rd STK_STAT_STEPPAR }
          ok (s1.stkM (fun u => { u with tmpl := u.tmpl ++ [q] }))

/-- The host stake held in the STK_H registers is submitted (R269). -/
def State.stkHostGo (s : State) : State :=
  let q : StakeReq := {
    time := (s.rd64 STK_H_TIME_LO_TIME STK_H_TIME_HI_TIME : Nat), target := s.rd STK_H_TGT_TARGET, width := s.rd STK_H_WIDTH_WIDTH,
    origin := 2, steptag := s.rd STK_STAT_STEPPAR, level := s.rd STK_H_TGT_LEVEL == 1 }
  (s.wrapij STK_H_STAT_SEQ 0 0 1).stkM (fun u => { u with host := u.host ++ [q] })

/-- STK_H_GO (R269). -/
def execStkHGo (s : State) : Host.Outcome State Fault Refusal := s.powered <| ok s.stkHostGo

/-! ## Flushes, steps, takeover (R128, R293, R296) -/

/-- A stake is flushed (R296). -/
def State.flushOne (s : State) (r : StakeReq) : State := (s.inc STK_FLUSH_COUNT 1).report r 1 9

/-- Discard the unplaced stakes of the targets that `p` picks, and make their levels inactive (R296). -/
def State.stkFlush (s : State) (p : Nat → Bool) : State :=
  let ents := s.stk.cal.filter (fun c => p c.st.target)
  let runs := (s.stk.targets.filter (fun q => p q.1)).flatMap (fun q => q.2.runs)
  let lost := ents.map (·.st) ++ runs.flatMap (fun r => ((if r.placed then [] else r.reps) ++ r.offReps).map (·.1))
  let clear (q : Nat × Target) : Nat × Target :=
    if p q.1 then (q.1, ({ changed := s.clk.el } : Target)) else q
  let s1 := s.stkM (fun u => { u with cal := u.cal.filter (fun c => !p c.st.target), targets := u.targets.map clear })
  ((lost.foldl (fun s r => s.flushOne r) s1).stkShow).padRefresh

/-- Apply `f` to valve link `l`. -/
def State.vlinkM (s : State) (l : Nat) (f : VLink → VLink) : State :=
  s.stkM (fun u => { u with links := listMod u.links l f })

/-- Valves of a link whose level is open, ascending. -/
def State.openValves (s : State) (l : Nat) : List Nat :=
  s.stk.targets.filterMap (fun q =>
    if isValve q.1 && linkOf q.1 == l && q.2.active then some (q.1 - 0x1000) else none)

/-- A flush of the whole engine (R296): enabled links send close words for every open valve. -/
def State.stkFlushAll (s : State) : State :=
  let s1 := (List.range 4).foldl (fun s l =>
    if s.rdi VL_CTRL_EN l = 1 then
      let v := s.openValves l
      s.vlinkM l (fun x => { x with first := v.map (fun k => (k, false)) })
    else s) s
  s1.stkFlush (fun _ => true)

/-- ENGINE_DISABLE (R296): a write of 0 to STK_CTRL.EN. -/
def execEngineDisable (s : State) : Host.Outcome State Fault Refusal := s.powered <| ok (s.wr STK_CTRL_EN 0).stkFlushAll

/-- VL_STATn.SENDING: an enabled link sends frames (R279), but not those of a standby (R292). -/
def State.vlShow (s : State) : State :=
  (List.range 4).foldl (fun s l => s.wri VL_STAT_SENDING l (b2n (s.rdi VL_CTRL_EN l == 1 && !s.standby))) s

/-- A device-time step moves every pending stake and every run not yet placed (R128, R262). -/
def State.stkStep (s : State) (d : Int) : State :=
  let par := 1 - s.rd STK_STAT_STEPPAR
  let moveReq (r : StakeReq) : StakeReq := { r with time := r.time + d, steptag := par }
  let moveRun (r : Run) : Run := { r with on := r.on + d, stop := r.stop.map (· + d) }
  let moveTgt (x : Target) : Target := { x with runs := x.runs.map moveRun, lastOff := x.lastOff.map (· + d) }
  let ents := s.stk.cal.map (fun c => { c with st := moveReq c.st })
  let s1 := s.stkM (fun u => { u with
    cal := ents
    targets := u.targets.map (fun q => (q.1, moveTgt q.2))
    host := u.host.map (fun r => { r with steptag := par })
    tmpl := u.tmpl.map (fun r => { r with steptag := par })
    delta := d })
  let s2 := ents.foldl (fun s c => s.memPuts (stkAddr c.entry) [ucode 64 c.st.time, c.st.word1]) s1
  let s3 := s2.wr STK_STAT_STEPPAR par
  if d < 0 then s3.tmplPass else s3

/-- At a takeover the first frames carry refresh words for open valves and valves that changed in the last 64 µs
(R293). -/
def State.stkTakeover (s : State) : State :=
  let s1 := (List.range 4).foldl (fun s l =>
    let v := s.stk.targets.filterMap (fun q =>
      if isValve q.1 && linkOf q.1 == l && (q.2.active || decide (s.clk.el ≤ q.2.changed + 64000)) then
        some (q.1 - 0x1000, q.2.active) else none)
    s.vlinkM l (fun x => { x with first := v, opened := (v.filter (·.2)).map (·.1) })) s
  s1.stkShow.padRefresh

/-- STK_CTRL, STK_LATE_TOL and the links' EN from the image. -/
def State.stkImage (s : State) : State :=
  let s1 := (s.wr STK_CTRL_EN (if (s.crec1 C_SENGINE_EN).isSome then s.cv1 C_SENGINE_EN else 0)).wr STK_LATE_TOL_NS (s.cv1 C_SENGINE_LATE_TOL)
  ((List.range 4).foldl (fun s l => s.wri VL_CTRL_EN l (if s.has C_VLINK_LINK l then s.cv C_VLINK_EN l else 0)) s1).vlShow.tmplPass

end Sys2Proof.Machine
end

