-- ==== Sys2Proof/Machine/Pins.lean ====
section
/-! DEFINITION. Timed pins as inputs, gates, PWM, the timestamp queue, and the commands of the reflex matrix
(spec/08_stakeout_reflex.md R272 to R276, R288, R289, R296). -/

namespace Sys2Proof.Machine

open Sys2Proof

/-- TPIN_TSQ_LO, TPIN_TSQ_HI and TPIN_TSQ_STAT.COUNT show the timestamp queue. -/
def State.tsqShow (s : State) : State :=
  let h := listAt s.tpin.tsq 0 0
  ((s.wr TPIN_TSQ_LO_ENTRY h).wr TPIN_TSQ_HI_ENTRY (h / 2 ^ 32)).wr TPIN_TSQ_STAT_COUNT s.tpin.tsq.length

/-- Queue a timestamp (R273). -/
def State.tsqPush (s : State) (p : Nat) (rise : Bool) (t : Nat) : State :=
  let q := s.tpin.tsq
  if 1024 ≤ q.length then
    (({ s with tpin := { s.tpin with lost := true } }).inc TPIN_TSQ_STAT_LOST 1).raise 11 1
  else
    let w := t % 2 ^ 48 + p * 2 ^ 48 + b2n rise * 2 ^ 54 + b2n s.tpin.lost * 2 ^ 55
    let s1 := ({ s with tpin := { s.tpin with tsq := q ++ [w], lost := false } }).tsqShow
    s1.raiseIf q.isEmpty 11 0

/-- The runt counter (R273, R274). -/
def State.runt (s : State) : State := (s.inc TPIN_RUNT_COUNT 1).raise 11 2

/-- The encoder that pin `p` belongs to (R274): its first pin. -/
def State.encoderOf (s : State) (p : Nat) : Option Nat :=
  if s.has C_PIN_PIN p && s.cv C_PIN_MODE p == 3 then some p
  else if 0 < p && s.has C_PIN_PIN (p - 1) && s.cv C_PIN_MODE (p - 1) == 3 then some (p - 1)
  else none

/-- A timestamped edge on pin `p` (R273, R274): queue, gates, encoder; `both` when the encoder's other input changed
within 4 ns. -/
def State.pinEdge (s : State) (p : Nat) (rise both : Bool) (t : Nat) : State :=
  let m := s.cv C_PIN_MODE p
  let sel := bitAt (s.cv C_PIN_EDGES p) (if rise then 0 else 1)
  let s1 := if s.has C_PIN_PIN p && (m == 1 || m == 2) && sel then
      let s1 := s.pinM p (fun x => { x with
        n := x.n + 1, tFirst := if x.n = 0 then (t : Int) else x.tFirst, tLast := some (t : Int) })
      if m = 1 then s1.tsqPush p rise t else s1
    else s
  match s.encoderOf p with
  | some e =>
    if both then s1.runt
    else
      let a := s1.padLevel e
      let b := s1.padLevel (e + 1)
      let up := if p = e then a != b else a == b
      s1.pinM e (fun x => { x with count := (x.count + (if up then 1 else 2 ^ 32 - 1)) % 2 ^ 32 })
  | none => s1

/-- PIN_INPUT_EDGE (R273): the level at a pad changes from outside, for `width` ns; the command falls when the
glitch filter has passed the level. A pulse shorter than 4 ns or GLITCH is a runt. -/
def execPinInputEdge (pin : Fin 64) (level : Bool) (width : Nat) (both : Bool) (s : State) : Host.Outcome State Fault Refusal := s.powered <|
  let p := pin.val
  if (s.pin p).seen == level then ok s
  else
    let g := s.cv C_PIN_GLITCH p
    if width < max 4 g then ok s.runt
    else
      let t := s.clk.now - g
      let driven := (s.pin p).drv.isSome
      let s1 := s.pinM p (fun x => { x with ext := level, seen := level })
      if driven then ok s1.padRefresh
      else
        let s2 := s1.pinEdge p level both t
        ok ((if level then s2.sendEdge p t else s2).padRefresh)

/-- GATE_END (R274): a gate of a measuring pin ends and its element is produced. -/
def execGateEnd (pin : Fin 64) (s : State) : Host.Outcome State Fault Refusal := s.powered <|
  let p := pin.val
  match s.crec C_PIN_PIN p with
  | none => ok s
  | some r =>
    let m := r.v C_PIN_MODE
    let g := r.v C_PIN_GATE_US * 1000
    let x := s.pin p
    let stop := s.clk.now / g * g
    let el := s.clk.el - (s.clk.now - stop)
    if m = 0 || 4 ≤ m || el < x.gateEl + g / 2 then ok s
    else
      let span (a b : Int) : FV := FV.div f32 (FV.ofInt a) (FV.ofInt b)
      let rate : Nat := match x.tLast with
        | none => 0
        | some t =>
          if 2 ≤ x.n then toB32 (span ((x.n - 1 : Nat) * 1000000000) (t - x.tFirst))
          else toB32 (FV.minV (ofB32 x.rate) (span 1000000000 ((stop : Int) - t)))
      let s1 := s.pinM p (fun x => { x with n := 0, gateEnd := stop, gateEl := el, rate })
      match m with
      | 1 => ok (s1.produce (288 + p) x.n 2 stop)
      | 2 => ok (s1.produce (288 + p) (toB32 (FV.mul f32 (ofB32 rate) (ofB32 (r.v C_PIN_RATE_SCALE)))) 0 stop)
      | _ => ok (s1.produce (288 + p) x.count 1 stop)

/-- HIGH of a PWM pin (R276). -/
def State.pwmHigh (s : State) (r : CfgRec) : Nat :=
  let per := r.v C_PIN_PERIOD
  match r.v C_PIN_DUTY_SRC with
  | 0 => r.v C_PIN_WIDTH
  | 1 => min per (s.rdi TPIN_PWM_HIGH (r.v C_PIN_PIN))
  | _ =>
    match assocGet s.sinks (256 + r.v C_PIN_PIN) with
    | none => r.v C_PIN_WIDTH
    | some c => (FV.mul f32 (FV.lim FV.zero (FV.ofInt 1) (ofB32 c)) (FV.ofInt per)).roundI.toNat

/-- PWM_PULSE_START (R276): at a period instant a pulse begins with its new HIGH. -/
def execPwmPulseStart (pin : Fin 64) (s : State) : Host.Outcome State Fault Refusal := s.powered <|
  let p := pin.val
  match s.crec C_PIN_PIN p with
  | none => ok s
  | some r =>
    let per := r.v C_PIN_PERIOD
    let ph := r.v C_PIN_PHASE
    if r.v C_PIN_MODE != 5 || decide (s.clk.now < ph) then ok s
    else
      let x := s.pin p
      let start := (s.clk.now - ph) / per * per + ph
      let el := s.clk.el - (s.clk.now - start)
      if x.pStart.isSome && decide (el < x.pStartEl + (per + 1) / 2) then ok s
      else
        let high := s.pwmHigh r
        let s1 := s.pinM p (fun x => { x with pStart := some (start : Int), pStartEl := el, high, pulse := decide (0 < high) })
        ok ((if 0 < high then s1.sendEdge p start else s1).padRefresh)

/-- PWM_PULSE_END (R276): HIGH ns after its start the pulse ends. -/
def execPwmPulseEnd (pin : Fin 64) (s : State) : Host.Outcome State Fault Refusal := s.powered <|
  let p := pin.val
  let x := s.pin p
  if s.cv C_PIN_MODE p = 5 && x.pulse && decide (x.high < s.cv C_PIN_PERIOD p) && decide (x.pStartEl + x.high ≤ s.clk.el) then
    ok (s.pinM p (fun x => { x with pulse := false })).padRefresh
  else ok s

/-- A read of TPIN_TSQ_HI removes the oldest entry (R273). -/
def State.tsqPop (s : State) : State := ({ s with tpin := { s.tpin with tsq := s.tpin.tsq.drop 1 } }).tsqShow

/-- TIMESTAMP_QUEUE_READ (R273). -/
def execTimestampQueueRead (s : State) : Host.Outcome State Fault Refusal := s.powered <|
  ok ((s.emit (.readData 0xB0024 (s.rd TPIN_TSQ_HI_ENTRY))).tsqPop)

/-! ## Reflex matrix -/

/-- REFLEX_INPUT_CHANGE (R289): the level at a pad changes from outside and the matrix responds. -/
def execReflexInputChange (pin : Fin 64) (level : Bool) (s : State) : Host.Outcome State Fault Refusal := s.powered <|
  ok (s.pinM pin.val (fun x => { x with ext := level })).padRefresh

/-- FABRIC_FLAG_CHANGE (R288): a flag takes the value of its source. -/
def execFabricFlagChange (flag : Fin 16) (s : State) : Host.Outcome State Fault Refusal := s.powered <|
  ok ({ s with rfx := { s.rfx with flags := setBit s.rfx.flags flag.val (s.flagNow flag.val) } }).padRefresh

/-- STRETCH_END (R289): an output whose stretch has run out follows its function again. -/
def execStretchEnd (out : Fin 64) (s : State) : Host.Outcome State Fault Refusal := s.powered <|
  if s.rfxOut out.val && decide (listAt s.rfx.stretch out.val 0 ≤ s.clk.el) then ok s.padRefresh else ok s

/-- A write of ones to RFX_LATCHn resets latches (R289, R294). -/
def State.latchClear (s : State) (i mask : Nat) : State :=
  let s1 := if i = 0 then s.wr RFX_LATCH0_SET (s.rd RFX_LATCH0_SET - (s.rd RFX_LATCH0_SET &&& mask))
    else s.wr RFX_LATCH1_SET (s.rd RFX_LATCH1_SET - (s.rd RFX_LATCH1_SET &&& mask))
  s1.padRefresh

/-- LATCH_RESET (R289). -/
def execLatchReset (reg : Fin 2) (mask : Word) (s : State) : Host.Outcome State Fault Refusal := s.powered <|
  ok (s.latchClear reg.val mask.toNat)

/-! ## Resets (R296) -/

/-- A unit reset of TPIN. -/
def State.tpinReset (s : State) : State :=
  let s1 := (s.wr TPIN_DRIVE0_ACTIVE 0).wr TPIN_DRIVE1_ACTIVE 0
  let clear (x : TPin) : TPin := { x with count := 0, pStart := none, pulse := false, n := 0, gateEl := s.clk.el }
  let u : PinUnit := { tsq := [], lost := false, pins := s1.tpin.pins.map clear }
  ({ s1 with tpin := u }).tsqShow.padRefresh

/-- A unit reset of RFX. -/
def State.rfxReset (s : State) : State :=
  let s1 := ((s.wr RFX_LATCH0_SET 0).wr RFX_LATCH1_SET 0).wr RFX_HFLAG_FLAG 0
  ({ s1 with rfx := { s1.rfx with stretch := List.replicate 64 0 } }).padRefresh

end Sys2Proof.Machine
end

