-- ==== Sys2Proof/Machine/Crypto.lean ====
section
/-! DEFINITION. SHA-256 and ECDSA P-256 signature verification, which R86 uses by the name of their
standard (FIPS 180-4 and FIPS 186-4; assumption log 5). -/

namespace Sys2Proof.Machine

/-- The round constants of SHA-256. -/
def shaK : List Nat :=
  [0x428a2f98, 0x71374491, 0xb5c0fbcf, 0xe9b5dba5, 0x3956c25b, 0x59f111f1, 0x923f82a4, 0xab1c5ed5,
   0xd807aa98, 0x12835b01, 0x243185be, 0x550c7dc3, 0x72be5d74, 0x80deb1fe, 0x9bdc06a7, 0xc19bf174,
   0xe49b69c1, 0xefbe4786, 0xfc19dc6, 0x240ca1cc, 0x2de92c6f, 0x4a7484aa, 0x5cb0a9dc, 0x76f988da,
   0x983e5152, 0xa831c66d, 0xb00327c8, 0xbf597fc7, 0xc6e00bf3, 0xd5a79147, 0x6ca6351, 0x14292967,
   0x27b70a85, 0x2e1b2138, 0x4d2c6dfc, 0x53380d13, 0x650a7354, 0x766a0abb, 0x81c2c92e, 0x92722c85,
   0xa2bfe8a1, 0xa81a664b, 0xc24b8b70, 0xc76c51a3, 0xd192e819, 0xd6990624, 0xf40e3585, 0x106aa070,
   0x19a4c116, 0x1e376c08, 0x2748774c, 0x34b0bcb5, 0x391c0cb3, 0x4ed8aa4a, 0x5b9cca4f, 0x682e6ff3,
   0x748f82ee, 0x78a5636f, 0x84c87814, 0x8cc70208, 0x90befffa, 0xa4506ceb, 0xbef9a3f7, 0xc67178f2]

/-- The start value of SHA-256. -/
def shaH0 : List Nat :=
  [0x6a09e667, 0xbb67ae85, 0x3c6ef372, 0xa54ff53a, 0x510e527f, 0x9b05688c, 0x1f83d9ab, 0x5be0cd19]

/-- Rotate a 32-bit word right. -/
def rotr (n x : Nat) : Nat := (x / 2 ^ n) ||| (x * 2 ^ (32 - n) % 2 ^ 32)

/-- Sum of 32-bit words. -/
def add32 (l : List Nat) : Nat := l.sum % 2 ^ 32

/-- The message schedule: `n` further words after the given ones, newest first. -/
def shaSched : Nat → List Nat → List Nat
  | 0, w => w
  | n + 1, w =>
    let a := listAt w 1 0
    let b := listAt w 14 0
    let s1 := rotr 17 a ^^^ rotr 19 a ^^^ (a / 2 ^ 10)
    let s0 := rotr 7 b ^^^ rotr 18 b ^^^ (b / 2 ^ 3)
    shaSched n (add32 [s1, listAt w 6 0, s0, listAt w 15 0] :: w)

/-- One round: working variables a to h as a list. -/
def shaRound (v : List Nat) (kw : Nat × Nat) : List Nat :=
  match v with
  | [a, b, c, d, e, f, g, h] =>
    let s1 := rotr 6 e ^^^ rotr 11 e ^^^ rotr 25 e
    let ch := (e &&& f) ^^^ ((2 ^ 32 - 1 - e) &&& g)
    let t1 := add32 [h, s1, ch, kw.1, kw.2]
    let s0 := rotr 2 a ^^^ rotr 13 a ^^^ rotr 22 a
    let mj := (a &&& b) ^^^ (a &&& c) ^^^ (b &&& c)
    [add32 [t1, s0, mj], a, b, c, add32 [d, t1], e, f, g]
  | _ => v

/-- Compress one 64-byte block. -/
def shaBlock (h : List Nat) (blk : List Nat) : List Nat :=
  let w := (shaSched 48 ((List.range 16).map (fun i => beNat (slice blk (4 * i) 4))).reverse).reverse
  let r := (shaK.zip w).foldl shaRound h
  (h.zip r).map (fun p => add32 [p.1, p.2])

/-- Compress `n` blocks. -/
def shaBlocks : Nat → List Nat → List Nat → List Nat
  | 0, _, h => h
  | n + 1, l, h => shaBlocks n (l.drop 64) (shaBlock h (l.take 64))

/-- Big-endian bytes of a 64-bit number. -/
def be8 (v : Nat) : List Nat := (leBytes 8 v).reverse

/-- SHA-256 of a byte string, as a number. -/
def sha256 (l : List Nat) : Nat :=
  let pad := l ++ [0x80] ++ List.replicate ((119 - l.length % 64) % 64) 0 ++ be8 (8 * l.length)
  (shaBlocks (pad.length / 64) pad shaH0).foldl (fun a w => a * 2 ^ 32 + w) 0

/-- The field prime of P-256. -/
def p256 : Nat := 0xffffffff00000001000000000000000000000000ffffffffffffffffffffffff

/-- The group order of P-256. -/
def n256 : Nat := 0xffffffff00000000ffffffffffffffffbce6faada7179e84f3b9cac2fc632551

/-- The curve coefficient b of P-256. -/
def b256 : Nat := 0x5ac635d8aa3a93e7b3ebbd55769886bc651d06b0cc53b0f63bce3c3e27d2604b

/-- The base point of P-256. -/
def g256 : Nat × Nat :=
  (0x6b17d1f2e12c4247f8bce6e563a440f277037d812deb33a0f4a13945d898c296,
   0x4fe342e2fe1a7f9b8ee7eb4a7c0f9e162bce33576b315ececbb6406837bf51f5)

/-- `b ^ e mod m`, over the `k` low bits of `e`. -/
def powMod (m : Nat) : Nat → Nat → Nat → Nat → Nat
  | 0, _, _, r => r
  | k + 1, b, e, r => powMod m k (b * b % m) (e / 2) (if e % 2 == 1 then r * b % m else r)

/-- Inverse modulo a prime. -/
def invMod (m a : Nat) : Nat := powMod m 256 (a % m) (m - 2) 1

/-- Sum of two curve points; `none` is the point at infinity. -/
def ptAdd (x y : Option (Nat × Nat)) : Option (Nat × Nat) :=
  match x, y with
  | none, y => y
  | x, none => x
  | some (x1, y1), some (x2, y2) =>
    if x1 = x2 && (y1 + y2) % p256 = 0 then none
    else
      let lam :=
        if x1 = x2 then (3 * x1 * x1 + (p256 - 3)) * invMod p256 (2 * y1) % p256
        else (y2 + p256 - y1) * invMod p256 (x2 + p256 - x1) % p256
      let x3 := (lam * lam + 2 * p256 - x1 - x2) % p256
      some (x3, (lam * (x1 + p256 - x3) + p256 - y1) % p256)

/-- `k` times a point, over `n` bits of `k`. -/
def ptMul : Nat → Nat → Option (Nat × Nat) → Option (Nat × Nat) → Option (Nat × Nat)
  | 0, _, _, r => r
  | n + 1, k, q, r => ptMul n (k / 2) (ptAdd q q) (if k % 2 == 1 then ptAdd r q else r)

/-- Does signature (r, s) over digest `e` verify under the public key (qx, qy)? -/
def ecdsaVerify (e qx qy r s : Nat) : Bool :=
  let onCurve := qx < p256 && qy < p256 &&
    (qy * qy) % p256 == (qx * qx * qx + (p256 - 3) * qx + b256) % p256
  if onCurve && 0 < r && r < n256 && 0 < s && s < n256 then
    let w := invMod n256 s
    let u1 := e * w % n256
    let u2 := r * w % n256
    match ptAdd (ptMul 256 u1 (some g256) none) (ptMul 256 u2 (some (qx, qy)) none) with
    | none => false
    | some (x, _) => x % n256 == r
  else false

end Sys2Proof.Machine
end

