-- ==== Sys2Proof/Machine/Mem.lean ====
section
/-! DEFINITION. The memories: host writes and demand reads, the leaky bucket, marks, scrubbing and
quarantine, the NV controller, field repair (spec/16_memory_ecc.md R499 to R524). -/

namespace Sys2Proof.Machine

open Sys2Proof

/-- Is an MRAM byte offset in a host area (R515)? -/
def inHostArea (o : Nat) : Bool :=
  (decide (0x810000 ≤ o) && decide (o < 0xA00000)) || (decide (0xA10000 ≤ o) && decide (o < 0xC00000)) ||
  (decide (0xC10000 ≤ o) && decide (o < 0xE00000)) || (decide (0xE80000 ≤ o) && decide (o < 0x1000000))

/-- The global macro index of a BAR0 address (R499). -/
def macroOf (a : Nat) : Option Nat :=
  match regionOf a with
  | none => none
  | some r =>
    let o := a - (regionSpan r).1
    some (match r with
      | 0 => o / 0x40000
      | 1 => 128 + o / 0x40000
      | 2 => 144 + o / 0x40000
      | 3 => 160 + o / 0x40000
      | 4 => 168 + o / 0x40000
      | 5 => 172 + o / 0x40000
      | _ => 204 + o / 0x100000)

/-- An access that the memory rules of R51 do not allow. -/
def memAccessBad (a size : Nat) : Bool :=
  !((size == 4 && a % 4 == 0) || (size == 8 && a % 8 == 0)) || (regionOf a).isNone

/-- A host write to a memory region (R4, R51, R264, R501, R517, R520). -/
def State.hostMemWrite (s : State) (a size v : Nat) : State :=
  if memAccessBad a size then s.emit (.unsupported a)
  else if s.absentAddr a then (s.inc SYS_ABSENT_WR_COUNT 1).wr SYS_ABSENT_ADDR_ADDR a
  else
    match regionOf a with
    | none => s
    | some r =>
      if r = 6 then (s.inc MEM_NVIGN_COUNT 1).raise 6 20
      else if !s.usable r then s
      else if r = 1 && s.rd STK_CTRL_EN == 1 then s.inc STK_HOSTWR_COUNT 1
      else if size = 8 then s.memPut a v
      else s.memMerge a v

/-- A host read of a memory region (R3, R51, R503): the answer and the state. -/
def State.hostMemRead (s : State) (a size : Nat) : Option Nat × State :=
  if s.absentAddr a then (some (if size = 8 then 0xAB5E0000AB5E0000 else 0xAB5E0000), s)
  else
    let (w, s1) := s.memRead (a / 8 * 8)
    match w with
    | none => (none, s1)
    | some v => (some (if size = 8 then v else if a % 8 < 4 then v % 2 ^ 32 else v / 2 ^ 32), s1)

/-- MEMORY_WRITE (R501, R517, R4, R51). -/
def execMemoryWrite (addr size value : Nat) (s : State) : Host.Outcome State Fault Refusal := s.powered <|
  ok (s.hostMemWrite addr size value)

/-- DEMAND_READ (R502, R503, R3, R51). -/
def execDemandRead (addr size : Nat) (s : State) : Host.Outcome State Fault Refusal := s.powered <|
  if memAccessBad addr size then ok (s.emit (.unsupported addr))
  else
    let (v, s1) := s.hostMemRead addr size
    match v with
    | some x => ok (s1.emit (.readData addr x))
    | none => ok (s1.emit (.busError addr))

/-- The words of region `r`. -/
def regionWords (r : Nat) : Nat := (regionSpan r).2 / 8

/-- A scrub read that is uncorrectable (R511, R513): an entry, or an overflow count. -/
def State.scrubBad (s : State) (r w : Nat) : State :=
  if (s.quarSlot r w).isSome then s
  else
    let s1 := ((s.inci MEM_UE_SCRUB r 1).wri MEM_UEADDR_ADDR r ((regionSpan r).1 + 8 * w)).raise 6 (8 + r)
    match s1.quarFree r with
    | some e =>
      ((s1.wri MEM_Q_VALID (64 * r + e) 1).wri MEM_Q_WORD (64 * r + e) w).wri MEM_QSTAT_COUNT r
        (s1.rdi MEM_QSTAT_COUNT r + 1)
    | none => (s1.inci MEM_QSTAT_OVF r 1).raise 6 17

/-- Put a word in the NV controller's queue (R517). -/
def State.nvRequest (s : State) (q : NvReq) : State :=
  { s with memu := { s.memu with nvq := s.memu.nvq ++ [q] } }

/-- The waiting word of highest priority, oldest first (R517). -/
def nvBest (l : List NvReq) : Option NvReq :=
  l.foldl (fun b q => match b with
    | none => some q
    | some x => if q.prio < x.prio then some q else some x) none

/-- Start the next NV word when none is in progress (R517). -/
def State.nvStart (s : State) : State :=
  match s.memu.nvCur, nvBest s.memu.nvq with
  | none, some q => { s with memu := { s.memu with nvCur := some q, nvq := s.memu.nvq.erase q } }
  | _, _ => s

/-- A scrub read that is correctable (R510): the corrected word goes back, in MRAM through the NV
controller, one write-back at a time. -/
def State.scrubFix (s : State) (r w : Nat) : State :=
  let a := (regionSpan r).1 + 8 * w
  let s1 := s.memCorrect r
  if r = 6 then
    if s1.memu.nvq.any (fun q => q.prio == 6) then s1 else (s1.nvRequest ⟨6, a, s1.memWord a⟩).nvStart
  else s1.memPut a (s1.memWord a)

/-- The interval between scrub reads of region `r` in ns: 2^RATE cycles of 2.5 ns (R509). -/
def State.scrubNs (s : State) (r : Nat) : Nat := 2 ^ s.rdi MEM_SCRUB_RATE r * 5 / 2

/-- SCRUB_READ (R509 to R513): region `region` reads its next word when its interval has passed, its
scrubber is enabled and the region is marked and usable. -/
def execScrubRead (region : Fin 7) (s : State) : Host.Outcome State Fault Refusal := s.powered <|
  let r := region.val
  if s.rdi MEM_SCRUB_EN r == 1 && s.marked r && s.usable r && !(r == 4 && s.is20) &&
      decide (listAt s.memu.lastScrub r 0 + s.scrubNs r ≤ s.clk.el) then
    let s0 := { s with memu := { s.memu with lastScrub := listSet s.memu.lastScrub r s.clk.el } }
    let w := s0.rdi MEM_POS_WORD r
    let a := (regionSpan r).1 + 8 * w
    let f := s0.memFlips a
    let s1 := if f = 0 then s0 else if f ≤ 2 then s0.scrubFix r w else s0.scrubBad r w
    if w + 1 < regionWords r then ok (s1.wri MEM_POS_WORD r (w + 1))
    else ok ((s1.wri MEM_POS_WORD r 0).wrapi MEM_PASS_COUNT r 1)
  else ok s

/-- LEAK (R504): every 2^LEAK_K µs of device time the level falls by 1. -/
def execLeak (region : Fin 7) (s : State) : Host.Outcome State Fault Refusal := s.powered <|
  let r := region.val
  if periodPassed (listAt s.memu.lastLeak r 0) s.clk.now (2 ^ s.rdi MEM_BUCKET_LEAK_K r * 1000) then
    let s1 := { s with memu := { s.memu with lastLeak := listSet s.memu.lastLeak r s.clk.now } }
    ok (s1.wri MEM_LEVEL_LEVEL r (s1.rdi MEM_LEVEL_LEVEL r - 1))
  else ok s

/-- Mark region `r` initialised unless it is unusable or absent (R506, R520). -/
def State.mark (s : State) (r : Nat) : State :=
  if r < 6 && s.usable r && !(r == 4 && s.is20) then
    s.wr MEM_REGION_INIT (setBit (s.rd MEM_REGION_INIT) r true)
  else s

/-- Mark the regions of a mask. -/
def State.marks (s : State) (mask : Nat) : State :=
  (List.range 6).foldl (fun t r => if bitAt mask r then t.mark r else t) s

/-- MEM_INIT (R506): a write to MEM_INIT marks regions. -/
def execMemInit (value : Word) (s : State) : Host.Outcome State Fault Refusal := s.powered <| ok (s.marks value.toNat)

/-- A write to MEM_NV_CMD (R518). -/
def State.nvCommand (s : State) (v : Nat) : State :=
  if !bitAt v 0 then s
  else if s.rd MEM_NV_STAT_BUSY = 1 then s.wr MEM_NV_STAT_RESULT 2
  else if bitsOf v 31 16 ≠ 0x4E56 then s.wr MEM_NV_STAT_RESULT 3
  else if !(s.rd MEM_NV_ADDR_ADDR % 8 == 0 && inHostArea (s.rd MEM_NV_ADDR_ADDR)) then
    s.wr MEM_NV_STAT_RESULT 4
  else if !s.usable 6 then s.wr MEM_NV_STAT_RESULT 5
  else
    ((s.wr MEM_NV_STAT_BUSY 1).nvRequest
      ⟨5, 0x4000000 + s.rd MEM_NV_ADDR_ADDR, s.rd64 MEM_NV_DATA_LO_DATA MEM_NV_DATA_HI_DATA⟩).nvStart

/-- NV_COMMAND (R518). -/
def execNvCommand (value : Word) (s : State) : Host.Outcome State Fault Refusal := s.powered <| ok (s.nvCommand value.toNat)

/-- The word in progress is written; a write by another requester cancels a waiting scrub write-back of
the same word (R510). -/
def State.nvWrite (s : State) (q : NvReq) : State :=
  let s1 := if s.usable 6 then s.memPut q.addr q.data else s
  let s2 := { s1 with memu := { s1.memu with
    nvCur := none, nvq := s1.memu.nvq.filter (fun x => !(x.prio == 6 && x.addr == q.addr)) } }
  let s3 := s2.emit (.nvWord q.addr)
  if q.prio = 5 then (((s3.wr MEM_NV_STAT_BUSY 0).wr MEM_NV_STAT_RESULT 1).raise 6 18) else s3

/-- NV_WORD_COMPLETE (R517): the word in progress completes and the next starts by priority. -/
def execNvWordComplete (s : State) : Host.Outcome State Fault Refusal := s.powered <|
  match s.memu.nvCur with
  | none => ok s.nvStart
  | some q => ok (s.nvWrite q).nvStart

/-- Is a thermal group at warning or above (R522)? -/
def State.thermalWarn (s : State) : Bool :=
  (List.range 4).any (fun g => s.rdi THM_GRP_WARN g == 1 || s.rdi THM_GRP_LEVEL g != 0)

/-- A write to MEM_REPAIR (R522). -/
def State.repairCommand (s : State) (v : Nat) : State :=
  let a := s.rd MEM_REPAIR_ADDR_ADDR
  if !bitAt v 0 then s
  else if s.rd MEM_REPAIR_STAT_BUSY = 1 || bitsOf v 31 16 ≠ 0xF5E1 then s.wr MEM_REPAIR_STAT_RESULT 2
  else
    match regionOf a, macroOf a with
    | some r, some m =>
      if !s.usable r || (r == 4 && s.is20) then s.wr MEM_REPAIR_STAT_RESULT 3
      else if 2 ≤ assocGetD s.fuses.fieldRows m 0 then s.wr MEM_REPAIR_STAT_RESULT 4
      else if s.thermalWarn then s.wr MEM_REPAIR_STAT_RESULT 6
      else { s.wr MEM_REPAIR_STAT_BUSY 1 with memu := { s.memu with burn := some m, burnRow := a / 128 * 128 } }
    | _, _ => s.wr MEM_REPAIR_STAT_RESULT 3

/-- REPAIR (R522). -/
def execRepair (value : Word) (s : State) : Host.Outcome State Fault Refusal := s.powered <| ok (s.repairCommand value.toNat)

/-- REPAIRDONE (R522): the burn ends; a failed read-back uses up the row, a good one takes effect at the next power-on
reset. -/
def execRepairdone (good : Bool) (s : State) : Host.Outcome State Fault Refusal := s.powered <|
  match s.memu.burn with
  | none => ok s
  | some m =>
    let s1 := { s with
      memu := { s.memu with
        burn := none
        newRows := if good && regionOf s.memu.burnRow == some 6 then s.memu.newRows ++ [s.memu.burnRow] else s.memu.newRows }
      fuses := { s.fuses with fieldRows := assocPut s.fuses.fieldRows m (assocGetD s.fuses.fieldRows m 0 + 1) } }
    ok (((s1.wr MEM_REPAIR_STAT_BUSY 0).wr MEM_REPAIR_STAT_RESULT (if good then 1 else 5)).raise 6 19)

/-- A replacement row of the MRAM comes into effect (R505, R522): what its 16 words hold is open. -/
def State.freshRow (s : State) (a : Nat) : State :=
  (List.range 16).foldl (fun t k =>
    let (d, t1) := t.free 14
    let (f, t2) := t1.free 14
    (t2.memPut (a + 8 * k) (d % 2 ^ 64)).setFlips (a + 8 * k) (f % 4)) s

/-- MEM_RINFO of the macro that MEM_RSEL selects (R521). -/
def State.rinfo (s : State) : Nat :=
  let m := s.rd MEM_RSEL_MACRO
  assocGetD s.fuses.frows m 0 * 16 + assocGetD s.fuses.fcols m 0 * 4 + assocGetD s.fuses.fieldRows m 0

end Sys2Proof.Machine
end

