-- ==== Sys2Proof/Machine/Rec.lean ====
section
/-! DEFINITION. The spoor recorder: series and sampling, flush records and the ring, shutdown records,
benchmark words, degraded mode, the host's window, dump and clear (spec/17_recorder.md R525 to R547). -/

namespace Sys2Proof.Machine

open Sys2Proof

/-- One second of ACLK in elapsed nanoseconds. -/
def secNs : Nat := 1000000000

/-- MRAM byte address of ring slot `k` (R529). -/
def ringAddr (k : Nat) : Nat := 0x4E01000 + 0x800 * k

/-- MRAM byte address of shutdown slot `j` (R529). -/
def shutAddr (j : Nat) : Nat := 0x4E00000 + 64 * j

/-- MRAM byte address of benchmark copy `c` (R515). -/
def benchAddr (c : Nat) : Nat := 0x4801000 + 0x200000 * c

/-- Default LO and WIDTH of a series as binary32 codes (R526). -/
def seriesDefault (k : Nat) : Nat × Nat :=
  if k < 4 then (0xC2200000, 0x41480000)
  else if k < 6 then (0x41400000, 0x3FC00000)
  else if k = 6 then (0, 0x40C80000)
  else if k = 8 then (0, 0x48F42400)
  else if k = 10 then (0x44340000, 0x41200000)
  else if k = 11 then (0, 0x49742400)
  else (0, 0x3F800000)

/-- LO and WIDTH of a series: its SERIES record, else the default. -/
def State.seriesRange (s : State) (k : Nat) : Nat × Nat :=
  match s.crec C_SERIES_LO k with
  | some r => (r.v C_SERIES_LO, r.v C_SERIES_WIDTH)
  | none => seriesDefault k

/-- REC_SEQ increments at the start and the end of an update of the store (R541). -/
def State.recSeq2 (s : State) : State := s.wr REC_SEQ_SEQ (s.rd REC_SEQ_SEQ + 2)

/-- The bin of a sampled value (R525). -/
def binOf (lo width x : FV) : Nat :=
  let q := FV.div f32 (FV.sub f32 x lo) width
  match q with
  | .inf neg => if neg then 0 else 15
  | q => (limI 0 15 q.floorI).toNat

/-- Count one sample of series `k` (R525). -/
def State.recSample (s : State) (k : Nat) (v : FV) : State :=
  if v.isNaN then s.inc REC_MISSED_COUNT 1
  else
    let x := v.rnd f32
    let (lo, w) := s.seriesRange k
    let b := 16 * k + binOf (ofB32 lo) (ofB32 w) x
    let ex : Extreme := ⟨toB32 x, s.rd REC_OPTIME_VALUE, s.rd REC_PCYCLE_VALUE⟩
    let u := s.spoor
    let mx := listAt u.maxs k {}
    let mn := listAt u.mins k {}
    { s with spoor := { u with
      bins := listMod u.bins b (fun n => satAdd 32 n 1)
      maxs := if (ofB32 mx.val).isNaN || (ofB32 mx.val).lt x then listSet u.maxs k ex else u.maxs
      mins := if (ofB32 mn.val).isNaN || x.lt (ofB32 mn.val) then listSet u.mins k ex else u.mins } }

/-- CAN state code of R527 for CAN_STATn.STATE. -/
def canSeries (st : Nat) : Nat :=
  if st = 1 then 0 else if st = 2 then 1 else if st = 3 || st = 4 then 2 else 3

/-- Series 9: one count in each of four bins (R527). -/
def State.recCan (s : State) : State :=
  (List.range 4).foldl (fun t n => { t with spoor := { t.spoor with
    bins := listMod t.spoor.bins (144 + 4 * n + canSeries (t.rdi CAN_STAT_STATE n)) (fun c => satAdd 32 c 1) } }) s

/-- A temperature code s12.4 as a number. -/
def s12p4 (w : Nat) : FV := .fin (decide (sint 16 w < 0)) (sint 16 w).natAbs (-4)

/-- The lowest bank supply of die `d` in volts (series 4 and 5). -/
def State.lowestBank (s : State) (d : Nat) : FV :=
  let m := ((List.range 3).map (fun b => s.rdij FIO_VBANK_VOLT b d)).foldl min 65535
  FV.div f32 (FV.ofInt m) (FV.ofInt 100)

/-- The highest applied fan drive in percent (series 6). -/
def State.highestDrive (s : State) : FV :=
  let m := ((List.range (if s.is20 then 4 else 8)).map (fun n => s.rdi FAN_DRIVE_DRIVE n)).foldl max 0
  FV.div f32 (FV.ofInt m) (FV.ofInt 100)

/-- Series 12 to 15: the endpoint the SERIES record names; none when there is no source (R526). -/
def State.seriesElem (s : State) (k : Nat) : Option FV :=
  match s.crec C_SERIES_LO k with
  | none => none
  | some r =>
    if r.v C_SERIES_SOURCE = 0xFFFF then none
    else match s.elem (r.v C_SERIES_SOURCE) with
      | none => some .nan
      | some e => some e.num

/-- The value of series `k` at a sample; none when it is not sampled (absent unit, no source). -/
def State.seriesValue (s : State) (k vddc : Nat) : Option FV :=
  let obj := s.rd64 TAL_OBJ_LO_COUNT TAL_OBJ_HI_COUNT
  let exe := s.rd64 STK_EXEC_LO_COUNT STK_EXEC_HI_COUNT
  match k with
  | 0 => some (s12p4 (s.rdi THM_GRP_MAX 0))
  | 1 => some (s12p4 (s.rdi THM_GRP_MAX 1))
  | 2 => if s.is20 then none else some (s12p4 (s.rdi THM_GRP_MAX 2))
  | 3 => some (s12p4 (s.rdi THM_GRP_MAX 3))
  | 4 => some (s.lowestBank 0)
  | 5 => if s.is20 then none else some (s.lowestBank 1)
  | 6 => some s.highestDrive
  | 7 => some (FV.ofInt (s.rd THM_STAT_ENFORCED))
  | 8 => some (FV.ofInt ((obj + 2 ^ 64 - s.spoor.prevObj) % 2 ^ 64 : Nat))
  | 9 => none
  | 10 => some (FV.ofInt vddc)
  | 11 => some (FV.ofInt ((exe + 2 ^ 64 - s.spoor.prevExec) % 2 ^ 64 : Nat))
  | k => s.seriesElem k

/-- SERIES_SAMPLE (R525 to R527): at each second of ACLK while EN is 1; `vddc` is the core supply in mV
from the housekeeping monitor. While EN is 0 the second passes with no sample, and the counts per second go on from it. -/
def execSeriesSample (vddc : Nat) (s : State) : Host.Outcome State Fault Refusal := s.powered <|
  if s.rd REC_CTRL_EN == 1 && decide (s.spoor.lastSample + secNs ≤ s.clk.el) then
    let s1 := (List.range 16).foldl (fun t k => match s.seriesValue k vddc with
      | some v => t.recSample k v
      | none => t) s
    let s2 := s1.recCan
    let s3 := { s2 with spoor := { s2.spoor with
      lastSample := s.clk.el
      lastSampleDtime := s.clk.now
      prevObj := s.rd64 TAL_OBJ_LO_COUNT TAL_OBJ_HI_COUNT
      prevExec := s.rd64 STK_EXEC_LO_COUNT STK_EXEC_HI_COUNT } }
    ok s3.recSeq2
  else if decide (s.spoor.lastSample + secNs ≤ s.clk.el) then
    let u := s.spoor
    ok { s with spoor := { u with
      lastSample := s.clk.el
      prevObj := s.rd64 TAL_OBJ_LO_COUNT TAL_OBJ_HI_COUNT
      prevExec := s.rd64 STK_EXEC_LO_COUNT STK_EXEC_HI_COUNT } }
  else ok s

/-- OPERATING_TIME_TICK (R528): one tick for each 36 s of ACLK outside Thermal Halt. -/
def execOperatingTimeTick (s : State) : Host.Outcome State Fault Refusal :=
  if !s.host.halted && decide (s.spoor.optimeEl + 36 * secNs ≤ s.clk.el) then
    ok { s.wr REC_OPTIME_VALUE (s.rd REC_OPTIME_VALUE + 1) with
      spoor := { s.spoor with optimeEl := s.spoor.optimeEl + 36 * secNs } }
  else ok s

/-- Bytes of an extreme (R530). -/
def extremeBytes (e : Extreme) : List Nat := leBytes 4 e.val ++ leBytes 4 e.optime ++ leBytes 4 e.pcycle ++ leBytes 4 0

/-- The extreme that 16 bytes at offset `o` spell. -/
def extremeAt (l : List Nat) (o : Nat) : Extreme := ⟨leAt l o 4, leAt l (o + 4) 4, leAt l (o + 8) 4⟩

/-- Bytes 0x000 to 0x627 of a flush record (R530). -/
def State.recBody (s : State) (code rseq dtime : Nat) : List Nat :=
  let u := s.spoor
  let flags := b2n u.reloadedFlag + 2 * s.rd REC_STAT_AON_RESTORED + 4 * b2n u.seriesFlag + 8 * b2n s.unplatted
  leBytes 2 code ++ leBytes 2 0x630 ++ leBytes 4 rseq ++ leBytes 8 dtime ++
    leBytes 4 (s.rd REC_OPTIME_VALUE) ++ leBytes 4 (s.rd REC_PCYCLE_VALUE) ++ leBytes 2 flags ++ leBytes 2 0 ++
    leBytes 2 (s.rd REC_SUPPRESS_PERIODIC) ++ leBytes 2 (s.rd REC_SUPPRESS_PFAIL) ++
    leBytes 2 (s.rd REC_SUPPRESS_HOST) ++ leBytes 2 0 ++ leBytes 4 (s.rd REC_MISSED_COUNT) ++
    u.bins.flatMap (leBytes 4) ++
    (List.range 16).flatMap (fun k => extremeBytes (listAt u.maxs k {}) ++ extremeBytes (listAt u.mins k {}))

/-- The MARK of a recorder record. -/
def sporMark : Nat := 0x524F5053

/-- A body with its MARK and CRC. -/
def sealRec (body : List Nat) : List Nat :=
  let b := body ++ leBytes 4 sporMark
  b ++ leBytes 4 (crc32c b)

/-- Words of a byte string with their addresses. -/
def wordsAt (a : Nat) (l : List Nat) : List (Nat × Nat) :=
  (List.range ((l.length + 7) / 8)).map (fun k => (a + 8 * k, leAt l (8 * k) 8))

/-- NV class of a flush code (R517): PFAIL 2, periodic and host 4. -/
def flushPrio (code : Nat) : Nat := if code = 2 then 2 else 4

/-- Put words in the NV queue. -/
def State.nvRequests (s : State) (prio : Nat) (l : List (Nat × Nat)) : State :=
  { s with memu := { s.memu with nvq := s.memu.nvq ++ l.map (fun w => ⟨prio, w.1, w.2⟩) } }

/-- Drop every waiting recorder word (a flush that is abandoned, R533, R534). -/
def State.nvDropRec (s : State) : State :=
  { s with memu := { s.memu with nvq := s.memu.nvq.filter (fun q => !(q.prio == 1 || q.prio == 2 || q.prio == 4)) } }

/-- Is a byte string a valid record of length `n` (R531)? -/
def recValid (n : Nat) (l : List Nat) : Bool :=
  leAt l (n - 8) 4 == sporMark && leAt l (n - 4) 4 == crc32c (l.take (n - 4)) && (n == 0x30 || leAt l 2 2 == 0x630)

/-- The LIMc of a flush code (R535, R546). -/
def State.flushLimit (s : State) (code : Nat) : Nat :=
  if code = 1 then s.cv1 C_RECORDER_LIM_PERIODIC else if code = 2 then s.cv1 C_RECORDER_LIM_PFAIL
  else s.cv1 C_RECORDER_LIM_HOST

/-- Would a flush of this code exceed its limit (R535)? -/
def State.flushOver (s : State) (code : Nat) : Bool :=
  s.flushLimit code != 0 &&
    decide (s.flushLimit code ≤ (s.spoor.history.filter (fun h =>
      h.1 == code && decide (s.clk.el < h.2 + 3600 * secNs))).length)

/-- Count a suppressed record (R535). -/
def State.recSuppress (s : State) (code : Nat) : State :=
  (if code = 1 then s.inc REC_SUPPRESS_PERIODIC 1 else if code = 2 then s.inc REC_SUPPRESS_PFAIL 1
   else s.inc REC_SUPPRESS_HOST 1).raise 7 2

/-- Begin a flush of `code` in slot `k` (R530, R531): the store as it stands is taken. -/
def State.flushGo (s : State) (code k : Nat) : State :=
  let rseq := match s.spoor.newestRseq with
    | some r => (r + 1) % 2 ^ 32
    | none => 0
  let bytes := sealRec (s.recBody code rseq s.clk.now)
  let a := ringAddr k
  let ws := [(a + 0x628, 0)] ++ wordsAt a (bytes.take 0x628) ++ wordsAt (a + 0x628) (bytes.drop 0x628)
  let u := s.spoor
  let s1 := { s with spoor := { u with
    flush := some ⟨code, k, bytes⟩
    history := (code, s.clk.el) :: u.history.filter (fun h => decide (s.clk.el < h.2 + 3600 * secNs))
    reloadedFlag := false
    seriesFlag := false } }
  let s2 := ((s1.wr REC_SUPPRESS_PERIODIC 0).wr REC_SUPPRESS_PFAIL 0).wr REC_SUPPRESS_HOST 0
  ((s2.wr REC_STAT_FLUSHING 1).nvRequests (flushPrio code) ws).nvStart

/-- What a record that is not made whole has taken goes back: the counts of suppressed records and the flags are carried
by the next one (R530, R535). -/
def State.flushBack (s : State) (f : Flush) : State :=
  let fl := leAt f.bytes 0x18 2
  let s1 := ((s.inc REC_SUPPRESS_PERIODIC (leAt f.bytes 0x1C 2)).inc REC_SUPPRESS_PFAIL (leAt f.bytes 0x1E 2)).inc
    REC_SUPPRESS_HOST (leAt f.bytes 0x20 2)
  let u := s1.spoor
  { s1 with spoor := { u with reloadedFlag := u.reloadedFlag || bitAt fl 0, seriesFlag := u.seriesFlag || bitAt fl 2 } }

/-- The flush in progress, if there is one, is abandoned (R533, R534, R545): its words are dropped, and it is no record. -/
def State.flushAbandon (s : State) : State :=
  match s.spoor.flush with
  | none => s
  | some f =>
    let s1 := (s.nvDropRec.flushBack f).wr REC_STAT_FLUSHING 0
    let u := s1.spoor
    { s1 with spoor := { u with flush := none, history := u.history.drop 1 } }

/-- A flush is asked for (R533, R535, R539, R543). -/
def State.flushAsk (s : State) (code : Nat) : State :=
  if s.rd REC_STAT_DEGRADED = 1 then s
  else
    match s.spoor.flush with
    | some f =>
      if code = 2 && f.code ≠ 2 then
        if s.flushOver code then s.recSuppress code else s.flushAbandon.flushGo code f.slot
      else s
    | none => if s.flushOver code then s.recSuppress code else s.flushGo code s.spoor.nextSlot

/-- PERIODIC_FLUSH (R533): FLUSH_S seconds of ACLK since the previous one, while EN is 1. -/
def execPeriodicFlush (s : State) : Host.Outcome State Fault Refusal := s.powered <|
  if s.rd REC_CTRL_EN == 1 && decide (s.spoor.lastPeriodic + s.cv1 C_RECORDER_FLUSH_S * secNs ≤ s.clk.el) then
    let s1 := { s with spoor := { s.spoor with lastPeriodic := s.clk.el } }
    ok (s1.flushAsk 1)
  else ok s

/-- PFAIL (R533): the pin falls; a flush starts when it has been high for at least 1 s. -/
def execPfail (s : State) : Host.Outcome State Fault Refusal := s.powered <|
  let u := s.spoor
  let s1 := { s with spoor := { u with pfailHigh := false } }
  if u.pfailHigh && decide (u.pfailSince + secNs ≤ s.clk.el) then ok (s1.flushAsk 2) else ok s1

/-- PFAIL_RISE (R533): the high time starts. -/
def execPfailRise (s : State) : Host.Outcome State Fault Refusal := s.powered <|
  if s.spoor.pfailHigh then ok s
  else ok { s with spoor := { s.spoor with pfailHigh := true, pfailSince := s.clk.el } }

/-- FLUSH (R533, R543): a host flush; during another flush the one record serves. -/
def execFlush (s : State) : Host.Outcome State Fault Refusal := s.powered <| ok (s.flushAsk 4)

/-- The four words of a benchmark copy (R537). -/
def benchWords (status dcause last pcycle optime dtime : Nat) : List Nat :=
  let w0 := 0xBE4C * 2 ^ 48 + status * 2 ^ 40 + dcause * 2 ^ 32 + last * 2 ^ 24
  let w1 := pcycle * 2 ^ 32 + optime
  let crc := crc32c (leBytes 8 w0 ++ leBytes 8 w1 ++ leBytes 8 dtime)
  [w0, w1, dtime, crc]

/-- Write the three benchmark copies, copy 0 first (R537, R538). -/
def State.benchWrite (s : State) (status dcause last dtime : Nat) : State :=
  if !s.usable 6 then s
  else
    let ws := benchWords status dcause last (s.rd REC_PCYCLE_VALUE) (s.rd REC_OPTIME_VALUE) dtime
    let s1 := (List.range 3).foldl (fun t c => t.memPuts (benchAddr c) ws) s
    (((s1.wr REC_BENCH_VALID 1).wr REC_BENCH_STATUS status).wr REC_BENCH_DCAUSE dcause).wr REC_BENCH_LAST_CAUSE last

/-- A benchmark copy as read: words 0 to 2, when it is valid (R537). -/
def State.benchRead (s : State) (c : Nat) : Option (List Nat) × State :=
  let (l, s1) := s.memReads (benchAddr c) 4
  let ws := l.map (·.getD 0)
  let good := l.all (·.isSome) && bitsOf (listAt ws 0 0) 63 48 == 0xBE4C &&
    listAt ws 3 0 % 2 ^ 32 == crc32c ((ws.take 3).flatMap (leBytes 8))
  (if good then some (ws.take 3) else none, s1)

/-- The benchmark vote: the value, and whether no two valid copies agree (R537). -/
def benchVote (l : List (List Nat)) : Option (List Nat) × Bool :=
  match l.find? (fun x => decide (2 ≤ (l.filter (· == x)).length)) with
  | some x => (some x, false)
  | none =>
    match l with
    | [] => (none, false)
    | x :: t =>
      (some (t.foldl (fun b y => if bitsOf (listAt b 1 0) 63 32 < bitsOf (listAt y 1 0) 63 32 then y else b) x), true)

/-- The recorder becomes degraded with a cause (R539). -/
def State.recDegrade (s : State) (cause : Nat) : State :=
  let s1 := ((s.wr REC_STAT_DEGRADED 1).wr REC_STAT_DCAUSE cause).raise 7 3
  s1.benchWrite 1 cause (s1.rd REC_BENCH_LAST_CAUSE) s1.spoor.benchDtime

/-- A record that reads back bad (R539): counted, BADSLOT raised; the second in a row degrades the recorder. -/
def State.recBad (s : State) (next : Nat) : State :=
  let s1 := { s with spoor := { s.spoor with badRun := s.spoor.badRun + 1, nextSlot := next } }
  let s2 := (s1.inc REC_STAT_BADSLOT 1).raise 7 7
  if 2 ≤ s2.spoor.badRun then s2.recDegrade 2 else s2

/-- A record that reads back good becomes the newest one (R531, R544). -/
def State.recGood (s : State) (f : Flush) (next : Nat) (l : List Nat) : State :=
  let s1 := { s with spoor := { s.spoor with
    badRun := 0
    nextSlot := next
    newestRseq := some (leAt l 4 4)
    newestDtime := leAt l 8 8
    newestCode := leAt l 0 2
    newestPcycle := leAt l 20 4 } }
  (((s1.wr REC_RING_RING f.slot).wr REC_RSEQ_RSEQ (leAt l 4 4)).raise 7 0).raiseIf (f.code == 2) 7 1

/-- The end of a flush's writing: read-back, newest record or bad slot (R531, R539, R544). -/
def State.flushEnd (s : State) (f : Flush) : State :=
  let s0 := { s with spoor := { s.spoor with flush := none } }
  let r := (s0.wr REC_STAT_FLUSHING 0).memBytes (ringAddr f.slot) 0x630
  let next := (f.slot + 1) % 252
  match r.1 with
  | some l => if recValid 0x630 l then r.2.recGood f next l else (r.2.flushBack f).recBad next
  | none => (r.2.flushBack f).recBad next

/-- Does the NV controller still hold words of the flush? -/
def State.recWordsLeft (s : State) : Bool :=
  let isRec : NvReq → Bool := fun q => q.prio == 1 || q.prio == 2 || q.prio == 4
  s.memu.nvq.any isRec || (match s.memu.nvCur with
    | some q => isRec q
    | none => false)

/-- FLUSH_COMPLETE (R531): the last word is written and the record is read back. -/
def execFlushComplete (s : State) : Host.Outcome State Fault Refusal := s.powered <|
  match s.spoor.flush with
  | none => ok s
  | some f => if s.recWordsLeft then ok s else ok (s.flushEnd f)

/-- The newest valid record among the slots read: slot and bytes, by a key at offset `o` of width `n`. -/
def newestBy (o n : Nat) (l : List (Nat × List Nat)) : Option (Nat × List Nat) :=
  l.foldl (fun b x => match b with
    | none => some x
    | some y => if leAt y.2 o n < leAt x.2 o n then some x else some y) none

/-- Read the slots `0 … n-1` and keep the valid ones (R536). -/
def State.scanSlots (s : State) (addr : Nat → Nat) (len : Nat) : Nat → List (Nat × List Nat) × State
  | 0 => ([], s)
  | n + 1 =>
    let (l, s1) := s.scanSlots addr len n
    let (b, s2) := s1.memBytes (addr n) len
    match b with
    | some x => (if recValid len x then l ++ [(n, x)] else l, s2)
    | none => (l, s2)

/-- Load the accumulation store from a record (R532). -/
def State.storeLoad (s : State) (l : List Nat) : State :=
  let u := s.spoor
  let s1 := { s with spoor := { u with
    bins := (List.range 256).map (fun i => leAt l (0x28 + 4 * i) 4)
    maxs := (List.range 16).map (fun k => extremeAt l (0x428 + 32 * k))
    mins := (List.range 16).map (fun k => extremeAt l (0x438 + 32 * k))
    reloadedFlag := true } }
  (s1.wr REC_STAT_RELOADED 1).recSeq2

/-- LAST_CAUSE after a scan and the DTIME that goes with it (R538). -/
def State.lastCause (s : State) (por : Bool) (shutDtime : Nat) : Nat × Nat :=
  let u := s.spoor
  if s.rd SYS_RCAUSE_THERMAL = 1 then (5, shutDtime)
  else if por && u.newestRseq.isSome && u.newestCode == 2 && u.newestPcycle + 1 == s.rd REC_PCYCLE_VALUE then
    (6, u.newestDtime)
  else if s.rd SYS_RCAUSE_SUPV = 1 then (2, 0)
  else if s.rd SYS_RCAUSE_PORN = 1 then (1, 0)
  else if s.rd SYS_RCAUSE_RSTN = 1 then (3, 0)
  else if s.rd SYS_RCAUSE_SOFT = 1 then (4, 0)
  else (0, 0)

/-- The accumulation store starts empty. -/
def State.storeEmpty (s : State) : State :=
  { s with spoor := { s.spoor with
    bins := List.replicate 256 0, maxs := List.replicate 16 {}, mins := List.replicate 16 {} } }

/-- The newest ring record found sets the next slot and the newest record's data (R536). -/
def State.scanRing (s : State) (nr : Option (Nat × List Nat)) : State :=
  match nr with
  | some (k, l) =>
    let s1 := (s.wr REC_RING_RING k).wr REC_RSEQ_RSEQ (leAt l 4 4)
    { s1 with spoor := { s1.spoor with
      nextSlot := (k + 1) % 252, newestRseq := some (leAt l 4 4), newestDtime := leAt l 8 8
      newestCode := leAt l 0 2, newestPcycle := leAt l 20 4 } }
  | none =>
    let s1 := s.wr REC_RING_RING 0xFF
    { s1 with spoor := { s1.spoor with nextSlot := 0, newestRseq := none } }

/-- The newest shutdown record found sets the next shutdown slot, whose check word is cleared (R534, R536). -/
def State.scanShut (s : State) (ns : Option (Nat × List Nat)) : State :=
  let (slot, next) : Nat × Nat := match ns with
    | some (j, _) => (j, (j + 1) % 64)
    | none => (0xFF, 0)
  let s1 := s.wr REC_RING_SHUT slot
  let s2 := { s1 with spoor := { s1.spoor with shutNext := next } }
  s2.memPut (shutAddr next + 0x28) 0

/-- After a loss of the always-on domain, operating time and power cycles come back from the newest record (R528). -/
def State.scanAon (s : State) (nr : Option (Nat × List Nat)) : State :=
  match nr with
  | some (_, l) =>
    ((s.wr REC_OPTIME_VALUE (leAt l 16 4)).wr REC_PCYCLE_VALUE (satAdd 32 (leAt l 20 4) 1)).wr REC_STAT_AON_RESTORED 1
  | none => (s.wr REC_OPTIME_VALUE 0).wr REC_PCYCLE_VALUE 0

/-- The benchmark words are read and voted, and the cause of the reset is written (R538). -/
def State.scanBench (s : State) (por : Bool) (shutD : Nat) : State :=
  let (c0, s1) := s.benchRead 0
  let (c1, s2) := s1.benchRead 1
  let (c2, s3) := s2.benchRead 2
  let s4 := if (benchVote ([c0, c1, c2].filterMap id)).2 then (s3.wr REC_STAT_BENCH_SPLIT 1).raise 7 5 else s3
  let c := s4.lastCause por shutD
  let u := s4.spoor
  ({ s4 with spoor := { u with benchDtime := c.2 } }).benchWrite 0 0 c.1 c.2

/-- What the scan of the recorder does with the records it finds (R536, R538). -/
def State.recFound (s : State) (por aon : Bool) (ring shut : List (Nat × List Nat)) : State :=
  let nr := newestBy 4 4 ring
  let ns := newestBy 0 8 shut
  let s1 := (s.scanRing nr).scanShut ns
  let s2 := if aon then s1.scanAon nr else s1
  let s3 := match por, nr with
    | true, some (_, l) => s2.storeLoad l
    | true, none => s2.storeEmpty
    | false, _ => s2
  s3.scanBench por (match ns with
    | some (_, l) => leAt l 0 8
    | none => 0)

/-- The scan of the recorder at a power-on (`por`) or warm reset, `aon` when the always-on domain lost
power (R528, R532, R536, R538, R539). -/
def State.recScan (s : State) (por aon : Bool) : State :=
  if !s.usable 6 then
    let s1 := if por then s.storeEmpty else s
    (if aon then s1.scanAon none else s1).recDegrade 1
  else
    let r := s.scanSlots ringAddr 0x630 252
    let q := r.2.scanSlots shutAddr 0x30 64
    q.2.recFound por aon r.1 q.1

/-- The shutdown record (R534): written at step 3 of the shutdown sequence, whatever EN holds. -/
def State.shutRecord (s : State) (group sensor level temp failed : Nat) : State :=
  if s.rd REC_STAT_DEGRADED = 1 || !s.usable 6 then s
  else
    let j := s.spoor.shutNext
    let body := leBytes 8 s.clk.now ++ leBytes 4 (s.rd REC_OPTIME_VALUE) ++ leBytes 4 (s.rd REC_PCYCLE_VALUE) ++
      [3, group, sensor, level] ++ leBytes 2 temp ++ leBytes 2 failed ++ List.replicate 16 0
    let s1 := s.flushAbandon
    let s2 := s1.memPutBytes (shutAddr j) (sealRec body)
    { s2.wr REC_RING_SHUT j with spoor := { s2.spoor with shutNext := (j + 1) % 64 } }

/-- The live store in the flush-record layout (R540 kind 0). -/
def State.liveStore (s : State) : List Nat := s.recBody 0 0 s.spoor.lastSampleDtime ++ List.replicate 8 0

/-- Size of the object that REC_SRC selects (R540). -/
def objSize (kind : Nat) : Nat := if kind = 0 then 1584 else if kind = 1 then 2048 else if kind = 2 then 64 else 96

/-- The bytes of the object that REC_SRC selects (R540). -/
def State.recObject (s : State) : List Nat :=
  let bytesOf : Nat → Nat → List Nat := fun a n => (s.memBytes a n).1.getD (List.replicate n 0xFF)
  match s.rd REC_SRC_KIND with
  | 0 => s.liveStore
  | 1 => bytesOf (ringAddr (s.rd REC_SRC_INDEX)) 2048
  | 2 => bytesOf (shutAddr (s.rd REC_SRC_INDEX)) 64
  | _ => bytesOf (benchAddr 0) 32 ++ bytesOf (benchAddr 1) 32 ++ bytesOf (benchAddr 2) 32

/-- Word `k` of the recorder window (R540). -/
def State.recWindow (s : State) (k : Nat) : Nat := leAt s.recObject (s.rd REC_CURSOR_POS / 256 * 256 + 4 * k) 4

/-- The cursor advances by 256 and wraps at the object's end (R540). -/
def State.recAdvance (s : State) : State :=
  let p := s.rd REC_CURSOR_POS / 256 * 256 + 256
  s.wr REC_CURSOR_POS (if p < objSize (s.rd REC_SRC_KIND) then p else 0)

/-- WINDOW_READ (R540): a read of the last window word. -/
def execWindowRead (s : State) : Host.Outcome State Fault Refusal := s.powered <|
  ok ((s.emit (.readData 0x710FC (s.recWindow 63))).recAdvance)

/-- Insert by RSEQ, oldest first. -/
def insertRseq (x : List Nat) : List (List Nat) → List (List Nat)
  | [] => [x]
  | y :: t => if leAt x 4 4 < leAt y 4 4 then x :: y :: t else y :: insertRseq x t

/-- A dump's records go to DMA channel 4, the live store last (R542). -/
def State.dumpSend (s : State) (l : List (List Nat)) : State :=
  let s1 := s.wr REC_STAT_DUMPING 1
  (l.foldl (fun t r => t.dmaReady 4 r) s1).dmaReady 4 s1.liveStore

/-- DUMP (R542): every valid ring record, oldest RSEQ first, then the live store, on DMA channel 4;
ignored while a dump runs. -/
def execDump (s : State) : Host.Outcome State Fault Refusal := s.powered <|
  if s.rd REC_STAT_DUMPING = 1 then ok s
  else
    let r := s.scanSlots ringAddr 0x630 252
    ok (r.2.dumpSend ((r.1.map (·.2)).foldl (fun acc x => insertRseq x acc) []))

/-- CLEAR (R542): with KEY 0x5C0F every bin, extreme and REC_MISSED is cleared. -/
def execClear (key : BitVec 16) (s : State) : Host.Outcome State Fault Refusal := s.powered <|
  if key.toNat = 0x5C0F then
    ok (s.storeEmpty.wr REC_MISSED_COUNT 0).recSeq2
  else ok s

/-- Unit reset of REC (R545): with the MRAM unusable the recorder is degraded again at once (R539). -/
def State.recReset (s : State) : State :=
  let s2 := (s.flushAbandon.wr REC_STAT_DUMPING 0).dmaDiscard 4
  let s3 := (((s2.wr REC_CTRL_EN (if s.loader.committed then s.cv1 C_RECORDER_EN else 0)).wr REC_SRC_KIND 0).wr REC_SRC_INDEX 0).wr REC_CURSOR_POS 0
  let s4 := (s3.wr REC_STAT_DEGRADED 0).wr REC_STAT_DCAUSE 0
  let s5 := { s4 with spoor := { s4.spoor with badRun := 0 } }
  if s5.usable 6 then s5 else s5.recDegrade 1

end Sys2Proof.Machine
end

