-- ==== Sys2Proof/Machine/Thermal.lean ====
section
/-! DEFINITION. The thermal unit: sensors and their failure, groups, levels, floors, grace, and the shutdown
that ends in Thermal Halt (spec/13_fans_thermal.md R427 to R438). -/

namespace Sys2Proof.Machine

open Sys2Proof

/-- Change the thermal unit. -/
def State.thmM (s : State) (f : ThmUnit → ThmUnit) : State := { s with thm := f s.thm }

/-- Group of sensor `k` (R427). -/
def sensGroup (k : Nat) : Nat := if k < 12 then 0 else if k < 18 then 1 else if k < 24 then 2 else 3

/-- Sensors of group `g`. -/
def groupSensors (g : Nat) : List Nat := (List.range 32).filter (fun k => sensGroup k == g)

/-- Is sensor `k` present? -/
def State.sensPresent (s : State) (k : Nat) : Bool :=
  !(s.is20 && sensGroup k == 2) && (decide (k < 24) || s.cv C_SENSOR_TYPE k != 0)

/-- Defaults of WARN, THROTTLE and SHUTDOWN by group (R429). -/
def tgDefault (g k : Nat) : Nat :=
  match g, k with
  | 0, 1 => 1840
  | 0, 2 => 2000
  | 0, 3 => 2240
  | 3, 1 => 32767
  | 3, 2 => 32767
  | 3, 3 => 32767
  | _, 1 => 2000
  | _, 2 => 2160
  | _, _ => 2320

/-- A field of group `g`'s record, or its default. -/
def State.tg (s : State) (g : Nat) (c : CRef) : Nat :=
  match s.crec C_TGROUP_GROUP g with
  | some r => r.v c
  | none => if 1 ≤ c.field && c.field ≤ 3 then tgDefault g c.field else c.dflt

/-- A signed temperature field of group `g` in sixteenths. -/
def State.tgI (s : State) (g : Nat) (c : CRef) : Int := sint 16 (s.tg g c)

/-- Is sensor `k` failed? -/
def State.sensFailed (s : State) (k : Nat) : Bool := bitAt (s.rd THM_SENSFAIL_FAILED) k

/-- The non-failed, present neighbours of sensor `k` (R428). -/
def State.neighbours (s : State) (k : Nat) : List Nat :=
  [s.cv C_SENSOR_NEIGH0 k, s.cv C_SENSOR_NEIGH1 k, s.cv C_SENSOR_NEIGH2 k].filter (fun n =>
    decide (n < 32) && n != k && s.sensPresent n && !s.sensFailed n)

/-- RAW of a sensor in sixteenths. -/
def State.rawT (s : State) (k : Nat) : Int := sint 16 (s.rdi THM_TEMP_RAW k)

/-- EFF of a sensor in sixteenths. -/
def State.effT (s : State) (k : Nat) : Int := sint 16 (s.rdi THM_TEMP_EFF k)

/-- The greatest of a list, `d` when it is empty. -/
def maxI (d : Int) : List Int → Int
  | [] => d
  | x :: t => t.foldl max x

/-- The effective value of sensor `k` (R428). -/
def State.effOf (s : State) (k : Nat) : Int :=
  if !s.sensFailed k then s.rawT k
  else
    match s.neighbours k with
    | [] => s.tgI (sensGroup k) C_TGROUP_SHUTDOWN - 16
    | l => satS 16 (maxI 0 (l.map s.rawT) + sint 16 (s.cv C_SENSOR_REPL_OFFSET k))

/-- Update EFF of every sensor of group `g`, and its MAX. -/
def State.groupValues (s : State) (g : Nat) : State :=
  let ks := (groupSensors g).filter (fun k => s.sensPresent k && bitAt s.thm.seen k)
  let s1 := (groupSensors g).foldl (fun t k =>
    if t.sensPresent k && (bitAt t.thm.seen k || t.sensFailed k) then t.wri THM_TEMP_EFF k (ucode 16 (t.effOf k)) else t) s
  let m := maxI 0 (ks.map s1.effT)
  let s2 := s1.wri THM_GRP_MAX g (ucode 16 m)
  let fails := ((groupSensors g).filter s2.sensFailed).length
  let s3 := s2.wri THM_GRP_FAILS g (min 3 fails)
  s3.thmM (fun u => { u with hotAt := (List.range 32).map (fun k =>
    if ks.contains k && s3.effT k == m then some s.clk.el else listAt u.hotAt k none) })

/-- The threshold of level `k` (1 to 3) of group `g` (R429). -/
def State.levelThr (s : State) (g k : Nat) : Int :=
  s.tgI g C_TGROUP_THROTTLE + ((k : Int) - 1) * s.tgI g C_TGROUP_STEP

/-- The requested level (R431). -/
def State.levelReq (s : State) : Nat :=
  (List.range 4).foldl (fun m g => max m (max (s.rdi THM_GRP_LEVEL g) (s.rdi THM_GRP_FLOOR g))) (s.rd THM_CTRL_FORCE)

/-- Change the enforced level (R431, R32): THROTTLE is raised and an FCLK step is commanded. -/
def State.enforce (s : State) (k : Nat) : State :=
  if s.rd THM_STAT_ENFORCED = k then s
  else ((s.wr THM_STAT_ENFORCED k).wr CLK_STAT_FBUSY (b2n (decide (k ≠ s.rd CLK_STAT_FSTEP)))).raise 8 2

/-- Take a change of what is requested (R431): each newly requested level starts its grace; the enforced level
falls at once with the requested one. -/
def State.requestUpdate (s : State) : State :=
  let old := s.rd THM_STAT_REQUESTED
  let new := s.levelReq
  let s1 := s.wr THM_STAT_REQUESTED new
  if old < new then
    ((s1.thmM (fun u => { u with since := (List.range 3).map (fun i =>
      if i + 1 ≤ new then some ((listAt u.since i none).getD s.clk.el) else none) })).wr THM_STAT_GRACE 1).raise 8 1
  else if new < old then
    let s2 := s1.thmM (fun u => { u with since := (List.range 3).map (fun i =>
      if i + 1 ≤ new then listAt u.since i none else none) })
    let s3 := if new < s2.rd THM_STAT_ENFORCED then s2.enforce new else s2
    s3.wr THM_STAT_GRACE (b2n (decide (s3.rd THM_STAT_ENFORCED < new)))
  else s1

/-- THM_STAT.WARN follows the groups (R429). -/
def State.warnAny (s : State) : State :=
  s.wr THM_STAT_WARN (b2n ((List.range 4).any (fun g => s.rdi THM_GRP_WARN g == 1)))

/-- Does the group keep its level because its chain link is LOST (R427)? -/
def State.groupStale (s : State) (g : Nat) : Bool := (g == 1 || g == 2) && s.rdi CHN_STAT_LOST (g - 1) == 1

/-- Warning, level and hold timers of group `g` on a new value (R429). -/
def State.groupJudge (s : State) (g : Nat) : State :=
  let m := sint 16 (s.rdi THM_GRP_MAX g)
  let warn := s.tgI g C_TGROUP_WARN
  let was := s.rdi THM_GRP_WARN g
  let s1 := if warn ≤ m then (s.wri THM_GRP_WARN g 1).raiseIf (was == 0) 8 0
    else if m < warn - s.tgI g C_TGROUP_HYST_W then s.wri THM_GRP_WARN g 0 else s
  let up := (List.range 3).foldl (fun k i => if s.levelThr g (i + 1) ≤ m then i + 1 else k) 0
  let s2 := s1.wri THM_GRP_LEVEL g (max (s.rdi THM_GRP_LEVEL g) up)
  let s3 := s2.thmM (fun u => { u with below := listSet u.below g ((List.range 3).map (fun i =>
    if m < s.levelThr g (i + 1) - s.tgI g C_TGROUP_HYST_T then
      some ((listAt (listAt u.below g []) i none).getD s.clk.el) else none)) })
  s3.warnAny.requestUpdate

/-- Sensor `k` fails (R427, R428, R430). -/
def State.sensFail (s : State) (k : Nat) : State :=
  if s.sensFailed k then s
  else
    let g := sensGroup k
    let lvl := s.rdi THM_GRP_LEVEL g
    let other := (groupSensors g).any s.sensFailed
    let hold := s.cv1 C_POLICY_HOLD_S * 1000000000
    let hot := match listAt s.thm.hotAt k none with
      | some e => decide (s.clk.el ≤ e + hold)
      | none => false
    let s1 := (s.wr THM_SENSFAIL_FAILED (setBit (s.rd THM_SENSFAIL_FAILED) k true)).raise 8 3
    let old := s.rdi THM_GRP_FLOOR g
    let f1 := if 1 ≤ lvl && hot then max old lvl else old
    let s2 := if 1 ≤ lvl && hot then
        s1.thmM (fun u => { u with floorEnd := listSet u.floorEnd g (some (s.clk.el + hold)) }) else s1
    let f2 := if other then max f1 (min 3 (lvl + 1)) else f1
    let s3 := if other then s2.thmM (fun u => { u with floorHold := listSet u.floorHold g true }) else s2
    ((s3.wri THM_GRP_FLOOR g f2).raiseIf (decide (old < f2)) 8 4)

/-- The judgement of R428 on sensor `k` with value `v`: does it disagree in this sample? -/
def State.disagrees (s : State) (k : Nat) (v : Int) : Bool :=
  let l := (s.neighbours k).filter (fun n => bitAt s.thm.seen n)
  let d : Int := sint 16 (s.cv C_SENSOR_DISAGREE k)
  decide (2 ≤ l.length) && l.all (fun n => decide (d < ((v - s.rawT n).natAbs : Int))) &&
    l.all (fun a => l.all (fun b => decide (((s.rawT a - s.rawT b).natAbs : Int) ≤ d)))

/-- The shutdown sequence (R432, R49, R82, R534): work of the loader abandoned, the shutdown record written,
HALT to both field dies, the core powered down but for the always-on domain. -/
def State.shutdown (s : State) (g k : Nat) : State :=
  let s0 := match s.memu.nvCur with
    | some q => s.nvWrite q
    | none => s
  let s1 := { s0 with loader := { s0.loader with staged := none } }
  let s1 := { s1 with memu := { s1.memu with nvq := [] } }
  let s2 := (s1.wr PLAT_STAT_BUSY 0).shutRecord g k (s1.rd THM_STAT_ENFORCED) (s1.rdi THM_TEMP_EFF k)
    (s1.rd THM_SENSFAIL_FAILED % 65536)
  let s3 := (List.range 2).foldl (fun t d =>
    if t.diePresent d then
      ((t.linkM d (fun x => { x with halt := true })).enterSafe d).dieM d (fun x => { x with halt := true })
    else t) s2
  let s4 := { s3 with host := { s3.host with pcieUp := false } }
  let s4 := { s4 with host := { s4.host with halted := true } }
  (((s4.outRefresh 0).outRefresh 1).fansApply).padRefresh

/-- Half the sample period of group `g` in ns (R427). -/
def halfPeriod (g : Nat) : Nat := if g = 0 then 25000 else if g = 3 then 500000000 else 50000

/-- Shutdown condition of group `g` on a sample of sensor `k` (R429): a sample counts when it is the hottest sensor's,
once in a sample period of the group. -/
def State.shutJudge (s : State) (g k : Nat) : State :=
  let en := g == 0 || s.tg g C_TGROUP_SHUT_EN == 1
  let hot := en && decide (s.tgI g C_TGROUP_SHUTDOWN ≤ sint 16 (s.rdi THM_GRP_MAX g))
  let n := listAt s.thm.shutRun g 0
  let new := s.rdi THM_TEMP_EFF k == s.rdi THM_GRP_MAX g && (n == 0 || decide (listAt s.thm.shutAt g 0 + halfPeriod g ≤ s.clk.el))
  let run := if !hot then 0 else if new then n + 1 else n
  let s1 := s.thmM (fun u => { u with
    shutRun := listSet u.shutRun g run
    shutAt := if hot && new then listSet u.shutAt g s.clk.el else u.shutAt })
  if hot && decide (s.cv1 C_POLICY_SHUT_SAMPLES ≤ run) then s1.shutdown g k else s1

/-- SENSOR_SAMPLE (R427 to R432): a reading of sensor `sensor` as s12.4, `bad` for an open or shorted pair. -/
def execSensorSample (sensor : Fin 32) (raw : BitVec 16) (bad : Bool) (s : State) : Host.Outcome State Fault Refusal := s.powered <|
  let k := sensor.val
  let g := sensGroup k
  if !s.sensPresent k || s.groupStale g then ok s
  else
    let v := satS 16 (sint 16 raw.toNat + sint 16 (s.cv C_SENSOR_OFFSET k))
    let out := bad || decide (v < -960) || decide (3200 < v)
    let s1 := ((s.wri THM_TEMP_RAW k (ucode 16 v)).wr THM_STALE_STALE (setBit (s.rd THM_STALE_STALE) k false)).thmM
      (fun u => { u with seen := setBit u.seen k true })
    let run := if s1.disagrees k v then listAt s1.thm.disRun k 0 + 1 else 0
    let s2 := s1.thmM (fun u => { u with disRun := listSet u.disRun k run })
    let s3 := if out || 3 ≤ run then s2.sensFail k else s2
    ok (((s3.groupValues g).groupJudge g).shutJudge g k)

/-- HOLD_EXPIRY (R429): the group's value has stayed below the level's lower threshold for HOLD_S. -/
def execHoldExpiry (group : Fin 4) (s : State) : Host.Outcome State Fault Refusal := s.powered <|
  let g := group.val
  let k := s.rdi THM_GRP_LEVEL g
  if k = 0 || s.groupStale g then ok s
  else
    match listAt (listAt s.thm.below g []) (k - 1) none with
    | some e =>
      if e + s.cv1 C_POLICY_HOLD_S * 1000000000 ≤ s.clk.el then ok (s.wri THM_GRP_LEVEL g (k - 1)).requestUpdate else ok s
    | none => ok s

/-- The floor of a group ends unless two failures hold it (R430). -/
def State.floorDrop (s : State) (g : Nat) : State :=
  let failed := (groupSensors g).any s.sensFailed
  if listAt s.thm.floorHold g false && failed then s
  else
    let s1 := s.thmM (fun u => { u with floorHold := listSet u.floorHold g false })
    let timed := match listAt s.thm.floorEnd g none with
      | some e => decide (s.clk.el < e)
      | none => false
    if timed then s1
    else ((s1.thmM (fun u => { u with floorEnd := listSet u.floorEnd g none })).wri THM_GRP_FLOOR g 0).requestUpdate

/-- FLOOR_EXPIRY (R430): HOLD_S after the failure that set the floor. -/
def execFloorExpiry (group : Fin 4) (s : State) : Host.Outcome State Fault Refusal := s.powered <|
  match listAt s.thm.floorEnd group none with
  | some e => if e ≤ s.clk.el then ok (s.floorDrop group) else ok s
  | none => ok s

/-- The highest requested level whose grace has run out (R431, R434). -/
def State.graceDone (s : State) : Nat :=
  (List.range 3).foldl (fun m i => match listAt s.thm.since i none with
    | some e => if e + s.cv1 C_POLICY_GRACE_MS * 1000000 ≤ s.clk.el then i + 1 else m
    | none => m) 0

/-- GRACE_END (R431). -/
def execGraceEnd (s : State) : Host.Outcome State Fault Refusal := s.powered <|
  let k := min s.graceDone (s.rd THM_STAT_REQUESTED)
  if s.rd THM_STAT_ENFORCED < k then
    let s1 := s.enforce k
    ok (s1.wr THM_STAT_GRACE (b2n (decide (k < s1.rd THM_STAT_REQUESTED))))
  else ok s

/-- ACCEPT (R431): the requested level is enforced at once. -/
def execAccept (s : State) : Host.Outcome State Fault Refusal := s.powered <|
  ok ((s.enforce (s.rd THM_STAT_REQUESTED)).wr THM_STAT_GRACE 0)

/-- THM_STAT.GRACE_MS as it reads now (R431): what remains for the highest pending level. -/
def State.graceLeft (s : State) : Nat :=
  let k := s.rd THM_STAT_REQUESTED
  if s.rd THM_STAT_ENFORCED < k then
    match listAt s.thm.since (k - 1) none with
    | some e => min 65535 ((e + s.cv1 C_POLICY_GRACE_MS * 1000000 - s.clk.el + 999999) / 1000000)
    | none => 0
  else 0

/-- SENSFAIL_CLEAR (R428, R430): failures are cleared and the sensors judged afresh. -/
def execSensfailClear (value : Word) (s : State) : Host.Outcome State Fault Refusal := s.powered <|
  let s1 := (s.wr THM_SENSFAIL_FAILED (s.rd THM_SENSFAIL_FAILED &&& (0xFFFFFFFF ^^^ value.toNat))).thmM
    (fun u => { u with disRun := (List.range 32).map (fun k => if bitAt value.toNat k then 0 else listAt u.disRun k 0) })
  ok ((List.range 4).foldl (fun t g =>
    let t1 := t.groupValues g
    if listAt t1.thm.floorHold g false then t1.floorDrop g else t1) s1)

/-- Unit reset of THM (R76, R433): failures, floors and FORCE cleared, every sensor judged afresh; a level that a floor
held is held by its group, so that the enforced level falls under R429. -/
def State.thmReset (s : State) : State :=
  let s1 := (s.wr THM_SENSFAIL_FAILED 0).thmM (fun u => { u with
    disRun := List.replicate 32 0
    floorEnd := List.replicate 4 none
    floorHold := List.replicate 4 false })
  let s2 := (List.range 4).foldl (fun t g =>
    ((t.wri THM_GRP_LEVEL g (max (t.rdi THM_GRP_LEVEL g) (t.rdi THM_GRP_FLOOR g))).wri THM_GRP_FLOOR g 0).groupValues g)
    (s1.wr THM_CTRL_FORCE 0)
  s2.requestUpdate

end Sys2Proof.Machine
end

