-- ==== Sys2Proof/Machine/PlatCheck.lean ====
section
/-! DEFINITION. The check phase of a load (R92): field rules (R94, R18), reset values of missing fields (R89),
the per-record rules that the section tables of spec/ state beside the field ranges, and the records that
name absent units (R6). Reason codes are those of R106. -/

namespace Sys2Proof.Machine

open Sys2Proof

/-- The feature operations of R240. -/
def opcodeKnown (v : Nat) : Bool := decide (v ≤ 15) || (decide (32 ≤ v) && decide (v ≤ 37))

/-- Flush a subnormal binary32 code to zero of the same sign (R18). -/
def flush32 (v : Nat) : Nat := if bitsOf v 30 23 = 0 then bitsOf v 31 31 * 2 ^ 31 else v

/-- Clamp a binary32 code to `lo … hi`; a NaN takes the reset value (R18). -/
def clampB32 (lo hi dflt raw : Nat) : Nat × Nat :=
  let x := ofB32 raw
  if x.isNaN then (dflt, 4)
  else if x.lt (ofB32 lo) then (lo, 1)
  else if (ofB32 hi).lt x then (hi, 2)
  else (flush32 raw, 0)

/-- The largest binary32 magnitude, the limit of a float field without a range. -/
def maxB32 : Nat := 0x7F7FFFFF

/-- A float field without a range (R18). -/
def freeB32 (dflt raw : Nat) : Nat × Nat := clampB32 (maxB32 + 2 ^ 31) maxB32 dflt raw

/-- The nearest of a rising set of steps, the lower one halfway between two (R94). -/
def nearestStep (v : Nat) : List Nat → Nat
  | [] => v
  | [x] => x
  | x :: y :: t => if 2 * v ≤ x + y then x else nearestStep v (y :: t)

/-- Move to a set of steps: clamped, then quantised (R94). -/
def toSteps (vals : List Nat) (raw : Nat) : Nat × Nat :=
  let lo := vals.headD 0
  let hi := vals.getLastD 0
  if raw < lo then (lo, 1)
  else if hi < raw then (hi, 2)
  else
    let v := nearestStep raw vals
    (v, if v = raw then 0 else 3)

/-- Clamp to `lo … hi`, then move to a multiple of `st` (R94). -/
def toMultiple (lo hi st raw : Nat) : Nat × Nat :=
  let c := limN lo hi raw
  let r := c % st
  let up := c - r + st
  let v := if r = 0 then c else if st < 2 * r && decide (up ≤ hi) then up else c - r
  let v := if v < lo then lo else v
  (v, if v = raw then 0 else if raw < lo then 1 else if hi < raw then 2 else 3)

/-- Clamp an unsigned value. -/
def clampNat (lo hi raw : Nat) : Nat × Nat := if raw < lo then (lo, 1) else if hi < raw then (hi, 2) else (raw, 0)

/-- Codes of DATUM_ORDER above 4 are taken as 0 (R159). -/
def datumOrder (raw : Nat) : Nat :=
  ((List.range 4).map (fun k =>
    let c := bitsOf raw (4 * k + 3) (4 * k)
    (if 4 < c then 0 else c) * 16 ^ k)).sum

/-- What the check phase makes of a field: `none` rejects the record (KEY), else the applied value and the
reason of its report entry, 0 for none (R94). -/
def FRule.eval (r : FRule) (w dflt raw : Nat) : Option (Nat × Nat) :=
  match r with
  | .any => some (raw, 0)
  | .flag => some (if raw ≤ 1 then (raw, 0) else (1, 2))
  | .mask m => some (raw &&& m, 0)
  | .key rs => if rs.any (fun p => decide (p.1 ≤ raw) && decide (raw ≤ p.2)) then some (raw, 0) else none
  | .clampU lo hi => some (clampNat lo hi raw)
  | .zeroOrU lo hi =>
    some (if raw = 0 then (0, 0) else if raw < lo then (if lo < 2 * raw then (lo, 1) else (0, 2))
      else clampNat lo hi raw)
  | .clampS lo hi =>
    let i := sint w raw
    some (if i < lo then (ucode w lo, 1) else if hi < i then (ucode w hi, 2) else (raw, 0))
  | .float => some (freeB32 dflt raw)
  | .floatNZ =>
    let p := freeB32 dflt raw
    some (if (ofB32 p.1).eqv .zero then (0x3F800000, 1) else p)
  | .clampF lo hi => some (clampB32 lo hi dflt raw)
  | .zeroOrF lo hi =>
    let x := ofB32 raw
    some (if x.eqv .zero then (0, 0)
      else if x.lt .zero then (0, 1)
      else if x.lt (ofB32 lo) then
        (if (ofB32 lo).lt (x.mulX (FV.ofInt 2)) then (lo, 1) else (0, 2))
      else clampB32 lo hi dflt raw)
  | .stepsU lo hi st => some (toMultiple lo hi st raw)
  | .steps vals => some (toSteps vals raw)
  | .noneAbove hi => some (if raw ≤ hi || raw = 255 then (raw, 0) else (255, 2))
  | .gain => some (if raw ≤ 7 || raw = 255 then (raw, 0) else (7, 2))
  | .opcode => if opcodeKnown raw then some (raw, 0) else none
  | .axes =>
    if (List.range 4).all (fun k =>
      let c := bitsOf raw (4 * k + 3) (4 * k)
      decide (c ≤ 7) || c == 15) then some (raw, 0) else none
  | .nomatch => some (if raw = 2 then (0, 1) else if 3 < raw then (3, 2) else (raw, 0))
  | .datum =>
    let v := datumOrder raw
    some (v, if v = raw then 0 else 2)

/-! ## A record under check -/

/-- A record under check: written values, applied values, reasons, lowest key field out of range, an
over-commitment (R363). -/
structure Chk where
  raws : List Nat
  vals : List Nat
  why : List Nat
  bad : Option Nat := none
  excess : Option (Nat × Nat) := none
  deriving DecidableEq, Repr

/-- The applied value of a field. -/
def Chk.v (c : Chk) (f : CRef) : Nat := listAt c.vals f.field 0

/-- Give a field another value, for a reason. -/
def Chk.put (c : Chk) (f : Nat) (v why : Nat) : Chk :=
  if listAt c.vals f 0 = v then c else { c with vals := listSet c.vals f v, why := listSet c.why f why }

/-- Reject the record on key field `f` when `b`. -/
def Chk.rej (c : Chk) (f : Nat) (b : Bool) : Chk :=
  if b then { c with bad := some (match c.bad with
    | none => f
    | some g => min f g) }
  else c

/-- Lower an unsigned field to at most `hi`. -/
def Chk.cap (c : Chk) (f : CRef) (hi : Nat) : Chk := if hi < c.v f then c.put f.field hi 2 else c

/-- Raise an unsigned field to at least `lo`. -/
def Chk.flr (c : Chk) (f : CRef) (lo : Nat) : Chk := if c.v f < lo then c.put f.field lo 1 else c

/-- Raise a binary32 field to at least another value. -/
def Chk.flrF (c : Chk) (f : CRef) (lo : Nat) : Chk :=
  if (ofB32 (c.v f)).lt (ofB32 lo) then c.put f.field lo 1 else c

/-- Lower a binary32 field to at most another value. -/
def Chk.capF (c : Chk) (f : CRef) (hi : Nat) : Chk :=
  if (ofB32 hi).lt (ofB32 (c.v f)) then c.put f.field hi 2 else c

/-- A field's place `k` fields after another. -/
def CRef.plus (f : CRef) (k : Nat) : CRef := { f with field := f.field + k }

/-- Apply a field rule over `n` places. -/
def Chk.each (c : Chk) (n : Nat) (f : Chk → Nat → Chk) : Chk := (List.range n).foldl f c

/-! ## Reset values that depend on the record (R89) -/

/-- Lowest and highest value of an analogue output mode: 0 to 10 V, 0 to 21 mA, 3.6 to 21 mA (R409). -/
def aoutRange (mode : Nat) : Nat × Nat :=
  if mode = 0 then (0, 0x41200000) else if mode = 1 then (0, 0x41A80000) else (0x40666666, 0x41A80000)

/-- The reset value of field `i`, given the values of the fields before it. -/
def resetOf (k : CKind) (vals : List Nat) (i : Nat) : Nat :=
  let base := (listAt k.fields i ⟨0, .any, 0, false⟩).dflt
  match k.sect, k.kind with
  | 0xE0, 1 => if 1 ≤ i && decide (i ≤ 3) then tgDefault (listAt vals 0 0) i else base
  | 0xC0, 1 =>
    if i = C_AOUT_INIT.field || i = C_AOUT_SAFE_V.field then (aoutRange (listAt vals 1 0)).1 else base
  | 0xB0, 0 => if i = C_LOOP_INIT_OUT.field then listAt vals C_LOOP_LIM_LO.field 0 else base
  | 0x120, 1 =>
    if i = C_SERIES_LO.field then (seriesDefault (listAt vals 0 0)).1
    else if i = C_SERIES_WIDTH.field then (seriesDefault (listAt vals 0 0)).2 else base
  | 0x40, 3 =>
    if i = C_SIGNAL_OP_DECIM.field && listAt vals C_SIGNAL_OP_OP.field 0 == 3 then 2 else base
  | _, _ => base

/-! ## Rules between the fields of one record -/

/-- N and DECIM ranges of a signal operation (R338): N low and high, DECIM low and high; `none` for a field
the operation does not use. -/
def opRange (op : Nat) : Option (Nat × Nat) × Option (Nat × Nat) :=
  match op with
  | 1 => (some (1, 64), some (1, 256))
  | 2 => (some (1, 4), none)
  | 3 => (some (1, 5), some (2, 256))
  | 4 => (some (1, 31), some (1, 31))
  | 5 | 6 | 7 => (some (1, 2048), some (1, 2048))
  | 8 => (some (0, 5), none)
  | _ => (none, none)

/-- Clamp an unsigned field to a range. -/
def Chk.lim (c : Chk) (f : CRef) (lo hi : Nat) : Chk := (c.flr f lo).cap f hi

/-- Clamp a binary32 field to a range. -/
def Chk.limF (c : Chk) (f : CRef) (lo hi : Nat) : Chk := (c.flrF f lo).capF f hi

/-- The rules of a SIGNAL_OP record (R338, R341, R343, R363). -/
def chkSignalOp (c : Chk) : Chk :=
  let op := c.v C_SIGNAL_OP_OP
  let (rn, rd) := opRange op
  let c := match rn with
    | some (lo, hi) => c.lim C_SIGNAL_OP_N lo hi
    | none => c
  let c := match rd with
    | some (lo, hi) => c.lim C_SIGNAL_OP_DECIM lo hi
    | none => c
  let c := if op = 4 && c.v C_SIGNAL_OP_N % 2 == 0 then c.put C_SIGNAL_OP_N.field (c.v C_SIGNAL_OP_N - 1)
    (if listAt c.why C_SIGNAL_OP_N.field 0 = 0 then 3 else listAt c.why C_SIGNAL_OP_N.field 0) else c
  let c := c.rej C_SIGNAL_OP_N.field ((op == 10 && decide (15 < c.v C_SIGNAL_OP_N)) ||
    (op == 12 && decide (31 < c.v C_SIGNAL_OP_N)))
  let c := if op = 11 then (c.limF C_SIGNAL_OP_P2 0x3F800000 0x4A5BBA00).flrF C_SIGNAL_OP_P1 0 else c
  if op = 10 then
    let c := c.flrF C_SIGNAL_OP_P1 0
    let c := c.limF C_SIGNAL_OP_P2 0x3089705F 0x4E6E6B28
    let c := c.limF C_SIGNAL_OP_P3 0x3F800000 0x47C35000
    let c := c.limF C_SIGNAL_OP_P4 0 0x47C35000
    let c := c.limF C_SIGNAL_OP_P5 0x3DCCCCCD 0x47C35000
    let c := c.limF C_SIGNAL_OP_COEF0 0 0x47C35000
    let off := ofB32 (c.v C_SIGNAL_OP_P1)
    if off.lt (ofB32 (c.v C_SIGNAL_OP_P0)) then c
    else c.put C_SIGNAL_OP_P0.field
      (if off.eqv .zero then 0x00800000 else toB32 (off.mul f64 (FV.dec f64 1001 3))) 1
  else c

/-- Are the first `n` two-bit positions of `v` distinct (R198, R199)? -/
def distinct2 (v n : Nat) : Bool :=
  let l := (List.range n).map (fun i => bitsOf v (2 * i + 1) (2 * i))
  decide l.Nodup

/-- Each decimation factor of a STREAM is 1 to 4 (R199). -/
def chkDecim (c : Chk) : Chk :=
  let v := c.v C_STREAM_DECIM % 4096
  let w := ((List.range 3).map (fun k => limN 1 4 (bitsOf v (4 * k + 3) (4 * k)) * 16 ^ k)).sum
  let why := if (List.range 3).any (fun k => bitsOf v (4 * k + 3) (4 * k) == 0) then 1 else 2
  if w = v then { c with vals := listSet c.vals C_STREAM_DECIM.field w } else c.put C_STREAM_DECIM.field w why

/-- Q of a box axis: signed and at least P for a rectangle, at least 1 for an ellipsoid (R201). -/
def chkBox (c : Chk) : Chk :=
  c.each 4 (fun c k =>
    let q := C_BOX_Q0.plus k
    let p := C_BOX_P0.plus k
    if c.v C_BOX_SHAPE = 0 then
      (if sint 16 (c.v q) < sint 16 (c.v p) then c.put q.field (c.v p) 1 else c)
    else if c.v C_BOX_SHAPE = 1 then c.flr q 1 else c)

/-- The size of a classifier table (R244). -/
def tableSize (typ trees depth : Nat) : Nat := if typ = 0 then trees * 2 ^ (depth + 1) * 4 else 2112

/-- Loop sink index: pin 0–63, template 0–15 or loop 0–63 (R391). -/
def sinkIndexOk (kind index : Nat) : Bool :=
  match kind with
  | 1 => decide (index ≤ 63)
  | 2 => decide (index ≤ 15)
  | 3 => decide (index ≤ 63)
  | _ => true

/-- B0 of an enabled biquad section has magnitude at least 1e−6 (R391). -/
def chkB0 (c : Chk) (f : CRef) : Chk :=
  let x := ofB32 (c.v f)
  let tiny := 0x358637BD
  if x.abs.lt (ofB32 tiny) then c.put f.field (if x.lt .zero then tiny + 2 ^ 31 else tiny) 1 else c

/-- A timing set's rates: 10 to 1,000 kb/s nominal, up to 8,000 kb/s and not below it for data (R439). -/
def timingOk (c : Chk) : Bool :=
  let n := c.v C_TIMING_NBRP * (1 + c.v C_TIMING_NTSEG1 + c.v C_TIMING_NTSEG2)
  let d := c.v C_TIMING_DBRP * (1 + c.v C_TIMING_DTSEG1 + c.v C_TIMING_DTSEG2)
  decide (n ≤ 8000) && decide (80 ≤ n) && (d == 0 || (decide (10 ≤ d) && decide (d ≤ n)))

/-- The data phase of a timing set: all 0, or the ranges of R440. -/
def chkTiming (c : Chk) : Chk :=
  let c := c.cap C_TIMING_NSJW (c.v C_TIMING_NTSEG2)
  let noData := c.v C_TIMING_DBRP == 0 && c.v C_TIMING_DTSEG1 == 0 && c.v C_TIMING_DTSEG2 == 0 &&
    c.v C_TIMING_DSJW == 0
  let c := if noData then c else
    let c := (((c.flr C_TIMING_DBRP 1).flr C_TIMING_DTSEG1 1).flr C_TIMING_DTSEG2 1).flr C_TIMING_DSJW 1
    c.cap C_TIMING_DSJW (c.v C_TIMING_DTSEG2)
  c.rej C_TIMING_SET.field (!timingOk c)

/-- The curve points of a fan rise (R436). -/
def chkCurve (c : Chk) : Chk :=
  c.each 3 (fun c k =>
    let a := C_FAN_CURVE_T0.plus k
    let b := C_FAN_CURVE_T0.plus (k + 1)
    if sint 16 (c.v b) < sint 16 (c.v a) then c.put b.field (c.v a) 1 else c)

/-- A fan baseline rises strictly or is all 0 (R436). -/
def chkBase (c : Chk) : Chk :=
  let xs := (List.range 8).map (fun k => ofB32 (c.v (C_FAN_BASE_RPM0.plus k)))
  let zero := xs.all (fun x => x.eqv .zero)
  let rising := (List.range 7).all (fun k => (listAt xs k .zero).lt (listAt xs (k + 1) .zero))
  if zero || (rising && (FV.zero).lt (listAt xs 0 .zero)) then c
  else
    let c1 := c.put C_FAN_BASE_RPM0.field 0 1
    let c2 := { c1 with why := listSet c1.why C_FAN_BASE_RPM0.field 1 }
    (List.range 7).foldl (fun c k =>
      { c with vals := listSet c.vals (C_FAN_BASE_RPM0.field + k + 1) 0
               why := listSet c.why (C_FAN_BASE_RPM0.field + k + 1) 0 }) c2

/-- The thresholds of a thermal group, in the order SHUTDOWN, THROTTLE, WARN (R437). -/
def chkTgroup (c : Chk) : Chk :=
  let cap (c : Chk) (f : CRef) (hi : Nat) : Chk :=
    if sint 16 hi < sint 16 (c.v f) then c.put f.field hi 2 else c
  let c := if c.v C_TGROUP_GROUP = 3 then c else cap c C_TGROUP_SHUTDOWN 2400
  let c := cap c C_TGROUP_THROTTLE (c.v C_TGROUP_SHUTDOWN)
  let c := cap c C_TGROUP_WARN (c.v C_TGROUP_THROTTLE)
  if c.v C_TGROUP_GROUP = 0 then c.flr C_TGROUP_SHUT_EN 1 else c

/-- Is it a group address of Ethernet (bit 0 of the first byte)? Addresses are held first byte lowest. -/
def macGroup (a : Nat) : Bool := bitAt a 0

/-- Is a commons address 16-byte aligned and inside COMMONS? -/
def ringBaseOk (a : Nat) : Bool := a % 16 == 0 && decide (0x1000000 ≤ a) && decide (a < 0x1800000)

/-- A flag source code of R288. -/
def flagCodeOk (v : Nat) : Bool :=
  decide (v ≤ 0x2F) || (decide (0x40 ≤ v) && decide (v ≤ 0x46)) || (decide (0x48 ≤ v) && decide (v ≤ 0x4B)) ||
  (decide (0x80 ≤ v) && decide (v ≤ 0xBF)) || (decide (0x100 ≤ v) && decide (v ≤ 0x10F))

/-- The rules that the section tables state between the fields of one record. -/
def chkRecord (is20 : Bool) (sect kind : Nat) (c : Chk) : Chk :=
  match sect, kind with
  | 0x10, 0 =>
    let c := c.rej C_PIN_PIN.field (c.v C_PIN_MODE == 3 && c.v C_PIN_PIN == 63)
    (c.cap C_PIN_PHASE (c.v C_PIN_PERIOD - 1)).cap C_PIN_WIDTH (c.v C_PIN_PERIOD)
  | 0x10, 1 => c.rej C_FLAG_SOURCE.field (!flagCodeOk (c.v C_FLAG_SOURCE))
  | 0x30, 0 =>
    let m := c.v C_CHANNEL_MODE
    let c := c.rej C_CHANNEL_SOURCE.field (c.v C_CHANNEL_SOURCE == 255 && (m == 4 || m == 8))
    let c := if m = 8 then c.cap C_CHANNEL_IEXC 500 else c
    let c := if m = 8 then
      (if c.v C_CHANNEL_WIRES < 3 then c.put C_CHANNEL_WIRES.field 3 1
       else if 3 < c.v C_CHANNEL_WIRES then c.put C_CHANNEL_WIRES.field 3 2 else c) else c
    let c := c.rej C_CHANNEL_PIN_X.field ((m == 4 || m == 8) && decide (3 ≤ c.v C_CHANNEL_WIRES) &&
      c.v C_CHANNEL_PIN_X == 255)
    let c := if c.v C_CHANNEL_WIRES = 3 || c.v C_CHANNEL_PIN_R = 0x10 then c.cap C_CHANNEL_REVERSE 0 else c
    let c := if m = 5 then c.flr C_CHANNEL_REF 1 else c
    if m = 4 || m = 5 || m = 8 then c.cap C_CHANNEL_ATTEN 0 else c
  | 0x40, 2 =>
    if 4 < c.v C_SIGNAL_STATION_NOPS then { c with excess := some (c.v C_SIGNAL_STATION_NOPS, 4) } else c
  | 0x40, 3 => chkSignalOp c
  | 0x50, 0 =>
    let k := c.v C_ROUTE_DEST_KIND
    let d := c.v C_ROUTE_DEST
    let c := c.rej C_ROUTE_DEST.field (match k with
      | 0 => decide (d < 416) || decide (511 < d)
      | 1 => decide (95 < d)
      | 2 => decide (63 < d)
      | _ => d != 0)
    c.rej C_ROUTE_PORT.field (if k = 0 then c.v C_ROUTE_PORT != 0 else decide (7 < c.v C_ROUTE_PORT))
  | 0x60, 0 => c.rej 3 (!distinct2 (listAt c.vals 3 0) (listAt c.vals 2 0))
  | 0x60, 1 =>
    let c := c.rej C_STREAM_BAND_ORDER.field (!distinct2 (c.v C_STREAM_BAND_ORDER) (c.v C_STREAM_BANDS))
    let c := c.cap C_STREAM_X_START (c.v C_STREAM_LINE_PX - 1)
    let c := c.lim C_STREAM_X_END (c.v C_STREAM_X_START) (c.v C_STREAM_LINE_PX - 1)
    chkDecim c
  | 0x60, 2 => if c.v C_COMBINE_MODE = 1 then c.cap C_COMBINE_SHIFT 15 else c
  | 0x60, 3 => chkBox c
  | 0x70, 1 =>
    let n := c.v C_SOURCE_SOURCE
    let c := c.rej C_SOURCE_ORIGIN.field (decide (8 ≤ n) && decide (n < 24) && decide (95 < c.v C_SOURCE_ORIGIN))
    let c := c.rej C_SOURCE_MODEL.field (decide (24 ≤ n) && c.v C_SOURCE_MODEL != 0)
    c.each 14 (fun c k => c.flr (C_SOURCE_THR0.plus (k + 1)) (c.v (C_SOURCE_THR0.plus k)))
  | 0x70, 2 =>
    let c := c.rej C_PLANE_TARGET.field (c.v C_PLANE_KIND == 1 && decide (63 < c.v C_PLANE_TARGET))
    let c := if c.v C_PLANE_KIND = 0 then c.cap C_PLANE_ROW_LEN (4096 - c.v C_PLANE_TARGET) else c
    c.flr C_PLANE_MAX_WIDTH (c.v C_PLANE_MIN_WIDTH)
  | 0x70, 3 => c.rej C_TPAIR_SECONDARY.field (c.v C_TPAIR_SECONDARY == c.v C_TPAIR_PRIMARY)
  | 0x80, 0 =>
    let sz := tableSize (c.v C_MODEL_TYPE) (c.v C_MODEL_TREES) (c.v C_MODEL_DEPTH)
    let bad (a : Nat) : Bool := a % 8 != 0 || decide (0x100000 < a + sz)
    (c.rej C_MODEL_TABLE0.field (bad (c.v C_MODEL_TABLE0))).rej C_MODEL_TABLE1.field (bad (c.v C_MODEL_TABLE1))
  | 0x90, 2 =>
    let c := c.cap C_TEMPLATE_PHASE (c.v C_TEMPLATE_PERIOD * 1000 - 1)
    c.flr C_TEMPLATE_MAX_WIDTH (c.v C_TEMPLATE_MIN_WIDTH)
  | 0xA0, 0 =>
    let g := c.v C_YIELD_GRID_MS
    let f (c : Chk) (r : CRef) : Chk :=
      let p := toMultiple g (60000 / g * g) g (c.v r)
      c.put r.field p.1 p.2
    f (f c C_YIELD_STEP_T) C_YIELD_MAX_T
  | 0xB0, 0 =>
    let c := c.cap C_LOOP_PHASE (c.v C_LOOP_PERIOD - 1)
    let c := c.flrF C_LOOP_SP_HI (c.v C_LOOP_SP_LO)
    let c := if bitAt (c.v C_LOOP_BQ_EN) 0 then chkB0 c C_LOOP_BQ1_B0 else c
    let c := if bitAt (c.v C_LOOP_BQ_EN) 1 then chkB0 c C_LOOP_BQ2_B0 else c
    let c := c.flrF C_LOOP_LIM_HI (c.v C_LOOP_LIM_LO)
    let c := c.limF C_LOOP_INIT_OUT (c.v C_LOOP_LIM_LO) (c.v C_LOOP_LIM_HI)
    c.rej C_LOOP_SINK_INDEX.field (c.v C_LOOP_GROUP == 255 &&
      (!sinkIndexOk (c.v C_LOOP_SINK_KIND) (c.v C_LOOP_SINK_INDEX) ||
       (c.v C_LOOP_SINK_KIND == 3 && c.v C_LOOP_SINK_INDEX == c.v C_LOOP_LOOP)))
  | 0xB0, 1 =>
    let c := c.cap C_GROUP_PHASE (c.v C_GROUP_PERIOD - 1)
    c.rej C_GROUP_SINK_INDEX.field (!sinkIndexOk (c.v C_GROUP_SINK_KIND) (c.v C_GROUP_SINK_INDEX))
  | 0xC0, 1 =>
    let (lo, hi) := aoutRange (c.v C_AOUT_MODE)
    (c.limF C_AOUT_INIT lo hi).limF C_AOUT_SAFE_V lo hi
  | 0xD0, 0 =>
    let c := c.rej C_FAN_AOUT.field (c.v C_FAN_DRIVE_KIND == 1 &&
      (decide (7 < c.v C_FAN_AOUT) || c.v C_FAN_AOUT / 4 != c.v C_FAN_CHANNEL / 4))
    let c := c.flrF C_FAN_DRIVE_MAX (c.v C_FAN_DRIVE_MIN)
    let c := c.flrF C_FAN_I_RUN_HI (c.v C_FAN_I_RUN_LO)
    chkBase (chkCurve c)
  | 0xE0, 0 =>
    c.each 3 (fun c k =>
      let f := C_SENSOR_NEIGH0.plus k
      let n := c.v f
      if n != 255 && (n == c.v C_SENSOR_SENSOR || (is20 && decide (18 ≤ n) && decide (n ≤ 23))) then
        c.put f.field 255 2 else c)
  | 0xE0, 1 => chkTgroup c
  | 0xF0, 0 =>
    let run (c : Chk) (b n : CRef) : Chk := c.rej n.field (decide (512 < c.v b + c.v n))
    run (run (run c C_CONTROLLER_TX_BASE C_CONTROLLER_TX_COUNT) C_CONTROLLER_RING0_BASE C_CONTROLLER_RING0_LEN)
      C_CONTROLLER_RING1_BASE C_CONTROLLER_RING1_LEN
  | 0xF0, 1 => chkTiming c
  | 0xF0, 3 =>
    let c := if c.v C_TXBUF_XTD = 0 then
      { c with vals := listSet c.vals C_TXBUF_ID.field (c.v C_TXBUF_ID % 2048) } else c
    if c.v C_TXBUF_PERIOD_MS = 0 then c else c.cap C_TXBUF_PHASE_MS (c.v C_TXBUF_PERIOD_MS - 1)
  | 0xF0, 4 => c.rej C_RXSIG_START.field (decide (512 < c.v C_RXSIG_START + c.v C_RXSIG_LEN))
  | 0xF0, 5 => c.rej C_TXSIG_START.field (decide (512 < c.v C_TXSIG_START + c.v C_TXSIG_LEN))
  | 0x100, 1 =>
    let c := c.rej C_MAC_ADDR.field (macGroup (c.v C_MAC_ADDR))
    let c := c.each 8 (fun c k =>
      let f := C_MAC_GROUP0.plus k
      c.rej f.field (c.v f != 0 && !macGroup (c.v f)))
    (c.rej C_MAC_RX_BASE.field (!ringBaseOk (c.v C_MAC_RX_BASE))).rej C_MAC_TX_BASE.field
      (!ringBaseOk (c.v C_MAC_TX_BASE))
  | 0x110, 2 =>
    let h : Int := c.v C_GPORT_RATE / 2
    let i := sint 32 (c.v C_GPORT_IF)
    if i < -h then c.put C_GPORT_IF.field (ucode 32 (-h)) 1
    else if h < i then c.put C_GPORT_IF.field (ucode 32 h) 2 else c
  | 0x120, 1 =>
    c.rej C_SERIES_SOURCE.field (decide (12 ≤ c.v C_SERIES_SERIES) && decide (415 < c.v C_SERIES_SOURCE) &&
      c.v C_SERIES_SOURCE != 0xFFFF)
  | _, _ => c

/-! ## Records as written -/

/-- The fields of a record body in order: a value for each field it holds whole, `none` for each that is
missing (R88, R89). -/
def bodyFields : List CField → List Nat → List (Option Nat)
  | [], _ => []
  | f :: t, b =>
    let n := f.w / 8
    if n ≤ b.length then some (leNat (b.take n)) :: bodyFields t (b.drop n)
    else (f :: t).map (fun _ => none)

/-- Total bytes of a kind's fields, padded to a whole number of words. -/
def kindBytes (k : CKind) : Nat := (((k.fields.map (fun f => f.w / 8)).sum + 3) / 4) * 4

/-- Evaluate the field rules in order (R89, R94). -/
def evalFields (k : CKind) : List CField → List (Option Nat) → Chk → Chk
  | f :: t, o :: u, c =>
    let i := c.vals.length
    let d := resetOf k c.vals i
    let raw := o.getD d
    let c1 := match f.rule.eval f.w d raw with
      | some (v, why) => { c with raws := c.raws ++ [raw], vals := c.vals ++ [v], why := c.why ++ [why] }
      | none =>
        { c with raws := c.raws ++ [raw], vals := c.vals ++ [raw], why := c.why ++ [0],
                 bad := some (c.bad.getD i) }
    evalFields k t u c1
  | _, _, c => c

/-- Check a record of kind `k` whose body is `b`. -/
def checkBody (is20 : Bool) (k : CKind) (b : List Nat) : Chk :=
  chkRecord is20 k.sect k.kind (evalFields k k.fields (bodyFields k.fields b) { raws := [], vals := [], why := [] })

/-- Is the traverse endpoint `e` one of an absent unit on a DV-9620 (R38)? -/
def epAbsent20 (e : Nat) : Bool :=
  (decide (224 ≤ e) && decide (e ≤ 239)) || (decide (264 ≤ e) && decide (e ≤ 287)) ||
  (decide (384 ≤ e) && decide (e ≤ 399)) || (decide (420 ≤ e) && decide (e ≤ 423)) ||
  (decide (428 ≤ e) && decide (e ≤ 431)) || (decide (456 ≤ e) && decide (e ≤ 479))

/-- Does the record name an absent unit or instance (R6 and the sections' own words)? -/
def State.absentRec (s : State) (sect kind : Nat) (c : Chk) : Bool :=
  let noTrn := !s.winPresent 15
  let v0 := listAt c.vals 0 0
  (noTrn && (sect == 0x60 || (sect == 0x70 && kind == 1 && decide (v0 < 8)) || (sect == 0x70 && kind == 3) ||
    (sect == 0x80 && kind == 1 && decide (v0 < 8)))) ||
  (s.is20 && (match sect, kind with
    | 0x10, 1 => (decide (24 ≤ c.v C_FLAG_SOURCE) && decide (c.v C_FLAG_SOURCE ≤ 47)) || c.v C_FLAG_SOURCE == 0x41
    | 0x20, _ => v0 == 1
    | 0x30, 4 => v0 == 1
    | 0x30, _ => decide (16 ≤ v0) && decide (v0 ≤ 31)
    | 0x50, _ => epAbsent20 v0 || (c.v C_ROUTE_DEST_KIND == 0 && epAbsent20 (c.v C_ROUTE_DEST))
    | 0xC0, 0 => decide (24 ≤ v0) && decide (v0 ≤ 47)
    | 0xC0, _ => decide (4 ≤ v0) && decide (v0 ≤ 7)
    | 0xD0, _ => decide (4 ≤ v0) && decide (v0 ≤ 7)
    | 0xE0, 0 => decide (18 ≤ v0) && decide (v0 ≤ 23)
    | 0xE0, 1 => v0 == 2
    | 0x100, 0 => c.v C_PARCEL_HMAC == 1
    | 0x100, 1 => v0 == 1
    | 0x100, 2 => v0 == 1
    | 0x100, 3 => v0 == 1
    | 0x100, 6 => true
    | 0x110, 2 => true
    | 0x110, 3 => true
    | 0x110, 4 => true
    | 0x120, 1 => decide (12 ≤ v0) && epAbsent20 (c.v C_SERIES_SOURCE)
    | _, _ => false))

end Sys2Proof.Machine
end

