-- ==== Sys2Proof/Machine/PlatDeps.lean ====
section
/-! DEFINITION. The clamp phase of a load (R92): what a record depends on (R96 and the "rejected as
DEPENDENCY" lines of the section chapters), which records contend for one thing (WRITER, OVERCOMMIT,
CYCLE, DUPLICATE across keys), and the fixpoint of rejections. -/

namespace Sys2Proof.Machine

open Sys2Proof

/-- One dependency of a record: the section whose record would define it, whether a record must exist at all
(else only a rejected or dropped definer counts, R43, R96), whether a rejected definer alone breaks it
(`inv`, R364), which records name the instance, and what a definer must satisfy beside. -/
structure Need where
  sect : Nat
  must : Bool
  inv : Bool
  ident : CfgRec → Bool
  prop : CfgRec → Bool

/-- Records of a kind whose field holds a value. -/
def isRec (c : CRef) (v : Nat) (r : CfgRec) : Bool := r.sect == c.sect && r.kind == c.kind && r.v c == v

/-- A definer that must be committed. -/
def needs (c : CRef) (v : Nat) (p : CfgRec → Bool := fun _ => true) : Need := ⟨c.sect, true, false, isRec c v, p⟩

/-- A definer that must not have been rejected or dropped (R43, R96). -/
def soft (c : CRef) (v : Nat) : Need := ⟨c.sect, false, false, isRec c v, fun _ => true⟩

/-- Needs under a condition. -/
def needIf (b : Bool) (l : List Need) : List Need := if b then l else []

/-- The record that owns traverse source endpoint `e` (R38), where a record creates it. -/
def sourceNeed (e : Nat) : List Need :=
  if e < 96 then [soft C_SIGNAL_STATION_STATION e]
  else if e < 160 then [soft C_LOOP_LOOP (e - 96)]
  else if e < 176 then [soft C_RATE_STATION (e - 160)]
  else if e < 208 then
    (if 180 ≤ e && e < 184 then [soft C_LOSS_GROUP (e - 180)] else [])
  else if e < 240 then [soft C_CHANNEL_CHANNEL (e - 208)]
  else if e < 288 then [soft C_DIO_CHANNEL (e - 240)]
  else if e < 352 then [soft C_PIN_PIN (e - 288)]
  else if e < 384 then [soft C_RXSIG_SIGNAL (e - 352)]
  else []

/-- The record that owns what a route drives (R416, R436, R468, R43). -/
def destNeed (kind d : Nat) : List Need :=
  match kind with
  | 0 =>
    if d < 424 then [needs C_AOUT_AOUT (d - 416) (fun r => r.v C_AOUT_SOURCE == 1)]
    else if d < 432 then [needs C_FAN_CHANNEL (d - 424) (fun r => r.v C_FAN_SP_SRC == 1)]
    else if d < 480 then
      [needs C_DIO_CHANNEL (d - 432) (fun r => r.v C_DIO_DIR == 1 && r.v C_DIO_SOURCE == 1)]
    else if d < 496 then [needs C_TXSIG_SIGNAL (d - 480)]
    else []
  | 1 => [soft C_SIGNAL_STATION_STATION d]
  | 2 => [soft C_LOOP_LOOP d]
  | _ => []

/-- A loop's or group's sink (R392). -/
def sinkNeed (kind i : Nat) : List Need :=
  match kind with
  | 1 => [needs C_PIN_PIN i (fun r => r.v C_PIN_MODE == 5 && r.v C_PIN_DUTY_SRC == 2)]
  | 2 => [needs C_TEMPLATE_INDEX i]
  | 3 => [needs C_LOOP_LOOP i (fun r => r.v C_LOOP_SP_SRC == 3 && r.v C_LOOP_GROUP == 255)]
  | _ => []

/-- The sink of a loop that is no group member, or of a group: kind and index, kind 0 for none. -/
def loopSink (r : CfgRec) : Nat × Nat :=
  if r.kind = 0 then
    (if r.v C_LOOP_GROUP = 255 then (r.v C_LOOP_SINK_KIND, r.v C_LOOP_SINK_INDEX) else (0, 0))
  else (r.v C_GROUP_SINK_KIND, r.v C_GROUP_SINK_INDEX)

/-- Is buffer `b` in a controller's run of transmit buffers? -/
def inTx (b : Nat) (r : CfgRec) : Bool :=
  decide (r.v C_CONTROLLER_TX_BASE ≤ b) && decide (b < r.v C_CONTROLLER_TX_BASE + r.v C_CONTROLLER_TX_COUNT)

/-- A controller whose transmit run holds buffer `b` (R468). -/
def txNeed (b : Nat) : Need :=
  ⟨0xF0, true, false, fun r => r.sect == 0xF0 && r.kind == 0 && inTx b r, fun _ => true⟩

/-- What a record depends on. -/
def needsOf (r : CfgRec) : List Need :=
  match r.sect, r.kind with
  | 0x10, 1 => needIf (decide (r.v C_FLAG_SOURCE < 0x30)) [soft C_DIO_CHANNEL (r.v C_FLAG_SOURCE)] ++
    needIf (decide (0x48 ≤ r.v C_FLAG_SOURCE) && decide (r.v C_FLAG_SOURCE ≤ 0x4B))
      [soft C_VLINK_LINK (r.v C_FLAG_SOURCE - 0x48)] ++
    needIf (decide (0x80 ≤ r.v C_FLAG_SOURCE) && decide (r.v C_FLAG_SOURCE ≤ 0xBF))
      [soft C_LOOP_LOOP (r.v C_FLAG_SOURCE - 0x80)]
  | 0x30, 0 =>
    let c := r.v C_CHANNEL_CHANNEL
    let m := r.v C_CHANNEL_MODE
    needIf (m == 2 || m == 6 || m == 7) [needs C_FAST_CHANNEL c] ++
    needIf (m == 7) [needs C_SWEEP_CHANNEL c] ++
    needIf (m == 8) [needs C_CABLE_CHANNEL c] ++
    needIf ((m == 4 || m == 8) && r.v C_CHANNEL_REF == 1)
      [needs C_DIE_DIE (c / 16) (fun d => !(ofB32 (d.v C_DIE_RREF)).eqv .zero)]
  | 0x30, 1 => [needs C_CHANNEL_CHANNEL (r.v C_FAST_CHANNEL)]
  | 0x30, 2 => [needs C_CHANNEL_CHANNEL (r.v C_SWEEP_CHANNEL), needs C_FAST_CHANNEL (r.v C_SWEEP_CHANNEL)]
  | 0x30, 3 => [needs C_CHANNEL_CHANNEL (r.v C_CABLE_CHANNEL)]
  | 0x40, 1 => [needs C_FEATURE_GROUP_GROUP (r.v C_FEATURE_DEF_GROUP)]
  | 0x40, 2 => [⟨0x40, false, true, isRec C_SIGNAL_OP_STATION (r.v C_SIGNAL_STATION_STATION), fun _ => true⟩]
  | 0x40, 3 =>
    needs C_SIGNAL_STATION_STATION (r.v C_SIGNAL_OP_STATION) ::
    needIf (r.v C_SIGNAL_OP_OP == 12)
      [needs C_CHANNEL_CHANNEL (r.v C_SIGNAL_OP_N) (fun c => c.v C_CHANNEL_MODE == 7)]
  | 0x50, 0 => sourceNeed (r.v C_ROUTE_SOURCE) ++ destNeed (r.v C_ROUTE_DEST_KIND) (r.v C_ROUTE_DEST)
  | 0x60, 1 => [needs C_PORT_PORT (r.v C_STREAM_PORT), needs C_PIN_PIN (r.v C_STREAM_TRIG_PIN)]
  | 0x60, 2 => [needs C_STREAM_TRANSIT (r.v C_COMBINE_TRANSIT)]
  | 0x60, 3 =>
    needs C_STREAM_TRANSIT (r.v C_BOX_TRANSIT) ::
    ((List.range 4).map (fun k => bitsOf (r.v C_BOX_AXES) (4 * k + 3) (4 * k))).flatMap (fun a =>
      needIf (decide (4 ≤ a) && decide (a ≤ 7))
        [needs C_COMBINE_TRANSIT (r.v C_BOX_TRANSIT) (fun _ => true) |> fun n =>
          { n with ident := fun q => n.ident q && q.v C_COMBINE_PLANE == a - 4 }])
  | 0x70, 1 =>
    let n := r.v C_SOURCE_SOURCE
    (if n < 8 then [needs C_STREAM_TRANSIT n]
     else if n < 24 then
       [⟨0x40, true, false, fun q => isRec C_SIGNAL_OP_OP 10 q && q.v C_SIGNAL_OP_N == n - 8 &&
          q.v C_SIGNAL_OP_STATION == r.v C_SOURCE_ORIGIN, fun _ => true⟩]
     else [needs C_IMPORT_CHANNEL (n - 24)]) ++
    needIf (r.v C_SOURCE_PLANE_A != 255) [needs C_PLANE_PLANE (r.v C_SOURCE_PLANE_A)] ++
    needIf (r.v C_SOURCE_PLANE_B != 255) [needs C_PLANE_PLANE (r.v C_SOURCE_PLANE_B)]
  | 0x70, 2 =>
    if r.v C_PLANE_KIND = 1 then [needs C_PIN_PIN (r.v C_PLANE_TARGET) (fun q => q.v C_PIN_MODE == 4)]
    else [soft C_VLINK_LINK (r.v C_PLANE_TARGET / 1024)]
  | 0x70, 3 => [soft C_STREAM_TRANSIT (r.v C_TPAIR_PRIMARY), soft C_STREAM_TRANSIT (r.v C_TPAIR_SECONDARY)]
  | 0x80, 1 =>
    [needs C_FEATURE_GROUP_GROUP (r.v C_ASSIGN_FGROUP), needs C_MODEL_GROUP (r.v C_ASSIGN_CGROUP),
     soft C_SOURCE_SOURCE (r.v C_ASSIGN_SOURCE)]
  | 0x80, 2 => [needs C_MODEL_GROUP (r.v C_ACTIONS_GROUP)]
  | 0x80, 3 =>
    [⟨0x80, true, false, fun q => q.sect == 0x80 && q.kind == 0 && bitAt (q.v C_MODEL_STATIONS) (r.v C_RATE_STATION),
      fun _ => true⟩]
  | 0x90, 1 => needIf (r.v C_VLINK_INHIBIT_RFX != 255) [soft C_REFLEX_OUT_OUT (r.v C_VLINK_INHIBIT_RFX)]
  | 0x90, 2 =>
    let t := r.v C_TEMPLATE_TARGET
    if t < 64 then [needs C_PIN_PIN t (fun q => q.v C_PIN_MODE == 4)]
    else if 0x1000 ≤ t && t < 0x2000 then [needs C_VLINK_LINK ((t - 0x1000) / 1024)]
    else [⟨0x90, true, false, fun _ => false, fun _ => true⟩]
  | 0xB0, 0 =>
    needIf (r.v C_LOOP_GROUP != 255) [needs C_GROUP_GROUP (r.v C_LOOP_GROUP)] ++
    sinkNeed (loopSink r).1 (loopSink r).2 ++
    needIf (r.v C_LOOP_SP_SRC == 3)
      [⟨0xB0, true, false, fun q => q.sect == 0xB0 && loopSink q == (3, r.v C_LOOP_LOOP), fun _ => true⟩]
  | 0xB0, 1 => sinkNeed (loopSink r).1 (loopSink r).2
  | 0xD0, 0 =>
    needIf (r.v C_FAN_DRIVE_KIND == 1) [needs C_AOUT_AOUT (r.v C_FAN_AOUT) (fun q => q.v C_AOUT_SOURCE == 2)] ++
    needIf (r.v C_FAN_CS_CHANNEL != 255)
      [needs C_CHANNEL_CHANNEL (r.v C_FAN_CS_CHANNEL) (fun q => q.v C_CHANNEL_MODE == 3)]
  | 0xF0, 0 =>
    if r.v C_CONTROLLER_MODE = 2 then
      needs C_TIMING_SET (r.v C_CONTROLLER_TIMING) ::
      (List.range (r.v C_CONTROLLER_ABD_COUNT)).map (fun k => needs C_TIMING_SET (r.v C_CONTROLLER_ABD_FIRST + k))
    else [needs C_TIMING_SET (r.v C_CONTROLLER_TIMING)]
  | 0xF0, 2 => [needs C_CONTROLLER_CTRL (r.v C_FILTER_CTRL)]
  | 0xF0, 3 => [txNeed (r.v C_TXBUF_BUF)]
  | 0xF0, 4 => [soft C_CONTROLLER_CTRL (r.v C_RXSIG_CTRL)]
  | 0xF0, 5 => [txNeed (r.v C_TXSIG_BUF), soft C_TXBUF_BUF (r.v C_TXSIG_BUF)]
  | 0x100, 0 => [needs C_MAC_MAC (r.v C_PARCEL_HMAC)]
  | 0x100, 2 => [soft C_MAC_MAC (r.v C_GATE_MAC)]
  | 0x100, 3 => [needs C_MAC_MAC (r.v C_PTP_MAC)]
  | 0x100, 4 =>
    needIf (r.v C_HANDOFF_OUT_PLANE_A != 255) [needs C_PLANE_PLANE (r.v C_HANDOFF_OUT_PLANE_A)] ++
    needIf (r.v C_HANDOFF_OUT_PLANE_B != 255) [needs C_PLANE_PLANE (r.v C_HANDOFF_OUT_PLANE_B)]
  | 0x100, 5 => [needs C_SOURCE_SOURCE (24 + r.v C_IMPORT_CHANNEL)]
  | 0x120, 1 =>
    needIf (decide (12 ≤ r.v C_SERIES_SERIES) && r.v C_SERIES_SOURCE != 0xFFFF) (sourceNeed (r.v C_SERIES_SOURCE))
  | _, _ => []

/-- (section type << 16) + record index (R105). -/
def recCode (r : CfgRec) : Nat := r.sect * 65536 + r.index

/-- The lowest of some codes. -/
def minCode (l : List (Nat × Bool)) : Option (Nat × Bool) :=
  l.foldl (fun m p => match m with
    | none => some p
    | some q => if p.1 < q.1 then some p else some q) none

/-- A broken need: the code to report and whether the definer was dropped as absent (R6, R105). -/
def Need.broken (n : Need) (alive : List CfgRec) (gone : List (CfgRec × Bool)) : Option (Nat × Bool) :=
  let lost := minCode ((gone.filter (fun p => n.ident p.1)).map (fun p => (recCode p.1, p.2)))
  if n.inv then lost
  else if alive.any (fun r => n.ident r && n.prop r) then none
  else
    match minCode ((alive.filter n.ident).map (fun r => (recCode r, false))) with
    | some p => if n.must then some p else none
    | none =>
      match lost with
      | some p => some p
      | none => if n.must then some (n.sect * 65536 + 0xFFFF, false) else none

/-- A rejection: reason, FIELD, REQUESTED, APPLIED (R105). -/
abbrev Rejn := Nat × Nat × Nat × Nat

/-- Why a record's dependencies reject it, if they do: DEPENDENCY, or a drop when the definer was dropped. -/
def depRejn (alive : List CfgRec) (gone : List (CfgRec × Bool)) (r : CfgRec) : Option Rejn :=
  match minCode ((needsOf r).filterMap (fun n => n.broken alive gone)) with
  | none => none
  | some (c, dropped) => some (if dropped then (0x10, 0xFF, 0, 0) else (0x25, 0xFF, c, 0))

/-! ## Contention -/

/-- Is timed pin `p` the second pin of a committed encoder that is not itself one (R297)? -/
def encClaim (alive : List CfgRec) : Nat → Bool
  | 0 => false
  | p + 1 => alive.any (fun r => isRec C_PIN_PIN p r && r.v C_PIN_MODE == 3) && !encClaim alive p

/-- The timed pins that a record drives or captures (R297, R486). -/
def pinClaims (r : CfgRec) : List Nat :=
  match r.sect, r.kind with
  | 0x10, 0 => if r.v C_PIN_MODE = 3 then [r.v C_PIN_PIN, r.v C_PIN_PIN + 1] else [r.v C_PIN_PIN]
  | 0x100, 6 => [r.v C_PAIRREC_ALIVE_OUT, r.v C_PAIRREC_ALIVE_IN].filter (fun p => p != 255)
  | 0x110, 0 => if r.v C_TIMEBASE_HPIN = 255 then [] else [r.v C_TIMEBASE_HPIN]
  | 0x110, 1 => [r.v C_PPS_PIN]
  | 0x110, 2 => if r.v C_GPORT_AGC_PIN = 255 then [] else [r.v C_GPORT_AGC_PIN]
  | _, _ => []

/-- The field-die pins that a CHANNEL or SWEEP record names, as die × 16 + local pin (R301). -/
def ainClaims (r : CfgRec) : List Nat :=
  let d := listAt r.vals 0 0 / 16 * 16
  if r.sect == 0x30 && r.kind == 0 then
    r.v C_CHANNEL_CHANNEL ::
      ([r.v C_CHANNEL_PIN_N, r.v C_CHANNEL_PIN_X, r.v C_CHANNEL_PIN_R].filter (fun p => decide (p < 16))).map (d + ·)
  else if r.sect == 0x30 && r.kind == 2 then [d + r.v C_SWEEP_DRIVE_PIN]
  else []

/-- The current sources that a CHANNEL record claims, as die × 8 + source (R302, R331). -/
def srcClaims (r : CfgRec) : List Nat :=
  if r.sect == 0x30 && r.kind == 0 && r.v C_CHANNEL_SOURCE != 255 then
    let d := r.v C_CHANNEL_CHANNEL / 16 * 8
    let k := r.v C_CHANNEL_SOURCE
    if r.v C_CHANNEL_LEADCOMP = 1 then [d + k / 2 * 2, d + k / 2 * 2 + 1] else [d + k]
  else []

/-- The CAN buffers that a record gives a role, as (first, count) runs (R447). -/
def bufRuns (r : CfgRec) : List (Nat × Nat) :=
  if r.sect == 0xF0 && r.kind == 0 then
    [(r.v C_CONTROLLER_TX_BASE, r.v C_CONTROLLER_TX_COUNT), (r.v C_CONTROLLER_RING0_BASE, r.v C_CONTROLLER_RING0_LEN),
     (r.v C_CONTROLLER_RING1_BASE, r.v C_CONTROLLER_RING1_LEN)] ++
    (if r.v C_CONTROLLER_HP_BUF = 0x1FF then [] else [(r.v C_CONTROLLER_HP_BUF, 1)])
  else []

/-- Do two runs share a buffer? -/
def runsMeet (a b : Nat × Nat) : Bool := decide (a.1 < b.1 + b.2) && decide (b.1 < a.1 + a.2) && a.2 != 0 && b.2 != 0

/-- Does a list of runs share a buffer within itself? -/
def runsClash : List (Nat × Nat) → Bool
  | [] => false
  | x :: t => t.any (runsMeet x) || runsClash t

/-- Do two lists of runs share a buffer? -/
def runsMeetAny (a b : List (Nat × Nat)) : Bool := a.any (fun x => b.any (runsMeet x))

/-- Is there a common item? -/
def shares (a b : List Nat) : Bool := a.any (fun x => b.contains x)

/-- The exclusive things a record claims, as (class, item). -/
def claims (r : CfgRec) : List (Nat × Nat) :=
  (pinClaims r).map (fun p => (0, p)) ++ (ainClaims r).map (fun p => (1, p)) ++ (srcClaims r).map (fun p => (2, p)) ++
  (match r.sect, r.kind with
   | 0x50, _ =>
     [(3, (r.v C_ROUTE_DEST_KIND * 65536 + r.v C_ROUTE_DEST) * 256 + r.v C_ROUTE_PORT)]
   | 0x40, 3 => if r.v C_SIGNAL_OP_OP = 10 then [(4, r.v C_SIGNAL_OP_N)] else []
   | 0xB0, _ => if (loopSink r).1 = 0 then [] else [(5, (loopSink r).1 * 256 + (loopSink r).2)]
   | 0xD0, _ => if r.v C_FAN_DRIVE_KIND = 1 then [(6, r.v C_FAN_AOUT)] else []
   | _, _ => [])

/-- The first earlier committed record that claims a thing of `r` (WRITER). -/
def writerOf (earlier : List CfgRec) (r : CfgRec) : Option CfgRec :=
  let mine := claims r
  if mine.isEmpty then none else earlier.find? (fun q => (claims q).any (fun c => mine.contains c))

/-- Do the bits of two TXSIG records in one buffer overlap (R468)? -/
def txsigMeet (a b : CfgRec) : Bool :=
  a.v C_TXSIG_BUF == b.v C_TXSIG_BUF &&
  runsMeet (a.v C_TXSIG_START, a.v C_TXSIG_LEN) (b.v C_TXSIG_START, b.v C_TXSIG_LEN)

/-- One edge of the graph of routes through signal stations and the MSR (node 96); loops break cycles (R43). -/
def routeEdge (r : CfgRec) : Option (Nat × Nat) :=
  let s := r.v C_ROUTE_SOURCE
  let a := if s < 96 then some s else if 176 ≤ s && s < 208 then some 96 else none
  let b := match r.v C_ROUTE_DEST_KIND with
    | 1 => some (r.v C_ROUTE_DEST)
    | 3 => some 96
    | _ => none
  match a, b with
  | some x, some y => some (x, y)
  | _, _ => none

/-- Nodes reached from a set in at most `n` edges. -/
def reachGo (edges : List (Nat × Nat)) : Nat → List Nat → List Nat
  | 0, seen => seen
  | n + 1, seen =>
    let next := (edges.filter (fun e => seen.contains e.1 && !seen.contains e.2)).map (fun e => e.2)
    if next.isEmpty then seen else reachGo edges n (seen ++ next.eraseDups)

/-- Does a route close a cycle over the earlier routes? -/
def closesCycle (earlier : List CfgRec) (r : CfgRec) : Bool :=
  match routeEdge r with
  | none => false
  | some (a, b) => (reachGo ((earlier.filter (fun q => q.sect == 0x50)).filterMap routeEdge) 97 [b]).contains a

/-- Cycles per input of an operation (R338). -/
def opCycles (op n : Nat) : Nat :=
  match op with
  | 1 | 4 => 2 + (n + 3) / 4
  | 2 => 1 + 3 * n
  | 3 | 8 => 1 + n
  | 5 => 3
  | 6 | 7 | 9 => 4
  | 10 => 8
  | 11 => 2
  | 12 => 500
  | _ => 1

/-- State bytes of an operation (R338). -/
def opBytes (op n decim : Nat) : Nat :=
  match op with
  | 1 | 4 | 5 | 6 | 7 => 4 * n
  | 3 => 4 * n * decim
  | _ => 0

/-- The operation record of slot `k` of station `n` (R333). -/
def opRec (recs : List CfgRec) (n k : Nat) : Option CfgRec :=
  recs.find? (fun r => isRec C_SIGNAL_OP_STATION n r && r.v C_SIGNAL_OP_SLOT == k)

/-- State bytes of a station. -/
def stationBytes (recs : List CfgRec) (st : CfgRec) : Nat :=
  ((List.range (st.v C_SIGNAL_STATION_NOPS)).map (fun k =>
    match opRec recs (st.v C_SIGNAL_STATION_STATION) k with
    | some r => opBytes (r.v C_SIGNAL_OP_OP) (r.v C_SIGNAL_OP_N) (r.v C_SIGNAL_OP_DECIM)
    | none => 0)).sum

/-- Load of the slots from `k` on at rate `rate` elements/s, as an exact number (R347). -/
def loadFrom (recs : List CfgRec) (n : Nat) : Nat → Nat → FV → FV
  | _, 0, _ => .zero
  | k, m + 1, rate =>
    match opRec recs n k with
    | none => (FV.add f64 rate (loadFrom recs n (k + 1) m rate))
    | some r =>
      let op := r.v C_SIGNAL_OP_OP
      let here := FV.mul f64 (FV.ofInt (opCycles op (r.v C_SIGNAL_OP_N))) rate
      let next :=
        if op = 11 then FV.div f64 (FV.ofInt 1000) (ofB32 (r.v C_SIGNAL_OP_P2))
        else if op = 1 || (3 ≤ op && op ≤ 7) then FV.div f64 rate (FV.ofInt (r.v C_SIGNAL_OP_DECIM))
        else rate
      FV.add f64 here (loadFrom recs n (k + 1) m next)

/-- The committed load of a station in cycles/s. -/
def stationLoad (recs : List CfgRec) (st : CfgRec) : FV :=
  loadFrom recs (st.v C_SIGNAL_STATION_STATION) 0 (st.v C_SIGNAL_STATION_NOPS)
    (FV.ofInt (st.v C_SIGNAL_STATION_RATE_MAX))

/-- Load of the stations of one engine below station `n`, and station `n`'s own. -/
def engineLoad (recs : List CfgRec) (st : CfgRec) : FV :=
  let n := st.v C_SIGNAL_STATION_STATION
  let l := recs.filter (fun r => r.sect == 0x40 && r.kind == 2 && r.v C_SIGNAL_STATION_STATION / 8 == n / 8 &&
    decide (r.v C_SIGNAL_STATION_STATION < n))
  l.foldl (fun a r => FV.add f64 a (stationLoad recs r)) (stationLoad recs st)

/-- Delay-line entries of the measurement unit (R351): routed inputs and committed loss groups. -/
def msrEntries (recs : List CfgRec) (y : CfgRec) : Nat :=
  let ins := ((List.range 8).filter (fun i => recs.any (fun r => r.sect == 0x50 && r.v C_ROUTE_DEST_KIND == 3 &&
    r.v C_ROUTE_PORT == i))).map (fun i => y.v (C_YIELD_DELAY0.plus i))
  let ls := (recs.filter (fun r => r.sect == 0xA0 && r.kind == 1)).map (fun r => r.v C_LOSS_DELAY)
  let ds := ins ++ ls
  let mx := ds.foldl max 0
  let g := y.v C_YIELD_GRID_MS
  (ds.map (fun d => (mx - d + g - 1) / g + 1)).sum

/-- The table conflict of a MODEL with itself or an earlier one (R259): size and distance. -/
def tableClash (earlier : List CfgRec) (r : CfgRec) : Option (Nat × Nat) :=
  let span (q : CfgRec) : List (Nat × Nat) :=
    let z := tableSize (q.v C_MODEL_TYPE) (q.v C_MODEL_TREES) (q.v C_MODEL_DEPTH)
    [(q.v C_MODEL_TABLE0, z), (q.v C_MODEL_TABLE1, z)]
  let size := tableSize (r.v C_MODEL_TYPE) (r.v C_MODEL_TREES) (r.v C_MODEL_DEPTH)
  let dist (a b : Nat) : Nat := if a < b then b - a else a - b
  let t0 := (r.v C_MODEL_TABLE0, size)
  let t1 := (r.v C_MODEL_TABLE1, size)
  if runsMeet t0 t1 then some (size, dist t0.1 t1.1)
  else
    match ((earlier.filter (fun q => q.sect == 0x80 && q.kind == 0)).flatMap span).findSome? (fun x =>
      if runsMeet t0 x then some (dist t0.1 x.1) else if runsMeet t1 x then some (dist t1.1 x.1) else none) with
    | some d => some (size, d)
    | none => none

/-- Bytes of a CAN data field by DLC. -/
def dlcBytes (d : Nat) : Nat := listAt [0, 1, 2, 3, 4, 5, 6, 7, 8, 12, 16, 20, 24, 32, 48, 64] d 64

/-- Why contention rejects a record, given the committed records before it and all committed records. -/
def contRejn (earlier alive : List CfgRec) (r : CfgRec) : Option Rejn :=
  let writer : Option Rejn :=
    match r.sect, r.kind with
    | 0x10, 0 =>
      if encClaim alive (r.v C_PIN_PIN) then
        match alive.find? (fun q => isRec C_PIN_PIN (r.v C_PIN_PIN - 1) q) with
        | some q => some (0x21, 0xFF, recCode q, 0)
        | none => none
      else none
    | _, _ =>
      match writerOf earlier r with
      | some q => some (0x21, 0xFF, recCode q, 0)
      | none => none
  match writer with
  | some x => some x
  | none =>
    match r.sect, r.kind with
    | 0x30, 1 =>
      let d := r.v C_FAST_CHANNEL / 16
      let m := match alive.find? (isRec C_CHANNEL_CHANNEL (r.v C_FAST_CHANNEL)) with
        | some c => c.v C_CHANNEL_MODE
        | none => 2
      if m != 2 && m != 6 && m != 7 then some (0x20, 0, r.v C_FAST_CHANNEL, 0)
      else if earlier.any (fun q => isRec C_FAST_PATH (r.v C_FAST_PATH) q && q.v C_FAST_CHANNEL / 16 == d) then
        some (0x23, 0xFF, 2, 1) else none
    | 0x30, 2 =>
      match alive.find? (isRec C_CHANNEL_CHANNEL (r.v C_SWEEP_CHANNEL)) with
      | some c => if c.v C_CHANNEL_MODE = 7 then none else some (0x20, 0, r.v C_SWEEP_CHANNEL, 0)
      | none => none
    | 0x30, 3 =>
      match alive.find? (isRec C_CHANNEL_CHANNEL (r.v C_CABLE_CHANNEL)) with
      | some c => if c.v C_CHANNEL_MODE = 8 then none else some (0x20, 0, r.v C_CABLE_CHANNEL, 0)
      | none => none
    | 0x40, 0 =>
      if earlier.any (fun q => q.sect == 0x40 && q.kind == 0 &&
        (q.v C_FEATURE_GROUP_STATIONS &&& r.v C_FEATURE_GROUP_STATIONS) != 0) then some (0x23, 0xFF, 2, 1) else none
    | 0x40, 2 =>
      let b := stationBytes alive r
      let lim := FV.ofInt 200000000
      let l := engineLoad alive r
      if 8192 < b then some (0x23, 0xFF, b, 8192)
      else if lim.lt l then
        some (0x23, 0xFF, (FV.div f64 l (FV.ofInt 1000)).floorI.toNat, 200000) else none
    | 0x40, 3 =>
      match alive.find? (isRec C_SIGNAL_STATION_STATION (r.v C_SIGNAL_OP_STATION)) with
      | some st =>
        let n := st.v C_SIGNAL_STATION_NOPS
        let k := r.v C_SIGNAL_OP_SLOT
        let op := r.v C_SIGNAL_OP_OP
        if n ≤ k then some (0x20, C_SIGNAL_OP_SLOT.field, k, 0)
        else if (op == 10 && k + 1 != n) || (op == 12 && k != 0) then some (0x20, C_SIGNAL_OP_OP.field, op, 0)
        else none
      | none => none
    | 0x50, 0 =>
      if 32 ≤ (earlier.filter (fun q => isRec C_ROUTE_SOURCE (r.v C_ROUTE_SOURCE) q)).length then
        some (0x23, 0xFF, 33, 32)
      else if closesCycle earlier r then some (0x22, 0xFF, 0, 0) else none
    | 0x60, 1 =>
      match earlier.find? (fun q => isRec C_STREAM_PORT (r.v C_STREAM_PORT) q && q.v C_STREAM_VC == r.v C_STREAM_VC) with
      | some q => some (0x24, 0xFF, recCode q, 0)
      | none => none
    | 0x70, 3 =>
      let two (q : CfgRec) : List Nat := [q.v C_TPAIR_PRIMARY, q.v C_TPAIR_SECONDARY]
      match earlier.find? (fun q => q.sect == 0x70 && q.kind == 3 && shares (two q) (two r)) with
      | some q => some (0x24, 0xFF, recCode q, 0)
      | none => none
    | 0x80, 0 =>
      if earlier.any (fun q => q.sect == 0x80 && q.kind == 0 &&
        (q.v C_MODEL_STATIONS &&& r.v C_MODEL_STATIONS) != 0) then some (0x23, 0xFF, 2, 1)
      else
        match tableClash earlier r with
        | some (z, d) => some (0x23, 0xFF, z, d)
        | none => none
    | 0xA0, 0 =>
      let n := msrEntries alive r
      if 32768 < n then some (0x23, 0xFF, n, 32768) else none
    | 0xB0, 0 =>
      if r.v C_LOOP_GROUP != 255 && decide (8 ≤ (alive.filter (fun q => isRec C_LOOP_GROUP (r.v C_LOOP_GROUP) q &&
        decide (q.v C_LOOP_LOOP < r.v C_LOOP_LOOP))).length) then some (0x23, 0xFF, 9, 8) else none
    | 0xF0, 0 =>
      if runsClash (bufRuns r) then some (0x21, 0xFF, recCode r, 0)
      else
        match earlier.find? (fun q => runsMeetAny (bufRuns q) (bufRuns r)) with
        | some q => some (0x21, 0xFF, recCode q, 0)
        | none => none
    | 0xF0, 5 =>
      match earlier.find? (fun q => q.sect == 0xF0 && q.kind == 5 && txsigMeet q r) with
      | some q => some (0x21, 0xFF, recCode q, 0)
      | none =>
        match alive.find? (isRec C_TXBUF_BUF (r.v C_TXSIG_BUF)) with
        | some t =>
          if 8 * dlcBytes (t.v C_TXBUF_DLC) < r.v C_TXSIG_START + r.v C_TXSIG_LEN then
            some (0x20, C_TXSIG_START.field, r.v C_TXSIG_START, 0) else none
        | none => none
    | _, _ => none

/-! ## The fixpoint -/

/-- The state of the clamp phase: committed candidates in type and record order, rejected or dropped
records, rejections made. -/
structure Clamp where
  alive : List CfgRec
  gone : List (CfgRec × Bool)
  out : List (CfgRec × Rejn)

/-- Reject one record. -/
def Clamp.drop (c : Clamp) (r : CfgRec) (x : Rejn) : Clamp :=
  { alive := c.alive.filter (fun q => q != r)
    gone := c.gone ++ [(r, x.1 == 0x10)]
    out := c.out ++ [(r, x)] }

/-- The first record that contention rejects, in type and record order. -/
def firstCont (alive : List CfgRec) : List CfgRec → List CfgRec → Option (CfgRec × Rejn)
  | _, [] => none
  | earlier, r :: t =>
    match contRejn earlier alive r with
    | some x => some (r, x)
    | none => firstCont alive (earlier ++ [r]) t

/-- The next rejection: dependencies first, then contention (R96). -/
def Clamp.next (c : Clamp) : Option (CfgRec × Rejn) :=
  match c.alive.findSome? (fun r => (depRejn c.alive c.gone r).map (fun x => (r, x))) with
  | some p => some p
  | none => firstCont c.alive [] c.alive

/-- Reject until nothing more is rejected; each rejection removes a record, so as many rounds as there are
records suffice. -/
def Clamp.run : Nat → Clamp → Clamp
  | 0, c => c
  | n + 1, c =>
    match c.next with
    | none => c
    | some (r, x) => Clamp.run n (c.drop r x)

end Sys2Proof.Machine
end

