-- ==== Sys2Proof/Machine/Plat.lean ====
section
/-! DEFINITION. The loader: parsing an image (R84 to R93), checking and clamping it into a staged
configuration (R92, R94 to R98), the load report (R105 to R107), amendments (R108 to R111), memory fills
(R112, R113), image slots and the boot pointer (R114 to R117), and the host commands but COMMIT and
AMENDMENT_APPLY, which Machine/Commit.lean gives. -/

namespace Sys2Proof.Machine

open Sys2Proof

/-! ## Parse (R84 to R88, R93) -/

/-- A section as laid out in an image: type, whether its CRC is correct, its records (kind, body). -/
structure RawSect where
  typ : Nat
  crcOk : Bool
  recs : List (Nat × List Nat)
  deriving DecidableEq, Repr

/-- An image that passed the parse phase. -/
structure Parsed where
  bytes : List Nat
  variants : Nat
  sects : List RawSect
  imgCrc : Nat
  imageId : Nat
  deriving DecidableEq, Repr

/-- The records of a record area: `n` of them tile it exactly (R88). -/
def parseRecs : Nat → List Nat → Option (List (Nat × List Nat))
  | 0, b => if b.isEmpty then some [] else none
  | n + 1, b =>
    let len := 4 * leAt b 0 2
    if b.length < 4 || len = 0 || b.length < len then none
    else (parseRecs n (b.drop len)).map (fun t => (leAt b 2 1, slice b 4 (len - 4)) :: t)

/-- The sections from the byte after the header: `n` of them tile it exactly (R87). -/
def parseSects : Nat → List Nat → Option (List RawSect)
  | 0, b => if b.isEmpty then some [] else none
  | n + 1, b =>
    let len := leAt b 4 4
    let cnt := leAt b 8 4
    if b.length < 16 || len % 4 != 0 || b.length < 16 + len || 65535 < cnt then none
    else
      let area := slice b 16 len
      match parseRecs cnt area, parseSects n (b.drop (16 + len)) with
      | some rs, some t => some (⟨leAt b 0 2, crc32c (b.take 12 ++ area) == leAt b 12 4, rs⟩ :: t)
      | _, _ => none

/-- IMAGE_CRC of an image (R85). -/
def imageCrc (b : List Nat) : Nat :=
  let sig := leAt b 0x1C 4
  let n := if sig = 0 then b.length else min sig b.length
  let z := (List.range 4).foldl (fun l k => listSet (listSet l (0x18 + k) 0) (0x3C + k) 0) (b.take n)
  crc32c z

/-- Does the signature block pass (R86)? -/
def State.signed (s : State) (b : List Nat) : Bool :=
  let sig := leAt b 0x1C 4
  let blk := b.drop sig
  let slot := leAt blk 4 1
  let pub := slice blk 16 64
  sig % 16 == 0 && sig + 144 == b.length && leAt blk 0 4 == 0x47495350 && decide (slot ≤ 3) &&
  listAt s.fuses.keyHash slot 0 == sha256 pub && !bitAt s.fuses.revoked slot &&
  ecdsaVerify (sha256 (b.take sig)) (beNat (slice pub 0 32)) (beNat (slice pub 32 32))
    (beNat (slice blk 80 32)) (beNat (slice blk 112 32))

/-- Tests 8 to 10 of R93 on the bytes up to LENGTH: the reason, or the parsed image. -/
def State.parseBody (s : State) (b : List Nat) : Nat ⊕ Parsed :=
  let sig := leAt b 0x1C 4
  if imageCrc b ≠ leAt b 0x18 4 then .inl 0x46
  else if s.fuses.secure && sig == 0 then .inl 0x47
  else if s.fuses.secure && !s.signed b then .inl 0x48
  else if sig ≠ 0 && (sig % 16 != 0 || sig + 144 != b.length || sig < 64) then .inl 0x49
  else if 64 < leAt b 0x0E 2 then .inl 0x49
  else
    match parseSects (leAt b 0x0E 2) ((b.take (if sig = 0 then b.length else sig)).drop 64) with
    | none => .inl 0x49
    | some l => .inr ⟨b, leAt b 0x0C 1, l, leAt b 0x18 4, leAt b 0x20 4⟩

/-- The parse phase over `avail` bytes at BAR0 address `base` (R93), with its demand reads. -/
def State.parseAt (s : State) (base avail : Nat) : (Nat ⊕ Parsed) × State :=
  if avail < 64 then (.inl 0x40, s)
  else
    let (h?, s1) := s.memBytes base 64
    match h? with
    | none => (.inl 0x45, s1)
    | some h =>
      let len := leAt h 8 4
      if leAt h 0 4 ≠ 0x54414C50 then (.inl 0x41, s1)
      else if crc32c (h.take 0x3C) ≠ leAt h 0x3C 4 then (.inl 0x42, s1)
      else if leAt h 4 2 ≠ 1 then (.inl 0x43, s1)
      else if len < 64 || 4194304 < len then (.inl 0x44, s1)
      else if avail < len then (.inl 0x40, s1)
      else
        let (r?, s2) := s1.memBytes (base + 64) (len - 64)
        match r? with
        | none => (.inl 0x45, s2)
        | some r => (s2.parseBody (h ++ r), s2)

/-! ## The report (R105 to R107) -/

/-- Add to a saturating byte of PLAT_SUM by reason class. -/
def State.sumReason (s : State) (reason : Nat) : State :=
  if 0x50 ≤ reason then s.inc PLAT_SUM_INFO 1
  else if 0x20 ≤ reason then s.inc PLAT_SUM_REJECTS 1
  else if 0x10 ≤ reason then s.inc PLAT_SUM_DROPS 1
  else s.inc PLAT_SUM_CLAMPS 1

/-- Append one entry; the first 4,096 are stored (R107, R104). -/
def State.reportOne (s : State) (e : RepEntry) : State :=
  let n := s.rd PLAT_REPORT_COUNT_COUNT
  let s1 := (s.inc PLAT_REPORT_COUNT_COUNT 1).sumReason e.reason
  let s2 := if n < 4096 then { s1 with loader := { s1.loader with report := s1.loader.report ++ [e] } } else s1
  s2.raiseIf (n == 4096) 5 2

/-- Append entries. -/
def State.reportAll (s : State) (l : List RepEntry) : State := l.foldl State.reportOne s

/-- Clear the report (R102). -/
def State.reportClear (s : State) : State :=
  let s1 := { s with loader := { s.loader with report := [] } }
  (s1.wr PLAT_REPORT_COUNT_COUNT 0).setReg (PLAT_SUM_INFO.addr 0 0) 0

/-- Order of check and clamp entries (R107). -/
def repLe (a b : RepEntry) : Bool :=
  decide (a.sect < b.sect) || (a.sect == b.sect && (decide (a.recIx < b.recIx) ||
    (a.recIx == b.recIx && decide (a.field ≤ b.field))))

/-- Insert into a list sorted by R107, after equal entries. -/
def repInsert (e : RepEntry) : List RepEntry → List RepEntry
  | [] => [e]
  | x :: t => if repLe x e then x :: repInsert e t else e :: x :: t

/-- Sort by R107. -/
def repSort (l : List RepEntry) : List RepEntry := l.foldl (fun a e => repInsert e a) []

/-- An entry; REQUESTED and APPLIED keep their low 32 bits (R105). -/
def entry (seq sect ix field reason req app : Nat) : RepEntry :=
  ⟨sect, ix, field, reason, seq % 65536, req % 2 ^ 32, app % 2 ^ 32⟩

/-! ## Check (R92, R94 to R98) -/

/-- Check phase of one section: candidates, rejected or dropped records, entries, and whether RECORD_LONG
has been reported. -/
structure SectChk where
  kept : List CfgRec := []
  gone : List (CfgRec × Bool) := []
  out : List RepEntry := []
  long : Bool := false

/-- The entries of a record's clamped fields. -/
def clampEntries (seq sect ix : Nat) (c : Chk) : List RepEntry :=
  (List.range c.vals.length).filterMap (fun i =>
    let w := listAt c.why i 0
    if w = 0 then none else some (entry seq sect ix i w (listAt c.raws i 0) (listAt c.vals i 0)))

/-- The memory region that a record needs (R98). -/
def regionNeed (sect kind : Nat) : Option Nat :=
  match sect, kind with
  | 0x70, 0 => some 0
  | 0x90, 0 => some 1
  | 0x60, 1 => some 2
  | 0x80, 0 => some 3
  | 0x40, 2 => some 3
  | 0xA0, 0 => some 3
  | 0x110, 2 => some 4
  | 0x110, 3 => some 4
  | 0x110, 4 => some 4
  | _, _ => none

/-- Do two records of one section configure the same instance (R95)? Routes name none. -/
def sameInstance (k : CKind) (a b : CfgRec) : Bool :=
  k.sect != 0x50 && a.kind == b.kind && k.keys.all (fun i => listAt a.vals i 0 == listAt b.vals i 0)

/-- Check record `ix` of section `sect`. -/
def State.checkRec (s : State) (seq sect ix : Nat) (acc : SectChk) (p : Nat × List Nat) : SectChk :=
  match kindOf sect p.1 with
  | none => { acc with out := acc.out ++ [entry seq sect ix 0xFF 0x12 0 0] }
  | some k =>
    let c := checkBody s.is20 k p.2
    let r : CfgRec := ⟨sect, p.1, ix, c.vals⟩
    if s.absentRec sect p.1 c then
      { acc with gone := acc.gone ++ [(r, true)], out := acc.out ++ [entry seq sect ix 0xFF 0x10 0 0] }
    else
      let miss := (bodyFields k.fields p.2).findIdx (·.isNone)
      let short := if miss < k.fields.length then [entry seq sect ix miss 0x05 0 0] else []
      let isLong := decide (kindBytes k < p.2.length)
      let long := if isLong && !acc.long then [entry seq sect ix 0xFF 0x53 0 0] else []
      let acc1 := { acc with long := acc.long || isLong, out := acc.out ++ short ++ long }
      match c.bad with
      | some f =>
        { acc1 with gone := acc1.gone ++ [(r, false)]
                    out := acc1.out ++ [entry seq sect ix f 0x20 (listAt c.raws f 0) 0] }
      | none =>
        let acc2 := { acc1 with out := acc1.out ++ clampEntries seq sect ix c }
        let reject (reason req app : Nat) : SectChk :=
          { acc2 with gone := acc2.gone ++ [(r, false)], out := acc2.out ++ [entry seq sect ix 0xFF reason req app] }
        match c.excess with
        | some (req, app) => reject 0x23 req app
        | none =>
          match acc2.kept.find? (sameInstance k r) with
          | some q => reject 0x24 (recCode q) 0
          | none =>
            match regionNeed sect p.1 with
            | some g => if s.usable g then { acc2 with kept := acc2.kept ++ [r] } else reject 0x26 0 0
            | none => { acc2 with kept := acc2.kept ++ [r] }

/-- Check records in order from index `ix`. -/
def State.checkRecs (s : State) (seq sect : Nat) : Nat → List (Nat × List Nat) → SectChk → SectChk
  | _, [], acc => acc
  | ix, p :: t, acc => s.checkRecs seq sect (ix + 1) t (s.checkRec seq sect ix acc p)

/-- LO_RANGE of a fast path with a charge amplifier is at least 1 (R331). -/
def fastFix (seq : Nat) (a : SectChk) : SectChk :=
  let charge (r : CfgRec) : Bool := r.sect == 0x30 && r.kind == 1 && r.v C_FAST_LO_RANGE == 0 &&
    a.kept.any (fun c => isRec C_CHANNEL_CHANNEL (r.v C_FAST_CHANNEL) c &&
      (c.v C_CHANNEL_MODE == 6 || c.v C_CHANNEL_MODE == 7))
  { a with
    kept := a.kept.map (fun r => if charge r then { r with vals := listSet r.vals C_FAST_LO_RANGE.field 1 } else r)
    out := a.out ++ (a.kept.filter charge).map (fun r => entry seq 0x30 r.index C_FAST_LO_RANGE.field 1 0 1) }

/-- The section types of R90. -/
def knownSects : List Nat :=
  [0x10, 0x20, 0x30, 0x40, 0x50, 0x60, 0x70, 0x80, 0x90, 0xA0, 0xB0, 0xC0, 0xD0, 0xE0, 0xF0, 0x100, 0x110,
   0x120, 0x130, 0x140, 0x150]

/-- Which sections of an image are worked, with the entries of the others (R91, R92, R108): repeats, CRC
failures, sections that an AMEND load skips, unknown types. -/
def sortSects (seq : Nat) (amend : Bool) : List Nat → List RawSect → List RawSect × List RepEntry
  | _, [] => ([], [])
  | seen, x :: t =>
    let (l, e) := sortSects seq amend (x.typ :: seen) t
    let skip (reason : Nat) : List RawSect × List RepEntry := (l, entry seq x.typ 0xFFFF 0xFF reason 0 0 :: e)
    if seen.contains x.typ then skip 0x31
    else if !x.crcOk then skip 0x30
    else if !knownSects.contains x.typ then skip 0x11
    else if amend && x.typ != 0x140 && x.typ != 0x150 then skip 0x13
    else (x :: l, e)

/-- The sections in ascending type order. -/
def byType (l : List RawSect) : List RawSect :=
  knownSects.flatMap (fun t => l.filter (fun x => x.typ == t))

/-- One MEMFILL record (R112): the fill, or nothing when it is rejected or dropped. -/
def State.checkFill (s : State) (seq ix : Nat) (p : Nat × List Nat) : Option MemFill × List RepEntry :=
  let e (field reason req app : Nat) : RepEntry := entry seq 0x140 ix field reason req app
  if p.1 ≠ 0 then (none, [e 0xFF 0x12 0 0])
  else
    let b := p.2
    let region := leAt b 0 1
    let flags := leAt b 1 1
    let off := leAt b 4 4
    let len := leAt b 8 4
    let size := (regionSpan region).2
    let miss := if b.length < 1 then 0 else if b.length < 2 then 1 else if b.length < 4 then 2
      else if b.length < 8 then 3 else if b.length < 12 then 4 else if b.length < 20 then 5 else 6
    let short := if miss < 6 then [e miss 0x05 0 0] else []
    if region = 4 && s.is20 then (none, [e 0xFF 0x10 0 0])
    else if 5 < region then (none, short ++ [e 0 0x20 region 0])
    else if off % 8 ≠ 0 || size ≤ off then (none, short ++ [e 3 0x20 off 0])
    else if !s.usable region then (none, short ++ [e 0xFF 0x26 0 0])
    else
      let inl := bitAt flags 1
      let l1 := len / 8 * 8
      let l2 := if size - off < l1 then size - off else l1
      let data := b.drop 20
      let l3 := if inl && decide (data.length < l2) then data.length / 8 * 8 else l2
      let why := if l3 < l2 then 1 else if l2 < l1 then 2 else if l1 < len then 3 else 0
      let clamp := if why = 0 then [] else [e 4 why len l3]
      (some ⟨ix, region, bitAt flags 0, inl, off, l3, if b.length < 20 then 0 else leAt b 12 8, if inl then data.take l3 else []⟩, short ++ clamp)

/-- The MEMFILL records of a section; only the first record longer than its fields is reported. -/
def State.checkFills (s : State) (seq : Nat) : Nat → Bool → List (Nat × List Nat) → List MemFill × List RepEntry
  | _, _, [] => ([], [])
  | ix, long, p :: t =>
    let (f, e) := s.checkFill seq ix p
    let isLong := p.1 == 0 && (match f with
      | some m => decide (20 + m.data.length + 3 < p.2.length)
      | none => false)
    let (l, e2) := s.checkFills seq (ix + 1) (long || isLong) t
    ((match f with
      | some m => m :: l
      | none => l), e ++ (if isLong && !long then [entry seq 0x140 ix 0xFF 0x53 0 0] else []) ++ e2)

/-- The fields named by an amendment with their values as written, or the first whose value is missing. -/
def amendRaws : Nat → List CField → List Nat → List (Nat × Nat) ⊕ Nat
  | _, [], _ => .inl []
  | i, f :: t, b =>
    let n := f.w / 8
    if b.length < n then .inr i
    else
      match amendRaws (i + 1) t (b.drop n) with
      | .inl l => .inl ((i, leNat (b.take n)) :: l)
      | .inr k => .inr k

/-- Evaluate the named fields over the target's values (R94, R108). -/
def amendEval (k : CKind) (target : CfgRec) (sets : List (Nat × Nat)) : Chk :=
  let n := k.fields.length
  let c0 : Chk := { raws := target.vals, vals := target.vals, why := List.replicate n 0 }
  sets.foldl (fun c p =>
    let f := listAt k.fields p.1 ⟨0, .any, 0, false⟩
    let c1 := { c with raws := listSet c.raws p.1 p.2 }
    match f.rule.eval f.w (resetOf k c.vals p.1) p.2 with
    | some (v, why) => { c1 with vals := listSet c1.vals p.1 v, why := listSet c1.why p.1 why }
    | none => { c1 with bad := some (c1.bad.getD p.1) }) c0

/-- One AMEND record (R108) against the records `base`, with `room` places left in the queue (R111). -/
def State.checkAmend (s : State) (seq ix : Nat) (base : List CfgRec) (room : Nat) (p : Nat × List Nat) :
    Option Amend × List RepEntry :=
  let e (field reason req app : Nat) : RepEntry := entry seq 0x150 ix field reason req app
  if p.1 ≠ 0 then (none, [e 0xFF 0x12 0 0])
  else
    let b := p.2
    let tt := leAt b 0 2
    let ti := leAt b 2 2
    let ff := leAt b 4 1
    let n := leAt b 5 1
    let miss := if b.length < 2 then 0 else if b.length < 4 then 1 else if b.length < 5 then 2
      else if b.length < 6 then 3 else 4
    let short := if miss < 4 then [e miss 0x05 0 0] else []
    match base.find? (fun r => r.sect == tt && r.index == ti) with
    | none => (none, short ++ [e ff 0x28 0 0])
    | some r =>
      match kindOf tt r.kind with
      | none => (none, short ++ [e ff 0x28 0 0])
      | some k =>
        let named := slice k.fields ff n
        if n = 0 || 32 < n || k.fields.length < ff + n then (none, short ++ [e ff 0x28 0 0])
        else
          match (List.range n).find? (fun i => !(listAt named i ⟨0, .any, 0, false⟩).amend) with
          | some i => (none, short ++ [e (ff + i) 0x27 0 0])
          | none =>
            match amendRaws ff named (b.drop 8) with
            | .inr i => (none, short ++ [e i 0x28 0 0])
            | .inl sets =>
              if room = 0 then (none, short ++ [e ff 0x29 0 0])
              else
                let c := chkRecord s.is20 tt r.kind (amendEval k r sets)
                match c.bad with
                | some f => (none, short ++ [e f 0x20 (listAt c.raws f 0) 0])
                | none =>
                  let out := sets.filterMap (fun q =>
                    let w := listAt c.why q.1 0
                    if w = 0 then none else some (e q.1 w q.2 (listAt c.vals q.1 0)))
                  (some ⟨seq, ix, tt, ti, sets.map (fun q => (q.1, listAt c.vals q.1 0))⟩, short ++ out)

/-- The AMEND records of a section in order. -/
def State.checkAmends (s : State) (seq : Nat) (base : List CfgRec) :
    Nat → Nat → List (Nat × List Nat) → List Amend × List RepEntry
  | _, _, [] => ([], [])
  | ix, room, p :: t =>
    let (a, e) := s.checkAmend seq ix base room p
    let (l, e2) := s.checkAmends seq base (ix + 1) (if a.isSome then room - 1 else room) t
    ((match a with
      | some x => x :: l
      | none => l), e ++ e2)

/-- The variant's bit in VARIANTS (R84). -/
def State.variantBit (s : State) : Nat := match s.fuses.variant with
  | 0x20 => 0
  | 0x30 => 1
  | _ => 2

/-- VARIANT_MISMATCH (R97). -/
def State.variantEntry (s : State) (seq : Nat) (p : Parsed) : List RepEntry :=
  if p.variants ≠ 0 && !bitAt p.variants s.variantBit then [entry seq 0 0xFFFF 0xFF 0x50 0 0] else []

/-- Check and clamp a full load: the staged configuration and the sorted entries. -/
def State.checkFull (s : State) (seq source : Nat) (p : Parsed) : Staged × List RepEntry :=
  let (l, e0) := sortSects seq false [] p.sects
  let ss := byType l
  let parts := (ss.filter (fun x => x.typ != 0x140 && x.typ != 0x150)).map (fun x =>
    let a := s.checkRecs seq x.typ 0 x.recs {}
    if x.typ = 0x30 then fastFix seq a else a)
  let cand := parts.flatMap (·.kept)
  let gone := parts.flatMap (·.gone)
  let (fills, e2) := ((ss.filter (fun x => x.typ == 0x140)).map (fun x => s.checkFills seq 0 false x.recs)).headD ([], [])
  let c := Clamp.run cand.length ⟨cand, gone, []⟩
  let e3 := c.out.map (fun q => entry seq q.1.sect q.1.index q.2.2.1 q.2.1 q.2.2.2.1 q.2.2.2.2)
  let (am, e4) := ((ss.filter (fun x => x.typ == 0x150)).map (fun x => s.checkAmends seq c.alive 0 1024 x.recs)).headD ([], [])
  (⟨c.alive, fills, am, p.imgCrc, p.imageId, source⟩,
   repSort (s.variantEntry seq p ++ e0 ++ parts.flatMap (·.out) ++ e2 ++ e3 ++ e4))

/-- Check an AMEND load (R108): fills, amendments and the sorted entries. -/
def State.checkAmendLoad (s : State) (seq : Nat) (p : Parsed) : List MemFill × List Amend × List RepEntry :=
  let (l, e0) := sortSects seq true [] p.sects
  let ss := byType l
  let (fills, e2) := ((ss.filter (fun x => x.typ == 0x140)).map (fun x => s.checkFills seq 0 false x.recs)).headD ([], [])
  let (am, e4) := ((ss.filter (fun x => x.typ == 0x150)).map (fun x =>
    s.checkAmends seq s.loader.recs 0 (1024 - s.loader.pendingAmends.length) x.recs)).headD ([], [])
  (fills, am, repSort (s.variantEntry seq p ++ e0 ++ e2 ++ e4))

/-! ## Memory fills (R112, R113) -/

/-- Write `n` words of a pattern. -/
def State.fillWords (s : State) (a v : Nat) : Nat → State
  | 0 => s
  | n + 1 => (s.memPut a v).fillWords (a + 8) v n

/-- Run one fill. -/
def State.runFill (s : State) (f : MemFill) : State :=
  let a := (regionSpan f.region).1 + f.offset
  if f.inl then s.memPutBytes a f.data else s.fillWords a f.pattern (f.len / 8)

/-- Run the fills in record order, then mark the regions named with MARK. -/
def State.runFills (s : State) (l : List MemFill) : State :=
  let s1 := l.foldl State.runFill s
  l.foldl (fun t f => if f.mark then t.mark f.region else t) s1

/-! ## Amendment queue (R108 to R111) -/

/-- PLAT_AMEND_STAT.PENDING follows the queue. -/
def State.pendingShow (s : State) : State := s.wr PLAT_AMEND_STAT_PENDING s.loader.pendingAmends.length

/-- Queue amendments in command order (R111). -/
def State.queueAmends (s : State) (l : List Amend) : State :=
  ({ s with loader := { s.loader with pendingAmends := s.loader.pendingAmends ++ l } }).pendingShow

/-- Report discarded amendments with their own load's SEQ, and raise AMEND_DISCARDED (R104, R107). -/
def State.discardReport (s : State) (reason : Nat) (l : List Amend) : State :=
  let s1 := s.reportAll (l.map (fun a => entry a.seq 0x150 a.recIx ((a.sets.headD (0xFF, 0)).1) reason 0 0))
  s1.raiseIf (!l.isEmpty) 5 4

/-- A reset unit discards every amendment of its records, pending or applied, and returns to the image's
values (R44, R77, R111). `own` says which records are the unit's. -/
def State.discardUnit (s : State) (own : CfgRec → Bool) : State :=
  let isOwn (a : Amend) : Bool :=
    match s.loader.recs.find? (fun r => r.sect == a.tsect && r.index == a.tindex) with
    | some r => own r
    | none => false
  let lost := s.loader.applied.filter isOwn ++ s.loader.pendingAmends.filter isOwn
  let s1 := { s with loader := { s.loader with
    pendingAmends := s.loader.pendingAmends.filter (fun a => !isOwn a)
    applied := s.loader.applied.filter (fun a => !isOwn a)
    recs := s.loader.recs.map (fun (r : CfgRec) =>
      if own r then
        (s.loader.imageRecs.find? (fun (q : CfgRec) => q.sect == r.sect && q.index == r.index)).getD r
      else r) } }
  (s1.discardReport 0x2A lost).pendingShow

/-! ## Slots and the boot pointer (R114 to R117) -/

/-- BAR0 address of slot `x`. -/
def slotBase (x : Nat) : Nat := 0x4000000 + 0x400000 * x

/-- BAR0 address of pointer copy `c`. -/
def ptrAddr (c : Nat) : Nat := 0x4800000 + 0x200000 * c

/-- The check byte of a pointer word (R516). -/
def ptrCheck (w : Nat) : Nat :=
  ((leBytes 8 w).take 5 ++ (leBytes 8 w).drop 6).foldl (fun a b => a ^^^ b) 0x5A

/-- A pointer word. -/
def ptrWord (slot gen : Nat) : Nat :=
  let w := gen % 2 ^ 32 + slot * 2 ^ 32 + 0xB5A7 * 2 ^ 48
  w + ptrCheck w * 2 ^ 40

/-- SLOT and GEN of a valid copy. -/
def ptrValid (w : Option Nat) : Option (Nat × Nat) :=
  match w with
  | none => none
  | some v =>
    if bitsOf v 63 48 = 0xB5A7 && bitsOf v 47 40 = ptrCheck v then some (bitsOf v 39 32, v % 2 ^ 32) else none

/-- The vote over three copies: SLOT, GEN, ODD, SPLIT (R115). -/
def ptrVote (a b c : Option (Nat × Nat)) : Nat × Nat × Bool × Bool :=
  match a, b, c with
  | some x, some y, z =>
    if x = y then (x.1, x.2, z != some x, false)
    else if z = some x then (x.1, x.2, true, false)
    else if z = some y then (y.1, y.2, true, false)
    else (0, 0, false, true)
  | some x, none, z => if z = some x then (x.1, x.2, true, false) else (0, 0, false, true)
  | none, some y, z => if z = some y then (y.1, y.2, true, false) else (0, 0, false, true)
  | none, none, _ => (0, 0, false, true)

/-- Read the boot-slot pointer into PLAT_BOOT: its full generation and the state. -/
def State.readPointer (s : State) : Nat × State :=
  let (a, s1) := s.memRead (ptrAddr 0)
  let (b, s2) := s1.memRead (ptrAddr 1)
  let (c, s3) := s2.memRead (ptrAddr 2)
  let (slot, gen, odd, split) := ptrVote (ptrValid a) (ptrValid b) (ptrValid c)
  (gen, (((s3.wr PLAT_BOOT_SLOT slot).wr PLAT_BOOT_GEN gen).wr PLAT_BOOT_ODD (b2n odd)).wr PLAT_BOOT_SPLIT (b2n split))

/-- The NV controller writes one word for the loader (R116, R117). -/
def State.nvPut (s : State) (a v : Nat) : State :=
  let s1 := if s.usable 6 then s.memPut a v else s
  s1.emit (.nvWord a)

/-- Write consecutive words through the NV controller. -/
def State.nvPuts (s : State) (a : Nat) : List Nat → State
  | [] => s
  | v :: t => (s.nvPut a v).nvPuts (a + 8) t

/-- Set A_OK or B_OK. -/
def State.slotOk (s : State) (x : Nat) (good : Bool) : State :=
  if x = 0 then s.wr PLAT_BOOT_A_OK (b2n good) else s.wr PLAT_BOOT_B_OK (b2n good)

/-- Parse slot `x` (R101): its outcome sets A_OK or B_OK. -/
def State.parseSlot (s : State) (x : Nat) : (Nat ⊕ Parsed) × State :=
  let (r, s1) := s.parseAt (slotBase x) 0x400000
  (r, s1.slotOk x r.isRight)

/-- Report an image rejected as a whole (R93). -/
def State.rejectImage (s : State) (seq reason : Nat) : State :=
  (s.reportOne (entry seq 0 0xFFFF 0xFF reason 0 0)).raise 5 1

/-! ## Host commands (R101, R102) -/

/-- A command ends: RESULT, BUSY 0, DONE (R103, R104). -/
def State.platDone (s : State) (result : Nat) : State :=
  (((s.wr PLAT_STAT_RESULT result).wr PLAT_STAT_BUSY 0).wr PLAT_STAT_PHASE 0).raise 5 0

/-- Does the command read the host image? -/
def readsHost (op : Nat) : Bool := decide (1 ≤ op) && decide (op ≤ 5)

/-- Does the command need the key (R102)? -/
def needsKey (op : Nat) : Bool := op == 1 || (decide (4 ≤ op) && decide (op ≤ 7))

/-- The cause for which a command is refused, 0 for none; the first of R102's table. -/
def State.platCause (s : State) (v : Nat) : Nat :=
  let op := bitsOf v 3 0
  let src := s.rd PLAT_SRC_ADDR
  let len := s.rd PLAT_LEN_LEN
  if s.rd PLAT_STAT_BUSY = 1 then 1
  else if needsKey op && bitsOf v 31 16 != 0x7C1A then 2
  else if readsHost op && (src % 8 != 0 || decide (src < 0x1000000) || decide (0x1800000 < src + len)) then 3
  else if readsHost op && (len == 0 || decide (4194304 < len)) then 4
  else if op = 0 || 9 < op then 5
  else if op = 2 && s.unplatted then 6
  else 0

/-- A refused command (R102). -/
def State.platRefuse (s : State) (cause : Nat) : State :=
  ((s.inc PLAT_CMDERR_COUNT 1).wr PLAT_CMDERR_LAST cause).raise 5 6

/-- An accepted command clears the report and takes the next sequence number (R102). -/
def State.platAccept (s : State) : Nat × State :=
  let q := (s.rd PLAT_SEQ_LAST + 1) % 65536
  (q, s.reportClear.wr PLAT_SEQ_LAST q)

/-- Parse the host image. -/
def State.parseHost (s : State) : (Nat ⊕ Parsed) × State := s.parseAt (s.rd PLAT_SRC_ADDR) (s.rd PLAT_LEN_LEN)

/-- LOAD: parse, check and clamp; the staged configuration waits for COMMIT with BUSY 1 (R92, R100). -/
def State.platLoad (s : State) (q : Nat) : State :=
  let (r, s1) := s.parseHost
  match r with
  | .inl why => (s1.rejectImage q why).platDone 3
  | .inr p =>
    let (st, e) := s1.checkFull q 3 p
    let s2 := s1.reportAll e
    (({ s2 with loader := { s2.loader with staged := some st } }).wr PLAT_STAT_BUSY 1).wr PLAT_STAT_PHASE 3

/-- Result 1 or 2 by whether the report has entries. -/
def State.acceptedResult (s : State) : Nat := if s.rd PLAT_REPORT_COUNT_COUNT = 0 then 1 else 2

/-- AMEND: fills run at once, then the amendments are queued (R108, R113). -/
def State.platAmend (s : State) (q : Nat) : State :=
  let (r, s1) := s.parseHost
  match r with
  | .inl why => (s1.rejectImage q why).platDone 3
  | .inr p =>
    let (fills, am, e) := s1.checkAmendLoad q p
    let s2 := ((s1.reportAll e).runFills fills).queueAmends am
    s2.platDone s2.acceptedResult

/-- CHECK: nothing is committed (R101). -/
def State.platCheck (s : State) (q : Nat) : State :=
  let (r, s1) := s.parseHost
  match r with
  | .inl why => (s1.rejectImage q why).platDone 3
  | .inr p => (s1.reportAll (s1.checkFull q 3 p).2).platDone 4

/-- VERIFY_x (R101). -/
def State.platVerify (s : State) (q x : Nat) : State :=
  let (r, s1) := s.parseSlot x
  match r with
  | .inl why => (s1.rejectImage q why).platDone 6
  | .inr _ => s1.platDone 5

/-- The 64-bit words of a byte string, the last padded with zeros. -/
def dwordsOf (b : List Nat) : List Nat := (List.range ((b.length + 7) / 8)).map (fun k => leAt b (8 * k) 8)

/-- PROGRAM_x (R116): parse the host image, write the header word as zero, bytes 8 up to LENGTH, then bytes
0 to 7, and read the slot back. -/
def State.platProgram (s : State) (q x : Nat) : State :=
  let (r, s1) := s.parseHost
  match r with
  | .inl why => (s1.rejectImage q why).platDone 6
  | .inr p =>
    let ws := dwordsOf p.bytes
    let b := slotBase x
    let s2 := ((s1.nvPut b 0).nvPuts (b + 8) (ws.drop 1)).nvPut b (ws.headD 0)
    s2.platVerify q x

/-- BOOT_x (R117): verify, then rewrite the three copies with the next generation. -/
def State.platBoot (s : State) (q x : Nat) : State :=
  let (r, s1) := s.parseSlot x
  match r with
  | .inl why => (s1.rejectImage q why).platDone 6
  | .inr _ =>
    let (gen, s2) := s1.readPointer
    let w := ptrWord x (gen + 1)
    let s3 := ((s2.nvPut (ptrAddr 0) w).nvPut (ptrAddr 1) w).nvPut (ptrAddr 2) w
    let s4 := ((s3.wr PLAT_BOOT_SLOT x).wr PLAT_BOOT_GEN (gen + 1)).wr PLAT_BOOT_ODD 0
    (s4.wr PLAT_BOOT_SPLIT 0).platDone 5

/-- A write of `v` to PLAT_CMD (R101, R102). -/
def State.platCommand (s : State) (v : Nat) : State :=
  let c := s.platCause v
  if c ≠ 0 then s.platRefuse c
  else
    let (q, s1) := s.platAccept
    match bitsOf v 3 0 with
    | 1 => s1.platLoad q
    | 2 => s1.platAmend q
    | 3 => s1.platCheck q
    | 4 => s1.platProgram q 0
    | 5 => s1.platProgram q 1
    | 6 => s1.platBoot q 0
    | 7 => s1.platBoot q 1
    | 8 => s1.platVerify q 0
    | _ => s1.platVerify q 1

/-- The word that a command of operation `op` with key `key` writes. -/
def platWord (key : BitVec 16) (op : Nat) : Nat := key.toNat * 65536 + op

/-- LOAD (R101, R92). -/
def execLoad (key : BitVec 16) (s : State) : Host.Outcome State Fault Refusal := s.powered <| ok (s.platCommand (platWord key 1))

/-- AMEND (R101, R108). -/
def execAmend (key : BitVec 16) (s : State) : Host.Outcome State Fault Refusal := s.powered <| ok (s.platCommand (platWord key 2))

/-- CHECK (R101). -/
def execCheck (key : BitVec 16) (s : State) : Host.Outcome State Fault Refusal := s.powered <| ok (s.platCommand (platWord key 3))

/-- PROGRAM_A (R116). -/
def execProgramA (key : BitVec 16) (s : State) : Host.Outcome State Fault Refusal := s.powered <|
  ok (s.platCommand (platWord key 4))

/-- PROGRAM_B (R116). -/
def execProgramB (key : BitVec 16) (s : State) : Host.Outcome State Fault Refusal := s.powered <|
  ok (s.platCommand (platWord key 5))

/-- BOOT_A (R117). -/
def execBootA (key : BitVec 16) (s : State) : Host.Outcome State Fault Refusal := s.powered <| ok (s.platCommand (platWord key 6))

/-- BOOT_B (R117). -/
def execBootB (key : BitVec 16) (s : State) : Host.Outcome State Fault Refusal := s.powered <| ok (s.platCommand (platWord key 7))

/-- VERIFY_A (R101). -/
def execVerifyA (key : BitVec 16) (s : State) : Host.Outcome State Fault Refusal := s.powered <|
  ok (s.platCommand (platWord key 8))

/-- VERIFY_B (R101). -/
def execVerifyB (key : BitVec 16) (s : State) : Host.Outcome State Fault Refusal := s.powered <|
  ok (s.platCommand (platWord key 9))

/-- OP_UNDEFINED (R102): a write to PLAT_CMD whose operation is undefined; a defined one has a row of its
own and changes nothing here. -/
def execOpUndefined (value : Word) (s : State) : Host.Outcome State Fault Refusal := s.powered <|
  let op := bitsOf value.toNat 3 0
  if op = 0 || 9 < op then ok (s.platCommand value.toNat) else ok s

/-- PLAT_REPORT_WINDOW: word `w` of the selected page's entries (R103, R105). -/
def State.reportWord (s : State) (w : Nat) : Nat :=
  match s.loader.report[256 * s.rd PLAT_REPORT_PAGE_PAGE + w / 4]? with
  | none => 0
  | some e =>
    match w % 4 with
    | 0 => e.sect % 65536 + e.recIx % 65536 * 65536
    | 1 => e.field % 256 + e.reason * 256 + e.seq * 65536
    | 2 => e.req
    | _ => e.app

end Sys2Proof.Machine
end

