-- ==== Sys2Proof/Machine/Loops.lean ====
section
/-! DEFINITION. Loop stations: ramp, loop computation, back-calculation, bumpless re-entry, groups, cascades and
sinks (spec/11_loop_stations.md). -/

namespace Sys2Proof.Machine

open Sys2Proof

/-! ## State parts -/

/-- Change loop `n`. -/
def State.loopM (s : State) (n : Nat) (f : LoopSt → LoopSt) : State := { s with loops := listMod s.loops n f }

/-- Loop `n`. -/
def State.loop (s : State) (n : Nat) : LoopSt := listAt s.loops n {}

/-- The committed LOOP record of loop `n`. -/
def State.loopRec (s : State) (n : Nat) : Option CfgRec := s.crec C_LOOP_LOOP n

/-- Is loop `n` enabled? -/
def State.loopEn (s : State) (n : Nat) : Bool :=
  (s.loopRec n).isSome && bitAt (s.rd (if n < 32 then LOOP_CTRL0_EN else LOOP_CTRL1_EN)) (n % 32)

/-- The record that gives a loop its grid and its sink (R367, R384): its GROUP's, or its own. -/
def State.loopHead (s : State) (r : CfgRec) : CfgRec :=
  if r.v C_LOOP_GROUP = 255 then r else (s.crec C_GROUP_GROUP (r.v C_LOOP_GROUP)).getD r

/-- PERIOD in µs of a grid record. -/
def headPeriod (h : CfgRec) : Nat := max 1 (if h.kind = 0 then h.v C_LOOP_PERIOD else h.v C_GROUP_PERIOD)

/-- PHASE in µs of a grid record. -/
def headPhase (h : CfgRec) : Nat := if h.kind = 0 then h.v C_LOOP_PHASE else h.v C_GROUP_PHASE

/-- Sink kind and index of a grid record (R384). -/
def headSink (h : CfgRec) : Nat × Nat :=
  if h.kind = 0 then (h.v C_LOOP_SINK_KIND, h.v C_LOOP_SINK_INDEX) else (h.v C_GROUP_SINK_KIND, h.v C_GROUP_SINK_INDEX)

/-- The loops that sample together with loop `n` (R377): its group, or itself. -/
def State.loopPeers (s : State) (n : Nat) (r : CfgRec) : List Nat :=
  if r.v C_LOOP_GROUP = 255 then [n]
  else (List.range 64).filter (fun m =>
    match s.loopRec m with
    | some q => q.v C_LOOP_GROUP == r.v C_LOOP_GROUP
    | none => false)

/-- A sticky flag of LOOP_STAT sets with its event (R389). -/
def State.loopStick (s : State) (f : Fld) (n evt : Nat) (c : Bool) : State :=
  if c then
    let w := if n < 32 then LOOP_FLAGGED0_LOOP else LOOP_FLAGGED1_LOOP
    ((s.wri f n 1).wr w (setBit (s.rd w) (n % 32) true)).raiseIf (s.rdi f n == 0) 20 evt
  else s

/-! ## Inputs and target (R370 to R372) -/

/-- An input of a loop in binary32, `none` when bad (R371). -/
def State.loopIn (s : State) (n port : Nat) : Option FV :=
  match s.routeIn 2 n port with
  | some (e, false) =>
    let v := ofB32 (toB32 e.num)
    if v.isFin then some v else none
  | _ => none

/-- The loop whose endpoint carries the target of inner loop `n` (R383). -/
def State.outerOf (s : State) (n : Nat) : Option Nat :=
  (List.range 64).find? (fun m =>
    match s.loopRec m with
    | some q => headSink (s.loopHead q) == (3, n)
    | none => false)

/-- The target before its limits, `none` when it has no good source now (R371, R372, R383). -/
def State.loopTarget (s : State) (n : Nat) (r : CfgRec) : Option FV :=
  match r.v C_LOOP_SP_SRC with
  | 0 => some (ofB32 (r.v C_LOOP_SP_CONST))
  | 1 => some (ofB32 (s.rdi LOOP_SP_SP n))
  | 2 => s.loopIn n 1
  | _ => (s.outerOf n).bind (fun m => (s.elem (96 + m)).map (fun e => ofB32 e.val))

/-- A value limited to two fields of a record. -/
def limRec (r : CfgRec) (lo hi : CRef) (x : FV) : FV := FV.lim (ofB32 (r.v lo)) (ofB32 (r.v hi)) x

/-! ## Ramp (R373) -/

/-- Sign of a datum as +1, −1 or 0. -/
def signFV (x : FV) : FV := if FV.zero.lt x then FV.ofInt 1 else if x.lt FV.zero then FV.ofInt (-1) else FV.zero

/-- One step of the ramp generator: set-point, velocity, OVERTRAVEL. -/
def ramp (rec0 : CfgRec) (t g r0 v0 : FV) : FV × FV × Bool :=
  let vmax := ofB32 (rec0.v C_LOOP_VMAX)
  let amax := ofB32 (rec0.v C_LOOP_AMAX)
  let hasV := FV.zero.lt vmax
  let hasA := FV.zero.lt amax
  let m := FV.mul f32
  let dist := FV.sub f32 g r0
  let next : FV × FV :=
    if !hasV && !hasA then (g, .zero)
    else
      let v1 := if rec0.v C_LOOP_HARD_REV = 1 && (m v0 dist).lt .zero then FV.zero else v0
      let at_ := m amax t
      let vd0 := FV.div f32 dist t
      let root := (m (m (FV.ofInt 2) amax) dist.abs).sqrt f32
      let vd1 := if hasA then m (signFV dist) (vd0.abs.minV root) else vd0
      let vd := if hasV then FV.lim vmax.neg vmax vd1 else vd1
      let v2 := if hasA then FV.add f32 v1 (FV.lim at_.neg at_ (FV.sub f32 vd v1)) else vd
      let r1 := FV.add f32 r0 (m v2 t)
      let near := (FV.sub f32 g r1).abs.le (m (m (m (.fin false 1 (-1)) amax) t) t)
      if hasA && near && v2.abs.le at_ then (g, .zero) else (r1, v2)
  let away := (m next.2 (FV.sub f32 g next.1)).lt .zero
  (next.1, next.2, !(next.2.eqv .zero) && away)

/-! ## Filters (R375, R376) -/

/-- One biquad section in binary32: output and states. -/
def bq32 (b0 b1 b2 a1 a2 x s1 s2 : FV) : FV × FV × FV :=
  let m := FV.mul f32
  let y := FV.add f32 (m b0 x) s1
  (y, FV.add f32 (FV.sub f32 (m b1 x) (m a1 y)) s2, FV.sub f32 (m b2 x) (m a2 y))

/-- Both sections: output and states (codes); a disabled section passes its input. -/
def loopFilter (r : CfgRec) (st : List Nat) (x : FV) : FV × List Nat :=
  let f (c : CRef) : FV := ofB32 (r.v c)
  let s (k : Nat) : FV := ofB32 (listAt st k 0)
  let en (k : Nat) : Bool := bitAt (r.v C_LOOP_BQ_EN) k
  let p := if en 0 then
      bq32 (f C_LOOP_BQ1_B0) (f C_LOOP_BQ1_B1) (f C_LOOP_BQ1_B2) (f C_LOOP_BQ1_A1) (f C_LOOP_BQ1_A2) x (s 0) (s 1)
    else (x, s 0, s 1)
  let q := if en 1 then
      bq32 (f C_LOOP_BQ2_B0) (f C_LOOP_BQ2_B1) (f C_LOOP_BQ2_B2) (f C_LOOP_BQ2_A1) (f C_LOOP_BQ2_A2) p.1 (s 2) (s 3)
    else (p.1, s 2, s 3)
  (q.1, [toB32 p.2.1, toB32 p.2.2, toB32 q.2.1, toB32 q.2.2])

/-- G0 (R376). -/
def loopG0 (r : CfgRec) : FV :=
  let a := if bitAt (r.v C_LOOP_BQ_EN) 0 then ofB32 (r.v C_LOOP_BQ1_B0) else FV.ofInt 1
  if bitAt (r.v C_LOOP_BQ_EN) 1 then FV.mul f32 a (ofB32 (r.v C_LOOP_BQ2_B0)) else a

/-- The feed-forward term (R371, R375): FF_GAIN × ff + FF_OFFSET after the filter output `w`. -/
def loopOut (r : CfgRec) (w ff : FV) : FV :=
  FV.add f32 (FV.add f32 w (FV.mul f32 (ofB32 (r.v C_LOOP_FF_GAIN)) ff)) (ofB32 (r.v C_LOOP_FF_OFFSET))

/-- The rate limit about the previous output (R375): value, and whether it was limited. -/
def rateLim (r : CfgRec) (t uP c : FV) : FV × Bool :=
  let rl := ofB32 (r.v C_LOOP_RATE_LIM)
  if FV.zero.lt rl then
    let w := FV.mul f32 rl t
    let x := FV.lim (FV.sub f32 uP w) (FV.add f32 uP w) c
    (x, !x.eqv c)
  else (c, false)

/-! ## One loop's computation (R375, R379 to R383, R387) -/

/-- What a loop computes in a sample before the group's output is known: its state so far, the candidate (`none` when
it takes no part), the output it would apply by itself, the values that back-calculation needs, what its status
register reads, the numeric fault. -/
structure LoopCalc where
  n : Nat
  r : CfgRec
  st : LoopSt
  cand : Option FV := none
  own : FV := .zero
  good : Bool := false
  p : FV := .zero
  v : FV := .zero
  exact : Option FV := none
  manual : Bool := false
  y : Nat := 0
  stat : Nat := 0
  numeric : Bool := false
  failman : Bool := false

/-- A bumpless re-entry (R379). -/
def loopReenter (r : CfgRec) (x : LoopSt) : LoopSt :=
  let sum := FV.add f32 (FV.add f32 (FV.mul f32 (ofB32 (r.v C_LOOP_KP)) (ofB32 x.eP)) (ofB32 x.i)) (ofB32 x.d)
  let v0 := loopOut r (loopFilter r x.bq sum).1 (ofB32 x.fP)
  let u0 := limRec r C_LOOP_LIM_LO C_LOOP_LIM_HI (ofB32 x.uP)
  { x with i := toB32 (FV.add f32 (ofB32 x.i) (FV.div f32 (FV.sub f32 u0 v0) (loopG0 r))), bump := false }

/-- Is a loop of the sink group of loop `n` overridden (R382): an analogue or field output routed from the endpoint of
any of `peers` is held by rank 1, 2 or 3? -/
def State.loopHeld (s : State) (peers : List Nat) : Bool :=
  s.loader.recs.any (fun r => r.sect == 0x50 && r.v C_ROUTE_DEST_KIND == 0 &&
    peers.any (fun m => r.v C_ROUTE_SOURCE == 96 + m) &&
    ((decide (416 ≤ r.v C_ROUTE_DEST) && decide (r.v C_ROUTE_DEST < 424) && s.aoutHeld (r.v C_ROUTE_DEST - 416)) ||
     (decide (432 ≤ r.v C_ROUTE_DEST) && decide (r.v C_ROUTE_DEST < 480) && s.dioHeld (r.v C_ROUTE_DEST - 432))))

/-- Is the inner loop in manual, overridden or PV_BAD (R383)? -/
def State.innerOff (s : State) (m : Nat) : Bool :=
  s.rdi LOOP_MODE_MANUAL m == 1 || s.rdi LOOP_STAT_OVERRIDE m == 1 || s.rdi LOOP_STAT_PV_BAD m == 1

/-- Is an outer loop's integration held by its inner loop (R383)? `ke` is KI × e of the outer. -/
def State.cascHold (s : State) (m : Nat) (ke : FV) : Bool :=
  match s.loopRec m with
  | none => false
  | some q =>
    let kp := signFV (ofB32 (q.v C_LOOP_KP))
    let s0 := if kp.eqv .zero then signFV (ofB32 (q.v C_LOOP_KI)) else kp
    let s1 := if q.v C_LOOP_ACTION = 1 then s0.neg else s0
    let k := FV.mul f32 s1 ke
    s.innerOff m || (s.rdi LOOP_STAT_LIMIT_HI m == 1 && FV.zero.lt k) || (s.rdi LOOP_STAT_LIMIT_LO m == 1 && k.lt .zero)

/-- The status bits 14 to 6 of LOOP_STAT as numbers. -/
def statBits (casc ovr away rate hi lo ff sp pv : Bool) : Nat :=
  16384 * b2n casc + 8192 * b2n ovr + 4096 * b2n away + 2048 * b2n rate + 1024 * b2n hi + 512 * b2n lo + 256 * b2n ff +
    128 * b2n sp + 64 * b2n pv

/-- One loop of a sample, up to its candidate. -/
def State.loopCalc (s : State) (n : Nat) (r : CfgRec) (t : FV) (held : Bool) : LoopCalc :=
  let x0 := s.loop n
  let f (c : CRef) : FV := ofB32 (r.v c)
  let m := FV.mul f32
  let man0 := s.rdi LOOP_MODE_MANUAL n == 1
  let yIn := s.loopIn n 0
  let raw := match s.routeIn 2 n 0 with
    | some (e, _) => toB32 e.num
    | none => 0
  let tg := s.loopTarget n r
  let g := match tg with
    | some x => limRec r C_LOOP_SP_LO C_LOOP_SP_HI x
    | none => ofB32 x0.g
  let spBad := r.v C_LOOP_SP_SRC == 2 && tg.isNone
  let ffIn := s.loopIn n 2
  let ffUse := !(f C_LOOP_FF_GAIN).eqv .zero
  let ffMiss := ffUse && ffIn.isNone
  let ff := if ffUse then ffIn.getD .zero else .zero
  let bump0 := x0.bump || (x0.man && !man0) || (x0.ovr && !held)
  let x1 : LoopSt := { x0 with g := toB32 g, bump := bump0, ovr := held }
  let x2 : LoopSt := match yIn with
    | some y => if x1.rSet then x1 else { x1 with r := toB32 y, rSet := true }
    | none => x1
  let track := man0 && r.v C_LOOP_PV_TRACK == 1
  let rv : FV × FV × Bool := match track, yIn with
    | true, some y => (y, .zero, false)
    | _, _ => if x2.rSet then ramp r t g (ofB32 x2.r) (ofB32 x2.v) else (.zero, .zero, false)
  let x3 : LoopSt := { x2 with r := toB32 rv.1, v := toB32 rv.2.1 }
  let uP := ofB32 x0.uP
  let manOut (man : Nat) : FV × Bool := rateLim r t uP (limRec r C_LOOP_LIM_LO C_LOOP_LIM_HI (ofB32 man))
  match yIn with
  | none =>
    let fail := r.v C_LOOP_PV_FAIL == 2 && !man0
    let man := man0 || fail
    let out := if man then manOut (if fail then x0.uP else s.rdi LOOP_MAN_VALUE n)
      else if r.v C_LOOP_PV_FAIL = 1 then rateLim r t uP (limRec r C_LOOP_LIM_LO C_LOOP_LIM_HI (f C_LOOP_FAIL_OUT))
      else (uP, false)
    let x4 : LoopSt := { x3 with first := true, bump := x3.bump || r.v C_LOOP_PV_FAIL != 2, man := man }
    { n, r, st := x4, own := out.1, manual := man, y := raw, failman := fail
      stat := statBits false held rv.2.2 out.2 false false ffMiss spBad true }
  | some y =>
    let x4 := if x3.bump && !held then loopReenter r x3 else x3
    let e := if r.v C_LOOP_ACTION = 0 then FV.sub f32 rv.1 y else FV.sub f32 y rv.1
    let p := m (f C_LOOP_KP) e
    let sink := headSink (s.loopHead r)
    let hold := sink.1 == 3 && s.cascHold sink.2 (m (f C_LOOP_KI) e)
    let off := sink.1 == 3 && s.innerOff sink.2
    let i := if hold then ofB32 x4.i else FV.add f32 (ofB32 x4.i) (m (m (f C_LOOP_KI) t) e)
    let dy := FV.sub f32 y (ofB32 x4.yP)
    let de := if x4.first then FV.zero
      else if r.v C_LOOP_DMODE = 1 then FV.sub f32 e (ofB32 x4.eP)
      else if r.v C_LOOP_ACTION = 0 then dy.neg else dy
    let d := FV.div f32 (FV.add f32 (m (f C_LOOP_TF) (ofB32 x4.d)) (m (f C_LOOP_KD) de)) (FV.add f32 (f C_LOOP_TF) t)
    let w := loopFilter r x4.bq (FV.add f32 (FV.add f32 p i) d)
    let v := loopOut r w.1 ff
    if !v.isFin then
      let z : LoopSt := { x0 with i := 0, d := 0, bq := [0, 0, 0, 0], bump := true, ovr := held, man := man0 }
      { n, r, st := z, own := uP, manual := man0, y := raw, numeric := true
        stat := statBits hold held rv.2.2 false false false ffMiss spBad false }
    else
      let c0 := limRec r C_LOOP_LIM_LO C_LOOP_LIM_HI v
      let lo := v.lt (f C_LOOP_LIM_LO)
      let hi := (f C_LOOP_LIM_HI).lt v
      let cr := if man0 then manOut (s.rdi LOOP_MAN_VALUE n) else rateLim r t uP c0
      let x5 : LoopSt := { x4 with
        i := toB32 i, d := toB32 d, eP := toB32 e, yP := toB32 y, fP := toB32 ff, first := false, man := man0 }
      { n, r, st := { x5 with bq := w.2 }, cand := some cr.1, own := cr.1, good := true, p := p, v := v
        exact := if off then (s.loopRec sink.2).map (fun _ => ofB32 (s.loop sink.2).r) else none
        manual := man0, y := raw, stat := statBits hold held rv.2.2 cr.2 hi lo ffMiss spBad false }

/-- Back-calculation to the applied output (R378, R380, R382, R383); `before` holds the biquad states of the sample's
start. -/
def loopBack (c : LoopCalc) (before : List Nat) (t u : FV) (held : Bool) : LoopSt :=
  let aim := c.exact.getD u
  if !c.good || c.v.eqv aim then c.st
  else
    let tt := ofB32 (c.r.v C_LOOP_TT)
    let tgt := if tt.eqv .zero || held || c.manual || c.exact.isSome then aim
      else FV.add f32 c.v (FV.mul f32 (FV.sub f32 aim c.v) ((FV.ofInt 1).minV (FV.div f32 t tt)))
    let i := FV.add f32 (ofB32 c.st.i) (FV.div f32 (FV.sub f32 tgt c.v) (loopG0 c.r))
    let w := loopFilter c.r before (FV.add f32 (FV.add f32 c.p i) (ofB32 c.st.d))
    { c.st with i := toB32 i, bq := w.2 }

/-! ## Publication (R377, R384) -/

/-- A loop takes the applied output: state, registers, sticky flags and events. -/
def State.loopPost (s : State) (c : LoopCalc) (before : List Nat) (t u : FV) (held sel : Bool) (el : Nat) : State :=
  let code := toB32 u
  let x1 : LoopSt := { loopBack c before t u held with uP := code, last := el, ran := true }
  let x := s.loopM c.n (fun _ => x1)
  let gr := if c.r.v C_LOOP_GROUP = 255 then 0x1F else c.r.v C_LOOP_GROUP
  let sticky := s.reg (LOOP_STAT_GROUP.addr c.n 0) / 2 ^ 24 * 2 ^ 24
  let s1 := x.setReg (LOOP_STAT_GROUP.addr c.n 0) (sticky + c.stat + 32768 * b2n sel + gr)
  let s2 := (((s1.wri LOOP_OUT_VALUE c.n code).wri LOOP_CAND_VALUE c.n (toB32 (c.cand.getD u))).wri LOOP_PV_VALUE c.n c.y).wri
    LOOP_RSP_VALUE c.n x1.r
  let s3 := (s2.wri LOOP_INT_VALUE c.n x1.i).wrapi LOOP_SEQ_COUNT c.n 1
  let s4 := if c.failman then (s3.wri LOOP_MODE_MANUAL c.n 1).wri LOOP_MAN_VALUE c.n (s.loop c.n).uP
    else if c.manual then s3 else s3.wri LOOP_MAN_VALUE c.n code
  let s5 := if c.numeric then (s4.wr LOOP_NUMERR_LAST c.n).inc LOOP_NUMERR_COUNT 1 else s4
  let b (k : Nat) : Bool := bitAt c.stat k
  let s6 := ((s5.loopStick LOOP_STAT_PV_BAD_S c.n 0 (b 6)).loopStick LOOP_STAT_SP_BAD_S c.n 1 (b 7)).loopStick
    LOOP_STAT_LIMIT_S c.n 2 (b 9 || b 10)
  let s7 := ((s6.loopStick LOOP_STAT_OVERTRAVEL_S c.n 3 (b 12)).loopStick LOOP_STAT_FAILMAN_S c.n 4 c.failman).loopStick
    LOOP_STAT_OVERRIDE_S c.n 6 (b 13)
  s7.loopStick LOOP_STAT_NUMERIC_S c.n 7 c.numeric

/-- The value that a sink of kind 1 or 2 sees (R384): present only while its loop produces. -/
def State.loopSinkSet (s : State) (sink : Nat × Nat) (v : Option Nat) : State :=
  if sink.1 = 1 || sink.1 = 2 then
    match v with
    | some c => { s with sinks := assocPut s.sinks (256 * sink.1 + sink.2) c }
    | none => { s with sinks := assocDel s.sinks (256 * sink.1 + sink.2) }
  else s

/-- The selected member (R377): the smallest candidate, ties to the lower loop. -/
def loopSelect (l : List LoopCalc) : Option (FV × Nat) :=
  l.foldl (fun a c =>
    match a, c.cand with
    | none, some x => some (x, c.n)
    | some (y, m), some x => if x.lt y then some (x, c.n) else some (y, m)
    | a, none => a) none

/-- The group's registers after a sample: VALID, SEL, SWITCHES and SELECT (R377). -/
def State.groupShow (s : State) (g : Nat) (sel : Option (FV × Nat)) (had : Bool) : State :=
  match sel with
  | some (_, m) =>
    let s1 := (s.wri LOOP_GRP_VALID g 1).wri LOOP_GRP_SEL g m
    if had && s.rdi LOOP_GRP_SEL g != m then
      (s1.inci LOOP_GRP_SWITCHES g 1).raise 20 5
    else s1
  | none => s.wri LOOP_GRP_VALID g 0

/-- The LOOP message of the tie link (R485): index, u, r, v, i, d, biquad states, 8 bytes 0. -/
def State.loopMsg (s : State) (n : Nat) : List Nat :=
  let x := s.loop n
  ([n, x.uP, x.r, x.v, x.i, x.d] ++ x.bq ++ [0, 0]).flatMap (leBytes 4)

/-- A sample of the loops `peers` at grid time `tk` (elapsed `el`). A hot standby applies the mirrored output with exact
back-calculation and compares its own; a primary sends its state (R485, R489, R490). -/
def State.loopRun (s : State) (peers : List Nat) (r : CfgRec) (tk el : Nat) : State :=
  let head := s.loopHead r
  let t := FV.div f32 (FV.ofInt (headPeriod head)) (FV.ofInt 1000000)
  let held := s.loopHeld peers
  let live := peers.filter s.loopEn
  let calcs := live.filterMap (fun m => (s.loopRec m).map (fun q => s.loopCalc m q t held))
  let grouped := r.v C_LOOP_GROUP != 255
  let sel := if grouped then loopSelect calcs else none
  let uOld := match live with
    | m :: _ => ofB32 (s.loop m).uP
    | [] => FV.zero
  let mir := live.findSome? (fun m => s.mirroredU m)
  let u := if held then uOld
    else if mir.isSome then ofB32 (mir.getD 0)
    else if grouped then (sel.map (fun p => p.1)).getD uOld
    else match calcs with
      | c :: _ => c.own
      | [] => uOld
  let makes := !grouped || held || sel.isSome || mir.isSome
  let who := if held then none else sel.map (fun p => p.2)
  let s1 := if grouped then s.groupShow (r.v C_LOOP_GROUP) (if held then (sel.map (fun p =>
      (p.1, s.rdi LOOP_GRP_SEL (r.v C_LOOP_GROUP)))) else sel) (peers.any (fun m => (s.loop m).ran)) else s
  let s2 := calcs.foldl (fun x c => ((x.pairLoop c.n c.r (c.cand.getD c.own)).loopPost c (s.loop c.n).bq t u (held || mir.isSome)
    (who == some c.n || (held && s.rdi LOOP_STAT_SELECTED c.n == 1)) el)) s1
  let s3 := calcs.foldl (fun x c => x.tieSend 3 1 (x.loopMsg c.n)) s2
  if makes then
    (live.foldl (fun x m => x.produce (96 + m) (toB32 u) 0 tk) s3).loopSinkSet (headSink head) (some (toB32 u))
  else s3.loopSinkSet (headSink head) none

/-- LOOP_SAMPLE (R367, R369, R375 to R387): the loop, with its group, samples at the newest instant of its grid, when
that came at least half a PERIOD of elapsed time after its last sample. -/
def execLoopSample (loop : Fin 64) (s : State) : Host.Outcome State Fault Refusal := s.powered <|
  let n := loop.val
  match s.loopRec n with
  | none => ok s
  | some r =>
    let head := s.loopHead r
    let p := headPeriod head * 1000
    let ph := headPhase head * 1000
    if !s.loopEn n || decide (s.clk.now < ph) || s.warmStandby then ok s
    else
      let tk := (s.clk.now - ph) / p * p + ph
      let el := s.clk.el - (s.clk.now - tk)
      let x := s.loop n
      let due := if x.ran then x.last + p / 2 ≤ el else x.last ≤ el && s.clk.now - tk ≤ s.clk.el
      if due then ok (s.loopRun (s.loopPeers n r) r tk el) else ok s

/-! ## Enables, the image, amendments, a step -/

/-- Loop `n` starts as after a unit reset (R374, R390): registers at image values, states zero. -/
def State.loopStart (s : State) (n : Nat) : State :=
  match s.loopRec n with
  | none => s
  | some r =>
    let init := r.v C_LOOP_INIT_OUT
    let x : LoopSt :=
      { r := if r.v C_LOOP_SP_INIT = 0 then r.v C_LOOP_SP_CONST else 0
        rSet := r.v C_LOOP_SP_INIT == 0
        g := r.v C_LOOP_SP_CONST
        uP := init
        last := s.clk.el }
    let s1 := ((s.wri LOOP_MODE_MANUAL n (r.v C_LOOP_MAN_INIT)).wri LOOP_SP_SP n (r.v C_LOOP_SP_CONST)).wri LOOP_MAN_VALUE n init
    let s2 := s1.wri LOOP_INT_VALUE n 0
    (if x.rSet then s2.wri LOOP_RSP_VALUE n x.r else s2).loopM n (fun _ => x)

/-- Is no loop of the sink's record left running? -/
def State.sinkIdle (s : State) (n : Nat) : State :=
  match s.loopRec n with
  | none => s
  | some r => if (s.loopPeers n r).any s.loopEn then s else s.loopSinkSet (headSink (s.loopHead r)) none

/-- LOOP_CTRL word `i` becomes `v`. -/
def State.loopEnable (s : State) (i v : Nat) : State :=
  let f := if i = 0 then LOOP_CTRL0_EN else LOOP_CTRL1_EN
  let was := s.rd f
  (List.range 32).foldl (fun t b =>
    let n := 32 * i + b
    if bitAt v b && !bitAt was b then t.loopStart n else if bitAt was b && !bitAt v b then t.sinkIdle n else t) (s.wr f v)

/-- A LOOP unit reset (R390), and the loops' start at commit: sticky flags and counters stay. -/
def State.loopReset (s : State) : State :=
  let en (i : Nat) : Nat := ((List.range 32).map (fun b =>
    match s.loopRec (32 * i + b) with
    | some r => if r.v C_LOOP_EN = 1 then 2 ^ b else 0
    | none => 0)).sum
  let s1 := (s.wr LOOP_CTRL0_EN (en 0)).wr LOOP_CTRL1_EN (en 1)
  (List.range 64).foldl (fun t n => t.loopStart n) { s1 with sinks := [] }

/-- What a commit shows in the registers beside (R377, R384): group numbers, members, values of a loop not sampled. -/
def State.loopCommit (s : State) : State :=
  let s1 := (List.range 64).foldl (fun t n =>
    let g := match t.loopRec n with
      | some r => if r.v C_LOOP_GROUP = 255 then 0x1F else r.v C_LOOP_GROUP
      | none => 0x1F
    t.setReg (LOOP_STAT_GROUP.addr n 0) (t.reg (LOOP_STAT_GROUP.addr n 0) / 2 ^ 24 * 2 ^ 24 + g)) s.loopReset
  (List.range 16).foldl (fun t g =>
    let k := (t.recs 0xB0 0).countP (fun r => r.v C_LOOP_GROUP == g)
    ((t.wri LOOP_GRP_MEMBERS g k).wri LOOP_GRP_VALID g 0).wri LOOP_GRP_SEL g 0) s1

/-- Fields of loop `n` have been amended (R379, R393). -/
def State.loopAmended (s : State) (n : Nat) : State := s.loopM n (fun x => { x with bump := true })

end Sys2Proof.Machine
end

