-- ==== Sys2Proof/Machine/Signal.lean ====
section
/-! DEFINITION. Signal stations: queues, operations, pulses and moisture (spec/10_signal_stations.md R333 to R348). -/

namespace Sys2Proof.Machine

open Sys2Proof

/-- The signal station record of station `n`. -/
def State.sigRec (s : State) (n : Nat) : Option CfgRec := s.crec C_SIGNAL_STATION_STATION n

/-- The operation record of slot `k` of station `n`. -/
def State.sigOp (s : State) (n k : Nat) : Option CfgRec := opRec s.loader.recs n k

/-- Does station `n` run: enabled, committed, its memory initialised (R344)? -/
def State.sigOn (s : State) (n : Nat) : Bool :=
  bitAt (s.rdi SIG_CTRL_EN (n / 32)) (n % 32) && (s.sigRec n).isSome && s.marked 3

/-- Change the signal stations. -/
def State.sigM (s : State) (f : SigUnit → SigUnit) : State := { s with sig := f s.sig }

/-- The state of an operation. -/
def State.opSt (s : State) (n k : Nat) : OpSt := assocGetD s.sig.ops (4 * n + k) {}

/-- Set the state of an operation. -/
def State.opPut (s : State) (n k : Nat) (o : OpSt) : State := s.sigM (fun u => { u with ops := assocPut u.ops (4 * n + k) o })

/-- A station error: counted with its station, and its event (R361). -/
def State.sigErr (s : State) (last count : Fld) (n evt : Nat) : State :=
  ((s.wr last n).inc count 1).raiseIf (decide (s.rd count < 0xFFFFFF)) 18 evt

/-- SIG_STAT.QUEUED follows the port 0 queue. -/
def State.sigShow (s : State) (n : Nat) : State := s.wri SIG_STAT_QUEUED n (assocGetD s.sig.queue n []).length

/-- PORT_INPUT (R334): the oldest element on its way to port 0 of the station joins the queue, or is dropped. -/
def execPortInput (station : Fin 96) (s : State) : Host.Outcome State Fault Refusal := s.powered <|
  let n := station.val
  match assocGetD s.sig.way n [] with
  | [] => ok s
  | e :: rest =>
    let s1 := s.sigM (fun u => { u with way := assocPut u.way n rest })
    let q := assocGetD s.sig.queue n []
    if !s.sigOn n then ok s1
    else if 32 ≤ q.length then ok (s1.sigErr SIG_OVR_LAST SIG_OVR_COUNT n 0)
    else ok ((s1.sigM (fun u => { u with queue := assocPut u.queue n (q ++ [e]) })).sigShow n)

/-! ## Operations on plain data (R338 to R342) -/

/-- The datum of a binary64 code. -/
def d64 (x : Nat) : FV := ofB64 x

/-- Insert into an ascending list. -/
def insertFV (x : FV) : List FV → List FV
  | [] => [x]
  | y :: t => if x.le y then x :: y :: t else y :: insertFV x t

/-- Ascending order. -/
def sortFV (l : List FV) : List FV := l.foldl (fun a x => insertFV x a) []

/-- Median; the mean of the two middle values of an even number, which only an unfilled window holds. -/
def medianFV (l : List FV) : FV :=
  let m := sortFV l
  let n := m.length
  if n % 2 = 1 then listAt m (n / 2) .zero
  else FV.mul f64 (FV.add f64 (listAt m (n / 2 - 1) .zero) (listAt m (n / 2) .zero)) (.fin false 1 (-1))

/-- Sum in binary64, from the left. -/
def sumFV (l : List FV) : FV := l.foldl (fun a x => FV.add f64 a x) .zero

/-- One section of a BIQUAD cascade (R339): output, and the new states. -/
def biquad1 (c : List FV) (x s1 s2 : FV) : FV × FV × FV :=
  let b (k : Nat) : FV := listAt c k .zero
  let y := FV.add f64 (FV.mul f64 (b 0) x) s1
  let t1 := FV.add f64 (FV.sub f64 (FV.mul f64 (b 1) x) (FV.mul f64 (b 3) y)) s2
  (y, t1, FV.sub f64 (FV.mul f64 (b 2) x) (FV.mul f64 (b 4) y))

/-- A cascade of `m` sections from section `k` on; the states as binary64 codes. -/
def biquad (coef : Nat → FV) (sums : List Nat) : Nat → Nat → FV → FV × List Nat
  | _, 0, x => (x, [])
  | k, m + 1, x =>
    let r := biquad1 ((List.range 5).map (fun i => coef (5 * k + i))) x (d64 (listAt sums (2 * k) 0)) (d64 (listAt sums (2 * k + 1) 0))
    let t := biquad coef sums (k + 1) m r.1
    (t.1, toB64 r.2.1 :: toB64 r.2.2 :: t.2)

/-- Cascaded moving sums of length `len` (R338): per stage its window (newest first) and running sum. -/
def cic (len : Nat) : List (List Nat) → List Nat → FV → FV × List (List Nat) × List Nat
  | [], _, x => (x, [], [])
  | w :: ws, sums, x =>
    let old := if w.length < len then FV.zero else d64 (listAt w (len - 1) 0)
    let sum := FV.sub f64 (FV.add f64 (d64 (listAt sums 0 0)) x) old
    let t := cic len ws (sums.drop 1) sum
    (t.1, (toB64 x :: w).take len :: t.2.1, toB64 sum :: t.2.2)

/-- Horner's rule from the highest coefficient (R338). -/
def horner (coef : Nat → FV) (x : FV) : Nat → FV → FV
  | 0, acc => acc
  | k + 1, acc => horner coef x k (FV.add f64 (FV.mul f64 acc x) (coef k))

/-- What an operation does with one input: new state, output with the oldest and newest contributing tags, and
whether the input was rejected as not finite (R336). -/
structure OpOut where
  st : OpSt
  out : Option (FV × Nat × Nat)
  nan : Bool := false

/-- A coefficient of an operation record. -/
def opCoef (r : CfgRec) (k : Nat) : FV := ofB32 (r.v (C_SIGNAL_OP_COEF0.plus k))

/-- A parameter of an operation record. -/
def opPar (r : CfgRec) (k : Nat) : FV := ofB32 (r.v (C_SIGNAL_OP_P0.plus k))

/-- The window operations FIR, CIC, MEDIAN, MAVG, RMS, MINMAX, and BIQUAD (R336, R338, R339). -/
def windowOp (r : CfgRec) (o : OpSt) (x tag : Nat) : OpOut :=
  let op := r.v C_SIGNAL_OP_OP
  let n := r.v C_SIGNAL_OP_N
  let dec := if op = 2 then 1 else max 1 (r.v C_SIGNAL_OP_DECIM)
  let o1 : OpSt := { o with n := o.n + 1 }
  let emits := o1.n % dec == 0
  let xv := ofB32 x
  if !xv.isFin then { st := o1, out := if emits then some (.nan, tag, tag) else none, nan := true }
  else
    let give (st : OpSt) (v : FV) : OpOut :=
      let old := ((st.win.getLast?).map (fun p => p.2)).getD tag
      { st := st, out := if emits then some (v, old, tag) else none }
    let len := if op = 3 then n * (dec - 1) + 1 else n
    let win := ((x, tag) :: o.win).take len
    let out1 := if o.win.length < len then FV.zero else ofB32 (listAt o.win (len - 1) (0, 0)).1
    let o2 : OpSt := { o1 with win := win }
    let vals := win.map (fun p => ofB32 p.1)
    let cnt := FV.ofInt win.length
    match op with
    | 1 => give o2 (sumFV ((vals.zipIdx).map (fun p => FV.mul f64 (opCoef r p.2) p.1)))
    | 2 =>
      let t := biquad (opCoef r) o.sums 0 n xv
      { st := { o1 with sums := t.2 }, out := some (t.1, tag, tag) }
    | 3 =>
      let ws := if o.wins.length = n then o.wins else List.replicate n []
      let t := cic dec ws o.sums xv
      give { o2 with wins := t.2.1, sums := t.2.2 } (FV.div f64 t.1 (FV.ofInt ((dec ^ n : Nat) : Int)))
    | 4 => give o2 (medianFV vals)
    | 5 =>
      let sum := FV.sub f64 (FV.add f64 (d64 (listAt o.sums 0 0)) xv) out1
      give { o2 with sums := [toB64 sum] } (FV.div f64 sum cnt)
    | 6 =>
      let sq := FV.sub f64 (FV.add f64 (d64 (listAt o.sums 0 0)) (FV.mul f64 xv xv)) (FV.mul f64 out1 out1)
      let sum := FV.sub f64 (FV.add f64 (d64 (listAt o.sums 1 0)) xv) out1
      let mean := FV.div f64 sum cnt
      let ms := FV.div f64 sq cnt
      let v := if (opPar r 0).eqv .zero then ms else FV.sub f64 ms (FV.mul f64 mean mean)
      give { o2 with sums := [toB64 sq, toB64 sum] } ((v.maxV .zero).sqrt f64)
    | _ =>
      let hi := vals.foldl FV.maxV xv
      let lo := vals.foldl FV.minV xv
      let v := match (opPar r 0).roundI with
        | 0 => hi
        | 1 => lo
        | _ => FV.sub f64 hi lo
      give o2 v

/-- The crossing counter of RATE (R341). -/
def rateOp (r : CfgRec) (o : OpSt) (x : Nat) : OpSt :=
  let xv := ofB32 x
  let level := opPar r 0
  if xv.isNaN then o
  else if xv.le (FV.sub f64 level ((opPar r 1).maxV .zero)) then { o with phase := 1 }
  else if o.phase = 1 && level.lt xv then { o with phase := 0, cross := o.cross + 1 }
  else o

/-- GATE_MS in ns (R341). -/
def gateNs (r : CfgRec) : Nat := max 1 (FV.mul f64 (opPar r 2) (FV.ofInt 1000000)).roundI.toNat

/-! ## Pulses (R343, R345) -/

/-- The end of a pulse: flags, its end time. -/
structure PulseEnd where
  flags : Nat
  te : Nat
  st : OpSt

/-- Signed difference of two short times in ns. -/
def tagDiff (a b : Nat) : Int := sint 48 (a + 2 ^ 48 - b % 2 ^ 48)

/-- PULSE runs one input (R343): the state after it, the end it gives if any, and starts held off (0 or 1). States: sums
base, peak, area, a_prev; times start, peak, previous, end. -/
def pulseOp (r : CfgRec) (o : OpSt) (x tag : Nat) : OpSt × Option PulseEnd × Nat :=
  let xv := ofB32 x
  let us (i : Int) : FV := FV.div f64 (FV.ofInt i) (FV.ofInt 1000)
  let t (k : Nat) : Nat := listAt o.ts k 0
  let first := o.n == 0
  let dt := if first then FV.zero else us (tagDiff tag (t 2))
  let gap := opCoef r 0
  let held := opPar r 4
  let fin (st : OpSt) (f te : Nat) : OpSt × PulseEnd :=
    let st1 : OpSt := { st with phase := if held.le .zero then 0 else 2, ts := listSet st.ts 3 te }
    (st1, ⟨f, te, st⟩)
  let o0 : OpSt := { o with n := o.n + 1 }
  let early : OpSt × Option PulseEnd :=
    if o.phase = 1 && FV.zero.lt gap && gap.lt dt then
      let e := fin o0 2 (t 2)
      (e.1, some e.2)
    else (o0, none)
  let stamp (st : OpSt) : OpSt := { st with ts := listSet st.ts 2 tag }
  if xv.isNaN then
    if first then (o, none, 0)
    else if early.1.phase = 1 then
      let e := fin early.1 4 (t 2)
      (stamp e.1, some e.2, 0)
    else (stamp early.1, early.2, 0)
  else
    let st := early.1
    let base := if first then xv else d64 (listAt st.sums 0 0)
    let peak := d64 (listAt st.sums 1 0)
    let area := d64 (listAt st.sums 2 0)
    let prev := d64 (listAt st.sums 3 0)
    let a := FV.sub f64 xv base
    let put (s : OpSt) (b p ar : FV) : OpSt := { s with sums := [toB64 b, toB64 p, toB64 ar, toB64 a] }
    match st.phase with
    | 0 =>
      let ex := (FV.div f64 dt (FV.mul f64 (FV.ofInt 1000) (opPar r 5))).neg
      let k := FV.sub f64 (FV.ofInt 1) (d64 (Config.exp64 (toB64 ex)))
      let base2 := FV.add f64 base (FV.mul f64 (FV.sub f64 xv base) k)
      let h := FV.sub f64 xv base2
      if (opPar r 0).le h then
        let st2 : OpSt := { put st base2 h .zero with phase := 1, ts := [tag, tag, tag, listAt st.ts 3 0] }
        (st2, early.2, 0)
      else (stamp (put st base2 peak area), early.2, 0)
    | 1 =>
      let area2 := FV.add f64 area (FV.mul f64 a dt)
      let up := peak.lt a
      let st2 := put { st with ts := if up then listSet st.ts 1 tag else st.ts } base (if up then a else peak) area2
      if a.lt (opPar r 1) then
        let e := fin st2 0 tag
        (stamp e.1, some e.2, 0)
      else if (opPar r 3).lt (us (tagDiff tag (listAt st2.ts 0 0))) then
        let e := fin st2 1 tag
        (stamp e.1, some e.2, 0)
      else (stamp st2, none, 0)
    | _ =>
      let n := b2n ((opPar r 0).le a && prev.lt (opPar r 0))
      let done := (FV.mul f64 (FV.ofInt 1000) held).le (FV.ofInt (tagDiff tag (listAt st.ts 3 0)))
      let st2 : OpSt := { put st base peak area with phase := if done then 0 else 2 }
      (stamp st2, early.2, n)

/-- A pulse ends (R343, R345, R37): counted, its quality counted, its summary sent to the tally engine or dropped at the
full crossing; its element is PEAK, tagged with the pulse time. -/
def State.pulseEmit (s : State) (n : Nat) (r : CfgRec) (e : PulseEnd) : (Nat × Nat) × State :=
  let p := r.v C_SIGNAL_OP_N
  let unit := opPar r 2
  let us (i : Int) : Nat := toB32 (FV.div f64 (FV.ofInt i) (FV.ofInt 1000))
  let t (k : Nat) : Nat := listAt e.st.ts k 0
  let peak := toB32 (FV.div f64 (d64 (listAt e.st.sums 1 0)) unit)
  let area := toB32 (FV.div f64 (d64 (listAt e.st.sums 2 0)) unit)
  let s1 := s.wrapi SIG_PDET_COUNT p 1
  let lossy (t : State) (f : Fld) (cap : Nat) : State := (t.inci f p 1).raiseIf (decide (t.rdi f p < cap)) 18 3
  let s2 := if e.flags = 0 then s1 else if e.flags = 1 then lossy s1 SIG_PLOSS_TRUNC 255 else lossy s1 SIG_PLOSS_GAP 255
  let seq := s2.rdi SIG_PDET_COUNT p
  let time := (s.expand (t 1)).toNat
  let bytes := leBytes 8 time ++ leBytes 4 peak ++ leBytes 4 area ++ leBytes 4 (us (tagDiff e.te (t 0))) ++
    leBytes 4 (us (tagDiff (t 1) (t 0))) ++ [p, n, e.flags, 0] ++ leBytes 4 seq
  let s3 := if 512 ≤ s2.tally.pulses.length then (s2.wr SYS_XDROP_LAST 1).inc SYS_XDROP_COUNT 1
    else { s2 with tally := { s2.tally with pulses := s2.tally.pulses ++ [(bytes, s2.time.stepSum)] } }
  ((peak, t 1), s3)

/-! ## Operations that read the machine (R342, R346) -/

/-- A point of a LUT table (R342, R344); an uncorrectable word reads as NaN. -/
def State.lutPoint (s : State) (table i : Nat) : FV × Bool × State :=
  let a := 0x400000 + 0x1C0000 + 0x400 * table + 4 * i
  match s.memRead (a / 8 * 8) with
  | (some v, s1) => (ofB32 (if a % 8 = 0 then v % 2 ^ 32 else v / 2 ^ 32), false, s1)
  | (none, s1) => (.nan, true, s1)

/-- LUT (R342). -/
def State.lut (s : State) (n : Nat) (r : CfgRec) (x : Nat) : FV × State :=
  let bank := bitAt (s.rdi SIG_BANK_BANK (n / 32)) (n % 32)
  let table := r.v (if bank then C_SIGNAL_OP_TABLE1 else C_SIGNAL_OP_TABLE0)
  let xv := ofB32 x
  let lo := opPar r 0
  let hi := opPar r 1
  let u := FV.mul f64 (FV.div f64 (FV.sub f64 xv lo) (FV.sub f64 hi lo)) (FV.ofInt 255)
  if xv.isNaN then (.nan, s)
  else
    let i := u.floorI.toNat
    let (y, bad, s1) :=
      if hi.le lo || u.le .zero then s.lutPoint table 0
      else if (FV.ofInt 255).le u then s.lutPoint table 255
      else
        let (a, ba, t1) := s.lutPoint table i
        let (b, bb, t2) := t1.lutPoint table (i + 1)
        (FV.add f64 a (FV.mul f64 (FV.sub f64 u (FV.ofInt i)) (FV.sub f64 b a)), ba || bb, t2)
    if bad then (.nan, s1.sigErr SIG_UE_LAST SIG_UE_COUNT n 2) else (y, s1)

/-- 2π as binary64. -/
def twoPi64 : FV := ofB64 0x401921FB54442D18

/-- MOISTURE (R346): the value, and whether T_REF stood in for port 1. -/
def State.moisture (s : State) (n : Nat) (r : CfgRec) : FV × Bool :=
  let c := r.v C_SIGNAL_OP_N
  let d := c / 16
  let j := s.chanPath d (c % 16)
  let nf := s.cv C_SWEEP_NFREQ c
  let w (k : Nat) : FV := FV.mul f64 twoPi64 (FV.ofInt (s.sweepFreq d (c % 16) k))
  let g (k : Nat) : FV := ofB32 (s.reg (sweepWord d j (4 + 2 * k)))
  let b (k : Nat) : FV := ofB32 (s.reg (sweepWord d j (5 + 2 * k)))
  let c0 (k : Nat) : FV := opCoef r k
  let m6 : FV := FV.ofInt 1000000
  let x (k : Nat) : FV :=
    if (c0 k).eqv .zero then .zero
    else FV.div f64 (FV.sub f64 (FV.mul f64 (FV.div f64 (b k) (w k)) (FV.ofInt 1000000000000)) (c0 k)) (c0 k)
  let y (k : Nat) : FV :=
    if (c0 k).eqv .zero then .zero
    else FV.div f64 (FV.mul f64 (FV.sub f64 (FV.mul f64 (g k) m6) (opCoef r (8 + k))) m6) (FV.mul f64 (w k) (c0 k))
  let tRef := opCoef r 33
  let port := match s.routeIn 1 n 1 with
    | some (e, false) => if e.num.isNaN then none else some e.num
    | _ => none
  let dt := FV.sub f64 (port.getD tRef) tRef
  let sum := sumFV ((List.range nf).map (fun k =>
    FV.add f64 (FV.mul f64 (opCoef r (16 + k)) (x k)) (FV.mul f64 (opCoef r (24 + k)) (y k))))
  let m := FV.add f64 (FV.add f64 (FV.add f64 (opCoef r 32) sum) (FV.mul f64 (opCoef r 34) dt))
    (FV.mul f64 (opCoef r 35) (FV.mul f64 dt dt))
  let full := !(x (min 7 (opCoef r 37).roundI.toNat)).lt (opCoef r 36)
  let lo := opPar r 0
  let hi := opPar r 1
  let v := if !full then FV.nan else if lo.lt hi && !m.isNaN then (m.maxV lo).minV hi else m
  (v, port.isNone)

/-! ## Chains (R333, R335 to R337, R348) -/

/-- The tag of an output (R337): the newest contributing input's, or the mean of the oldest's and the newest's. -/
def outTag (r : CfgRec) (old new : Nat) : Nat :=
  if r.v C_SIGNAL_OP_TAGMODE = 1 then (new + 2 ^ 48 - (tagDiff new old / 2).toNat) % 2 ^ 48 else new

/-- The byte offset of slot `k`'s part of a station's working area: the state bytes of the slots before it. -/
def State.areaOff (s : State) (n k : Nat) : Nat :=
  ((List.range k).map (fun i =>
    match s.sigOp n i with
    | some r => opBytes (r.v C_SIGNAL_OP_OP) (r.v C_SIGNAL_OP_N) (r.v C_SIGNAL_OP_DECIM)
    | none => 0)).sum

/-- A window operation stores its input in its ring of the working area (R340, R344); a full window reads the entry it
replaces, and an uncorrectable one zeroes the operation's state. -/
def State.ring (s : State) (n k : Nat) (r : CfgRec) (o : OpSt) (x : Nat) : OpSt × State :=
  let len := r.v C_SIGNAL_OP_N
  let op := r.v C_SIGNAL_OP_OP
  if opBytes op len 1 = 0 || !(ofB32 x).isFin then (o, s)
  else
    let a := 0x500000 + 0x2000 * n + (s.areaOff n k + 4 * (o.n % max 1 len)) % 0x2000
    let (v, s1) := if o.win.length < len then (some 0, s) else s.memRead (a / 8 * 8)
    let s2 := s1.memMerge a x
    if v.isNone then ({ n := o.n }, s2.sigErr SIG_UE_LAST SIG_UE_COUNT n 2) else (o, s2)

/-- One operation runs one input: its output as (binary32, tag). -/
def State.runOp (s : State) (n k : Nat) (x tag : Nat) : Option (Nat × Nat) × State :=
  match s.sigOp n k with
  | none => (some (x, tag), s)
  | some r =>
    let op := r.v C_SIGNAL_OP_OP
    let o := s.opSt n k
    match op with
    | 0 => (some (x, tag), s)
    | 8 =>
      let v := if (ofB32 x).isNaN then FV.nan
        else horner (opCoef r) (ofB32 x) (r.v C_SIGNAL_OP_N) (opCoef r (r.v C_SIGNAL_OP_N))
      (some (toB32 v, tag), s)
    | 9 =>
      let (v, s1) := s.lut n r x
      (some (toB32 v, tag), s1)
    | 10 =>
      let (o1, e, held) := pulseOp r o x tag
      let s1 := s.opPut n k o1
      let p := r.v C_SIGNAL_OP_N
      let s2 := if held = 0 then s1
        else (s1.inci SIG_PLOSS_HELD p 1).raiseIf (decide (s1.rdi SIG_PLOSS_HELD p < 65535)) 18 3
      match e with
      | some e =>
        let (v, s3) := s2.pulseEmit n r e
        (some v, s3)
      | none => (none, s2)
    | 11 => (none, s.opPut n k (rateOp r o x))
    | 12 =>
      let (v, miss) := s.moisture n r
      (some (toB32 v, tag), s.wri SIG_STAT_AUXMISS n (b2n miss))
    | _ =>
      let (o0, s0) := s.ring n k r o x
      let z := windowOp r o0 x tag
      let s1 := s0.opPut n k z.st
      let s2 := if z.nan then s1.sigErr SIG_NAN_LAST SIG_NAN_COUNT n 1 else s1
      (z.out.map (fun q => (toB32 q.1, outTag r q.2.1 q.2.2)), s2)

/-- The slots from `k` on run (R333); the output of the last one is produced on endpoint `n`. -/
def State.runFrom (s : State) (n : Nat) : Nat → Nat → Nat → Nat → State
  | _, 0, x, tag => (s.wri SIG_OUT_VALUE n x).produce n x 0 tag
  | k, m + 1, x, tag =>
    match s.runOp n k x tag with
    | (some (y, t), s1) => s1.runFrom n (k + 1) m y t
    | (none, s1) => s1

/-- STATION_VISIT (R333, R335, R348): the engine runs the oldest queued element through the station's chain. -/
def execStationVisit (station : Fin 96) (s : State) : Host.Outcome State Fault Refusal := s.powered <|
  let n := station.val
  match s.sigRec n, assocGetD s.sig.queue n [] with
  | some r, e :: rest =>
    if s.sigOn n then
      let s1 := (s.sigM (fun u => { u with queue := assocPut u.queue n rest })).sigShow n
      ok (s1.runFrom n 0 (r.v C_SIGNAL_STATION_NOPS) (toB32 e.num) e.tag)
    else ok s
  | _, _ => ok s

/-- RATE_GATE (R341): a gate of the RATE in `slot` has ended, at a multiple of GATE_MS; it emits its crossing rate
tagged with that instant, to the slots after it. -/
def execRateGate (station : Fin 96) (slot : Fin 4) (s : State) : Host.Outcome State Fault Refusal := s.powered <|
  let n := station.val
  let k := slot.val
  match s.sigRec n, s.sigOp n k with
  | some st, some r =>
    let o := s.opSt n k
    let g := gateNs r
    let ix := s.clk.now / g
    if r.v C_SIGNAL_OP_OP = 11 && s.sigOn n && decide (o.gate < ix) then
      let v := FV.mul f64 (FV.div f64 (FV.ofInt (1000 * (o.cross : Int))) (opPar r 2)) (opPar r 3)
      let s1 := s.opPut n k { o with cross := 0, gate := ix }
      ok (s1.runFrom n (k + 1) (st.v C_SIGNAL_STATION_NOPS - (k + 1)) (toB32 v) (ix * g % 2 ^ 48))
    else ok s
  | _, _ => ok s

/-! ## Enables and the image -/

/-- The states of station `n` start from 0 (R338, R341), its queue empty. -/
def State.sigStart (s : State) (n : Nat) : State :=
  let clear := s.sigM (fun u => { u with
    queue := assocDel u.queue n
    ops := u.ops.filter (fun p => p.1 / 4 != n) })
  ((List.range 4).foldl (fun t k =>
    match t.sigOp n k with
    | some r =>
      if r.v C_SIGNAL_OP_OP = 11 then t.opPut n k { gate := t.clk.now / gateNs r } else t
    | none => t) clear).sigShow n

/-- SIG_CTRL word `i` becomes `v`: clearing a station's bit discards its queue, setting it restarts its states. -/
def State.sigEnable (s : State) (i v : Nat) : State :=
  let was := s.rdi SIG_CTRL_EN i
  (List.range 32).foldl (fun t b =>
    let n := 32 * i + b
    if bitAt v b && !bitAt was b then t.sigStart n
    else if !bitAt v b && bitAt was b then (t.sigM (fun u => { u with queue := assocDel u.queue n })).sigShow n
    else t) (s.wri SIG_CTRL_EN i v)

/-- SIG registers at their image values (R362); EN bits of the committed stations, banks at 0. -/
def State.sigImage (s : State) : State :=
  let en (i : Nat) : Nat := ((List.range 32).map (fun b =>
    match s.sigRec (32 * i + b) with
    | some r => if r.v C_SIGNAL_STATION_EN = 1 then 2 ^ b else 0
    | none => 0)).sum
  (List.range 3).foldl (fun t i => (t.wri SIG_CTRL_EN i (en i)).wri SIG_BANK_BANK i 0) s

/-- Every queue is empty and every state starts from 0 (R362). -/
def State.sigReset (s : State) : State :=
  (List.range 96).foldl (fun t n => t.sigStart n) { s with sig := {} }.sigImage

/-- The registers that describe the committed stations: ASSIGNED, NOPS, the engine loads (R347). -/
def State.sigCommit (s : State) : State :=
  let s1 := (List.range 96).foldl (fun t n =>
    match t.sigRec n with
    | some r => (t.wri SIG_STAT_ASSIGNED n 1).wri SIG_STAT_NOPS n (r.v C_SIGNAL_STATION_NOPS - 1)
    | none => (t.wri SIG_STAT_ASSIGNED n 0).wri SIG_STAT_NOPS n 0) s
  (List.range 12).foldl (fun t e =>
    let l := (List.range 8).filterMap (fun i => t.sigRec (8 * e + i))
    let kc := FV.div f64 (sumFV (l.map (stationLoad t.loader.recs))) (FV.ofInt 1000)
    t.wri SIG_LOAD_KCPS e kc.floorI.toNat) s1

/-- A step of device time: gates follow the new device time, and one that a step passes over does not come (R128,
R341). -/
def State.sigStep (s : State) : State :=
  s.loader.recs.foldl (fun t r =>
    if r.sect = 0x40 && r.kind = 3 && r.v C_SIGNAL_OP_OP = 11 then
      let n := r.v C_SIGNAL_OP_STATION
      let k := r.v C_SIGNAL_OP_SLOT
      t.opPut n k { t.opSt n k with gate := (t.clk.now - 1) / gateNs r }
    else t) s

end Sys2Proof.Machine
end

