-- ==== Sys2Proof/Machine/Measure.lean ====
section
/-! DEFINITION. The measurement unit: ticks, delay lines, mass flow, losses, yield records
(spec/10_signal_stations.md R349 to R359, R362, R365). -/

namespace Sys2Proof.Machine

open Sys2Proof

/-- Change the measurement unit. -/
def State.msrM (s : State) (f : MsrUnit → MsrUnit) : State := { s with msr := f s.msr }

/-- Is input `i` routed (R349)? -/
def State.msrRouted (s : State) (i : Nat) : Bool := (s.route 3 0 i).isSome

/-- GRID_MS in ns. -/
def State.gridNs (s : State) : Nat := max 1 (s.cv1 C_YIELD_GRID_MS) * 1000000

/-- The committed loss group `g`. -/
def State.lossRec (s : State) (g : Nat) : Option CfgRec := s.crec C_LOSS_GROUP g

/-- The delay of input `i` (0 to 7) or loss group `i - 8`, in ms, when it has a line (R351). -/
def State.lineDelay (s : State) (i : Nat) : Option Nat :=
  if i < 8 then (if s.msrRouted i then some (s.cv1 (C_YIELD_DELAY0.plus i)) else none)
  else (s.lossRec (i - 8)).map (fun r => r.v C_LOSS_DELAY)

/-- D_max in ms (R351). -/
def State.dMax (s : State) : Nat := ((List.range 12).map (fun i => (s.lineDelay i).getD 0)).foldl max 0

/-- Ticks that line `i` delays: D_max − D_i rounded to whole ticks (R351). -/
def State.lineTicks (s : State) (i : Nat) : Nat :=
  let g := max 1 (s.cv1 C_YIELD_GRID_MS)
  (2 * (s.dMax - (s.lineDelay i).getD 0) + g) / (2 * g)

/-- Entries of line `i` (R351). -/
def State.lineLen (s : State) (i : Nat) : Nat :=
  let g := max 1 (s.cv1 C_YIELD_GRID_MS)
  match s.lineDelay i with
  | some d => (s.dMax - d + g - 1) / g + 1
  | none => 0

/-- Mean of the numbers of a tick's elements, in binary64, rounded to binary32. -/
def meanOf (l : List Elem) : Nat := toB32 (FV.div f64 (sumFV (l.map (fun e => e.num))) (FV.ofInt l.length))

/-- The tick value of input `i` for the tick that ends at `stop` (R350): the elements taken, the element held after
it, the value, `none` when missing. -/
def State.tickValue (s : State) (i stop : Nat) : List Elem × Option Elem × Option Nat :=
  let all := listAt s.msr.ins i []
  let now (e : Elem) : Bool := decide (s.expand e.tag < (stop : Int))
  let used := all.filter now
  let left := all.filter (fun e => !now e)
  let held := match used.getLast? with
    | some e => some e
    | none => listAt s.msr.held i none
  let stale (e : Elem) : Bool :=
    match s.route 3 0 i with
    | some r => r.v C_ROUTE_STALE != 0 && decide (r.v C_ROUTE_STALE * 1000 < s.age e.tag)
    | none => true
  let val := match used, held with
    | [], some e => if stale e then none else some (toB32 e.num)
    | [], none => none
    | l, _ => some (meanOf l)
  let seen := if s.msrRouted i then val else none
  (left, held, match seen with
    | some v => if (ofB32 v).isNaN then none else some v
    | none => none)

/-- Mass flow of a plate value in binary64, and whether FLOW_MAX limited it (R352). -/
def State.massFlow (s : State) (plate : Nat) : FV × Bool :=
  let x := ofB32 plate
  let c (k : Nat) : FV := ofB32 (s.cv1 (C_YIELD_F0.plus k))
  let t (y : FV) : FV := FV.mul f64 y x
  let poly := FV.add f64 (FV.add f64 (FV.add f64 (c 0) (t (c 1))) (t (t (c 2)))) (t (t (t (c 3))))
  let f := if x.lt (ofB32 (s.cv1 C_YIELD_FLOW_ZERO)) then FV.zero else FV.mul f64 (ofB32 (s.cv1 C_YIELD_CAL)) poly
  let top := ofB32 (s.cv1 C_YIELD_FLOW_MAX)
  ((f.maxV .zero).minV top, top.lt f)

/-- An input value as a binary64 datum. -/
def numOf (v : Option Nat) : FV := ((v.map ofB32)).getD .zero

/-- Seconds of a tick. -/
def State.gridSec (s : State) : FV := FV.div f64 (FV.ofInt (s.cv1 C_YIELD_GRID_MS)) (FV.ofInt 1000)

/-- A working value (R349, R350): above WORK_THR, or missing. -/
def State.isWorking (s : State) (v : Option Nat) : Bool :=
  match v with
  | some x => (ofB32 (s.cv1 C_YIELD_WORK_THR)).lt (ofB32 x)
  | none => true

/-- Nearest integer of a datum limited to `0 … hi`, and whether the limit was met above. -/
def fieldOf (v : FV) (hi : Nat) : Nat × Bool :=
  match v with
  | .inf neg => if neg then (0, false) else (hi, true)
  | _ =>
    let i := v.roundI
    (limI 0 hi i |>.toNat, decide ((hi : Int) < i))

/-! ## Delay lines in memory (R344, R351) -/

/-- First entry of line `i`: the lines follow one another in order. -/
def State.lineBase (s : State) (i : Nat) : Nat := ((List.range i).map (fun k => s.lineLen k)).sum

/-- BAR0 address of entry `k` of line `i`, a ring. -/
def State.lineAddr (s : State) (i k : Nat) : Nat :=
  0x5E0000 + 4 * ((s.lineBase i + k % max 1 (s.lineLen i)) % 32768)

/-- Line `i` stores the value of tick `k` and reads the delayed entry; `false` when that word is uncorrectable. -/
def State.lineIO (s : State) (i k v : Nat) : Bool × State :=
  if s.lineLen i = 0 then (true, s)
  else
    let s1 := s.memMerge (s.lineAddr i k) v
    let (w, s2) := if s.lineTicks i ≤ s.msr.count then s1.memRead (s.lineAddr i (k - s.lineTicks i) / 8 * 8) else (some 0, s1)
    (w.isSome, s2)

/-- The lines from `i` on store this tick and read theirs; which reads were good. -/
def State.linesIO (s : State) (k : Nat) (vals : List Nat) : Nat → Nat → List Bool × State
  | _, 0 => ([], s)
  | i, m + 1 =>
    let (g, s1) := s.lineIO i k (listAt vals i 0)
    let (l, s2) := s1.linesIO k vals (i + 1) m
    (g :: l, s2)

/-! ## Yield steps (R355 to R358) -/

/-- A step opens with the settings in force (R366). -/
def State.stepOpen (s : State) (working : Bool) : YStep :=
  { ymode := s.cv1 C_YIELD_YMODE
    stepT := s.cv1 C_YIELD_STEP_T
    stepM := (FV.mul f64 (ofB32 (s.cv1 C_YIELD_STEP_M)) (FV.ofInt 1000000)).roundI.toNat
    maxT := s.cv1 C_YIELD_MAX_T
    nonwork := s.cv1 C_YIELD_NONWORK
    working := working
    dist := s.msr.carry }

/-- The 16-bit loss field of group `g` (R356). -/
def State.lossField (s : State) (g count ms : Nat) : Nat × Bool :=
  match s.lossRec g with
  | some r =>
    fieldOf (FV.div f64 (FV.mul f64 (FV.mul f64 (FV.ofInt 10) (ofB32 (r.v C_LOSS_GAIN))) (FV.ofInt (1000 * (count : Int))))
      (FV.ofInt ms)) 65535
  | none => (0, false)

/-- The 48 bytes of a yield record (R356, R357) without SEQ: `dist` in µm, flags, `heading` and `swath` for the values
that have none. -/
def State.yieldBytes (s : State) (y : YStep) (dist : Int) (flags heading swath : Nat) : List Nat :=
  let ms := y.ticks * s.cv1 C_YIELD_GRID_MS
  let mass := ofB64 y.mass
  let v (i : Nat) : Option Nat := listAt y.last i none
  let cm := fieldOf (FV.div f64 (FV.ofInt dist) (FV.ofInt 10000)) 65535
  let head := match v 4 with
    | some x => ((FV.mul f64 (ofB32 x) (FV.ofInt 100)).roundI % 36000).toNat
    | none => heading % 36000
  let speed := fieldOf (FV.div f64 (FV.ofInt dist) (FV.ofInt ms)) 65535
  let sw := if y.nSwath = 0 then (swath % 65536, false)
    else fieldOf (FV.mul f64 (FV.div f64 (ofB64 y.swath) (FV.ofInt y.nSwath)) (FV.ofInt 1000)) 65535
  let moist :=
    if y.nMoist = 0 then (65535, false)
    else
      let wm := ofB64 y.wMass
      let m := if wm.eqv .zero then FV.div f64 (ofB64 y.moist) (FV.ofInt y.nMoist) else FV.div f64 (ofB64 y.wet) wm
      fieldOf (FV.mul f64 m (FV.ofInt 100)) 65534
  let ls := (List.range 4).map (fun g => s.lossField g (listAt y.loss g 0) ms)
  let sat := cm.2 || speed.2 || sw.2 || moist.2 || ls.any (fun p => p.2)
  let miss := (v 2).isNone || (v 3).isNone
  let fl := flags ||| 2 * b2n miss ||| 16 * b2n (!y.working) ||| 256 * b2n sat
  leBytes 8 y.time ++ leBytes 4 ((v 2).getD qNaN32) ++ leBytes 4 ((v 3).getD qNaN32) ++
    leBytes 4 (toB32 (FV.div f64 (FV.mul f64 mass (FV.ofInt 1000)) (FV.ofInt ms))) ++ leBytes 4 (toB32 mass) ++
    leBytes 2 ms ++ leBytes 2 cm.1 ++ leBytes 2 head ++ leBytes 2 speed.1 ++ leBytes 2 sw.1 ++ leBytes 2 moist.1 ++
    ls.flatMap (fun p => leBytes 2 p.1) ++ leBytes 2 fl

/-- MSR_STAT.YQUEUED follows the records that wait for channel 1. -/
def State.yShow (s : State) : State := s.wr MSR_STAT_YQUEUED (s.dmaWaiting 1)

/-- A step closes (R355, R356, R358): its record is made and queued, unless it was not working and NONWORK is 0. -/
def State.stepClose (s : State) (y : YStep) (short : Bool) : State :=
  let full := y.ymode = 1 && decide ((y.stepM : Int) ≤ y.dist)
  let dist := if full then (y.stepM : Int) else y.dist
  let s1 := s.msrM (fun m => { m with step := none, carry := if full then y.dist - dist else 0 })
  if !y.working && y.nonwork = 0 then s1
  else
    let (h, t1) := s1.free 10
    let (w, t2) := t1.free 10
    let t3 := t2.wr MSR_YSEQ_COUNT (t2.rd MSR_YSEQ_COUNT + 1)
    let bytes := t3.yieldBytes y dist (y.flags ||| 32 * b2n short) h w ++ leBytes 2 (t3.rd MSR_YSEQ_COUNT)
    let t4 := if 64 ≤ t3.dmaWaiting 1 then ((t3.dmaDropOldest 1).inc MSR_YDROP_COUNT 1).raise 19 1 else t3
    ((t4.dmaReady 1 bytes).raise 19 0).yShow

/-- A tick of delayed values joins the open step (R355 to R357); one that its working state ends closes first. -/
def State.stepTick (s : State) (vals : List (Option Nat)) (loss : List Nat) (cut : Nat) : State :=
  let v (i : Nat) : Option Nat := listAt vals i none
  let w := s.isWorking (v 7)
  let s1 := match s.msr.step with
    | some y => if y.working = w then s else s.stepClose y true
    | none => s
  let y := s1.msr.step.getD (s1.stepOpen w)
  let grid := s.cv1 C_YIELD_GRID_MS
  let um := (FV.mul f64 (FV.mul f64 (FV.ofInt 1000) (numOf (v 5))) (FV.ofInt grid)).roundI
  let flow := match v 0 with
    | some p => s.massFlow p
    | none => (FV.zero, false)
  let mass := FV.mul f64 flow.1 s.gridSec
  let hold := s.rd TIME_DATUM_STATE
  let flags := y.flags ||| b2n (hold == 2 || hold == 3) ||| 4 * b2n (v 0).isNone ||| 8 * b2n (v 1).isNone |||
    64 * b2n s.msr.stepped ||| 128 * b2n s.msr.amended ||| 256 * b2n flow.2 |||
    512 * b2n ((v 4).isNone || (v 5).isNone || (v 6).isNone)
  let add (code : Nat) (x : FV) : Nat := toB64 (FV.add f64 (ofB64 code) x)
  let y2 : YStep := { y with
    ticks := y.ticks + 1
    dist := y.dist + um
    mass := add y.mass mass
    wMass := if (v 1).isSome then add y.wMass mass else y.wMass
    wet := add y.wet (FV.mul f64 mass (numOf (v 1)))
    moist := add y.moist (numOf (v 1))
    nMoist := y.nMoist + b2n (v 1).isSome
    swath := add y.swath (numOf (v 6))
    nSwath := y.nSwath + b2n (v 6).isSome
    loss := y.loss.zipIdx.map (fun p => p.1 + listAt loss p.2 0)
    time := cut
    last := vals
    flags := flags }
  let area := if w then FV.mul f64 (FV.div f64 (FV.ofInt um) (FV.ofInt 1000000)) (numOf (v 6)) else .zero
  let tot := toB64 (FV.add f64 (ofB64 (s1.rd64 MSR_TOTA_LO_M2 MSR_TOTA_HI_M2)) area)
  let s2 := (s1.wr64 MSR_TOTA_LO_M2 MSR_TOTA_HI_M2 tot).msrM (fun m => { m with step := some y2 })
  let ms := y2.ticks * grid
  let done := if y2.ymode = 0 then decide (y2.stepT ≤ ms) else decide ((y2.stepM : Int) ≤ y2.dist)
  if done then s2.stepClose y2 false
  else if (y2.ymode = 1 && y2.maxT ≤ ms) || s.msr.close then s2.stepClose y2 true
  else s2

/-! ## Ticks (R350, R352, R359) -/

/-- The delayed part of a tick (R351, R359): the working state, endpoints 179 and 184, the yield step. -/
def State.tickDelayed (s : State) (good : List Bool) (stop : Nat) : State :=
  let at_ (i : Nat) : Option MTick := s.msr.hist[s.lineTicks i]?
  let val (i : Nat) : Option Nat :=
    if listAt good i true then (at_ i).bind (fun t => listAt t.vals i none) else none
  let vals := (List.range 8).map val
  let loss := (List.range 4).map (fun g => ((at_ (8 + g)).map (fun t => listAt t.loss g 0)).getD 0)
  let cut := stop - s.dMax * 1000000
  let w := s.isWorking (val 7)
  let s1 := (s.wr MSR_STAT_WORKING (b2n w)).raiseIf (b2n w != s.rd MSR_STAT_WORKING) 19 3
  let (fv, s2) := s1.free 10
  let area := FV.mul f64 (numOf (val 5)) (numOf (val 6))
  let yield := match val 0, val 5, val 6 with
    | some p, some _, some _ =>
      if area.eqv .zero then 0
      else toB32 (FV.mul f64 (FV.div f64 (s.massFlow p).1 area) (FV.ofInt 10000))
    | _, some _, some _ => if area.eqv .zero then 0 else fv
    | _, _, _ => fv
  let s3 := (s2.produce 179 yield 0 cut).produce 184 (b2n w) 2 cut
  s3.stepTick vals loss cut

/-- The inputs of the tick that ends at `stop` (R351): values, missing inputs, held elements. -/
def State.tickInputs (s : State) (stop : Nat) : List (Option Nat) × State :=
  let tv := (List.range 8).map (fun i => s.tickValue i stop)
  let vals := tv.map (fun p => p.2.2)
  let miss := (vals.zipIdx.map (fun p => if p.1.isNone then 2 ^ p.2 else 0)).sum
  let newMiss := (List.range 8).any (fun i => s.msrRouted i && bitAt miss i && !bitAt (s.rd MSR_MISS_INPUT) i)
  (vals, ((s.wr MSR_MISS_INPUT miss).raiseIf newMiss 19 2).msrM (fun m => { m with
    ins := tv.map (fun p => p.1), held := tv.map (fun p => p.2.1) }))

/-- The mass flow of the tick (R352): total mass, MSR_FLOW and endpoint 176. -/
def State.tickFlow (s : State) (vals : List (Option Nat)) (stop : Nat) : State :=
  let (fv, s1) := s.free 10
  let flow := (listAt vals 0 none).map (fun p => (s.massFlow p).1)
  let mass := FV.mul f64 (flow.getD .zero) s.gridSec
  let totm := toB64 (FV.add f64 (ofB64 (s1.rd64 MSR_TOTM_LO_KG MSR_TOTM_HI_KG)) mass)
  let code := (flow.map toB32).getD (fv % 2 ^ 32)
  ((s1.wr64 MSR_TOTM_LO_KG MSR_TOTM_HI_KG totm).wr MSR_FLOW_V code).produce 176 code 0 stop

/-- The tick enters the delay lines; the step works on what comes out of them once they are filled (R350, R355). -/
def State.tickShift (s : State) (vals : List (Option Nat)) (good : List Bool) (stop : Nat) : State :=
  let depth := ((List.range 12).map (fun i => s.lineLen i)).foldl max 1
  let s1 := s.msrM (fun m => { m with
    tick := m.tick + 1
    count := m.count + 1
    hist := ((⟨vals, m.loss⟩ : MTick) :: m.hist).take depth
    loss := [0, 0, 0, 0] })
  let filled := decide (s.dMax ≤ s1.msr.count * s.cv1 C_YIELD_GRID_MS) && decide (depth ≤ s1.msr.hist.length)
  let s2 := s1.wr MSR_STAT_FILLED (b2n filled)
  if filled then s2.tickDelayed good stop else s2

/-- The totals on endpoints 177 and 178 (R352). -/
def State.tickTotals (s : State) (stop : Nat) : State :=
  let totm := s.rd64 MSR_TOTM_LO_KG MSR_TOTM_HI_KG
  let ha := FV.div f64 (ofB64 (s.rd64 MSR_TOTA_LO_M2 MSR_TOTA_HI_M2)) (FV.ofInt 10000)
  (s.produce 177 (toB32 (ofB64 totm)) 0 stop).produce 178 (toB32 ha) 0 stop

/-- TICK_CLOSE (R350 to R352, R355, R359): 1 ms after its end the tick is closed. -/
def execTickClose (s : State) : Host.Outcome State Fault Refusal := s.powered <|
  let stop := (s.msr.tick + 1) * s.gridNs
  if s.rd MSR_CTRL_EN = 0 || (s.crec1 C_YIELD_EN).isNone || !s.marked 3 || decide (s.clk.now < stop + 1000000) then ok s
  else
    let p := s.tickInputs stop
    let q := (p.2.tickFlow p.1 stop).linesIO (s.msr.tick + 1) (p.1.map (fun v => v.getD qNaN32) ++ s.msr.loss) 0 12
    let s4 := (q.2.tickShift p.1 q.1 stop).tickTotals stop
    ok (s4.msrM (fun m => { m with close := false, stepped := false, amended := false })).yShow

/-! ## Losses (R353, R354) -/

/-- CLASS_RESULT_ARRIVAL (R353, R354): the oldest class result under way reaches the counters. -/
def execClassResultArrival (s : State) : Host.Outcome State Fault Refusal := s.powered <|
  match s.msr.results with
  | [] => ok s
  | (p, c) :: rest =>
    let s1 := s.msrM (fun m => { m with results := rest })
    if s.rd MSR_CTRL_EN = 0 then ok s1
    else
      match c with
      | none => ok (s1.wrapi MSR_LOSS_NC_COUNT p 1)
      | some c =>
        let hit (g : Nat) : Bool :=
          match s.lossRec g with
          | some r => bitAt (r.v C_LOSS_SOURCES) p && bitAt (r.v C_LOSS_CLASSES) c
          | none => false
        let up (w : RateWin) : RateWin := { w with cur := w.cur + 1 }
        ok ((s1.wrapi MSR_LOSS_COUNT (16 * p + c) 1).msrM (fun m => { m with
          loss := m.loss.zipIdx.map (fun q => q.1 + b2n (hit q.2))
          rates := m.rates.zipIdx.map (fun q => if hit q.2 then up q.1 else q.1) }))

/-- A loss group's window starts at zero (R366). -/
def State.lossStart (s : State) (g : Nat) : State :=
  s.msrM (fun m => { m with
    rates := listSet m.rates g ({ till := s.clk.el + s.cv C_LOSS_WINDOW g * 62500 } : RateWin) })

/-- MSR_CTRL.EN becomes `v`: ticks and loss windows that did not run do not come later; an element of the tick that
runs counts in it, the newest older one is held (R350). -/
def State.msrEnable (s : State) (v : Nat) : State :=
  let s1 := s.wr MSR_CTRL_EN (v % 2)
  if v % 2 = 1 && s.rd MSR_CTRL_EN = 0 then
    let k := s.clk.now / s.gridNs
    let new (e : Elem) : Bool := decide (((k * s.gridNs : Nat) : Int) ≤ s.expand e.tag)
    (List.range 4).foldl (fun t g => t.lossStart g) (s1.msrM (fun m => { m with
      tick := k
      held := m.held.zipIdx.map (fun p => (((listAt m.ins p.2 []).filter (fun e => !new e)).getLast?).or p.1)
      ins := m.ins.map (fun l => l.filter new) }))
  else s1

/-- LOSS_GROUP_EMIT (R354): a sixteenth of WINDOW ends. -/
def execLossGroupEmit (group : Fin 4) (s : State) : Host.Outcome State Fault Refusal := s.powered <|
  let g := group.val
  let w := listAt s.msr.rates g {}
  match s.lossRec g with
  | some r =>
    if s.rd MSR_CTRL_EN = 0 || decide (s.clk.el < w.till) then ok s
    else
      let counts := w.counts.drop 1 ++ [w.cur]
      let v := toB32 (FV.mul f64 (FV.div f64 (FV.ofInt (1000 * (counts.sum : Int))) (FV.ofInt (r.v C_LOSS_WINDOW)))
        (ofB32 (r.v C_LOSS_GAIN)))
      let next : RateWin := { counts, cur := 0, till := w.till + r.v C_LOSS_WINDOW * 62500 }
      let s1 := s.msrM (fun m => { m with rates := listSet m.rates g next })
      ok ((s1.wri MSR_GRATE_V g v).produce (180 + g) v 0 (s.clk.now + w.till - s.clk.el))
  | none => ok s

/-! ## Commands and the image -/

/-- CLOSE (R355): the step closes at the end of this tick. -/
def execClose (s : State) : Host.Outcome State Fault Refusal := s.powered <| ok (s.msrM (fun m => { m with close := true }))

/-- TOT_CLR (R359): both totals are zeroed. -/
def execTotClr (s : State) : Host.Outcome State Fault Refusal := s.powered <|
  ok ((s.wr64 MSR_TOTM_LO_KG MSR_TOTM_HI_KG 0).wr64 MSR_TOTA_LO_M2 MSR_TOTA_HI_M2 0)

/-- LOSS_CLR (R353): every loss counter is zeroed. -/
def execLossClr (s : State) : Host.Outcome State Fault Refusal := s.powered <|
  let s1 := (List.range 256).foldl (fun t i => t.wri MSR_LOSS_COUNT i 0) s
  ok ((List.range 16).foldl (fun t i => t.wri MSR_LOSS_NC_COUNT i 0) s1)

/-- A MSR unit reset (R362): delay lines, open step and record queue are emptied, MSR_CTRL.EN is the image's. -/
def State.msrReset (s : State) : State :=
  let s0 : State := { s with msr := { tick := s.clk.now / s.gridNs, results := s.msr.results } }
  let s1 := s0.dmaDiscard 1
  let s2 := (List.range 4).foldl (fun t g => t.lossStart g) s1
  (((s2.wr MSR_CTRL_EN (if (s2.crec1 C_YIELD_EN).isSome then s2.cv1 C_YIELD_EN
    else b2n (!(s2.recs 0xA0 1).isEmpty))).wr MSR_STAT_FILLED 0).wr MSR_MISS_INPUT 0xFF).yShow

/-- A step of device time (R128, R357): the running tick is the one that the new device time lies in. -/
def State.msrStep (s : State) : State :=
  s.msrM (fun m => { m with tick := (s.clk.now - 1000000) / s.gridNs, stepped := true })

end Sys2Proof.Machine
end

