-- ==== Sys2Proof/Machine/Steps.lean ====
section
/-! DEFINITION. A step of device time and what follows it (spec/04_time_and_gnss.md R127, R128). -/

namespace Sys2Proof.Machine

open Sys2Proof

/-- Object times taken before a step are corrected by it (R128): planes, deadlines, waits and held requests move. -/
def State.talStep (s : State) (d : Int) : State :=
  let lane (l : Lane) : Lane := { l with centre := l.centre + d }
  let stage (x : Stage) : Stage :=
    match x with
    | .openWait p b till => .openWait p b (till + d)
    | x => x
  let obj (o : Obj) : Obj := { o with
    stage := stage o.stage
    tc := o.tc + d
    lanes := o.lanes.map (fun l => l.map lane)
    deadline := o.deadline.map (fun t => t + d) }
  let par := s.rd STK_STAT_STEPPAR
  let req (r : StakeReq × Nat) : StakeReq × Nat := ({ r.1 with time := r.1.time + d, steptag := par }, r.2)
  s.talM (fun t => { t with
    herd := t.herd.map (fun p => (p.1, obj p.2))
    held := t.held.map req })

/-- Requests that the pair unit holds or compares move with the stakes. -/
def State.pairStep (s : State) (d : Int) : State :=
  let par := s.rd STK_STAT_STEPPAR
  let req (r : StakeReq × Nat) : StakeReq × Nat := ({ r.1 with time := r.1.time + d, steptag := par }, r.2)
  s.pairM (fun u => { u with cmp := u.cmp.map req, mir := u.mir.map req, held := u.held.map req })

/-- Device time steps by `d`, and the device follows (R128). -/
def State.stepAll (s : State) (d : Int) : State :=
  let s1 := (((s.timeStep d).stkStep d).talStep d).pairStep d
  let s2 := ((s1.afeStep d).sigStep).msrStep
  let s3 := { s2 with gns := { s2.gns with stepSince := true } }
  { s3 with
    can := { s3.can with lastReq := s3.can.lastReq.map (fun p =>
      match s3.crec C_TXBUF_BUF p.1 with
      | some r => (p.1, min p.2 (s3.periodIx r))
      | none => p) } }

/-- STEP (R127, R128): the scheduled step falls at the second boundary. -/
def execStep (s : State) : Host.Outcome State Fault Refusal := s.powered <|
  match s.stepDue with
  | some d => ok (s.stepAll d)
  | none => ok s

end Sys2Proof.Machine
end

