-- ==== Sys2Proof/Machine/Pair.lean ====
section
/-! DEFINITION. The redundant pair: heartbeats, roles, mirroring, takeover and switchover
(spec/15_township_pair.md R485 to R493, R495). -/

namespace Sys2Proof.Machine

open Sys2Proof

/-- Is there a committed pair? -/
def State.pairOn (s : State) : Bool := s.winPresent 31 && (s.crec1 C_PAIRREC_MODE).isSome

/-- The device's side bit. -/
def State.side (s : State) : Nat := s.cv1 C_PAIRREC_SIDE

/-- ROLE changes (R487, R494): a standby drives nothing (R488), a primary drives again. -/
def State.setRole (s : State) (r : Nat) : State :=
  if s.rd PAIR_STAT_ROLE = r then s
  else ((s.wr PAIR_STAT_ROLE r).raise 31 1).stkShow.vlShow.padRefresh

/-- HEARTBEAT (R485): every 2 µs both devices send role, mode, side, health, time, uncertainty and count. The health
bits are a free value. -/
def execHeartbeat (s : State) : Host.Outcome State Fault Refusal := s.powered <|
  if !s.pairOn || s.pair.hbSlot == s.clk.el / 2000 then ok s
  else
    let (h, s1) := s.free 12
    let body := [s.rd PAIR_STAT_ROLE, s.rd PAIR_STAT_MODE, s.side, h % 256] ++ leBytes 8 s.clk.now ++
      leBytes 4 (s.rd TIME_UNC_NS) ++ leBytes 4 s.pair.hbCount
    ok ((s1.pairM (fun p => { p with hbSlot := s.clk.el / 2000, hbCount := (p.hbCount + 1) % 2 ^ 32 })).emit
      (.tie (tieMsg 1 0 body)))

/-- The body of an OUTPUT message (R485): FIO_OUT of both dies, the eight analogue x values. -/
def State.outputBody (s : State) : List Nat :=
  ((List.range 2).flatMap (fun d => leBytes 4 (s.rdij FIO_OUT_ON 0 d))) ++
    (List.range 8).flatMap (fun k => leBytes 4 (listAt (listAt s.fio (k / 4) {}).x (k % 4) 0))

/-- OUTPUT_MESSAGE (R485): the primary sends its commands when one changes and every 1 ms. -/
def execOutputMessage (s : State) : Host.Outcome State Fault Refusal := s.powered <|
  let b := s.outputBody
  if s.pairOn && s.primary && (b != s.pair.outLast || decide (s.pair.outAt + 1000000 ≤ s.clk.el)) then
    ok ((s.pairM (fun p => { p with outLast := b, outAt := s.clk.el })).tieSend 4 1 b)
  else ok s

/-- ALIVE_IN has shown no edge for 3 µs, or is not wired (R486, R491). -/
def State.aliveSilent (s : State) : Bool :=
  s.cv1 C_PAIRREC_ALIVE_IN == 0xFF ||
    match s.pair.lastAlive with
    | some t => decide (t + 3000 ≤ s.clk.el)
    | none => true

/-- PAIR_STAT.ALIVE follows ALIVE_IN. -/
def State.aliveShow (s : State) : State :=
  s.wr PAIR_STAT_ALIVE (b2n (s.cv1 C_PAIRREC_ALIVE_IN != 0xFF && !s.aliveSilent))

/-- ALIVE_OUT_TOGGLE (R486, R493): at each microsecond boundary the pin toggles, and an asked switchover takes place. -/
def execAliveOutToggle (s : State) : Host.Outcome State Fault Refusal := s.powered <|
  if !s.pairOn || s.pair.aliveUs == s.clk.now / 1000 then ok s
  else
    let out := s.cv1 C_PAIRREC_ALIVE_OUT != 0xFF
    let lvl := s.pair.aliveOut != out
    let s1 := (s.pairM (fun p => { p with aliveUs := s.clk.now / 1000, aliveOut := lvl, switching := false })).aliveShow
    let s2 := if out then s1.emit (.aliveOut lvl) else s1
    if s.pair.switching && s.primary then ok (s2.setRole 2) else ok s2.padRefresh

/-- The standby takes over (R492, R493): role, events, time base in Holdover, outputs at their shadow levels, held
requests without a mirrored stake submitted when hot. -/
def State.takeOver (s : State) : State :=
  let s1 := ((s.inc PAIR_TAKEOVERS_V 1).raise 31 0).setRole 1
  let s2 := ((s1.timeM (fun t => { t with holdAt := s.clk.el, uEntry := s.rd TIME_UNC_NS })).setActive 0).raiseIf
    (s.rd TIME_DATUM_STATE != 2) 2 5
  let s3 := (s2.wr TIME_DATUM_STATE 2).stkTakeover
  let s4 := s3.pairM (fun p => { p with held := [], cmp := [], mir := [] })
  if s.rd PAIR_STAT_MODE = 1 then s.pair.held.foldl (fun t q => t.stkIntake q.1 false) s4 else s4

/-- Heartbeats have been missed for 6.5 µs (R491): LINK falls; a standby takes over when ALIVE_IN is silent, and sets
SPLIT while it still toggles. -/
def State.judgeLoss (s : State) : State :=
  if !s.pairOn || decide (s.clk.el < s.pair.lastHb + 6500) then s
  else
    let s1 := ((s.wr PAIR_STAT_LINK 0).raiseIf (s.rd PAIR_STAT_LINK == 1) 31 4).aliveShow
    if !s.standby then s1
    else if s.aliveSilent then s1.takeOver
    else (s1.wr PAIR_STAT_SPLIT 1).raiseIf (s.rd PAIR_STAT_SPLIT == 0) 31 2

/-- PRIMARY_LOST (R491, R492). -/
def execPrimaryLost (s : State) : Host.Outcome State Fault Refusal := s.powered <| ok s.judgeLoss

/-- ALIVE_IN_EDGE (R491): the partner's pin changes its level. -/
def execAliveInEdge (s : State) : Host.Outcome State Fault Refusal := s.powered <|
  let p := s.cv1 C_PAIRREC_ALIVE_IN
  if !s.pairOn || p == 0xFF then ok s
  else
    let s1 := (s.pinM p (fun x => { x with ext := !x.ext })).pairM (fun u => { u with lastAlive := some s.clk.el })
    ok ((s1.aliveShow).judgeLoss).padRefresh

/-- ROLE_DECISION (R487): WAIT_MS after Run the device becomes primary or standby. -/
def execRoleDecision (s : State) : Host.Outcome State Fault Refusal := s.powered <|
  match s.pair.listenFrom with
  | some t =>
    if s.pairOn && s.running && decide (t + s.cv1 C_PAIRREC_WAIT_MS * 1000000 ≤ s.clk.el) then
      let quiet := s.cv1 C_PAIRREC_ALIVE_IN == 0xFF ||
        match s.pair.lastAlive with
        | some e => decide (e < t)
        | none => true
      let first := !s.pair.heardPrimary && (s.side == 0 || (!s.pair.heardAny && quiet))
      ok ((s.pairM (fun p => { p with listenFrom := none })).setRole (if first then 1 else 2))
    else ok s
  | none => ok s

/-- SWITCHOVER (R493): on the primary, with a standby heard, control is handed over at the next microsecond boundary. -/
def execSwitchover (s : State) : Host.Outcome State Fault Refusal := s.powered <|
  if s.pairOn && s.primary && s.rd PAIR_STAT_LINK == 1 then ok (s.pairM (fun p => { p with switching := true })) else ok s

/-- The standby's device time follows the primary's, corrected by the trained latency (R489). A change of more than
1 µs is a step. -/
def State.followTime (s : State) (t : Nat) : State :=
  let d : Int := (t + s.rd PAIR_STAT_LAT_NS : Nat) - (s.clk.now : Int)
  if 1000 < d.natAbs then s.stepAll d
  else { s with clk := { s.clk with now := (t + s.rd PAIR_STAT_LAT_NS) % 2 ^ 64, frac := 0 } }

/-- A heartbeat (R485, R487, R489, R493). A standby that hears its partner claim standby has been handed control. -/
def State.heartbeatIn (s : State) (b : List Nat) (lat : Nat) : State :=
  let role := leAt b 0 1
  let s0 := if s.rd PAIR_STAT_LINK = 0 then (s.wr PAIR_STAT_LINK 1).wr PAIR_STAT_LAT_NS lat else s
  let s1 := s0.pairM (fun p => { p with
    lastHb := s.clk.el
    heardAny := p.heardAny || p.listenFrom.isSome
    heardPrimary := p.heardPrimary || (p.listenFrom.isSome && role == 1) })
  if s.primary && role == 1 && s.side == 1 then s1.setRole 2
  else if s.standby && role == 2 then (s1.setRole 1).stkTakeover
  else if s.standby && role == 1 then s1.followTime (leAt b 4 8)
  else s1

/-- Mirrored stakes reach the standby's intake in the order received (R292). -/
def State.stakesIn (s : State) (b : List Nat) (n : Nat) : State :=
  (List.range n).foldl (fun t k =>
    let q := stakeOf (leAt b (16 * k) 8) (leAt b (16 * k + 8) 8)
    let r := { q with steptag := s.rd STK_STAT_STEPPAR }
    let t1 := t.stkM (fun u => { u with mirror := u.mirror ++ [r] })
    if s.hotStandby then t1.pairMirror r else t1) s

/-- A LOOP message (R489): a hot standby takes u, a warm standby loads the state. -/
def State.loopIn_ (s : State) (b : List Nat) : State :=
  let n := leAt b 0 4
  let w (k : Nat) : Nat := leAt b (4 * k) 4
  if s.hotStandby then s.pairM (fun p => { p with loopU := assocPut p.loopU n (w 1) })
  else (s.loopM n (fun x => { x with
    uP := w 1, r := w 2, v := w 3, i := w 4, d := w 5, bq := [w 6, w 7, w 8, w 9], rSet := true, bump := false,
    first := true, last := s.clk.el })).wri LOOP_OUT_VALUE n (w 1)

/-- An OUTPUT message at a warm standby (R489): commands and x values are loaded. -/
def State.outputsIn (s : State) (b : List Nat) : State :=
  let w (k : Nat) : Nat := leAt b (4 * k) 4
  let s1 := (List.range 2).foldl (fun t d => t.wrij FIO_OUT_ON 0 d (w d)) s
  let s2 := (List.range 2).foldl (fun t d => t.fioM d (fun x => { x with x := (List.range 4).map (fun j => w (2 + 4 * d + j)) })) s1
  let s3 := (List.range 8).foldl (fun t k =>
    match t.crec C_AOUT_AOUT k with
    | some r => if r.v C_AOUT_SOURCE = 0 then t.wrij FIO_AOUTVAL_X (k % 4) (k / 4) (w (2 + k)) else t
    | none => t) s2
  s3.pairM (fun p => { p with outs := (List.range 10).map w })

/-- TIE_MESSAGE (R485, R489, R490): a message with a wrong CRC is discarded and counted. `lat` is the one-way latency
that link training has fixed, in ns. -/
def execTieMessage (message : List Nat) (lat : BitVec 16) (s : State) : Host.Outcome State Fault Refusal := s.powered <|
  let m := message.map (fun x => x % 256)
  let b := m.drop 8
  if !s.pairOn then ok s
  else if m.length < 8 || leAt m 2 2 != b.length || leAt m 4 4 != crc32c (m.take 4 ++ [0, 0, 0, 0] ++ b) then
    ok (s.inc PAIR_ERR_V 1)
  else
    let n := leAt m 1 1
    let s1 := match leAt m 0 1 with
      | 1 => s.heartbeatIn b lat.toNat
      | 2 => if s.standby then s.stakesIn b (min n (b.length / 16)) else s
      | 3 => if s.standby && decide (leAt b 0 4 < 64) then s.loopIn_ b else s
      | 4 => if s.warmStandby then s.outputsIn b else s
      | _ => s
    ok (if s1.hotStandby then s1.pairAge else s1)

/-- A PAIR unit reset (R495): MODE and the comparison are reloaded; ROLE, heartbeats and ALIVE_OUT go on. -/
def State.pairReset (s : State) : State :=
  (s.wr PAIR_STAT_MODE (s.cv1 C_PAIRREC_MODE)).pairM (fun p => { p with
    cmp := [], mir := [], loopSince := List.replicate 64 none })

/-- The pair at commit (R99, R487, R495): ROLE is kept while the image has a pair; without a role the device listens
from Run on. -/
def State.pairCommit (s : State) : State :=
  if s.pairOn then
    let s1 := s.pairReset
    if s1.rd PAIR_STAT_ROLE = 0 then
      s1.pairM (fun p => { p with listenFrom := some s.clk.el, heardAny := false, heardPrimary := false })
    else s1
  else (((s.wr PAIR_STAT_ROLE 0).wr PAIR_STAT_MODE 0).stkShow.vlShow).pairM (fun p => { hbCount := p.hbCount })

end Sys2Proof.Machine
end

