-- ==== Sys2Proof/Machine/Pixel.lean ====
section
/-! DEFINITION. Pixel ports and transits (spec/05_pixel_transits.md). -/

namespace Sys2Proof.Machine

open Sys2Proof

/-- Apply `f` to pixel port `n`. -/
def State.portM (s : State) (n : Nat) (f : PixPort → PixPort) : State :=
  { s with pix := { s.pix with ports := listMod s.pix.ports n f } }

/-- A TRN_LOSSn field increments (R194). -/
def State.trnLoss (s : State) (f : Fld) (t n : Nat) : State := if n = 0 then s else (s.inci f t n).raise 15 t

/-- A TRN_TRGn field increments (R194). -/
def State.trnTrg (s : State) (f : Fld) (t n : Nat) : State := if n = 0 then s else (s.inci f t n).raise 15 (8 + t)

/-- A PIX_ERRn field increments (R164). -/
def State.pixErr (s : State) (f : Fld) (n : Nat) : State := (s.inci f n 1).raise 14 n

/-- The transit bound to virtual channel `vc` of port `n` (R165). -/
def State.boundTo (s : State) (n vc : Nat) : Option CfgRec :=
  (s.recs 0x60 1).find? (fun r => r.v C_STREAM_PORT == n && r.v C_STREAM_VC == vc)

/-! ## Ports (R162, R163) -/

/-- Widened samples of a long packet's payload (R168, with the packings of the CSI-2 data types). -/
def unpackRaw (dt : Nat) : List Nat → List Nat
  | a :: b :: c :: d :: e :: t =>
    if dt = 0x2A then [a * 16, b * 16, c * 16, d * 16, e * 16] ++ unpackRaw dt t
    else if dt = 0x2B then
      [(a * 4 + bitsOf e 1 0) * 4, (b * 4 + bitsOf e 3 2) * 4, (c * 4 + bitsOf e 5 4) * 4,
       (d * 4 + bitsOf e 7 6) * 4] ++ unpackRaw dt t
    else (a * 16 + c % 16) :: (b * 16 + c / 16 % 16) :: unpackRaw dt (d :: e :: t)
  | l =>
    if dt = 0x2A then l.map (· * 16)
    else if dt = 0x2B then []
    else match l with
      | a :: b :: c :: _ => [a * 16 + c % 16, b * 16 + c / 16 % 16]
      | _ => []

/-- Send an item to transit `t`. -/
def State.toTransit (s : State) (t : Nat) (i : PixItem) : State :=
  s.trnM t (fun x => { x with inq := x.inq ++ [i] })

/-- A packet with a usable header on port `n` (R162). -/
def State.pixPacket (s : State) (n : Nat) (p : CsiPacket) : State :=
  let s1 := if p.dt = 0 then s.wri PIX_STAT_VC_SEEN n (setBit (s.rdi PIX_STAT_VC_SEEN n) p.vc true) else s
  match s1.boundTo n p.vc with
  | none => s1
  | some r =>
    let t := r.v C_STREAM_TRANSIT
    if p.dt = 0 then s1.toTransit t .frameStart
    else if p.dt = 1 then s1.toTransit t .frameEnd
    else if p.dt < 0x10 || p.dt = 0x12 then s1
    else if p.dt = r.v C_STREAM_DT then
      if p.crcOk then
        (((s1.wrapi PIX_LINES_COUNT n 1).portM n (fun q => { q with lastLong := s.clk.el, idled := false })).toTransit t
          (.band (unpackRaw p.dt p.payload)))
      else (s1.pixErr PIX_ERR_CRC n).toTransit t .lost
    else s1.pixErr PIX_ERR_DT n

/-- PACKET (R162): what a port makes of a packet. -/
def execPacket (port : Fin 2) (pkt : CsiPacket) (s : State) : Host.Outcome State Fault Refusal := s.powered <|
  let n := port.val
  if !s.winPresent 14 || s.rdi PIX_CTRL_EN n == 0 then ok s
  else
    let s0 := (s.wri PIX_STAT_CLK_HS n (s.cv C_PORT_CLK_CONT n)).wri PIX_STAT_SKEW_DONE n
      (if pkt.skew then 1 else s.rdi PIX_STAT_SKEW_DONE n)
    if pkt.sot then ok (s0.pixErr PIX_ERR_SOT n)
    else if pkt.ecc = 2 then ok (s0.pixErr PIX_ERR_HDR n)
    else
      let s1 := if pkt.ecc = 1 then s0.inci PIX_ECC1_COUNT n 1 else s0
      if pkt.vcx then ok (s1.pixErr PIX_ERR_DT n) else ok (s1.pixPacket n pkt)

/-- A write of EN of PIX_CTRLn (R163). -/
def State.portEnable (s : State) (n v : Nat) : State :=
  if v = 1 && s.rdi PIX_CTRL_EN n == 0 then
    (((s.wri PIX_CTRL_EN n 1).wri PIX_STAT_VC_SEEN n 0).wri PIX_STAT_SKEW_DONE n 0).portM n
      (fun q => { q with lastLong := s.clk.el, idled := false })
  else s.wri PIX_CTRL_EN n v

/-- PORT_ENABLE (R163). -/
def execPortEnable (port : Fin 2) (en : Bool) (s : State) : Host.Outcome State Fault Refusal := s.powered <|
  if s.winPresent 14 then ok (s.portEnable port.val (b2n en)) else ok s

/-- IDLE (R164): an enabled port has passed no long packet for 100 ms. -/
def execIdle (port : Fin 2) (s : State) : Host.Outcome State Fault Refusal := s.powered <|
  let n := port.val
  let p := listAt s.pix.ports n {}
  if s.winPresent 14 && s.rdi PIX_CTRL_EN n == 1 && !p.idled && decide (p.lastLong + 100000000 ≤ s.clk.el) then
    ok ((s.portM n (fun q => { q with idled := true })).raise 14 (2 + n))
  else ok s

/-! ## Dropped and skipped lines (R183) -/

/-- Set a flag of every open component. -/
def flagAll (f : Nat) (l : List Comp) : List Comp := l.map (fun c => { c with flags := setBit c.flags f true })

/-- Dropped and skipped lines at the head of the line list act on the open components. -/
def settle : List TLine → List Comp → List TLine × List Comp
  | [], cs => ([], cs)
  | l :: t, cs =>
    if l.kind = 1 then settle t (flagAll 3 cs)
    else if l.kind = 2 && l.full then settle t (flagAll 5 cs)
    else (l :: t, cs)

/-- Let the head of the line list act. -/
def Transit.settled (x : Transit) : Transit :=
  let (l, c) := settle x.lines x.comps
  { x with lines := l, comps := c }

/-- Change the scan line in assembly, when it is still listed. -/
def Transit.curMod (x : Transit) (f : TLine → TLine) : Transit :=
  { x with lines := x.lines.map (fun l => if l.num + 1 = x.next then f l else l) }

/-- Is the scan line in assembly listed and not dropped? -/
def Transit.curKept (x : Transit) : Bool := x.lines.any (fun l => l.num + 1 == x.next && l.kind != 1)

/-- The scan line in assembly is dropped: its slot is free, and it acts in its place. -/
def Transit.dropLine (x : Transit) : Transit :=
  let y := if x.started then x.curMod (fun l => { l with kind := 1 }) else x
  ({ y with doomed := true }).settled

/-! ## Assembly (R166 to R171, R188, R190) -/

/-- Input-buffer slots held. -/
def Transit.held (x : Transit) : List Nat := (x.lines.filter (fun l => l.kind == 0)).map (fun l => l.slot)

/-- The decimation factor of transit `t` at the enforced throttle level (R190). -/
def State.decimK (s : State) (t : Nat) : Nat :=
  let lv := s.rd THM_STAT_ENFORCED
  if lv = 0 then 1 else bitsOf (s.cv C_STREAM_DECIM t) (4 * lv - 1) (4 * lv - 4)

/-- A scan line starts (R169, R170, R188, R190): number, line time, bank, factor, slot. -/
def State.lineStart (s : State) (t : Nat) : State :=
  let x := s.trn t
  let off := sint 32 (s.cv C_STREAM_EXP_OFFSET t)
  let (time, sig) := match x.edges, x.prev with
    | e :: _, _ => (ucode 64 ((e.1 : Int) + off), e.2)
    | [], some p => ((p.1 + s.cv C_STREAM_PERIOD t) % 2 ^ 64, p.2)
    | [], none => (0, s.time.stepSum)
  let est := x.edges.isEmpty
  let k := s.decimK t
  let skip := x.next % 2 ^ 32 % k != 0
  let bank := s.rdi TRN_CTRL_BANK t
  let held := x.held
  let full := !skip && decide (2 ≤ held.length)
  let slot := if held.contains 0 then 1 else 0
  let kind := if full then 1 else if skip then 2 else 0
  let s1 := ((s.trnTrg TRN_TRG_MISS t (b2n est)).wri TRN_STAT_DECIM t k).wri TRN_STAT_BANK t bank
  let s2 := s1.trnM t (fun x => ({ x with
    edges := x.edges.drop 1, prev := some (time, sig), next := x.next + 1, started := true
    doomed := x.doomed || full
    lines := x.lines ++ [({ num := x.next, time, sig, est, k, bank, slot, kind } : TLine)] } : Transit).settled)
  s2.trnLoss TRN_LOSS_LINEDROP t (b2n full)

/-- The input-buffer address of band `b` of a slot of transit `t` (R172; band-major, log 14). -/
def inBuf (t slot b : Nat) : Nat := 0xA00000 + 0x20000 * t + 0x10000 * slot + 0x4000 * b

/-- Write the samples of a band line to the input buffer, 16 bits each. -/
def State.storeBand (s : State) (t slot b : Nat) (px : List Nat) : State :=
  s.memPutBytes (inBuf t slot b) (px.flatMap (leBytes 2))

/-- Processing time of a scan line in ns (R188). -/
def State.lineNs (s : State) (t : Nat) : Nat :=
  let cyc := s.cv C_STREAM_LINE_PX t * s.cv C_STREAM_BANDS t / 2 + 24
  (cyc * 1000 + s.fclkMHz - 1) / s.fclkMHz

/-- All band lines of the scan line have been handled. -/
def State.lineEnd (s : State) (t : Nat) : State :=
  s.trnM t (fun x =>
    let done := max x.busyTill s.clk.el + s.lineNs t
    let y := if x.started then x.curMod (fun l => { l with full := true, ready := done }) else x
    let y1 := if x.started && !x.doomed then { y with busyTill := done } else y
    ({ y1 with pos := 0, started := false, doomed := false }).settled)

/-- Move on by one position. -/
def State.nextPos (s : State) (t : Nat) : State :=
  let s1 := s.trnM t (fun x => { x with pos := x.pos + 1 })
  if s.cv C_STREAM_BANDS t ≤ (s1.trn t).pos then s1.lineEnd t else s1

/-- A band line reaches an aligned transit (R166, R167). -/
def State.bandLine (s : State) (t : Nat) (px : List Nat) : State :=
  let w := s.cv C_STREAM_LINE_PX t
  let s1 := s.trnLoss TRN_LOSS_LENERR t (b2n (px.length != w))
  let x0 := s1.trn t
  let s2 := if x0.started then s1
    else
      let s' := s1.lineStart t
      if x0.doomed then
        (s'.trnM t Transit.dropLine).trnLoss TRN_LOSS_LINEDROP t (b2n (s'.trn t).curKept)
      else s'
  let x := s2.trn t
  let s3 := match x.lines.find? (fun l => l.num + 1 == x.next) with
    | some l =>
      if l.kind = 0 && !x.doomed then
        let b := bitsOf (s.cv C_STREAM_BAND_ORDER t) (2 * x.pos + 1) (2 * x.pos)
        (s2.storeBand t l.slot b (px.take w)).trnM t (fun y => y.curMod (fun l =>
          { l with lenErr := l.lenErr || px.length != w, len := min l.len (min w px.length) }))
      else s2
    | none => s2
  s3.nextPos t

/-- A band line was lost to a CRC error (R162, R166). -/
def State.bandLost (s : State) (t : Nat) : State :=
  let x := s.trn t
  let s1 := if x.doomed then s
    else (s.trnM t Transit.dropLine).trnLoss TRN_LOSS_LINEDROP t (b2n x.started)
  s1.nextPos t

/-- Take the item at the head of a transit's input. -/
def State.popItem (s : State) (t : Nat) : State := s.trnM t (fun x => { x with inq := x.inq.drop 1 })

/-- The scan line in progress is dropped and counted in BANDERR, unless it is condemned already (R166). -/
def State.bandErr (s : State) (t : Nat) : State :=
  let x := s.trn t
  if x.pos = 0 || x.doomed then s else (s.trnM t Transit.dropLine).trnLoss TRN_LOSS_BANDERR t 1

/-- FRAME_START (R166, R171): the stream is aligned, and the edge-time queue trimmed. -/
def execFrameStart (transit : Fin 8) (s : State) : Host.Outcome State Fault Refusal := s.powered <|
  let t := transit.val
  match (s.trn t).inq with
  | .frameStart :: _ =>
    let s1 := s.popItem t
    if !s1.trnOn t then ok s1
    else
      let s2 := s1.bandErr t
      let lag := s.cv C_STREAM_TRG_LAG t
      let slip := (s2.trn t).edges.length - lag
      let s3 := s2.trnM t (fun x => ({ x with
        pos := 0, started := false, doomed := false, edges := x.edges.drop slip }).settled)
      ok ((s3.wri TRN_STAT_ALIGNED t 1).trnTrg TRN_TRG_SLIP t slip)
  | _ => ok s

/-- FRAME_END (R166): drops a scan line that it splits. -/
def execFrameEnd (transit : Fin 8) (s : State) : Host.Outcome State Fault Refusal := s.powered <|
  let t := transit.val
  match (s.trn t).inq with
  | .frameEnd :: _ =>
    let s1 := s.popItem t
    if s1.trnOn t && s1.rdi TRN_STAT_ALIGNED t == 1 then ok (s1.bandErr t) else ok s1
  | _ => ok s

/-- BAND_LINE (R166 to R170, R188): the band line at the head of the transit's input is placed, or drops its
scan line when it was lost. -/
def execBandLine (transit : Fin 8) (s : State) : Host.Outcome State Fault Refusal := s.powered <|
  let t := transit.val
  match (s.trn t).inq with
  | .band px :: _ =>
    let s1 := s.popItem t
    if !s1.trnOn t then ok s1
    else if s1.rdi TRN_STAT_ALIGNED t == 0 then ok (s1.trnLoss TRN_LOSS_BANDERR t 1)
    else ok (s1.bandLine t px)
  | .lost :: _ =>
    let s1 := s.popItem t
    if s1.trnOn t && s1.rdi TRN_STAT_ALIGNED t == 1 then ok (s1.bandLost t) else ok s1
  | _ => ok s

/-! ## Edge times (R170, R171) -/

/-- EDGE_TIME (R170): an edge time reaches the queue; a full queue discards its oldest entry. -/
def execEdgeTime (transit : Fin 8) (s : State) : Host.Outcome State Fault Refusal := s.powered <|
  let t := transit.val
  match (s.trn t).edgeIn with
  | [] => ok s
  | e :: rest =>
    let lose := decide (16 ≤ (s.trn t).edges.length)
    let s1 := s.trnM t (fun x => { x with edgeIn := rest, edges := (if lose then x.edges.drop 1 else x.edges) ++ [e] })
    ok (s1.trnTrg TRN_TRG_OVER t (b2n lose))

/-- Empty the edge-time queue (R171). -/
def State.resync (s : State) (t : Nat) : State := s.trnM t (fun x => { x with edges := [] })

/-- RESYNC (R171). -/
def execResync (transit : Fin 8) (s : State) : Host.Outcome State Fault Refusal := s.powered <|
  if s.winPresent 15 then ok (s.resync transit.val) else ok s

/-- Open components and lines in work are discarded; the next band line waits for a Frame Start. -/
def State.trnStop (s : State) (t : Nat) : State :=
  let n := (s.trn t).comps.length
  ((s.trnM t (fun x => { x with
    comps := [], oversize := [], lines := [], pos := 0, started := false, doomed := false })).wri TRN_STAT_ALIGNED t 0).trnLoss
      TRN_LOSS_OBJDROP t n

/-- A write of TRN_CTRLn (R171, R174 and the EN field). -/
def State.trnCtrl (s : State) (t v : Nat) : State :=
  let s1 := if bitAt v 31 then s.resync t else s
  let s2 := (s1.wri TRN_CTRL_BANK t (bitsOf v 1 1)).wri TRN_CTRL_EN t (v % 2)
  if s.rdi TRN_CTRL_EN t == 1 && v % 2 == 0 then s2.trnStop t else s2

/-- TRANSIT_EN_WRITE. -/
def execTransitEnWrite (transit : Fin 8) (value : Word) (s : State) : Host.Outcome State Fault Refusal := s.powered <|
  if s.winPresent 15 then ok (s.trnCtrl transit.val value.toNat) else ok s

/-! ## Pixels (R173 to R178) -/

/-- Half-words of a list of 64-bit words; an uncorrectable word gives zeros. -/
def halves (l : List (Option Nat)) : List Nat :=
  l.flatMap (fun w =>
    let v := w.getD 0
    [v % 65536, v / 65536 % 65536, v / 2 ^ 32 % 65536, v / 2 ^ 48 % 65536])

/-- Flat-field entries of a list of 64-bit words; an uncorrectable word gives gain 1.0 and offset 0. -/
def ffEntries (l : List (Option Nat)) : List Nat :=
  l.flatMap (fun w =>
    let v := w.getD (0x4000 + 0x4000 * 2 ^ 32)
    [v % 2 ^ 32, v / 2 ^ 32 % 2 ^ 32])

/-- A corrected value and whether it is saturated (R173). -/
def correct (entry p : Nat) : Nat × Bool :=
  let g : Int := entry % 65536
  let o := sint 16 (entry / 65536)
  let c := (2 * (16 * (p : Int) - o) * g + 2 ^ 18) / 2 ^ 19
  if c < 0 then (0, false) else if 4095 < c then (4095, true) else (c.toNat, false)

/-- Samples, corrected values and saturation of a band, and its line-store reads in error. -/
structure BandPx where
  raw : List Nat
  cor : List Nat
  sat : List Bool
  bad : Nat
  deriving DecidableEq, Repr

/-- Read and correct band `b` of a line (R168, R173, R175). -/
def State.readBand (s : State) (t : Nat) (l : TLine) (b : Nat) : BandPx × State :=
  let w := s.cv C_STREAM_LINE_PX t
  let full := match s.cv C_STREAM_DT t with
    | 0x2A => 4080
    | 0x2B => 4092
    | _ => 4095
  let (rw, s1) := s.memReads (inBuf t l.slot b) ((w + 3) / 4)
  let raw := (halves rw).take w
  let bad1 := (rw.filter (·.isNone)).length
  if s.cv C_STREAM_FF_EN t = 1 then
    let (fw, s2) := s1.memReads (0x800000 + 0x40000 * t + 0x20000 * l.bank + 4 * (b * 8192)) ((w + 1) / 2)
    let cs := (raw.zip (ffEntries fw)).map (fun p => correct p.2 p.1)
    (⟨raw, cs.map (·.1), (raw.zip cs).map (fun p => p.1 == full || p.2.2), bad1 + (fw.filter (·.isNone)).length⟩, s2)
  else (⟨raw, raw, raw.map (· == full), bad1⟩, s1)

/-- Read and correct bands `b` to `n − 1`. -/
def State.readBands (s : State) (t : Nat) (l : TLine) (b : Nat) : Nat → List BandPx × State
  | 0 => ([], s)
  | n + 1 =>
    let (p, s1) := s.readBand t l b
    let (r, s2) := s1.readBands t l (b + 1) n
    (p :: r, s2)

/-- Signed 16-bit saturation. -/
def sat16 (i : Int) : Int := limI (-32768) 32767 i

/-- Weighted sum of the bands plus bias, 12 fraction bits (R177). -/
def weighted (r : CfgRec) (w0 bias : CRef) (c : List Nat) : Int :=
  ((List.range 4).map (fun k => sint 16 (r.v { w0 with field := w0.field + k }) * (listAt c k 0 : Int))).sum +
    sint 32 (r.v bias)

/-- An index plane's value at a pixel (R177). -/
def planeValue (r : CfgRec) (c : List Nat) : Int :=
  let n := weighted r C_COMBINE_A0 C_COMBINE_A_BIAS c
  let sh : Int := (2 ^ r.v C_COMBINE_SHIFT : Nat)
  if r.v C_COMBINE_MODE = 0 then sat16 (n / sh)
  else
    let d := weighted r C_COMBINE_E0 C_COMBINE_E_BIAS c
    if d ≤ 0 then -32768 else sat16 ((2 * n * sh + d) / (2 * d))

/-- Does a box match a pixel with axis values `v` (R178)? -/
def boxMatch (r : CfgRec) (v : Nat → Int) : Bool :=
  let used := ((List.range 4).map (fun i => (i, bitsOf (r.v C_BOX_AXES) (4 * i + 3) (4 * i)))).filter (fun p => p.2 != 15)
  let pq (f : CRef) (i : Nat) : Nat := r.v { f with field := f.field + i }
  match r.v C_BOX_SHAPE with
  | 0 => used.all (fun p => decide (sint 16 (pq C_BOX_P0 p.1) ≤ v p.2) && decide (v p.2 ≤ sint 16 (pq C_BOX_Q0 p.1)))
  | 1 =>
    let qs := used.map (fun p => ((pq C_BOX_Q0 p.1 : Int) * pq C_BOX_Q0 p.1))
    let prod := qs.foldl (· * ·) 1
    let terms := used.map (fun p =>
      let d := v p.2 - sint 16 (pq C_BOX_P0 p.1)
      let q : Int := pq C_BOX_Q0 p.1
      d * d * (prod / (q * q)))
    decide (terms.sum ≤ prod)
  | _ => false

/-- The class of a pixel with corrected values `c` (R178): 0 background, 1 object, 2 defect. -/
def State.pixClass (s : State) (t : Nat) (boxes planes : List CfgRec) (c : List Nat) : Nat :=
  let v (a : Nat) : Int :=
    if a < 4 then (listAt c a 0 : Int)
    else match planes.find? (fun r => r.v C_COMBINE_PLANE == a - 4) with
      | some r => planeValue r c
      | none => 0
  match boxes.find? (fun r => boxMatch r v) with
  | some r => r.v C_BOX_CLASS
  | none => s.cv C_STREAM_DEFAULT_CLASS t

/-- A classified pixel: column, class, corrected values, saturated. -/
structure Pixel where
  x : Nat
  cls : Nat
  c : List Nat
  sat : Bool
  deriving DecidableEq, Repr

/-- The boxes of transit `t` in index order. -/
def State.boxesOf (s : State) (t : Nat) : List CfgRec :=
  (List.range 8).filterMap (fun b => (s.recs 0x60 3).find? (fun r => r.v C_BOX_TRANSIT == t && r.v C_BOX_BOX == b))

/-- Classify the pixels of a line (R167, R176, R178). -/
def State.classify (s : State) (t : Nat) (l : TLine) (bands : List BandPx) : List Pixel :=
  let boxes := s.boxesOf t
  let planes := (s.recs 0x60 2).filter (fun r => r.v C_COMBINE_TRANSIT == t)
  let lo := s.cv C_STREAM_X_START t
  let hi := s.cv C_STREAM_X_END t
  ((List.range (s.cv C_STREAM_LINE_PX t)).map (fun x =>
    let c := bands.map (fun b => listAt b.cor x 0)
    let bg := decide (x < lo) || decide (hi < x) || decide (l.len ≤ x)
    ⟨x, if bg then 0 else s.pixClass t boxes planes c, c, bands.any (fun b => listAt b.sat x false)⟩))

/-! ## Components (R179 to R187) -/

/-- The runs of a line: maximal lists of adjacent non-background pixels. -/
def runsOf : List Pixel → List (List Pixel)
  | [] => []
  | p :: t =>
    if p.cls = 0 then runsOf t
    else
      match runsOf t with
      | [] => [[p]]
      | (q :: r) :: rest => if q.x = p.x + 1 then (p :: q :: r) :: rest else [p] :: (q :: r) :: rest
      | [] :: rest => [p] :: rest

/-- 8-connection of column spans on neighbouring lines (R179). -/
def spanTouch (a b : Nat × Nat) : Bool := decide (a.1 ≤ b.2 + 1) && decide (b.1 ≤ a.2 + 1)

/-- Columns of a run. -/
def runSpan (r : List Pixel) : Nat × Nat := ((r.head?.map (·.x)).getD 0, (r.getLast?.map (·.x)).getD 0)

/-- Add a run of line `l` to a component (R185, R186). -/
def Comp.addRun (c : Comp) (l : TLine) (bands lo hi : Nat) (r : List Pixel) : Comp :=
  let sp := runSpan r
  let xs := r.map (·.x)
  let k := l.k
  let y := l.num
  let m := r.length
  let edge := decide (sp.1 ≤ lo) || decide (hi ≤ sp.2)
  let fl := setBit c.flags 2 (bitAt c.flags 2 || edge)
  { c with
    flags := setBit fl 6 (bitAt fl 6 || r.any (·.sat))
    k := max c.k k
    new := c.new ++ [sp]
    xmin := min c.xmin sp.1, xmax := max c.xmax sp.2
    n := c.n + k * m
    sx := c.sx + k * xs.sum
    sy := c.sy + k * m * y
    sxx := c.sxx + k * (xs.map (fun x => x * x)).sum
    syy := c.syy + k * m * y * y
    sxy := c.sxy + k * xs.sum * y
    defects := c.defects + k * (r.filter (fun p => p.cls == 2)).length
    sum := (List.range 4).map (fun b => listAt c.sum b 0 +
      (if b < bands then k * (r.map (fun p => listAt p.c b 0)).sum else 0))
    sq := (List.range 4).map (fun b => listAt c.sq b 0 +
      (if b < bands then k * (r.map (fun p => listAt p.c b 0 * listAt p.c b 0)).sum else 0)) }

/-- Merge two components (R179, R186). -/
def Comp.merge (a b : Comp) : Comp :=
  let z (f : Comp → List Nat) : List Nat := (List.range 4).map (fun i => listAt (f a) i 0 + listAt (f b) i 0)
  { order := min a.order b.order
    flags := a.flags ||| b.flags
    k := max a.k b.k
    first := min a.first b.first
    last := max a.last b.last
    time := if a.last < b.last then b.time else a.time
    sig := if a.last < b.last then b.sig else a.sig
    est := if a.last < b.last then b.est else a.est
    empty := min a.empty b.empty
    foot := a.foot ++ b.foot
    new := a.new ++ b.new
    xmin := min a.xmin b.xmin
    xmax := max a.xmax b.xmax
    n := a.n + b.n
    sx := a.sx + b.sx
    sy := a.sy + b.sy
    sxx := a.sxx + b.sxx
    syy := a.syy + b.syy
    sxy := a.sxy + b.sxy
    defects := a.defects + b.defects
    sum := z (·.sum)
    sq := z (·.sq) }

/-- Component tracking within a line: components, new slots left, next order, overflow object. -/
structure Track where
  comps : List Comp
  room : Nat
  order : Nat
  over? : Option Comp

/-- One run of a line (R179, R181, R182). -/
def Track.run (l : TLine) (bands lo hi : Nat) (oversize : List (Nat × Nat)) (k : Track) (r : List Pixel) : Track :=
  let sp := runSpan r
  let touched := k.comps.filter (fun c => c.foot.any (spanTouch sp))
  let rest := k.comps.filter (fun c => !c.foot.any (spanTouch sp))
  let fresh (o : Nat) : Comp := { order := o, first := l.num, last := l.num, time := l.time, sig := l.sig, est := l.est }
  match touched with
  | c :: cs => { k with comps := (cs.foldl Comp.merge c).addRun l bands lo hi r :: rest }
  | [] =>
    if k.room = 0 then
      let c := k.over?.getD { fresh k.order with flags := 1 }
      { k with over? := some (c.addRun l bands lo hi r) }
    else
      let c := { fresh k.order with flags := if oversize.any (spanTouch sp) then 2 else 0 }
      { k with comps := c.addRun l bands lo hi r :: k.comps, room := k.room - 1, order := k.order + 1 }

/-- A component at the end of a processed line: its footprint moves on, or it counts an empty line. -/
def Comp.lineDone (l : TLine) (c : Comp) : Comp :=
  if c.new.isEmpty then { c with empty := c.empty + 1 }
  else { c with foot := c.new, new := [], last := l.num, time := l.time, sig := l.sig, est := l.est, empty := 0 }

/-- HEIGHT of a component. -/
def Comp.height (c : Comp) : Nat := c.last - c.first + 1

/-- A moment (n × s − a × b) / n², rounded to binary32 once (R185). -/
def moment (n s a b : Nat) : Nat :=
  toB32 (FV.div f32 (FV.ofInt ((n : Int) * s - (a : Int) * b)) (FV.ofInt ((n : Int) * n)))

/-- The fragment summary of a closed component as fourteen words (R184 to R186; HEIGHT holds at most its 1,023), and as a fifteenth the steps of
device time that its line time already holds (R128). -/
def Comp.summary (c : Comp) (t bands : Nat) : List Nat :=
  let h := c.height
  let n := c.n
  let y0 := c.first
  let sy := c.sy - n * y0
  let syy := (c.syy + n * y0 * y0) - 2 * y0 * c.sy
  let sxy := c.sxy - y0 * c.sx
  let cx := (32 * c.sx + n) / (2 * n)
  let cy := (32 * ((h - 1) * n - sy) + n) / (2 * n)
  let fl := setBit c.flags 4 c.est
  [t + fl * 2 ^ 8 + c.k * 2 ^ 16 + bands * 2 ^ 20 + c.last % 2 ^ 32 * 2 ^ 32,
   c.time,
   c.xmin + c.xmax * 2 ^ 13 + min 1023 h * 2 ^ 26 + n * 2 ^ 36,
   cx + cy * 2 ^ 24,
   c.defects + moment n c.sxx c.sx c.sx * 2 ^ 32,
   moment n syy sy sy + moment n sxy c.sx sy * 2 ^ 32] ++ c.sum ++ c.sq ++ [ucode 64 c.sig]

/-- Insert by ascending X_MIN, then opening order (R187). -/
def compInsert (c : Comp) : List Comp → List Comp
  | [] => [c]
  | x :: t => if c.xmin < x.xmin || (c.xmin == x.xmin && decide (c.order < x.order)) then c :: x :: t else x :: compInsert c t

/-- Emit one summary to the tally engine's queue, or discard it (R187, R194). -/
def State.emitSummary (s : State) (t : Nat) (c : Comp) : State :=
  if 256 ≤ (s.trn t).sums.length then s.trnLoss TRN_LOSS_OBJDROP t 1
  else
    let s1 := (s.trnM t (fun x => { x with sums := x.sums ++ [c.summary t (s.cv C_STREAM_BANDS t)] })).wrapi TRN_OBJ_COUNT t 1
    let s2 := if bitAt c.flags 0 then s1.inci TRN_BIG_OVERFLOW t 1 else s1
    let s3 := if bitAt c.flags 1 then s2.inci TRN_BIG_OVERSIZE t 1 else s2
    s3.raiseIf (bitAt c.flags 0 || bitAt c.flags 1) 15 (16 + t)

/-! ## Snapshots (R191 to R193) -/

/-- Staged records move to DMA channel 5 one at a time; a request ends when COUNT have been handed over. -/
def State.snapHand (s : State) : State :=
  match s.pix.stage with
  | (t, rec) :: rest =>
    if s.dmaWaiting 5 = 0 then
      let s1 := ({ s with pix := { s.pix with stage := rest } }).dmaReady 5 rec
      let s2 := s1.trnM t (fun x => { x with handed := x.handed + 1 })
      if max 1 (s.rdi TRN_SNAP_COUNT t) ≤ (s2.trn t).handed then (s2.wri TRN_SNAP_GO t 0).raise 15 (24 + t) else s2
    else s
  | [] => s

/-- Staging slots of transit `t` in use: records staged, and the one that channel 5 still holds. -/
def State.staged (s : State) (t : Nat) : Nat :=
  (s.pix.stage.filter (fun p => p.1 == t)).length +
    ((listAt s.host.dma 5 {}).ready.filter (fun r => listAt r 4 0 == t)).length

/-- The record of a captured line (R192). -/
def State.snapRecord (s : State) (t : Nat) (l : TLine) (bands : List BandPx) (memErr : Bool) : List Nat :=
  let corr := s.rdi TRN_SNAP_CORR t == 1
  let mask := s.rdi TRN_SNAP_BANDMASK t % 2 ^ bands.length
  let w := s.cv C_STREAM_LINE_PX t
  let sel := ((List.range bands.length).zip bands).filter (fun p => bitAt mask p.1)
  let data := sel.flatMap (fun p =>
    let d := ((if corr then p.2.cor else p.2.raw).take w).flatMap (leBytes 2)
    d ++ List.replicate ((8 - d.length % 8) % 8) 0)
  let hdr := leBytes 4 0x4E535850 ++ [t, b2n corr + 2 * b2n l.est + 4 * b2n l.lenErr + 8 * b2n memErr, mask, 0] ++
    leBytes 2 w ++ [0, 0] ++ leBytes 4 (l.num % 2 ^ 32) ++ leBytes 8 l.time ++ leBytes 4 data.length
  hdr ++ leBytes 4 (crc32c (hdr ++ data)) ++ data

/-- Capture a processed line where a request wants it (R191, R193). -/
def State.snapLine (s : State) (t : Nat) (l : TLine) (bands : List BandPx) (memErr : Bool) : State :=
  let wanted := max 1 (s.rdi TRN_SNAP_COUNT t)
  let taken := (s.trn t).handed + (s.pix.stage.filter (fun p => p.1 == t)).length
  if s.rdi TRN_SNAP_GO t == 1 && decide (taken < wanted) && decide ((s.trn t).snapNext ≤ l.num) then
    let s1 := s.trnM t (fun x => { x with snapNext := l.num + max 1 (s.rdi TRN_SNAP_EVERY t) })
    if 2 ≤ s.staged t then s1.inci TRN_SNAP_SKIP_COUNT t 1
    else ({ s1 with pix := { s1.pix with stage := s1.pix.stage ++ [(t, s.snapRecord t l bands memErr)] } }).snapHand
  else s

/-- A write of TRN_SNAPn (R191); ignored while a request runs. -/
def State.snapGo (s : State) (t v : Nat) : State :=
  if s.rdi TRN_SNAP_GO t == 1 then s
  else
    let s1 := (((s.wri TRN_SNAP_CORR t (bitsOf v 30 30)).wri TRN_SNAP_BANDMASK t (bitsOf v 27 24)).wri TRN_SNAP_EVERY t
      (max 1 (bitsOf v 23 8))).wri TRN_SNAP_COUNT t (max 1 (bitsOf v 7 0))
    if bitAt v 31 then
      let next := (s.trn t).next
      let at_ := s.rdi TRN_SNAP_AT_LINE t
      let ahead := (at_ + 2 ^ 32 - next % 2 ^ 32) % 2 ^ 32
      let first := if at_ = 0xFFFFFFFF || 2 ^ 31 ≤ ahead then next else next + ahead
      (s1.wri TRN_SNAP_GO t 1).trnM t (fun x => { x with snapNext := first, handed := 0 })
    else s1

/-- PIXEL_SNAPSHOT_GO (R191). -/
def execPixelSnapshotGo (transit : Fin 8) (value : Word) (s : State) : Host.Outcome State Fault Refusal := s.powered <|
  if s.winPresent 15 then ok (s.snapGo transit.val value.toNat) else ok s

/-! ## A processed line -/

/-- The end of a line's processing: components, closures, summaries (R179 to R187). -/
def State.trackLine (s : State) (t : Nat) (l : TLine) (px : List Pixel) (memErr : Bool) : State :=
  let x := s.trn t
  let bands := s.cv C_STREAM_BANDS t
  let lo := s.cv C_STREAM_X_START t
  let hi := s.cv C_STREAM_X_END t
  let k := (runsOf px).foldl (Track.run l bands lo hi x.oversize) ⟨x.comps, 2048 - x.comps.length, x.order, none⟩
  let flag (c : Comp) : Comp := if memErr then { c with flags := setBit c.flags 7 true } else c
  let cs := k.comps.map (fun c => flag (c.lineDone l))
  let big (c : Comp) : Bool := decide (1023 ≤ c.height)
  let old (c : Comp) : Bool := decide (s.cv C_STREAM_CLOSE_LINES t ≤ c.empty)
  let closed := (cs.filter (fun c => big c || old c)).map (fun c =>
    if big c then { c with flags := setBit c.flags 1 true } else c)
  let s1 := s.trnM t (fun x => { x with
    comps := cs.filter (fun c => !(big c || old c))
    oversize := (cs.filter big).flatMap (·.foot)
    order := k.order })
  let out := closed.foldl (fun a c => compInsert c a) [] ++ (k.over?.map (fun c => flag (c.lineDone l))).toList
  out.foldl (fun s c => s.emitSummary t c) s1

/-- SCAN_LINE_PROCESSED (R188): the oldest scan line of the transit, complete and its processing time past,
is corrected, classified and tracked; dropped and skipped lines behind it then act. -/
def execScanLineProcessed (transit : Fin 8) (s : State) : Host.Outcome State Fault Refusal := s.powered <|
  let t := transit.val
  match (s.trn t).lines with
  | l :: rest =>
    if s.trnOn t && l.kind == 0 && l.full && decide (l.ready ≤ s.clk.el) then
      let (bands, s1) := s.readBands t l 0 (s.cv C_STREAM_BANDS t)
      let bad := (bands.map (·.bad)).sum
      let s2 := s1.inci TRN_UE_COUNT t bad
      let s3 := s2.trackLine t l (s2.classify t l bands) (decide (0 < bad))
      let s4 := (s3.wri TRN_LINE_LINE t l.num).trnM t (fun x => ({ x with lines := rest }).settled)
      ok (s4.snapLine t l bands (decide (0 < bad)))
    else ok s
  | [] => ok s

/-! ## Resets (R195) -/

/-- The image's values of TRN_CTRLn: a committed stream runs, with its bank. -/
def State.trnImage (s : State) (t : Nat) : State :=
  (s.wri TRN_CTRL_EN t (b2n (s.has C_STREAM_TRANSIT t))).wri TRN_CTRL_BANK t (s.cv C_STREAM_FF_BANK t)

/-- A unit reset of PIX: ports retrain, counters zero, band lines in flight lost, lines in progress dropped. -/
def State.pixReset (s : State) : State :=
  let s1 := (List.range 2).foldl (fun s n =>
    let s := (((s.setReg (PIX_ERR_HDR.addr n 0) 0).setReg (PIX_ECC1_COUNT.addr n 0) 0).setReg (PIX_LINES_COUNT.addr n 0) 0)
    let s := ((s.wri PIX_CTRL_EN n (if s.has C_PORT_PORT n then s.cv C_PORT_EN n else 0)).wri PIX_STAT_VC_SEEN n 0).wri
      PIX_STAT_SKEW_DONE n 0
    s.portM n (fun _ => { lastLong := s.clk.el })) s
  (List.range 8).foldl (fun s t =>
    let s := (s.bandErr t).trnM t (fun x => ({ x with
      inq := [], pos := 0, started := false, doomed := false }).settled)
    s.wri TRN_STAT_ALIGNED t 0) s1

/-- A unit reset of TRN: open components and summaries discarded and counted, queues emptied, line numbers
restarted, snapshots ended, BANK and EN back to the image's values. -/
def State.trnReset (s : State) : State :=
  let s1 := (List.range 8).foldl (fun s t =>
    let x := s.trn t
    let s := s.trnLoss TRN_LOSS_OBJDROP t (x.comps.length + x.sums.length)
    let s := (s.trnM t (fun _ => {})).wri TRN_STAT_ALIGNED t 0
    let s := (s.wri TRN_SNAP_GO t 0).wri TRN_STAT_DECIM t 1
    s.trnImage t) s
  { s1 with pix := { s1.pix with stage := [] } }

end Sys2Proof.Machine
end

