-- ==== Sys2Proof/Machine/Township.lean ====
section
/-! DEFINITION. Ethernet MACs, 802.1AS, and the township unit: rings, gates, announces, handoff frames out and in
(spec/15_township_pair.md R470 to R484, R494, R495). -/

namespace Sys2Proof.Machine

open Sys2Proof

/-! ## MACs -/

/-- MAC `m`. -/
def State.mac (s : State) (m : Nat) : EthMac := listAt s.eth m {}

/-- Apply `f` to MAC `m`. -/
def State.macM (s : State) (m : Nat) (f : EthMac → EthMac) : State := { s with eth := listMod s.eth m f }

/-- Apply `f` to the township unit. -/
def State.twnM (s : State) (f : TwnUnit → TwnUnit) : State := { s with twn := f s.twn }

/-- Apply `f` to the 802.1AS end station. -/
def State.ptpM (s : State) (f : Ptp → Ptp) : State := s.twnM (fun t => { t with ptp := f t.ptp })

/-- Does MAC `m` run: present, enabled, its link up (R470)? -/
def State.macUp (s : State) (m : Nat) : Bool :=
  (m == 0 || !s.is20) && s.rdi ETH_CTRL_EN m == 1 && s.rdi ETH_STAT_LINK m == 1

/-- Nanoseconds of a byte on the line of MAC `m`. -/
def State.byteNs (s : State) (m : Nat) : Nat :=
  match s.rdi ETH_STAT_SPEED m with
  | 0 => 800
  | 1 => 80
  | _ => 8

/-- The line time of a frame of `n` bytes without FCS: preamble, frame, FCS. -/
def State.frameNs (s : State) (m n : Nat) : Nat := (n + 12) * s.byteNs m

/-- Big-endian bytes of a number. -/
def beBytes (n v : Nat) : List Nat := (leBytes n v).reverse

/-- The station address of MAC `m`, first octet in the low bits. -/
def State.station (s : State) (m : Nat) : Nat := s.cv C_MAC_ADDR m

/-- The group of all stations. -/
def macBroadcast : Nat := 0xFFFFFFFFFFFF

/-- The device sends a frame on MAC `m`: padded to 60 bytes, the line is busy for it and the gap after it. -/
def State.ethSend (s : State) (m : Nat) (bytes : List Nat) : State :=
  let b := bytes ++ List.replicate (60 - bytes.length) 0
  (s.macM m (fun x => { x with freeAt := s.clk.el + s.frameNs m b.length + 12 * s.byteNs m })).emit (.eth m b)

/-- Device time of the start-of-frame delimiter's end of a frame that starts now, with the PHY's delay (R473). -/
def State.txStamp (s : State) (m : Nat) : Nat := s.clk.now + 8 * s.byteNs m + s.cv C_MAC_PHY_TX_NS m

/-! ## Gates (R475) -/

/-- The gate list of MAC `m` as committed: states and interval in order of INDEX. -/
def State.gateList (s : State) (m : Nat) : List (Nat × Nat) :=
  (List.range 64).filterMap (fun i =>
    (s.crec2 C_GATE_MAC m i).map (fun r => (r.v C_GATE_STATES, r.v C_GATE_INTERVAL)))

/-- The time from `t` until the first entry that closes gate `q`; `none` when every entry leaves it open. -/
def gateShut (q : Nat) : List (Nat × Nat) → Nat → Option Nat
  | [], _ => none
  | (st, n) :: rest, t => if bitAt st q then gateShut q rest (t + n) else some t

/-- Is the gate of queue `q` open, with room for a frame of line time `dur` before it closes (R475)? -/
def State.gateFits (s : State) (m q dur : Nat) : Bool :=
  let x := s.mac m
  let cyc := s.cv C_MAC_CYCLE_NS m
  if cyc = 0 || !x.gOn || x.gList.isEmpty then true
  else
    let stop := x.gStart + cyc
    let shut := match gateShut q (x.gList.drop (x.gIdx + 1)) (min x.gTill stop) with
      | some t => if t < stop then t else stop + (gateShut q x.gList 0).getD cyc
      | none => stop + (gateShut q x.gList 0).getD cyc
    bitAt (listAt x.gList x.gIdx (0, 0)).1 q && decide (s.clk.el + dur ≤ shut)

/-- The start (elapsed) of the cycle that is due (R475): the newest aligned instant; after a step the cycle in progress
completes first. -/
def State.gateCycle (s : State) (m : Nat) : Option Nat :=
  let x := s.mac m
  let cyc := s.cv C_MAC_CYCLE_NS m
  let base := s.cv C_MAC_BASE_NS m
  if cyc = 0 || decide (s.clk.now < base) then none
  else
    let late := (s.clk.now - base) % cyc
    let el := s.clk.el - late
    if !x.gOn then some el
    else if x.gSum = s.time.stepSum then (if x.gStart + cyc / 2 ≤ el then some el else none)
    else if x.gStart + cyc ≤ el then some el else none

/-- GATE_CONTROL_INTERVAL (R475): the interval in force ends, or a cycle starts with the entries committed then. -/
def execGateControlInterval (mac : Fin 2) (s : State) : Host.Outcome State Fault Refusal := s.powered <|
  let m := mac.val
  match s.gateCycle m with
  | some el =>
    let l := s.gateList m
    let first := (listAt l 0 (0, 0)).2
    ok (s.macM m (fun x => { x with
      gOn := true, gStart := el, gSum := s.time.stepSum, gList := l, gIdx := 0, gTill := el + first }))
  | none =>
    let x := s.mac m
    if x.gOn && decide (x.gTill ≤ s.clk.el) && decide (x.gIdx + 1 < x.gList.length) then
      ok (s.macM m (fun x => { x with gIdx := x.gIdx + 1, gTill := x.gTill + (listAt x.gList (x.gIdx + 1) (0, 0)).2 }))
    else ok s

/-! ## Transmit (R472, R476 to R480, R484) -/

/-- A handoff or announce frame on the wire (R479). -/
def State.handBytes (s : State) (f : HFrame) : List Nat :=
  let dst := if f.ch < 8 then s.cv C_HANDOFF_OUT_DEST_MAC f.ch else macBroadcast
  let vlan := s.cv1 C_PARCEL_VLAN
  let tag := if vlan = 0 then [] else beBytes 2 0x8100 ++ beBytes 2 (s.cv1 C_PARCEL_HPCP * 2 ^ 13 + vlan)
  leBytes 6 dst ++ leBytes 6 (s.station s.hmac) ++ tag ++ beBytes 2 0x88B5 ++ f.bytes

/-- A handoff frame is copied to the host (R484). -/
def State.mirrorCopy (s : State) (stamp : Nat) (received : Bool) (payload : List Nat) : State :=
  if s.cv1 C_PARCEL_MIRROR = 0 then s
  else if s.rdi HST_DMA_STAT_STALLED 6 = 1 then s.inc TWN_MIRDROP_V 1
  else s.dmaReady 6 (leBytes 8 (stamp % 2 ^ 63 + b2n received * 2 ^ 63) ++ payload)

/-- TXDONE passes the descriptors that are done, in order (R472). -/
def State.txDone (s : State) (m : Nat) : State :=
  let left := (s.mac m).tx.dropWhile (fun d => d.done)
  let ix := match left with
    | d :: _ => d.idx
    | [] => s.rdi ETH_TXWR_INDEX m
  (s.macM m (fun x => { x with tx := left })).wri ETH_TXDONE_INDEX m ix

/-- Address of transmit descriptor `i`. -/
def State.txAddr (s : State) (m i : Nat) : Nat := s.cv C_MAC_TX_BASE m + 16 * i

/-- TRANSMIT_POST (R472): descriptors up to the new TXWR are fetched. -/
def State.ethPost (s : State) (m v : Nat) : State :=
  let n := max 1 (s.cv C_MAC_TX_COUNT m)
  let old := s.rdi ETH_TXWR_INDEX m
  let new := v % 4096 % n
  let s1 := s.wri ETH_TXWR_INDEX m new
  if !s.has C_MAC_MAC m then s1
  else (List.range ((new + n - old) % n)).foldl (fun t k =>
    let i := (old + k) % n
    let (w, t1) := t.memRead (s.txAddr m i)
    t1.macM m (fun x => { x with tx := x.tx ++ [({ idx := i, w0 := w, since := s.clk.el } : TxDesc)] })) s1

/-- TRANSMIT_POST. -/
def execTransmitPost (mac : Fin 2) (value : Word) (s : State) : Host.Outcome State Fault Refusal := s.powered <|
  if s.absentAddr (ETH_TXWR_INDEX.addr mac 0) then
    ok ((s.inc SYS_ABSENT_WR_COUNT 1).wr SYS_ABSENT_ADDR_ADDR (ETH_TXWR_INDEX.addr mac 0))
  else ok (s.ethPost mac value.toNat)

/-- What waits first in queue `q` of MAC `m`: a descriptor or a handoff frame, the older first. -/
def State.txHead (s : State) (m q : Nat) : Option (TxDesc ⊕ HFrame) :=
  let d := (s.mac m).tx.find? (fun d => !d.done && bitsOf (d.w0.getD 0) 50 48 == q)
  let h := if m = s.hmac && q = s.cv1 C_PARCEL_HQUEUE then s.twn.frames.head? else none
  match d, h with
  | some d, some h => if d.since < h.since then some (.inl d) else some (.inr h)
  | some d, none => some (.inl d)
  | none, some h => some (.inr h)
  | none, none => none

/-- Bytes without FCS of what waits. -/
def State.txLen (s : State) (x : TxDesc ⊕ HFrame) : Nat :=
  match x with
  | .inl d => bitsOf (d.w0.getD 0) 47 32
  | .inr h => max 60 (s.handBytes h).length

/-- Mark descriptor `i` of MAC `m` done. -/
def State.txMark (s : State) (m i : Nat) : State :=
  (s.macM m (fun x => { x with tx := x.tx.map (fun d => if d.idx = i then { d with done := true } else d) })).txDone m

/-- A descriptor's frame is sent, or refused with ERR for an illegal length or an unreadable word (R472). -/
def State.txDescriptor (s : State) (m : Nat) (d : TxDesc) : State :=
  let w := d.w0.getD 0
  let len := bitsOf w 47 32
  let bad (t : State) : State := (t.memPut (s.txAddr m d.idx) (setBit w 63 true)).txMark m d.idx
  if d.w0.isNone || len < 60 || 1522 < len then bad s
  else
    match s.memBytes (bitsOf w 31 3 * 8) len with
    | (none, s1) => bad s1
    | (some b, s1) =>
      if 1518 < len && beNat (slice b 12 2) != 0x8100 then bad s1
      else
        let s2 := s1.ethSend m b
        let s3 := if bitAt w 51 then s2.memPut (s.txAddr m d.idx + 8) (s.txStamp m % 2 ^ 64) else s2
        s3.txMark m d.idx

/-- The oldest handoff frame is sent: entries counted, the frame copied to the host (R480, R484). -/
def State.txHand (s : State) (m : Nat) (h : HFrame) : State :=
  let s1 := (s.twnM (fun t => { t with frames := t.frames.drop 1 })).ethSend m (s.handBytes h)
  if h.ch < 8 then (s1.wrapi TWN_OUT_SENT h.ch h.n).mirrorCopy (s.txStamp m) false h.bytes else s1

/-- TRANSMIT_COMPLETE (R470, R472, R475): the highest queue whose frame may start sends it. -/
def execTransmitComplete (mac : Fin 2) (s : State) : Host.Outcome State Fault Refusal := s.powered <|
  let m := mac.val
  if !s.macUp m || decide (s.clk.el < (s.mac m).freeAt) || decide (s.clk.el < (s.mac m).pauseTill) then ok s
  else
    let fit (q : Nat) : Option (TxDesc ⊕ HFrame) :=
      match s.txHead m q with
      | some x => if s.gateFits m q (s.frameNs m (s.txLen x)) then some x else none
      | none => none
    match ((List.range 8).reverse).findSome? fit with
    | some (.inl d) => ok (s.txDescriptor m d)
    | some (.inr h) => ok (s.txHand m h)
    | none => ok s

/-! ## PHY management and the link (R470, R494) -/

/-- A write to ETH_MDIO (R470): ignored while BUSY. -/
def State.mdioWrite (s : State) (v : Nat) : State :=
  if s.rd ETH_MDIO_BUSY = 1 then s
  else
    let s1 := s.setReg (ETH_MDIO_BUSY.addr 0 0) (2 ^ 31 + bitsOf v 30 20 * 2 ^ 20 + bitsOf v 15 0)
    s1.emit (.mdio (bitAt v 30) (bitsOf v 29 25) (bitsOf v 24 20) (bitsOf v 15 0))

/-- MDIO_TRANSACTION. -/
def execMdioTransaction (value : Word) (s : State) : Host.Outcome State Fault Refusal := s.powered <| ok (s.mdioWrite value.toNat)

/-- MDIO_COMPLETE (R470): the transaction ends; `data` is what the PHY answered. -/
def execMdioComplete (data : BitVec 16) (s : State) : Host.Outcome State Fault Refusal := s.powered <|
  if s.rd ETH_MDIO_BUSY = 0 then ok s
  else
    let s1 := s.wr ETH_MDIO_BUSY 0
    if s.rd ETH_MDIO_READ = 1 then ok (s1.wr ETH_MDIO_DATA data.toNat) else ok s1

/-- The link of MAC `m` goes up or down (R494). -/
def State.ethLink (s : State) (m : Nat) (up : Bool) (speed : Nat) : State :=
  let u := up && s.rdi ETH_CTRL_EN m == 1
  let was := s.rdi ETH_STAT_LINK m == 1
  let s1 := if u then s.wri ETH_STAT_SPEED m speed else s
  (s1.wri ETH_STAT_LINK m (b2n u)).raiseIf (u != was) 29 m

/-- ETH_LINK_CHANGE (R494): `speed` is the code of ETH_STATm.SPEED from the auto-negotiation word. -/
def execEthLinkChange (mac : Fin 2) (up : Bool) (speed : Fin 3) (s : State) : Host.Outcome State Fault Refusal := s.powered <|
  if mac.val = 1 && s.is20 then ok s else ok (s.ethLink mac up speed)

/-- A write of ETH_CTRLm (R470, R471): EN = 0 holds the link down and stops the rings. -/
def State.ethCtrl (s : State) (m v : Nat) : State :=
  let s1 := (s.wri ETH_CTRL_PROMISC m (bitsOf v 1 1)).wri ETH_CTRL_EN m (bitsOf v 0 0)
  if bitAt v 0 then s1 else s1.ethLink m false 0

/-! ## 802.1AS (R474) -/

/-- Is there a PTP record whose MAC is `m`? -/
def State.ptpMac (s : State) (m : Nat) : Bool :=
  match s.crec1 C_PTP_MAC with
  | some r => r.v C_PTP_MAC == m
  | none => false

/-- The clock identity: EUI-64 from the station address. -/
def State.clockId (s : State) : List Nat :=
  let a := leBytes 6 (s.station (s.cv1 C_PTP_MAC))
  a.take 3 ++ [0xFF, 0xFE] ++ a.drop 3

/-- clockClass as grandmaster (R474). -/
def State.clockClass (s : State) : Nat :=
  if s.rd TIME_DATUM_ACTIVE = 1 && s.rd TIME_DATUM_STATE = 1 then 6
  else if s.rd TIME_DATUM_STATE = 2 then 7 else 248

/-- The device's own priority vector on the wire: priority 1, quality, priority 2, identity, steps removed. -/
def State.ownVector (s : State) : List Nat :=
  [s.cv1 C_PTP_PRIORITY1, s.clockClass, 0xFE, 0x43, 0x6A, s.cv1 C_PTP_PRIORITY2] ++ s.clockId ++ [0, 0]

/-- Best master clock selection: the device is grandmaster when it can be and nothing better is heard. -/
def State.ptpGm (s : State) : Bool :=
  (s.crec1 C_PTP_MAC).isSome && s.cv1 C_PTP_GM_CAPABLE == 1 &&
    match s.twn.ptp.best with
    | some (v, _) => decide (beNat s.ownVector < v)
    | none => true

/-- TWN_STAT.GM follows the selection; GM is raised when it changes (R494). An announce that has not been repeated
for three intervals is forgotten. -/
def State.ptpSelect (s : State) : State :=
  let s1 := if s.twn.ptp.bestAt + 3000000000 ≤ s.clk.el then s.ptpM (fun p => { p with best := none }) else s
  let g := b2n s1.ptpGm
  if s1.rd TWN_STAT_GM = g then s1 else (s1.wr TWN_STAT_GM g).raise 30 1

/-- A PTP message: type, total length, flags, correction, sequence, control, log interval, body. -/
def State.ptpMsg (s : State) (typ len flags corr seq ctrl log : Nat) (body : List Nat) : List Nat :=
  [0x10 + typ, 0x12] ++ beBytes 2 len ++ [0, 0] ++ beBytes 2 flags ++ beBytes 8 corr ++ [0, 0, 0, 0] ++ s.clockId ++
    beBytes 2 1 ++ beBytes 2 seq ++ [ctrl, log] ++ body

/-- A PTP timestamp. -/
def ptpTime (t : Nat) : List Nat := beBytes 6 (t / 1000000000) ++ beBytes 4 (t % 1000000000)

/-- The time that a PTP timestamp spells. -/
def ptpTimeOf (b : List Nat) : Int := (beNat (slice b 0 6) * 1000000000 + beNat (slice b 6 4) : Nat)

/-- Send a PTP message on the PTP MAC to the link-local group of the standard. -/
def State.ptpSend (s : State) (msg : List Nat) : State :=
  let m := s.cv1 C_PTP_MAC
  s.ethSend m ([0x01, 0x80, 0xC2, 0x00, 0x00, 0x0E] ++ leBytes 6 (s.station m) ++ beBytes 2 0x88F7 ++ msg)

/-- The log interval of a record field as nanoseconds: 2^log seconds, log from −7 to 0. -/
def logNs (v : Nat) : Nat := 1000000000 / 2 ^ (-(sint 8 v)).toNat

/-- Is something due that was last sent at `t` and is sent every `n` ns? -/
def dueAt (t : Option Nat) (n el : Nat) : Bool :=
  match t with
  | some t => decide (t + n ≤ el)
  | none => true

/-- SYNC_SEND (R474): peer-delay request when due; as grandmaster Sync with Follow_Up, and Announce, when due. -/
def execSyncSend (s : State) : Host.Outcome State Fault Refusal := s.powered <|
  match s.crec1 C_PTP_MAC with
  | none => ok s
  | some r =>
    let m := r.v C_PTP_MAC
    if !s.macUp m then ok s
    else
      let s0 := s.ptpSelect
      let p := s0.twn.ptp
      let t := s.txStamp m
      let s1 := if dueAt p.pdAt (logNs (r.v C_PTP_PDELAY_LOG)) s.clk.el then
          (s0.ptpSend (s.ptpMsg 2 54 8 0 p.pdSeq 5 (r.v C_PTP_PDELAY_LOG) (List.replicate 20 0))).ptpM (fun p => { p with
            req := some (p.pdSeq, (t : Int) - s.time.stepSum), resp := none, pdSeq := (p.pdSeq + 1) % 65536, pdAt := some s.clk.el })
        else s0
      if s1.rd TWN_STAT_GM = 0 then ok s1
      else
        let s2 := if dueAt p.annAt 1000000000 s.clk.el then
            (s1.ptpSend (s.ptpMsg 11 76 8 0 p.annSeq 5 0
              (List.replicate 13 0 ++ s.ownVector ++ [if s.rd TIME_DATUM_ACTIVE = 1 then 0x20 else 0xA0] ++ beBytes 2 8 ++
                beBytes 2 8 ++ s.clockId))).ptpM (fun p => { p with
              annSeq := (p.annSeq + 1) % 65536, annAt := some s.clk.el })
          else s1
        if dueAt p.syncAt (logNs (r.v C_PTP_SYNC_LOG)) s.clk.el then
          let tlv := beBytes 2 3 ++ beBytes 2 28 ++ [0x00, 0x80, 0xC2, 0, 0, 1] ++ List.replicate 22 0
          let s3 := s2.ptpSend (s.ptpMsg 0 44 0x208 0 p.syncSeq 0 (r.v C_PTP_SYNC_LOG) (List.replicate 10 0))
          let s4 := s3.ptpSend (s.ptpMsg 8 76 8 0 p.syncSeq 2 (r.v C_PTP_SYNC_LOG) (ptpTime t ++ tlv))
          ok (s4.ptpM (fun p => { p with syncSeq := (p.syncSeq + 1) % 65536, syncAt := some s.clk.el }))
        else ok s2

/-- The offset from the grandmaster is measured (R474): shown in TWN_PTP and offered as datum code 2. The uncertainty
that a source reports for R122 is a free value. -/
def State.ptpOffset (s : State) (off : Int) : State :=
  let s1 := s.wr TWN_PTP_V (ucode 32 (satS 32 off))
  if s.rd TWN_STAT_GM = 1 then s1
  else
    let (tol, s2) := s1.free 7
    s2.datumMeas 2 off tol

/-- A received 802.1AS message (R474): `t` is its receive timestamp. -/
def State.ptpMessage (s : State) (t : Int) (b : List Nat) : State :=
  let typ := listAt b 0 0 % 16
  let seq := beNat (slice b 30 2)
  let port := beNat (slice b 20 10)
  let corr : Int := sint 64 (beNat (slice b 8 8)) / 65536
  let p := s.twn.ptp
  let mine := slice b 44 10 == s.clockId ++ [0, 1]
  let master := match p.best with
    | some (_, q) => q == port
    | none => false
  if listAt b 0 0 / 16 ≠ 1 || listAt b 4 0 ≠ 0 || b.length < 44 then s
  else
    match typ with
    | 0 =>
      if !master then s
      else if bitAt (listAt b 6 0) 1 then s.ptpM (fun p => { p with sync := some (seq, t - s.time.stepSum) })
      else s.ptpOffset (t - (ptpTimeOf (slice b 34 10) + corr + p.delay))
    | 8 =>
      match p.sync with
      | some (q, t2) =>
        if master && q == seq then
          (s.ptpM (fun p => { p with sync := none })).ptpOffset
            (t2 + s.time.stepSum - (ptpTimeOf (slice b 34 10) + corr + p.delay))
        else s
      | none => s
    | 2 =>
      let who := slice b 20 10
      let s1 := s.ptpSend (s.ptpMsg 3 54 0x208 0 seq 5 0x7F (ptpTime t.toNat ++ who))
      s1.ptpSend (s.ptpMsg 10 54 8 0 seq 5 0x7F (ptpTime (s.txStamp (s.cv1 C_PTP_MAC)) ++ who))
    | 3 =>
      match p.req with
      | some (q, _) =>
        if mine && q == seq then
          s.ptpM (fun p => { p with resp := some (ptpTimeOf (slice b 34 10) + corr, t - s.time.stepSum) })
        else s
      | none => s
    | 10 =>
      match p.req, p.resp with
      | some (q, t1), some (t2, t4) =>
        if mine && q == seq then
          s.ptpM (fun p => { p with
            delay := (t4 - t1 - (ptpTimeOf (slice b 34 10) + corr - t2)) / 2, req := none, resp := none })
        else s
      | _, _ => s
    | 11 =>
      let v := beNat (slice b 47 16)
      if b.length < 64 || slice b 20 8 == s.clockId || 255 ≤ beNat (slice b 61 2) then s
      else
        let better := match p.best with
          | some (w, q) => q == port || decide (v < w)
          | none => true
        (if better then s.ptpM (fun p => { p with best := some (v, port), bestAt := s.clk.el }) else s).ptpSelect
    | _ => s

/-! ## Receive (R471, R472, R476, R481, R482) -/

/-- A frame goes to the receive ring of MAC `m` (R472); a ring is full when one more frame would meet RXRD. -/
def State.ethPlace (s : State) (m : Nat) (b : List Nat) (stamp : Int) : State :=
  let n := max 1 (s.cv C_MAC_RX_COUNT m)
  let i := s.rdi ETH_RXWR_INDEX m
  let d := s.cv C_MAC_RX_BASE m + 16 * i
  let drop (t : State) : State := (t.inci ETH_ERR_NODESC m 1).raise 29 (2 + m)
  if !s.has C_MAC_MAC m || (i + 1) % n = s.rdi ETH_RXRD_INDEX m then drop s
  else
    match s.memRead d with
    | (none, s1) => drop s1
    | (some w, s1) =>
      let a := bitsOf w 31 3 * 8
      if a < 0x1000000 || 0x1800000 < a + b.length then drop s1
      else
        let s2 := (s1.memPutBytes a b).memPuts d [setBits w 47 32 b.length, ucode 64 stamp]
        (s2.wri ETH_RXWR_INDEX m ((i + 1) % n)).raise 29 (4 + m)

/-- A frame that carries this device's own parcel and side from another station (R476). -/
def State.dupTest (s : State) (src : Nat) (p : List Nat) : State :=
  let w := leAt p 2 2
  if bitsOf w 11 0 = s.rd TWN_STAT_PARCEL && bitsOf w 15 15 = s.rd TWN_STAT_SIDE && src != s.station s.hmac then
    (s.wr TWN_STAT_DUP 1).raiseIf (s.rd TWN_STAT_DUP == 0) 30 0
  else s

/-- ETH_FRAME_RECEIVE (R470, R471): a frame without its FCS, whether the FCS was right, how long ago in ns the first bit
after its start-of-frame delimiter came. -/
def execEthFrameReceive (mac : Fin 2) (frame : List Nat) (fcsOk : Bool) (ago : Nat) (s : State) :
    Host.Outcome State Fault Refusal := s.powered <|
  let m := mac.val
  let b := frame.map (fun x => x % 256)
  if !s.macUp m then ok s
  else if !fcsOk || 1518 < b.length then ok ((s.inci ETH_ERR_FCS m 1).raise 29 (2 + m))
  else if b.length < 60 then ok s
  else
    let stamp : Int := (s.clk.now : Int) - ago + s.cv C_MAC_PHY_RX_NS m
    let dst := leAt b 0 6
    let src := leAt b 6 6
    let tagged := beNat (slice b 12 2) == 0x8100
    let typ := beNat (slice b (if tagged then 16 else 12) 2)
    let p := b.drop (if tagged then 18 else 14)
    if typ = 0x8808 && beNat (slice p 0 2) == 1 then
      ok (s.macM m (fun x => { x with pauseTill := s.clk.el + beNat (slice p 2 2) * 64 * s.byteNs m }))
    else if typ = 0x88F7 && s.ptpMac m then ok (s.ptpMessage stamp p)
    else if typ = 0x88B5 && m == s.hmac && (s.crec1 C_PARCEL_PARCEL).isSome then
      if listAt p 0 0 = 2 then ok (s.dupTest src p)
      else if listAt p 0 0 = 1 then
        ok (s.twnM (fun t => { t with rx := t.rx ++ [({ src, stamp, sig := s.time.stepSum, bytes := p } : TwnRx)] }))
      else ok s
    else
      let group := (List.range 8).any (fun k => s.cv (C_MAC_GROUP0.plus k) m == dst && dst != 0)
      if dst = s.station m || dst = macBroadcast || group || s.rdi ETH_CTRL_PROMISC m = 1 then
        ok (s.ethPlace m b stamp)
      else ok s

/-- One entry of a taken handoff frame (R482): refused late, unlocked or at a full queue, else accepted. -/
def State.importEntry (s : State) (ch : Nat) (rec : CfgRec) (flags : Nat) (stamp sig : Int) (e : List Nat) : State :=
  let act := bitsOf (leAt e 0 8) 55 52
  let i : InObj := { source := 24 + ch, imp := some e, sig }
  let lane := if act = 1 || act = 2 then
      listAt (s.inLanes i (s.crec C_SOURCE_SOURCE (24 + ch))) (act - 1) none
    else none
  let late := match lane with
    | some l => decide (l.on - rec.v C_IMPORT_GUARD < stamp + (s.time.stepSum - sig))
    | none => false
  if late then (s.inci TWN_IMP_LO_LATE ch 1).raise 30 3
  else if rec.v C_IMPORT_REQUIRE_LOCK = 1 && bitAt flags 0 then (s.inci TWN_IMP_HI_UNLOCKED ch 1).raise 30 3
  else if 256 ≤ s.tally.imports.length then (s.inci TWN_IMP_HI_QFULL ch 1).raise 30 3
  else (s.talM (fun t => { t with imports := t.imports ++ [({ ch, bytes := e, sig } : Import)] })).wrapi TWN_IMP_LO_ACCEPTED ch 1

/-- A handoff frame is taken: SEQ gap counted, copied to the host, entries tested in order (R481, R482, R484). -/
def State.handTake (s : State) (ch : Nat) (rec : CfgRec) (f : TwnRx) : State :=
  let p := f.bytes
  let seq := leAt p 6 2
  let gap := match listAt s.twn.expect ch none with
    | some x => (seq + 65536 - x) % 65536
    | none => 0
  let s1 := s.twnM (fun t => { t with expect := listSet t.expect ch (some ((seq + 1) % 65536)) })
  let s2 := if gap = 0 then s1 else (s1.inci TWN_IMP_HI_GAP ch gap).raise 30 3
  let n := leAt p 5 1
  let s3 := s2.mirrorCopy (ucode 64 f.stamp) true (p.take (24 + 112 * n))
  (List.range n).foldl (fun t k =>
    t.importEntry ch rec (leAt p 16 2) f.stamp f.sig (slice p (24 + 112 * k) 112)) s3

/-- HANDOFF_FRAME (R476, R481): the oldest received frame is tested and taken; a warm standby discards it. -/
def execHandoffFrame (s : State) : Host.Outcome State Fault Refusal := s.powered <|
  match s.twn.rx with
  | [] => ok s
  | f :: rest =>
    let p := f.bytes
    let s1 := (s.twnM (fun t => { t with rx := rest })).dupTest f.src p
    let ch := leAt p 4 1
    let whole := decide (24 + 112 * leAt p 5 1 ≤ p.length) && decide (1 ≤ leAt p 5 1) && decide (leAt p 5 1 ≤ 13)
    if s1.warmStandby then ok s1
    else
      match s1.crec C_IMPORT_CHANNEL ch with
      | some r =>
        if leAt p 1 1 = 1 && whole && bitsOf (leAt p 2 2) 11 0 == r.v C_IMPORT_FROM_PARCEL then ok (s1.handTake ch r f)
        else ok (s1.inc TWN_IMPERR_V 1)
      | none => ok (s1.inc TWN_IMPERR_V 1)

/-! ## Announces and flushes (R476, R480) -/

/-- ANNOUNCE (R476): once in each second of device time; a standby sends none. -/
def execAnnounce (s : State) : Host.Outcome State Fault Refusal := s.powered <|
  if (s.crec1 C_PARCEL_PARCEL).isNone || s.cv1 C_PARCEL_ANNOUNCE = 0 || s.standby || s.twn.annSec == s.sec then ok s
  else
    let s1 := s.twnM (fun t => { t with annSec := s.sec })
    if 32 ≤ s.twn.frames.length then ok s1
    else
      let f : HFrame := { bytes := s.frameHead 2 0 0 s.twn.annSeq, ch := 8, n := 0, since := s.clk.el }
      ok (s1.twnM (fun t => { t with frames := t.frames ++ [f], annSeq := (t.annSeq + 1) % 65536 }))

/-- HANDOFF_FLUSH (R480): 13 entries, or FLUSH_US after the first. -/
def execHandoffFlush (channel : Fin 8) (s : State) : Host.Outcome State Fault Refusal := s.powered <|
  let c := channel.val
  let o := s.outCh c
  if 13 ≤ o.ents.length || (!o.ents.isEmpty && decide (o.since + s.cv C_HANDOFF_OUT_FLUSH_US c * 1000 ≤ s.clk.el)) then
    ok (s.handQueue c)
  else ok s

/-! ## Resets and the image (R495) -/

/-- An ETH unit reset (R495): links retrain, rings restart from the image, frames in flight are lost. -/
def State.ethReset (s : State) : State :=
  (List.range 2).foldl (fun t m =>
    if m = 1 && s.is20 then t
    else
      let img (c : CRef) : Nat := if s.has C_MAC_MAC m then s.cv c m else 0
      let t1 := ((t.ethLink m false 0).wri ETH_CTRL_EN m (img C_MAC_EN)).wri ETH_CTRL_PROMISC m (img C_MAC_PROMISC)
      ((((t1.wri ETH_RXWR_INDEX m 0).wri ETH_RXRD_INDEX m 0).wri ETH_TXWR_INDEX m 0).wri ETH_TXDONE_INDEX m 0).macM m
        (fun _ => {})) s

/-- A TWN unit reset (R495): the handoff and import queues, SEQ expectation and 802.1AS start again; SEQ counts of
frames sent go on. -/
def State.twnReset (s : State) : State :=
  let s1 := s.twnM (fun t => {
    outs := t.outs.map (fun o => { seq := o.seq })
    annSeq := t.annSeq
    annSec := t.annSec })
  ((s1.talM (fun t => { t with imports := [] })).wr TWN_PTP_V 0).ptpSelect

/-- The township unit at commit: parcel, side, first frames expected. -/
def State.twnCommit (s : State) : State :=
  let s1 := { s with twn := { annSec := s.sec } }
  (((((s1.talM (fun t => { t with imports := [] })).wr TWN_STAT_PARCEL (s.cv1 C_PARCEL_PARCEL)).wr TWN_STAT_SIDE
    (s.cv1 C_PAIRREC_SIDE)).wr TWN_STAT_DUP 0).wr TWN_PTP_V 0).ptpSelect

end Sys2Proof.Machine
end

