-- ==== Sys2Proof/Machine/Hostport.lean ====
section
/-! DEFINITION. The host side that holds no registers of other units: events and MSI-X vectors, the PCIe link
reset, the host DMA channels, the watchdog (spec/02_host_and_reset.md R50 to R71). -/

namespace Sys2Proof.Machine

open Sys2Proof

/-! ## Events and vectors (R62 to R64) -/

/-- Write 1 to clear pending event bits of window `w` (R62). -/
def State.evtClear (s : State) (w mask : Nat) : State :=
  s.wri UNIT_EVT_EVT w (s.rdi UNIT_EVT_EVT w &&& (0xFFFFFFFF ^^^ mask))

/-- Write the event enables of window `w` (R63): one message on each vector for which an enable rises while its
event is pending. -/
def State.evtEnable (s : State) (w v : Nat) : State :=
  let old := s.rdi UNIT_EVT_EN_EN w
  let evt := s.rdi UNIT_EVT_EVT w
  let rise := (List.range 32).filter (fun e => bitAt v e && !bitAt old e && bitAt evt e)
  let s1 := s.wri UNIT_EVT_EN_EN w v
  let vecs := (rise.map (fun e => s1.vector w e)).dedup
  vecs.foldl State.msix s1

/-- Unmask vector `v` whose table entry holds `addr` and `data` (R64): one held message is sent. -/
def State.vecUnmask (s : State) (v addr data : Nat) : State :=
  let h := s.host
  let s1 : State := { s with host := { h with
    msixTable := assocPut h.msixTable v (addr, data)
    msixMask := setBit h.msixMask v false
    msixPba := setBit h.msixPba v false } }
  if bitAt h.msixPba v then s1.msix v else s1

/-- VECTOR_UNMASK (R64). -/
def execVectorUnmask (vec : Fin 64) (addr : BitVec 64) (data : Word) (s : State) : Host.Outcome State Fault Refusal := s.powered <|
  ok (s.vecUnmask vec addr.toNat data.toNat)

/-! ## Host DMA (R65 to R68, R575) -/

/-- BAR0 address of word `w` of descriptor `d`. -/
def descWord (d w : Nat) : Nat := 0x38000 + 32 * (d % 256) + 4 * (w % 8)

/-- A DMA channel. -/
def State.dmaCh (s : State) (n : Nat) : DmaCh := listAt s.host.dma n {}

/-- Change a DMA channel and show how many descriptors it holds. -/
def State.dmaM (s : State) (n : Nat) (f : DmaCh → DmaCh) : State :=
  let s1 := { s with host := { s.host with dma := listMod s.host.dma n f } }
  s1.wri HST_DMA_STAT_QUEUED n (s1.dmaCh n).posted.length

/-- The channel stalls (R67): counted and raised once per stall. -/
def State.dmaStall (s : State) (n : Nat) : State :=
  if (s.dmaCh n).posted.isEmpty && !(s.dmaCh n).ready.isEmpty && s.rdi HST_DMA_STAT_STALLED n == 0 then
    ((s.wri HST_DMA_STAT_STALLED n 1).inci HST_DMA_STALL_COUNT n 1).raise 3 (8 + n)
  else s

/-- A copy or fill of `n` bytes from `a` lies inside one region that takes it (R68). -/
def State.dmaRange (s : State) (op a n : Nat) : Bool :=
  match regionOf a with
  | none => false
  | some r =>
    a % 8 == 0 && decide (a + n ≤ (regionSpan r).1 + (regionSpan r).2) && !(r == 6 && op != 0) && !s.absentAddr a

/-- A post that the device rejects (R68). -/
def State.postBad (s : State) (n d : Nat) : Bool :=
  let ctl := s.reg (descWord d 4)
  let op := bitsOf ctl 29 28
  let len := bitsOf (s.reg (descWord d 3)) 23 0
  !bitAt ctl 31 || s.host.dma.any (fun c => c.posted.contains d) || len % 8 != 0 || len == 0 ||
    (s.reg (descWord d 0) % 8 != 0 && !(n == 7 && op == 2)) ||
    (n == 7 && (op == 3 || !s.dmaRange op (s.reg (descWord d 2)) len))

/-- A write to HST_DMA_POSTn (R67, R68). -/
def State.dmaPost (s : State) (n v : Nat) : State :=
  let d := v % 256
  if decide (255 < v) || s.postBad n d then ((s.inc HST_DMA_ERR_COUNT 1).wr HST_DMA_ERR_LAST d).raise 3 17
  else (s.dmaM n (fun c => { c with posted := c.posted ++ [d] })).wri HST_DMA_STAT_STALLED n 0

/-- DMA_POST (R67). -/
def execDmaPost (ch : Fin 8) (value : Word) (s : State) : Host.Outcome State Fault Refusal := s.powered <|
  ok (s.dmaPost ch value.toNat)

/-- Records that fit whole into `room` bytes, and those left. -/
def packWhole : Nat → List (List Nat) → List Nat × List (List Nat)
  | _, [] => ([], [])
  | room, r :: t =>
    if r.length ≤ room then
      let (b, l) := packWhole (room - r.length) t
      (r ++ b, l)
    else ([], r :: t)

/-- What a descriptor of `len` bytes takes from a channel (R575): its bytes and the channel after it. -/
def packDesc (len : Nat) (c : DmaCh) : List Nat × DmaCh :=
  match c.ready with
  | [] => ([], c)
  | r :: t =>
    if len < r.length then (r.take len, { c with ready := r.drop len :: t, cont := true })
    else if c.cont then (r, { c with ready := t, cont := false })
    else
      let (b, l) := packWhole len c.ready
      (b, { c with ready := l })

/-- Write back a descriptor (R66, R71): OWN cleared, ERR and DONE_LEN, DONEn and DMAERR. -/
def State.descDone (s : State) (n d len : Nat) (err : Bool) : State :=
  let ctl := s.reg (descWord d 4)
  let s1 := s.setReg (descWord d 4) (setBits (setBit (setBit ctl 31 false) 27 err) 23 0 len)
  let s2 := s1.dmaM n (fun c => { c with posted := c.posted.drop 1 })
  (s2.raiseIf (bitAt ctl 30) 3 n).raiseIf err 3 17

/-- What a producing unit does when its channel has written: the yield queue shows (R358), a capture or a dump that is
sent ends (R157, R542), the next staged line is handed over (R193). -/
def State.dmaAfter (s : State) (n : Nat) : State :=
  let idle := (s.dmaCh n).ready.isEmpty
  match n with
  | 1 => s.yShow
  | 3 => if idle && s.gns.snapDma then (s.gnsM (fun g => { g with snapDma := false })).raise 26 4 else s
  | 4 => if idle && s.rd REC_STAT_DUMPING == 1 then (s.wr REC_STAT_DUMPING 0).raise 7 6 else s
  | 5 => s.snapHand
  | _ => s

/-- A channel-7 transfer (R66, R68) of descriptor `d`: bytes moved to the host, whether a word was uncorrectable, the
state. A copy from the host takes its bytes from `data`. -/
def State.dmaMove (s : State) (d n : Nat) (data : List Nat) : List Nat × Bool × State :=
  let a := s.reg (descWord d 2)
  match bitsOf (s.reg (descWord d 4)) 29 28 with
  | 0 =>
    let (l, s1) := s.memReads a (n / 8)
    (l.flatMap (fun v => leBytes 8 (v.getD 0xFFFFFFFFFFFFFFFF)), l.any (·.isNone), s1)
  | 1 => ([], false, (List.range (n / 8)).foldl (fun t k => t.hostMemWrite (a + 8 * k) 8 (leAt data (8 * k) 8)) s)
  | _ =>
    let v := s.reg (descWord d 0) + s.reg (descWord d 1) * 2 ^ 32
    ([], false, (List.range (n / 8)).foldl (fun t k => t.hostMemWrite (a + 8 * k) 8 v) s)

/-- DESCRIPTOR_COMPLETE (R575, R66 to R68): the descriptor at the front of channel `ch` is worked to its end. `moved` is
how many bytes had moved when the host address faulted; `data` is what a copy from the host brings. -/
def execDescriptorComplete (ch : Fin 8) (data : List Nat) (moved : Option Nat) (s : State) :
    Host.Outcome State Fault Refusal := s.powered <|
  let n := ch.val
  let c := s.dmaCh n
  match c.posted with
  | [] => ok (s.dmaStall n)
  | d :: _ =>
    let haddr := s.reg (descWord d 0) + s.reg (descWord d 1) * 2 ^ 32
    let len := bitsOf (s.reg (descWord d 3)) 23 0
    if n = 7 then
      let m := min (moved.getD len) len
      let (bytes, bad, s1) := s.dmaMove d m data
      let s2 := if bitsOf (s.reg (descWord d 4)) 29 28 = 0 then s1.emit (.dma 7 haddr bytes) else s1
      ok (s2.descDone 7 d m (bad || moved.isSome))
    else if c.ready.isEmpty then ok s
    else
      let (bytes, c1) := packDesc len c
      let m := min (moved.getD bytes.length) bytes.length
      let s1 := (s.dmaM n (fun _ => c1)).emit (.dma n haddr (bytes.take m))
      ok (((s1.descDone n d m moved.isSome).dmaAfter n).dmaStall n)

/-- PCIE_LINK_RESET (R52, R71): a hot reset (cause 0), a link-down (1) or a return from D3hot (2); `up` is the link
afterwards. The MSI-X table and the DMA channels are reset; queued descriptors keep OWN. -/
def execPcieLinkReset (cause : Fin 3) (up : Bool) (s : State) : Host.Outcome State Fault Refusal := s.powered <|
  let h := s.host
  let s1 : State := { s with host := { h with
    msixTable := [], msixMask := 0xFFFFFFFFFFFFFFFF, msixPba := 0
    pcieUp := if cause.val = 2 then h.pcieUp else up } }
  let s2 := (List.range 8).foldl (fun t n => (t.dmaM n (fun c => { c with posted := [], cont := false })).dmaStall n) s1
  ok (s2.raiseIf (cause.val != 2) 3 19)

/-! ## Watchdog (R69, R70) -/

/-- A valid kick: the period restarts and KICKED is set. -/
def State.wdKick (s : State) : State :=
  { s.wr HST_LOST_KICKED 1 with host := { s.host with wdStart := s.clk.el } }

/-- A write to HST_KICK. -/
def State.kick (s : State) (v : Nat) : State := if v = 0x5A3C then s.wdKick else s.inc HST_LOST_BADKEY 1

/-- KICK (R69, R70). -/
def execKick (value : Word) (s : State) : Host.Outcome State Fault Refusal := s.powered <| ok (s.kick value.toNat)

/-- A write to HST_WD: above 60,000 taken as 60,000; a non-zero period is a kick, 0 disarms. -/
def State.wdPeriod (s : State) (v : Nat) : State :=
  let p := min (v % 65536) 60000
  if p = 0 then s.wr HST_WD_PERIOD 0 else (s.wr HST_WD_PERIOD p).wdKick

/-- WATCHDOG_PERIOD_WRITE (R69). -/
def execWatchdogPeriodWrite (value : Word) (s : State) : Host.Outcome State Fault Refusal := s.powered <| ok (s.wdPeriod value.toNat)

/-- The watchdog period has elapsed without a kick. -/
def State.wdDue (s : State) : Bool :=
  s.rd HST_WD_PERIOD != 0 && decide (s.host.wdStart + s.rd HST_WD_PERIOD * 1000000 ≤ s.clk.el)

/-- WATCHDOG_EXPIRY (R69, R70): LOST set, KICKED cleared, counted; rank 3 of R46 applies. -/
def execWatchdogExpiry (s : State) : Host.Outcome State Fault Refusal := s.powered <|
  if s.wdDue then
    let s0 := if s.hostLost then s else s.fioLost
    let s1 := ((s0.wr HST_LOST_LOST 1).wr HST_LOST_KICKED 0).inc HST_LOST_EXPIRED 1
    let s2 : State := { s1 with host := { s1.host with wdStart := s.host.wdStart + s.rd HST_WD_PERIOD * 1000000 } }
    ok ((s2.raise 3 16).fansApply)
  else ok s

/-- A write to HST_LOST (R70): LOST clears only while KICKED is 1. -/
def State.lostClear (s : State) (v : Nat) : State :=
  if bitAt v 0 && s.rd HST_LOST_KICKED == 1 then (s.wr HST_LOST_LOST 0).fansApply else s

/-- HOST_LOST_CLEAR (R70). -/
def execHostLostClear (value : Word) (s : State) : Host.Outcome State Fault Refusal := s.powered <| ok (s.lostClear value.toNat)

end Sys2Proof.Machine
end

