-- ==== Sys2Proof/Machine/Power.lean ====
section
/-! DEFINITION. The power states of the function groups (spec/02_host_and_reset.md R72 to R75, R576). -/

namespace Sys2Proof.Machine

open Sys2Proof

/-- Does the committed image hold a record of this kind? -/
def State.hasKind (s : State) (sect kind : Nat) : Bool := !(s.recs sect kind).isEmpty

/-- Does the committed image use group `g` (R576)? A group of an absent unit is never used. -/
def State.groupUsed (s : State) (g : Nat) : Bool :=
  s.loader.committed && (match g with
  | 0 => s.loader.recs.any (fun r => r.sect == 0x70 || r.sect == 0x80) || s.hasKind 0x60 1 || s.hasKind 0x40 0 ||
      (s.recs 0x40 3).any (fun r => r.v C_SIGNAL_OP_OP == 10) || s.hasKind 0x100 5
  | 1 => s.winPresent 14 && s.hasKind 0x60 0
  | 2 => s.winPresent 26 && (s.hasKind 0x110 2 || s.hasKind 0x110 3)
  | 3 => s.winPresent 27 && s.hasKind 0x110 4
  | 4 => s.hasKind 0x100 1
  | 5 => s.hasKind 0xF0 0
  | 6 => s.hasKind 0x30 1
  | 7 => (s.recs 0x30 0).any (fun r => precisionMode (r.v C_CHANNEL_MODE))
  | 8 => s.hasKind 0x40 2
  | 9 => s.hasKind 0xB0 0
  | 10 => s.hasKind 0x90 1
  | _ => s.winPresent 31 && s.hasKind 0x100 6)

/-- The deepest state a used group allows (R73). -/
def State.groupDeepest (s : State) (g : Nat) : Nat :=
  match g with
  | 1 => 3
  | 2 => 3
  | 5 => if (List.range 4).all (fun n => s.rdi CAN_CTRL_EN n == 0 || s.rdi CAN_STAT_STATE n == 3) then 1 else 0
  | 10 => 0
  | 11 => 0
  | _ => 2

/-- The deepest state whose wake time fits a tolerance of `lat` µs (R72). -/
def stateFor (lat : Nat) : Nat := if 5000 ≤ lat then 3 else if 50 ≤ lat then 2 else if 1 ≤ lat then 1 else 0

/-- The state chosen for group `g` (R72, R73). -/
def State.groupState (s : State) (g : Nat) : Nat :=
  if s.groupUsed g then min (s.groupDeepest g) (stateFor (s.rdi PWR_LAT_LAT g)) else 3

/-- Burst tracking is selected (R73, R148). -/
def State.burstOn (s : State) : Bool := s.groupUsed 2 && decide (1000000 ≤ s.rdi PWR_LAT_LAT 2)

/-- PWR_STATE: the chosen states; in burst tracking G02 reads Run around a burst or a snapshot (R148). -/
def State.pwrValue (s : State) : Nat :=
  ((List.range 12).map (fun g =>
    (if g = 2 && s.burstOn && (s.gns.burst != 0 || s.gns.snap.isSome) then 0 else s.groupState g) * 4 ^ g)).sum +
    b2n s.burstOn * 2 ^ 24

/-- The device chooses anew. -/
def State.pwrShow (s : State) : State := s.setReg 0x40040 s.pwrValue

/-- PWR_LAT_WRITE (R72). -/
def execPwrLatWrite (group : Fin 12) (value : Word) (s : State) : Host.Outcome State Fault Refusal := s.powered <|
  ok ((s.wri PWR_LAT_LAT group value.toNat).pwrShow)

/-- ENTER_POWER_STATE (R72): group `group` has no work and enters its chosen state; in Off the group's unit keeps
nothing (in burst tracking R148 says what is predicted across the gap). -/
def execEnterPowerState (group : Fin 12) (s : State) : Host.Outcome State Fault Refusal := s.powered <|
  let g := group.val
  let k := s.groupState g
  let h := s.host
  if k = 0 || assocGetD h.asleep g 0 == k || (assocGet h.wake g).isSome then ok s
  else
    let s1 : State := { s with host := { h with asleep := assocPut h.asleep g k } }
    if k = 3 && g == 1 then ok s1.pixReset
    else if k = 3 && g == 2 && s.groupUsed 2 && !s.burstOn then ok s1.gnsReset
    else ok s1

/-- GROUP_WAKE (R72, R325): work arrives and the group starts to wake. -/
def execGroupWake (group : Fin 12) (s : State) : Host.Outcome State Fault Refusal := s.powered <|
  let g := group.val
  let h := s.host
  if (assocGet h.asleep g).isSome && (assocGet h.wake g).isNone then
    ok { s with host := { h with wake := assocPut h.wake g s.clk.el } }
  else ok s

/-- WAKE_COMPLETE (R72): the group reaches full rate; channels of a woken path settle (R320). -/
def execWakeComplete (group : Fin 12) (s : State) : Host.Outcome State Fault Refusal := s.powered <|
  let g := group.val
  let h := s.host
  if (assocGet h.wake g).isSome then
    let s1 : State := { s with host := { h with wake := assocDel h.wake g, asleep := assocDel h.asleep g } }
    if g = 6 || g = 7 then
      ok ((List.range 32).foldl (fun t c =>
        let d := c / 16
        let i := c % 16
        if t.diePresent d && t.chanEn d i && (precisionMode (t.chanV d i C_CHANNEL_MODE) == (g == 7)) then t.settleStart d i
        else t) s1)
    else ok s1
  else ok s

end Sys2Proof.Machine
end

