-- ==== Sys2Proof/Machine/Stations.lean ====
section
/-! DEFINITION. Feature and classifier stations, class-rate streams (spec/07_features_classifiers.md). -/

namespace Sys2Proof.Machine

open Sys2Proof

/-- Apply `f` to feature station `k`, and show it. -/
def State.fstM (s : State) (k : Nat) (f : Station → Station) : State :=
  let s1 := s.talM (fun t => { t with fst := listMod t.fst k f })
  let x := listAt s1.tally.fst k {}
  (s1.wri FEA_STAT_QUEUED k x.queue.length).wri FEA_STAT_BUSY k (b2n x.cur.isSome)

/-- Apply `f` to classifier station `k`, and show it. -/
def State.cstM (s : State) (k : Nat) (f : Station → Station) : State :=
  let s1 := s.talM (fun t => { t with cst := listMod t.cst k f })
  let x := listAt s1.tally.cst k {}
  let s2 := ((s1.wri CLS_STAT_QUEUED k x.queue.length).wri CLS_STAT_RESERVED k x.reserved).wri CLS_STAT_BUSY k (b2n x.cur.isSome)
  match x.cur with
  | some c => s2.wri CLS_STAT_BANK k c.bank
  | none => s2

/-- Show every station after work has been taken off their lists. -/
def State.stationsShow (s : State) : State :=
  (List.range 16).foldl (fun s k => (s.fstM k id).cstM k id) s

/-- The service time of 1,600 FCLK cycles in ns (R237). -/
def State.serviceNs (s : State) : Nat := 1600 * 1000 / s.fclkMHz

/-! ## Features (R239 to R242) -/

/-- Aggregates of one view, or of two added (R239, R240). -/
structure Aggr where
  n : Nat
  sum : List Nat
  sq : List Nat
  defects : Nat
  bands : Nat

/-- The aggregates of a fragment summary (R184). -/
def aggrOf (f : List Nat) : Aggr :=
  { n := recBits f 2 59 36
    sum := (List.range 4).map (fun b => recBits f (6 + b) 39 0)
    sq := (List.range 4).map (fun b => recBits f (10 + b) 47 0)
    defects := recBits f 4 23 0
    bands := recBits f 0 23 20 }

/-- The aggregates of two views added. -/
def Aggr.add (a b : Aggr) : Aggr :=
  { n := a.n + b.n
    sum := List.zipWith (· + ·) a.sum b.sum
    sq := List.zipWith (· + ·) a.sq b.sq
    defects := a.defects + b.defects
    bands := max a.bands b.bands }

/-- Quotient in binary32; none for a division by zero (R240). -/
def divO (x y : FV) : Option FV := if y.eqv FV.zero then none else some (FV.div f32 x y)

/-- mean_b (R240); 0 for a band that is not there. -/
def Aggr.mean (a : Aggr) (b : Nat) : Option FV :=
  if a.bands ≤ b then some FV.zero else divO (FV.ofInt (listAt a.sum b 0)) (FV.ofInt a.n)

/-- sq_b (R240). -/
def Aggr.meanSq (a : Aggr) (b : Nat) : Option FV :=
  if a.bands ≤ b then some FV.zero else divO (FV.ofInt (listAt a.sq b 0)) (FV.ofInt a.n)

/-- STDEV of a band (R240). -/
def Aggr.stdev (a : Aggr) (b : Nat) : Option FV :=
  match a.mean b, a.meanSq b with
  | some m, some q =>
    let v := FV.sub f32 q (FV.mul f32 m m)
    some (FV.sqrt f32 (FV.maxV FV.zero v))
  | _, _ => none

/-- Photometric operations, codes 1 to 7 (R240); none yields 0. -/
def photo (op a b : Nat) (g : Aggr) : Option FV :=
  match op, g.mean a, g.mean b with
  | 1, m, _ => m
  | 2, _, _ => g.stdev a
  | 3, some m, _ => (g.stdev a).bind (fun d => divO d m)
  | 4, some m, some k => divO m k
  | 5, some m, some k => divO (FV.sub f32 m k) (FV.add f32 m k)
  | 6, some m, _ =>
    let t := (List.range g.bands).foldl (fun (x : Option FV) i =>
      match x, g.mean i with
      | some x, some y => some (FV.add f32 x y)
      | _, _ => none) (some FV.zero)
    t.bind (divO m)
  | 7, _, _ => divO (FV.ofInt g.defects) (FV.ofInt g.n)
  | _, _, _ => none

/-- Geometric operations, codes 8 to 15 (R240), of one summary, with the group's Y_SCALE. -/
def geom (op : Nat) (y : FV) (f : List Nat) : Option FV :=
  let n := FV.ofInt (recBits f 2 59 36)
  let a := ofB32 (recBits f 4 63 32)
  let c := FV.mul f32 (ofB32 (recBits f 5 31 0)) (FV.mul f32 y y)
  let b := FV.mul f32 (ofB32 (recBits f 5 63 32)) y
  let half (x : FV) : FV := FV.mul f32 x (.fin false 1 (-1))
  let m := half (FV.add f32 a c)
  let d := half (FV.sub f32 a c)
  let r := FV.sqrt f32 (FV.add f32 (FV.mul f32 d d) (FV.mul f32 b b))
  let l1 := FV.add f32 m r
  let l2 := FV.maxV FV.zero (FV.sub f32 m r)
  let w := FV.ofInt ((recBits f 2 25 13 : Int) - recBits f 2 12 0 + 1)
  let h := FV.ofInt (recBits f 2 35 26)
  let four := FV.ofInt 4
  match op with
  | 8 => some n
  | 9 => some (FV.mul f32 four (FV.sqrt f32 l1))
  | 10 => some (FV.mul f32 four (FV.sqrt f32 l2))
  | 11 => (divO l2 l1).map (FV.sqrt f32)
  | 12 =>
    let yy := FV.mul f32 (FV.ofInt 2) b
    let xx := FV.sub f32 a c
    if yy.eqv FV.zero && xx.eqv FV.zero then none
    else some (FV.mul f32 (half (ofB32 (Config.atan2 (toB32 yy) (toB32 xx)))) (FV.dec f32 572957795131 10))
  | 13 => divO n (FV.mul f32 w h)
  | 14 => some w
  | 15 => some (FV.mul f32 h y)
  | _ => none

/-- Pulse operations, codes 32 to 37 (R240), of a pulse summary. -/
def pulseVal (op : Nat) (p : List Nat) : Option FV :=
  let q (o : Nat) : FV := ofB32 (leAt p o 4)
  match op with
  | 32 => some (q 8)
  | 33 => some (q 12)
  | 34 => some (q 16)
  | 35 => some (q 20)
  | 36 => divO (q 12) (q 8)
  | 37 => divO (q 20) (q 16)
  | _ => none

/-- The larger of two values; none counts as 0 (R239, R240). -/
def maxO (x y : Option FV) : Option FV := some (FV.maxV (x.getD FV.zero) (y.getD FV.zero))

/-- The value of a feature definition for an object (R239, R240). -/
def featureVal (y : FV) (d : CfgRec) (o : Obj) : FV :=
  let op := d.v C_FEATURE_DEF_OP
  let a := d.v C_FEATURE_DEF_ARG_A
  let b := d.v C_FEATURE_DEF_ARG_B
  let photoF (f : List Nat) : Option FV := photo op a b (aggrOf f)
  let v : Option FV := match o.frags, o.pulse with
    | [], some p => pulseVal op p
    | [f], _ => if op < 8 then photoF f else geom op y f
    | f :: g :: _, _ =>
      if op < 8 then
        match d.v C_FEATURE_DEF_VIEW with
        | 0 => photo op a b ((aggrOf f).add (aggrOf g))
        | 1 => photoF f
        | 2 => photoF g
        | _ => maxO (photoF f) (photoF g)
      else
        match d.v C_FEATURE_DEF_VIEW with
        | 2 => geom op y g
        | 3 => maxO (geom op y f) (geom op y g)
        | _ => geom op y f
    | [], none => none
  v.getD FV.zero

/-- Scale, round and saturate a value (R241): the feature, and whether it saturated. -/
def featureCode (d : CfgRec) (v : FV) : Int × Bool :=
  match FV.add f32 (FV.mul f32 (ofB32 (d.v C_FEATURE_DEF_SCALE)) v) (ofB32 (d.v C_FEATURE_DEF_OFFSET)) with
  | .nan => (0, false)
  | .inf neg => (if neg then -32768 else 32767, true)
  | x =>
    let i := x.roundI
    (satS 16 i, decide (i < -32768) || decide (32767 < i))

/-- Features 0 to 47 of an object for a group, and the indices that saturated (R239 to R241). -/
def State.features (s : State) (group : Nat) (o : Obj) : List Int × List Nat :=
  let y := ofB32 (s.cv C_FEATURE_GROUP_Y_SCALE group)
  let l := (List.range 48).map (fun f =>
    match s.crec2 C_FEATURE_DEF_GROUP group f with
    | some d => featureCode d (featureVal y d o)
    | none => (0, false))
  (l.map (·.1), ((List.range 48).zip l).filterMap (fun (k, p) => if p.2 then some k else none))

/-- Inputs 48 to 63 (R242), from the record and the primary summary. -/
def recInputs (o : Obj) (w : List Nat) : List Int :=
  let frag := !o.frags.isEmpty
  let wide : Int := if frag then (recBits w 4 25 13 : Int) - recBits w 4 12 0 + 1 else 0
  let l : List Int := [recBits w 2 59 48, recBits w 2 63 60, recBits w 4 63 52,
    if frag then recBits (listAt o.frags 0 []) 2 35 26 else 0, wide, recBits w 0 36 32, recBits w 7 39 32, recBits w 0 41 40]
  l ++ List.replicate 8 0

/-! ## Service -/

/-- The group of feature station `k`. -/
def State.feaGroup (s : State) (k : Nat) : Option CfgRec :=
  (s.recs 0x40 0).find? (fun r => bitAt (r.v C_FEATURE_GROUP_STATIONS) k)

/-- The model of classifier station `k`. -/
def State.clsModel (s : State) (k : Nat) : Option CfgRec :=
  (s.recs 0x80 0).find? (fun r => bitAt (r.v C_MODEL_STATIONS) k)

/-- Feature station `k` starts its next object (R237, R248). -/
def State.feaStart (s : State) (k : Nat) : State :=
  let x := listAt s.tally.fst k {}
  match x.cur, x.queue with
  | none, n :: rest =>
    match s.obj n with
    | some o =>
      let (l, s1) := s.memReads (slotAddr n) 8
      let (f, sat) := s.features ((s.feaGroup k).map (fun r => r.v C_FEATURE_GROUP_GROUP) |>.getD 0) o
      s1.fstM k (fun x => { x with
        queue := rest
        cur := some { slot := n, till := s.clk.el + s.serviceNs, x := f, sat, bad := l.any (·.isNone) } })
    | none => s.fstM k (fun x => { x with queue := rest })
  | _, _ => s

/-- A node of a tree (R245): its 32-bit word; none when the read fails. -/
def State.treeNode (s : State) (tree i : Nat) : Option Nat × State :=
  let a := tree + 4 * i
  let (w, s1) := s.memRead (a / 8 * 8)
  (w.map (fun v => if a % 8 < 4 then v % 2 ^ 32 else v / 2 ^ 32), s1)

/-- Walk one tree (R246): none on a failed read; else its vote, or none for a tree in error. -/
def State.treeWalk (s : State) (m : CfgRec) (tree : Nat) (x : List Int) : Nat → Nat → Option (Option (Nat × Nat)) × State
  | 0, _ => (some none, s)
  | k + 1, i =>
    match s.treeNode tree i with
    | (none, s1) => (none, s1)
    | (some w, s1) =>
      if bitAt w 31 then
        let c := bitsOf w 3 0
        (some (if c < m.v C_MODEL_CLASSES then some (c, bitsOf w 11 4) else none), s1)
      else if 2 ^ m.v C_MODEL_DEPTH - 1 ≤ i then (some none, s1)
      else s1.treeWalk m tree x k (if listAt x (bitsOf w 29 24) 0 ≤ sint 16 w then 2 * i + 1 else 2 * i + 2)

/-- All trees of an ensemble: votes per class and trees in error. -/
def State.trees (s : State) (m : CfgRec) (table : Nat) (x : List Int) : Nat → Nat → List Nat → Nat → Option (List Nat × Nat) × State
  | 0, _, votes, err => (some (votes, err), s)
  | k + 1, t, votes, err =>
    let depth := m.v C_MODEL_DEPTH
    match s.treeWalk m (table + t * 2 ^ (depth + 1) * 4) x (depth + 1) 0 with
    | (none, s1) => (none, s1)
    | (some (some (c, w)), s1) => s1.trees m table x k (t + 1) (listMod votes c (· + w)) err
    | (some none, s1) => s1.trees m table x k (t + 1) votes (err + 1)

/-- The lowest index of the largest item. -/
def argmaxI (l : List Int) : Nat :=
  (l.zipIdx.foldl (fun (b : Int × Nat × Bool) (p : Int × Nat) =>
    if !b.2.2 || decide (b.1 < p.1) then (p.1, p.2, true) else b) (0, 0, false)).2.1

/-- The tree ensemble (R246). -/
def State.evalTrees (s : State) (m : CfgRec) (table : Nat) (x : List Int) : Option ClsRes × State :=
  match s.trees m table x (m.v C_MODEL_TREES) 0 (List.replicate 16 0) 0 with
  | (none, s1) => (none, s1)
  | (some (votes, err), s1) =>
    let top := argmaxI (votes.map (fun v => (v : Int)))
    let total := votes.sum
    (some ⟨top, if total = 0 then 0 else 255 * listAt votes top 0 / total, err⟩, s1)

/-- s_c of each class of a linear layer (R247). -/
def State.linearSums (s : State) (m : CfgRec) (table : Nat) (x : List Int) : Nat → Nat → Option (List Int) × State
  | 0, _ => (some [], s)
  | k + 1, c =>
    let inputs := m.v C_MODEL_INPUTS
    let (l, s1) := s.memBytes (table + 128 * c) (2 * inputs)
    let ba := table + 2048 + 4 * c
    let (b, s2) := s1.memRead (ba / 8 * 8)
    match l, b with
    | some l, some b =>
      let bias := sint 32 (if ba % 8 < 4 then b % 2 ^ 32 else b / 2 ^ 32)
      let v : Int := (List.range inputs).foldl (fun a i => a + sint 16 (leAt l (2 * i) 2) * listAt x i 0) bias
      match s2.linearSums m table x k (c + 1) with
      | (some r, s3) => (some (v :: r), s3)
      | (none, s3) => (none, s3)
    | _, _ => (none, s2)

/-- The linear layer (R247). -/
def State.evalLinear (s : State) (m : CfgRec) (table : Nat) (x : List Int) : Option ClsRes × State :=
  match s.linearSums m table x (m.v C_MODEL_CLASSES) 0 with
  | (none, s1) => (none, s1)
  | (some v, s1) =>
    let top := argmaxI v
    let p : Int := (2 ^ m.v C_MODEL_SHIFT : Nat)
    let best := listAt v top 0
    let rest := (v.zipIdx.filter (fun q => q.2 != top)).map (·.1)
    let score : Int := if v.length = 1 then limI 0 255 (best / p)
      else min 255 ((best - listAt rest (argmaxI rest) 0) / p)
    (some ⟨top, score.toNat, 0⟩, s1)

/-- OLD_BUSY follows the stations in service; BANKFREE is raised when a bit falls (R251, R255). -/
def State.clsBanks (s : State) : State :=
  (List.range 16).foldl (fun s g =>
    let busy := (List.range 16).any (fun k =>
      match (listAt s.tally.cst k {}).cur, s.clsModel k with
      | some c, some m => m.v C_MODEL_GROUP == g && c.bank != b2n (bitAt (s.rd CLS_BANK_BANK) g)
      | _, _ => false)
    let was := bitAt (s.rd CLS_BANK_OLD_BUSY) g
    (s.wr CLS_BANK_OLD_BUSY (setBit (s.rd CLS_BANK_OLD_BUSY) g busy)).raiseIf (was && !busy) 17 (16 + g)) s

/-- Classifier station `k` starts its next object on the bank in use (R244, R251). -/
def State.clsStart (s : State) (k : Nat) : State :=
  let c := listAt s.tally.cst k {}
  match c.cur, c.queue, s.clsModel k with
  | none, n :: rest, some m =>
    if s.marked 3 then
      match s.obj n with
      | some o =>
        let bank := b2n (bitAt (s.rd CLS_BANK_BANK) (m.v C_MODEL_GROUP))
        let (l, s1) := s.memReads (slotAddr n) 8
        let x := o.x ++ recInputs o (l.map (fun v => v.getD 0))
        let table := 0x400000 + (if bank = 1 then m.v C_MODEL_TABLE1 else m.v C_MODEL_TABLE0)
        let (res, s2) := if m.v C_MODEL_TYPE = 0 then s1.evalTrees m table x else s1.evalLinear m table x
        let bad := l.any (·.isNone) || res.isNone
        let acts := s.crec C_ACTIONS_GROUP (m.v C_MODEL_GROUP)
        let asg := s.crec C_ASSIGN_SOURCE o.source
        (s2.cstM k (fun c => { c with
          queue := rest
          cur := some { slot := n, till := s.clk.el + s.serviceNs, x, bank, res, bad, acts, asg } })).clsBanks
      | none => s.cstM k (fun c => { c with queue := rest })
    else s
  | _, _, _ => s

/-! ## Dispatch and completion -/

/-- The station of a list with the least load, ties to the lower index. -/
def leastOf (load : Nat → Nat) : List Nat → Option Nat
  | [] => none
  | k :: t =>
    match leastOf load t with
    | some j => if load j < load k then some j else some k
    | none => some k

/-- DISPATCH (R221, R236): the head of a group's wait list enters a feature queue and reserves a classifier place,
or goes to Done when its deadline has passed. -/
def execDispatch (group : Fin 16) (s : State) : Host.Outcome State Fault Refusal := s.powered <|
  match listAt s.tally.waits group.val [] with
  | [] => ok s
  | n :: rest =>
    match s.obj n with
    | none => ok (s.talM (fun t => { t with waits := listSet t.waits group.val rest }))
    | some o =>
      let pop (s : State) : State := s.talM (fun t => { t with waits := listSet t.waits group.val rest })
      let late := match o.deadline with
        | some d => decide (d < (s.clk.now : Int))
        | none => false
      if late then
        match (pop s).recUpd n o (fun w => recFlag 5 true (recFlag 2 true w)) with
        | (some w, s1) => ok ((((s1.inc TAL_LATE_DECIDE 1).raise 13 2).lossResult o.source none).talFinish n o w)
        | (none, s1) => ok s1
      else
        let cg := ((s.crec C_ASSIGN_SOURCE o.source).map (fun a => a.v C_ASSIGN_CGROUP)).getD 0
        let inF (k : Nat) : Bool := bitAt (s.cv C_FEATURE_GROUP_STATIONS group.val) k && bitAt (s.rd FEA_CTRL_EN) k
        let inC (k : Nat) : Bool := bitAt (s.cv C_MODEL_STATIONS cg) k && bitAt (s.rd CLS_CTRL_EN) k
        let fLoad (k : Nat) : Nat := let x := listAt s.tally.fst k {}; x.queue.length + b2n x.cur.isSome
        let cLoad (k : Nat) : Nat := let x := listAt s.tally.cst k {}; x.queue.length + x.reserved + b2n x.cur.isSome
        match leastOf fLoad ((List.range 16).filter inF), leastOf cLoad ((List.range 16).filter inC) with
        | some f, some c =>
          let cx := listAt s.tally.cst c {}
          if (listAt s.tally.fst f {}).queue.length < 32 && decide (cx.queue.length + cx.reserved < 32) then
            let s1 := ((pop s).objPut n { o with stage := .feature f c }).fstM f (fun x => { x with queue := x.queue ++ [n] })
            ok ((s1.cstM c (fun x => { x with reserved := x.reserved + 1 })).feaStart f)
          else ok s
        | _, _ => ok s

/-- FEATURE_COMPLETE (R237): a feature station's service ends and its results pass to the reserved place. -/
def execFeatureComplete (station : Fin 16) (s : State) : Host.Outcome State Fault Refusal := s.powered <|
  let k := station.val
  match (listAt s.tally.fst k {}).cur with
  | none => ok (s.feaStart k)
  | some v =>
    if s.clk.el < v.till then ok s
    else
      let s1 := (s.fstM k (fun x => { x with cur := none })).wrapi FEA_OBJ_COUNT k 1
      let s2 := match s1.obj v.slot with
        | some o =>
          match o.stage with
          | .feature f c =>
            if f != k then s1
            else if v.bad then ((s1.inc FEA_UE_COUNT 1).raise 16 1).defaultPath v.slot o true
            else
              let t1 := match v.sat.getLast? with
                | some i => ((s1.inc FEA_SAT_COUNT v.sat.length).wr FEA_SAT_LAST i).raise 16 0
                | none => s1
              let t2 := t1.objPut v.slot { o with stage := .classifier c, x := v.x }
              (t2.cstM c (fun x => { x with reserved := x.reserved - 1, queue := x.queue ++ [v.slot] })).clsStart c
          | _ => s1
        | none => s1
      ok (s2.stationsShow.feaStart k)

/-- A class is written: class-rate streams that it belongs to count it (R252). -/
def State.rateCount (s : State) (k : Nat) (m : CfgRec) (source cls : Nat) : State :=
  (List.range 16).foldl (fun s j =>
    match s.crec C_RATE_STATION j with
    | some r =>
      let scope := if r.v C_RATE_SCOPE = 0 then j == k else bitAt (m.v C_MODEL_STATIONS) j
      if scope && bitAt (r.v C_RATE_SOURCES) source && bitAt (r.v C_RATE_CLASSES) cls then
        s.talM (fun t => { t with rates := listMod t.rates j (fun w => { w with cur := w.cur + 1 }) })
      else s
    | none => s) s

/-- CLASSIFIER_RESULT (R249): a classifier station's service ends: demotion, class, action, stakes. -/
def execClassifierResult (station : Fin 16) (s : State) : Host.Outcome State Fault Refusal := s.powered <|
  let k := station.val
  match (listAt s.tally.cst k {}).cur, s.clsModel k with
  | some v, some m =>
    if s.clk.el < v.till then ok s
    else
      let g := m.v C_MODEL_GROUP
      let s1 := ((s.cstM k (fun x => { x with cur := none })).wrapi CLS_OBJ_COUNT k 1).clsBanks
      let s2 := match s1.obj v.slot with
        | some o =>
          if o.stage = Stage.classifier k then
            match v.bad, v.res with
            | false, some r =>
              let t1 := if 0 < r.treeErr then ((s1.inc CLS_TREEERR_COUNT r.treeErr).wr CLS_TREEERR_GROUP g).raise 17 1 else s1
              let av (f : CRef) (i : Nat) : Nat := (v.acts.map (fun (a : CfgRec) => listAt a.vals (f.field + i) 0)).getD 0
              let thr := av C_ACTIONS_DEMOTE_THR0 r.cls
              let dem := thr != 0 && decide (r.score < thr)
              let cls := if dem then av C_ACTIONS_DEMOTE_TO0 r.cls else r.cls
              let t2 := if dem then t1.inc CLS_DEMOTE_COUNT 1 else t1
              let t3 := (t2.wrapi CLS_COUNT_COUNT (16 * g + cls) 1).rateCount k m o.source cls
              (t3.lossResult o.source (some cls)).classified v.slot { o with x := v.x, asg := v.asg } cls r.score (av C_ACTIONS_ACTION0 cls) (recFlag 3 dem)
            | _, _ => ((s1.inc CLS_UE_COUNT 1).raise 17 0).defaultPath v.slot o true
          else s1
        | none => s1
      ok (s2.stationsShow.clsStart k)
  | _, _ => ok (s.clsStart k)

/-- A class-rate window starts at zero (R252). -/
def State.rateStart (s : State) (k : Nat) : State :=
  s.talM (fun t => { t with
    rates := listSet t.rates k ({ till := s.clk.el + s.cv C_RATE_WINDOW k * 62500 } : RateWin) })

/-- SUB_WINDOW_END (R252): a sub-window ends and the station's stream emits its rate. -/
def execSubWindowEnd (station : Fin 16) (s : State) : Host.Outcome State Fault Refusal := s.powered <|
  let k := station.val
  let w := listAt s.tally.rates k {}
  match s.crec C_RATE_STATION k with
  | some r =>
    if s.clk.el < w.till then ok s
    else
      let counts := w.counts.drop 1 ++ [w.cur]
      let v := toB32 (FV.div f32 (FV.ofInt (1000 * (counts.sum : Int))) (FV.ofInt (r.v C_RATE_WINDOW)))
      let tag := s.clk.now + w.till - s.clk.el
      let s1 := s.talM (fun t => { t with
        rates := listSet t.rates k ({ counts, cur := 0, till := w.till + r.v C_RATE_WINDOW * 62500 } : RateWin) })
      ok ((s1.wri CLS_RATE_RATE k v).produce (160 + k) v 0 tag)
  | none => ok s

/-! ## Resets and the image (R256) -/

/-- Members of the groups, which CTRL enables from the image, and the group fields of the state registers. -/
def State.feaImage (s : State) : State :=
  let s1 := s.wr FEA_CTRL_EN ((s.recs 0x40 0).foldl (fun a r => a ||| r.v C_FEATURE_GROUP_STATIONS) 0)
  (List.range 16).foldl (fun s k =>
    let g := s.feaGroup k
    (s.wri FEA_STAT_ASSIGNED k (b2n g.isSome)).wri FEA_STAT_GROUP k ((g.map (fun r => r.v C_FEATURE_GROUP_GROUP)).getD 0)) s1

/-- The image's values of CLS_CTRL and CLS_BANK, and the group fields. -/
def State.clsImage (s : State) : State :=
  let models := s.recs 0x80 0
  let s1 := s.wr CLS_CTRL_EN (models.foldl (fun a r => a ||| r.v C_MODEL_STATIONS) 0)
  let s2 := s1.wr CLS_BANK_BANK (models.foldl (fun a r => setBit a (r.v C_MODEL_GROUP) (r.v C_MODEL_BANK == 1)) 0)
  let s3 := (List.range 16).foldl (fun s k =>
    let g := s.clsModel k
    ((s.wri CLS_STAT_ASSIGNED k (b2n g.isSome)).wri CLS_STAT_GROUP k ((g.map (fun r => r.v C_MODEL_GROUP)).getD 0)).rateStart k) s2
  s3.clsBanks

/-- Objects at a stage take the default path. -/
def State.defaultAll (s : State) (p : Stage → Bool) : State :=
  ((s.tally.herd.filter (fun q => p q.2.stage)).foldl (fun s q => s.defaultPath q.1 q.2 false) s).stationsShow

/-- A unit reset of FEA (R256). -/
def State.feaReset (s : State) : State :=
  let s1 := s.defaultAll (fun st => match st with
    | .feature _ _ => true
    | _ => false)
  ((s1.talM (fun t => { t with fst := List.replicate 16 {} })).stationsShow).feaImage

/-- A unit reset of CLS (R256). -/
def State.clsReset (s : State) : State :=
  let s1 := s.defaultAll (fun st => match st with
    | .feature _ _ => true
    | .classifier _ => true
    | _ => false)
  ((s1.talM (fun t => { t with cst := List.replicate 16 {}, fst := List.replicate 16 {} })).stationsShow).clsImage

end Sys2Proof.Machine
end

