-- ==== Sys2Proof/Machine/ValveLinks.lean ====
section
/-! DEFINITION. Valve links (spec/08_stakeout_reflex.md R278 to R287). -/

namespace Sys2Proof.Machine

open Sys2Proof

/-- CRC-16-CCITT of a byte string (R279). -/
def crc16ccitt (l : List Nat) : Nat := l.foldl (fun c b => crc16Bits 0x1021 8 (c ^^^ (b % 256 * 256))) 0xFFFF

/-- A firing word (R280). -/
def firingWord (valve : Nat) (open_ : Bool) (offset : Nat) : Nat :=
  let w := valve % 4096 * 2 ^ 12 + b2n open_ * 2 ^ 11 + offset % 128 * 2 ^ 4
  w + (bitsOf w 23 20 ^^^ bitsOf w 19 16 ^^^ bitsOf w 15 12 ^^^ bitsOf w 11 8 ^^^ bitsOf w 7 4)

/-- The 44 bytes of an outbound frame (R279). -/
def frameBytes (n : Nat) (words : List Nat) : List Nat :=
  let w := words.flatMap (leBytes 3)
  let body := leBytes 4 n ++ [words.length] ++ w ++ List.replicate (36 - w.length) 0
  0xBC :: body ++ leBytes 2 (crc16ccitt body)

/-- An edge that waits for a frame: time, acceptance order, target, open, the place of its run. -/
structure VEdge where
  time : Int
  order : Nat
  target : Nat
  opens : Bool

/-- The frame in which an edge falls (R281). -/
def frameOf (t : Int) : Int := t / 1000 - 3

/-- Insert an edge in time order, then acceptance order (R283). -/
def edgeInsert (e : VEdge) : List VEdge → List VEdge
  | [] => [e]
  | x :: t => if e.time < x.time || (e.time == x.time && decide (e.order < x.order)) then e :: x :: t else x :: edgeInsert e t

/-- Edges of link `l` that fall in frame `n` or before. -/
def State.dueEdges (s : State) (l n : Nat) : List VEdge :=
  let all := s.stk.targets.flatMap (fun (t, x) =>
    if isValve t && linkOf t == l then
      x.runs.flatMap (fun r =>
        let on := if !r.placed && decide (frameOf r.on ≤ (n : Int)) then [(⟨r.on, r.order, t, true⟩ : VEdge)] else []
        let off := match r.off (s.minW t) with
          | some e => if frameOf e ≤ (n : Int) then [(⟨e, r.order, t, false⟩ : VEdge)] else []
          | none => []
        on ++ off)
    else [])
  all.foldl (fun a e => edgeInsert e a) []

/-- An edge of a valve is placed: its target's level changes and its stakes are reported (R269). -/
def State.placeEdge (s : State) (e : VEdge) : State :=
  match (s.target e.target).runs with
  | [] => s
  | r :: rest =>
    if e.opens then
      let s1 := s.targetM e.target (fun x => { x with
        runs := (s.target e.target).runs.map (fun q => if q.on = e.time then { q with placed := true, reps := [] } else q)
        active := true, changed := s.clk.el })
      s1.executedAll (((s.target e.target).runs.filter (fun q => q.on == e.time)).flatMap (fun q => q.reps))
    else
      let s1 := s.targetM e.target (fun x => { x with runs := rest, active := false, lastOff := some e.time, changed := s.clk.el })
      s1.executedAll r.offReps

/-- Is link `l` inhibited (R287)? -/
def State.inhibited (s : State) (l : Nat) : Bool :=
  let r := s.cv C_VLINK_INHIBIT_RFX l
  s.rdi VL_CTRL_INHIBIT l == 1 || (r != 0xFF && s.rfxOut r)

/-- Insert a valve in an ascending list. -/
def valveInsert (v : Nat) : List Nat → List Nat
  | [] => [v]
  | x :: t => if v < x then v :: x :: t else if v = x then x :: t else x :: valveInsert v t

/-- The valves open at the assembly after a word. -/
def openAfter (l : List Nat) (v : Nat) (open_ : Bool) : List Nat := if open_ then valveInsert v l else l.filter (· != v)

/-- VALVE_LINK_FRAME (R279 to R283, R287, R292): each microsecond the frame of an enabled link is built and sent; a
standby executes the edges as a shadow and sends none. -/
def execValveLinkFrame (link : Fin 4) (s : State) : Host.Outcome State Fault Refusal := s.powered <|
  let l := link.val
  let n := s.clk.now / 1000
  let v := listAt s.stk.links l {}
  if !s.has C_VLINK_LINK l || s.rdi VL_CTRL_EN l = 0 || v.last == some n then ok s
  else
    let due := s.dueEdges l n
    let s0 := s.vlinkM l (fun x => { x with last := some n })
    if s.standby then ok (due.foldl (fun s e => s.placeEdge e) s0)
    else if s.inhibited l then
      let shut := v.opened.take 12
      let s1 := s0.vlinkM l (fun x => { x with opened := x.opened.drop 12, first := x.first.filter (fun p => !p.2 && !x.opened.contains p.1) })
      let s2 := due.foldl (fun s e => s.placeEdge e) s1
      ok (s2.emit (.valveFrame l n (n * 1000 + 100 - s.cv C_VLINK_CABLE_NS l) (frameBytes n (shut.map (fun k => firingWord k false 0)))))
    else
      let head := v.first.take 12
      let sent := due.take (12 - head.length)
      let left := due.length - sent.length
      let words := head.map (fun p => firingWord p.1 p.2 0) ++ sent.map (fun e =>
        firingWord (e.target - 0x1000) e.opens (if frameOf e.time = (n : Int) then (e.time % 1000).toNat / 8 else 0))
      let s1 := s0.vlinkM l (fun x => { x with
        first := x.first.drop 12
        opened := sent.foldl (fun a e => openAfter a (e.target - 0x1000) e.opens)
          (head.foldl (fun a p => openAfter a p.1 p.2) x.opened) })
      let s2 := sent.foldl (fun s e => s.placeEdge e) s1
      let s3 := if 0 < left then (s2.inci VL_SPILL_COUNT l left).raise 12 (16 + l) else s2
      ok (s3.emit (.valveFrame l n (n * 1000 + 100 - s.cv C_VLINK_CABLE_NS l) (frameBytes n words)))

/-- RETURN_FRAME (R284, R286): the fifteen bytes after the comma. -/
def execReturnFrame (link : Fin 4) (bytes : List Nat) (s : State) : Host.Outcome State Fault Refusal := s.powered <|
  let l := link.val
  if leAt bytes 13 2 != crc16ccitt (slice bytes 0 13) then ok (s.inci VL_ERR_CRC l 1)
  else
    let st := leAt bytes 4 1
    let fault := leAt bytes 5 2
    let code := bitsOf fault 15 12
    let valve := bitsOf fault 11 0
    let s1 := ((((s.wri VL_STAT_STATUS l st).wri VL_STAT_AGE l 0).wri VL_STAT_FAULT l (bitsOf st 3 3)).wri VL_STAT_LOST l 0)
    let s2 := (((s1.inci VL_ERR_REMOTE l (leAt bytes 3 1)).wri VL_FAULT_OUTSTANDING l (leAt bytes 7 2)).wri VL_ENV_SUPPLY l
      (leAt bytes 9 2)).wri VL_ENV_TEMP l (leAt bytes 11 2)
    let s3 := s2.vlinkM l (fun x => { x with lastRet := s.clk.el, heard := true })
    if code = 0 then ok s3
    else
      let s4 := s3.wri STK_VFMAP_FAULT (valve / 32) (setBit (s3.rdi STK_VFMAP_FAULT (valve / 32)) (valve % 32) true)
      ok (((s4.wri VL_FAULT_CODE l code).wri VL_FAULT_VALVE l valve).raise 12 (12 + l))

/-- VLLOST (R286): no valid return frame within RET_TIMEOUT. -/
def execVllost (link : Fin 4) (s : State) : Host.Outcome State Fault Refusal := s.powered <|
  let l := link.val
  if s.has C_VLINK_LINK l && s.rdi VL_STAT_LOST l == 0 &&
      decide ((listAt s.stk.links l {}).lastRet + 1000 * s.cv C_VLINK_RET_TIMEOUT l ≤ s.clk.el) then
    ok ((s.wri VL_STAT_LOST l 1).raise 12 (8 + l))
  else ok s

/-- VL_STATn.AGE at a read: microseconds since the last valid return frame, up to 255. -/
def State.vlAge (s : State) (l : Nat) : Nat :=
  let x := listAt s.stk.links l {}
  if x.heard then min 255 ((s.clk.el - x.lastRet) / 1000) else 255

/-- A write of VL_CTRLn.EN (R279): stopping discards the link's stakes and closes its valves. -/
def State.vlEnable (s : State) (l : Nat) (on : Bool) : State :=
  if on == (s.rdi VL_CTRL_EN l == 1) then s
  else if on then
    (s.wri VL_CTRL_EN l 1).vlShow.vlinkM l (fun x => { x with last := none, first := [], opened := [] })
  else
    let s1 := (s.wri VL_CTRL_EN l 0).vlShow.vlinkM l (fun x => { x with last := none, first := [], opened := [] })
    s1.stkFlush (fun t => isValve t && linkOf t == l)

/-- VL_ENABLE_WRITE (R279). -/
def execVlEnableWrite (link : Fin 4) (en : Bool) (s : State) : Host.Outcome State Fault Refusal := s.powered <| ok (s.vlEnable link.val en)

end Sys2Proof.Machine
end

