-- ==== Sys2Proof/Machine/Resets.lean ====
section
/-! DEFINITION. The unit reset scope (spec/02_host_and_reset.md R76, R77) with what each unit's chapter adds. -/

namespace Sys2Proof.Machine

open Sys2Proof

/-- The register window of the unit that a record configures; 25 for link records and 32 where no unit reset reaches
(R77, R85). -/
def recUnit (r : CfgRec) : Nat :=
  match r.sect with
  | 0x10 => if r.kind = 0 then 11 else 10
  | 0x20 => 25
  | 0x30 =>
    let k := listAt r.vals 0 0
    if r.kind = 4 then 21 + k else 21 + k / 16
  | 0x40 => if r.kind ≤ 1 then 16 else 18
  | 0x60 => if r.kind = 0 then 14 else 15
  | 0x70 => 13
  | 0x80 => 17
  | 0x90 => 12
  | 0xA0 => 19
  | 0xB0 => 20
  | 0xC0 =>
    let k := listAt r.vals 0 0
    if r.kind = 0 then 23 + k / 24 else 23 + k / 4
  | 0xD0 => 9
  | 0xE0 => 8
  | 0xF0 => 28
  | 0x100 => if r.kind = 1 || r.kind = 2 then 29 else if r.kind = 6 then 31 else 30
  | 0x110 => if r.kind = 2 || r.kind = 3 then 26 else if r.kind = 4 then 27 else 32
  | 0x120 => 7
  | _ => 32

/-- What a reset of the unit of window `w` does, its records standing at the image's values. -/
def State.unitApply (s : State) (w : Nat) : State :=
  match w with
  | 7 => s.recReset
  | 8 => s.thmReset
  | 9 => s.fanReset.fansApply
  | 10 => s.rfxReset
  | 11 => s.tpinReset
  | 12 => s.stkFlushAll.stkImage
  | 13 => s.talReset
  | 14 => s.pixReset
  | 15 => s.trnReset
  | 16 => s.feaReset
  | 17 => s.clsReset
  | 18 => s.sigReset
  | 19 => s.msrReset
  | 20 => s.loopReset
  | 21 => s.afeReset 0
  | 22 => s.afeReset 1
  | 23 => (s.fioReset 0).linkM 0 (fun x => { x with cfgNext := true })
  | 24 => (s.fioReset 1).linkM 1 (fun x => { x with cfgNext := true })
  | 26 => s.gnsReset
  | 27 => s.fixReset
  | 28 => s.canReset
  | 29 => s.ethReset
  | 30 => s.twnReset
  | 31 => s.pairReset
  | _ => s

/-- Does SYS_URESET reset window `w` (R77)? -/
def State.resettable (s : State) (w : Nat) : Bool :=
  decide (7 ≤ w) && decide (w < 32) && w != 25 && s.winPresent w

/-- A reset of the unit of window `w` starts (R77): its amendments are discarded, the unit returns to the committed
image, and its SYS_URESET bit reads 1. -/
def State.unitReset (s : State) (w : Nat) : State :=
  if s.resettable w then
    let s1 := ((s.discardUnit (fun r => recUnit r == w)).unitApply w).wr SYS_URESET_UNIT
      (setBit (s.rd SYS_URESET_UNIT) w true)
    let h := s1.host
    ({ s1 with host := { h with uresetAt := assocPut h.uresetAt w s.clk.el } }).padRefresh
  else s

/-- A write to SYS_URESET. -/
def State.unitResets (s : State) (mask : Nat) : State :=
  (List.range 32).foldl (fun t w => if bitAt mask w then t.unitReset w else t) s

/-- UNIT_RESET (R77). -/
def execUnitReset (mask : Word) (s : State) : Host.Outcome State Fault Refusal := s.powered <| ok (s.unitResets mask.toNat)

/-- UNIT_RESET_COMPLETE (R77): within 100 µs; the bit reads 0. -/
def execUnitResetComplete (window : Fin 32) (s : State) : Host.Outcome State Fault Refusal := s.powered <|
  let w := window.val
  let h := s.host
  if (assocGet h.uresetAt w).isSome then
    let s1 : State := { s with host := { h with uresetAt := assocDel h.uresetAt w } }
    ok ((s1.wr SYS_URESET_UNIT (setBit (s.rd SYS_URESET_UNIT) w false)).padRefresh)
  else ok s

end Sys2Proof.Machine
end

