-- ==== Sys2Proof/Machine/Commit.lean ====
section
/-! DEFINITION. Commit of a staged configuration, and amendments at their boundaries (spec/03_plat_image.md R98, R99,
R108 to R113). -/

namespace Sys2Proof.Machine

open Sys2Proof

/-! ## Commit (R92, R98, R99, R113) -/

/-- The configuration changes over: records, image registers, no amendment applied, no element on the traverse. -/
def State.swapIn (s : State) (st : Staged) : State :=
  let l := s.loader
  let s1 : State := { s with
    trav := []
    loader := { l with
      committed := true, recs := st.recs, imageRecs := st.recs, staged := none, applied := [], commitTime := s.clk.el } }
  let s2 := ((s1.wr SYS_STATE_IMGCRC (st.imgCrc % 65536)).wr PLAT_IMAGEID_ID st.imageId).wr PLAT_SEQ_COMMITTED
    (s.rd PLAT_SEQ_LAST)
  let s3 := (s2.wr PLAT_STAT_SOURCE st.source).wr PLAT_AMEND_STAT_APPLIED 0
  if st.source = 3 then s3.wr PLAT_STAT_FALLBACK 0 else s3

/-- The units that count what a reset discards are reset under the configuration that ends. -/
def State.commitEnd (s : State) : State := (s.stkFlushAll.talReset.pixReset.trnReset).padRefresh

/-- The units are configured from the new image. -/
def State.commitUnits (s : State) : State :=
  let s1 := ((s.fanReset.fanBaseImage.rfxReset.tpinReset.stkImage.talImage.pixReset.trnReset.feaImage.clsImage).sigReset.sigCommit).msrReset
  let s2 := (((s1.loopCommit.afeReset 0).afeReset 1).fioReset 0).fioReset 1
  let s3 := (s2.gnsReset.fixReset.canCommit.ethReset.twnCommit.pairCommit.recReset.chainCommit.timeCommit).stationsShow
  (s3.recs 0x130 0).foldl (fun t r => t.wri PWR_LAT_LAT (r.v C_POWER_GROUP) (r.v C_POWER_LAT)) s3

/-- Both present field dies get a chain reset when the commit comes in Run; otherwise the next frames carry the new
configuration (R99, R81). -/
def State.commitDies (s : State) (run : Bool) : State :=
  if run then (s.chainReset1 0).chainReset1 1
  else (s.linkM 0 (fun x => { x with cfgNext := true })).linkM 1 (fun x => { x with cfgNext := true })

/-- The REGION_NOT_INIT entries after the fills (R98): once per unit, against its first record that needs the
region. -/
def State.notInit (s : State) (seq : Nat) : List RepEntry :=
  [13, 12, 15, 17, 18, 19, 26, 27].filterMap (fun w =>
    (s.loader.recs.find? (fun r => recUnit r == w && (match regionNeed r.sect r.kind with
      | some g => !s.marked g
      | none => false))).map (fun r => entry seq r.sect r.index 0xFF 0x52 0 0))

/-- COMMIT (R98, R99, R113): the staged configuration replaces the running one, the fills run, the image's own
amendments are queued, and the device is in Run. -/
def execCommit (s : State) : Host.Outcome State Fault Refusal := s.powered <|
  match s.loader.staged with
  | none => ok s
  | some st =>
    let run := s.running
    let seq := s.rd PLAT_SEQ_LAST
    let lost := s.loader.pendingAmends
    let l := s.loader
    let s1 : State := { s with loader := { l with pendingAmends := [] } }
    let s2 := (((s1.discardReport 0x2B lost).pendingShow).wr SYS_STATE_STATE 4).wr PLAT_STAT_PHASE 4
    let s3 := ((s2.commitEnd.swapIn st).commitUnits).commitDies run
    let s4 := ((s3.wr SYS_STATE_STATE 5).wr PLAT_STAT_PHASE 5).runFills st.fills
    let s5 := s4.reportAll (s4.notInit seq)
    let s6 := ((s5.queueAmends st.amends).wr SYS_STATE_STATE 6).jamLearn
    ok ((((s6.platDone s6.acceptedResult).pwrShow).fansApply).padRefresh)

/-! ## Amendments (R108 to R111) -/

/-- The value of field `f` that amendments set last, if they set it. -/
def setOf (l : List (Nat × Nat)) (c : CRef) : Option Nat := (l.reverse.find? (fun p => p.1 == c.field)).map (·.2)

/-- Do amendments set this field? -/
def sets (l : List (Nat × Nat)) (c : CRef) : Bool := l.any (fun p => p.1 == c.field)

/-- Write a register field when an amendment sets its field (an amended value "also sets" the register). -/
def State.wrSet (s : State) (l : List (Nat × Nat)) (c : CRef) (f : Fld) (i j : Nat) : State :=
  match setOf l c with
  | some v => s.wrij f i j v
  | none => s

/-- Set bit `b` of an enable value. -/
def withBit (v b : Nat) (on : Nat) : Nat := setBit v b (on == 1)

/-- Amended stations and loops: an amended EN also sets the bit of the control register (R366, R393). -/
def State.amendEnable (s : State) (r : CfgRec) (l : List (Nat × Nat)) : State :=
  match r.sect with
  | 0x40 =>
    match r.kind, setOf l C_SIGNAL_STATION_EN with
    | 2, some e =>
      let n := r.v C_SIGNAL_STATION_STATION
      s.sigEnable (n / 32) (withBit (s.rdi SIG_CTRL_EN (n / 32)) (n % 32) e)
    | _, _ => s
  | _ =>
    let n := r.v C_LOOP_LOOP
    let old := if n < 32 then s.rd LOOP_CTRL0_EN else s.rd LOOP_CTRL1_EN
    let s1 := match r.kind, setOf l C_LOOP_EN with
      | 0, some e => s.loopEnable (n / 32) (withBit old (n % 32) e)
      | _, _ => s
    s1.loopAmended n

/-- Amended front-end records (R320, R332). -/
def State.amendAfe (s : State) (old r : CfgRec) (l : List (Nat × Nat)) : State :=
  match r.kind with
  | 0 =>
    let c := r.v C_CHANNEL_CHANNEL
    s.afeAmended (c / 16) (c % 16) (old.v C_CHANNEL_IEXC) (sets l C_CHANNEL_GAIN) (sets l C_CHANNEL_INTERVAL)
  | 4 => s
  | _ =>
    let c := listAt r.vals 0 0
    s.settleStart (c / 16) (c % 16)

/-- Amended classifier records (R260, R252). -/
def State.amendCls (s : State) (r : CfgRec) (l : List (Nat × Nat)) : State :=
  match r.kind with
  | 0 =>
    match setOf l C_MODEL_BANK with
    | some b => (s.wr CLS_BANK_BANK (withBit (s.rd CLS_BANK_BANK) (r.v C_MODEL_GROUP) b)).clsBanks
    | none => s
  | 3 => if sets l C_RATE_WINDOW then s.rateStart (r.v C_RATE_STATION) else s
  | _ => s

/-- Amended stake-out records (R299). -/
def State.amendStk (s : State) (r : CfgRec) (l : List (Nat × Nat)) : State :=
  match r.kind with
  | 0 =>
    let s1 := s.wrSet l C_SENGINE_LATE_TOL STK_LATE_TOL_NS 0 0
    match setOf l C_SENGINE_EN with
    | some 0 => if s1.rd STK_CTRL_EN = 1 then (s1.wr STK_CTRL_EN 0).stkFlushAll else s1
    | some v => s1.wr STK_CTRL_EN v
    | none => s1
  | 1 =>
    match setOf l C_VLINK_EN with
    | some e => s.vlEnable (r.v C_VLINK_LINK) (e == 1)
    | none => s
  | _ =>
    if sets l C_TEMPLATE_PERIOD || sets l C_TEMPLATE_PHASE then
      s.stkM (fun u => { u with tmplK := listSet u.tmplK (r.v C_TEMPLATE_INDEX) (s.tmplIx r) })
    else s

/-- Amended measurement records (R366). -/
def State.amendMsr (s : State) (r : CfgRec) (l : List (Nat × Nat)) : State :=
  let s1 := s.msrM (fun m => { m with amended := true })
  if r.kind = 0 then
    match setOf l C_YIELD_EN with
    | some e => s1.msrEnable e
    | none => s1
  else if sets l C_LOSS_WINDOW then s1.lossStart (r.v C_LOSS_GROUP) else s1

/-- Amended field I/O records (R417): the next outbound frame carries them; an amended INIT sets the command. -/
def State.amendFio (s : State) (r : CfgRec) (l : List (Nat × Nat)) : State :=
  let k := listAt r.vals 0 0
  if r.kind = 0 then
    let s1 := match setOf l C_DIO_INIT with
      | some v => s.wrij FIO_OUT_ON 0 (k / 24) (withBit (s.rdij FIO_OUT_ON 0 (k / 24)) (k % 24) v)
      | none => s
    s1.linkM (k / 24) (fun x => { x with cfgNext := true })
  else (s.wrSet l C_AOUT_INIT FIO_AOUTVAL_X (k % 4) (k / 4)).linkM (k / 4) (fun x => { x with cfgNext := true })

/-- Amended fan records (R438): an amended baseline restarts the ageing ratio. -/
def State.amendFan (s : State) (r : CfgRec) (l : List (Nat × Nat)) : State :=
  let n := r.v C_FAN_CHANNEL
  let s1 := match setOf l C_FAN_EN with
    | some e => s.fanEnable (withBit (s.rd FAN_CTRL_EN) n e)
    | none => s
  let base := l.filter (fun p => decide (36 ≤ p.1) && decide (p.1 < 44))
  let s2 := base.foldl (fun t p => t.wrij FAN_BASE_V (p.1 - 36) n p.2) s1
  (if base.isEmpty then s2 else s2.setReg (FAN_AGE_V.addr n 0) 0x3F800000).fansApply

/-- Amended CAN records (R469): MODE and EN set the control register; an amended timing restarts the controllers that
use it; a transmit buffer's header is rewritten. -/
def State.amendCan (s : State) (r : CfgRec) (l : List (Nat × Nat)) : State :=
  let restart (t : State) (n : Nat) : State := if t.rdi CAN_CTRL_EN n = 1 then t.canStart n else t
  match r.kind with
  | 0 =>
    let n := r.v C_CONTROLLER_CTRL
    let s1 := (s.wrSet l C_CONTROLLER_MODE CAN_CTRL_MODE n 0).wrSet l C_CONTROLLER_AUTO_RECOVER CAN_CTRL_AUTO_RECOVER n 0
    let s2 := if sets l C_CONTROLLER_TIMING then restart (s1.wri CAN_TIMING_SET n (r.v C_CONTROLLER_TIMING)) n else s1
    match setOf l C_CONTROLLER_EN with
    | some e => nextOr s2 (execControllerEnable (Fin.ofNat 4 n)
        (BitVec.ofNat 32 (s2.reg (CAN_CTRL_EN.addr n 0) / 2 * 2 + e)) s2)
    | none => s2
  | 1 => (List.range 4).foldl (fun t n => if t.rdi CAN_TIMING_SET n = r.v C_TIMING_SET then restart t n else t) s
  | 3 =>
    let s1 := s.txHeader r false
    if sets l C_TXBUF_PERIOD_MS || sets l C_TXBUF_PHASE_MS then s1.periodFrom r else s1
  | _ => s

/-- Amended township and navigation records (R498, R160). -/
def State.amendTwn (s : State) (r : CfgRec) (l : List (Nat × Nat)) : State :=
  match r.kind with
  | 1 =>
    let m := r.v C_MAC_MAC
    let s1 := s.wrSet l C_MAC_PROMISC ETH_CTRL_PROMISC m 0
    match setOf l C_MAC_EN with
    | some e => s1.ethCtrl m (2 * s1.rdi ETH_CTRL_PROMISC m + e)
    | none => s1
  | 3 => s.ptpSelect
  | _ => s

/-- Amended time and GNSS records (R160): TIMEBASE fields set their registers; channels whose signals are removed are
released. -/
def State.amendGns (s : State) (r : CfgRec) (l : List (Nat × Nat)) : State :=
  match r.kind with
  | 0 => ((s.wrSet l C_TIMEBASE_STEP_EN TIME_CTRL_STEP_EN 0 0).wrSet l C_TIMEBASE_SLEW TIME_SLEW_LIMIT 0 0).wrSet l
      C_TIMEBASE_STEP_THR TIME_STEP_THR_NS 0 0
  | 3 => (List.range 96).foldl (fun t c =>
      if !t.chanFree c && !t.signalOn (t.rdi GNS_CH_SIGNAL c) then t.chanDrop c else t) s
  | _ => s

/-- What amended values do beside standing in the record (R110 and the rule of each unit's chapter). -/
def State.amendEffect (s : State) (old r : CfgRec) (l : List (Nat × Nat)) : State :=
  match r.sect with
  | 0x10 => s.padRefresh
  | 0x20 => (s.wrSet l C_CHAIN_TIMEOUT CHN_CTRL_TIMEOUT (r.v C_CHAIN_LINK) 0).wrSet l C_CHAIN_AUTO_RESUME
      CHN_CTRL_AUTO_RESUME (r.v C_CHAIN_LINK) 0
  | 0x30 => s.amendAfe old r l
  | 0x40 => s.amendEnable r l
  | 0x60 => if r.kind = 1 then s.wrSet l C_STREAM_FF_BANK TRN_CTRL_BANK (r.v C_STREAM_TRANSIT) 0 else s
  | 0x70 =>
    if r.kind = 0 then
      ((((s.wrSet l C_ENGINE_EN TAL_CTRL_EN 0 0).wrSet l C_ENGINE_EXPORT_MODE TAL_EXPORT_MODE 0 0).wrSet l
        C_ENGINE_EXPORT_EVERY TAL_EXPORT_EVERY 0 0).wrSet l C_ENGINE_EXPORT_CLASSES TAL_EXPORT_CLS_CLASSES 0 0)
    else s
  | 0x80 => s.amendCls r l
  | 0x90 => s.amendStk r l
  | 0xA0 => s.amendMsr r l
  | 0xB0 => s.amendEnable r l
  | 0xC0 => s.amendFio r l
  | 0xD0 => s.amendFan r l
  | 0xF0 => s.amendCan r l
  | 0x100 => s.amendTwn r l
  | 0x110 => s.amendGns r l
  | 0x120 =>
    let s1 := s.wrSet l C_RECORDER_EN REC_CTRL_EN 0 0
    if r.kind = 1 then { s1 with spoor := { s1.spoor with seriesFlag := true } } else s1
  | 0x130 => (s.wrSet l C_POWER_LAT PWR_LAT_LAT (r.v C_POWER_GROUP) 0).pwrShow
  | _ => s

/-- A transmit buffer that is being sent (R469) and a channel whose conversion is in progress (R332) are not at their
boundary. -/
def State.amendHeld (s : State) (r : CfgRec) : Bool :=
  (r.sect == 0xF0 && r.kind == 3 && s.bufState (r.v C_TXBUF_BUF) == 2) ||
    (r.sect == 0x30 && r.kind != 4 && s.afeBusy (listAt r.vals 0 0 / 16) (listAt r.vals 0 0 % 16))

/-- AMENDMENT_APPLY (R109, R110): the target unit reaches its boundary, and every pending amendment of the target record
takes effect together, in load and record order. AMEND_APPLIED is raised for a load whose last one it was. -/
def execAmendmentApply (sect index : Nat) (s : State) : Host.Outcome State Fault Refusal := s.powered <|
  let mine (a : Amend) : Bool := a.tsect == sect && a.tindex == index
  let due := s.loader.pendingAmends.filter mine
  match s.loader.recs.find? (fun r => r.sect == sect && r.index == index) with
  | none => ok s
  | some old =>
    if due.isEmpty || s.amendHeld old then ok s
    else
      let sl := due.flatMap (·.sets)
      let r : CfgRec := { old with vals := sl.foldl (fun v p => listSet v p.1 p.2) old.vals }
      let ld := s.loader
      let left := ld.pendingAmends.filter (fun a => !mine a)
      let s1 : State := { s with loader := { ld with
        pendingAmends := left
        applied := ld.applied ++ due
        recs := ld.recs.map (fun (q : CfgRec) => if q.sect == sect && q.index == index then r else q) } }
      let s2 := (s1.pendingShow).inc PLAT_AMEND_STAT_APPLIED due.length
      let ended := due.any (fun a => !left.any (fun b => b.seq == a.seq))
      ok ((s2.amendEffect old r sl).raiseIf ended 5 3)

end Sys2Proof.Machine
end

