-- ==== Sys2Proof/Machine/Startup.lean ====
section
/-! DEFINITION. The power-on and warm reset scopes and start-up (spec/02_host_and_reset.md R76, R79 to R81). -/

namespace Sys2Proof.Machine

open Sys2Proof

/-- SYS_UNITS by variant (R2). -/
def unitsOf (variant : Nat) : Nat :=
  match variant with
  | 0x40 => 0x4000007F
  | 0x30 => 0x3000007C
  | _ => 0x20000000

/-- The registers after a reset: reset values, fuses (R2, R86), and what `keep` names by address and mask. -/
def State.resetRegs (s : State) (keep : List (Nat × Nat)) : List (Nat × Word) :=
  let fused : List (Nat × Nat) :=
    [(0x8, unitsOf s.fuses.variant), (0x190004, 0xFF0D), (0x190104, if s.is20 then 0xFF0C else 0xFF0D),
     (0x5000C, b2n s.fuses.secure * 2 ^ 31)]
  let kept := keep.map (fun p => (p.1, s.reg p.1 &&& p.2))
  (fused ++ kept).foldl (fun m p => cellPut regReset m p.1 (BitVec.ofNat 32 p.2)) []

/-- What survives every reset in the always-on domain (R76, R528): causes, operating time, power cycles. -/
def aonRegs : List (Nat × Nat) := [(0x28, 0xFFFFFFFF), (0x70018, 0xFFFFFFFF), (0x7001C, 0xFFFFFFFF)]

/-- What a warm reset keeps beside it: the tally epoch (R205) and the recorder's counters (R76). -/
def warmRegs : List (Nat × Nat) :=
  aonRegs ++ [(0xD000C, 0xFF00000), (0x70008, 0xFF), (0x7000C, 0xFFFFFFFF), (0x70020, 0xFFFFFF), (0x7002C, 0xFFFFFFFF)]

/-- The NV word in progress when a reset comes: whether it still gets written is open (a free value). -/
def State.nvCut (s : State) : State :=
  match s.memu.nvCur with
  | none => s
  | some q =>
    let (v, s1) := s.free 13
    if v % 2 = 1 && s1.usable 6 then s1.memPut q.addr q.data else s1

/-- The recorder after a reset: the store and what time passes outside the device survive a warm reset (R532). -/
def State.recKeep (s : State) (por : Bool) : RecUnit :=
  let u := s.spoor
  let k : RecUnit := { pfailHigh := u.pfailHigh, pfailSince := u.pfailSince, optimeEl := u.optimeEl, history := u.history,
                       lastSample := s.clk.el, lastPeriodic := s.clk.el }
  let w : RecUnit := { k with bins := u.bins, maxs := u.maxs, mins := u.mins, reloadedFlag := u.reloadedFlag, seriesFlag := u.seriesFlag }
  if por then k else w

/-- Everything but what a scope keeps returns to its state at reset (R76): SRAM contents stay in a warm reset and are
indeterminate after a power-on reset; the field dies are their own (R395) and see silence; both links train. -/
def State.coreReset (s : State) (por : Bool) : State :=
  let c := s.clk
  let mram : List Host.Cell := s.mem.filter (fun p => decide (0x4000000 ≤ p.1))
  let merr : List (Nat × Nat) := s.memErr.filter (fun p => decide (0x800000 ≤ p.1))
  let pads : List TPin := s.tpin.pins.map (fun x => { ext := x.ext, seen := x.ext })
  let train : List ChainLink := (List.range 2).map (fun n => { training := s.diePresent n })
  { regs := s.resetRegs (if por then aonRegs else warmRegs)
    mem := if por then mram else s.mem
    memErr := if por then merr else s.memErr
    memEpoch := if por then s.memEpoch + 1 else s.memEpoch
    freeCount := s.freeCount
    fuses := s.fuses
    clk := { el := c.el, rtc := c.rtc }
    links := train
    dies := s.dies
    spoor := s.recKeep por
    tpin := { pins := pads }
    memu := { lastScrub := List.replicate 7 c.el, newRows := if por then [] else s.memu.newRows }
    out := s.out
    pending := s.pending }

/-- Start-up step 2 (R520): the regions whose checker fails are unusable. -/
def State.selfTest (s : State) (bad : Nat) : State :=
  (s.wr MEM_REGION_UNUSABLE bad).raiseIf (bad != 0) 6 21

/-- Start-up step 3 (R79, R119): the PLLs lock, device time is loaded from the RTC, the PCIe link trains. -/
def State.startClocks (s : State) (pcie : Bool) : State :=
  let s1 := ((s.wr CLK_STAT_LOCKA 1).wr CLK_STAT_LOCKB 1).wr CLK_STAT_LOCKC 1
  let s2 := s1.timeFromRtc
  let h := s2.host
  let s3 : State := { s2 with host := { h with pcieUp := pcie } }
  let m := s3.memu
  let s4 : State := { s3 with memu := { m with lastLeak := List.replicate 7 s3.clk.now } }
  s4.raiseIf pcie 3 19

/-- The device is Unplatted (R81). -/
def State.enterUnplatted (s : State) : State := s.wr SYS_STATE_STATE 7

/-- A slot image accepted by parse is checked, clamped and staged (R92, R100). -/
def State.stageSlot (s : State) (x : Nat) (p : Parsed) : State :=
  let (st, e) := s.checkFull 1 (x + 1) p
  let s1 := s.reportAll e
  let l := s1.loader
  ((({ s1 with loader := { l with staged := some st } }).wr PLAT_STAT_BUSY 1).wr PLAT_STAT_PHASE 3).wr SYS_STATE_STATE 4

/-- Start-up step 5 (R80): the image is taken from the slot that BOOTSEL names; with BOOTSEL 0b00 the other slot follows
a rejected one. -/
def State.startLoad (s : State) (bootsel : Nat) : State :=
  let (_, s1) := s.readPointer
  if bootsel = 3 then s1.enterUnplatted
  else
    let x := if bootsel = 0 then s1.rd PLAT_BOOT_SLOT else bootsel - 1
    let s2 := s1.wr PLAT_SEQ_LAST 1
    match s2.parseSlot x with
    | (.inr p, s3) => s3.stageSlot x p
    | (.inl why, s3) =>
      let s4 := s3.rejectImage 1 why
      if bootsel = 0 then
        let s5 := (s4.reportOne (entry 1 0 0xFFFF 0xFF 0x51 0 0)).raise 5 5
        match s5.parseSlot (1 - x) with
        | (.inr p, s6) => (s6.stageSlot (1 - x) p).wr PLAT_STAT_FALLBACK 1
        | (.inl why2, s6) => ((s6.rejectImage 1 why2).platDone 3).enterUnplatted
      else (s4.platDone 3).enterUnplatted

/-- Start-up up to a staged image or Unplatted (R79 steps 1 to 5, R536); COMMIT does the rest. -/
def State.startUp (s : State) (por aon : Bool) (env : BootEnv) : State :=
  let s1 := (s.selfTest env.badRegions.toNat).startClocks env.pcie
  let s2 := (s1.recScan por aon).startLoad env.bootsel
  (s2.fansApply).padRefresh

/-- The causes of the last resets (SYS_RCAUSE), with Thermal Halt where the device was in it (R82). -/
def State.cause (s : State) (bit : Nat) (aon halted : Bool) : State :=
  let old := if aon then 1 else s.reg 0x28
  let v := setBit old bit true
  s.setReg 0x28 (if halted then setBit v 5 true else v)

/-- POWER_ON_RESET (R76, R79): by PORn, or by the supervisor (`supv`); `aon` when the always-on domain itself had lost
power. -/
def execPowerOnReset (supv aon : Bool) (env : BootEnv) (s : State) : Host.Outcome State Fault Refusal :=
  let s0 := s.nvCut
  let s1 := s0.memu.newRows.foldl State.freshRow (s0.coreReset true)
  let c := s1.clk
  let s2 : State := { s1 with clk := { c with rtc := if aon then 0 else c.rtc } }
  let s3 := s2.cause (if supv then 2 else 1) aon s.host.halted
  let s4 := if aon then s3 else s3.inc REC_PCYCLE_VALUE 1
  ok (s4.startUp true aon env)

/-- WARM_RESET (R76, R79): RSTn (`pin`), or the SYS_RESET key 1 µs after it was written. -/
def execWarmReset (pin : Bool) (env : BootEnv) (s : State) : Host.Outcome State Fault Refusal :=
  let due := match s.host.resetAt with
    | some t => !s.host.halted && decide (t ≤ s.clk.el)
    | none => false
  if pin || due then
    let s1 := (s.nvCut).coreReset false
    ok ((s1.cause (if pin then 3 else 4) false s.host.halted).startUp false false env)
  else ok s

/-- A write to SYS_RESET (R76): the key starts a warm reset 1 µs later. -/
def State.sysReset (s : State) (v : Nat) : State :=
  if v % 65536 = 0xD5A7 then
    let h := s.host
    { s with host := { h with resetAt := some (h.resetAt.getD (s.clk.el + 1000)) } }
  else s

/-- SYS_RESET (R76). -/
def execSysReset (value : Word) (s : State) : Host.Outcome State Fault Refusal := s.powered <| ok (s.sysReset value.toNat)

end Sys2Proof.Machine
end

