-- ==== Sys2Proof/Machine/HostBus.lean ====
section
/-! DEFINITION. Host accesses: what a register write and a register read do by access type and by the rules of each
unit, 64-bit pairs, absent units, bus errors, and the HSPI transactions (spec/00_scope.md R3 to R5, R13 to R15;
spec/02_host_and_reset.md R51, R54 to R58). -/

namespace Sys2Proof.Machine

open Sys2Proof

/-- The instance that an address is of `count` registers from `base`. -/
def inst (base stride count a : Nat) : Option Nat :=
  if base ≤ a && (a - base) % stride == 0 && decide ((a - base) / stride < count) then some ((a - base) / stride) else none

/-- The low words of the 64-bit register quantities (R15). -/
def pairLows : List Nat :=
  [0x20000, 0x20028, 0x1A0038, 0xD0030, 0xC0008, 0xC0010, 0xC0040, 0xB0020, 0x130010, 0x130018, 0x60024]

/-- Is the address that of a high word? -/
def isHigh (a : Nat) : Bool := decide (4 ≤ a) && pairLows.contains (a - 4)

/-! ## Writes (R14) -/

/-- What a field holds after a write of `n` over `o`, by access type (R14). -/
def accWrite (acc : Acc) (o n : Nat) : Nat :=
  match acc with
  | .rw | .rwh => n
  | .w1c => o - (o &&& n)
  | .w1s => o ||| n
  | .ro | .rc | .wo => o

/-- What a register holds after a write of `v` over `old`; reserved bits stay 0 (R13). -/
def rowWrite (row : RegRow) (old v : Nat) : Nat :=
  row.fields.foldl (fun w f => setBits w f.hi f.lo (accWrite f.acc (bitsOf old f.hi f.lo) (bitsOf v f.hi f.lo))) old

/-- A plain write: each field by its access type. -/
def State.regPut (s : State) (a v : Nat) : State :=
  match regRow a with
  | some row => s.setReg a (rowWrite row (s.reg a) v)
  | none => s

/-- Writes to SYS. -/
def State.wrSys (s : State) (a v : Nat) : State :=
  if a = 0x20 then s.sysReset v else if a = 0x24 then s.unitResets v else s.regPut a v

/-- Writes to TIME: limits (R123, R126), the host datum (R124), the UTC offset (R131). -/
def State.wrTime (s : State) (a v : Nat) : State :=
  if a = 0x20008 then s.wr TIME_RATE_ADJ (ucode 32 (limI (-858993) 858993 (sint 32 v)))
  else if a = 0x2002C then nextOr s (execTimeHrefWrite (BitVec.ofNat 32 v) s)
  else if a = 0x2001C then s.wr TIME_SLEW_LIMIT (limN 1 50000 (v % 65536))
  else if a = 0x20020 then s.wr TIME_STEP_THR_NS (limN 1000 1000000000 v)
  else if a = 0x20040 then (s.regPut a v).wr TIME_UTC_VALID 1
  else s.regPut a v

/-- Writes to HST. -/
def State.wrHst (s : State) (a v : Nat) : State :=
  if a = 0x30000 then s.kick v
  else if a = 0x30004 then s.wdPeriod v
  else if a = 0x30008 then s.lostClear v
  else match inst 0x30100 4 8 a with
    | some n => s.dmaPost n v
    | none => s.regPut a v

/-- Writes to MEM (R504, R506, R509, R518, R521, R522). -/
def State.wrMem (s : State) (a v : Nat) : State :=
  if a = 0x60004 then s.marks v
  else if a = 0x6002C then s.nvCommand v
  else if a = 0x60044 then s.repairCommand v
  else if a = 0x6004C then s.wr MEM_RSEL_MACRO (min 219 (v % 256))
  else match inst 0x60100 0x40 7 a, inst 0x60104 0x40 7 a with
    | some r, _ => (s.wri MEM_SCRUB_EN r (bitsOf v 31 31)).wri MEM_SCRUB_RATE r (limN 4 24 (bitsOf v 4 0))
    | none, some r =>
      let n := max 1 (bitsOf v 15 0)
      ((s.wri MEM_BUCKET_LEAK_K r (bitsOf v 20 16)).wri MEM_BUCKET_SIZE r n).wri MEM_LEVEL_LEVEL r (min n (s.rdi MEM_LEVEL_LEVEL r))
    | none, none => s.regPut a v

/-- Writes to REC (R540, R542). -/
def State.wrRec (s : State) (a v : Nat) : State :=
  if a = 0x70004 then
    let s1 := if bitAt v 0 then nextOr s (execFlush s) else s
    let s2 := if bitAt v 1 then nextOr s1 (execClear (BitVec.ofNat 16 (bitsOf v 31 16)) s1) else s1
    if bitAt v 2 then nextOr s2 (execDump s2) else s2
  else if a = 0x70024 then
    let k := bitsOf v 9 8
    let i := bitsOf v 7 0
    ((s.wr REC_SRC_KIND k).wr REC_SRC_INDEX (if k = 1 then min i 251 else if k = 2 then min i 63 else i)).wr REC_CURSOR_POS 0
  else if a = 0x70028 then s.wr REC_CURSOR_POS (bitsOf v 10 8 * 256)
  else s.regPut a v

/-- Writes to THM (R427, R431). -/
def State.wrThm (s : State) (a v : Nat) : State :=
  if a = 0x80000 then
    let s1 := (s.wr THM_CTRL_FORCE (bitsOf v 1 0)).requestUpdate
    if bitAt v 31 then nextOr s1 (execAccept s1) else s1
  else if a = 0x80008 then nextOr s (execSensfailClear (BitVec.ofNat 32 v) s)
  else s.regPut a v

/-- Writes to FAN (R419 to R425). -/
def State.wrFan (s : State) (a v : Nat) : State :=
  if a = 0x90000 then s.fanEnable v
  else if a = 0x90004 then
    let s1 := nextOr s (execPronk (BitVec.ofNat 8 (bitsOf v 7 0)) s)
    nextOr s1 (execLearn (BitVec.ofNat 8 (bitsOf v 15 8)) s1)
  else match inst 0x90108 0x40 8 a, inst 0x9010C 0x40 8 a with
    | some n, _ => s.wri FAN_MAN_DRIVE n (toB32 (FV.lim FV.zero (FV.ofInt 100) (ofB32 v)))
    | none, some n =>
      let s1 := if bitAt v 31 then nextOr s (execStallLatchedClear (Fin.ofNat 8 n) s) else s
      if bitAt v 30 then nextOr s1 (execTachLostClear (Fin.ofNat 8 n) s1) else s1
    | none, none => s.regPut a v

/-- Writes to STK (R263, R264, R285, R296). -/
def State.wrStk (s : State) (a v : Nat) : State :=
  if a = 0xC0000 then
    if bitAt v 0 then s.wr STK_CTRL_EN 1 else nextOr s (execEngineDisable s)
  else if a = 0xC0028 then s.wr STK_LATE_TOL_NS (min 100000 (bitsOf v 16 0))
  else if a = 0xC0050 then (if bitAt v 0 then s.stkHostGo else s)
  else match inst 0xC0100 0x20 4 a with
    | some l => (s.wri VL_CTRL_INHIBIT l (bitsOf v 1 1)).vlEnable l (bitAt v 0)
    | none => s.regPut a v

/-- Writes to TAL (R226). -/
def State.wrTal (s : State) (a v : Nat) : State :=
  if a = 0xD0004 then (s.wr TAL_EXPORT_MODE (bitsOf v 31 30)).wr TAL_EXPORT_EVERY (max 1 (bitsOf v 15 0))
  else s.regPut a v

/-- Writes to TRN (R171, R174, R191). -/
def State.wrTrn (s : State) (a v : Nat) : State :=
  match inst 0xF0000 0x100 8 a, inst 0xF0020 0x100 8 a with
  | some t, _ => s.trnCtrl t v
  | none, some t => s.snapGo t v
  | none, none => s.regPut a v

/-- Writes to MSR (R357, R359). -/
def State.wrMsr (s : State) (a v : Nat) : State :=
  if a = 0x130000 then s.msrEnable v
  else if a = 0x130004 then
    let s1 := if bitAt v 0 then nextOr s (execClose s) else s
    let s2 := if bitAt v 1 then nextOr s1 (execTotClr s1) else s1
    if bitAt v 2 then nextOr s2 (execLossClr s2) else s2
  else s.regPut a v

/-- Writes to LOOP (R387, R390): a loop with no sticky flag left leaves LOOP_FLAGGED. -/
def State.wrLoop (s : State) (a v : Nat) : State :=
  if a = 0x140000 then s.loopEnable 0 v
  else if a = 0x140004 then s.loopEnable 1 v
  else match inst 0x14100C 0x40 64 a with
    | some n =>
      let s1 := s.regPut a v
      if bitsOf (s1.reg a) 31 25 = 0 then
        (if n < 32 then s1.wr LOOP_FLAGGED0_LOOP (setBit (s1.rd LOOP_FLAGGED0_LOOP) n false)
         else s1.wr LOOP_FLAGGED1_LOOP (setBit (s1.rd LOOP_FLAGGED1_LOOP) (n - 32) false))
      else s1
    | none => s.regPut a v

/-- Writes to AFE0 and AFE1 (R310, R312, R316); `o` is the offset in the window. -/
def State.wrAfe (s : State) (d : Fin 2) (o a v : Nat) : State :=
  if o = 0 then s.afeEnable d (v % 65536)
  else if o = 8 then
    let s1 := if bitAt v 31 then nextOr s (execCal d s) else s
    let s2 := nextOr s1 (execSweep d (BitVec.ofNat 4 (bitsOf v 11 8)) s1)
    nextOr s2 (execQreset d (BitVec.ofNat 4 (bitsOf v 3 0)) s2)
  else s.regPut a v

/-- Writes to FIO0 and FIO1 (R408, R412). -/
def State.wrFio (s : State) (d o a v : Nat) : State :=
  match inst 0x20 4 6 o, inst 0x204 0x10 4 o with
  | some k, _ => s.causeClear d k v
  | none, some j => s.aoutClear d j v
  | none, none => s.regPut a v

/-- Writes to CHN (R25, R26, R78). -/
def State.wrChn (s : State) (a v : Nat) : State :=
  if a = 0x190200 then nextOr s (execChainReset (BitVec.ofNat 2 v) s)
  else match inst 0x190000 0x100 2 a with
    | some n =>
      let s1 := (s.wri CHN_CTRL_AUTO_RESUME n (bitsOf v 16 16)).wri CHN_CTRL_TIMEOUT n (limN 1 1000 (bitsOf v 9 0))
      if bitAt v 31 then nextOr s1 (execResume (Fin.ofNat 2 n) s1) else s1
    | none => s.regPut a v

/-- A write of a word of the CAN pool (R447). -/
def State.wrPool (s : State) (a v : Nat) : State :=
  let b := (a - 0x1C4000) / 80
  if s.bufWritable b then s.regPut a v else s.bufErr b 1

/-- Writes to CAN (R447, R450, R451, R455, R458, R459). -/
def State.wrCan (s : State) (a v : Nat) : State :=
  if 0x1C4000 ≤ a && a < 0x1CE000 then s.wrPool a v
  else if a = 0x1C0200 then nextOr s (execCanTxgo (Fin.ofNat 512 v) s)
  else if a = 0x1C0204 then nextOr s (execCanTxcancel (Fin.ofNat 512 v) s)
  else if a = 0x1C0208 then nextOr s (execCanLockclr (Fin.ofNat 512 v) s)
  else match inst 0x1C0000 0x40 4 a with
    | some n =>
      let s1 := nextOr s (execControllerEnable (Fin.ofNat 4 n) (BitVec.ofNat 32 v) s)
      if bitAt v 31 then nextOr s1 (execRecover (Fin.ofNat 4 n) s1) else s1
    | none => s.regPut a v

/-- Writes to ETH (R470, R471, R472). -/
def State.wrEth (s : State) (a v : Nat) : State :=
  if a = 0x1D0800 then s.mdioWrite v
  else match inst 0x1D0000 0x100 2 a, inst 0x1D0018 0x100 2 a, inst 0x1D0014 0x100 2 a with
    | some m, _, _ => s.ethCtrl m v
    | none, some m, _ => s.ethPost m v
    | none, none, some m => s.wri ETH_RXRD_INDEX m (v % 4096 % max 1 (s.cv C_MAC_RX_COUNT m))
    | none, none, none => s.regPut a v

/-- A write of a unit's register by window, event groups apart. -/
def State.unitWrite (s : State) (w a v : Nat) : State :=
  match w with
  | 0 => s.wrSys a v
  | 2 => s.wrTime a v
  | 3 => s.wrHst a v
  | 4 =>
    match inst 0x40000 4 12 a with
    | some g => nextOr s (execPwrLatWrite (Fin.ofNat 12 g) (BitVec.ofNat 32 v) s)
    | none => s.regPut a v
  | 5 => if a = 0x50000 then s.platCommand v else s.regPut a v
  | 6 => s.wrMem a v
  | 7 => s.wrRec a v
  | 8 => s.wrThm a v
  | 9 => s.wrFan a v
  | 10 => if a = 0xA0014 then s.latchClear 0 v else if a = 0xA0018 then s.latchClear 1 v else (s.regPut a v).padRefresh
  | 11 => (s.regPut a v).padRefresh
  | 12 => s.wrStk a v
  | 13 => s.wrTal a v
  | 14 =>
    match inst 0xE0000 0x100 2 a with
    | some n => s.portEnable n (v % 2)
    | none => s.regPut a v
  | 15 => s.wrTrn a v
  | 17 => if a = 0x110004 then (s.regPut a v).clsBanks else s.regPut a v
  | 18 =>
    match inst 0x120000 4 3 a with
    | some i => s.sigEnable i v
    | none => s.regPut a v
  | 19 => s.wrMsr a v
  | 20 => s.wrLoop a v
  | 21 => s.wrAfe 0 (a % 0x10000) a v
  | 22 => s.wrAfe 1 (a % 0x10000) a v
  | 23 => s.wrFio 0 (a % 0x10000) a v
  | 24 => s.wrFio 1 (a % 0x10000) a v
  | 25 => s.wrChn a v
  | 26 => if a = 0x1A0030 then nextOr s (execSnapshotGo (BitVec.ofNat 32 v) s) else s.regPut a v
  | 27 => if a = 0x1B0240 && bitAt v 0 then nextOr s (execFixInjCommit s) else s.regPut a v
  | 28 => s.wrCan a v
  | 29 => s.wrEth a v
  | 31 => if a = 0x1F0000 && bitAt v 0 then nextOr s (execSwitchover s) else s.regPut a v
  | _ => s.regPut a v

/-- A write of a present register: the low word of a pair is held until the high word comes (R15). -/
def State.regWrite (s : State) (a v : Nat) : State :=
  let w := a / 0x10000
  let h := s.host
  if a % 0x10000 = 0xF00 then s.evtClear w v
  else if a % 0x10000 = 0xF04 then s.evtEnable w v
  else if pairLows.contains a then { s with host := { h with heldLo := assocPut h.heldLo a v } }
  else if isHigh a then
    match assocGet h.heldLo (a - 4) with
    | some lo =>
      let s1 := if a = 0x2002C then s else s.unitWrite w (a - 4) lo
      let s2 := s1.unitWrite w a v
      let k := s2.host
      { s2 with host := { k with heldLo := assocDel k.heldLo (a - 4) } }
    | none => s.unitWrite w a v
  else s.unitWrite w a v

/-- A write that an absent unit ignores (R4). -/
def State.absentWrite (s : State) (a : Nat) : State := (s.inc SYS_ABSENT_WR_COUNT 1).wr SYS_ABSENT_ADDR_ADDR a

/-- Is the word at `a` reserved (R51, R57, R60)? A word of an absent unit is not. -/
def State.reserved (s : State) (a : Nat) : Bool :=
  !s.absentAddr a && (if a < 0x400000 then (regRow a).isNone else (regionOf a).isNone)

/-- A 32-bit write of a word that is not reserved. -/
def State.wordWrite (s : State) (a v : Nat) : State :=
  if 0x400000 ≤ a then s.hostMemWrite a 4 v
  else if s.absentAddr a then s.absentWrite a
  else s.regWrite a v

/-- Does the register space take an access of this size at this address (R13, R51)? -/
def accessOk (a size : Nat) : Bool :=
  (size == 4 && a % 4 == 0) || (size == 8 && a % 8 == 0 && decide (0x1C4000 ≤ a) && decide (a + 8 ≤ 0x1CE000))

/-- REGISTER_WRITE (R14, R51, R4): a host write of `size` bytes. -/
def execRegisterWrite (addr size value : Nat) (s : State) : Host.Outcome State Fault Refusal := s.powered <|
  if 0x400000 ≤ addr then ok (s.hostMemWrite addr size value)
  else if !accessOk addr size || s.reserved addr then ok (s.emit (.unsupported addr))
  else if size = 4 then ok (s.wordWrite addr (value % 2 ^ 32))
  else
    let b := (addr - 0x1C4000) / 80
    if s.bufWritable b then ok ((s.regPut addr (value % 2 ^ 32)).regPut (addr + 4) (value / 2 ^ 32 % 2 ^ 32))
    else ok (s.bufErr b 1)

/-- EVENT_CLEAR (R62); ignored when the unit is absent (R4). -/
def execEventClear (window : Fin 32) (mask : Word) (s : State) : Host.Outcome State Fault Refusal := s.powered <|
  let a := 0x10000 * window.val + 0xF00
  ok (if s.absentAddr a then s.absentWrite a else s.evtClear window.val mask.toNat)

/-- EVENT_ENABLE (R63); ignored when the unit is absent (R4). -/
def execEventEnable (window : Fin 32) (value : Word) (s : State) : Host.Outcome State Fault Refusal := s.powered <|
  let a := 0x10000 * window.val + 0xF04
  ok (if s.absentAddr a then s.absentWrite a else s.evtEnable window.val value.toNat)

/-! ## Reads -/

/-- What a register read shows: values that pass with time or stand for other state, else what the register holds. -/
def State.regView (s : State) (a : Nat) : Nat :=
  if a = 0x18 then s.evtSum
  else if a = 0x20000 then s.clk.now % 2 ^ 32
  else if a = 0x20004 then s.clk.now / 2 ^ 32 % 2 ^ 32
  else if a = 0x40040 then (if s.loader.committed then s.pwrValue else s.reg a)
  else if a = 0x60050 then s.rinfo
  else if a = 0x80004 then setBits (s.reg a) 31 16 s.graceLeft
  else match inst 0x51000 4 1024 a, inst 0x71000 4 64 a, inst 0x190004 0x100 2 a, inst 0xC0104 0x20 4 a with
    | some k, _, _, _ => s.reportWord k
    | none, some k, _, _ => s.recWindow k
    | none, none, some n, _ =>
      let x := s.link n
      setBits (s.reg a) 15 8 (if x.heard then min 255 ((s.clk.el - x.lastValid) / 1000) else 255)
    | none, none, none, some l => setBits (s.reg a) 23 16 (s.vlAge l)
    | none, none, none, none =>
      match inst 0x150100 4 16 a, inst 0x160100 4 16 a with
      | some i, _ => setBits (s.reg a) 19 0 (s.settleLeft 0 i)
      | none, some i => setBits (s.reg a) 19 0 (s.settleLeft 1 i)
      | none, none => s.reg a

/-- Clear the read-clear fields of a register (R14). -/
def State.readClear (s : State) (a : Nat) : State :=
  match regRow a with
  | some row =>
    if row.fields.any (fun f => f.acc == .rc) then
      s.setReg a (row.fields.foldl (fun w f => if f.acc = .rc then setBits w f.hi f.lo 0 else w) (s.reg a))
    else s
  | none => s

/-- What a read of a register does beside returning a value: pairs latch (R15), the timestamp queue pops, the recorder
window advances (R540), CAN buffers lock and release (R450). -/
def State.readEffect (s : State) (a : Nat) : State :=
  let h := s.host
  let s1 : State :=
    if pairLows.contains a then { s with host := { h with latchHi := assocPut h.latchHi a (s.regView (a + 4)) } }
    else if isHigh a then { s with host := { h with latchHi := assocDel h.latchHi (a - 4) } }
    else s.readClear a
  if a = 0xB0024 then s1.tsqPop
  else if a = 0x710FC then s1.recAdvance
  else if 0x1C4000 ≤ a && a < 0x1CE000 then s1.bufTouch ((a - 0x1C4000) / 80) ((a - 0x1C4000) % 80 / 4)
  else s1

/-- A read of a present register: a high word that its low word's read has latched, else the view. -/
def State.regRead (s : State) (a : Nat) : Nat × State :=
  ((if isHigh a then (assocGet s.host.latchHi (a - 4)).getD (s.regView a) else s.regView a), s.readEffect a)

/-- A 32-bit read of a word that is not reserved; `none` when it is uncorrectable (R3, R503). -/
def State.wordRead (s : State) (a : Nat) : Option Nat × State :=
  if 0x400000 ≤ a then s.hostMemRead a 4
  else if s.absentAddr a then (some 0xAB5E0000, s)
  else
    let (v, s1) := s.regRead a
    (some v, s1)

/-- READ_CLEAR (R14, R5, R15): a host read of `size` bytes of a register; RC fields return their counts and clear. -/
def execReadClear (addr size : Nat) (s : State) : Host.Outcome State Fault Refusal := s.powered <|
  if 0x400000 ≤ addr then execDemandRead addr size s
  else if !accessOk addr size || s.reserved addr then ok (s.emit (.unsupported addr))
  else if size = 4 then
    let (v, s1) := s.wordRead addr
    ok (s1.emit (.readData addr (v.getD 0)))
  else
    let (v, s1) := s.wordRead addr
    let (u, s2) := s1.wordRead (addr + 4)
    ok (s2.emit (.readData addr (v.getD 0 + u.getD 0 * 2 ^ 32)))

/-! ## HSPI (R54 to R58) -/

/-- An HSPI error (R58): counted, its status kept, SPIERR raised. -/
def State.spiError (s : State) (status : Nat) : State :=
  ((s.inc HST_SPI_ERR_COUNT 1).wr HST_SPI_ERR_LAST status).raise 3 18

/-- Why an HSPI burst of `n` words at `a` is turned away (R57): 0xE2, 0xE3 or 0x5A for none. -/
def State.spiCheck (s : State) (a n : Nat) : Nat :=
  if a % 4 ≠ 0 then 0xE2
  else if (a + 4 * n - 1) / 65536 ≠ a / 65536 then 0xE3
  else if (List.range n).any (fun k => s.reserved (a + 4 * k)) then 0xE2
  else 0x5A

/-- The words of a burst, read in order. -/
def State.spiReads (s : State) (a : Nat) : Nat → List (Option Nat) × State
  | 0 => ([], s)
  | n + 1 =>
    let (v, s1) := s.wordRead a
    let (l, s2) := s1.spiReads (a + 4) n
    (v :: l, s2)

/-- The words of a burst, written in order. -/
def State.spiWrites (s : State) (a : Nat) : List Nat → State
  | [] => s
  | v :: t => (s.wordWrite a (v % 2 ^ 32)).spiWrites (a + 4) t

/-- Note the status of a read. -/
def State.spiRead (s : State) (status : Nat) : State :=
  let h := s.host
  let s1 : State := { s with host := { h with lastRead := status } }
  if status = 0x5A then s1 else s1.spiError status

/-- READ_WORDS (R55 to R58): the read of `count` + 1 words; `timedOut` when they are not ready in time. -/
def execReadWords (addr : Word) (count : Fin 64) (timedOut : Bool) (s : State) : Host.Outcome State Fault Refusal := s.powered <|
  let a := addr.toNat
  let n := count.val + 1
  let c := s.spiCheck a n
  if timedOut then ok ((s.emit (.hspi [0xE4])).spiRead 0xE4)
  else if c ≠ 0x5A then ok ((s.emit (.hspi (0xA5 :: List.replicate (4 * n) 0xFF ++ [c]))).spiRead c)
  else
    let (l, s1) := s.spiReads a n
    let st := if l.any (·.isNone) then 0xE1 else 0x5A
    ok ((s1.emit (.hspi (0xA5 :: l.flatMap (fun v => leBytes 4 (v.getD 0xFFFFFFFF)) ++ [st]))).spiRead st)

/-- WRITE_WORDS (R55, R58): the words are applied in order after HSPI_CSn rises; `cut` when it rises before the last
whole word, and then nothing is written. -/
def execWriteWords (addr : Word) (words : List Word) (cut : Bool) (s : State) : Host.Outcome State Fault Refusal := s.powered <|
  if cut then ok s
  else
    let c := s.spiCheck addr.toNat words.length
    let s1 := if c = 0x5A then s.spiWrites addr.toNat (words.map (·.toNat)) else s.spiError c
    let h := s1.host
    ok { s1 with host := { h with lastWrite := c } }

/-- READ_LAST_STATUS (R55). -/
def execReadLastStatus (s : State) : Host.Outcome State Fault Refusal := s.powered <|
  ok (s.emit (.hspi ([s.host.lastWrite, s.host.lastRead] ++ leBytes 2 (s.rd HST_SPI_ERR_COUNT))))

/-- NO_OPERATION (R55). -/
def execNoOperation (s : State) : Host.Outcome State Fault Refusal := s.powered <| ok s

/-- Is a command byte one that R55 defines? -/
def spiKnown (c : Nat) : Bool := decide (0x40 ≤ c) && decide (c < 0xC0) || c == 5 || c == 0

/-- UNKNOWN_COMMAND (R55): ignored and counted. -/
def execUnknownCommand (command : BitVec 8) (s : State) : Host.Outcome State Fault Refusal := s.powered <|
  if spiKnown command.toNat then ok s else ok ((s.inc HST_SPI_ERR_COUNT 1).raise 3 18)

end Sys2Proof.Machine
end

