-- ==== Sys2Proof/Machine/Dispatch.lean ====
section
/-! DEFINITION. The meaning of every command: one arm per row of spec/opcode_table.json. -/

namespace Sys2Proof.Machine

open Sys2Proof

def exec (i : Instr) (s : State) : Host.Outcome State Fault Refusal :=
  match i with
  | .registerWrite addr size value => Sys2Proof.Machine.execRegisterWrite addr size value s
  | .readClear addr size => Sys2Proof.Machine.execReadClear addr size s
  | .memoryWrite addr size value => Sys2Proof.Machine.execMemoryWrite addr size value s
  | .demandRead addr size => Sys2Proof.Machine.execDemandRead addr size s
  | .eventClear window mask => Sys2Proof.Machine.execEventClear window mask s
  | .eventEnable window value => Sys2Proof.Machine.execEventEnable window value s
  | .vectorUnmask vec addr data => Sys2Proof.Machine.execVectorUnmask vec addr data s
  | .readWords addr count timedOut => Sys2Proof.Machine.execReadWords addr count timedOut s
  | .writeWords addr words cut => Sys2Proof.Machine.execWriteWords addr words cut s
  | .readLastStatus => Sys2Proof.Machine.execReadLastStatus s
  | .noOperation => Sys2Proof.Machine.execNoOperation s
  | .unknownCommand command => Sys2Proof.Machine.execUnknownCommand command s
  | .pcieLinkReset cause up => Sys2Proof.Machine.execPcieLinkReset cause up s
  | .dmaPost ch value => Sys2Proof.Machine.execDmaPost ch value s
  | .descriptorComplete ch data moved => Sys2Proof.Machine.execDescriptorComplete ch data moved s
  | .kick value => Sys2Proof.Machine.execKick value s
  | .watchdogPeriodWrite value => Sys2Proof.Machine.execWatchdogPeriodWrite value s
  | .watchdogExpiry => Sys2Proof.Machine.execWatchdogExpiry s
  | .hostLostClear value => Sys2Proof.Machine.execHostLostClear value s
  | .pwrLatWrite group value => Sys2Proof.Machine.execPwrLatWrite group value s
  | .enterPowerState group => Sys2Proof.Machine.execEnterPowerState group s
  | .groupWake group => Sys2Proof.Machine.execGroupWake group s
  | .wakeComplete group => Sys2Proof.Machine.execWakeComplete group s
  | .powerOnReset supv aon env => Sys2Proof.Machine.execPowerOnReset supv aon env s
  | .warmReset pin env => Sys2Proof.Machine.execWarmReset pin env s
  | .sysReset value => Sys2Proof.Machine.execSysReset value s
  | .unitReset mask => Sys2Proof.Machine.execUnitReset mask s
  | .unitResetComplete window => Sys2Proof.Machine.execUnitResetComplete window s
  | .chainReset mask => Sys2Proof.Machine.execChainReset mask s
  | .linkTrainingComplete link => Sys2Proof.Machine.execLinkTrainingComplete link s
  | .outboundFrame link => Sys2Proof.Machine.execOutboundFrame link s
  | .inboundFrame link aligned crcOk => Sys2Proof.Machine.execInboundFrame link aligned crcOk s
  | .fieldDieFrameReceive link aligned crcOk => Sys2Proof.Machine.execFieldDieFrameReceive link aligned crcOk s
  | .inboundFrameSend die => Sys2Proof.Machine.execInboundFrameSend die s
  | .linkLost link => Sys2Proof.Machine.execLinkLost link s
  | .silenceTimeout die => Sys2Proof.Machine.execSilenceTimeout die s
  | .resume link => Sys2Proof.Machine.execResume link s
  | .autoResume link => Sys2Proof.Machine.execAutoResume link s
  | .fclkStep => Sys2Proof.Machine.execFclkStep s
  | .load key => Sys2Proof.Machine.execLoad key s
  | .commit => Sys2Proof.Machine.execCommit s
  | .amend key => Sys2Proof.Machine.execAmend key s
  | .amendmentApply sect index => Sys2Proof.Machine.execAmendmentApply sect index s
  | .check key => Sys2Proof.Machine.execCheck key s
  | .programA key => Sys2Proof.Machine.execProgramA key s
  | .programB key => Sys2Proof.Machine.execProgramB key s
  | .bootA key => Sys2Proof.Machine.execBootA key s
  | .bootB key => Sys2Proof.Machine.execBootB key s
  | .verifyA key => Sys2Proof.Machine.execVerifyA key s
  | .verifyB key => Sys2Proof.Machine.execVerifyB key s
  | .opUndefined value => Sys2Proof.Machine.execOpUndefined value s
  | .servoUpdate => Sys2Proof.Machine.execServoUpdate s
  | .step => Sys2Proof.Machine.execStep s
  | .timeHrefWrite hi => Sys2Proof.Machine.execTimeHrefWrite hi s
  | .hpinEdge => Sys2Proof.Machine.execHpinEdge s
  | .ppsEdge gen => Sys2Proof.Machine.execPpsEdge gen s
  | .ppsPulseEnd gen => Sys2Proof.Machine.execPpsPulseEnd gen s
  | .trackingEpoch obs => Sys2Proof.Machine.execTrackingEpoch obs s
  | .acquisitionPass hyps => Sys2Proof.Machine.execAcquisitionPass hyps s
  | .candidateExpiry => Sys2Proof.Machine.execCandidateExpiry s
  | .notchRelease band notch => Sys2Proof.Machine.execNotchRelease band notch s
  | .jammingIndicator floors => Sys2Proof.Machine.execJammingIndicator floors s
  | .fixEpoch obs => Sys2Proof.Machine.execFixEpoch obs s
  | .spoofHoldEnd => Sys2Proof.Machine.execSpoofHoldEnd s
  | .spoofSuspectClear ch => Sys2Proof.Machine.execSpoofSuspectClear ch s
  | .reacquisitionBarEnd => Sys2Proof.Machine.execReacquisitionBarEnd s
  | .burstWake => Sys2Proof.Machine.execBurstWake s
  | .burstStart => Sys2Proof.Machine.execBurstStart s
  | .burstEnd => Sys2Proof.Machine.execBurstEnd s
  | .snapshotGo value => Sys2Proof.Machine.execSnapshotGo value s
  | .captureStart edge => Sys2Proof.Machine.execCaptureStart edge s
  | .captureComplete samples => Sys2Proof.Machine.execCaptureComplete samples s
  | .fixInjCommit => Sys2Proof.Machine.execFixInjCommit s
  | .fixOutputElement => Sys2Proof.Machine.execFixOutputElement s
  | .injStale => Sys2Proof.Machine.execInjStale s
  | .fixlost => Sys2Proof.Machine.execFixlost s
  | .packet port pkt => Sys2Proof.Machine.execPacket port pkt s
  | .portEnable port en => Sys2Proof.Machine.execPortEnable port en s
  | .idle port => Sys2Proof.Machine.execIdle port s
  | .frameStart transit => Sys2Proof.Machine.execFrameStart transit s
  | .frameEnd transit => Sys2Proof.Machine.execFrameEnd transit s
  | .bandLine transit => Sys2Proof.Machine.execBandLine transit s
  | .scanLineProcessed transit => Sys2Proof.Machine.execScanLineProcessed transit s
  | .edgeTime transit => Sys2Proof.Machine.execEdgeTime transit s
  | .resync transit => Sys2Proof.Machine.execResync transit s
  | .transitEnWrite transit value => Sys2Proof.Machine.execTransitEnWrite transit value s
  | .pixelSnapshotGo transit value => Sys2Proof.Machine.execPixelSnapshotGo transit value s
  | .intake => Sys2Proof.Machine.execIntake s
  | .pairingWaitEnd slot => Sys2Proof.Machine.execPairingWaitEnd slot s
  | .dispatch group => Sys2Proof.Machine.execDispatch group s
  | .featureComplete station => Sys2Proof.Machine.execFeatureComplete station s
  | .classifierResult station => Sys2Proof.Machine.execClassifierResult station s
  | .stakeRequestEntry => Sys2Proof.Machine.execStakeRequestEntry s
  | .stakeReport => Sys2Proof.Machine.execStakeReport s
  | .exportComplete => Sys2Proof.Machine.execExportComplete s
  | .quarantineRelease slot => Sys2Proof.Machine.execQuarantineRelease slot s
  | .subWindowEnd station => Sys2Proof.Machine.execSubWindowEnd station s
  | .stakeIntake => Sys2Proof.Machine.execStakeIntake s
  | .fetch => Sys2Proof.Machine.execFetch s
  | .offEdgeCommit pin => Sys2Proof.Machine.execOffEdgeCommit pin s
  | .timedPinEdge pin => Sys2Proof.Machine.execTimedPinEdge pin s
  | .valveLinkFrame link => Sys2Proof.Machine.execValveLinkFrame link s
  | .returnFrame link bytes => Sys2Proof.Machine.execReturnFrame link bytes s
  | .vllost link => Sys2Proof.Machine.execVllost link s
  | .templateSubmit template => Sys2Proof.Machine.execTemplateSubmit template s
  | .stkHGo => Sys2Proof.Machine.execStkHGo s
  | .engineDisable => Sys2Proof.Machine.execEngineDisable s
  | .vlEnableWrite link en => Sys2Proof.Machine.execVlEnableWrite link en s
  | .pinInputEdge pin level width both => Sys2Proof.Machine.execPinInputEdge pin level width both s
  | .gateEnd pin => Sys2Proof.Machine.execGateEnd pin s
  | .pwmPulseStart pin => Sys2Proof.Machine.execPwmPulseStart pin s
  | .pwmPulseEnd pin => Sys2Proof.Machine.execPwmPulseEnd pin s
  | .timestampQueueRead => Sys2Proof.Machine.execTimestampQueueRead s
  | .reflexInputChange pin level => Sys2Proof.Machine.execReflexInputChange pin level s
  | .fabricFlagChange flag => Sys2Proof.Machine.execFabricFlagChange flag s
  | .stretchEnd out => Sys2Proof.Machine.execStretchEnd out s
  | .latchReset reg mask => Sys2Proof.Machine.execLatchReset reg mask s
  | .channelDue ch => Sys2Proof.Machine.execChannelDue ch s
  | .settlingExpiry ch => Sys2Proof.Machine.execSettlingExpiry ch s
  | .precisionResult die adc code aref comply => Sys2Proof.Machine.execPrecisionResult die adc code aref comply s
  | .fastSample die path hi lo => Sys2Proof.Machine.execFastSample die path hi lo s
  | .periodicChargeReset die path => Sys2Proof.Machine.execPeriodicChargeReset die path s
  | .thresholdChargeReset die path => Sys2Proof.Machine.execThresholdChargeReset die path s
  | .qreset die mask => Sys2Proof.Machine.execQreset die mask s
  | .chargeResetEnd die path => Sys2Proof.Machine.execChargeResetEnd die path s
  | .sweep die mask => Sys2Proof.Machine.execSweep die mask s
  | .dwellEnd die z v ovr => Sys2Proof.Machine.execDwellEnd die z v ovr s
  | .cableResetEnd ch => Sys2Proof.Machine.execCableResetEnd ch s
  | .stepPulseEnd ch => Sys2Proof.Machine.execStepPulseEnd ch s
  | .calibration die adc res => Sys2Proof.Machine.execCalibration die adc res s
  | .cal die => Sys2Proof.Machine.execCal die s
  | .portInput station => Sys2Proof.Machine.execPortInput station s
  | .stationVisit station => Sys2Proof.Machine.execStationVisit station s
  | .rateGate station slot => Sys2Proof.Machine.execRateGate station slot s
  | .tickClose => Sys2Proof.Machine.execTickClose s
  | .classResultArrival => Sys2Proof.Machine.execClassResultArrival s
  | .lossGroupEmit group => Sys2Proof.Machine.execLossGroupEmit group s
  | .close => Sys2Proof.Machine.execClose s
  | .totClr => Sys2Proof.Machine.execTotClr s
  | .lossClr => Sys2Proof.Machine.execLossClr s
  | .loopSample loop => Sys2Proof.Machine.execLoopSample loop s
  | .debouncedChange ch level held => Sys2Proof.Machine.execDebouncedChange ch level held s
  | .inputRepeat ch => Sys2Proof.Machine.execInputRepeat ch s
  | .wireBreak ch current => Sys2Proof.Machine.execWireBreak ch current s
  | .overCurrent ch => Sys2Proof.Machine.execOverCurrent ch s
  | .switchThermalShutdown ch => Sys2Proof.Machine.execSwitchThermalShutdown ch s
  | .thermalRetry ch => Sys2Proof.Machine.execThermalRetry ch s
  | .openLoad ch current => Sys2Proof.Machine.execOpenLoad ch current s
  | .shortVs ch => Sys2Proof.Machine.execShortVs ch s
  | .underVoltage bank volt => Sys2Proof.Machine.execUnderVoltage bank volt s
  | .bankRestore bank volt => Sys2Proof.Machine.execBankRestore bank volt s
  | .bankWarn bank volt => Sys2Proof.Machine.execBankWarn bank volt s
  | .timeProportioningPeriod ch => Sys2Proof.Machine.execTimeProportioningPeriod ch s
  | .faultClear die cause value => Sys2Proof.Machine.execFaultClear die cause value s
  | .openWire aout rb => Sys2Proof.Machine.execOpenWire aout rb s
  | .overload aout rb => Sys2Proof.Machine.execOverload aout rb s
  | .fanUpdate fan => Sys2Proof.Machine.execFanUpdate fan s
  | .tachEdge fan => Sys2Proof.Machine.execTachEdge fan s
  | .pronkEnd fan => Sys2Proof.Machine.execPronkEnd fan s
  | .stallOffEnd fan => Sys2Proof.Machine.execStallOffEnd fan s
  | .tachLost fan => Sys2Proof.Machine.execTachLost fan s
  | .pronk mask => Sys2Proof.Machine.execPronk mask s
  | .learn mask => Sys2Proof.Machine.execLearn mask s
  | .learnHoldEnd fan => Sys2Proof.Machine.execLearnHoldEnd fan s
  | .stallLatchedClear fan => Sys2Proof.Machine.execStallLatchedClear fan s
  | .tachLostClear fan => Sys2Proof.Machine.execTachLostClear fan s
  | .sensorSample sensor raw bad => Sys2Proof.Machine.execSensorSample sensor raw bad s
  | .holdExpiry group => Sys2Proof.Machine.execHoldExpiry group s
  | .floorExpiry group => Sys2Proof.Machine.execFloorExpiry group s
  | .graceEnd => Sys2Proof.Machine.execGraceEnd s
  | .accept => Sys2Proof.Machine.execAccept s
  | .sensfailClear value => Sys2Proof.Machine.execSensfailClear value s
  | .frameReceived ctrl frame ago => Sys2Proof.Machine.execFrameReceived ctrl frame ago s
  | .protocolException ctrl => Sys2Proof.Machine.execProtocolException ctrl s
  | .frameLoad ctrl => Sys2Proof.Machine.execFrameLoad ctrl s
  | .txDone ctrl ago delay => Sys2Proof.Machine.execTxDone ctrl ago delay s
  | .arbitrationLost ctrl => Sys2Proof.Machine.execArbitrationLost ctrl s
  | .errorFrame ctrl tx code extra => Sys2Proof.Machine.execErrorFrame ctrl tx code extra s
  | .canTxgo buf => Sys2Proof.Machine.execCanTxgo buf s
  | .canTxcancel buf => Sys2Proof.Machine.execCanTxcancel buf s
  | .canLockclr buf => Sys2Proof.Machine.execCanLockclr buf s
  | .bufferLock buf => Sys2Proof.Machine.execBufferLock buf s
  | .bufferRelease buf => Sys2Proof.Machine.execBufferRelease buf s
  | .lockTimeout buf => Sys2Proof.Machine.execLockTimeout buf s
  | .atMissed buf => Sys2Proof.Machine.execAtMissed buf s
  | .periodicRequest buf => Sys2Proof.Machine.execPeriodicRequest buf s
  | .recover ctrl => Sys2Proof.Machine.execRecover ctrl s
  | .recovered ctrl => Sys2Proof.Machine.execRecovered ctrl s
  | .controllerEnable ctrl value => Sys2Proof.Machine.execControllerEnable ctrl value s
  | .abdDwellTimeout ctrl => Sys2Proof.Machine.execAbdDwellTimeout ctrl s
  | .ethFrameReceive mac frame fcsOk ago => Sys2Proof.Machine.execEthFrameReceive mac frame fcsOk ago s
  | .transmitPost mac value => Sys2Proof.Machine.execTransmitPost mac value s
  | .transmitComplete mac => Sys2Proof.Machine.execTransmitComplete mac s
  | .mdioTransaction value => Sys2Proof.Machine.execMdioTransaction value s
  | .mdioComplete data => Sys2Proof.Machine.execMdioComplete data s
  | .syncSend => Sys2Proof.Machine.execSyncSend s
  | .gateControlInterval mac => Sys2Proof.Machine.execGateControlInterval mac s
  | .announce => Sys2Proof.Machine.execAnnounce s
  | .handoffFlush channel => Sys2Proof.Machine.execHandoffFlush channel s
  | .handoffFrame => Sys2Proof.Machine.execHandoffFrame s
  | .heartbeat => Sys2Proof.Machine.execHeartbeat s
  | .tieMessage message lat => Sys2Proof.Machine.execTieMessage message lat s
  | .outputMessage => Sys2Proof.Machine.execOutputMessage s
  | .aliveOutToggle => Sys2Proof.Machine.execAliveOutToggle s
  | .roleDecision => Sys2Proof.Machine.execRoleDecision s
  | .primaryLost => Sys2Proof.Machine.execPrimaryLost s
  | .switchover => Sys2Proof.Machine.execSwitchover s
  | .scrubRead region => Sys2Proof.Machine.execScrubRead region s
  | .leak region => Sys2Proof.Machine.execLeak region s
  | .memInit value => Sys2Proof.Machine.execMemInit value s
  | .nvCommand value => Sys2Proof.Machine.execNvCommand value s
  | .nvWordComplete => Sys2Proof.Machine.execNvWordComplete s
  | .repair value => Sys2Proof.Machine.execRepair value s
  | .repairdone good => Sys2Proof.Machine.execRepairdone good s
  | .seriesSample vddc => Sys2Proof.Machine.execSeriesSample vddc s
  | .periodicFlush => Sys2Proof.Machine.execPeriodicFlush s
  | .pfail => Sys2Proof.Machine.execPfail s
  | .flush => Sys2Proof.Machine.execFlush s
  | .flushComplete => Sys2Proof.Machine.execFlushComplete s
  | .dump => Sys2Proof.Machine.execDump s
  | .clear key => Sys2Proof.Machine.execClear key s
  | .operatingTimeTick => Sys2Proof.Machine.execOperatingTimeTick s
  | .windowRead => Sys2Proof.Machine.execWindowRead s
  | .ethLinkChange mac up speed => Sys2Proof.Machine.execEthLinkChange mac up speed s
  | .busIntegrationComplete ctrl => Sys2Proof.Machine.execBusIntegrationComplete ctrl s
  | .fieldDieSupplyLoss die => Sys2Proof.Machine.execFieldDieSupplyLoss die s
  | .wireIntact ch current => Sys2Proof.Machine.execWireIntact ch current s
  | .refOkChange die good => Sys2Proof.Machine.execRefOkChange die good s
  | .pfailRise => Sys2Proof.Machine.execPfailRise s
  | .aliveInEdge => Sys2Proof.Machine.execAliveInEdge s

end Sys2Proof.Machine
end

