-- ==== Sys2Proof/WellFormed.lean ====
section
/-! DEFINITION. Which commands can be sent: operands inside the ranges that the rules give them. What a
command with other operands does is defined (every meaning is total) but stands for nothing outside. -/

namespace Sys2Proof

/-- A 32-bit code. -/
def w32 (n : Nat) : Bool := decide (n < 2 ^ 32)

/-- A byte string. -/
def bytesWf (l : List Nat) : Bool := l.all (fun b => decide (b < 256))

/-- A string of 32-bit words. -/
def wordsWf (l : List Nat) : Bool := l.all w32

/-- A bus access: a BAR0 byte address (R50: 128 MiB) and a size of 1 to 8 bytes. -/
def busWf (addr size : Nat) : Bool :=
  decide (addr < 0x8000000) && (size == 1 || size == 2 || size == 4 || size == 8)

/-- A tracking channel, and codes of 8 bits. -/
def ChanObs.wf (o : ChanObs) : Bool := decide (o.ch < 96) && decide (o.cn0 < 256) && decide (o.elev < 256)

/-- A navigation message of 40 bytes. -/
def NavMsg.wf (m : NavMsg) : Bool :=
  decide (m.system < 256) && decide (m.msg < 256) && decide (m.svid < 256) && decide (m.bits.length = 40) && bytesWf m.bits

/-- A tracking epoch: tones name a notch of a band. -/
def EpochObs.wf (o : EpochObs) : Bool :=
  o.chans.all ChanObs.wf && o.nav.all NavMsg.wf && o.tones.all (fun p => decide (p.1 < 2) && decide (p.2.1 < 4) && w32 p.2.2)

/-- A hypothesis of an acquisition pass. -/
def Hypo.wf (h : Hypo) : Bool :=
  decide (h.signal < 256) && decide (h.system < 256) && decide (h.svid < 256) && decide (h.cn0 < 256) &&
    decide (h.elev < 256) && w32 h.power

/-- A solution of 20 words. -/
def FixSol.wf (x : FixSol) : Bool := decide (x.typ < 4) && decide (x.words.length = 20) && wordsWf x.words

/-- A fix epoch: at most three attempts (R144). -/
def FixObs.wf (o : FixObs) : Bool :=
  decide (o.tries.length ≤ 3) && o.tries.all (fun t => decide (t.ch < 96) && w32 t.resid && t.sol.wf) &&
    o.meas.all (fun m => decide (m.ch < 96))

/-- A packet: two bits of channel, six of data type, at most 65,535 payload bytes. -/
def CsiPacket.wf (p : CsiPacket) : Bool :=
  decide (p.ecc < 3) && decide (p.vc < 4) && decide (p.dt < 64) && decide (p.payload.length < 65536) && bytesWf p.payload

/-- A CAN frame: an identifier of 11 or 29 bits and at most 64 bytes. -/
def CanFrame.wf (f : CanFrame) : Bool :=
  decide (f.id < (if f.xtd then 2 ^ 29 else 2 ^ 11)) && decide (f.dlc < 16) && decide (f.data.length ≤ 64) && bytesWf f.data

/-- The ranges of every command's operands; an operand whose type is its range needs no check. -/
def Instr.wf : Instr → Bool
  | .registerWrite addr size value => busWf addr size && decide (value < 2 ^ (8 * size))
  | .readClear addr size => busWf addr size
  | .memoryWrite addr size value => busWf addr size && decide (value < 2 ^ (8 * size))
  | .demandRead addr size => busWf addr size
  | .eventClear _ _ => true
  | .eventEnable _ _ => true
  | .vectorUnmask _ _ _ => true
  | .readWords _ _ _ => true
  | .writeWords _ words _ => decide (words.length ≤ 64)
  | .readLastStatus => true
  | .noOperation => true
  | .unknownCommand _ => true
  | .pcieLinkReset _ _ => true
  | .dmaPost _ _ => true
  | .descriptorComplete _ data moved => bytesWf data && (moved.getD 0 < 0x10000)
  | .kick _ => true
  | .watchdogPeriodWrite _ => true
  | .watchdogExpiry => true
  | .hostLostClear _ => true
  | .pwrLatWrite _ _ => true
  | .enterPowerState _ => true
  | .groupWake _ => true
  | .wakeComplete _ => true
  | .powerOnReset _ _ _ => true
  | .warmReset _ _ => true
  | .sysReset _ => true
  | .unitReset _ => true
  | .unitResetComplete _ => true
  | .chainReset _ => true
  | .linkTrainingComplete _ => true
  | .outboundFrame _ => true
  | .inboundFrame _ _ _ => true
  | .fieldDieFrameReceive _ _ _ => true
  | .inboundFrameSend _ => true
  | .linkLost _ => true
  | .silenceTimeout _ => true
  | .resume _ => true
  | .autoResume _ => true
  | .fclkStep => true
  | .load _ => true
  | .commit => true
  | .amend _ => true
  | .amendmentApply sect index => decide (sect < 65536) && decide (index < 65536)
  | .check _ => true
  | .programA _ => true
  | .programB _ => true
  | .bootA _ => true
  | .bootB _ => true
  | .verifyA _ => true
  | .verifyB _ => true
  | .opUndefined _ => true
  | .servoUpdate => true
  | .step => true
  | .timeHrefWrite _ => true
  | .hpinEdge => true
  | .ppsEdge _ => true
  | .ppsPulseEnd _ => true
  | .trackingEpoch obs => obs.wf
  | .acquisitionPass hyps => hyps.all Hypo.wf
  | .candidateExpiry => true
  | .notchRelease _ _ => true
  | .jammingIndicator floors => decide (floors.length ≤ 2) && floors.all (fun p => w32 p.1 && w32 p.2)
  | .fixEpoch obs => obs.wf
  | .spoofHoldEnd => true
  | .spoofSuspectClear _ => true
  | .reacquisitionBarEnd => true
  | .burstWake => true
  | .burstStart => true
  | .burstEnd => true
  | .snapshotGo _ => true
  | .captureStart _ => true
  | .captureComplete samples => samples.all wordsWf
  | .fixInjCommit => true
  | .fixOutputElement => true
  | .injStale => true
  | .fixlost => true
  | .packet _ pkt => pkt.wf
  | .portEnable _ _ => true
  | .idle _ => true
  | .frameStart _ => true
  | .frameEnd _ => true
  | .bandLine _ => true
  | .scanLineProcessed _ => true
  | .edgeTime _ => true
  | .resync _ => true
  | .transitEnWrite _ _ => true
  | .pixelSnapshotGo _ _ => true
  | .intake => true
  | .pairingWaitEnd _ => true
  | .dispatch _ => true
  | .featureComplete _ => true
  | .classifierResult _ => true
  | .stakeRequestEntry => true
  | .stakeReport => true
  | .exportComplete => true
  | .quarantineRelease _ => true
  | .subWindowEnd _ => true
  | .stakeIntake => true
  | .fetch => true
  | .offEdgeCommit _ => true
  | .timedPinEdge _ => true
  | .valveLinkFrame _ => true
  | .returnFrame _ bytes => bytesWf bytes && decide (bytes.length = 15)
  | .vllost _ => true
  | .templateSubmit _ => true
  | .stkHGo => true
  | .engineDisable => true
  | .vlEnableWrite _ _ => true
  | .pinInputEdge _ _ _ _ => true
  | .gateEnd _ => true
  | .pwmPulseStart _ => true
  | .pwmPulseEnd _ => true
  | .timestampQueueRead => true
  | .reflexInputChange _ _ => true
  | .fabricFlagChange _ => true
  | .stretchEnd _ => true
  | .latchReset _ _ => true
  | .channelDue _ => true
  | .settlingExpiry _ => true
  | .precisionResult _ _ _ aref _ => w32 aref
  | .fastSample _ _ _ _ => true
  | .periodicChargeReset _ _ => true
  | .thresholdChargeReset _ _ => true
  | .qreset _ _ => true
  | .chargeResetEnd _ _ => true
  | .sweep _ _ => true
  | .dwellEnd _ z v _ => w32 z.1 && w32 z.2 && w32 v.1 && w32 v.2
  | .cableResetEnd _ => true
  | .stepPulseEnd _ => true
  | .calibration _ _ _ => true
  | .cal _ => true
  | .portInput _ => true
  | .stationVisit _ => true
  | .rateGate _ _ => true
  | .tickClose => true
  | .classResultArrival => true
  | .lossGroupEmit _ => true
  | .close => true
  | .totClr => true
  | .lossClr => true
  | .loopSample _ => true
  | .debouncedChange _ _ _ => true
  | .inputRepeat _ => true
  | .wireBreak _ current => decide (current < 4096)
  | .overCurrent _ => true
  | .switchThermalShutdown _ => true
  | .thermalRetry _ => true
  | .openLoad _ current => decide (current < 4096)
  | .shortVs _ => true
  | .underVoltage _ volt => decide (volt < 65536)
  | .bankRestore _ volt => decide (volt < 65536)
  | .bankWarn _ volt => decide (volt < 65536)
  | .timeProportioningPeriod _ => true
  | .faultClear _ _ _ => true
  | .openWire _ rb => w32 rb
  | .overload _ rb => w32 rb
  | .fanUpdate _ => true
  | .tachEdge _ => true
  | .pronkEnd _ => true
  | .stallOffEnd _ => true
  | .tachLost _ => true
  | .pronk _ => true
  | .learn _ => true
  | .learnHoldEnd _ => true
  | .stallLatchedClear _ => true
  | .tachLostClear _ => true
  | .sensorSample _ _ _ => true
  | .holdExpiry _ => true
  | .floorExpiry _ => true
  | .graceEnd => true
  | .accept => true
  | .sensfailClear _ => true
  | .frameReceived _ frame _ => frame.wf
  | .protocolException _ => true
  | .frameLoad _ => true
  | .txDone _ _ _ => true
  | .arbitrationLost _ => true
  | .errorFrame _ _ _ _ => true
  | .canTxgo _ => true
  | .canTxcancel _ => true
  | .canLockclr _ => true
  | .bufferLock _ => true
  | .bufferRelease _ => true
  | .lockTimeout _ => true
  | .atMissed _ => true
  | .periodicRequest _ => true
  | .recover _ => true
  | .recovered _ => true
  | .controllerEnable _ _ => true
  | .abdDwellTimeout _ => true
  | .ethFrameReceive _ frame _ _ => bytesWf frame
  | .transmitPost _ _ => true
  | .transmitComplete _ => true
  | .mdioTransaction _ => true
  | .mdioComplete _ => true
  | .syncSend => true
  | .gateControlInterval _ => true
  | .announce => true
  | .handoffFlush _ => true
  | .handoffFrame => true
  | .heartbeat => true
  | .tieMessage message _ => bytesWf message
  | .outputMessage => true
  | .aliveOutToggle => true
  | .roleDecision => true
  | .primaryLost => true
  | .switchover => true
  | .scrubRead _ => true
  | .leak _ => true
  | .memInit _ => true
  | .nvCommand _ => true
  | .nvWordComplete => true
  | .repair _ => true
  | .repairdone _ => true
  | .seriesSample vddc => decide (vddc < 65536)
  | .periodicFlush => true
  | .pfail => true
  | .flush => true
  | .flushComplete => true
  | .dump => true
  | .clear _ => true
  | .operatingTimeTick => true
  | .windowRead => true
  | .ethLinkChange _ _ _ => true
  | .busIntegrationComplete _ => true
  | .fieldDieSupplyLoss _ => true
  | .wireIntact _ current => decide (current < 4096)
  | .refOkChange _ _ => true
  | .pfailRise => true
  | .aliveInEdge => true

end Sys2Proof
end

