-- ==== Sys2Proof/Safety.lean ====
section
/-! DEFINITION. The words that claims about the block use: a store in its canonical form, a good state, a step
that answers a next state, the parts of a state that frames speak of. -/

namespace Sys2Proof

/-- Does the command belong to what stays powered in Thermal Halt (R82): the field dies' own commands and the two
resets that leave Thermal Halt? -/
def Instr.alwaysOn : Instr → Bool
  | .fieldDieFrameReceive _ _ _ | .inboundFrameSend _ | .silenceTimeout _ | .debouncedChange _ _ _ | .inputRepeat _
  | .wireBreak _ _ | .wireIntact _ _ | .overCurrent _ | .switchThermalShutdown _ | .thermalRetry _ | .openLoad _ _
  | .shortVs _ | .underVoltage _ _ | .bankRestore _ _ | .bankWarn _ _ | .openWire _ _ | .overload _ _
  | .fieldDieSupplyLoss _ | .powerOnReset _ _ _ | .warmReset _ _ => true
  | _ => false

end Sys2Proof

namespace Sys2Proof.Machine

open Sys2Proof

/-- The memory is in its canonical form. -/
def Memory.wf (epoch : Nat) (m : List Host.Cell) : Bool := cellWf (memByte0 epoch) m

/-- The byte of memory at address `a`. -/
def State.memByte (s : State) (a : Nat) : Byte := cellGet (memByte0 s.memEpoch) s.mem a

/-- The stores of a state are in their canonical form: registers, memory, flipped bits. -/
def State.storesWf (s : State) : Prop :=
  cellWf regReset s.regs = true ∧ Memory.wf s.memEpoch s.mem = true ∧ cellWf (memFlips0 s.memEpoch) s.memErr = true

/-- Every waiting command is one that can be sent. -/
def State.queueWf (s : State) : Prop := ∀ c ∈ s.pending, c.wf = true

/-- Command `c` completes on `s` in `t`. -/
def Completes (c : Instr) (s t : State) : Prop := exec c s = .next t

/-! ## Registers -/

/-- The fields of a register lie in its 32 bits, each apart from the others. -/
def RegRow.apart (r : RegRow) : Bool :=
  r.fields.all (fun f => decide (f.lo ≤ f.hi) && decide (f.hi < 32)) &&
  decide (r.fields.Pairwise (fun f g => f.hi < g.lo ∨ g.hi < f.lo))

/-! ## Parts of the state -/

/-- The address is in a unit's event group (R62): EVT, EVT_EN and the vectors. -/
def isEvt (a : Nat) : Bool := decide (0xF00 ≤ a % 0x10000) && decide (a % 0x10000 < 0x1000)

/-- The parts of the state that frames speak of: every field of it, with the fields of the host port and of the loader
apart; `regs` is the register file as a whole, `win w` the registers of window `w` but its event group, `evts` the event
groups of all windows, `fusesFixed` the fuses but the field repair rows. -/
inductive Part where
  | regs | mem | memErr | memEpoch | freeCount | fusesFixed | fusesFieldRows | clk | hostMsixTable | hostMsixMask | hostMsixPba | hostPcieUp | hostLastWrite | hostLastRead
  | hostLatchHi | hostHeldLo | hostDma | hostWdStart | hostAsleep | hostWake | hostResetAt | hostUresetAt | hostHalted | links | dies | fio
  | fans | thm | loaderCommitted | loaderRecs | loaderImageRecs | loaderStaged | loaderReport | loaderPendingAmends | loaderApplied | loaderCommitTime | trav | time
  | gns | memu | spoor | pix | tally | stk | tpin | rfx | afe | sig | msr | loops
  | can | eth | twn | pair | sinks | out | pending
  | win (w : Fin 32) | evts
  deriving DecidableEq, Repr

/-- The part is the same in two states. -/
def Part.same (s t : State) : Part → Prop
  | .regs => t.regs = s.regs
  | .mem => t.mem = s.mem
  | .memErr => t.memErr = s.memErr
  | .memEpoch => t.memEpoch = s.memEpoch
  | .freeCount => t.freeCount = s.freeCount
  | .fusesFixed => t.fuses = { s.fuses with fieldRows := t.fuses.fieldRows }
  | .fusesFieldRows => t.fuses.fieldRows = s.fuses.fieldRows
  | .clk => t.clk = s.clk
  | .hostMsixTable => t.host.msixTable = s.host.msixTable
  | .hostMsixMask => t.host.msixMask = s.host.msixMask
  | .hostMsixPba => t.host.msixPba = s.host.msixPba
  | .hostPcieUp => t.host.pcieUp = s.host.pcieUp
  | .hostLastWrite => t.host.lastWrite = s.host.lastWrite
  | .hostLastRead => t.host.lastRead = s.host.lastRead
  | .hostLatchHi => t.host.latchHi = s.host.latchHi
  | .hostHeldLo => t.host.heldLo = s.host.heldLo
  | .hostDma => t.host.dma = s.host.dma
  | .hostWdStart => t.host.wdStart = s.host.wdStart
  | .hostAsleep => t.host.asleep = s.host.asleep
  | .hostWake => t.host.wake = s.host.wake
  | .hostResetAt => t.host.resetAt = s.host.resetAt
  | .hostUresetAt => t.host.uresetAt = s.host.uresetAt
  | .hostHalted => t.host.halted = s.host.halted
  | .links => t.links = s.links
  | .dies => t.dies = s.dies
  | .fio => t.fio = s.fio
  | .fans => t.fans = s.fans
  | .thm => t.thm = s.thm
  | .loaderCommitted => t.loader.committed = s.loader.committed
  | .loaderRecs => t.loader.recs = s.loader.recs
  | .loaderImageRecs => t.loader.imageRecs = s.loader.imageRecs
  | .loaderStaged => t.loader.staged = s.loader.staged
  | .loaderReport => t.loader.report = s.loader.report
  | .loaderPendingAmends => t.loader.pendingAmends = s.loader.pendingAmends
  | .loaderApplied => t.loader.applied = s.loader.applied
  | .loaderCommitTime => t.loader.commitTime = s.loader.commitTime
  | .trav => t.trav = s.trav
  | .time => t.time = s.time
  | .gns => t.gns = s.gns
  | .memu => t.memu = s.memu
  | .spoor => t.spoor = s.spoor
  | .pix => t.pix = s.pix
  | .tally => t.tally = s.tally
  | .stk => t.stk = s.stk
  | .tpin => t.tpin = s.tpin
  | .rfx => t.rfx = s.rfx
  | .afe => t.afe = s.afe
  | .sig => t.sig = s.sig
  | .msr => t.msr = s.msr
  | .loops => t.loops = s.loops
  | .can => t.can = s.can
  | .eth => t.eth = s.eth
  | .twn => t.twn = s.twn
  | .pair => t.pair = s.pair
  | .sinks => t.sinks = s.sinks
  | .out => t.out = s.out
  | .pending => t.pending = s.pending
  | .win w => ∀ a, a / 0x10000 = w.val → isEvt a = false → t.reg a = s.reg a
  | .evts => ∀ a, isEvt a = true → t.reg a = s.reg a

/-- From `s` to `t` nothing changes but the listed parts. -/
def ChangesOnly (l : List Part) (s t : State) : Prop := ∀ p : Part, p ∉ l → p.same s t

end Sys2Proof.Machine
end

