-- ==== Sys2Proof/Certificates/Slice0/Obligations.lean ====
section
/-! DEFINITION. The statements about the model, one `Obligations.<Name>` each: what a command does, where it completes,
what it leaves alone, and what every step keeps. -/

open Sys2Proof Sys2Proof.Machine

/-- A 32-bit write of a register in the windows without rules of their own (CLK, FEA, TWN) sets each field by its
  access type; a write to an absent unit is counted and its address kept; a read of an absent unit returns
  0xAB5E0000 and changes nothing else; a read of SYS_ABSENT_WR returns the count and clears it; an access that the
  rules do not allow is an unsupported request; a write of a usable memory region stores the word and a read
  returns it. -/
def Obligations.HostAccessesComplete : Prop :=
  (∀ (a v : Nat) (row : RegRow) (s : State), s.host.halted = false → a % 4 = 0 → a / 0x10000 ∈ [1, 16, 30] → (a %
    0x10000 < 0xF00 ∨ 0x1000 ≤ a % 0x10000) → regRow a = some row → exec (.registerWrite a 4 v) s = .next (s.setReg
    a (rowWrite row (s.reg a) (v % 2 ^ 32)))) ∧
  (∀ (a v : Nat) (s : State), s.host.halted = false → a % 4 = 0 → a < 0x400000 → s.absentAddr a = true → ∃ t :
    State, exec (.registerWrite a 4 v) s = .next t ∧ t.rd SYS_ABSENT_WR_COUNT = min (s.rd SYS_ABSENT_WR_COUNT + 1)
    (2 ^ 32 - 1) ∧ t.rd SYS_ABSENT_ADDR_ADDR = a) ∧
  (∀ (a n v : Nat) (s : State), s.host.halted = false → a < 0x400000 → (accessOk a n = false ∨ s.reserved a = true)
    → exec (.registerWrite a n v) s = .next (s.emit (.unsupported a))) ∧
  (∀ (a n v : Nat) (s : State), s.host.halted = false → 0x400000 ≤ a → exec (.registerWrite a n v) s = exec
    (.memoryWrite a n v) s) ∧
  (∀ (a : Nat) (s : State), s.host.halted = false → a % 4 = 0 → a < 0x400000 → s.absentAddr a = true → exec
    (.readClear a 4) s = .next (s.emit (.readData a 0xAB5E0000))) ∧
  (∀ (s : State), s.host.halted = false → ∃ t : State, exec (.readClear 0xC 4) s = .next t ∧ t.out = .readData 0xC
    (s.rd SYS_ABSENT_WR_COUNT) :: s.out ∧ t.rd SYS_ABSENT_WR_COUNT = 0) ∧
  (∀ (a v r : Nat) (s : State), s.host.halted = false → a % 8 = 0 → regionOf a = some r → s.absentAddr a = false →
    s.usable r = true → r ≠ 6 → (r = 1 → s.rd STK_CTRL_EN = 0) → ∃ t : State, exec (.memoryWrite a 8 v) s = .next t
    ∧ t.memWord a = v % 2 ^ 64 ∧ t.memFlips a = 0) ∧
  (∀ (a r : Nat) (s : State), s.host.halted = false → a % 8 = 0 → regionOf a = some r → s.absentAddr a = false →
    s.usable r = true → s.memFlips a = 0 → exec (.demandRead a 8) s = .next (s.emit (.readData a (s.memWord a)))) ∧
  (∀ (a r : Nat) (s : State), s.host.halted = false → a % 8 = 0 → regionOf a = some r → s.absentAddr a = false →
    s.usable r = true → 2 < s.memFlips a → ∃ t : State, exec (.demandRead a 8) s = .next t ∧ t.out.head? = some
    (.busError a) ∧ t.rdi MEM_UE_DEMAND r = min (s.rdi MEM_UE_DEMAND r + 1) (2 ^ 16 - 1) ∧ t.rdi MEM_UEADDR_ADDR r
    = a)

/-- EVENT_CLEAR clears exactly the bits of its mask; EVENT_ENABLE sets the enables; either is ignored and counted
  when the unit is absent; VECTOR_UNMASK sets the table entry, clears mask and pending bits, and sends the message
  held; a PCIe link reset empties the MSI-X table, masks every vector and empties every channel's queue. -/
def Obligations.EventAndVectorCommandsComplete : Prop :=
  (∀ (w : Fin 32) (m : Word) (s : State), s.host.halted = false → s.winPresent w.val = true → ∃ t : State, exec
    (.eventClear w m) s = .next t ∧ t.rdi UNIT_EVT_EVT w.val = s.rdi UNIT_EVT_EVT w.val &&& (0xFFFFFFFF ^^^
    m.toNat) ∧ t.rdi UNIT_EVT_EN_EN w.val = s.rdi UNIT_EVT_EN_EN w.val) ∧
  (∀ (w : Fin 32) (v : Word) (s : State), s.host.halted = false → s.winPresent w.val = true → ∃ t : State, exec
    (.eventEnable w v) s = .next t ∧ t.rdi UNIT_EVT_EN_EN w.val = v.toNat ∧ t.rdi UNIT_EVT_EVT w.val = s.rdi
    UNIT_EVT_EVT w.val) ∧
  (∀ (w : Fin 32) (v : Word) (c : Instr) (s : State), s.host.halted = false → s.winPresent w.val = false → (c =
    .eventClear w v ∨ c = .eventEnable w v) → ∃ t : State, exec c s = .next t ∧ t.rd SYS_ABSENT_WR_COUNT = min
    (s.rd SYS_ABSENT_WR_COUNT + 1) (2 ^ 32 - 1) ∧ t.rdi UNIT_EVT_EVT w.val = s.rdi UNIT_EVT_EVT w.val ∧ t.rdi
    UNIT_EVT_EN_EN w.val = s.rdi UNIT_EVT_EN_EN w.val) ∧
  (∀ (v : Fin 64) (a : BitVec 64) (d : Word) (s : State), s.host.halted = false → ∃ t : State, exec (.vectorUnmask
    v a d) s = .next t ∧ assocGet t.host.msixTable v.val = some (a.toNat, d.toNat) ∧ bitAt t.host.msixMask v.val =
    false ∧ bitAt t.host.msixPba v.val = false ∧ t.out = if bitAt s.host.msixPba v.val then .msix v.val a.toNat
    d.toNat :: s.out else s.out) ∧
  (∀ (c : Fin 3) (up : Bool) (s : State), s.host.halted = false → ∃ t : State, exec (.pcieLinkReset c up) s = .next
    t ∧ t.host.msixTable = [] ∧ t.host.msixMask = 2 ^ 64 - 1 ∧ t.host.pcieUp = (if c.val = 2 then s.host.pcieUp
    else up) ∧ ∀ n : Fin 8, (t.dmaCh n.val).posted = [])

/-- A read burst of words that can all be read returns them with status 0x5A; a read that times out, or of an
  address that is refused, returns its status, counts an error and keeps the status; a write burst cut short writes
  nothing, a refused one is counted, an accepted one is applied in order; READ_LAST_STATUS returns both statuses
  and the error count; NO_OPERATION changes nothing; an undefined command byte is counted. -/
def Obligations.HspiTransactionsComplete : Prop :=
  (∀ (a : Word) (n : Fin 64) (s : State), s.host.halted = false → s.spiCheck a.toNat (n.val + 1) = 0x5A →
    (s.spiReads a.toNat (n.val + 1)).1.any (·.isNone) = false → ∃ t : State, exec (.readWords a n false) s = .next
    t ∧ t.host.lastRead = 0x5A ∧ t.out.head? = some (.hspi (0xA5 :: (s.spiReads a.toNat (n.val + 1)).1.flatMap (fun
    v => leBytes 4 (v.getD 0xFFFFFFFF)) ++ [0x5A]))) ∧
  (∀ (a : Word) (n : Fin 64) (late : Bool) (s : State), s.host.halted = false → (late = true ∨ s.spiCheck a.toNat
    (n.val + 1) ≠ 0x5A) → ∃ t : State, exec (.readWords a n late) s = .next t ∧ t.host.lastRead = (if late then
    0xE4 else s.spiCheck a.toNat (n.val + 1)) ∧ t.rd HST_SPI_ERR_COUNT = min (s.rd HST_SPI_ERR_COUNT + 1) (2 ^ 16 -
    1) ∧ t.rd HST_SPI_ERR_LAST = t.host.lastRead) ∧
  (∀ (a : Word) (l : List Word) (s : State), s.host.halted = false → exec (.writeWords a l true) s = .next (s)) ∧
  (∀ (a : Word) (l : List Word) (s : State), s.host.halted = false → s.spiCheck a.toNat l.length ≠ 0x5A → ∃ t :
    State, exec (.writeWords a l false) s = .next t ∧ t.host.lastWrite = s.spiCheck a.toNat l.length ∧ t.rd
    HST_SPI_ERR_COUNT = min (s.rd HST_SPI_ERR_COUNT + 1) (2 ^ 16 - 1) ∧ t.rd HST_SPI_ERR_LAST = t.host.lastWrite ∧
    t.mem = s.mem) ∧
  (∀ (a : Word) (l : List Word) (s : State), s.host.halted = false → s.spiCheck a.toNat l.length = 0x5A → ∃ t :
    State, exec (.writeWords a l false) s = .next t ∧ t.host.lastWrite = 0x5A ∧ t.regs = (s.spiWrites a.toNat
    (l.map (·.toNat))).regs ∧ t.mem = (s.spiWrites a.toNat (l.map (·.toNat))).mem) ∧
  (∀ (s : State), s.host.halted = false → exec .readLastStatus s = .next (s.emit (.hspi ([s.host.lastWrite,
    s.host.lastRead] ++ leBytes 2 (s.rd HST_SPI_ERR_COUNT))))) ∧
  (∀ (s : State), s.host.halted = false → exec .noOperation s = .next (s)) ∧
  (∀ (c : BitVec 8) (s : State), s.host.halted = false → spiKnown c.toNat = false → ∃ t : State, exec
    (.unknownCommand c) s = .next t ∧ t.rd HST_SPI_ERR_COUNT = min (s.rd HST_SPI_ERR_COUNT + 1) (2 ^ 16 - 1) ∧ t.rd
    HST_SPI_ERR_LAST = s.rd HST_SPI_ERR_LAST)

/-- An accepted post joins the end of its channel's queue and ends a stall; a rejected one is counted and its index
  kept; a completed descriptor of channel 7 has OWN cleared, and a channel with a record and a descriptor writes it
  to the host with OWN cleared; with nothing to write nothing happens. -/
def Obligations.DmaCommandsComplete : Prop :=
  (∀ (n : Fin 8) (v : Word) (s : State), s.host.halted = false → v.toNat < 256 → s.postBad n.val v.toNat = false →
    s.host.dma.length = 8 → ∃ t : State, exec (.dmaPost n v) s = .next t ∧ (t.dmaCh n.val).posted = (s.dmaCh
    n.val).posted ++ [v.toNat] ∧ t.rdi HST_DMA_STAT_STALLED n.val = 0 ∧ t.rdi HST_DMA_STAT_QUEUED n.val = ((s.dmaCh
    n.val).posted.length + 1) % 512) ∧
  (∀ (n : Fin 8) (v : Word) (s : State), s.host.halted = false → (255 < v.toNat ∨ s.postBad n.val v.toNat = true) →
    ∃ t : State, exec (.dmaPost n v) s = .next t ∧ t.rd HST_DMA_ERR_COUNT = min (s.rd HST_DMA_ERR_COUNT + 1) (2 ^
    24 - 1) ∧ t.rd HST_DMA_ERR_LAST = v.toNat % 256 ∧ t.host.dma = s.host.dma) ∧
  (∀ (d : Nat) (l data : List Nat) (moved : Option Nat) (s : State), s.host.halted = false → (s.dmaCh 7).posted = d
    :: l → s.host.dma.length = 8 → ∃ t : State, exec (.descriptorComplete 7 data moved) s = .next t ∧ bitAt (t.reg
    (descWord d 4)) 31 = false ∧ bitAt (t.reg (descWord d 4)) 27 = (moved.isSome || (s.dmaMove d (min (moved.getD
    (bitsOf (s.reg (descWord d 3)) 23 0)) (bitsOf (s.reg (descWord d 3)) 23 0)) data).2.1) ∧ (t.dmaCh 7).posted =
    l) ∧
  (∀ (n : Fin 8) (d : Nat) (l data : List Nat) (s : State), s.host.halted = false → n.val < 7 → n.val ≠ 5 →
    (s.dmaCh n.val).posted = d :: l → (s.dmaCh n.val).ready ≠ [] → s.host.dma.length = 8 → ∃ t : State, exec
    (.descriptorComplete n data none) s = .next t ∧ bitAt (t.reg (descWord d 4)) 31 = false ∧ (t.dmaCh
    n.val).posted = l ∧ .dma n.val (s.reg (descWord d 0) + s.reg (descWord d 1) * 2 ^ 32) (packDesc (bitsOf (s.reg
    (descWord d 3)) 23 0) (s.dmaCh n.val)).1 ∈ t.out) ∧
  (∀ (n : Fin 8) (data : List Nat) (moved : Option Nat) (s : State), s.host.halted = false → (s.dmaCh n.val).posted
    = [] → (s.dmaCh n.val).ready = [] → exec (.descriptorComplete n data moved) s = .next (s))

/-- The key 0x5A3C restarts the period and sets KICKED, another value counts a bad key; the period is taken as at
  most 60,000, and a non-zero one is a kick; an expired period sets LOST, clears KICKED and counts; LOST is cleared
  by writing 1 when a kick has come since. -/
def Obligations.WatchdogCommandsComplete : Prop :=
  (∀ (v : Word) (s : State), s.host.halted = false → v.toNat = 0x5A3C → ∃ t : State, exec (.kick v) s = .next t ∧
    t.rd HST_LOST_KICKED = 1 ∧ t.host.wdStart = s.clk.el ∧ t.rd HST_LOST_LOST = s.rd HST_LOST_LOST) ∧
  (∀ (v : Word) (s : State), s.host.halted = false → v.toNat ≠ 0x5A3C → ∃ t : State, exec (.kick v) s = .next t ∧
    t.rd HST_LOST_BADKEY = min (s.rd HST_LOST_BADKEY + 1) (2 ^ 8 - 1) ∧ t.rd HST_LOST_KICKED = s.rd HST_LOST_KICKED
    ∧ t.host.wdStart = s.host.wdStart) ∧
  (∀ (v : Word) (s : State), s.host.halted = false → v.toNat % 65536 ≠ 0 → ∃ t : State, exec (.watchdogPeriodWrite
    v) s = .next t ∧ t.rd HST_WD_PERIOD = min (v.toNat % 65536) 60000 ∧ t.rd HST_LOST_KICKED = 1 ∧ t.host.wdStart =
    s.clk.el) ∧
  (∀ (v : Word) (s : State), s.host.halted = false → v.toNat % 65536 = 0 → ∃ t : State, exec (.watchdogPeriodWrite
    v) s = .next t ∧ t.rd HST_WD_PERIOD = 0 ∧ t.rd HST_LOST_KICKED = s.rd HST_LOST_KICKED) ∧
  (∀ (s : State), s.host.halted = false → s.rd HST_WD_PERIOD ≠ 0 → s.host.wdStart + s.rd HST_WD_PERIOD * 1000000 ≤
    s.clk.el → ∃ t : State, exec .watchdogExpiry s = .next t ∧ t.rd HST_LOST_LOST = 1 ∧ t.rd HST_LOST_KICKED = 0 ∧
    t.rd HST_LOST_EXPIRED = min (s.rd HST_LOST_EXPIRED + 1) (2 ^ 16 - 1) ∧ t.host.wdStart = s.host.wdStart + s.rd
    HST_WD_PERIOD * 1000000) ∧
  (∀ (v : Word) (s : State), s.host.halted = false → bitAt v.toNat 0 = true → s.rd HST_LOST_KICKED = 1 → ∃ t :
    State, exec (.hostLostClear v) s = .next t ∧ t.rd HST_LOST_LOST = 0 ∧ t.rd HST_LOST_KICKED = 1) ∧
  (∀ (v : Word) (s : State), s.host.halted = false → (bitAt v.toNat 0 = false ∨ s.rd HST_LOST_KICKED ≠ 1) → exec
    (.hostLostClear v) s = .next (s))

/-- A write of PWR_LAT sets the tolerance of its group; a group with no work enters the state chosen for it; a wake
  that starts is noted with its time, and when it completes the group is awake. -/
def Obligations.PowerCommandsComplete : Prop :=
  (∀ (g : Fin 12) (v : Word) (s : State), s.host.halted = false → ∃ t : State, exec (.pwrLatWrite g v) s = .next t
    ∧ t.rdi PWR_LAT_LAT g.val = v.toNat) ∧
  (∀ (g : Fin 12) (s : State), s.host.halted = false → s.groupState g.val ≠ 0 → assocGet s.host.asleep g.val = none
    → assocGet s.host.wake g.val = none → ∃ t : State, exec (.enterPowerState g) s = .next t ∧ assocGet
    t.host.asleep g.val = some (s.groupState g.val)) ∧
  (∀ (g : Fin 12) (s : State), s.host.halted = false → (assocGet s.host.asleep g.val).isSome = true → assocGet
    s.host.wake g.val = none → ∃ t : State, exec (.groupWake g) s = .next t ∧ assocGet t.host.wake g.val = some
    s.clk.el ∧ t.host.asleep = s.host.asleep) ∧
  (∀ (g : Fin 12) (s : State), s.host.halted = false → (assocGet s.host.wake g.val).isSome = true → ∃ t : State,
    exec (.wakeComplete g) s = .next t ∧ assocGet t.host.wake g.val = none ∧ assocGet t.host.asleep g.val = none)

/-- With the datum forced away the locked servo enters holdover in its second and keeps its uncertainty at entry; a
  step that is due is added to device time and is over; a host datum within a second of its edge is a measurement
  of source 3, else an error; an HPIN edge is captured when HPIN is used; a pulse generator's edge sets its output
  and its event; its end clears it; the spoofing bar ends at its time. -/
def Obligations.TimeCommandsComplete : Prop :=
  (∀ (s : State), s.host.halted = false → s.time.servoSec ≠ s.sec → s.standby = false → s.rd TIME_CTRL_FORCE_HOLD =
    1 → s.rd TIME_DATUM_STATE = 1 → ∃ t : State, exec .servoUpdate s = .next t ∧ t.rd TIME_DATUM_STATE = 2 ∧ t.rd
    TIME_DATUM_ACTIVE = 0 ∧ t.rd TIME_DATUM_SLEWING = 0 ∧ t.time.servoSec = s.sec ∧ t.time.holdAt = s.clk.el ∧
    t.time.uEntry = s.rd TIME_UNC_NS) ∧
  (∀ (d : Int) (s : State), s.host.halted = false → s.time.step = some d → s.time.stepSec ≠ s.sec → ∃ t : State,
    exec .step s = .next t ∧ t.clk.now = ((s.clk.now : Int) + d).toNat % 2 ^ 64 ∧ t.clk.el = s.clk.el ∧ t.time.step
    = none ∧ t.rd TIME_CTRL_STEP_NOW = 0) ∧
  (∀ (hi : Word) (tt e : Nat) (s : State), s.host.halted = false → s.time.hpin = some (tt, e) → s.clk.el ≤ e +
    1000000000 → s.time.srcs.length = 3 → ∃ t : State, exec (.timeHrefWrite hi) s = .next t ∧ t.rd
    TIME_HREF_HI_HREF = hi.toNat ∧ (t.datum 3).off = some ((tt : Int) - ((assocGetD s.host.heldLo 0x20028 (s.rd
    TIME_HREF_LO_HREF) + hi.toNat * 2 ^ 32 : Nat) : Int))) ∧
  (∀ (hi : Word) (s : State), s.host.halted = false → (∀ tt e, s.time.hpin = some (tt, e) → e + 1000000000 <
    s.clk.el) → ∃ t : State, exec (.timeHrefWrite hi) s = .next t ∧ t.rd TIME_DATUM_HREF_ERR = min (s.rd
    TIME_DATUM_HREF_ERR + 1) (2 ^ 4 - 1) ∧ t.time = s.time) ∧
  (∀ (s : State), s.host.halted = false → s.cv1 C_TIMEBASE_HPIN ≠ 0xFF → ∃ t : State, exec .hpinEdge s = .next t ∧
    t.time.hpin = some (s.clk.now, s.clk.el) ∧ t.regs = s.regs) ∧
  (∀ (g : Fin 4) (r : CfgRec) (s : State), s.host.halted = false → s.crec C_PPS_INDEX g.val = some r → (listAt
    s.time.pps g.val {}).sec ≠ s.sec → (listAt s.time.pps g.val {}).rise = none → s.time.pps.length = 4 → ∃ t :
    State, exec (.ppsEdge g) s = .next t ∧ listAt t.time.pps g.val {} = ⟨s.sec, some s.clk.el, some (s.clk.el +
    s.ppsWidth r)⟩ ∧ bitAt (t.rdi UNIT_EVT_EVT 2) g.val = true) ∧
  (∀ (g : Fin 4) (e : Nat) (s : State), s.host.halted = false → (listAt s.time.pps g.val {}).fall = some e → e ≤
    s.clk.el → ∃ t : State, exec (.ppsPulseEnd g) s = .next t ∧ (listAt t.time.pps g.val {}).fall = none ∧ (listAt
    t.time.pps g.val {}).rise = (listAt s.time.pps g.val {}).rise) ∧
  (∀ (s : State), s.host.halted = false → s.rd TIME_DATUM_SPOOF = 1 → s.time.spoofUntil ≤ s.clk.el → ∃ t : State,
    exec .spoofHoldEnd s = .next t ∧ t.rd TIME_DATUM_SPOOF = 0 ∧ t.clk = s.clk)

/-- A search pass moves to the next bin, and a confirmed hypothesis above the threshold takes the lowest free
  channel, acquiring; candidates and bars that have run out go; a quiet notch is released; a tracking epoch happens
  once in its millisecond and takes a decoded UTC set; the jamming indicator runs once in its interval; a suspicion
  60 s old is cleared. -/
def Obligations.GnssTrackingCommandsComplete : Prop :=
  (∀ (l : List Hypo) (s : State), s.host.halted = false → s.gnsLive = true → ∃ t : State, exec (.acquisitionPass l)
    s = .next t ∧ t.gns.acqBin = (s.gns.acqBin + 1) % s.acqBins) ∧
  (∀ (h : Hypo) (c : Nat) (s : State), s.host.halted = false → s.gnsLive = true → h.confirmed = true → (ofB32
    (s.cv1 C_TRACK_ACQ_THR)).lt (ofB32 h.power) = true → s.signalOn h.signal = true → s.gnsBarred h.signal h.svid =
    false → (List.range 96).any (fun d => !s.chanFree d && s.rdi GNS_CH_SIGNAL d == h.signal && s.rdi GNS_CH_SVID d
    == h.svid) = false → (List.range 96).find? (fun d => s.chanFree d) = some c → ∃ t : State, exec
    (.acquisitionPass [h]) s = .next t ∧ t.rdi GNS_CH_STATE c = 1 ∧ t.rdi GNS_CH_SIGNAL c = h.signal % 8 ∧ t.rdi
    GNS_CH_SVID c = h.svid % 256 ∧ t.rdi GNS_CH_SPOOF c = 0) ∧
  (∀ (s : State), s.host.halted = false → ∃ t : State, exec .candidateExpiry s = .next t ∧ t.gns.cands =
    s.gns.cands.filter (fun k => decide (s.clk.el < k.seen + 10000000000))) ∧
  (∀ (b : Fin 2) (k : Fin 4) (s : State), s.host.halted = false → listAt s.gns.notchAt (4 * b.val + k.val) 0 +
    1000000000 ≤ s.clk.el → ∃ t : State, exec (.notchRelease b k) s = .next t ∧ bitAt (t.rd (if b.val = 0 then
    GNS_NOTCH_A else GNS_NOTCH_B)) k.val = false) ∧
  (∀ (o : EpochObs) (s : State), s.host.halted = false → s.gnsLive = true → s.gns.epochMs ≠ s.clk.now / 1000000 → ∃
    t : State, exec (.trackingEpoch o) s = .next t ∧ t.gns.epochMs = s.clk.now / 1000000 ∧ ∀ x y, o.utc = some (x,
    y) → t.rd TIME_UTC_OFFSET = x % 256 ∧ t.rd TIME_UTC_LEAP = y % 4 ∧ t.rd TIME_UTC_VALID = 1) ∧
  (∀ (l : List (Nat × Nat)) (s : State), s.host.halted = false → s.gnsLive = true → s.gns.jamAt + 100000000 ≤
    s.clk.el → ∃ t : State, exec (.jammingIndicator l) s = .next t ∧ t.gns.jamAt = s.clk.el ∧ t.rd GNS_STAT_TRACKED
    = s.rd GNS_STAT_TRACKED) ∧
  (∀ (c : Fin 96) (s : State), s.host.halted = false → s.rdi GNS_CH_SPOOF c.val = 1 → (listAt s.gns.chans c.val
    {}).suspectAt + 60000000000 ≤ s.clk.el → ∃ t : State, exec (.spoofSuspectClear c) s = .next t ∧ t.rdi
    GNS_CH_SPOOF c.val = 0 ∧ t.rdi GNS_CH_STATE c.val = s.rdi GNS_CH_STATE c.val) ∧
  (∀ (s : State), s.host.halted = false → ∃ t : State, exec .reacquisitionBarEnd s = .next t ∧ t.gns.bars =
    s.gns.bars.filter (fun b => decide (s.clk.el < b.2.2)) ∧ t.regs = s.regs)

/-- A burst wakes, starts and ends in turn and shows G02; a snapshot is armed while none runs, starts and
  completes; a fix epoch happens once and numbers its block at both ends; an injection is taken or refused with its
  cause; outputs are produced once an epoch; staleness and loss are raised once. -/
def Obligations.GnssBurstSnapshotAndFixCommandsComplete : Prop :=
  (∀ (s : State), s.host.halted = false → s.gnsOn = true → s.bursting = true → s.gns.burst = 0 → 995000000 ≤
    s.subSec → ∃ t : State, exec .burstWake s = .next t ∧ t.gns.burst = 1 ∧ t.gns.burstSec = s.sec ∧ bitsOf (t.rd
    PWR_STATE_Gnn) 5 4 = 0) ∧
  (∀ (s : State), s.host.halted = false → s.gnsOn = true → s.bursting = true → s.gns.burst = 1 → s.gns.burstSec ≠
    s.sec → ∃ t : State, exec .burstStart s = .next t ∧ t.gns.burst = 2 ∧ t.gns.burstEnd = s.clk.el + s.cv1
    C_TRACK_BURST_LEN * 1000000) ∧
  (∀ (s : State), s.host.halted = false → s.gns.burst = 2 → s.gns.burstEnd ≤ s.clk.el → ∃ t : State, exec .burstEnd
    s = .next t ∧ t.gns.burst = 0 ∧ bitsOf (t.rd PWR_STATE_Gnn) 5 4 = 3) ∧
  (∀ (v : Word) (s : State), s.host.halted = false → s.winPresent 26 = true → s.rd GNS_SNAP_GO = 0 → ∃ t : State,
    exec (.snapshotGo v) s = .next t ∧ t.rd GNS_SNAP_GO = bitsOf v.toNat 31 31 ∧ t.rd GNS_SNAP_LEN = limN 2 32
    (bitsOf v.toNat 15 8) ∧ t.rd GNS_SNAP_PIN = bitsOf v.toNat 27 22) ∧
  (∀ (e : Option (Fin 64)) (s : State), s.host.halted = false → s.rd GNS_SNAP_GO = 1 → s.gns.snap = none → s.rd
    GNS_SNAP_START = 0 → ∃ t : State, exec (.captureStart e) s = .next t ∧ (t.gns.snap.map (·.t0)) = some s.clk.now
    ∧ (t.gns.snap.map (·.el)) = some s.clk.el ∧ (t.gns.snap.map (·.tunc)) = some (s.rd TIME_UNC_NS)) ∧
  (∀ (l : List (List Nat)) (c : GnsSnap) (s : State), s.host.halted = false → s.gns.snap = some c → c.el + s.rd
    GNS_SNAP_LEN * 1000000 ≤ s.clk.el → ∃ t : State, exec (.captureComplete l) s = .next t ∧ t.gns.snap = none ∧
    t.rd GNS_SNAP_GO = 0) ∧
  (∀ (o : FixObs) (s : State), s.host.halted = false → s.fixOn = true → s.gns.fixEpoch ≠ s.clk.now * s.fixRate /
    1000000000 → ∃ t : State, exec (.fixEpoch o) s = .next t ∧ t.gns.fixEpoch = s.clk.now * s.fixRate / 1000000000
    ∧ t.rdi FIX_OUT_WORD 0 = (s.rdi FIX_OUT_WORD 0 + 1) % 2 ^ 32 ∧ t.rdi FIX_OUT_WORD 24 = t.rdi FIX_OUT_WORD 0) ∧
  (∀ (s : State), s.host.halted = false → s.winPresent 27 = true → s.injCause = 0 → ∃ t : State, exec .fixInjCommit
    s = .next t ∧ t.gns.inj = some s.injWords ∧ t.gns.injAt = some s.clk.el ∧ t.regs = s.regs) ∧
  (∀ (s : State), s.host.halted = false → s.winPresent 27 = true → s.injCause ≠ 0 → ∃ t : State, exec .fixInjCommit
    s = .next t ∧ t.rd FIX_INJ_ERR_LAST = s.injCause ∧ t.rd FIX_INJ_ERR_COUNT = min (s.rd FIX_INJ_ERR_COUNT + 1) (2
    ^ 24 - 1) ∧ t.gns = s.gns) ∧
  (∀ (s : State), s.host.halted = false → s.fixOn = true → s.gns.outEpoch ≠ s.clk.now * s.cv1 C_FIX_OUT_RATE /
    1000000000 → (s.gns.inj.isSome = true ∨ s.gns.fresh = true) → ∃ t : State, exec .fixOutputElement s = .next t ∧
    t.gns.outEpoch = s.clk.now * s.cv1 C_FIX_OUT_RATE / 1000000000 ∧ (t.elem 399).map (·.val) = some (s.reg 0x20010
    % 65536) ∧ (t.elem 394).map (·.val) = some (s.rd TIME_UNC_NS)) ∧
  (∀ (s : State), s.host.halted = false → s.gns.inj.isSome = true → s.injYoung = false → s.gns.staleRaised = false
    → ∃ t : State, exec .injStale s = .next t ∧ t.gns.staleRaised = true ∧ s.winPresent 27 = true → bitAt (t.rdi
    UNIT_EVT_EVT 27) 3 = true) ∧
  (∀ (s : State), s.host.halted = false → s.fixOn = true → s.gns.lostRaised = false → s.gns.lastFix + 3000000000 ≤
    s.clk.el → ∃ t : State, exec .fixlost s = .next t ∧ t.gns.lostRaised = true ∧ bitAt (t.rdi UNIT_EVT_EVT 27) 4 =
    true)

/-- A scrub read moves to the next word, or wraps and counts a pass; a leak lowers the level by 1; MEM_INIT marks a
  usable region; an accepted NV command is busy and queued, one refused keeps its result; an NV word that completes
  ends the word in progress; an accepted repair burns, and its end uses a row. -/
def Obligations.MemoryUnitCommandsComplete : Prop :=
  (∀ (r : Fin 7) (s : State), s.host.halted = false → s.rdi MEM_SCRUB_EN r.val = 1 → s.marked r.val = true →
    s.usable r.val = true → ((r.val = 4 → s.is20 = false)) → listAt s.memu.lastScrub r.val 0 + s.scrubNs r.val ≤
    s.clk.el → s.rdi MEM_POS_WORD r.val + 1 < regionWords r.val → ∃ t : State, exec (.scrubRead r) s = .next t ∧
    t.rdi MEM_POS_WORD r.val = s.rdi MEM_POS_WORD r.val + 1) ∧
  (∀ (r : Fin 7) (s : State), s.host.halted = false → s.rdi MEM_SCRUB_EN r.val = 1 → s.marked r.val = true →
    s.usable r.val = true → ((r.val = 4 → s.is20 = false)) → listAt s.memu.lastScrub r.val 0 + s.scrubNs r.val ≤
    s.clk.el → regionWords r.val ≤ s.rdi MEM_POS_WORD r.val + 1 → ∃ t : State, exec (.scrubRead r) s = .next t ∧
    t.rdi MEM_POS_WORD r.val = 0 ∧ t.rdi MEM_PASS_COUNT r.val = (s.rdi MEM_PASS_COUNT r.val + 1) % 2 ^ 32) ∧
  (∀ (r : Fin 7) (s : State), s.host.halted = false → periodPassed (listAt s.memu.lastLeak r.val 0) s.clk.now (2 ^
    s.rdi MEM_BUCKET_LEAK_K r.val * 1000) = true → ∃ t : State, exec (.leak r) s = .next t ∧ t.rdi MEM_LEVEL_LEVEL
    r.val = s.rdi MEM_LEVEL_LEVEL r.val - 1 ∧ t.rdi MEM_CE_COUNT r.val = s.rdi MEM_CE_COUNT r.val) ∧
  (∀ (v : Word) (r : Fin 6) (s : State), s.host.halted = false → bitAt v.toNat r.val = true → s.usable r.val = true
    → ((r.val = 4 → s.is20 = false)) → ∃ t : State, exec (.memInit v) s = .next t ∧ t.marked r.val = true) ∧
  (∀ (v : Word) (s : State), s.host.halted = false → bitAt v.toNat 0 = true → bitsOf v.toNat 31 16 = 0x4E56 → s.rd
    MEM_NV_STAT_BUSY = 0 → s.rd MEM_NV_ADDR_ADDR % 8 = 0 → inHostArea (s.rd MEM_NV_ADDR_ADDR) = true → s.usable 6 =
    true → s.memu.nvCur.isSome = true → ∃ t : State, exec (.nvCommand v) s = .next t ∧ t.rd MEM_NV_STAT_BUSY = 1 ∧
    t.memu.nvq = s.memu.nvq ++ [⟨5, 0x4000000 + s.rd MEM_NV_ADDR_ADDR, s.rd64 MEM_NV_DATA_LO_DATA
    MEM_NV_DATA_HI_DATA⟩]) ∧
  (∀ (v : Word) (s : State), s.host.halted = false → bitAt v.toNat 0 = true → s.rd MEM_NV_STAT_BUSY = 0 → bitsOf
    v.toNat 31 16 ≠ 0x4E56 → ∃ t : State, exec (.nvCommand v) s = .next t ∧ t.rd MEM_NV_STAT_RESULT = 3 ∧ t.memu =
    s.memu) ∧
  (∀ (q : NvReq) (s : State), s.host.halted = false → s.memu.nvCur = some q → s.memu.nvq = [] → s.usable 6 = true →
    q.prio = 5 → ∃ t : State, exec .nvWordComplete s = .next t ∧ t.memu.nvCur = none ∧ t.rd MEM_NV_STAT_BUSY = 0 ∧
    t.rd MEM_NV_STAT_RESULT = 1 ∧ .nvWord q.addr ∈ t.out) ∧
  (∀ (v : Word) (r m : Nat) (s : State), s.host.halted = false → bitAt v.toNat 0 = true → bitsOf v.toNat 31 16 =
    0xF5E1 → s.rd MEM_REPAIR_STAT_BUSY = 0 → regionOf (s.rd MEM_REPAIR_ADDR_ADDR) = some r → macroOf (s.rd
    MEM_REPAIR_ADDR_ADDR) = some m → s.usable r = true → ((r = 4 → s.is20 = false)) → assocGetD s.fuses.fieldRows m
    0 < 2 → s.thermalWarn = false → ∃ t : State, exec (.repair v) s = .next t ∧ t.rd MEM_REPAIR_STAT_BUSY = 1 ∧
    t.memu.burn = some m) ∧
  (∀ (g : Bool) (m : Nat) (s : State), s.host.halted = false → s.memu.burn = some m → ∃ t : State, exec
    (.repairdone g) s = .next t ∧ t.memu.burn = none ∧ t.rd MEM_REPAIR_STAT_BUSY = 0 ∧ t.rd MEM_REPAIR_STAT_RESULT
    = (if g then 1 else 5) ∧ assocGet t.fuses.fieldRows m = some (assocGetD s.fuses.fieldRows m 0 + 1) ∧ bitAt
    (t.rdi UNIT_EVT_EVT 6) 19 = true)

/-- A sample is taken once a second; the operating time counts every 36 s; a flush that may start takes the store
  and is in progress until its words are written; PFAIL is followed; the last window word is read and the cursor
  moves on; a dump runs; CLEAR with its key empties the store. -/
def Obligations.RecorderCommandsComplete : Prop :=
  (∀ (v : Nat) (s : State), s.host.halted = false → s.rd REC_CTRL_EN = 1 → s.spoor.lastSample + 1000000000 ≤
    s.clk.el → ∃ t : State, exec (.seriesSample v) s = .next t ∧ t.spoor.lastSample = s.clk.el ∧
    t.spoor.lastSampleDtime = s.clk.now) ∧
  (∀ (s : State), s.host.halted = false → s.spoor.optimeEl + 36000000000 ≤ s.clk.el → ∃ t : State, exec
    .operatingTimeTick s = .next t ∧ t.rd REC_OPTIME_VALUE = (s.rd REC_OPTIME_VALUE + 1) % 2 ^ 32 ∧
    t.spoor.optimeEl = s.spoor.optimeEl + 36000000000) ∧
  (∀ (s : State), s.host.halted = false → s.rd REC_CTRL_EN = 1 → s.spoor.lastPeriodic + s.cv1 C_RECORDER_FLUSH_S *
    1000000000 ≤ s.clk.el → s.rd REC_STAT_DEGRADED = 0 → s.spoor.flush = none → s.flushOver 1 = false → ∃ t :
    State, exec .periodicFlush s = .next t ∧ t.spoor.lastPeriodic = s.clk.el ∧ (t.spoor.flush.map (·.code)) = some
    1 ∧ t.rd REC_STAT_FLUSHING = 1) ∧
  (∀ (s : State), s.host.halted = false → s.spoor.pfailHigh = true → s.spoor.pfailSince + 1000000000 ≤ s.clk.el →
    s.rd REC_STAT_DEGRADED = 0 → s.spoor.flush = none → s.flushOver 2 = false → ∃ t : State, exec .pfail s = .next
    t ∧ t.spoor.pfailHigh = false ∧ (t.spoor.flush.map (·.code)) = some 2 ∧ t.rd REC_STAT_FLUSHING = 1) ∧
  (∀ (s : State), s.host.halted = false → s.spoor.pfailHigh = false → ∃ t : State, exec .pfailRise s = .next t ∧
    t.spoor.pfailHigh = true ∧ t.spoor.pfailSince = s.clk.el ∧ t.regs = s.regs) ∧
  (∀ (s : State), s.host.halted = false → s.rd REC_STAT_DEGRADED = 0 → s.spoor.flush = none → s.flushOver 4 = false
    → ∃ t : State, exec .flush s = .next t ∧ (t.spoor.flush.map (·.code)) = some 4 ∧ (t.spoor.flush.map (·.slot)) =
    some s.spoor.nextSlot ∧ t.rd REC_STAT_FLUSHING = 1) ∧
  (∀ (f : Flush) (s : State), s.host.halted = false → s.spoor.flush = some f → s.recWordsLeft = false → ∃ t :
    State, exec .flushComplete s = .next t ∧ t.spoor.flush = none ∧ t.rd REC_STAT_FLUSHING = 0) ∧
  (∀ (s : State), s.host.halted = false → ∃ t : State, exec .windowRead s = .next t ∧ t.out = .readData 0x710FC
    (s.recWindow 63) :: s.out ∧ t.rd REC_CURSOR_POS = (if s.rd REC_CURSOR_POS / 256 * 256 + 256 < objSize (s.rd
    REC_SRC_KIND) then s.rd REC_CURSOR_POS / 256 * 256 + 256 else 0)) ∧
  (∀ (s : State), s.host.halted = false → s.rd REC_STAT_DUMPING = 0 → ∃ t : State, exec .dump s = .next t ∧ t.rd
    REC_STAT_DUMPING = 1) ∧
  (∀ (k : BitVec 16) (s : State), s.host.halted = false → k.toNat = 0x5C0F → ∃ t : State, exec (.clear k) s = .next
    t ∧ t.spoor.bins = List.replicate 256 0 ∧ t.rd REC_MISSED_COUNT = 0 ∧ t.rd REC_SEQ_SEQ = (s.rd REC_SEQ_SEQ + 2)
    % 2 ^ 32) ∧
  (∀ (k : BitVec 16) (s : State), s.host.halted = false → k.toNat ≠ 0x5C0F → exec (.clear k) s = .next (s))

/-- A broken start of transmission is counted; a good long packet counts a line and passes its samples to the
  transit bound to its channel; a port's enable follows its bit; a silent port is idle once; frame starts, frame
  ends, band lines and edges are taken from their queues; a resync empties the edges; the transit control and
  snapshot registers are set; a processed line shows its number. -/
def Obligations.PixelAndTransitCommandsComplete : Prop :=
  (∀ (n : Fin 2) (p : CsiPacket) (s : State), s.host.halted = false → s.winPresent 14 = true → s.rdi PIX_CTRL_EN
    n.val = 1 → p.sot = true → ∃ t : State, exec (.packet n p) s = .next t ∧ t.rdi PIX_ERR_SOT n.val = min (s.rdi
    PIX_ERR_SOT n.val + 1) 255 ∧ bitAt (t.rdi UNIT_EVT_EVT 14) n.val = true) ∧
  (∀ (n : Fin 2) (p : CsiPacket) (r : CfgRec) (s : State), s.host.halted = false → s.winPresent 14 = true → s.rdi
    PIX_CTRL_EN n.val = 1 → p.sot = false → p.ecc = 0 → p.vcx = false → s.boundTo n.val p.vc = some r → p.dt = r.v
    C_STREAM_DT → 0x10 ≤ p.dt → p.dt ≠ 0x12 → p.crcOk = true → r.v C_STREAM_TRANSIT < s.pix.trn.length → ∃ t :
    State, exec (.packet n p) s = .next t ∧ t.rdi PIX_LINES_COUNT n.val = (s.rdi PIX_LINES_COUNT n.val + 1) % 2 ^
    32 ∧ (t.trn (r.v C_STREAM_TRANSIT)).inq = (s.trn (r.v C_STREAM_TRANSIT)).inq ++ [.band (unpackRaw p.dt
    p.payload)]) ∧
  (∀ (n : Fin 2) (e : Bool) (s : State), s.host.halted = false → s.winPresent 14 = true → ∃ t : State, exec
    (.portEnable n e) s = .next t ∧ t.rdi PIX_CTRL_EN n.val = b2n e) ∧
  (∀ (n : Fin 2) (s : State), s.host.halted = false → s.winPresent 14 = true → s.rdi PIX_CTRL_EN n.val = 1 →
    s.pix.ports.length = 2 → (listAt s.pix.ports n.val {}).idled = false → (listAt s.pix.ports n.val {}).lastLong +
    100000000 ≤ s.clk.el → ∃ t : State, exec (.idle n) s = .next t ∧ (listAt t.pix.ports n.val {}).idled = true ∧
    bitAt (t.rdi UNIT_EVT_EVT 14) (2 + n.val) = true) ∧
  (∀ (n : Fin 8) (l : List PixItem) (s : State), s.host.halted = false → (s.trn n.val).inq = .frameStart :: l →
    s.trnOn n.val = true → ∃ t : State, exec (.frameStart n) s = .next t ∧ (t.trn n.val).inq = l ∧ (t.trn
    n.val).pos = 0 ∧ t.rdi TRN_STAT_ALIGNED n.val = 1) ∧
  (∀ (n : Fin 8) (l : List PixItem) (s : State), s.host.halted = false → (s.trn n.val).inq = .frameEnd :: l → ∃ t :
    State, exec (.frameEnd n) s = .next t ∧ (t.trn n.val).inq = l) ∧
  (∀ (n : Fin 8) (px : List Nat) (l : List PixItem) (s : State), s.host.halted = false → (s.trn n.val).inq = .band
    px :: l → s.trnOn n.val = true → s.rdi TRN_STAT_ALIGNED n.val = 0 → ∃ t : State, exec (.bandLine n) s = .next t
    ∧ (t.trn n.val).inq = l ∧ t.rdi TRN_LOSS_BANDERR n.val = min (s.rdi TRN_LOSS_BANDERR n.val + 1) 255) ∧
  (∀ (n : Fin 8) (px : List Nat) (l : List PixItem) (s : State), s.host.halted = false → (s.trn n.val).inq = .band
    px :: l → s.trnOn n.val = true → s.rdi TRN_STAT_ALIGNED n.val = 1 → ∃ t : State, exec (.bandLine n) s = .next t
    ∧ (t.trn n.val).inq = l) ∧
  (∀ (n : Fin 8) (e : Nat × Int) (l : List (Nat × Int)) (s : State), s.host.halted = false → (s.trn n.val).edgeIn =
    e :: l → ∃ t : State, exec (.edgeTime n) s = .next t ∧ (t.trn n.val).edgeIn = l ∧ (t.trn n.val).edges = (if 16
    ≤ (s.trn n.val).edges.length then (s.trn n.val).edges.drop 1 else (s.trn n.val).edges) ++ [e]) ∧
  (∀ (n : Fin 8) (s : State), s.host.halted = false → s.winPresent 15 = true → ∃ t : State, exec (.resync n) s =
    .next t ∧ (t.trn n.val).edges = [] ∧ (t.trn n.val).inq = (s.trn n.val).inq ∧ (t.trn n.val).lines = (s.trn
    n.val).lines) ∧
  (∀ (n : Fin 8) (v : Word) (s : State), s.host.halted = false → s.winPresent 15 = true → ∃ t : State, exec
    (.transitEnWrite n v) s = .next t ∧ t.rdi TRN_CTRL_EN n.val = v.toNat % 2 ∧ t.rdi TRN_CTRL_BANK n.val = bitsOf
    v.toNat 1 1) ∧
  (∀ (n : Fin 8) (v : Word) (s : State), s.host.halted = false → s.winPresent 15 = true → s.rdi TRN_SNAP_GO n.val =
    0 → bitAt v.toNat 31 = true → ∃ t : State, exec (.pixelSnapshotGo n v) s = .next t ∧ t.rdi TRN_SNAP_GO n.val =
    1 ∧ t.rdi TRN_SNAP_COUNT n.val = max 1 (bitsOf v.toNat 7 0) ∧ t.rdi TRN_SNAP_BANDMASK n.val = bitsOf v.toNat 27
    24) ∧
  (∀ (n : Fin 8) (x : TLine) (l : List TLine) (s : State), s.host.halted = false → (s.trn n.val).lines = x :: l →
    s.trnOn n.val = true → x.kind = 0 → x.full = true → x.ready ≤ s.clk.el → ∃ t : State, exec (.scanLineProcessed
    n) s = .next t ∧ t.rdi TRN_LINE_LINE n.val = x.num % 2 ^ 32)

/-- Intake takes the front of the next queue in turn; a pairing wait that is over counts an unpaired object; a
  stake request held for the stake-out engine leaves the front; a report is taken; an exported object leaves the
  export queue; a quarantined slot whose time is over and that no memory quarantine covers is free again. -/
def Obligations.TallyCommandsComplete : Prop :=
  (∀ (q : Nat) (i : InObj) (s : State), s.host.halted = false → ((List.range 10).map (fun k => (s.tally.rr + k) %
    10)).find? (fun p => (s.inFront p).isSome) = some q → s.inFront q = some i → ∃ t : State, exec .intake s =
    .next t ∧ t.tally.rr = (q + 1) % 10 ∧ (q = 8 → t.tally.pulses = s.tally.pulses.drop 1)) ∧
  (∀ (n : Fin 524288) (o : Obj) (p : Nat) (prim : Bool) (till : Int) (w : List Nat) (s : State), s.host.halted =
    false → s.obj n.val = some o → o.stage = .openWait p prim till → till ≤ (s.clk.now : Int) → (s.recRead n.val
    o).1 = some w → ∃ t : State, exec (.pairingWaitEnd n) s = .next t ∧ t.rd TAL_PAIR_UNPAIRED = min (s.rd
    TAL_PAIR_UNPAIRED + 1) 65535) ∧
  (∀ (r : StakeReq) (lead : Nat) (l : List (StakeReq × Nat)) (s : State), s.host.halted = false → s.tally.held =
    (r, lead) :: l → s.tally.fifo.length < 256 → r.origin ≠ 0 → ∃ t : State, exec .stakeRequestEntry s = .next t ∧
    t.tally.held = l ∧ t.tally.fifo = (if ((s.clk.now + lead : Nat) : Int) ≤ r.time then s.tally.fifo ++ [r] else
    s.tally.fifo)) ∧
  (∀ (p : StakeRep) (l : List StakeRep) (s : State), s.host.halted = false → s.tally.reports = p :: l → ∃ t :
    State, exec .stakeReport s = .next t ∧ t.tally.reports = l) ∧
  (∀ (n : Nat) (l : List Nat) (s : State), s.host.halted = false → s.tally.exportQ = n :: l → s.dmaWaiting 0 <
    s.tally.exportQ.length → s.obj n = none → ∃ t : State, exec .exportComplete s = .next t ∧ t.tally.exportQ = l ∧
    t.rd TAL_EXPQ_QUEUED = s.rd TAL_EXPQ_QUEUED - 1) ∧
  (∀ (n : Fin 524288) (o : Obj) (till : Nat) (s : State), s.host.halted = false → s.obj n.val = some o → o.stage =
    .quarantined till → till ≤ s.clk.el → s.talCovered.contains n.val = false → ∃ t : State, exec
    (.quarantineRelease n) s = .next t ∧ assocGet t.tally.herd n.val = none)

/-- Dispatch takes the object at the front of its group's queue when a feature station and a classifier station
  have room; a feature vector and a classifier result that are due count an object; the end of a sub-window sets
  the station's rate and sends it. -/
def Obligations.StationCommandsComplete : Prop :=
  (∀ (g : Fin 16) (n : Nat) (l : List Nat) (s : State), s.host.halted = false → listAt s.tally.waits g.val [] = n
    :: l → s.obj n = none → ∃ t : State, exec (.dispatch g) s = .next t ∧ listAt t.tally.waits g.val [] = l ∧
    t.tally.herd = s.tally.herd) ∧
  (∀ (k : Fin 16) (v : Service) (s : State), s.host.halted = false → (listAt s.tally.fst k.val {}).cur = some v →
    v.till ≤ s.clk.el → ∃ t : State, exec (.featureComplete k) s = .next t ∧ t.rdi FEA_OBJ_COUNT k.val = (s.rdi
    FEA_OBJ_COUNT k.val + 1) % 2 ^ 32) ∧
  (∀ (k : Fin 16) (v : Service) (m : CfgRec) (s : State), s.host.halted = false → (listAt s.tally.cst k.val {}).cur
    = some v → s.clsModel k.val = some m → v.till ≤ s.clk.el → ∃ t : State, exec (.classifierResult k) s = .next t
    ∧ t.rdi CLS_OBJ_COUNT k.val = (s.rdi CLS_OBJ_COUNT k.val + 1) % 2 ^ 32) ∧
  (∀ (k : Fin 16) (r : CfgRec) (s : State), s.host.halted = false → s.crec C_RATE_STATION k.val = some r → (listAt
    s.tally.rates k.val {}).till ≤ s.clk.el → ∃ t : State, exec (.subWindowEnd k) s = .next t ∧ t.rdi CLS_RATE_RATE
    k.val = toB32 (FV.div f32 (FV.ofInt (1000 * (((listAt s.tally.rates k.val {}).counts.drop 1 ++ [(listAt
    s.tally.rates k.val {}).cur]).sum : Int))) (FV.ofInt (r.v C_RATE_WINDOW))) % 2 ^ 32 ∧ (t.elem (160 +
    k.val)).map (·.val) = some (t.rdi CLS_RATE_RATE k.val))

/-- Intake takes the front of its source; a fetch takes the earliest entry out of the calendar and sets the next
  fetch; an off edge that is due is committed; a placed on edge drives the target and a placed off edge releases
  it; a template submits its stake once a period; the host's stake is queued; disabling the engine empties the
  calendar. -/
def Obligations.StakeOutCommandsComplete : Prop :=
  (∀ (r : StakeReq) (l : List StakeReq) (s : State), s.host.halted = false → s.stkSource = some 0 → s.tally.fifo =
    r :: l → s.standby = false → ∃ t : State, exec .stakeIntake s = .next t ∧ t.tally.fifo = l ∧ t.stk.lastTally =
    true) ∧
  (∀ (r : StakeReq) (l : List StakeReq) (s : State), s.host.halted = false → s.stkSource = some 3 → s.stk.host = r
    :: l → ∃ t : State, exec .stakeIntake s = .next t ∧ t.stk.host = l ∧ t.stk.turn = 0 ∧ t.stk.lastTally = false) ∧
  (∀ (c : StkEnt) (s : State), s.host.halted = false → earliestEnt s.stk.cal = some c → c.st.time ≤ (s.clk.now :
    Int) + 64000 → s.stk.nextFetch ≤ 2 * s.clk.el → ∃ t : State, exec .fetch s = .next t ∧ t.stk.cal =
    s.stk.cal.filter (fun d => d.entry != c.entry) ∧ t.stk.nextFetch = 2 * s.clk.el + 125) ∧
  (∀ (p : Fin 64) (s : State), s.host.halted = false → (s.target p.val).runs.any (fun r => !r.commit &&
    s.offCommitted p.val r) = true → ∃ t : State, exec (.offEdgeCommit p) s = .next t ∧ (t.target p.val).runs =
    (s.target p.val).runs.map (fun r => if s.offCommitted p.val r then
    { r with commit := true, stop := r.off (s.minW p.val) } else r) ∧ t.regs = s.regs) ∧
  (∀ (p : Fin 64) (r : Run) (l : List Run) (s : State), s.host.halted = false → (s.target p.val).runs = r :: l →
    r.placed = false → r.on ≤ (s.clk.now : Int) → ∃ t : State, exec (.timedPinEdge p) s = .next t ∧ (t.target
    p.val).active = true ∧ (t.target p.val).runs = { r with placed := true, reps := [] } :: l ∧ (t.target
    p.val).changed = s.clk.el) ∧
  (∀ (p : Fin 64) (r : Run) (l : List Run) (e : Int) (s : State), s.host.halted = false → (s.target p.val).runs = r
    :: l → r.placed = true → r.off (s.minW p.val) = some e → e ≤ (s.clk.now : Int) → ∃ t : State, exec
    (.timedPinEdge p) s = .next t ∧ (t.target p.val).active = false ∧ (t.target p.val).runs = l ∧ (t.target
    p.val).lastOff = some e) ∧
  (∀ (i : Fin 16) (r : CfgRec) (w : Nat) (s : State), s.host.halted = false → s.crec C_TEMPLATE_INDEX i.val = some
    r → r.v C_TEMPLATE_PHASE ≤ s.clk.now + r.v C_TEMPLATE_LEAD → s.stk.tmplK.length = 16 → listAt s.stk.tmplK i.val
    none ≠ some ((s.clk.now + r.v C_TEMPLATE_LEAD - r.v C_TEMPLATE_PHASE) / (r.v C_TEMPLATE_PERIOD * 1000)) →
    templateWidth r (assocGet s.sinks (2 * 256 + i.val)) = some w → ∃ t : State, exec (.templateSubmit i) s = .next
    t ∧ listAt t.stk.tmplK i.val none = some ((s.clk.now + r.v C_TEMPLATE_LEAD - r.v C_TEMPLATE_PHASE) / (r.v
    C_TEMPLATE_PERIOD * 1000)) ∧ t.stk.tmpl.map (·.width) = s.stk.tmpl.map (·.width) ++ [w] ∧ t.stk.tmpl.map
    (·.target) = s.stk.tmpl.map (·.target) ++ [r.v C_TEMPLATE_TARGET]) ∧
  (∀ (s : State), s.host.halted = false → ∃ t : State, exec .stkHGo s = .next t ∧ t.rd STK_H_STAT_SEQ = (s.rd
    STK_H_STAT_SEQ + 1) % 2 ^ 16 ∧ t.stk.host.map (·.time) = s.stk.host.map (·.time) ++ [(s.rd64 STK_H_TIME_LO_TIME
    STK_H_TIME_HI_TIME : Int)] ∧ t.stk.host.map (·.target) = s.stk.host.map (·.target) ++ [s.rd STK_H_TGT_TARGET]) ∧
  (∀ (s : State), s.host.halted = false → ∃ t : State, exec .engineDisable s = .next t ∧ t.rd STK_CTRL_EN = 0 ∧
    t.stk.cal = [])

/-- An enabled link sends one frame in each frame period; a return frame with a good CRC sets the status and clears
  LOST, one with a bad CRC is counted; a link silent too long is lost; the enable follows its bit. -/
def Obligations.ValveLinkCommandsComplete : Prop :=
  (∀ (l : Fin 4) (s : State), s.host.halted = false → s.has C_VLINK_LINK l.val = true → s.rdi VL_CTRL_EN l.val = 1
    → s.stk.links.length = 4 → (listAt s.stk.links l.val {}).last ≠ some (s.clk.now / 1000) → s.standby = false → ∃
    t : State, exec (.valveLinkFrame l) s = .next t ∧ (listAt t.stk.links l.val {}).last = some (s.clk.now / 1000)
    ∧ ∃ words, t.out.head? = some (.valveFrame l.val (s.clk.now / 1000) (s.clk.now / 1000 * 1000 + 100 - s.cv
    C_VLINK_CABLE_NS l.val) words)) ∧
  (∀ (l : Fin 4) (b : List Nat) (s : State), s.host.halted = false → leAt b 13 2 ≠ crc16ccitt (slice b 0 13) → ∃ t
    : State, exec (.returnFrame l b) s = .next t ∧ t.rdi VL_ERR_CRC l.val = min (s.rdi VL_ERR_CRC l.val + 1) 65535
    ∧ t.stk = s.stk) ∧
  (∀ (l : Fin 4) (b : List Nat) (s : State), s.host.halted = false → leAt b 13 2 = crc16ccitt (slice b 0 13) → ∃ t
    : State, exec (.returnFrame l b) s = .next t ∧ t.rdi VL_STAT_STATUS l.val = leAt b 4 1 % 256 ∧ t.rdi
    VL_STAT_LOST l.val = 0 ∧ t.rdi VL_ENV_TEMP l.val = leAt b 11 2 % 65536) ∧
  (∀ (l : Fin 4) (s : State), s.host.halted = false → s.has C_VLINK_LINK l.val = true → s.rdi VL_STAT_LOST l.val =
    0 → (listAt s.stk.links l.val {}).lastRet + 1000 * s.cv C_VLINK_RET_TIMEOUT l.val ≤ s.clk.el → ∃ t : State,
    exec (.vllost l) s = .next t ∧ t.rdi VL_STAT_LOST l.val = 1 ∧ bitAt (t.rdi UNIT_EVT_EVT 12) (8 + l.val) = true) ∧
  (∀ (l : Fin 4) (e : Bool) (s : State), s.host.halted = false → ∃ t : State, exec (.vlEnableWrite l e) s = .next t
    ∧ t.rdi VL_CTRL_EN l.val = b2n e)

/-- An input change that lasts long enough sets the pin's level from outside and a shorter one is counted as a
  runt; the end of a gate starts a new count and sends an element; a pulse starts and ends; the timestamp queue is
  popped; a fabric flag follows its source; a stretch that ends and a latch that is cleared let pads and matrix
  settle. -/
def Obligations.TimedPinAndReflexCommandsComplete : Prop :=
  (∀ (p : Fin 64) (v : Bool) (w : Nat) (b : Bool) (s : State), s.host.halted = false → (s.pin p.val).seen ≠ v → max
    4 (s.cv C_PIN_GLITCH p.val) ≤ w → s.tpin.pins.length = 64 → ∃ t : State, exec (.pinInputEdge p v w b) s = .next
    t ∧ (t.pin p.val).ext = v ∧ (t.pin p.val).seen = v) ∧
  (∀ (p : Fin 64) (v : Bool) (w : Nat) (b : Bool) (s : State), s.host.halted = false → (s.pin p.val).seen ≠ v → w <
    max 4 (s.cv C_PIN_GLITCH p.val) → ∃ t : State, exec (.pinInputEdge p v w b) s = .next t ∧ t.rd TPIN_RUNT_COUNT
    = min (s.rd TPIN_RUNT_COUNT + 1) (2 ^ 32 - 1) ∧ t.tpin = s.tpin) ∧
  (∀ (p : Fin 64) (r : CfgRec) (s : State), s.host.halted = false → s.crec C_PIN_PIN p.val = some r → 1 ≤ r.v
    C_PIN_MODE → r.v C_PIN_MODE ≤ 3 → (s.pin p.val).gateEl + r.v C_PIN_GATE_US * 1000 / 2 + (s.clk.now - s.clk.now
    / (r.v C_PIN_GATE_US * 1000) * (r.v C_PIN_GATE_US * 1000)) ≤ s.clk.el → ∃ t : State, exec (.gateEnd p) s =
    .next t ∧ (t.pin p.val).n = 0 ∧ (t.elem (288 + p.val)).isSome = true) ∧
  (∀ (p : Fin 64) (r : CfgRec) (s : State), s.host.halted = false → s.crec C_PIN_PIN p.val = some r → r.v
    C_PIN_MODE = 5 → r.v C_PIN_PHASE ≤ s.clk.now → (s.pin p.val).pStart = none → s.tpin.pins.length = 64 → ∃ t :
    State, exec (.pwmPulseStart p) s = .next t ∧ (t.pin p.val).pStart = some (((s.clk.now - r.v C_PIN_PHASE) / r.v
    C_PIN_PERIOD * r.v C_PIN_PERIOD + r.v C_PIN_PHASE : Nat) : Int) ∧ (t.pin p.val).high = s.pwmHigh r ∧ (t.pin
    p.val).pulse = decide (0 < s.pwmHigh r)) ∧
  (∀ (p : Fin 64) (s : State), s.host.halted = false → s.cv C_PIN_MODE p.val = 5 → (s.pin p.val).pulse = true →
    (s.pin p.val).high < s.cv C_PIN_PERIOD p.val → (s.pin p.val).pStartEl + (s.pin p.val).high ≤ s.clk.el → ∃ t :
    State, exec (.pwmPulseEnd p) s = .next t ∧ (t.pin p.val).pulse = false) ∧
  (∀ (s : State), s.host.halted = false → ∃ t : State, exec .timestampQueueRead s = .next t ∧ t.out = .readData
    0xB0024 (s.rd TPIN_TSQ_HI_ENTRY) :: s.out ∧ t.tpin.tsq = s.tpin.tsq.drop 1) ∧
  (∀ (p : Fin 64) (v : Bool) (s : State), s.host.halted = false → s.tpin.pins.length = 64 → ∃ t : State, exec
    (.reflexInputChange p v) s = .next t ∧ (t.pin p.val).ext = v ∧ t.rd TPIN_IN0_LEVEL = t.padBits % 2 ^ 32) ∧
  (∀ (f : Fin 16) (s : State), s.host.halted = false → ∃ t : State, exec (.fabricFlagChange f) s = .next t ∧ bitAt
    t.rfx.flags f.val = s.flagNow f.val ∧ t.rd RFX_IN2_IN = t.rfx.flags % 2 ^ 32) ∧
  (∀ (k : Fin 64) (s : State), s.host.halted = false → s.rfxOut k.val = true → listAt s.rfx.stretch k.val 0 ≤
    s.clk.el → exec (.stretchEnd k) s = .next (s.padRefresh)) ∧
  (∀ (m : Word) (s : State), s.host.halted = false → exec (.latchReset 0 m) s = .next ((s.wr RFX_LATCH0_SET (s.rd
    RFX_LATCH0_SET - (s.rd RFX_LATCH0_SET &&& m.toNat))).padRefresh)) ∧
  (∀ (m : Word) (s : State), s.host.halted = false → exec (.latchReset 1 m) s = .next ((s.wr RFX_LATCH1_SET (s.rd
    RFX_LATCH1_SET - (s.rd RFX_LATCH1_SET &&& m.toNat))).padRefresh))

/-- An element on its way to an enabled station with room joins its queue, and one for a full queue or a station
  that is not enabled leaves the way and is dropped; a visit takes the front of the queue and runs the chain; a
  rate gate that ended starts the next one from zero crossings; a tick that is over is closed once; a class result
  is counted; a loss sub-window that ended sets the group's rate; the close command asks for a close and the clear
  commands set their counters to 0; an enabled loop that belongs to no group and whose newest grid instant came at
  least half a PERIOD of elapsed time after its last sample, outside the standby of a warm pair, takes that sample:
  the loop is noted as having run at that instant and its sequence counter advances. -/
def Obligations.SignalAndMeasurementCommandsComplete : Prop :=
  (∀ (n : Fin 96) (e : Elem) (l : List Elem) (s : State), s.host.halted = false → assocGetD s.sig.way n.val [] = e
    :: l → s.sigOn n.val = true → (assocGetD s.sig.queue n.val []).length < 32 → ∃ t : State, exec (.portInput n) s
    = .next t ∧ assocGetD t.sig.way n.val [] = l ∧ assocGetD t.sig.queue n.val [] = assocGetD s.sig.queue n.val []
    ++ [e] ∧ t.rdi SIG_STAT_QUEUED n.val = (assocGetD s.sig.queue n.val []).length + 1) ∧
  (∀ (n : Fin 96) (e : Elem) (l : List Elem) (s : State), s.host.halted = false → assocGetD s.sig.way n.val [] = e
    :: l → s.sigOn n.val = true → 32 ≤ (assocGetD s.sig.queue n.val []).length → ∃ t : State, exec (.portInput n) s
    = .next t ∧ assocGetD t.sig.way n.val [] = l ∧ t.sig.queue = s.sig.queue ∧ t.rd SIG_OVR_LAST = n.val ∧ t.rd
    SIG_OVR_COUNT = min (s.rd SIG_OVR_COUNT + 1) (2 ^ 24 - 1)) ∧
  (∀ (n : Fin 96) (r : CfgRec) (e : Elem) (l : List Elem) (s : State), s.host.halted = false → s.sigRec n.val =
    some r → assocGetD s.sig.queue n.val [] = e :: l → s.sigOn n.val = true → ∃ t : State, exec (.stationVisit n) s
    = .next t ∧ assocGetD t.sig.queue n.val [] = l ∧ (r.v C_SIGNAL_STATION_NOPS = 0 → t.rdi SIG_OUT_VALUE n.val =
    toB32 e.num % 2 ^ 32)) ∧
  (∀ (n : Fin 96) (k : Fin 4) (st r : CfgRec) (s : State), s.host.halted = false → s.sigRec n.val = some st →
    s.sigOp n.val k.val = some r → r.v C_SIGNAL_OP_OP = 11 → s.sigOn n.val = true → (s.opSt n.val k.val).gate <
    s.clk.now / gateNs r → ∃ t : State, exec (.rateGate n k) s = .next t ∧ (t.opSt n.val k.val).gate = s.clk.now /
    gateNs r ∧ (t.opSt n.val k.val).cross = 0) ∧
  (∀ (s : State), s.host.halted = false → s.rd MSR_CTRL_EN ≠ 0 → (s.crec1 C_YIELD_EN).isSome = true → s.marked 3 =
    true → (s.msr.tick + 1) * s.gridNs + 1000000 ≤ s.clk.now → ∃ t : State, exec .tickClose s = .next t ∧
    t.msr.tick = s.msr.tick + 1 ∧ t.msr.close = false ∧ t.msr.loss = [0, 0, 0, 0] ∧ t.clk = s.clk) ∧
  (∀ (p c : Nat) (l : List (Nat × Option Nat)) (s : State), s.host.halted = false → s.msr.results = (p, some c) ::
    l → s.rd MSR_CTRL_EN ≠ 0 → ∃ t : State, exec .classResultArrival s = .next t ∧ t.msr.results = l ∧ t.rdi
    MSR_LOSS_COUNT (16 * p + c) = (s.rdi MSR_LOSS_COUNT (16 * p + c) + 1) % 2 ^ 32) ∧
  (∀ (p : Nat) (l : List (Nat × Option Nat)) (s : State), s.host.halted = false → s.msr.results = (p, none) :: l →
    s.rd MSR_CTRL_EN ≠ 0 → ∃ t : State, exec .classResultArrival s = .next t ∧ t.msr.results = l ∧ t.rdi
    MSR_LOSS_NC_COUNT p = (s.rdi MSR_LOSS_NC_COUNT p + 1) % 2 ^ 32) ∧
  (∀ (g : Fin 4) (r : CfgRec) (s : State), s.host.halted = false → s.lossRec g.val = some r → s.rd MSR_CTRL_EN ≠ 0
    → (listAt s.msr.rates g.val {}).till ≤ s.clk.el → ∃ t : State, exec (.lossGroupEmit g) s = .next t ∧ t.rdi
    MSR_GRATE_V g.val = toB32 (FV.mul f64 (FV.div f64 (FV.ofInt (1000 * (((listAt s.msr.rates g.val {}).counts.drop
    1 ++ [(listAt s.msr.rates g.val {}).cur]).sum : Int))) (FV.ofInt (r.v C_LOSS_WINDOW))) (ofB32 (r.v
    C_LOSS_GAIN))) % 2 ^ 32 ∧ t.trav.any (fun p => p.1 == 180 + g.val) = true) ∧
  (∀ (s : State), s.host.halted = false → exec .close s = .next ({ s with msr := { s.msr with close := true } })) ∧
  (∀ (s : State), s.host.halted = false → ∃ t : State, exec .totClr s = .next t ∧ t.rd64 MSR_TOTM_LO_KG
    MSR_TOTM_HI_KG = 0 ∧ t.rd64 MSR_TOTA_LO_M2 MSR_TOTA_HI_M2 = 0 ∧ t.msr = s.msr) ∧
  (∀ (i : Fin 256) (k : Fin 16) (s : State), s.host.halted = false → ∃ t : State, exec .lossClr s = .next t ∧ t.rdi
    MSR_LOSS_COUNT i.val = 0 ∧ t.rdi MSR_LOSS_NC_COUNT k.val = 0 ∧ t.msr = s.msr) ∧
  (∀ (n : Fin 64) (r : CfgRec) (s : State), s.host.halted = false → s.loopRec n.val = some r → r.v C_LOOP_GROUP =
    255 → s.loopEn n.val = true → s.warmStandby = false → s.loops.length = 64 → headPhase r * 1000 ≤ s.clk.now →
    (s.clk.now - headPhase r * 1000) % (headPeriod r * 1000) ≤ s.clk.el → (s.loop n.val).last + headPeriod r * 1000
    / 2 ≤ s.clk.el - (s.clk.now - headPhase r * 1000) % (headPeriod r * 1000) → ∃ t : State, exec (.loopSample n) s
    = .next t ∧ (t.loop n.val).ran = true ∧ (t.loop n.val).last = s.clk.el - (s.clk.now - headPhase r * 1000) %
    (headPeriod r * 1000) ∧ t.rdi LOOP_SEQ_COUNT n.val = (s.rdi LOOP_SEQ_COUNT n.val + 1) % 2 ^ 32)

/-- A level that has held for DEBOUNCE sets the pin and the input; a repeat is due 100 ms after the last report; a
  wire break and its end set and clear WB; an over-current, a thermal shutdown and an open load latch their cause;
  a short to the supply is judged on a released output; a thermal retry ends the shutdown; a cause is cleared by
  writing 1 when it does not stand; a time-proportioning period begins; all of it on a die that is present,
  whatever the core's state. -/
def Obligations.DigitalFieldCommandsComplete : Prop :=
  (∀ (ch : Fin 48) (v : Bool) (h : Nat) (s : State), s.diePresent (ch.val / 24) = true → ∃ t : State, exec
    (.debouncedChange ch v h) s = .next t ∧ bitAt (t.rdij FIO_PIN_STATE 0 (ch.val / 24)) (ch.val % 24) = v ∧
    (s.dieDio (ch.val / 24) (ch.val % 24) C_DIO_DEBOUNCE ≤ h ∧ s.rdij FIO_CH_WB (ch.val % 24) (ch.val / 24) = 0 →
    bitAt (t.rdij FIO_IN_STATE 0 (ch.val / 24)) (ch.val % 24) = v)) ∧
  (∀ (ch : Fin 48) (s : State), s.diePresent (ch.val / 24) = true → s.dies.length = 2 → (s.die (ch.val /
    24)).repAt.length = 24 → listAt (s.die (ch.val / 24)).repAt (ch.val % 24) 0 + 100000000 ≤ s.clk.el → ∃ t :
    State, exec (.inputRepeat ch) s = .next t ∧ listAt (t.die (ch.val / 24)).repAt (ch.val % 24) 0 = s.clk.el ∧
    (t.rdij FIO_IN_STATE 0 (ch.val / 24)) = (s.rdij FIO_IN_STATE 0 (ch.val / 24))) ∧
  (∀ (ch : Fin 48) (c : Nat) (s : State), s.diePresent (ch.val / 24) = true → c < 20 → s.dieDio (ch.val / 24)
    (ch.val % 24) C_DIO_WB_EN = 1 → s.dioOut (ch.val / 24) (ch.val % 24) = false → s.bankLow (ch.val / 24) (ch.val
    % 24) = false → ∃ t : State, exec (.wireBreak ch c) s = .next t ∧ t.rdij FIO_CH_WB (ch.val % 24) (ch.val / 24)
    = 1 ∧ bitAt (t.rdij FIO_F_WB_CH 0 (ch.val / 24)) (ch.val % 24) = true ∧ bitAt (t.rdij FIO_IN_STATE 0 (ch.val /
    24)) (ch.val % 24) = false) ∧
  (∀ (ch : Fin 48) (c : Nat) (s : State), s.diePresent (ch.val / 24) = true → 30 ≤ c → c ≤ 150 → s.dieDio (ch.val /
    24) (ch.val % 24) C_DIO_WB_EN = 1 → s.bankLow (ch.val / 24) (ch.val % 24) = false → ∃ t : State, exec
    (.wireIntact ch c) s = .next t ∧ t.rdij FIO_CH_WB (ch.val % 24) (ch.val / 24) = 0 ∧ t.rdij FIO_CH_CURRENT
    (ch.val % 24) (ch.val / 24) = c) ∧
  (∀ (ch : Fin 48) (s : State), s.diePresent (ch.val / 24) = true → s.dioOn (ch.val / 24) (ch.val % 24) = true →
    s.dieDio (ch.val / 24) (ch.val % 24) C_DIO_OC_TIME ≠ 0 → ∃ t : State, exec (.overCurrent ch) s = .next t ∧
    bitAt (t.rdij FIO_F_OC_CH 0 (ch.val / 24)) (ch.val % 24) = true ∧ t.rdij FIO_CH_LIMITING (ch.val % 24) (ch.val
    / 24) = 0 ∧ bitAt (t.rdij FIO_DRV_STATE 0 (ch.val / 24)) (ch.val % 24) = false ∧ t.rdij FIO_STAT_FAULT 0
    (ch.val / 24) = 1) ∧
  (∀ (ch : Fin 48) (s : State), s.diePresent (ch.val / 24) = true → s.dioOut (ch.val / 24) (ch.val % 24) = true → ∃
    t : State, exec (.switchThermalShutdown ch) s = .next t ∧ t.rdij FIO_CH_TH_OFF (ch.val % 24) (ch.val / 24) = 1
    ∧ bitAt (t.rdij FIO_F_TH_CH 0 (ch.val / 24)) (ch.val % 24) = true ∧ bitAt (t.rdij FIO_DRV_STATE 0 (ch.val /
    24)) (ch.val % 24) = false) ∧
  (∀ (ch : Fin 48) (s : State), s.diePresent (ch.val / 24) = true → s.rdij FIO_CH_TH_OFF (ch.val % 24) (ch.val /
    24) = 1 → ∃ t : State, exec (.thermalRetry ch) s = .next t ∧ t.rdij FIO_CH_TH_OFF (ch.val % 24) (ch.val / 24) =
    0) ∧
  (∀ (ch : Fin 48) (c : Nat) (s : State), s.diePresent (ch.val / 24) = true → s.dioOut (ch.val / 24) (ch.val % 24)
    = true → s.dioOn (ch.val / 24) (ch.val % 24) = true → s.dieDio (ch.val / 24) (ch.val % 24) C_DIO_OL_ON_EN = 1 →
    c < s.dieDio (ch.val / 24) (ch.val % 24) C_DIO_OL_ON_MA → ∃ t : State, exec (.openLoad ch c) s = .next t ∧
    t.rdij FIO_CH_OL (ch.val % 24) (ch.val / 24) = 1 ∧ bitAt (t.rdij FIO_F_OL_CH 0 (ch.val / 24)) (ch.val % 24) =
    true) ∧
  (∀ (ch : Fin 48) (s : State), s.diePresent (ch.val / 24) = true → s.dioOut (ch.val / 24) (ch.val % 24) = true →
    s.dioOn (ch.val / 24) (ch.val % 24) = false → s.dieDio (ch.val / 24) (ch.val % 24) C_DIO_PARTNER_DRIVE = 0 →
    listAt (s.die (ch.val / 24)).offAt (ch.val % 24) 0 + 600000 ≤ s.clk.el → ∃ t : State, exec (.shortVs ch) s =
    .next t ∧ bitAt (t.rdij FIO_F_SVS_CH 0 (ch.val / 24)) (ch.val % 24) = true ∧ t.rdij FIO_STAT_FAULT 0 (ch.val /
    24) = 1) ∧
  (∀ (ch : Fin 48) (s : State), s.diePresent (ch.val / 24) = true → s.dioOut (ch.val / 24) (ch.val % 24) = true →
    s.dioOn (ch.val / 24) (ch.val % 24) = false → s.dieDio (ch.val / 24) (ch.val % 24) C_DIO_PARTNER_DRIVE = 1 → ∃
    t : State, exec (.shortVs ch) s = .next t ∧ t.rdij FIO_CH_PARTNER (ch.val % 24) (ch.val / 24) = 1 ∧ bitAt
    (t.rdij FIO_PARTNER_STATE 0 (ch.val / 24)) (ch.val % 24) = true ∧ t.rdij FIO_F_SVS_CH 0 (ch.val / 24) = s.rdij
    FIO_F_SVS_CH 0 (ch.val / 24)) ∧
  (∀ (d : Fin 2) (v : Word) (i : Fin 24) (s : State), s.host.halted = false → s.winPresent (23 + d.val) = true → ∃
    t : State, exec (.faultClear d 0 v) s = .next t ∧ bitAt (t.rdij FIO_F_OC_CH 0 d.val) i.val = (bitAt (s.rdij
    FIO_F_OC_CH 0 d.val) i.val && !bitAt v.toNat i.val)) ∧
  (∀ (ch : Fin 48) (r : CfgRec) (s : State), s.host.halted = false → s.crec C_DIO_CHANNEL ch.val = some r → r.v
    C_DIO_DIR = 1 → r.v C_DIO_SOURCE = 1 → r.v C_DIO_OUT_MODE = 1 → s.fio.length = 2 → (listAt s.fio (ch.val / 24)
    {}).tp.length = 24 → (listAt (listAt s.fio (ch.val / 24) {}).tp (ch.val % 24) (0, 0)).1 ≠ s.clk.now / (r.v
    C_DIO_TP_PERIOD * 1000000) → ∃ t : State, exec (.timeProportioningPeriod ch) s = .next t ∧ (listAt (listAt
    t.fio (ch.val / 24) {}).tp (ch.val % 24) (0, 0)).1 = s.clk.now / (r.v C_DIO_TP_PERIOD * 1000000) ∧ t.regs =
    s.regs)

/-- A bank below 14 V trips, above 16 V is restored, below 18 V warns and above 19 V ends the warning, and its
  reading is kept; the read back of an analogue output sets OPEN_WIRE or OVERLOAD, live and latched, by its mode; a
  die that loses its supply starts again. -/
def Obligations.BankAndAnalogueFieldCommandsComplete : Prop :=
  (∀ (b : Fin 6) (v : Nat) (s : State), s.diePresent (b.val / 3) = true → v < 1400 → ∃ t : State, exec
    (.underVoltage b v) s = .next t ∧ t.rdij FIO_VBANK_UV (b.val % 3) (b.val / 3) = 1 ∧ t.rdij FIO_VBANK_VOLT
    (b.val % 3) (b.val / 3) = v) ∧
  (∀ (b : Fin 6) (v : Nat) (s : State), s.diePresent (b.val / 3) = true → 1600 < v → s.rdij FIO_VBANK_UV (b.val %
    3) (b.val / 3) = 1 → ∃ t : State, exec (.bankRestore b v) s = .next t ∧ t.rdij FIO_VBANK_UV (b.val % 3) (b.val
    / 3) = 0 ∧ bitAt (t.rdi UNIT_EVT_EVT (23 + b.val / 3)) 8 = true) ∧
  (∀ (b : Fin 6) (v : Nat) (s : State), s.diePresent (b.val / 3) = true → v < 1800 → ∃ t : State, exec (.bankWarn b
    v) s = .next t ∧ t.rdij FIO_VBANK_WARN (b.val % 3) (b.val / 3) = 1 ∧ t.rdij FIO_VBANK_VOLT (b.val % 3) (b.val /
    3) = v) ∧
  (∀ (b : Fin 6) (v : Nat) (s : State), s.diePresent (b.val / 3) = true → 1900 < v → ∃ t : State, exec (.bankWarn b
    v) s = .next t ∧ t.rdij FIO_VBANK_WARN (b.val % 3) (b.val / 3) = 0) ∧
  (∀ (a : Fin 8) (rb : Nat) (r : CfgRec) (s : State), s.dieAout (a.val / 4) (a.val % 4) = some r → s.diePresent
    (a.val / 4) = true → r.v C_AOUT_MODE ≠ 0 → r.v C_AOUT_OPEN_EN = 1 → (FV.ofInt 1).le (aoutValue (r.v
    C_AOUT_MODE) (s.rdij FIO_AOUTSTAT_CODE (a.val % 4) (a.val / 4))) = true → (FV.dec f32 5 1).lt (FV.sub f32
    (aoutValue (r.v C_AOUT_MODE) (s.rdij FIO_AOUTSTAT_CODE (a.val % 4) (a.val / 4))) (ofB32 rb)) = true → ∃ t :
    State, exec (.openWire a rb) s = .next t ∧ t.rdij FIO_AOUTSTAT_OPEN_WIRE (a.val % 4) (a.val / 4) = 1 ∧ t.rdij
    FIO_AOUTSTAT_OPEN_WIRE_L (a.val % 4) (a.val / 4) = 1 ∧ t.rdij FIO_STAT_FAULT 0 (a.val / 4) = 1) ∧
  (∀ (a : Fin 8) (rb : Nat) (r : CfgRec) (s : State), s.dieAout (a.val / 4) (a.val % 4) = some r → r.v C_AOUT_MODE
    = 0 → ∃ t : State, exec (.openWire a rb) s = .next t ∧ t.rdij FIO_AOUTSTAT_OPEN_WIRE (a.val % 4) (a.val / 4) =
    0 ∧ t.rdij FIO_AOUTRB_V (a.val % 4) (a.val / 4) = rb % 2 ^ 32) ∧
  (∀ (a : Fin 8) (rb : Nat) (r : CfgRec) (s : State), s.dieAout (a.val / 4) (a.val % 4) = some r → s.diePresent
    (a.val / 4) = true → r.v C_AOUT_MODE = 0 → (FV.dec f32 1 1).lt (FV.sub f32 (aoutValue 0 (s.rdij
    FIO_AOUTSTAT_CODE (a.val % 4) (a.val / 4))) (ofB32 rb)).abs = true → ∃ t : State, exec (.overload a rb) s =
    .next t ∧ t.rdij FIO_AOUTSTAT_OVERLOAD (a.val % 4) (a.val / 4) = 1 ∧ t.rdij FIO_AOUTSTAT_OVERLOAD_L (a.val % 4)
    (a.val / 4) = 1) ∧
  (∀ (a : Fin 8) (rb : Nat) (r : CfgRec) (s : State), s.dieAout (a.val / 4) (a.val % 4) = some r → r.v C_AOUT_MODE
    ≠ 0 → ∃ t : State, exec (.overload a rb) s = .next t ∧ t.rdij FIO_AOUTSTAT_OVERLOAD (a.val % 4) (a.val / 4) =
    0) ∧
  (∀ (d : Fin 2) (s : State), s.diePresent d.val = true → s.dies.length = 2 → ∃ t : State, exec
    (.fieldDieSupplyLoss d) s = .next t ∧ (t.die d.val).cfg = [] ∧ (t.die d.val).lastFrame = s.clk.el ∧ (t.die
    d.val).safeAt = s.clk.el)

/-- A due instant marks its channel; the end of settling clears its bit; a conversion of a measurement with more
  phases is kept and the next phase settles; the end of a cable reset or of a step pulse excites the next position;
  an ADC asked to calibrate starts the phases, and when they are over it takes or refuses the result; the CAL
  command asks both ADCs; REF_OK follows the reference. -/
def Obligations.PrecisionChannelCommandsComplete : Prop :=
  (∀ (ch : Fin 32) (s : State), s.host.halted = false → s.afe.length = 2 → (s.afeD (ch.val / 16)).chans.length = 16
    → s.diePresent (ch.val / 16) = true → s.chanEn (ch.val / 16) (ch.val % 16) = true → precisionMode (s.chanV
    (ch.val / 16) (ch.val % 16) C_CHANNEL_MODE) = true → s.chanV (ch.val / 16) (ch.val % 16) C_CHANNEL_INTERVAL ≠ 0
    → (s.afeCh (ch.val / 16) (ch.val % 16)).dueIx < s.clk.now / (s.chanV (ch.val / 16) (ch.val % 16)
    C_CHANNEL_INTERVAL * 1000000) → ∃ t : State, exec (.channelDue ch) s = .next t ∧ (t.afeCh (ch.val / 16) (ch.val
    % 16)).due = true ∧ (t.afeCh (ch.val / 16) (ch.val % 16)).dueIx = s.clk.now / (s.chanV (ch.val / 16) (ch.val %
    16) C_CHANNEL_INTERVAL * 1000000)) ∧
  (∀ (ch : Fin 32) (s : State), s.host.halted = false → s.settling (ch.val / 16) (ch.val % 16) = true → (s.afeCh
    (ch.val / 16) (ch.val % 16)).settleTill ≤ s.clk.el → ∃ t : State, exec (.settlingExpiry ch) s = .next t ∧
    t.settling (ch.val / 16) (ch.val % 16) = false) ∧
  (∀ (d a : Fin 2) (c : BitVec 24) (ref : Nat) (comply : Bool) (run : AdcRun) (r : CfgRec) (s : State),
    s.host.halted = false → s.afe.length = 2 → (s.afeD d.val).adcs.length = 2 → (s.adc d.val a.val).run = some run
    → s.chanRec d.val run.ch = some r → run.stage = .conv → run.till ≤ s.clk.el → run.got.length + 1 < phaseCount r
    → r.v C_CHANNEL_MODE ≠ 8 → ∃ t : State, exec (.precisionResult d a c ref comply) s = .next t ∧ (t.adc d.val
    a.val).run.map (·.got) = some (run.got ++ [toB32 (adcReading r (s.afeCh d.val run.ch).gain c.toInt)]) ∧ (t.adc
    d.val a.val).run.map (·.stage) = some .settle ∧ ∀ k ∈ chanSources r, t.rdij AFE_SRC_COMPLIANCE k d.val = b2n
    comply) ∧
  (∀ (ch : Fin 32) (a : Nat) (run : AdcRun) (r : CfgRec) (s : State), s.host.halted = false → s.afe.length = 2 →
    (s.afeD (ch.val / 16)).adcs.length = 2 → s.stageDone (ch.val / 16) (ch.val % 16) .reset = some (a, run) →
    s.chanRec (ch.val / 16) (ch.val % 16) = some r → ∃ t : State, exec (.cableResetEnd ch) s = .next t ∧ (t.adc
    (ch.val / 16) a).run = some { run with stage := .settle } ∧ t.settling (ch.val / 16) (ch.val % 16) = true) ∧
  (∀ (ch : Fin 32) (a : Nat) (run : AdcRun) (r : CfgRec) (s : State), s.host.halted = false → s.afe.length = 2 →
    (s.afeD (ch.val / 16)).adcs.length = 2 → s.stageDone (ch.val / 16) (ch.val % 16) .pulse = some (a, run) →
    s.chanRec (ch.val / 16) (ch.val % 16) = some r → ∃ t : State, exec (.stepPulseEnd ch) s = .next t ∧ (t.adc
    (ch.val / 16) a).run = some { run with stage := .settle } ∧ t.settling (ch.val / 16) (ch.val % 16) = true) ∧
  (∀ (d a : Fin 2) (res : CalReading) (e : Nat) (s : State), s.host.halted = false → s.afe.length = 2 → (s.afeD
    d.val).adcs.length = 2 → s.diePresent d.val = true → (s.adc d.val a.val).calTill = some e → e ≤ s.clk.el → ∃ t
    : State, exec (.calibration d a res) s = .next t ∧ (t.adc d.val a.val).calTill = none ∧ (t.adc d.val
    a.val).calAt = s.clk.el ∧ bitAt (t.rdi UNIT_EVT_EVT (21 + d.val)) (if s.calGood d.val a.val res then 4 else 5)
    = true) ∧
  (∀ (d a : Fin 2) (res : CalReading) (s : State), s.host.halted = false → s.afe.length = 2 → (s.afeD
    d.val).adcs.length = 2 → s.diePresent d.val = true → (s.adc d.val a.val).calTill = none → (s.adc d.val
    a.val).calWait = true → (s.adc d.val a.val).run = none → ∃ t : State, exec (.calibration d a res) s = .next t ∧
    (t.adc d.val a.val).calTill = some (s.clk.el + (2 + (s.adcSources d.val a.val).length) * 3000000) ∧ (t.adc
    d.val a.val).calWait = false ∧ t.rdij AFE_STAT_CAL_BUSY 0 d.val = 1) ∧
  (∀ (d a : Fin 2) (s : State), s.host.halted = false → s.afe.length = 2 → (s.afeD d.val).adcs.length = 2 →
    s.diePresent d.val = true → ∃ t : State, exec (.cal d) s = .next t ∧ (t.adc d.val a.val).calWait = true ∧
    t.regs = s.regs) ∧
  (∀ (d : Fin 2) (good : Bool) (s : State), s.host.halted = false → s.diePresent d.val = true → ∃ t : State, exec
    (.refOkChange d good) s = .next t ∧ t.rdij AFE_STAT_REF_OK 0 d.val = b2n good ∧ (good = false → s.rdij
    AFE_STAT_REF_OK 0 d.val = 1 → bitAt (t.rdi UNIT_EVT_EVT (21 + d.val)) 6 = true))

/-- A fast sample adds to the decimation sum of its path and empties it after DECIM samples; a charge amplifier is
  reset on its period, above its threshold for its dwell, and on command, and the reset ends after its time; a
  sweep is asked for on command, and at the end of a dwell the next frequency settles. -/
def Obligations.FastPathAndSweepCommandsComplete : Prop :=
  (∀ (d : Fin 2) (j : Fin 4) (hi lo : BitVec 16) (i : Nat) (f r : CfgRec) (s : State), s.host.halted = false →
    s.afe.length = 2 → (s.afeD d.val).paths.length = 4 → s.pathChan d.val j.val = some (i, f, r) → r.v
    C_CHANNEL_MODE ≠ 7 → (s.path d.val j.val).lastAt + 500 ≤ s.clk.el → s.diePresent d.val = true → ∃ t : State,
    exec (.fastSample d j hi lo) s = .next t ∧ (t.path d.val j.val).lastAt = s.clk.el ∧ (t.path d.val j.val).lo =
    lo.toInt.natAbs ∧ (t.path d.val j.val).n = (if f.v C_FAST_DECIM ≤ (s.path d.val j.val).n + 1 then 0 else
    (s.path d.val j.val).n + 1)) ∧
  (∀ (d : Fin 2) (j : Fin 4) (i : Nat) (f r : CfgRec) (s : State), s.host.halted = false → s.afe.length = 2 →
    (s.afeD d.val).paths.length = 4 → s.pathChan d.val j.val = some (i, f, r) → r.v C_CHANNEL_MODE = 6 → bitAt (f.v
    C_FAST_QRESET_MODE) 0 = true → (s.path d.val j.val).perAt + f.v C_FAST_QRESET_PERIOD * 1000000 ≤ s.clk.el → 20
    * (s.path d.val j.val).lo ≤ 32768 → (s.path d.val j.val).rst = none → ∃ t : State, exec (.periodicChargeReset d
    j) s = .next t ∧ (t.path d.val j.val).perAt = (s.path d.val j.val).perAt + f.v C_FAST_QRESET_PERIOD * 1000000 ∧
    (t.path d.val j.val).rst = some (s.clk.el, s.clk.el + f.v C_FAST_QRESET_NS) ∧ t.rdij AFE_QRESET_ALL j.val d.val
    = min (s.rdij AFE_QRESET_ALL j.val d.val + 1) 65535) ∧
  (∀ (d : Fin 2) (j : Fin 4) (i e : Nat) (f r : CfgRec) (s : State), s.host.halted = false → s.afe.length = 2 →
    (s.afeD d.val).paths.length = 4 → s.pathChan d.val j.val = some (i, f, r) → r.v C_CHANNEL_MODE = 6 → bitAt (f.v
    C_FAST_QRESET_MODE) 1 = true → (s.path d.val j.val).above = some e → e + f.v C_FAST_QRESET_DWELL * 1000 ≤
    s.clk.el → (s.path d.val j.val).rst = none → ∃ t : State, exec (.thresholdChargeReset d j) s = .next t ∧
    (t.path d.val j.val).above = none ∧ (t.path d.val j.val).rst = some (s.clk.el, s.clk.el + f.v C_FAST_QRESET_NS)
    ∧ t.rdij AFE_QRESET_THRESHOLD j.val d.val = min (s.rdij AFE_QRESET_THRESHOLD j.val d.val + 1) 65535) ∧
  (∀ (d : Fin 2) (j : Fin 4) (m : BitVec 4) (s : State), s.host.halted = false → s.afe.length = 2 → (s.afeD
    d.val).paths.length = 4 → s.diePresent d.val = true → bitAt m.toNat j.val = true → (s.path d.val j.val).rst =
    none → ∃ t : State, exec (.qreset d m) s = .next t ∧ (t.path d.val j.val).rst.map (·.1) = some s.clk.el ∧
    t.rdij AFE_QRESET_ALL j.val d.val = min (s.rdij AFE_QRESET_ALL j.val d.val + 1) 65535) ∧
  (∀ (d : Fin 2) (j : Fin 4) (x y : Nat) (s : State), s.host.halted = false → s.afe.length = 2 → (s.afeD
    d.val).paths.length = 4 → (s.path d.val j.val).rst = some (x, y) → y ≤ s.clk.el → ∃ t : State, exec
    (.chargeResetEnd d j) s = .next t ∧ (t.path d.val j.val).rst = none ∧ (t.path d.val j.val).openAt = some
    s.clk.el ∧ t.regs = s.regs) ∧
  (∀ (d : Fin 2) (j : Fin 4) (m : BitVec 4) (i : Nat) (f r : CfgRec) (s : State), s.host.halted = false →
    s.afe.length = 2 → (s.afeD d.val).paths.length = 4 → bitAt m.toNat j.val = true → s.pathChan d.val j.val = some
    (i, f, r) → r.v C_CHANNEL_MODE = 7 → (s.afeD d.val).sine = none → ∃ t : State, exec (.sweep d m) s = .next t ∧
    (t.path d.val j.val).wait = true) ∧
  (∀ (d : Fin 2) (z v : Nat × Nat) (o : Bool) (q : SineRun) (i e : Nat) (f r : CfgRec) (s : State), s.host.halted =
    false → s.afe.length = 2 → (s.afeD d.val).sine = some q → s.pathChan d.val q.path = some (i, f, r) → q.till =
    some e → e ≤ s.clk.el → q.k + 1 < s.cv C_SWEEP_NFREQ (16 * d.val + i) → ∃ t : State, exec (.dwellEnd d z v o) s
    = .next t ∧ (t.afeD d.val).sine.map (·.k) = some (q.k + 1) ∧ (t.afeD d.val).sine.map (·.till) = some none ∧
    t.settling d.val i = true)

/-- A controller period ends with an update; a tachometer edge is kept on the 10 ns grid; a pronk ends in running
  (or in the learning that it belongs to) when the speed is reached and in a failed start when the fan stands
  still; the off time of a stall ends in a new try; a lost tachometer is flagged; on an enabled channel PRONK
  starts a pronk and LEARN the learning, whose hold either gives the next baseline value or fails; clearing a
  latched stall or a lost tachometer starts the channel again. -/
def Obligations.FanCommandsComplete : Prop :=
  (∀ (n : Fin 8) (r : CfgRec) (s : State), s.host.halted = false → s.fans.length = 8 → s.crec C_FAN_CHANNEL n.val =
    some r → (s.fan n.val).updAt + r.v C_FAN_CTRL_MS * 1000000 ≤ s.clk.el → ∃ t : State, exec (.fanUpdate n) s =
    .next t ∧ (t.fan n.val).updAt = s.clk.el) ∧
  (∀ (n : Fin 8) (r : CfgRec) (s : State), s.host.halted = false → s.fans.length = 8 → s.crec C_FAN_CHANNEL n.val =
    some r → ∃ t : State, exec (.tachEdge n) s = .next t ∧ (t.fan n.val).lastEdge = some (s.clk.el / 10 * 10)) ∧
  (∀ (n : Fin 8) (r : CfgRec) (e : Nat) (s : State), s.host.halted = false → s.fans.length = 8 → s.crec
    C_FAN_CHANNEL n.val = some r → (s.fan n.val).pronkEnd = some e → (ofB32 (r.v C_FAN_MIN_RPM)).le (ofB32 (s.rdi
    FAN_SPEED_V n.val)) = true → ∃ t : State, exec (.pronkEnd n) s = .next t ∧ t.rdi FAN_STAT_STATE n.val = (if
    (s.fan n.val).learn.isSome = true then 6 else 2) ∧ (t.fan n.val).pronkEnd = none) ∧
  (∀ (n : Fin 8) (r : CfgRec) (e : Nat) (s : State), s.host.halted = false → s.fans.length = 8 → s.crec
    C_FAN_CHANNEL n.val = some r → (s.fan n.val).pronkEnd = some e → (ofB32 (r.v C_FAN_MIN_RPM)).le (ofB32 (s.rdi
    FAN_SPEED_V n.val)) = false → (ofB32 (s.rdi FAN_SPEED_V n.val)).eqv FV.zero = true → e ≤ s.clk.el → s.rdi
    FAN_STAT_TRIES n.val < r.v C_FAN_RETRIES → ∃ t : State, exec (.pronkEnd n) s = .next t ∧ t.rdi FAN_STAT_STATE
    n.val = 3 ∧ (t.fan n.val).offEnd = some (s.clk.el + r.v C_FAN_OFF_MS * 1000000) ∧ t.rdi FAN_STALLCNT_COUNT
    n.val = min (s.rdi FAN_STALLCNT_COUNT n.val + 1) (2 ^ 32 - 1)) ∧
  (∀ (n : Fin 8) (r : CfgRec) (e : Nat) (s : State), s.host.halted = false → s.fans.length = 8 → s.crec
    C_FAN_CHANNEL n.val = some r → (s.fan n.val).offEnd = some e → s.rdi FAN_STAT_STATE n.val = 3 → e ≤ s.clk.el →
    bitAt (s.rd FAN_CTRL_EN) n.val = true → ∃ t : State, exec (.stallOffEnd n) s = .next t ∧ t.rdi FAN_STAT_STATE
    n.val = (if r.v C_FAN_PRONK_EN = 1 then 1 else (if (s.fan n.val).learn.isSome = true then 6 else 2)) ∧ (t.fan
    n.val).pronkEnd = some (s.clk.el + r.v C_FAN_PRONK_MS * 1000000) ∧ (t.fan n.val).offEnd = none) ∧
  (∀ (n : Fin 8) (r : CfgRec) (e : Nat) (s : State), s.host.halted = false → s.fans.length = 8 → s.crec
    C_FAN_CHANNEL n.val = some r → (s.fan n.val).lastEdge = some e → (s.rdi FAN_STAT_STATE n.val = 2 ∨ s.rdi
    FAN_STAT_STATE n.val = 6) → (ofB32 (r.v C_FAN_MIN_RPM)).le (ofB32 (s.rdi FAN_SPEED_V n.val)) = true → s.rdi
    FAN_DRIVE_DRIVE n.val ≠ 0 → e + max 10000000 (3 * ((s.fan n.val).gaps.getLast?.getD 0)) < s.clk.el → r.v
    C_FAN_CS_CHANNEL = 0xFF → ∃ t : State, exec (.tachLost n) s = .next t ∧ t.rdi FAN_STAT_TACH_LOST n.val = 1 ∧
    t.rdi FAN_STAT_STATE n.val = 5 ∧ bitAt (t.rdi UNIT_EVT_EVT 9) (16 + n.val) = true) ∧
  (∀ (n : Fin 8) (r : CfgRec) (m : BitVec 8) (s : State), s.host.halted = false → s.fans.length = 8 → s.crec
    C_FAN_CHANNEL n.val = some r → bitAt m.toNat n.val = true → bitAt (s.rd FAN_CTRL_EN) n.val = true → s.rdi
    FAN_STAT_STATE n.val ≠ 4 → s.rdi FAN_STAT_STATE n.val ≠ 5 → ∃ t : State, exec (.pronk m) s = .next t ∧ t.rdi
    FAN_STAT_STATE n.val = (if r.v C_FAN_PRONK_EN = 1 then 1 else (if (s.fan n.val).learn.isSome = true then 6 else
    2)) ∧ (t.fan n.val).pronkEnd = some (s.clk.el + r.v C_FAN_PRONK_MS * 1000000)) ∧
  (∀ (n : Fin 8) (r : CfgRec) (m : BitVec 8) (s : State), s.host.halted = false → s.fans.length = 8 → s.crec
    C_FAN_CHANNEL n.val = some r → bitAt m.toNat n.val = true → bitAt (s.rd FAN_CTRL_EN) n.val = true → (s.rdi
    FAN_STAT_STATE n.val = 0 ∨ s.rdi FAN_STAT_STATE n.val = 2) → ∃ t : State, exec (.learn m) s = .next t ∧ t.rdi
    FAN_STAT_STATE n.val = 6 ∧ (t.fan n.val).learn.map (·.k) = some 0 ∧ (t.fan n.val).learn.map (·.till) = some
    (s.clk.el + r.v C_FAN_LEARN_S * 1000000000)) ∧
  (∀ (n : Fin 8) (r : CfgRec) (l : FanLearn) (s : State), s.host.halted = false → s.fans.length = 8 → s.crec
    C_FAN_CHANNEL n.val = some r → (s.fan n.val).learn = some l → l.till ≤ s.clk.el → l.n = 0 → l.vals = [] → ∃ t :
    State, exec (.learnHoldEnd n) s = .next t ∧ (t.fan n.val).learn = none ∧ t.rdi FAN_STAT_STATE n.val = 2 ∧ bitAt
    (t.rdi UNIT_EVT_EVT 9) 26 = true) ∧
  (∀ (n : Fin 8) (r : CfgRec) (l : FanLearn) (s : State), s.host.halted = false → s.fans.length = 8 → s.crec
    C_FAN_CHANNEL n.val = some r → (s.fan n.val).learn = some l → l.till ≤ s.clk.el → l.n ≠ 0 → l.k = 0 → l.vals =
    [] → FV.zero.lt (sDiv (ofB32 l.sum) (FV.ofInt l.n)) = true → ∃ t : State, exec (.learnHoldEnd n) s = .next t ∧
    (t.fan n.val).learn.map (·.k) = some 1 ∧ (t.fan n.val).learn.map (·.vals) = some [toB32 (sDiv (ofB32 l.sum)
    (FV.ofInt l.n))]) ∧
  (∀ (n : Fin 8) (r : CfgRec) (s : State), s.host.halted = false → s.fans.length = 8 → s.crec C_FAN_CHANNEL n.val =
    some r → s.rdi FAN_STAT_STALL_LATCHED n.val = 1 → (ofB32 (s.rdi FAN_SPEED_V n.val)).eqv FV.zero = false → ∃ t :
    State, exec (.stallLatchedClear n) s = .next t ∧ t.rdi FAN_STAT_STALL_LATCHED n.val = 0 ∧ t.rdi FAN_STAT_STATE
    n.val = (if (s.fan n.val).learn.isSome = true then 6 else 2)) ∧
  (∀ (n : Fin 8) (r : CfgRec) (s : State), s.host.halted = false → s.fans.length = 8 → s.crec C_FAN_CHANNEL n.val =
    some r → s.rdi FAN_STAT_STALL_LATCHED n.val = 1 → (ofB32 (s.rdi FAN_SPEED_V n.val)).eqv FV.zero = true → bitAt
    (s.rd FAN_CTRL_EN) n.val = true → ∃ t : State, exec (.stallLatchedClear n) s = .next t ∧ t.rdi
    FAN_STAT_STALL_LATCHED n.val = 0 ∧ (t.fan n.val).pronkEnd = some (s.clk.el + r.v C_FAN_PRONK_MS * 1000000)) ∧
  (∀ (n : Fin 8) (r : CfgRec) (s : State), s.host.halted = false → s.fans.length = 8 → s.crec C_FAN_CHANNEL n.val =
    some r → s.rdi FAN_STAT_TACH_LOST n.val = 1 → (ofB32 (s.rdi FAN_SPEED_V n.val)).eqv FV.zero = false → ∃ t :
    State, exec (.tachLostClear n) s = .next t ∧ t.rdi FAN_STAT_TACH_LOST n.val = 0 ∧ t.rdi FAN_STAT_STATE n.val =
    (if (s.fan n.val).learn.isSome = true then 6 else 2))

/-- A trained link sends one outbound frame each 1,000 TCLK cycles with the next count and RESUME once; a field die
  applies a valid frame and starts its validity again on an invalid one; the die sends its samples back; a valid
  inbound frame ends LOST and shows SAFE, and an invalid one is counted. -/
def Obligations.ChainFrameCommandsComplete : Prop :=
  (∀ (n : Fin 2) (s : State), s.host.halted = false → s.links.length = 2 → s.linkUp n.val = true → (s.link
    n.val).lastOut + 1000 ≤ s.clk.el → ∃ t : State, exec (.outboundFrame n) s = .next t ∧ (t.link n.val).lastOut =
    s.clk.el ∧ (t.link n.val).count = ((s.link n.val).count + 1) % 2 ^ 32 ∧ (t.link n.val).resumeNext = false ∧
    (t.link n.val).down.map (·.count) = (s.link n.val).down.map (·.count) ++ [(s.link n.val).count] ∧ (t.link
    n.val).down.map (·.resume) = (s.link n.val).down.map (·.resume) ++ [(s.link n.val).resumeNext]) ∧
  (∀ (n : Fin 2) (f : OutFrame) (l : List OutFrame) (a c : Bool) (s : State), s.links.length = 2 → s.dies.length =
    2 → (s.link n.val).down = f :: l → (frameTest (s.die n.val).ref a c f.count).1 = true → ∃ t : State, exec
    (.fieldDieFrameReceive n a c) s = .next t ∧ (t.link n.val).down = l ∧ (t.die n.val).ref = some f.count ∧ (t.die
    n.val).echo = f.count ∧ (t.die n.val).lastFrame = s.clk.el ∧ (t.die n.val).dio = f.dio ∧ (t.die n.val).aout =
    f.aout) ∧
  (∀ (n : Fin 2) (f : OutFrame) (l : List OutFrame) (a c : Bool) (s : State), s.links.length = 2 → s.dies.length =
    2 → (s.link n.val).down = f :: l → (frameTest (s.die n.val).ref a c f.count).1 = false → ∃ t : State, exec
    (.fieldDieFrameReceive n a c) s = .next t ∧ (t.link n.val).down = l ∧ (t.die n.val).validSince = none ∧ (t.die
    n.val).dio = (s.die n.val).dio ∧ (t.die n.val).lastFrame = (s.die n.val).lastFrame ∧ t.regs = s.regs) ∧
  (∀ (n : Fin 2) (s : State), s.links.length = 2 → s.dies.length = 2 → s.linkUp n.val = true → (s.die
    n.val).lastSend + 1000 ≤ s.clk.el → ∃ t : State, exec (.inboundFrameSend n) s = .next t ∧ (t.link n.val).up =
    (s.link n.val).up ++ [⟨(s.die n.val).echo, s.fieldCount, (s.die n.val).safe, (s.die n.val).samples⟩] ∧ (t.die
    n.val).samples = [] ∧ (t.die n.val).lastSend = s.clk.el) ∧
  (∀ (n : Fin 2) (f : InFrame) (l : List InFrame) (a c : Bool) (s : State), s.host.halted = false → s.links.length
    = 2 → (s.link n.val).up = f :: l → (frameTest (s.link n.val).ref a c f.echo).1 = true → ∃ t : State, exec
    (.inboundFrame n a c) s = .next t ∧ (t.link n.val).up = l ∧ (t.link n.val).lastValid = s.clk.el ∧ t.rdi
    CHN_STAT_LOST n.val = 0 ∧ t.rdi CHN_STAT_SAFE n.val = b2n f.safe) ∧
  (∀ (n : Fin 2) (f : InFrame) (l : List InFrame) (s : State), s.host.halted = false → s.links.length = 2 → (s.link
    n.val).up = f :: l → ∃ t : State, exec (.inboundFrame n true false) s = .next t ∧ (t.link n.val).up = l ∧
    (t.link n.val).validSince = none ∧ t.rdi CHN_ERR_CRC n.val = min (s.rdi CHN_ERR_CRC n.val + 1) 65535) ∧
  (∀ (n : Fin 2) (f : InFrame) (l : List InFrame) (s : State), s.host.halted = false → s.links.length = 2 → (s.link
    n.val).up = f :: l → (frameTest (s.link n.val).ref true true f.echo).1 = false → ∃ t : State, exec
    (.inboundFrame n true true) s = .next t ∧ (t.link n.val).up = l ∧ (t.link n.val).validSince = none ∧ t.rdi
    CHN_ERR_SEQ n.val = min (s.rdi CHN_ERR_SEQ n.val + 1) 65535 ∧ (t.link n.val).ref = some f.echo)

/-- A link with no valid frame for 3 µs is lost and shown as SAFE; a die with no valid frame for its time-out
  enters safe state holding its outputs; RESUME, by the host or by itself, goes with the next frame; a chain reset
  puts dies in safe state and their links in training; a trained link has its frame count loaded; the field clock
  takes the enforced step. -/
def Obligations.ChainStateCommandsComplete : Prop :=
  (∀ (n : Fin 2) (s : State), s.host.halted = false → s.links.length = 2 → s.diePresent n.val = true → s.rdi
    CHN_STAT_LOST n.val = 0 → (s.link n.val).lastValid + 3000 ≤ s.clk.el → ∃ t : State, exec (.linkLost n) s =
    .next t ∧ t.rdi CHN_STAT_LOST n.val = 1 ∧ t.rdi CHN_STAT_SAFE n.val = 1 ∧ (t.link n.val).validSince = none ∧
    bitAt (t.rdi UNIT_EVT_EVT 25) n.val = true) ∧
  (∀ (n : Fin 2) (s : State), s.dies.length = 2 → s.diePresent n.val = true → (s.die n.val).safe = false → (s.die
    n.val).lastFrame + (s.die n.val).timeoutMs * 1000000 ≤ s.clk.el → ∃ t : State, exec (.silenceTimeout n) s =
    .next t ∧ (t.die n.val).safe = true ∧ (t.die n.val).safeAt = s.clk.el ∧ (t.die n.val).held = (s.die n.val).dio
    ∧ (t.die n.val).validSince = none) ∧
  (∀ (n : Fin 2) (s : State), s.host.halted = false → s.links.length = 2 → s.diePresent n.val = true → ∃ t : State,
    exec (.resume n) s = .next t ∧ (t.link n.val).resumeNext = true ∧ t.regs = s.regs) ∧
  (∀ (n : Fin 2) (s : State), s.host.halted = false → s.links.length = 2 → s.autoDue n.val = true → ∃ t : State,
    exec (.autoResume n) s = .next t ∧ (t.link n.val).resumeNext = true ∧ t.regs = s.regs) ∧
  (∀ (n : Fin 2) (m : BitVec 2) (s : State), s.host.halted = false → s.links.length = 2 → s.dies.length = 2 →
    s.diePresent n.val = true → bitAt m.toNat n.val = true → ∃ t : State, exec (.chainReset m) s = .next t ∧
    (t.link n.val).training = true ∧ t.rdi CHN_STAT_TRAINED n.val = 0 ∧ (t.die n.val).safe = true) ∧
  (∀ (n : Fin 2) (s : State), s.host.halted = false → s.links.length = 2 → s.diePresent n.val = true → (s.link
    n.val).training = true → ∃ t : State, exec (.linkTrainingComplete n) s = .next t ∧ (t.link n.val).training =
    false ∧ t.rdi CHN_STAT_TRAINED n.val = 1 ∧ (t.link n.val).count = s.clk.now / 1000 % 2 ^ 32 ∧ (t.link
    n.val).safeCmd = true) ∧
  (∀ (s : State), s.host.halted = false → s.rd CLK_STAT_FSTEP ≠ s.rd THM_STAT_ENFORCED → ∃ t : State, exec
    .fclkStep s = .next t ∧ t.rd CLK_STAT_FSTEP = s.rd THM_STAT_ENFORCED ∧ t.rd CLK_STAT_FBUSY = 0)

/-- A sample of a present sensor sets its raw temperature and ends its staleness; a hold that ended lowers the
  group's level by one; a floor that ended is dropped; at the end of its grace, or on ACCEPT, a requested level is
  enforced; failures are cleared by writing 1. -/
def Obligations.ThermalCommandsComplete : Prop :=
  (∀ (k : Fin 32) (raw : BitVec 16) (b : Bool) (s : State), s.host.halted = false → s.sensPresent k.val = true →
    s.groupStale (sensGroup k.val) = false → ∃ t : State, exec (.sensorSample k raw b) s = .next t ∧ t.rdi
    THM_TEMP_RAW k.val = ucode 16 (satS 16 (sint 16 raw.toNat + sint 16 (s.cv C_SENSOR_OFFSET k.val))) ∧ bitAt
    (t.rd THM_STALE_STALE) k.val = false) ∧
  (∀ (g : Fin 4) (e : Nat) (s : State), s.host.halted = false → s.rdi THM_GRP_LEVEL g.val ≠ 0 → s.groupStale g.val
    = false → listAt (listAt s.thm.below g.val []) (s.rdi THM_GRP_LEVEL g.val - 1) none = some e → e + s.cv1
    C_POLICY_HOLD_S * 1000000000 ≤ s.clk.el → ∃ t : State, exec (.holdExpiry g) s = .next t ∧ t.rdi THM_GRP_LEVEL
    g.val = s.rdi THM_GRP_LEVEL g.val - 1) ∧
  (∀ (g : Fin 4) (e : Nat) (s : State), s.host.halted = false → listAt s.thm.floorEnd g.val none = some e → e ≤
    s.clk.el → listAt s.thm.floorHold g.val false = false → ∃ t : State, exec (.floorExpiry g) s = .next t ∧ t.rdi
    THM_GRP_FLOOR g.val = 0 ∧ listAt t.thm.floorEnd g.val none = none) ∧
  (∀ (s : State), s.host.halted = false → s.rd THM_STAT_ENFORCED < min s.graceDone (s.rd THM_STAT_REQUESTED) → ∃ t
    : State, exec .graceEnd s = .next t ∧ t.rd THM_STAT_ENFORCED = min s.graceDone (s.rd THM_STAT_REQUESTED) ∧
    bitAt (t.rdi UNIT_EVT_EVT 8) 2 = true) ∧
  (∀ (s : State), s.host.halted = false → ∃ t : State, exec .accept s = .next t ∧ t.rd THM_STAT_ENFORCED = s.rd
    THM_STAT_REQUESTED ∧ t.rd THM_STAT_GRACE = 0) ∧
  (∀ (v : Word) (s : State), s.host.halted = false → ∃ t : State, exec (.sensfailClear v) s = .next t ∧ t.rd
    THM_SENSFAIL_FAILED = s.rd THM_SENSFAIL_FAILED &&& (0xFFFFFFFF ^^^ v.toNat))

/-- A command that none of R102's causes refuses takes the next sequence number. LOAD of an image that parses is
  staged with BUSY, AMEND ends with result 1 or 2, CHECK with 4, PROGRAM with 5 or 6, BOOT with 5 and VERIFY with 5
  when the slot parses and with 6 when it does not; a rejected host image ends LOAD, AMEND and CHECK with result 3.
  An undefined operation is counted as a command error. -/
def Obligations.LoaderCommandsComplete : Prop :=
  (∀ (k : BitVec 16) (s : State), s.host.halted = false → s.platCause (platWord k 1) = 0 → ∃ t : State, exec (.load
    k) s = .next t ∧ t.rd PLAT_SEQ_LAST = (s.rd PLAT_SEQ_LAST + 1) % 65536 ∧ (s.platAccept.2.parseHost.1.isRight =
    true → t.rd PLAT_STAT_BUSY = 1 ∧ t.loader.staged.isSome = true) ∧ (s.platAccept.2.parseHost.1.isRight = false →
    t.rd PLAT_STAT_RESULT = 3 ∧ t.rd PLAT_STAT_BUSY = 0 ∧ bitAt (t.rdi UNIT_EVT_EVT 5) 0 = true)) ∧
  (∀ (k : BitVec 16) (s : State), s.host.halted = false → s.platCause (platWord k 2) = 0 → ∃ t : State, exec
    (.amend k) s = .next t ∧ t.rd PLAT_SEQ_LAST = (s.rd PLAT_SEQ_LAST + 1) % 65536 ∧
    (s.platAccept.2.parseHost.1.isRight = true → t.rd PLAT_STAT_RESULT = (if t.rd PLAT_REPORT_COUNT_COUNT = 0 then
    1 else 2) ∧ t.rd PLAT_STAT_BUSY = 0 ∧ bitAt (t.rdi UNIT_EVT_EVT 5) 0 = true) ∧
    (s.platAccept.2.parseHost.1.isRight = false → t.rd PLAT_STAT_RESULT = 3 ∧ t.rd PLAT_STAT_BUSY = 0 ∧ bitAt
    (t.rdi UNIT_EVT_EVT 5) 0 = true)) ∧
  (∀ (k : BitVec 16) (s : State), s.host.halted = false → s.platCause (platWord k 3) = 0 → ∃ t : State, exec
    (.check k) s = .next t ∧ t.rd PLAT_SEQ_LAST = (s.rd PLAT_SEQ_LAST + 1) % 65536 ∧
    (s.platAccept.2.parseHost.1.isRight = true → t.rd PLAT_STAT_RESULT = 4 ∧ t.rd PLAT_STAT_BUSY = 0 ∧ bitAt (t.rdi
    UNIT_EVT_EVT 5) 0 = true) ∧ (s.platAccept.2.parseHost.1.isRight = false → t.rd PLAT_STAT_RESULT = 3 ∧ t.rd
    PLAT_STAT_BUSY = 0 ∧ bitAt (t.rdi UNIT_EVT_EVT 5) 0 = true) ∧ t.loader.staged = s.loader.staged) ∧
  (∀ (k : BitVec 16) (s : State), s.host.halted = false → s.platCause (platWord k 4) = 0 → ∃ t : State, exec
    (.programA k) s = .next t ∧ t.rd PLAT_SEQ_LAST = (s.rd PLAT_SEQ_LAST + 1) % 65536 ∧
    (s.platAccept.2.parseHost.1.isRight = true → t.rd PLAT_STAT_RESULT = 5 ∨ t.rd PLAT_STAT_RESULT = 6) ∧
    (s.platAccept.2.parseHost.1.isRight = false → t.rd PLAT_STAT_RESULT = 6) ∧ t.rd PLAT_STAT_BUSY = 0 ∧ bitAt
    (t.rdi UNIT_EVT_EVT 5) 0 = true) ∧
  (∀ (k : BitVec 16) (s : State), s.host.halted = false → s.platCause (platWord k 5) = 0 → ∃ t : State, exec
    (.programB k) s = .next t ∧ t.rd PLAT_SEQ_LAST = (s.rd PLAT_SEQ_LAST + 1) % 65536 ∧
    (s.platAccept.2.parseHost.1.isRight = true → t.rd PLAT_STAT_RESULT = 5 ∨ t.rd PLAT_STAT_RESULT = 6) ∧
    (s.platAccept.2.parseHost.1.isRight = false → t.rd PLAT_STAT_RESULT = 6) ∧ t.rd PLAT_STAT_BUSY = 0 ∧ bitAt
    (t.rdi UNIT_EVT_EVT 5) 0 = true) ∧
  (∀ (k : BitVec 16) (s : State), s.host.halted = false → s.platCause (platWord k 6) = 0 → ∃ t : State, exec
    (.bootA k) s = .next t ∧ t.rd PLAT_SEQ_LAST = (s.rd PLAT_SEQ_LAST + 1) % 65536 ∧ ((s.platAccept.2.parseSlot
    0).1.isRight = true → t.rd PLAT_STAT_RESULT = 5 ∧ t.rd PLAT_BOOT_SLOT = 0 ∧ t.rd PLAT_BOOT_ODD = 0 ∧ t.rd
    PLAT_BOOT_SPLIT = 0) ∧ ((s.platAccept.2.parseSlot 0).1.isRight = false → t.rd PLAT_STAT_RESULT = 6) ∧ t.rd
    PLAT_STAT_BUSY = 0 ∧ bitAt (t.rdi UNIT_EVT_EVT 5) 0 = true) ∧
  (∀ (k : BitVec 16) (s : State), s.host.halted = false → s.platCause (platWord k 7) = 0 → ∃ t : State, exec
    (.bootB k) s = .next t ∧ t.rd PLAT_SEQ_LAST = (s.rd PLAT_SEQ_LAST + 1) % 65536 ∧ ((s.platAccept.2.parseSlot
    1).1.isRight = true → t.rd PLAT_STAT_RESULT = 5 ∧ t.rd PLAT_BOOT_SLOT = 1 ∧ t.rd PLAT_BOOT_ODD = 0 ∧ t.rd
    PLAT_BOOT_SPLIT = 0) ∧ ((s.platAccept.2.parseSlot 1).1.isRight = false → t.rd PLAT_STAT_RESULT = 6) ∧ t.rd
    PLAT_STAT_BUSY = 0 ∧ bitAt (t.rdi UNIT_EVT_EVT 5) 0 = true) ∧
  (∀ (k : BitVec 16) (s : State), s.host.halted = false → s.platCause (platWord k 8) = 0 → ∃ t : State, exec
    (.verifyA k) s = .next t ∧ t.rd PLAT_SEQ_LAST = (s.rd PLAT_SEQ_LAST + 1) % 65536 ∧ t.rd PLAT_STAT_RESULT = (if
    (s.platAccept.2.parseSlot 0).1.isRight = true then 5 else 6) ∧ t.rd PLAT_BOOT_A_OK = b2n
    (s.platAccept.2.parseSlot 0).1.isRight ∧ t.rd PLAT_STAT_BUSY = 0 ∧ bitAt (t.rdi UNIT_EVT_EVT 5) 0 = true) ∧
  (∀ (k : BitVec 16) (s : State), s.host.halted = false → s.platCause (platWord k 9) = 0 → ∃ t : State, exec
    (.verifyB k) s = .next t ∧ t.rd PLAT_SEQ_LAST = (s.rd PLAT_SEQ_LAST + 1) % 65536 ∧ t.rd PLAT_STAT_RESULT = (if
    (s.platAccept.2.parseSlot 1).1.isRight = true then 5 else 6) ∧ t.rd PLAT_BOOT_B_OK = b2n
    (s.platAccept.2.parseSlot 1).1.isRight ∧ t.rd PLAT_STAT_BUSY = 0 ∧ bitAt (t.rdi UNIT_EVT_EVT 5) 0 = true) ∧
  (∀ (v : Word) (s : State), s.host.halted = false → (bitsOf v.toNat 3 0 = 0 ∨ 9 < bitsOf v.toNat 3 0) → ∃ t :
    State, exec (.opUndefined v) s = .next t ∧ t.rd PLAT_CMDERR_COUNT = min (s.rd PLAT_CMDERR_COUNT + 1) (2 ^ 24 -
    1) ∧ bitAt (t.rdi UNIT_EVT_EVT 5) 6 = true)

/-- The staged records become the running ones, nothing stays staged and the device runs; the pending amendments of
  a record whose unit is at its boundary are applied together and leave the queue. -/
def Obligations.CommitAndAmendmentCommandsComplete : Prop :=
  (∀ (st : Staged) (s : State), s.host.halted = false → s.loader.staged = some st → ∃ t : State, exec .commit s =
    .next t ∧ t.loader.committed = true ∧ t.loader.staged = none ∧ t.loader.recs = st.recs ∧ t.loader.pendingAmends
    = st.amends ∧ t.rd SYS_STATE_STATE = 6 ∧ t.rd PLAT_STAT_BUSY = 0 ∧ t.rd PLAT_IMAGEID_ID = st.imageId % 2 ^ 32) ∧
  (∀ (a b : Nat) (r : CfgRec) (s : State), s.host.halted = false → s.loader.recs.find? (fun r => r.sect == a &&
    r.index == b) = some r → s.loader.pendingAmends.any (fun q => q.tsect == a && q.tindex == b) = true →
    s.amendHeld r = false → ∃ t : State, exec (.amendmentApply a b) s = .next t ∧ t.loader.pendingAmends =
    s.loader.pendingAmends.filter (fun q => !(q.tsect == a && q.tindex == b)) ∧ t.loader.applied = s.loader.applied
    ++ s.loader.pendingAmends.filter (fun q => q.tsect == a && q.tindex == b))

/-- A power-on reset ends a thermal halt, drops the configuration, makes the SRAM contents indeterminate and keeps
  the fuses, the field dies' own state and the commands that wait; a warm reset by its pin, or 1 µs after the key,
  keeps the SRAM; the key of SYS_RESET starts that time; a reset of a unit sets its SYS_URESET bit until it is
  complete. -/
def Obligations.ResetCommandsComplete : Prop :=
  (∀ (p a : Bool) (e : BootEnv) (s : State), ∃ t : State, exec (.powerOnReset p a e) s = .next t ∧ t.host.halted =
    false ∧ t.loader.committed = false ∧ t.memEpoch = s.memEpoch + 1 ∧ t.fuses = s.fuses ∧ t.dies = s.dies ∧
    t.pending = s.pending) ∧
  (∀ (e : BootEnv) (s : State), ∃ t : State, exec (.warmReset true e) s = .next t ∧ t.host.halted = false ∧
    t.loader.committed = false ∧ t.memEpoch = s.memEpoch ∧ t.fuses = s.fuses ∧ t.dies = s.dies ∧ t.pending =
    s.pending) ∧
  (∀ (e : BootEnv) (w : Nat) (s : State), s.host.halted = false → s.host.resetAt = some w → w ≤ s.clk.el → ∃ t :
    State, exec (.warmReset false e) s = .next t ∧ t.host.resetAt = none ∧ t.loader.committed = false ∧ t.memEpoch
    = s.memEpoch) ∧
  (∀ (v : Word) (s : State), s.host.halted = false → v.toNat % 65536 = 0xD5A7 → s.host.resetAt = none → ∃ t :
    State, exec (.sysReset v) s = .next t ∧ t.host.resetAt = some (s.clk.el + 1000) ∧ t.regs = s.regs) ∧
  (∀ (m : Word) (w : Fin 32) (s : State), s.host.halted = false → bitAt m.toNat w.val = true → s.resettable w.val =
    true → ∃ t : State, exec (.unitReset m) s = .next t ∧ bitAt (t.rd SYS_URESET_UNIT) w.val = true ∧ assocGet
    t.host.uresetAt w.val = some s.clk.el) ∧
  (∀ (w : Fin 32) (s : State), s.host.halted = false → (assocGet s.host.uresetAt w.val).isSome = true → ∃ t :
    State, exec (.unitResetComplete w) s = .next t ∧ bitAt (t.rd SYS_URESET_UNIT) w.val = false ∧ assocGet
    t.host.uresetAt w.val = none)

/-- A received frame that the filters send to ring 0 fills the ring's next free buffer; detection counts good
  frames; a protocol exception starts bus integration, whose end makes the controller error-active or lets it
  detect; the best eligible buffer is loaded, and its end, a lost arbitration and an error frame have their effect
  on buffer and counters; recovery begins on command and ends; EN starts and stops the controller; a detection
  dwell that is over moves to the next timing set. -/
def Obligations.CanBusCommandsComplete : Prop :=
  (∀ (n : Fin 4) (f : CanFrame) (ago x i : Nat) (s : State), s.host.halted = false → s.rdi CAN_STAT_STATE n.val = 1
    → f.fdf = false → (s.canC n.val).mode = 0 → s.rdi CAN_STAT_REC n.val = 0 → s.canFilter n.val f = (x, 0) →
    (s.ringOf n.val 0).1 + (s.ringOf n.val 0).2 ≤ 512 → (List.range (s.ringOf n.val 0).2).find? (fun j =>
    s.bufState ((s.ringOf n.val 0).1 + (s.rdi CAN_RING0_WP n.val - (s.ringOf n.val 0).1 + j) % (s.ringOf n.val
    0).2) == 0) = some i → ∃ t : State, exec (.frameReceived n f ago) s = .next t ∧ t.bufState ((s.ringOf n.val
    0).1 + (s.rdi CAN_RING0_WP n.val - (s.ringOf n.val 0).1 + i) % (s.ringOf n.val 0).2) = 1 ∧ t.bufWord ((s.ringOf
    n.val 0).1 + (s.rdi CAN_RING0_WP n.val - (s.ringOf n.val 0).1 + i) % (s.ringOf n.val 0).2) 0 % 2 ^ 29 = f.id %
    2 ^ 29 ∧ t.rdi CAN_RING0_WP n.val = (s.ringOf n.val 0).1 + (s.rdi CAN_RING0_WP n.val - (s.ringOf n.val 0).1 + i
    + 1) % (s.ringOf n.val 0).2 ∧ bitAt (t.rdi UNIT_EVT_EVT 28) (8 * n.val) = true) ∧
  (∀ (n : Fin 4) (f : CanFrame) (ago : Nat) (s : State), s.host.halted = false → s.rdi CAN_STAT_STATE n.val = 5 →
    f.fdf = false → s.rdi CAN_ABD_GOOD n.val < 7 → ∃ t : State, exec (.frameReceived n f ago) s = .next t ∧ t.rdi
    CAN_ABD_GOOD n.val = s.rdi CAN_ABD_GOOD n.val + 1 ∧ t.rdi CAN_STAT_STATE n.val = 5) ∧
  (∀ (n : Fin 4) (s : State), s.host.halted = false → (s.rdi CAN_STAT_STATE n.val = 1 ∨ s.rdi CAN_STAT_STATE n.val
    = 2) → (s.canC n.val).stop = false → ∃ t : State, exec (.protocolException n) s = .next t ∧ t.rdi
    CAN_STAT_STATE n.val = 6 ∧ t.rdi CAN_ERR_PEX n.val = min (s.rdi CAN_ERR_PEX n.val + 1) 255 ∧ (t.canC n.val).cur
    = none) ∧
  (∀ (n : Fin 4) (s : State), s.host.halted = false → s.rdi CAN_STAT_STATE n.val = 5 → ∃ t : State, exec
    (.protocolException n) s = .next t ∧ t.rdi CAN_ERR_PEX n.val = min (s.rdi CAN_ERR_PEX n.val + 1) 255 ∧ t.rdi
    CAN_STAT_STATE n.val = 5) ∧
  (∀ (n : Fin 4) (s : State), s.host.halted = false → s.rdi CAN_STAT_STATE n.val = 6 → ∃ t : State, exec
    (.busIntegrationComplete n) s = .next t ∧ t.rdi CAN_STAT_STATE n.val = (if (s.canC n.val).mode = 2 then 5 else
    errState (s.rdi CAN_STAT_TEC n.val) (s.rdi CAN_STAT_REC n.val))) ∧
  (∀ (n : Fin 4) (b : Nat) (s : State), s.host.halted = false → s.can.ctl.length = 4 → (s.rdi CAN_STAT_STATE n.val
    = 1 ∨ s.rdi CAN_STAT_STATE n.val = 2) → (s.canC n.val).mode = 0 → (s.canC n.val).cur = none → s.bestBuf n.val =
    some b → ∃ t : State, exec (.frameLoad n) s = .next t ∧ (t.canC n.val).cur = some b ∧ t.bufState b = 2) ∧
  (∀ (n : Fin 4) (ago d b : Nat) (s : State), s.host.halted = false → (s.canC n.val).cur = some b → ∃ t : State,
    exec (.txDone n ago d) s = .next t ∧ (t.canC n.val).cur = none ∧ t.bufState b = 3 ∧ t.rdi CAN_BSTAT_RESULT b =
    1 ∧ t.rdi CAN_STAT_TEC n.val = min (s.rdi CAN_STAT_TEC n.val - 1) 256) ∧
  (∀ (n : Fin 4) (b : Nat) (s : State), s.host.halted = false → (s.canC n.val).cur = some b → (s.canC n.val).cancel
    = false → bitAt (s.bufWord b 1) 6 = false → ∃ t : State, exec (.arbitrationLost n) s = .next t ∧ (t.canC
    n.val).cur = none ∧ t.bufState b = 1) ∧
  (∀ (n : Fin 4) (b : Nat) (s : State), s.host.halted = false → (s.canC n.val).cur = some b → (s.canC n.val).cancel
    = true → ∃ t : State, exec (.arbitrationLost n) s = .next t ∧ (t.canC n.val).cur = none ∧ t.bufState b = 3 ∧
    t.rdi CAN_BSTAT_RESULT b = 2) ∧
  (∀ (n : Fin 4) (c : Fin 7) (x : Nat) (s : State), s.host.halted = false → (s.rdi CAN_STAT_STATE n.val = 1 ∨ s.rdi
    CAN_STAT_STATE n.val = 2) → (s.canC n.val).mode = 0 → s.rdi CAN_STAT_TEC n.val ≤ 255 → ∃ t : State, exec
    (.errorFrame n false c x) s = .next t ∧ t.rdi CAN_ERR_ERRORS n.val = min (s.rdi CAN_ERR_ERRORS n.val + 1) 65535
    ∧ t.rdi CAN_STAT_LEC n.val = c.val ∧ t.rdi CAN_STAT_REC n.val = min (s.rdi CAN_STAT_REC n.val + 1 + 8 * x) 255) ∧
  (∀ (n : Fin 4) (s : State), s.host.halted = false → s.rdi CAN_STAT_STATE n.val = 3 → ∃ t : State, exec (.recover
    n) s = .next t ∧ t.rdi CAN_STAT_STATE n.val = 4) ∧
  (∀ (n : Fin 4) (s : State), s.host.halted = false → s.rdi CAN_STAT_STATE n.val = 4 → ∃ t : State, exec
    (.recovered n) s = .next t ∧ t.rdi CAN_STAT_STATE n.val = 1 ∧ t.rdi CAN_STAT_TEC n.val = 0 ∧ t.rdi CAN_STAT_REC
    n.val = 0 ∧ bitAt (t.rdi UNIT_EVT_EVT 28) (8 * n.val + 6) = true) ∧
  (∀ (n : Fin 4) (v : Word) (s : State), s.host.halted = false → s.can.ctl.length = 4 → s.rdi CAN_CTRL_EN n.val = 0
    → v.toNat % 2 = 1 → (s.canC n.val).stop = false → ∃ t : State, exec (.controllerEnable n v) s = .next t ∧ t.rdi
    CAN_CTRL_EN n.val = 1 ∧ t.rdi CAN_STAT_STATE n.val = 6 ∧ t.rdi CAN_STAT_TEC n.val = 0 ∧ t.rdi CAN_STAT_REC
    n.val = 0 ∧ (t.canC n.val).cur = none) ∧
  (∀ (n : Fin 4) (v : Word) (s : State), s.host.halted = false → s.can.ctl.length = 4 → s.rdi CAN_CTRL_EN n.val = 1
    → v.toNat % 2 = 0 → (s.canC n.val).cur = none → ∃ t : State, exec (.controllerEnable n v) s = .next t ∧ t.rdi
    CAN_CTRL_EN n.val = 0 ∧ t.rdi CAN_STAT_STATE n.val = 0) ∧
  (∀ (n : Fin 4) (s : State), s.host.halted = false → s.can.ctl.length = 4 → s.rdi CAN_STAT_STATE n.val = 5 →
    (s.canC n.val).dwell + s.canV n.val C_CONTROLLER_ABD_DWELL * 1000000 ≤ s.clk.el → ∃ t : State, exec
    (.abdDwellTimeout n) s = .next t ∧ t.rdi CAN_ABD_GOOD n.val = 0 ∧ (t.canC n.val).dwell = s.clk.el)

/-- A transmit request makes an idle transmit buffer pending; a cancel ends a pending one with result 2 and is kept
  for a frame on the bus; a missed latest start ends it with result 4; a periodic request is made once an instant;
  a host read of word 0 locks a full receive buffer, the read of the release word empties a locked one, a cleared
  or timed-out lock leaves it full. -/
def Obligations.CanBufferCommandsComplete : Prop :=
  (∀ (b : Fin 512) (s : State), s.host.halted = false → s.bufRole b.val = 1 → s.bufPending b.val = false → ∃ t :
    State, exec (.canTxgo b) s = .next t ∧ t.bufState b.val = 1 ∧ t.rdi CAN_BSTAT_RESULT b.val = 0) ∧
  (∀ (b : Fin 512) (s : State), s.host.halted = false → s.bufRole b.val = 1 → s.bufState b.val = 1 → ∃ t : State,
    exec (.canTxcancel b) s = .next t ∧ t.bufState b.val = 3 ∧ t.rdi CAN_BSTAT_RESULT b.val = 2) ∧
  (∀ (b : Fin 512) (s : State), s.host.halted = false → s.can.ctl.length = 4 → s.bufRole b.val = 1 → s.bufState
    b.val = 2 → ∃ t : State, exec (.canTxcancel b) s = .next t ∧ (t.canC (s.rdi CAN_BSTAT_CTRL b.val)).cancel =
    true ∧ t.regs = s.regs) ∧
  (∀ (b : Fin 512) (s : State), s.host.halted = false → s.bufRole b.val = 1 → s.bufState b.val = 1 → s.atLate
    (s.rdi CAN_BSTAT_CTRL b.val) b.val = true → ∃ t : State, exec (.atMissed b) s = .next t ∧ t.bufState b.val = 3
    ∧ t.rdi CAN_BSTAT_RESULT b.val = 4) ∧
  (∀ (b : Fin 512) (r : CfgRec) (s : State), s.host.halted = false → s.crec C_TXBUF_BUF b.val = some r → r.v
    C_TXBUF_PERIOD_MS ≠ 0 → r.v C_TXBUF_PHASE_MS * 1000000 ≤ s.clk.now → assocGetD s.can.lastReq b.val 0 <
    (s.clk.now - r.v C_TXBUF_PHASE_MS * 1000000) / (r.v C_TXBUF_PERIOD_MS * 1000000) + 1 → s.bufRole b.val = 1 →
    s.bufPending b.val = false → ∃ t : State, exec (.periodicRequest b) s = .next t ∧ t.bufState b.val = 1 ∧
    assocGetD t.can.lastReq b.val 0 = (s.clk.now - r.v C_TXBUF_PHASE_MS * 1000000) / (r.v C_TXBUF_PERIOD_MS *
    1000000) + 1) ∧
  (∀ (b : Fin 512) (s : State), s.host.halted = false → 2 ≤ s.bufRole b.val → s.bufState b.val = 1 → ∃ t : State,
    exec (.bufferLock b) s = .next t ∧ t.bufState b.val = 2 ∧ assocGet t.can.lockAt b.val = some s.clk.el ∧
    t.out.head? = some (.readData (0x1C4000 + 80 * b.val) (s.bufWord b.val 0))) ∧
  (∀ (b : Fin 512) (s : State), s.host.halted = false → 2 ≤ s.bufRole b.val → s.bufState b.val = 2 → ∃ t : State,
    exec (.bufferRelease b) s = .next t ∧ t.bufState b.val = 0 ∧ assocGet t.can.lockAt b.val = none) ∧
  (∀ (b : Fin 512) (s : State), s.host.halted = false → 2 ≤ s.bufRole b.val → s.bufState b.val = 2 → ∃ t : State,
    exec (.canLockclr b) s = .next t ∧ t.bufState b.val = 1 ∧ assocGet t.can.lockAt b.val = none) ∧
  (∀ (b : Fin 512) (a : Nat) (s : State), s.host.halted = false → assocGet s.can.lockAt b.val = some a → s.canV
    (s.rdi CAN_BSTAT_CTRL b.val) C_CONTROLLER_LOCK_TIMEOUT ≠ 0 → a + s.canV (s.rdi CAN_BSTAT_CTRL b.val)
    C_CONTROLLER_LOCK_TIMEOUT * 1000 < s.clk.el → 2 ≤ s.bufRole b.val → s.bufState b.val = 2 → ∃ t : State, exec
    (.lockTimeout b) s = .next t ∧ t.bufState b.val = 1 ∧ t.rd CAN_LOCKTO_COUNT = min (s.rd CAN_LOCKTO_COUNT + 1)
    (2 ^ 32 - 1) ∧ assocGet t.can.lockAt b.val = none)

/-- A gate cycle that is due starts with the committed list; posted descriptors move the write index; the frame
  that may start is sent, its descriptor done or its handoff frame off the queue; an MDIO transaction is busy until
  its end; the link follows the line and EN; a pause frame holds the transmitter, and a frame with a wrong FCS is
  counted. -/
def Obligations.EthernetCommandsComplete : Prop :=
  (∀ (m : Fin 2) (e : Nat) (s : State), s.host.halted = false → s.eth.length = 2 → s.gateCycle m.val = some e → ∃ t
    : State, exec (.gateControlInterval m) s = .next t ∧ (t.mac m.val).gOn = true ∧ (t.mac m.val).gStart = e ∧
    (t.mac m.val).gList = s.gateList m.val ∧ (t.mac m.val).gIdx = 0) ∧
  (∀ (m : Fin 2) (s : State), s.host.halted = false → s.eth.length = 2 → s.gateCycle m.val = none → (s.mac
    m.val).gOn = true → (s.mac m.val).gTill ≤ s.clk.el → (s.mac m.val).gIdx + 1 < (s.mac m.val).gList.length → ∃ t
    : State, exec (.gateControlInterval m) s = .next t ∧ (t.mac m.val).gIdx = (s.mac m.val).gIdx + 1 ∧ (t.mac
    m.val).gList = (s.mac m.val).gList) ∧
  (∀ (m : Fin 2) (v : Word) (s : State), s.host.halted = false → s.absentAddr (ETH_TXWR_INDEX.addr m.val 0) = false
    → ∃ t : State, exec (.transmitPost m v) s = .next t ∧ t.rdi ETH_TXWR_INDEX m.val = v.toNat % 4096 % max 1 (s.cv
    C_MAC_TX_COUNT m.val)) ∧
  (∀ (m : Fin 2) (h : HFrame) (s : State), s.host.halted = false → s.eth.length = 2 → s.macUp m.val = true → (s.mac
    m.val).freeAt ≤ s.clk.el → (s.mac m.val).pauseTill ≤ s.clk.el → (List.range 8).reverse.findSome? (fun q =>
    (s.txHead m.val q).filter (fun x => s.gateFits m.val q (s.frameNs m.val (s.txLen x)))) = some (.inr h) → ∃ t :
    State, exec (.transmitComplete m) s = .next t ∧ t.twn.frames = s.twn.frames.drop 1 ∧ (t.mac m.val).freeAt =
    s.clk.el + s.frameNs m.val (max 60 (s.handBytes h).length) + 12 * s.byteNs m.val) ∧
  (∀ (m : Fin 2) (d : TxDesc) (s : State), s.host.halted = false → s.eth.length = 2 → s.macUp m.val = true → (s.mac
    m.val).freeAt ≤ s.clk.el → (s.mac m.val).pauseTill ≤ s.clk.el → (List.range 8).reverse.findSome? (fun q =>
    (s.txHead m.val q).filter (fun x => s.gateFits m.val q (s.frameNs m.val (s.txLen x)))) = some (.inl d) → ∃ t :
    State, exec (.transmitComplete m) s = .next t ∧ ∀ x ∈ (t.mac m.val).tx, x.idx = d.idx → x.done = true) ∧
  (∀ (v : Word) (s : State), s.host.halted = false → s.rd ETH_MDIO_BUSY = 0 → ∃ t : State, exec (.mdioTransaction
    v) s = .next t ∧ t.rd ETH_MDIO_BUSY = 1 ∧ t.out.head? = some (.mdio (bitAt v.toNat 30) (bitsOf v.toNat 29 25)
    (bitsOf v.toNat 24 20) (bitsOf v.toNat 15 0))) ∧
  (∀ (d : BitVec 16) (s : State), s.host.halted = false → s.rd ETH_MDIO_BUSY ≠ 0 → s.rd ETH_MDIO_READ = 1 → ∃ t :
    State, exec (.mdioComplete d) s = .next t ∧ t.rd ETH_MDIO_BUSY = 0 ∧ t.rd ETH_MDIO_DATA = d.toNat) ∧
  (∀ (m : Fin 2) (up : Bool) (sp : Fin 3) (s : State), s.host.halted = false → (m.val = 0 ∨ s.is20 = false) → ∃ t :
    State, exec (.ethLinkChange m up sp) s = .next t ∧ t.rdi ETH_STAT_LINK m.val = b2n (up && s.rdi ETH_CTRL_EN
    m.val == 1)) ∧
  (∀ (m : Fin 2) (f b : List Nat) (ago : Nat) (s : State), s.host.halted = false → s.eth.length = 2 → f.map (fun x
    => x % 256) = b → s.macUp m.val = true → 60 ≤ b.length → b.length ≤ 1518 → beNat (slice b 12 2) = 0x8808 →
    beNat (slice (b.drop 14) 0 2) = 1 → ∃ t : State, exec (.ethFrameReceive m f true ago) s = .next t ∧ (t.mac
    m.val).pauseTill = s.clk.el + beNat (slice (b.drop 14) 2 2) * 64 * s.byteNs m.val ∧ t.regs = s.regs) ∧
  (∀ (m : Fin 2) (f : List Nat) (ago : Nat) (s : State), s.host.halted = false → s.macUp m.val = true → ∃ t :
    State, exec (.ethFrameReceive m f false ago) s = .next t ∧ t.rdi ETH_ERR_FCS m.val = min (s.rdi ETH_ERR_FCS
    m.val + 1) 65535 ∧ bitAt (t.rdi UNIT_EVT_EVT 29) (2 + m.val) = true)

/-- A peer delay request that is due is sent with the next sequence number; a received handoff frame leaves the
  receive queue, counted as an error when no channel imports it; an announce goes out once a second; collected
  entries become a frame when the channel's flush time is over. -/
def Obligations.TownshipCommandsComplete : Prop :=
  (∀ (r : CfgRec) (s : State), s.host.halted = false → s.crec1 C_PTP_MAC = some r → s.macUp (r.v C_PTP_MAC) = true
    → dueAt s.twn.ptp.pdAt (logNs (r.v C_PTP_PDELAY_LOG)) s.clk.el = true → ∃ t : State, exec .syncSend s = .next t
    ∧ t.twn.ptp.pdSeq = (s.twn.ptp.pdSeq + 1) % 65536 ∧ t.twn.ptp.pdAt = some s.clk.el) ∧
  (∀ (f : TwnRx) (l : List TwnRx) (s : State), s.host.halted = false → s.twn.rx = f :: l → ∃ t : State, exec
    .handoffFrame s = .next t ∧ t.twn.rx = l ∧ (s.warmStandby = false → s.crec C_IMPORT_CHANNEL (leAt f.bytes 4 1)
    = none → t.rd TWN_IMPERR_V = min (s.rd TWN_IMPERR_V + 1) (2 ^ 32 - 1))) ∧
  (∀ (s : State), s.host.halted = false → (s.crec1 C_PARCEL_PARCEL).isSome = true → s.cv1 C_PARCEL_ANNOUNCE ≠ 0 →
    s.standby = false → s.twn.annSec ≠ s.sec → s.twn.frames.length < 32 → ∃ t : State, exec .announce s = .next t ∧
    t.twn.annSec = s.sec ∧ t.twn.annSeq = (s.twn.annSeq + 1) % 65536 ∧ t.twn.frames.map (·.ch) = s.twn.frames.map
    (·.ch) ++ [8]) ∧
  (∀ (c : Fin 8) (s : State), s.host.halted = false → s.twn.outs.length = 8 → (s.outCh c.val).ents ≠ [] → (s.outCh
    c.val).since + s.cv C_HANDOFF_OUT_FLUSH_US c.val * 1000 ≤ s.clk.el → s.twn.frames.length < 32 → ∃ t : State,
    exec (.handoffFlush c) s = .next t ∧ (t.outCh c.val).ents = [] ∧ (t.outCh c.val).seq = ((s.outCh c.val).seq +
    1) % 65536 ∧ t.twn.frames.map (·.ch) = s.twn.frames.map (·.ch) ++ [c.val] ∧ t.twn.frames.map (·.n) =
    s.twn.frames.map (·.n) ++ [(s.outCh c.val).ents.length])

/-- A heartbeat goes out in each 2 µs slot; the primary sends its outputs; ALIVE_OUT toggles at each microsecond
  boundary, where an asked switchover makes the primary a standby; missed heartbeats drop the link, and a standby
  whose partner is silent takes over; an edge of ALIVE_IN and a received heartbeat are noted; the role is decided
  after WAIT_MS; a switchover is asked on the primary. -/
def Obligations.PairCommandsComplete : Prop :=
  (∀ (s : State), s.host.halted = false → s.pairOn = true → s.pair.hbSlot ≠ s.clk.el / 2000 → ∃ t : State, exec
    .heartbeat s = .next t ∧ t.pair.hbSlot = s.clk.el / 2000 ∧ t.pair.hbCount = (s.pair.hbCount + 1) % 2 ^ 32 ∧
    t.regs = s.regs) ∧
  (∀ (s : State), s.host.halted = false → s.pairOn = true → s.primary = true → s.pair.outAt + 1000000 ≤ s.clk.el →
    exec .outputMessage s = .next
    ({ s with pair := { s.pair with outLast := s.outputBody, outAt := s.clk.el }, out := .tie (tieMsg 4 1 s.outputBody) :: s.out })) ∧
  (∀ (s : State), s.host.halted = false → s.pairOn = true → s.pair.aliveUs ≠ s.clk.now / 1000 → ∃ t : State, exec
    .aliveOutToggle s = .next t ∧ t.pair.aliveUs = s.clk.now / 1000 ∧ t.pair.switching = false ∧ (s.cv1
    C_PAIRREC_ALIVE_OUT ≠ 0xFF → t.pair.aliveOut = !s.pair.aliveOut) ∧ (s.pair.switching = true → s.primary = true
    → t.rd PAIR_STAT_ROLE = 2)) ∧
  (∀ (s : State), s.host.halted = false → s.pairOn = true → s.pair.lastHb + 6500 ≤ s.clk.el → ∃ t : State, exec
    .primaryLost s = .next t ∧ t.rd PAIR_STAT_LINK = 0 ∧ (s.standby = true → s.aliveSilent = true → t.rd
    PAIR_STAT_ROLE = 1 ∧ t.rd PAIR_TAKEOVERS_V = min (s.rd PAIR_TAKEOVERS_V + 1) (2 ^ 32 - 1))) ∧
  (∀ (s : State), s.host.halted = false → s.pairOn = true → s.cv1 C_PAIRREC_ALIVE_IN ≠ 0xFF → ∃ t : State, exec
    .aliveInEdge s = .next t ∧ t.pair.lastAlive = some s.clk.el) ∧
  (∀ (e : Nat) (s : State), s.host.halted = false → s.pair.listenFrom = some e → s.pairOn = true → s.running = true
    → e + s.cv1 C_PAIRREC_WAIT_MS * 1000000 ≤ s.clk.el → ∃ t : State, exec .roleDecision s = .next t ∧
    t.pair.listenFrom = none ∧ (s.pair.heardPrimary = true → t.rd PAIR_STAT_ROLE = 2) ∧ (s.pair.heardPrimary =
    false → s.side = 0 → t.rd PAIR_STAT_ROLE = 1)) ∧
  (∀ (s : State), s.host.halted = false → s.pairOn = true → s.primary = true → s.rd PAIR_STAT_LINK = 1 → exec
    .switchover s = .next ({ s with pair := { s.pair with switching := true } })) ∧
  (∀ (l m : List Nat) (lat : BitVec 16) (s : State), s.host.halted = false → s.pairOn = true → l.map (fun x => x %
    256) = m → 8 ≤ m.length → leAt m 2 2 = m.length - 8 → leAt m 4 4 = crc32c (m.take 4 ++ [0, 0, 0, 0] ++ m.drop
    8) → leAt m 0 1 = 1 → ∃ t : State, exec (.tieMessage l lat) s = .next t ∧ t.pair.lastHb = s.clk.el) ∧
  (∀ (l m : List Nat) (lat : BitVec 16) (s : State), s.host.halted = false → s.pairOn = true → l.map (fun x => x %
    256) = m → (m.length < 8 ∨ leAt m 2 2 ≠ m.length - 8 ∨ leAt m 4 4 ≠ crc32c (m.take 4 ++ [0, 0, 0, 0] ++ m.drop
    8)) → ∃ t : State, exec (.tieMessage l lat) s = .next t ∧ t.rd PAIR_ERR_V = min (s.rd PAIR_ERR_V + 1) (2 ^ 32 -
    1) ∧ t.pair = s.pair)

/-- For every state whose queue has a command at its front, the step is that command run on the state whose queue
  holds the rest. (The queue is the model's, assumption log 1.) -/
def Obligations.StepRunsFrontCommand : Prop :=
  ∀ (c : Instr) (rest : List Instr) (s : State), s.pending = c :: rest → step s = exec c { s with pending := rest }

/-- With an empty queue a step answers the state one TCLK cycle later: the elapsed time and the real-time counter
  grow by 1 ns, with no rate adjustment device time grows by 1 ns modulo 2^64, and nothing but the clock changes.
  In Thermal Halt device time stands, and the mark that the operating time is counted from moves along, so that the
  operating time stands too. That an idle step passes a cycle is the model's choice (assumption log 1). -/
def Obligations.IdleStepPassesOneClockPeriod : Prop :=
  ∀ s : State, s.pending = [] → ∃ t : State, step s = .next t ∧ ChangesOnly [.clk, .spoor] s t ∧ (s.host.halted =
    false → t.spoor = s.spoor) ∧ (s.host.halted = true → t.spoor =
    { s.spoor with optimeEl := s.spoor.optimeEl + 1 }) ∧ t.clk.el = s.clk.el + 1 ∧ t.clk.rtc = s.clk.rtc + 1 ∧
    (s.host.halted = true → t.clk.now = s.clk.now) ∧ (s.host.halted = false → s.rd TIME_RATE_ADJ = 0 → s.clk.frac <
    2 ^ 32 → s.clk.now + 1 < 2 ^ 64 → t.clk.now = s.clk.now + 1)

/-- After reset the stores are in their canonical form, no command waits and the core is not in Thermal Halt.
  SYS_UNITS reads 0x4000007F (State.reset is that of a DV-9640, the model's choice), the ignored-write count and
  address are 0, every event register, enable and vector is 0, the watchdog is disarmed and HST_LOST is clear,
  SYS_STATE reads self-test and the field dies' status registers read as their tables say. -/
def Obligations.ResetLeavesTheStatedRegisters : Prop :=
  (State.reset.storesWf ∧ State.reset.queueWf ∧ State.reset.host.halted = false) ∧
  (State.reset.reg 0x8 = 0x4000007F ∧ State.reset.rd SYS_ABSENT_WR_COUNT = 0 ∧ State.reset.rd SYS_ABSENT_ADDR_ADDR
    = 0) ∧
  (∀ w : Fin 32, State.reset.rdi UNIT_EVT_EVT w = 0 ∧ State.reset.rdi UNIT_EVT_EN_EN w = 0 ∧ ∀ e : Fin 32,
    State.reset.vector w e = 0) ∧
  (State.reset.rd HST_WD_PERIOD = 0 ∧ State.reset.rd HST_LOST_LOST = 0 ∧ State.reset.rd SYS_STATE_STATE = 2 ∧
    State.reset.rd TIME_RATE_ADJ = 0) ∧
  (∀ d : Fin 2, State.reset.rdi CHN_STAT_AGE d = 255 ∧ State.reset.rdi CHN_STAT_SAFE d = 1 ∧ State.reset.rdi
    CHN_STAT_LOST d = 1)

/-- Writes of HST_KICK, HST_WD, HST_LOST, HST_DMA_POSTn, PWR_LAT_Gnn, SYS_RESET, SYS_URESET, MEM_INIT, MEM_NV_CMD,
  MEM_REPAIR_CMD and of a unit's UNIT_EVT and UNIT_EVT_EN do exactly what the command of that register does, with
  the low 32 bits of the value written. -/
def Obligations.RegisterWriteIsItsCommand : Prop :=
  (∀ (v : Nat) (s : State), exec (.registerWrite (0x30000) 4 v) s = exec (.kick (BitVec.ofNat 32 v)) s) ∧
  (∀ (v : Nat) (s : State), exec (.registerWrite (0x30004) 4 v) s = exec (.watchdogPeriodWrite (BitVec.ofNat 32 v))
    s) ∧
  (∀ (v : Nat) (s : State), exec (.registerWrite (0x30008) 4 v) s = exec (.hostLostClear (BitVec.ofNat 32 v)) s) ∧
  (∀ (n : Fin 8) (v : Nat) (s : State), exec (.registerWrite (0x30100 + 4 * n.val) 4 v) s = exec (.dmaPost n
    (BitVec.ofNat 32 v)) s) ∧
  (∀ (g : Fin 12) (v : Nat) (s : State), exec (.registerWrite (0x40000 + 4 * g.val) 4 v) s = exec (.pwrLatWrite g
    (BitVec.ofNat 32 v)) s) ∧
  (∀ (v : Nat) (s : State), exec (.registerWrite (0x20) 4 v) s = exec (.sysReset (BitVec.ofNat 32 v)) s) ∧
  (∀ (v : Nat) (s : State), exec (.registerWrite (0x24) 4 v) s = exec (.unitReset (BitVec.ofNat 32 v)) s) ∧
  (∀ (v : Nat) (s : State), exec (.registerWrite (0x60004) 4 v) s = exec (.memInit (BitVec.ofNat 32 v)) s) ∧
  (∀ (v : Nat) (s : State), exec (.registerWrite (0x6002C) 4 v) s = exec (.nvCommand (BitVec.ofNat 32 v)) s) ∧
  (∀ (v : Nat) (s : State), exec (.registerWrite (0x60044) 4 v) s = exec (.repair (BitVec.ofNat 32 v)) s) ∧
  (∀ (w : Fin 32) (v : Nat) (s : State), exec (.registerWrite (0x10000 * w.val + 0xF00) 4 v) s = exec (.eventClear
    w (BitVec.ofNat 32 v)) s) ∧
  (∀ (w : Fin 32) (v : Nat) (s : State), exec (.registerWrite (0x10000 * w.val + 0xF04) 4 v) s = exec (.eventEnable
    w (BitVec.ofNat 32 v)) s)

/-- In a register of the map, whose fields lie apart, a write of v leaves in each field: RW and RW-H the written
  bits, W1C the old bits but those written 1, W1S the old bits and those written 1, RO, RC and WO the old bits;
  bits outside every field keep their value; a read clears the RC fields and leaves every other field. Every
  register of the map has its fields apart and inside 32 bits. -/
def Obligations.AccessTypesGovernWrites : Prop :=
  (∀ (a : Nat) (row : RegRow), regRow a = some row → row.apart = true) ∧
  (∀ (row : RegRow) (f : FldRow) (old v : Nat), row.apart = true → f ∈ row.fields → bitsOf (rowWrite row old v)
    f.hi f.lo =
    (match f.acc with | .rw | .rwh => bitsOf v f.hi f.lo | .w1c => bitsOf old f.hi f.lo - (bitsOf old f.hi f.lo &&& bitsOf v f.hi f.lo) | .w1s => bitsOf old f.hi f.lo ||| bitsOf v f.hi f.lo | .ro | .rc | .wo => bitsOf old f.hi f.lo)) ∧
  (∀ (row : RegRow) (old v k : Nat), row.apart = true → (∀ f ∈ row.fields, k < f.lo ∨ f.hi < k) → bitAt (rowWrite
    row old v) k = bitAt old k) ∧
  (∀ (a : Nat) (row : RegRow) (f : FldRow) (s : State), regRow a = some row → f ∈ row.fields → bitsOf ((s.readClear
    a).reg a) f.hi f.lo = if f.acc = .rc then 0 else bitsOf (s.reg a) f.hi f.lo)

/-- Whatever the command, its operands and the state, exec answers a next state, and the queue of waiting commands
  is the one it was given. (The queue is the model's, assumption log 1.) -/
def Obligations.EveryCommandCompletesAndLeavesTheQueue : Prop :=
  ∀ (c : Instr) (s : State), ∃ t : State, exec c s = .next t ∧ t.pending = s.pending

/-- On a state in Thermal Halt, every command but those of what stays powered (the field dies' own commands and the
  two resets: Instr.alwaysOn) answers that very state. -/
def Obligations.HaltedCoreDoesNothing : Prop :=
  ∀ (c : Instr) (s : State), s.host.halted = true → c.alwaysOn = false → exec c s = .next s

/-- For every state in Thermal Halt, if a step answers a state that is not in Thermal Halt, then the command at the
  front of the queue was a power-on reset, or a warm reset by RSTn; in every other case the halt stays, the PCIe
  link state, the memory, the committed configuration and device time stay as they were. -/
def Obligations.ThermalHaltEndsOnlyByReset : Prop :=
  ∀ s : State, s.host.halted = true → ∃ t : State, step s = .next t ∧ ((t.host.halted = true ∧ t.mem = s.mem ∧
    t.loader = s.loader ∧ t.clk.now = s.clk.now ∧ t.host.pcieUp = s.host.pcieUp) ∨ (∃ (supv aon : Bool) (env :
    BootEnv) (rest : List Instr), s.pending = .powerOnReset supv aon env :: rest) ∨ (∃ (env : BootEnv) (rest : List
    Instr), s.pending = .warmReset true env :: rest))

/-- For every state whose stores are in their canonical form and whose waiting commands are well-formed, a step
  answers a next state of which the same holds. With it equal memories are equal data, whatever ran before. -/
def Obligations.EveryStepKeepsTheStoresCanonical : Prop :=
  ∀ s : State, s.storesWf → s.queueWf → ∃ t : State, step s = .next t ∧ t.storesWf ∧ t.queueWf

/-- A 32-bit register write, a 32-bit or 64-bit write of the absent GNSS memory, an event command and each word of
  an HSPI burst whose target is absent is ignored: the count saturates at 0xFFFFFFFF one higher per access or word,
  SYS_ABSENT_ADDR holds the byte address of the access (of a burst its last word), and nothing else changes, but
  for the status that HSPI keeps of its last write. A read of SYS_ABSENT_WR returns the count and clears it. -/
def Obligations.AbsentWritesAreIgnoredAndCounted : Prop :=
  (∀ (a v : Nat) (s : State), s.host.halted = false → a % 4 = 0 → a < 0x400000 → s.absentAddr a = true → ∃ t :
    State, exec (.registerWrite a 4 v) s = .next t ∧ ChangesOnly [.regs, .win 0] s t ∧ t.rd SYS_ABSENT_WR_COUNT =
    min (s.rd SYS_ABSENT_WR_COUNT + 1) 0xFFFFFFFF ∧ t.rd SYS_ABSENT_ADDR_ADDR = a ∧ ∀ b, b ≠ 0xC → b ≠ 0x10 → t.reg
    b = s.reg b) ∧
  (∀ (a n v : Nat) (s : State), s.host.halted = false → (n = 4 ∨ n = 8) → a % n = 0 → 0x600000 ≤ a → a < 0x700000 →
    s.fuses.variant = 0x20 → ∃ t : State, exec (.memoryWrite a n v) s = .next t ∧ ChangesOnly [.regs, .win 0] s t ∧
    t.rd SYS_ABSENT_WR_COUNT = min (s.rd SYS_ABSENT_WR_COUNT + 1) 0xFFFFFFFF ∧ t.rd SYS_ABSENT_ADDR_ADDR = a ∧ ∀ b,
    b ≠ 0xC → b ≠ 0x10 → t.reg b = s.reg b) ∧
  (∀ (a : Word) (l : List Word) (s : State), s.host.halted = false → l ≠ [] → s.spiCheck a.toNat l.length = 0x5A →
    (∀ k < l.length, s.absentAddr (a.toNat + 4 * k) = true) → ∃ t : State, exec (.writeWords a l false) s = .next t
    ∧ ChangesOnly [.regs, .win 0, .hostLastWrite] s t ∧ t.rd SYS_ABSENT_WR_COUNT = min (s.rd SYS_ABSENT_WR_COUNT +
    l.length) 0xFFFFFFFF ∧ t.rd SYS_ABSENT_ADDR_ADDR = a.toNat + 4 * (l.length - 1) ∧ ∀ b, b ≠ 0xC → b ≠ 0x10 →
    t.reg b = s.reg b) ∧
  (∀ s : State, s.host.halted = false → ∃ t : State, exec (.readClear 0xC 4) s = .next t ∧ t.out = .readData 0xC
    (s.rd SYS_ABSENT_WR_COUNT) :: s.out ∧ t.rd SYS_ABSENT_WR_COUNT = 0)

/-- An event that occurs sets its EVT bit and no other. When the bit rises and is enabled, one message goes out on
  its vector, or the masked vector's pending bit is set; when the bit was set already, or is not enabled, none. A
  write of the enables holds the value written and sends a message for an enable that rises while its event is
  pending, and none when no such enable rises. Clearing events sends nothing. Unmasking a vector sends the one
  message held and clears its pending bit. SYS_EVT_SUM has bit n exactly while present window n has a pending
  enabled event. -/
def Obligations.MessagesFollowRisingEvents : Prop :=
  (∀ (w e : Fin 32) (s : State), s.host.halted = false → s.winPresent w.val = true → ∀ k : Fin 32, bitAt ((s.raise
    w e).rdi UNIT_EVT_EVT w) k = (decide (k = e) || bitAt (s.rdi UNIT_EVT_EVT w) k)) ∧
  (∀ (w e : Fin 32) (s : State), s.host.halted = false → s.winPresent w.val = true → bitAt (s.rdi UNIT_EVT_EVT w) e
    = false → bitAt (s.rdi UNIT_EVT_EN_EN w) e = true → (s.raise w e).out = (s.msix (s.vector w e)).out ∧ (s.raise
    w e).host = (s.msix (s.vector w e)).host) ∧
  (∀ (w e : Fin 32) (s : State), (bitAt (s.rdi UNIT_EVT_EVT w) e = true ∨ bitAt (s.rdi UNIT_EVT_EN_EN w) e = false)
    → (s.raise w e).out = s.out ∧ (s.raise w e).host = s.host) ∧
  (∀ (v : Fin 64) (s : State), (bitAt s.host.msixMask v = true → (s.msix v).out = s.out ∧ ∀ k : Fin 64, bitAt
    (s.msix v).host.msixPba k = (decide (k = v) || bitAt s.host.msixPba k)) ∧ (bitAt s.host.msixMask v = false →
    (s.msix v).host = s.host ∧ ∃ a d : Nat, (s.msix v).out = .msix v a d :: s.out)) ∧
  (∀ (w : Fin 32) (v : Word) (s : State), s.host.halted = false → s.winPresent w.val = true → (∀ e : Fin 32, bitAt
    v.toNat e = true → bitAt (s.rdi UNIT_EVT_EN_EN w) e = true ∨ bitAt (s.rdi UNIT_EVT_EVT w) e = false) → ∃ t :
    State, exec (.eventEnable w v) s = .next t ∧ t.rdi UNIT_EVT_EN_EN w = v.toNat ∧ t.out = s.out ∧ t.host =
    s.host) ∧
  (∀ (w e : Fin 32) (v : Word) (s : State), s.host.halted = false → s.winPresent w.val = true → bitAt v.toNat e =
    true → bitAt (s.rdi UNIT_EVT_EN_EN w) e = false → bitAt (s.rdi UNIT_EVT_EVT w) e = true → (∀ k : Fin 32, k ≠ e
    → bitAt v.toNat k = true → bitAt (s.rdi UNIT_EVT_EN_EN w) k = true ∨ bitAt (s.rdi UNIT_EVT_EVT w) k = false) →
    ∃ t : State, exec (.eventEnable w v) s = .next t ∧ t.rdi UNIT_EVT_EN_EN w = v.toNat ∧ t.out = (s.msix (s.vector
    w e)).out ∧ t.host = (s.msix (s.vector w e)).host) ∧
  (∀ (w : Fin 32) (m : Word) (s : State), s.host.halted = false → s.winPresent w.val = true → ∃ t : State, exec
    (.eventClear w m) s = .next t ∧ t.out = s.out ∧ t.host = s.host ∧ ∀ k : Fin 32, bitAt (t.rdi UNIT_EVT_EVT w) k
    = (bitAt (s.rdi UNIT_EVT_EVT w) k && !bitAt m.toNat k)) ∧
  (∀ (v : Fin 64) (a : BitVec 64) (d : Word) (s : State), s.host.halted = false → ∃ t : State, exec (.vectorUnmask
    v a d) s = .next t ∧ bitAt t.host.msixMask v = false ∧ bitAt t.host.msixPba v = false ∧ t.out = (if bitAt
    s.host.msixPba v then [.msix v.val a.toNat d.toNat] else []) ++ s.out) ∧
  (∀ (n : Fin 32) (s : State), bitAt s.evtSum n = (s.winPresent n && (s.rdi UNIT_EVT_EVT n &&& s.rdi UNIT_EVT_EN_EN
    n) != 0))

/-- For a window that the variant lacks: an event that occurs there changes nothing, its bit of SYS_EVT_SUM is 0,
  enabling its events sends no message and holds none, and each of its 32-bit words reads 0xAB5E0000 with no effect
  but the answer. -/
def Obligations.AbsentWindowsStaySilent : Prop :=
  (∀ (w : Fin 32) (e : Nat) (s : State), s.winPresent w = false → s.raise w e = s ∧ bitAt s.evtSum w = false) ∧
  (∀ (w : Fin 32) (v : Word) (s : State), s.winPresent w = false → ∃ t : State, exec (.eventEnable w v) s = .next t
    ∧ t.out = s.out ∧ t.host = s.host) ∧
  (∀ (w : Fin 32) (o : Nat) (s : State), s.host.halted = false → s.winPresent w = false → o % 4 = 0 → o < 0x10000 →
    exec (.readClear (0x10000 * w.val + o) 4) s = .next (s.emit (.readData (0x10000 * w.val + o) 0xAB5E0000)))

/-- For every group that the committed image uses, the chosen state is one that the group allows, its wake time (0,
  1, 50, 5,000 µs for Run, Gated, Retain, Off) is no greater than the tolerance in PWR_LAT, and no deeper allowed
  state has a wake time within the tolerance. A group that is not used is Off, and a tolerance of 0 means Run. -/
def Obligations.PowerStateIsTheDeepestTheToleranceAllows : Prop :=
  (∀ (g : Fin 12) (s : State), s.groupUsed g = true → s.groupState g ≤ s.groupDeepest g ∧ listAt [0, 1, 50, 5000]
    (s.groupState g) 0 ≤ s.rdi PWR_LAT_LAT g ∧ ∀ k ≤ s.groupDeepest g, k ≤ 3 → listAt [0, 1, 50, 5000] k 0 ≤ s.rdi
    PWR_LAT_LAT g → k ≤ s.groupState g) ∧
  (∀ (g : Fin 12) (s : State), s.groupUsed g = false → s.groupState g = 3) ∧
  (∀ (g : Fin 12) (s : State), s.groupUsed g = true → s.rdi PWR_LAT_LAT g = 0 → s.groupState g = 0)

/-- Neither the commands that put a field die in safe state or take it out (silence, chain reset, RESUME, training)
  nor those that enter and leave the host-lost state (watchdog expiry, kick, HOST_LOST_CLEAR) change the stake-out
  engine, the timed pins or the reflex matrix, or a register of their windows. -/
def Obligations.SilenceAndHostLossLeaveTimedPins : Prop :=
  (∀ (d : Fin 2) (s : State), ∃ t : State, exec (.silenceTimeout d) s = .next t ∧ (∀ p ∈ [Part.stk, Part.tpin,
    Part.rfx], p.same s t) ∧ ∀ w ∈ [(10 : Fin 32), 11, 12], (Part.win w).same s t) ∧
  (∀ (m : BitVec 2) (s : State), ∃ t : State, exec (.chainReset m) s = .next t ∧ (∀ p ∈ [Part.stk, Part.tpin,
    Part.rfx], p.same s t) ∧ ∀ w ∈ [(10 : Fin 32), 11, 12], (Part.win w).same s t) ∧
  (∀ (l : Fin 2) (s : State), ∃ t : State, exec (.linkTrainingComplete l) s = .next t ∧ (∀ p ∈ [Part.stk,
    Part.tpin, Part.rfx], p.same s t) ∧ ∀ w ∈ [(10 : Fin 32), 11, 12], (Part.win w).same s t) ∧
  (∀ (l : Fin 2) (s : State), ∃ t : State, exec (.resume l) s = .next t ∧ (∀ p ∈ [Part.stk, Part.tpin, Part.rfx],
    p.same s t) ∧ ∀ w ∈ [(10 : Fin 32), 11, 12], (Part.win w).same s t) ∧
  (∀ (l : Fin 2) (s : State), ∃ t : State, exec (.autoResume l) s = .next t ∧ (∀ p ∈ [Part.stk, Part.tpin,
    Part.rfx], p.same s t) ∧ ∀ w ∈ [(10 : Fin 32), 11, 12], (Part.win w).same s t) ∧
  (∀ (s : State), ∃ t : State, exec .watchdogExpiry s = .next t ∧ (∀ p ∈ [Part.stk, Part.tpin, Part.rfx], p.same s
    t) ∧ ∀ w ∈ [(10 : Fin 32), 11, 12], (Part.win w).same s t) ∧
  (∀ (v : Word) (s : State), ∃ t : State, exec (.kick v) s = .next t ∧ (∀ p ∈ [Part.stk, Part.tpin, Part.rfx],
    p.same s t) ∧ ∀ w ∈ [(10 : Fin 32), 11, 12], (Part.win w).same s t) ∧
  (∀ (v : Word) (s : State), ∃ t : State, exec (.hostLostClear v) s = .next t ∧ (∀ p ∈ [Part.stk, Part.tpin,
    Part.rfx], p.same s t) ∧ ∀ w ∈ [(10 : Fin 32), 11, 12], (Part.win w).same s t)

/-- A write burst that is cut before its last whole word leaves the state as it is. A burst with status 0x5A does
  what its words do one after another, and only the status of the last write beside. Any other status, of a write
  or of a read, increments HST_SPI_ERR and is kept there; memory and every register outside HST stay as they were.
  -/
def Obligations.HspiWritesApplyInOrderOrNotAtAll : Prop :=
  (∀ (a : Word) (l : List Word) (s : State), s.host.halted = false → exec (.writeWords a l true) s = .next s) ∧
  (∀ (a : Word) (l : List Word) (s : State), s.host.halted = false → s.spiCheck a.toNat l.length = 0x5A → ∃ t :
    State, exec (.writeWords a l false) s = .next t ∧ t.host.lastWrite = 0x5A ∧ ChangesOnly [.hostLastWrite]
    ((l.zipIdx).foldl (fun u p => u.wordWrite (a.toNat + 4 * p.2) p.1.toNat) s) t) ∧
  (∀ (a : Word) (l : List Word) (s : State), s.host.halted = false → s.spiCheck a.toNat l.length ≠ 0x5A → ∃ t :
    State, exec (.writeWords a l false) s = .next t ∧ t.rd HST_SPI_ERR_COUNT = min (s.rd HST_SPI_ERR_COUNT + 1)
    0xFFFF ∧ t.rd HST_SPI_ERR_LAST = s.spiCheck a.toNat l.length ∧ t.host.lastWrite = s.spiCheck a.toNat l.length ∧
    ChangesOnly [.regs, .win 3, .evts, .hostMsixPba, .out, .hostLastWrite] s t) ∧
  (∀ (a : Word) (n : Fin 64) (late : Bool) (s : State), s.host.halted = false → ∃ t : State, exec (.readWords a n
    late) s = .next t ∧ (t.host.lastRead ≠ 0x5A → t.rd HST_SPI_ERR_COUNT = min (s.rd HST_SPI_ERR_COUNT + 1) 0xFFFF
    ∧ t.rd HST_SPI_ERR_LAST = t.host.lastRead))

/-- A read of a word with one or two flipped bits returns the stored word, changes no memory and no flipped bit,
  increments MEM_CE of the region, saturating, and enters the region's leaky bucket: its level rises by 1, or
  returns to 0 when it was full. A host read answers that word. A scrub read of such a word leaves it without
  flipped bits, the data unchanged. -/
def Obligations.CorrectableReadsAreCorrectedNotWrittenBack : Prop :=
  (∀ (a r : Nat) (s : State), regionOf a = some r → s.usable r = true → 0 < s.memFlips a → s.memFlips a ≤ 2 → ∃ t :
    State, s.memRead a = (some (s.memWord a), t) ∧ t.mem = s.mem ∧ t.memErr = s.memErr ∧ t.rdi MEM_CE_COUNT r = min
    (s.rdi MEM_CE_COUNT r + 1) 0xFFFFFFFF ∧ t.rdi MEM_LEVEL_LEVEL r = if s.rdi MEM_LEVEL_LEVEL r = s.rdi
    MEM_BUCKET_SIZE r then 0 else (s.rdi MEM_LEVEL_LEVEL r + 1) % 65536) ∧
  (∀ (a r : Nat) (s : State), s.host.halted = false → a % 8 = 0 → regionOf a = some r → s.absentAddr a = false →
    s.usable r = true → 0 < s.memFlips a → s.memFlips a ≤ 2 → ∃ t : State, exec (.demandRead a 8) s = .next t ∧
    t.out.head? = some (.readData a (s.memWord a)) ∧ t.mem = s.mem ∧ t.memErr = s.memErr) ∧
  (∀ (r : Fin 7) (a : Nat) (s : State), s.host.halted = false → r ≠ 6 → s.rdi MEM_SCRUB_EN r = 1 → s.marked r =
    true → s.usable r = true → (r = 4 → s.is20 = false) → listAt s.memu.lastScrub r 0 + s.scrubNs r ≤ s.clk.el →
    s.rdi MEM_POS_WORD r < regionWords r → a = (regionSpan r).1 + 8 * s.rdi MEM_POS_WORD r → 0 < s.memFlips a →
    s.memFlips a ≤ 2 → ∃ t : State, exec (.scrubRead r) s = .next t ∧ t.memFlips a = 0 ∧ t.memWord a = s.memWord a)

/-- When the Frame Start at the head of an enabled transit's input is taken, its edge-time queue keeps its newest
  TRG_LAG entries, all of them when it holds no more, and TRN_TRG.SLIP rises by the number discarded, saturating. A
  write of 1 to TRN_CTRLn.RESYNC, and the command RESYNC, empty the queue. -/
def Obligations.FrameStartTrimsTheEdgeQueue : Prop :=
  (∀ (n : Fin 8) (rest : List PixItem) (s : State), s.host.halted = false → s.pix.trn.length = 8 → (s.trn n).inq =
    .frameStart :: rest → s.trnOn n = true → ∃ t : State, exec (.frameStart n) s = .next t ∧ (t.trn n).edges =
    (s.trn n).edges.drop ((s.trn n).edges.length - s.cv C_STREAM_TRG_LAG n) ∧ t.rdi TRN_TRG_SLIP n = min (s.rdi
    TRN_TRG_SLIP n + ((s.trn n).edges.length - s.cv C_STREAM_TRG_LAG n)) 0xFFF) ∧
  (∀ (n : Fin 8) (v : Word) (s : State), s.host.halted = false → s.winPresent 15 = true → s.pix.trn.length = 8 →
    bitAt v.toNat 31 = true → ∃ t : State, exec (.transitEnWrite n v) s = .next t ∧ (t.trn n).edges = []) ∧
  (∀ (n : Fin 8) (s : State), s.host.halted = false → s.winPresent 15 = true → s.pix.trn.length = 8 → ∃ t : State,
    exec (.resync n) s = .next t ∧ (t.trn n).edges = [])

/-- No command changes the factory fuses. Only the end of a repair burn changes the field repair rows, only the
  datum servo, a time step, a tie message and the two resets move the clock, only a commit and the two resets
  change whether an image is committed and which, only a sensor sample and the two resets change whether the core
  is halted, and only the two resets start memory and its flipped bits anew. -/
def Obligations.ProtectedStateChangesOnlyByItsCommands : Prop :=
  (∀ (c : Instr) (s : State), ∃ t : State, exec c s = .next t ∧ (Part.fusesFixed).same s t) ∧
  (∀ (c : Instr) (s : State), ∃ t : State, exec c s = .next t ∧ (t.fuses.fieldRows = s.fuses.fieldRows ∨ ∃ good :
    Bool, c = .repairdone good)) ∧
  (∀ (c : Instr) (s : State), ∃ t : State, exec c s = .next t ∧ (t.clk = s.clk ∨ c = .servoUpdate ∨ c = .step ∨ (∃
    (m : List Nat) (lat : BitVec 16), c = .tieMessage m lat) ∨ (∃ (supv aon : Bool) (env : BootEnv), c =
    .powerOnReset supv aon env) ∨ ∃ (pin : Bool) (env : BootEnv), c = .warmReset pin env)) ∧
  (∀ (c : Instr) (s : State), ∃ t : State, exec c s = .next t ∧ ((t.loader.committed = s.loader.committed ∧
    t.loader.imageRecs = s.loader.imageRecs) ∨ c = .commit ∨ (∃ (supv aon : Bool) (env : BootEnv), c =
    .powerOnReset supv aon env) ∨ ∃ (pin : Bool) (env : BootEnv), c = .warmReset pin env)) ∧
  (∀ (c : Instr) (s : State), ∃ t : State, exec c s = .next t ∧ (t.host.halted = s.host.halted ∨ (∃ (n : Fin 32)
    (raw : BitVec 16) (bad : Bool), c = .sensorSample n raw bad) ∨ (∃ (supv aon : Bool) (env : BootEnv), c =
    .powerOnReset supv aon env) ∨ ∃ (pin : Bool) (env : BootEnv), c = .warmReset pin env)) ∧
  (∀ (c : Instr) (s : State), ∃ t : State, exec c s = .next t ∧ (t.memEpoch = s.memEpoch ∨ (∃ (supv aon : Bool)
    (env : BootEnv), c = .powerOnReset supv aon env) ∨ ∃ (pin : Bool) (env : BootEnv), c = .warmReset pin env))

/-- A host write of a memory region changes no byte outside the 64-bit word that holds its address; a 32-bit write
  of a word that is not uncorrectable changes no byte outside its own four. The end of an NV word changes no byte
  outside the word in progress. A scrub read changes no data byte at all. -/
def Obligations.MemoryStoresStayInTheirWord : Prop :=
  (∀ (a n v : Nat) (s : State), ∃ t : State, exec (.memoryWrite a n v) s = .next t ∧ ∀ b, (b < a / 8 * 8 ∨ a / 8 *
    8 + 8 ≤ b) → t.memByte b = s.memByte b) ∧
  (∀ (a v : Nat) (s : State), s.memFlips a ≤ 2 → ∃ t : State, exec (.memoryWrite a 4 v) s = .next t ∧ ∀ b, (b < a ∨
    a + 4 ≤ b) → t.memByte b = s.memByte b) ∧
  (∀ s : State, ∃ t : State, exec .nvWordComplete s = .next t ∧ ∀ b, (∀ q : NvReq, s.memu.nvCur = some q → b <
    q.addr ∨ q.addr + 8 ≤ b) → t.memByte b = s.memByte b) ∧
  (∀ (r : Fin 7) (s : State), ∃ t : State, exec (.scrubRead r) s = .next t ∧ ∀ b, t.memByte b = s.memByte b)

/-- For each of 37 commands: it answers a next state on every state, and from the one to the other nothing changes
  but the parts of the state that its clause lists: the fields of State it works on, and of the register file only
  the windows listed and, where evts is listed, event groups. In particular every byte of memory, every flipped
  bit, every register of another window, every other unit's state, the fuses, the clock and the queue stay, unless
  listed. -/
def Obligations.HostPowerAndMemoryCommandsFrame : Prop :=
  (∀ (addr : Nat) (size : Nat) (value : Nat) (s : State), ∃ t : State, exec (.memoryWrite addr size value) s =
    .next t ∧ ChangesOnly [.regs, .mem, .memErr, .hostMsixPba, .out, .win 0, .win 6, .win 12, .evts] s t) ∧
  (∀ (addr : Nat) (size : Nat) (s : State), ∃ t : State, exec (.demandRead addr size) s = .next t ∧ ChangesOnly
    [.regs, .hostMsixPba, .out, .win 6, .evts] s t) ∧
  (∀ (window : Fin 32) (mask : Word) (s : State), ∃ t : State, exec (.eventClear window mask) s = .next t ∧
    ChangesOnly [.regs, .win 0, .evts] s t) ∧
  (∀ (window : Fin 32) (value : Word) (s : State), ∃ t : State, exec (.eventEnable window value) s = .next t ∧
    ChangesOnly [.regs, .hostMsixPba, .out, .win 0, .evts] s t) ∧
  (∀ (vec : Fin 64) (addr : BitVec 64) (data : Word) (s : State), ∃ t : State, exec (.vectorUnmask vec addr data) s
    = .next t ∧ ChangesOnly [.hostMsixTable, .hostMsixMask, .hostMsixPba, .out] s t) ∧
  (∀ (s : State), ∃ t : State, exec .readLastStatus s = .next t ∧ ChangesOnly [.out] s t) ∧
  (∀ (s : State), ∃ t : State, exec .noOperation s = .next t ∧ ChangesOnly [] s t) ∧
  (∀ (command : BitVec 8) (s : State), ∃ t : State, exec (.unknownCommand command) s = .next t ∧ ChangesOnly
    [.regs, .hostMsixPba, .out, .win 3, .evts] s t) ∧
  (∀ (cause : Fin 3) (up : Bool) (s : State), ∃ t : State, exec (.pcieLinkReset cause up) s = .next t ∧ ChangesOnly
    [.regs, .hostMsixTable, .hostMsixMask, .hostMsixPba, .hostPcieUp, .hostDma, .out, .win 3, .evts] s t) ∧
  (∀ (ch : Fin 8) (value : Word) (s : State), ∃ t : State, exec (.dmaPost ch value) s = .next t ∧ ChangesOnly
    [.regs, .hostMsixPba, .hostDma, .out, .win 3, .evts] s t) ∧
  (∀ (ch : Fin 8) (data : List Nat) (moved : Option Nat) (s : State), ∃ t : State, exec (.descriptorComplete ch
    data moved) s = .next t ∧ ChangesOnly [.regs, .mem, .memErr, .hostMsixPba, .hostDma, .gns, .pix, .out, .win 0,
    .win 3, .win 6, .win 7, .win 12, .win 15, .win 19, .evts] s t) ∧
  (∀ (value : Word) (s : State), ∃ t : State, exec (.kick value) s = .next t ∧ ChangesOnly [.regs, .hostWdStart,
    .win 3] s t) ∧
  (∀ (value : Word) (s : State), ∃ t : State, exec (.watchdogPeriodWrite value) s = .next t ∧ ChangesOnly [.regs,
    .hostWdStart, .win 3] s t) ∧
  (∀ (s : State), ∃ t : State, exec .watchdogExpiry s = .next t ∧ ChangesOnly [.regs, .hostMsixPba, .hostWdStart,
    .fio, .out, .win 3, .win 9, .evts] s t) ∧
  (∀ (value : Word) (s : State), ∃ t : State, exec (.hostLostClear value) s = .next t ∧ ChangesOnly [.regs, .win 3,
    .win 9] s t) ∧
  (∀ (group : Fin 12) (value : Word) (s : State), ∃ t : State, exec (.pwrLatWrite group value) s = .next t ∧
    ChangesOnly [.regs, .win 4] s t) ∧
  (∀ (group : Fin 12) (s : State), ∃ t : State, exec (.enterPowerState group) s = .next t ∧ ChangesOnly [.regs,
    .hostMsixPba, .hostDma, .hostAsleep, .gns, .pix, .out, .win 3, .win 14, .win 15, .win 26, .evts] s t) ∧
  (∀ (group : Fin 12) (s : State), ∃ t : State, exec (.groupWake group) s = .next t ∧ ChangesOnly [.hostWake] s t) ∧
  (∀ (group : Fin 12) (s : State), ∃ t : State, exec (.wakeComplete group) s = .next t ∧ ChangesOnly [.regs,
    .hostAsleep, .hostWake, .afe, .win 21, .win 22] s t) ∧
  (∀ (value : Word) (s : State), ∃ t : State, exec (.sysReset value) s = .next t ∧ ChangesOnly [.hostResetAt] s t) ∧
  (∀ (region : Fin 7) (s : State), ∃ t : State, exec (.scrubRead region) s = .next t ∧ ChangesOnly [.regs, .mem,
    .memErr, .hostMsixPba, .memu, .out, .win 6, .evts] s t) ∧
  (∀ (region : Fin 7) (s : State), ∃ t : State, exec (.leak region) s = .next t ∧ ChangesOnly [.regs, .memu, .win
    6] s t) ∧
  (∀ (value : Word) (s : State), ∃ t : State, exec (.memInit value) s = .next t ∧ ChangesOnly [.regs, .win 6] s t) ∧
  (∀ (value : Word) (s : State), ∃ t : State, exec (.nvCommand value) s = .next t ∧ ChangesOnly [.regs, .memu, .win
    6] s t) ∧
  (∀ (s : State), ∃ t : State, exec .nvWordComplete s = .next t ∧ ChangesOnly [.regs, .mem, .memErr, .hostMsixPba,
    .memu, .out, .win 6, .evts] s t) ∧
  (∀ (value : Word) (s : State), ∃ t : State, exec (.repair value) s = .next t ∧ ChangesOnly [.regs, .memu, .win 6]
    s t) ∧
  (∀ (good : Bool) (s : State), ∃ t : State, exec (.repairdone good) s = .next t ∧ ChangesOnly [.regs,
    .fusesFieldRows, .hostMsixPba, .memu, .out, .win 6, .evts] s t) ∧
  (∀ (vddc : Nat) (s : State), ∃ t : State, exec (.seriesSample vddc) s = .next t ∧ ChangesOnly [.regs, .spoor,
    .win 7] s t) ∧
  (∀ (s : State), ∃ t : State, exec .periodicFlush s = .next t ∧ ChangesOnly [.regs, .hostMsixPba, .memu, .spoor,
    .out, .win 7, .evts] s t) ∧
  (∀ (s : State), ∃ t : State, exec .pfail s = .next t ∧ ChangesOnly [.regs, .hostMsixPba, .memu, .spoor, .out,
    .win 7, .evts] s t) ∧
  (∀ (s : State), ∃ t : State, exec .flush s = .next t ∧ ChangesOnly [.regs, .hostMsixPba, .memu, .spoor, .out,
    .win 7, .evts] s t) ∧
  (∀ (s : State), ∃ t : State, exec .flushComplete s = .next t ∧ ChangesOnly [.regs, .mem, .memErr, .hostMsixPba,
    .spoor, .out, .win 6, .win 7, .evts] s t) ∧
  (∀ (s : State), ∃ t : State, exec .dump s = .next t ∧ ChangesOnly [.regs, .hostMsixPba, .hostDma, .out, .win 3,
    .win 6, .win 7, .evts] s t) ∧
  (∀ (key : BitVec 16) (s : State), ∃ t : State, exec (.clear key) s = .next t ∧ ChangesOnly [.regs, .spoor, .win
    7] s t) ∧
  (∀ (s : State), ∃ t : State, exec .operatingTimeTick s = .next t ∧ ChangesOnly [.regs, .spoor, .win 7] s t) ∧
  (∀ (s : State), ∃ t : State, exec .windowRead s = .next t ∧ ChangesOnly [.regs, .out, .win 7] s t) ∧
  (∀ (s : State), ∃ t : State, exec .pfailRise s = .next t ∧ ChangesOnly [.spoor] s t)

/-- For each of 36 commands: it answers a next state on every state, and from the one to the other nothing changes
  but the parts of the state that its clause lists: the fields of State it works on, and of the register file only
  the windows listed and, where evts is listed, event groups. In particular every byte of memory, every flipped
  bit, every register of another window, every other unit's state, the fuses, the clock and the queue stay, unless
  listed. -/
def Obligations.TimeGnssAndPixelCommandsFrame : Prop :=
  (∀ (s : State), ∃ t : State, exec .servoUpdate s = .next t ∧ ChangesOnly [.regs, .freeCount, .clk, .hostMsixPba,
    .time, .out, .win 2, .evts] s t) ∧
  (∀ (s : State), ∃ t : State, exec .step s = .next t ∧ ChangesOnly [.regs, .mem, .memErr, .clk, .hostMsixPba,
    .time, .gns, .tally, .stk, .afe, .sig, .msr, .can, .pair, .out, .win 2, .win 6, .win 12, .win 21, .win 22,
    .evts] s t) ∧
  (∀ (hi : Word) (s : State), ∃ t : State, exec (.timeHrefWrite hi) s = .next t ∧ ChangesOnly [.regs, .freeCount,
    .time, .win 2] s t) ∧
  (∀ (s : State), ∃ t : State, exec .hpinEdge s = .next t ∧ ChangesOnly [.time] s t) ∧
  (∀ (gen : Fin 4) (s : State), ∃ t : State, exec (.ppsEdge gen) s = .next t ∧ ChangesOnly [.regs, .hostMsixPba,
    .time, .pix, .tpin, .rfx, .out, .win 10, .win 11, .win 15, .evts] s t) ∧
  (∀ (gen : Fin 4) (s : State), ∃ t : State, exec (.ppsPulseEnd gen) s = .next t ∧ ChangesOnly [.regs,
    .hostMsixPba, .time, .tpin, .rfx, .out, .win 10, .win 11, .evts] s t) ∧
  (∀ (obs : EpochObs) (s : State), ∃ t : State, exec (.trackingEpoch obs) s = .next t ∧ ChangesOnly [.regs, .mem,
    .memErr, .freeCount, .gns, .win 2, .win 6, .win 26] s t) ∧
  (∀ (hyps : List Hypo) (s : State), ∃ t : State, exec (.acquisitionPass hyps) s = .next t ∧ ChangesOnly [.regs,
    .hostMsixPba, .gns, .out, .win 26, .evts] s t) ∧
  (∀ (s : State), ∃ t : State, exec .candidateExpiry s = .next t ∧ ChangesOnly [.regs, .gns, .win 26] s t) ∧
  (∀ (band : Fin 2) (notch : Fin 4) (s : State), ∃ t : State, exec (.notchRelease band notch) s = .next t ∧
    ChangesOnly [.regs, .win 26] s t) ∧
  (∀ (floors : List (Nat × Nat)) (s : State), ∃ t : State, exec (.jammingIndicator floors) s = .next t ∧
    ChangesOnly [.regs, .freeCount, .hostMsixPba, .gns, .out, .win 26, .evts] s t) ∧
  (∀ (obs : FixObs) (s : State), ∃ t : State, exec (.fixEpoch obs) s = .next t ∧ ChangesOnly [.regs, .hostMsixPba,
    .hostDma, .time, .gns, .out, .win 2, .win 3, .win 26, .win 27, .evts] s t) ∧
  (∀ (s : State), ∃ t : State, exec .spoofHoldEnd s = .next t ∧ ChangesOnly [.regs, .time, .win 2] s t) ∧
  (∀ (ch : Fin 96) (s : State), ∃ t : State, exec (.spoofSuspectClear ch) s = .next t ∧ ChangesOnly [.regs, .win
    26] s t) ∧
  (∀ (s : State), ∃ t : State, exec .reacquisitionBarEnd s = .next t ∧ ChangesOnly [.gns] s t) ∧
  (∀ (s : State), ∃ t : State, exec .burstWake s = .next t ∧ ChangesOnly [.regs, .gns, .win 4] s t) ∧
  (∀ (s : State), ∃ t : State, exec .burstStart s = .next t ∧ ChangesOnly [.regs, .gns, .win 26] s t) ∧
  (∀ (s : State), ∃ t : State, exec .burstEnd s = .next t ∧ ChangesOnly [.regs, .gns, .win 4, .win 26] s t) ∧
  (∀ (value : Word) (s : State), ∃ t : State, exec (.snapshotGo value) s = .next t ∧ ChangesOnly [.regs, .win 26] s
    t) ∧
  (∀ (edge : Option (Fin 64)) (s : State), ∃ t : State, exec (.captureStart edge) s = .next t ∧ ChangesOnly [.regs,
    .gns, .win 4] s t) ∧
  (∀ (samples : List (List Nat)) (s : State), ∃ t : State, exec (.captureComplete samples) s = .next t ∧
    ChangesOnly [.regs, .mem, .memErr, .hostMsixPba, .hostDma, .gns, .out, .win 3, .win 6, .win 26, .evts] s t) ∧
  (∀ (s : State), ∃ t : State, exec .fixInjCommit s = .next t ∧ ChangesOnly [.regs, .hostMsixPba, .gns, .out, .win
    27, .evts] s t) ∧
  (∀ (s : State), ∃ t : State, exec .fixOutputElement s = .next t ∧ ChangesOnly [.trav, .gns, .sig, .msr] s t) ∧
  (∀ (s : State), ∃ t : State, exec .injStale s = .next t ∧ ChangesOnly [.regs, .hostMsixPba, .gns, .out, .evts] s
    t) ∧
  (∀ (s : State), ∃ t : State, exec .fixlost s = .next t ∧ ChangesOnly [.regs, .hostMsixPba, .gns, .out, .evts] s
    t) ∧
  (∀ (port : Fin 2) (pkt : CsiPacket) (s : State), ∃ t : State, exec (.packet port pkt) s = .next t ∧ ChangesOnly
    [.regs, .hostMsixPba, .pix, .out, .win 14, .win 15, .evts] s t) ∧
  (∀ (port : Fin 2) (en : Bool) (s : State), ∃ t : State, exec (.portEnable port en) s = .next t ∧ ChangesOnly
    [.regs, .pix, .win 14] s t) ∧
  (∀ (port : Fin 2) (s : State), ∃ t : State, exec (.idle port) s = .next t ∧ ChangesOnly [.regs, .hostMsixPba,
    .pix, .out, .evts] s t) ∧
  (∀ (transit : Fin 8) (s : State), ∃ t : State, exec (.frameStart transit) s = .next t ∧ ChangesOnly [.regs,
    .hostMsixPba, .pix, .out, .win 15, .evts] s t) ∧
  (∀ (transit : Fin 8) (s : State), ∃ t : State, exec (.frameEnd transit) s = .next t ∧ ChangesOnly [.regs,
    .hostMsixPba, .pix, .out, .win 15, .evts] s t) ∧
  (∀ (transit : Fin 8) (s : State), ∃ t : State, exec (.bandLine transit) s = .next t ∧ ChangesOnly [.regs, .mem,
    .memErr, .hostMsixPba, .pix, .out, .win 6, .win 15, .evts] s t) ∧
  (∀ (transit : Fin 8) (s : State), ∃ t : State, exec (.scanLineProcessed transit) s = .next t ∧ ChangesOnly
    [.regs, .hostMsixPba, .hostDma, .pix, .out, .win 3, .win 6, .win 15, .evts] s t) ∧
  (∀ (transit : Fin 8) (s : State), ∃ t : State, exec (.edgeTime transit) s = .next t ∧ ChangesOnly [.regs,
    .hostMsixPba, .pix, .out, .win 15, .evts] s t) ∧
  (∀ (transit : Fin 8) (s : State), ∃ t : State, exec (.resync transit) s = .next t ∧ ChangesOnly [.regs, .pix,
    .win 15] s t) ∧
  (∀ (transit : Fin 8) (value : Word) (s : State), ∃ t : State, exec (.transitEnWrite transit value) s = .next t ∧
    ChangesOnly [.regs, .hostMsixPba, .pix, .out, .win 15, .evts] s t) ∧
  (∀ (transit : Fin 8) (value : Word) (s : State), ∃ t : State, exec (.pixelSnapshotGo transit value) s = .next t ∧
    ChangesOnly [.regs, .pix, .win 15] s t)

/-- For each of 30 commands: it answers a next state on every state, and from the one to the other nothing changes
  but the parts of the state that its clause lists: the fields of State it works on, and of the register file only
  the windows listed and, where evts is listed, event groups. In particular every byte of memory, every flipped
  bit, every register of another window, every other unit's state, the fuses, the clock and the queue stay, unless
  listed. -/
def Obligations.ObjectAndActuationCommandsFrame : Prop :=
  (∀ (s : State), ∃ t : State, exec .intake s = .next t ∧ ChangesOnly [.regs, .mem, .memErr, .hostMsixPba,
    .hostDma, .pix, .tally, .msr, .twn, .out, .win 3, .win 6, .win 13, .win 30, .evts] s t) ∧
  (∀ (slot : Fin 524288) (s : State), ∃ t : State, exec (.pairingWaitEnd slot) s = .next t ∧ ChangesOnly [.regs,
    .mem, .memErr, .hostMsixPba, .hostDma, .tally, .msr, .twn, .out, .win 3, .win 6, .win 13, .win 30, .evts] s t) ∧
  (∀ (group : Fin 16) (s : State), ∃ t : State, exec (.dispatch group) s = .next t ∧ ChangesOnly [.regs, .mem,
    .memErr, .hostMsixPba, .hostDma, .tally, .msr, .out, .win 3, .win 6, .win 13, .win 16, .win 17, .evts] s t) ∧
  (∀ (station : Fin 16) (s : State), ∃ t : State, exec (.featureComplete station) s = .next t ∧ ChangesOnly [.regs,
    .mem, .memErr, .hostMsixPba, .hostDma, .tally, .msr, .twn, .out, .win 3, .win 6, .win 13, .win 16, .win 17,
    .win 30, .evts] s t) ∧
  (∀ (station : Fin 16) (s : State), ∃ t : State, exec (.classifierResult station) s = .next t ∧ ChangesOnly
    [.regs, .mem, .memErr, .hostMsixPba, .hostDma, .tally, .msr, .twn, .out, .win 3, .win 6, .win 13, .win 16, .win
    17, .win 30, .evts] s t) ∧
  (∀ (s : State), ∃ t : State, exec .stakeRequestEntry s = .next t ∧ ChangesOnly [.regs, .mem, .memErr,
    .hostMsixPba, .hostDma, .tally, .out, .win 3, .win 6, .win 13, .evts] s t) ∧
  (∀ (s : State), ∃ t : State, exec .stakeReport s = .next t ∧ ChangesOnly [.regs, .mem, .memErr, .hostMsixPba,
    .hostDma, .tally, .out, .win 3, .win 6, .win 13, .evts] s t) ∧
  (∀ (s : State), ∃ t : State, exec .exportComplete s = .next t ∧ ChangesOnly [.regs, .mem, .memErr, .hostMsixPba,
    .tally, .out, .win 6, .win 13, .evts] s t) ∧
  (∀ (slot : Fin 524288) (s : State), ∃ t : State, exec (.quarantineRelease slot) s = .next t ∧ ChangesOnly [.regs,
    .hostMsixPba, .tally, .out, .win 13, .evts] s t) ∧
  (∀ (station : Fin 16) (s : State), ∃ t : State, exec (.subWindowEnd station) s = .next t ∧ ChangesOnly [.regs,
    .trav, .tally, .sig, .msr, .win 17] s t) ∧
  (∀ (s : State), ∃ t : State, exec .stakeIntake s = .next t ∧ ChangesOnly [.regs, .mem, .memErr, .hostMsixPba,
    .tally, .stk, .pair, .out, .win 6, .win 12, .win 31, .evts] s t) ∧
  (∀ (s : State), ∃ t : State, exec .fetch s = .next t ∧ ChangesOnly [.regs, .hostMsixPba, .tally, .stk, .out, .win
    6, .win 12, .evts] s t) ∧
  (∀ (pin : Fin 64) (s : State), ∃ t : State, exec (.offEdgeCommit pin) s = .next t ∧ ChangesOnly [.stk] s t) ∧
  (∀ (pin : Fin 64) (s : State), ∃ t : State, exec (.timedPinEdge pin) s = .next t ∧ ChangesOnly [.regs,
    .hostMsixPba, .tally, .stk, .tpin, .rfx, .out, .win 10, .win 11, .win 12, .evts] s t) ∧
  (∀ (link : Fin 4) (s : State), ∃ t : State, exec (.valveLinkFrame link) s = .next t ∧ ChangesOnly [.regs,
    .hostMsixPba, .tally, .stk, .out, .win 12, .evts] s t) ∧
  (∀ (link : Fin 4) (bytes : List Nat) (s : State), ∃ t : State, exec (.returnFrame link bytes) s = .next t ∧
    ChangesOnly [.regs, .hostMsixPba, .stk, .out, .win 12, .evts] s t) ∧
  (∀ (link : Fin 4) (s : State), ∃ t : State, exec (.vllost link) s = .next t ∧ ChangesOnly [.regs, .hostMsixPba,
    .out, .win 12, .evts] s t) ∧
  (∀ (template : Fin 16) (s : State), ∃ t : State, exec (.templateSubmit template) s = .next t ∧ ChangesOnly [.stk]
    s t) ∧
  (∀ (s : State), ∃ t : State, exec .stkHGo s = .next t ∧ ChangesOnly [.regs, .stk, .win 12] s t) ∧
  (∀ (s : State), ∃ t : State, exec .engineDisable s = .next t ∧ ChangesOnly [.regs, .hostMsixPba, .tally, .stk,
    .tpin, .rfx, .out, .win 10, .win 11, .win 12, .evts] s t) ∧
  (∀ (link : Fin 4) (en : Bool) (s : State), ∃ t : State, exec (.vlEnableWrite link en) s = .next t ∧ ChangesOnly
    [.regs, .hostMsixPba, .tally, .stk, .tpin, .rfx, .out, .win 10, .win 11, .win 12, .evts] s t) ∧
  (∀ (pin : Fin 64) (level : Bool) (width : Nat) (both : Bool) (s : State), ∃ t : State, exec (.pinInputEdge pin
    level width both) s = .next t ∧ ChangesOnly [.regs, .hostMsixPba, .pix, .tpin, .rfx, .out, .win 10, .win 11,
    .win 15, .evts] s t) ∧
  (∀ (pin : Fin 64) (s : State), ∃ t : State, exec (.gateEnd pin) s = .next t ∧ ChangesOnly [.trav, .tpin, .sig,
    .msr] s t) ∧
  (∀ (pin : Fin 64) (s : State), ∃ t : State, exec (.pwmPulseStart pin) s = .next t ∧ ChangesOnly [.regs,
    .hostMsixPba, .pix, .tpin, .rfx, .out, .win 10, .win 11, .win 15, .evts] s t) ∧
  (∀ (pin : Fin 64) (s : State), ∃ t : State, exec (.pwmPulseEnd pin) s = .next t ∧ ChangesOnly [.regs,
    .hostMsixPba, .tpin, .rfx, .out, .win 10, .win 11, .evts] s t) ∧
  (∀ (s : State), ∃ t : State, exec .timestampQueueRead s = .next t ∧ ChangesOnly [.regs, .tpin, .out, .win 11] s
    t) ∧
  (∀ (pin : Fin 64) (level : Bool) (s : State), ∃ t : State, exec (.reflexInputChange pin level) s = .next t ∧
    ChangesOnly [.regs, .hostMsixPba, .tpin, .rfx, .out, .win 10, .win 11, .evts] s t) ∧
  (∀ (flag : Fin 16) (s : State), ∃ t : State, exec (.fabricFlagChange flag) s = .next t ∧ ChangesOnly [.regs,
    .hostMsixPba, .tpin, .rfx, .out, .win 10, .win 11, .evts] s t) ∧
  (∀ (out : Fin 64) (s : State), ∃ t : State, exec (.stretchEnd out) s = .next t ∧ ChangesOnly [.regs,
    .hostMsixPba, .tpin, .rfx, .out, .win 10, .win 11, .evts] s t) ∧
  (∀ (reg : Fin 2) (mask : Word) (s : State), ∃ t : State, exec (.latchReset reg mask) s = .next t ∧ ChangesOnly
    [.regs, .hostMsixPba, .tpin, .rfx, .out, .win 10, .win 11, .evts] s t)

/-- For each of 42 commands: it answers a next state on every state, and from the one to the other nothing changes
  but the parts of the state that its clause lists: the fields of State it works on, and of the register file only
  the windows listed and, where evts is listed, event groups. In particular every byte of memory, every flipped
  bit, every register of another window, every other unit's state, the fuses, the clock and the queue stay, unless
  listed. -/
def Obligations.SignalFieldAndSensorCommandsFrame : Prop :=
  (∀ (ch : Fin 32) (s : State), ∃ t : State, exec (.channelDue ch) s = .next t ∧ ChangesOnly [.regs, .hostMsixPba,
    .tpin, .rfx, .afe, .out, .win 10, .win 21, .win 22, .evts] s t) ∧
  (∀ (ch : Fin 32) (s : State), ∃ t : State, exec (.settlingExpiry ch) s = .next t ∧ ChangesOnly [.regs,
    .hostMsixPba, .tpin, .rfx, .afe, .out, .win 10, .win 21, .win 22, .evts] s t) ∧
  (∀ (die : Fin 2) (adc : Fin 2) (code : BitVec 24) (aref : Nat) (comply : Bool) (s : State), ∃ t : State, exec
    (.precisionResult die adc code aref comply) s = .next t ∧ ChangesOnly [.regs, .hostMsixPba, .dies, .trav,
    .tpin, .rfx, .afe, .sig, .msr, .out, .win 10, .win 21, .win 22, .evts] s t) ∧
  (∀ (die : Fin 2) (path : Fin 4) (hi : BitVec 16) (lo : BitVec 16) (s : State), ∃ t : State, exec (.fastSample die
    path hi lo) s = .next t ∧ ChangesOnly [.regs, .hostMsixPba, .dies, .afe, .out, .win 21, .win 22, .evts] s t) ∧
  (∀ (die : Fin 2) (path : Fin 4) (s : State), ∃ t : State, exec (.periodicChargeReset die path) s = .next t ∧
    ChangesOnly [.regs, .hostMsixPba, .afe, .out, .win 21, .win 22, .evts] s t) ∧
  (∀ (die : Fin 2) (path : Fin 4) (s : State), ∃ t : State, exec (.thresholdChargeReset die path) s = .next t ∧
    ChangesOnly [.regs, .hostMsixPba, .afe, .out, .win 21, .win 22, .evts] s t) ∧
  (∀ (die : Fin 2) (mask : BitVec 4) (s : State), ∃ t : State, exec (.qreset die mask) s = .next t ∧ ChangesOnly
    [.regs, .hostMsixPba, .afe, .out, .win 21, .win 22, .evts] s t) ∧
  (∀ (die : Fin 2) (path : Fin 4) (s : State), ∃ t : State, exec (.chargeResetEnd die path) s = .next t ∧
    ChangesOnly [.afe] s t) ∧
  (∀ (die : Fin 2) (mask : BitVec 4) (s : State), ∃ t : State, exec (.sweep die mask) s = .next t ∧ ChangesOnly
    [.regs, .afe, .win 21, .win 22] s t) ∧
  (∀ (die : Fin 2) (z : Nat × Nat) (v : Nat × Nat) (ovr : Bool) (s : State), ∃ t : State, exec (.dwellEnd die z v
    ovr) s = .next t ∧ ChangesOnly [.regs, .hostMsixPba, .trav, .afe, .sig, .msr, .out, .win 21, .win 22, .evts] s
    t) ∧
  (∀ (ch : Fin 32) (s : State), ∃ t : State, exec (.cableResetEnd ch) s = .next t ∧ ChangesOnly [.regs,
    .hostMsixPba, .tpin, .rfx, .afe, .out, .win 10, .win 21, .win 22, .evts] s t) ∧
  (∀ (ch : Fin 32) (s : State), ∃ t : State, exec (.stepPulseEnd ch) s = .next t ∧ ChangesOnly [.regs,
    .hostMsixPba, .tpin, .rfx, .afe, .out, .win 10, .win 21, .win 22, .evts] s t) ∧
  (∀ (die : Fin 2) (adc : Fin 2) (res : CalReading) (s : State), ∃ t : State, exec (.calibration die adc res) s =
    .next t ∧ ChangesOnly [.regs, .hostMsixPba, .tpin, .rfx, .afe, .out, .win 10, .win 21, .win 22, .evts] s t) ∧
  (∀ (die : Fin 2) (s : State), ∃ t : State, exec (.cal die) s = .next t ∧ ChangesOnly [.afe] s t) ∧
  (∀ (station : Fin 96) (s : State), ∃ t : State, exec (.portInput station) s = .next t ∧ ChangesOnly [.regs,
    .hostMsixPba, .sig, .out, .win 18, .evts] s t) ∧
  (∀ (station : Fin 96) (s : State), ∃ t : State, exec (.stationVisit station) s = .next t ∧ ChangesOnly [.regs,
    .mem, .memErr, .hostMsixPba, .trav, .tally, .sig, .msr, .out, .win 0, .win 6, .win 18, .evts] s t) ∧
  (∀ (station : Fin 96) (slot : Fin 4) (s : State), ∃ t : State, exec (.rateGate station slot) s = .next t ∧
    ChangesOnly [.regs, .mem, .memErr, .hostMsixPba, .trav, .tally, .sig, .msr, .out, .win 0, .win 6, .win 18,
    .evts] s t) ∧
  (∀ (s : State), ∃ t : State, exec .tickClose s = .next t ∧ ChangesOnly [.regs, .mem, .memErr, .freeCount,
    .hostMsixPba, .hostDma, .trav, .sig, .msr, .out, .win 3, .win 6, .win 19, .evts] s t) ∧
  (∀ (s : State), ∃ t : State, exec .classResultArrival s = .next t ∧ ChangesOnly [.regs, .msr, .win 19] s t) ∧
  (∀ (group : Fin 4) (s : State), ∃ t : State, exec (.lossGroupEmit group) s = .next t ∧ ChangesOnly [.regs, .trav,
    .sig, .msr, .win 19] s t) ∧
  (∀ (s : State), ∃ t : State, exec .close s = .next t ∧ ChangesOnly [.msr] s t) ∧
  (∀ (s : State), ∃ t : State, exec .totClr s = .next t ∧ ChangesOnly [.regs, .win 19] s t) ∧
  (∀ (s : State), ∃ t : State, exec .lossClr s = .next t ∧ ChangesOnly [.regs, .win 19] s t) ∧
  (∀ (loop : Fin 64) (s : State), ∃ t : State, exec (.loopSample loop) s = .next t ∧ ChangesOnly [.regs,
    .hostMsixPba, .trav, .sig, .msr, .loops, .pair, .sinks, .out, .win 20, .win 31, .evts] s t) ∧
  (∀ (ch : Fin 48) (level : Bool) (held : Nat) (s : State), ∃ t : State, exec (.debouncedChange ch level held) s =
    .next t ∧ ChangesOnly [.regs, .dies, .win 23, .win 24] s t) ∧
  (∀ (ch : Fin 48) (s : State), ∃ t : State, exec (.inputRepeat ch) s = .next t ∧ ChangesOnly [.regs, .dies, .win
    23, .win 24] s t) ∧
  (∀ (ch : Fin 48) (current : Nat) (s : State), ∃ t : State, exec (.wireBreak ch current) s = .next t ∧ ChangesOnly
    [.regs, .hostMsixPba, .dies, .out, .win 23, .win 24, .evts] s t) ∧
  (∀ (ch : Fin 48) (s : State), ∃ t : State, exec (.overCurrent ch) s = .next t ∧ ChangesOnly [.regs, .hostMsixPba,
    .dies, .out, .win 23, .win 24, .evts] s t) ∧
  (∀ (ch : Fin 48) (s : State), ∃ t : State, exec (.switchThermalShutdown ch) s = .next t ∧ ChangesOnly [.regs,
    .hostMsixPba, .dies, .out, .win 23, .win 24, .evts] s t) ∧
  (∀ (ch : Fin 48) (s : State), ∃ t : State, exec (.thermalRetry ch) s = .next t ∧ ChangesOnly [.regs, .dies, .win
    23, .win 24] s t) ∧
  (∀ (ch : Fin 48) (current : Nat) (s : State), ∃ t : State, exec (.openLoad ch current) s = .next t ∧ ChangesOnly
    [.regs, .hostMsixPba, .out, .win 23, .win 24, .evts] s t) ∧
  (∀ (ch : Fin 48) (s : State), ∃ t : State, exec (.shortVs ch) s = .next t ∧ ChangesOnly [.regs, .hostMsixPba,
    .dies, .out, .win 23, .win 24, .evts] s t) ∧
  (∀ (bank : Fin 6) (volt : Nat) (s : State), ∃ t : State, exec (.underVoltage bank volt) s = .next t ∧ ChangesOnly
    [.regs, .hostMsixPba, .dies, .out, .win 23, .win 24, .evts] s t) ∧
  (∀ (bank : Fin 6) (volt : Nat) (s : State), ∃ t : State, exec (.bankRestore bank volt) s = .next t ∧ ChangesOnly
    [.regs, .hostMsixPba, .dies, .out, .win 23, .win 24, .evts] s t) ∧
  (∀ (bank : Fin 6) (volt : Nat) (s : State), ∃ t : State, exec (.bankWarn bank volt) s = .next t ∧ ChangesOnly
    [.regs, .hostMsixPba, .out, .win 23, .win 24, .evts] s t) ∧
  (∀ (ch : Fin 48) (s : State), ∃ t : State, exec (.timeProportioningPeriod ch) s = .next t ∧ ChangesOnly [.fio] s
    t) ∧
  (∀ (die : Fin 2) (cause : Fin 6) (value : Word) (s : State), ∃ t : State, exec (.faultClear die cause value) s =
    .next t ∧ ChangesOnly [.regs, .hostMsixPba, .dies, .out, .win 23, .win 24, .evts] s t) ∧
  (∀ (aout : Fin 8) (rb : Nat) (s : State), ∃ t : State, exec (.openWire aout rb) s = .next t ∧ ChangesOnly [.regs,
    .hostMsixPba, .out, .win 23, .win 24, .evts] s t) ∧
  (∀ (aout : Fin 8) (rb : Nat) (s : State), ∃ t : State, exec (.overload aout rb) s = .next t ∧ ChangesOnly [.regs,
    .hostMsixPba, .out, .win 23, .win 24, .evts] s t) ∧
  (∀ (die : Fin 2) (s : State), ∃ t : State, exec (.fieldDieSupplyLoss die) s = .next t ∧ ChangesOnly [.regs,
    .dies, .win 23, .win 24] s t) ∧
  (∀ (ch : Fin 48) (current : Nat) (s : State), ∃ t : State, exec (.wireIntact ch current) s = .next t ∧
    ChangesOnly [.regs, .win 23, .win 24] s t) ∧
  (∀ (die : Fin 2) (good : Bool) (s : State), ∃ t : State, exec (.refOkChange die good) s = .next t ∧ ChangesOnly
    [.regs, .hostMsixPba, .out, .win 21, .win 22, .evts] s t)

/-- For each of 41 commands: it answers a next state on every state, and from the one to the other nothing changes
  but the parts of the state that its clause lists: the fields of State it works on, and of the register file only
  the windows listed and, where evts is listed, event groups. In particular every byte of memory, every flipped
  bit, every register of another window, every other unit's state, the fuses, the clock and the queue stay, unless
  listed. -/
def Obligations.FanChainThermalAndImageCommandsFrame : Prop :=
  (∀ (mask : Word) (s : State), ∃ t : State, exec (.unitReset mask) s = .next t ∧ ChangesOnly [.regs, .mem,
    .memErr, .hostMsixPba, .hostDma, .hostUresetAt, .links, .dies, .fio, .fans, .thm, .loaderRecs, .loaderReport,
    .loaderPendingAmends, .loaderApplied, .gns, .memu, .spoor, .pix, .tally, .stk, .tpin, .rfx, .afe, .sig, .msr,
    .loops, .can, .eth, .twn, .pair, .sinks, .out, .win 0, .win 1, .win 3, .win 5, .win 6, .win 7, .win 8, .win 9,
    .win 10, .win 11, .win 12, .win 13, .win 14, .win 15, .win 16, .win 17, .win 18, .win 19, .win 20, .win 21,
    .win 22, .win 23, .win 24, .win 26, .win 28, .win 29, .win 30, .win 31, .evts] s t) ∧
  (∀ (window : Fin 32) (s : State), ∃ t : State, exec (.unitResetComplete window) s = .next t ∧ ChangesOnly [.regs,
    .hostMsixPba, .hostUresetAt, .tpin, .rfx, .out, .win 0, .win 10, .win 11, .evts] s t) ∧
  (∀ (mask : BitVec 2) (s : State), ∃ t : State, exec (.chainReset mask) s = .next t ∧ ChangesOnly [.regs, .links,
    .dies, .win 9, .win 23, .win 24, .win 25] s t) ∧
  (∀ (link : Fin 2) (s : State), ∃ t : State, exec (.linkTrainingComplete link) s = .next t ∧ ChangesOnly [.regs,
    .links, .dies, .win 25] s t) ∧
  (∀ (link : Fin 2) (s : State), ∃ t : State, exec (.outboundFrame link) s = .next t ∧ ChangesOnly [.regs, .links,
    .fio, .out, .win 23, .win 24] s t) ∧
  (∀ (link : Fin 2) (aligned : Bool) (crcOk : Bool) (s : State), ∃ t : State, exec (.inboundFrame link aligned
    crcOk) s = .next t ∧ ChangesOnly [.regs, .hostMsixPba, .links, .trav, .sig, .msr, .out, .win 25, .evts] s t) ∧
  (∀ (link : Fin 2) (aligned : Bool) (crcOk : Bool) (s : State), ∃ t : State, exec (.fieldDieFrameReceive link
    aligned crcOk) s = .next t ∧ ChangesOnly [.regs, .hostMsixPba, .links, .dies, .tpin, .rfx, .afe, .out, .win 9,
    .win 10, .win 21, .win 22, .win 23, .win 24, .evts] s t) ∧
  (∀ (die : Fin 2) (s : State), ∃ t : State, exec (.inboundFrameSend die) s = .next t ∧ ChangesOnly [.links, .dies,
    .out] s t) ∧
  (∀ (link : Fin 2) (s : State), ∃ t : State, exec (.linkLost link) s = .next t ∧ ChangesOnly [.regs, .hostMsixPba,
    .links, .out, .win 8, .win 25, .evts] s t) ∧
  (∀ (die : Fin 2) (s : State), ∃ t : State, exec (.silenceTimeout die) s = .next t ∧ ChangesOnly [.regs, .dies,
    .win 9, .win 23, .win 24] s t) ∧
  (∀ (link : Fin 2) (s : State), ∃ t : State, exec (.resume link) s = .next t ∧ ChangesOnly [.links] s t) ∧
  (∀ (link : Fin 2) (s : State), ∃ t : State, exec (.autoResume link) s = .next t ∧ ChangesOnly [.links] s t) ∧
  (∀ (s : State), ∃ t : State, exec .fclkStep s = .next t ∧ ChangesOnly [.regs, .out, .win 1] s t) ∧
  (∀ (key : BitVec 16) (s : State), ∃ t : State, exec (.load key) s = .next t ∧ ChangesOnly [.regs, .mem, .memErr,
    .hostMsixPba, .loaderStaged, .loaderReport, .loaderPendingAmends, .out, .win 5, .win 6, .evts] s t) ∧
  (∀ (s : State), ∃ t : State, exec .commit s = .next t ∧ ChangesOnly [.regs, .mem, .memErr, .hostMsixPba,
    .hostDma, .links, .dies, .fio, .fans, .loaderCommitted, .loaderRecs, .loaderImageRecs, .loaderStaged,
    .loaderReport, .loaderPendingAmends, .loaderApplied, .loaderCommitTime, .trav, .gns, .memu, .spoor, .pix,
    .tally, .stk, .tpin, .rfx, .afe, .sig, .msr, .loops, .can, .eth, .twn, .pair, .sinks, .out, .win 0, .win 2,
    .win 3, .win 4, .win 5, .win 6, .win 7, .win 9, .win 10, .win 11, .win 12, .win 13, .win 14, .win 15, .win 16,
    .win 17, .win 18, .win 19, .win 20, .win 21, .win 22, .win 23, .win 24, .win 25, .win 26, .win 28, .win 29,
    .win 30, .win 31, .evts] s t) ∧
  (∀ (key : BitVec 16) (s : State), ∃ t : State, exec (.amend key) s = .next t ∧ ChangesOnly [.regs, .mem, .memErr,
    .hostMsixPba, .loaderStaged, .loaderReport, .loaderPendingAmends, .out, .win 5, .win 6, .evts] s t) ∧
  (∀ (sect : Nat) (index : Nat) (s : State), ∃ t : State, exec (.amendmentApply sect index) s = .next t ∧
    ChangesOnly [.regs, .hostMsixPba, .links, .fans, .loaderRecs, .loaderPendingAmends, .loaderApplied, .gns,
    .spoor, .tally, .stk, .tpin, .rfx, .afe, .sig, .msr, .loops, .can, .twn, .sinks, .out, .win 2, .win 4, .win 5,
    .win 7, .win 9, .win 10, .win 11, .win 12, .win 13, .win 15, .win 17, .win 18, .win 19, .win 20, .win 21, .win
    22, .win 23, .win 24, .win 25, .win 26, .win 28, .win 29, .win 30, .evts] s t) ∧
  (∀ (key : BitVec 16) (s : State), ∃ t : State, exec (.check key) s = .next t ∧ ChangesOnly [.regs, .mem, .memErr,
    .hostMsixPba, .loaderStaged, .loaderReport, .loaderPendingAmends, .out, .win 5, .win 6, .evts] s t) ∧
  (∀ (key : BitVec 16) (s : State), ∃ t : State, exec (.programA key) s = .next t ∧ ChangesOnly [.regs, .mem,
    .memErr, .hostMsixPba, .loaderStaged, .loaderReport, .loaderPendingAmends, .out, .win 5, .win 6, .evts] s t) ∧
  (∀ (key : BitVec 16) (s : State), ∃ t : State, exec (.programB key) s = .next t ∧ ChangesOnly [.regs, .mem,
    .memErr, .hostMsixPba, .loaderStaged, .loaderReport, .loaderPendingAmends, .out, .win 5, .win 6, .evts] s t) ∧
  (∀ (key : BitVec 16) (s : State), ∃ t : State, exec (.bootA key) s = .next t ∧ ChangesOnly [.regs, .mem, .memErr,
    .hostMsixPba, .loaderStaged, .loaderReport, .loaderPendingAmends, .out, .win 5, .win 6, .evts] s t) ∧
  (∀ (key : BitVec 16) (s : State), ∃ t : State, exec (.bootB key) s = .next t ∧ ChangesOnly [.regs, .mem, .memErr,
    .hostMsixPba, .loaderStaged, .loaderReport, .loaderPendingAmends, .out, .win 5, .win 6, .evts] s t) ∧
  (∀ (key : BitVec 16) (s : State), ∃ t : State, exec (.verifyA key) s = .next t ∧ ChangesOnly [.regs, .mem,
    .memErr, .hostMsixPba, .loaderStaged, .loaderReport, .loaderPendingAmends, .out, .win 5, .win 6, .evts] s t) ∧
  (∀ (key : BitVec 16) (s : State), ∃ t : State, exec (.verifyB key) s = .next t ∧ ChangesOnly [.regs, .mem,
    .memErr, .hostMsixPba, .loaderStaged, .loaderReport, .loaderPendingAmends, .out, .win 5, .win 6, .evts] s t) ∧
  (∀ (value : Word) (s : State), ∃ t : State, exec (.opUndefined value) s = .next t ∧ ChangesOnly [.regs, .mem,
    .memErr, .hostMsixPba, .loaderStaged, .loaderReport, .loaderPendingAmends, .out, .win 5, .win 6, .evts] s t) ∧
  (∀ (fan : Fin 8) (s : State), ∃ t : State, exec (.fanUpdate fan) s = .next t ∧ ChangesOnly [.regs, .hostMsixPba,
    .fans, .out, .win 9, .evts] s t) ∧
  (∀ (fan : Fin 8) (s : State), ∃ t : State, exec (.tachEdge fan) s = .next t ∧ ChangesOnly [.regs, .fans, .win 9]
    s t) ∧
  (∀ (fan : Fin 8) (s : State), ∃ t : State, exec (.pronkEnd fan) s = .next t ∧ ChangesOnly [.regs, .hostMsixPba,
    .fans, .out, .win 9, .evts] s t) ∧
  (∀ (fan : Fin 8) (s : State), ∃ t : State, exec (.stallOffEnd fan) s = .next t ∧ ChangesOnly [.regs, .fans, .win
    9] s t) ∧
  (∀ (fan : Fin 8) (s : State), ∃ t : State, exec (.tachLost fan) s = .next t ∧ ChangesOnly [.regs, .hostMsixPba,
    .fans, .out, .win 9, .evts] s t) ∧
  (∀ (mask : BitVec 8) (s : State), ∃ t : State, exec (.pronk mask) s = .next t ∧ ChangesOnly [.regs, .fans, .win
    9] s t) ∧
  (∀ (mask : BitVec 8) (s : State), ∃ t : State, exec (.learn mask) s = .next t ∧ ChangesOnly [.regs, .fans, .win
    9] s t) ∧
  (∀ (fan : Fin 8) (s : State), ∃ t : State, exec (.learnHoldEnd fan) s = .next t ∧ ChangesOnly [.regs,
    .hostMsixPba, .fans, .out, .win 9, .evts] s t) ∧
  (∀ (fan : Fin 8) (s : State), ∃ t : State, exec (.stallLatchedClear fan) s = .next t ∧ ChangesOnly [.regs, .fans,
    .win 9] s t) ∧
  (∀ (fan : Fin 8) (s : State), ∃ t : State, exec (.tachLostClear fan) s = .next t ∧ ChangesOnly [.regs, .fans,
    .win 9] s t) ∧
  (∀ (sensor : Fin 32) (raw : BitVec 16) (bad : Bool) (s : State), ∃ t : State, exec (.sensorSample sensor raw bad)
    s = .next t ∧ ChangesOnly [.regs, .mem, .memErr, .hostMsixPba, .hostPcieUp, .hostHalted, .links, .dies, .thm,
    .loaderStaged, .memu, .spoor, .tpin, .rfx, .out, .win 1, .win 5, .win 6, .win 7, .win 8, .win 9, .win 10, .win
    11, .win 23, .win 24, .evts] s t) ∧
  (∀ (group : Fin 4) (s : State), ∃ t : State, exec (.holdExpiry group) s = .next t ∧ ChangesOnly [.regs,
    .hostMsixPba, .thm, .out, .win 1, .win 8, .evts] s t) ∧
  (∀ (group : Fin 4) (s : State), ∃ t : State, exec (.floorExpiry group) s = .next t ∧ ChangesOnly [.regs,
    .hostMsixPba, .thm, .out, .win 1, .win 8, .evts] s t) ∧
  (∀ (s : State), ∃ t : State, exec .graceEnd s = .next t ∧ ChangesOnly [.regs, .hostMsixPba, .out, .win 1, .win 8,
    .evts] s t) ∧
  (∀ (s : State), ∃ t : State, exec .accept s = .next t ∧ ChangesOnly [.regs, .hostMsixPba, .out, .win 1, .win 8,
    .evts] s t) ∧
  (∀ (value : Word) (s : State), ∃ t : State, exec (.sensfailClear value) s = .next t ∧ ChangesOnly [.regs,
    .hostMsixPba, .thm, .out, .win 1, .win 8, .evts] s t)

/-- For each of 38 commands: it answers a next state on every state, and from the one to the other nothing changes
  but the parts of the state that its clause lists: the fields of State it works on, and of the register file only
  the windows listed and, where evts is listed, event groups. In particular every byte of memory, every flipped
  bit, every register of another window, every other unit's state, the fuses, the clock and the queue stay, unless
  listed. -/
def Obligations.NetworkAndPairCommandsFrame : Prop :=
  (∀ (ctrl : Fin 4) (frame : CanFrame) (ago : Nat) (s : State), ∃ t : State, exec (.frameReceived ctrl frame ago) s
    = .next t ∧ ChangesOnly [.regs, .freeCount, .hostMsixPba, .trav, .sig, .msr, .can, .out, .win 28, .evts] s t) ∧
  (∀ (ctrl : Fin 4) (s : State), ∃ t : State, exec (.protocolException ctrl) s = .next t ∧ ChangesOnly [.regs,
    .hostMsixPba, .can, .out, .win 28, .evts] s t) ∧
  (∀ (ctrl : Fin 4) (s : State), ∃ t : State, exec (.frameLoad ctrl) s = .next t ∧ ChangesOnly [.regs, .can, .out,
    .win 28] s t) ∧
  (∀ (ctrl : Fin 4) (ago : Nat) (delay : Nat) (s : State), ∃ t : State, exec (.txDone ctrl ago delay) s = .next t ∧
    ChangesOnly [.regs, .hostMsixPba, .can, .out, .win 28, .evts] s t) ∧
  (∀ (ctrl : Fin 4) (s : State), ∃ t : State, exec (.arbitrationLost ctrl) s = .next t ∧ ChangesOnly [.regs,
    .hostMsixPba, .can, .out, .win 28, .evts] s t) ∧
  (∀ (ctrl : Fin 4) (tx : Bool) (code : Fin 7) (extra : Nat) (s : State), ∃ t : State, exec (.errorFrame ctrl tx
    code extra) s = .next t ∧ ChangesOnly [.regs, .hostMsixPba, .can, .out, .win 28, .evts] s t) ∧
  (∀ (buf : Fin 512) (s : State), ∃ t : State, exec (.canTxgo buf) s = .next t ∧ ChangesOnly [.regs, .win 28] s t) ∧
  (∀ (buf : Fin 512) (s : State), ∃ t : State, exec (.canTxcancel buf) s = .next t ∧ ChangesOnly [.regs,
    .hostMsixPba, .can, .out, .win 28, .evts] s t) ∧
  (∀ (buf : Fin 512) (s : State), ∃ t : State, exec (.canLockclr buf) s = .next t ∧ ChangesOnly [.regs, .can, .win
    28] s t) ∧
  (∀ (buf : Fin 512) (s : State), ∃ t : State, exec (.bufferLock buf) s = .next t ∧ ChangesOnly [.regs, .can, .out,
    .win 28] s t) ∧
  (∀ (buf : Fin 512) (s : State), ∃ t : State, exec (.bufferRelease buf) s = .next t ∧ ChangesOnly [.regs, .can,
    .out, .win 28] s t) ∧
  (∀ (buf : Fin 512) (s : State), ∃ t : State, exec (.lockTimeout buf) s = .next t ∧ ChangesOnly [.regs, .can, .win
    28] s t) ∧
  (∀ (buf : Fin 512) (s : State), ∃ t : State, exec (.atMissed buf) s = .next t ∧ ChangesOnly [.regs, .hostMsixPba,
    .out, .win 28, .evts] s t) ∧
  (∀ (buf : Fin 512) (s : State), ∃ t : State, exec (.periodicRequest buf) s = .next t ∧ ChangesOnly [.regs, .can,
    .win 28] s t) ∧
  (∀ (ctrl : Fin 4) (s : State), ∃ t : State, exec (.recover ctrl) s = .next t ∧ ChangesOnly [.regs, .win 28] s t) ∧
  (∀ (ctrl : Fin 4) (s : State), ∃ t : State, exec (.recovered ctrl) s = .next t ∧ ChangesOnly [.regs,
    .hostMsixPba, .out, .win 28, .evts] s t) ∧
  (∀ (ctrl : Fin 4) (value : Word) (s : State), ∃ t : State, exec (.controllerEnable ctrl value) s = .next t ∧
    ChangesOnly [.regs, .can, .win 28] s t) ∧
  (∀ (ctrl : Fin 4) (s : State), ∃ t : State, exec (.abdDwellTimeout ctrl) s = .next t ∧ ChangesOnly [.regs,
    .hostMsixPba, .can, .out, .win 28, .evts] s t) ∧
  (∀ (mac : Fin 2) (frame : List Nat) (fcsOk : Bool) (ago : Nat) (s : State), ∃ t : State, exec (.ethFrameReceive
    mac frame fcsOk ago) s = .next t ∧ ChangesOnly [.regs, .mem, .memErr, .freeCount, .hostMsixPba, .time, .eth,
    .twn, .out, .win 6, .win 29, .win 30, .evts] s t) ∧
  (∀ (mac : Fin 2) (value : Word) (s : State), ∃ t : State, exec (.transmitPost mac value) s = .next t ∧
    ChangesOnly [.regs, .hostMsixPba, .eth, .out, .win 0, .win 6, .win 29, .evts] s t) ∧
  (∀ (mac : Fin 2) (s : State), ∃ t : State, exec (.transmitComplete mac) s = .next t ∧ ChangesOnly [.regs, .mem,
    .memErr, .hostMsixPba, .hostDma, .eth, .twn, .out, .win 3, .win 6, .win 29, .win 30, .evts] s t) ∧
  (∀ (value : Word) (s : State), ∃ t : State, exec (.mdioTransaction value) s = .next t ∧ ChangesOnly [.regs, .out,
    .win 29] s t) ∧
  (∀ (data : BitVec 16) (s : State), ∃ t : State, exec (.mdioComplete data) s = .next t ∧ ChangesOnly [.regs, .win
    29] s t) ∧
  (∀ (s : State), ∃ t : State, exec .syncSend s = .next t ∧ ChangesOnly [.regs, .hostMsixPba, .eth, .twn, .out,
    .win 30, .evts] s t) ∧
  (∀ (mac : Fin 2) (s : State), ∃ t : State, exec (.gateControlInterval mac) s = .next t ∧ ChangesOnly [.eth] s t) ∧
  (∀ (s : State), ∃ t : State, exec .announce s = .next t ∧ ChangesOnly [.twn] s t) ∧
  (∀ (channel : Fin 8) (s : State), ∃ t : State, exec (.handoffFlush channel) s = .next t ∧ ChangesOnly [.twn] s t) ∧
  (∀ (s : State), ∃ t : State, exec .handoffFrame s = .next t ∧ ChangesOnly [.regs, .hostMsixPba, .hostDma, .tally,
    .twn, .out, .win 3, .win 30, .evts] s t) ∧
  (∀ (s : State), ∃ t : State, exec .heartbeat s = .next t ∧ ChangesOnly [.freeCount, .pair, .out] s t) ∧
  (∀ (message : List Nat) (lat : BitVec 16) (s : State), ∃ t : State, exec (.tieMessage message lat) s = .next t ∧
    ChangesOnly [.regs, .mem, .memErr, .clk, .hostMsixPba, .fio, .time, .gns, .tally, .stk, .tpin, .rfx, .afe,
    .sig, .msr, .loops, .can, .pair, .out, .win 2, .win 6, .win 10, .win 11, .win 12, .win 20, .win 21, .win 22,
    .win 23, .win 24, .win 31, .evts] s t) ∧
  (∀ (s : State), ∃ t : State, exec .outputMessage s = .next t ∧ ChangesOnly [.pair, .out] s t) ∧
  (∀ (s : State), ∃ t : State, exec .aliveOutToggle s = .next t ∧ ChangesOnly [.regs, .hostMsixPba, .tpin, .rfx,
    .pair, .out, .win 10, .win 11, .win 12, .win 31, .evts] s t) ∧
  (∀ (s : State), ∃ t : State, exec .roleDecision s = .next t ∧ ChangesOnly [.regs, .hostMsixPba, .tpin, .rfx,
    .pair, .out, .win 10, .win 11, .win 12, .win 31, .evts] s t) ∧
  (∀ (s : State), ∃ t : State, exec .primaryLost s = .next t ∧ ChangesOnly [.regs, .mem, .memErr, .hostMsixPba,
    .time, .tally, .stk, .tpin, .rfx, .pair, .out, .win 2, .win 6, .win 10, .win 11, .win 12, .win 31, .evts] s t) ∧
  (∀ (s : State), ∃ t : State, exec .switchover s = .next t ∧ ChangesOnly [.pair] s t) ∧
  (∀ (mac : Fin 2) (up : Bool) (speed : Fin 3) (s : State), ∃ t : State, exec (.ethLinkChange mac up speed) s =
    .next t ∧ ChangesOnly [.regs, .hostMsixPba, .out, .win 29, .evts] s t) ∧
  (∀ (ctrl : Fin 4) (s : State), ∃ t : State, exec (.busIntegrationComplete ctrl) s = .next t ∧ ChangesOnly [.regs,
    .can, .win 28] s t) ∧
  (∀ (s : State), ∃ t : State, exec .aliveInEdge s = .next t ∧ ChangesOnly [.regs, .mem, .memErr, .hostMsixPba,
    .time, .tally, .stk, .tpin, .rfx, .pair, .out, .win 2, .win 6, .win 10, .win 11, .win 12, .win 31, .evts] s t)

/-- For each of 29 commands: it answers a next state on every state, and every register outside the event groups
  keeps its value but those whose addresses the clause names, each at the instance that the operands give (a
  channel, a controller, a link, a region). The event groups are what the window frames and the event statements
  speak of. -/
def Obligations.RegisterFramesOfSimpleCommands : Prop :=
  (∀ (bank : Fin 6) (volt : Nat) (s : State), ∃ t : State, exec (.bankWarn bank volt) s = .next t ∧ ∀ b : Nat,
    isEvt b = false → b ≠ FIO_VBANK_VOLT.addr (bank.val % 3) (bank.val / 3) → b ≠ FIO_VBANK_WARN.addr (bank.val %
    3) (bank.val / 3) → t.reg b = s.reg b) ∧
  (∀ (ch : Fin 48) (current : Nat) (s : State), ∃ t : State, exec (.wireIntact ch current) s = .next t ∧ ∀ b : Nat,
    isEvt b = false → b ≠ FIO_CH_CURRENT.addr (ch.val % 24) (ch.val / 24) → b ≠ FIO_CH_WB.addr (ch.val % 24)
    (ch.val / 24) → t.reg b = s.reg b) ∧
  (∀ (die : Fin 2) (good : Bool) (s : State), ∃ t : State, exec (.refOkChange die good) s = .next t ∧ ∀ b : Nat,
    isEvt b = false → b ≠ AFE_STAT_REF_OK.addr 0 die → t.reg b = s.reg b) ∧
  (∀ (link : Fin 2) (s : State), ∃ t : State, exec (.linkTrainingComplete link) s = .next t ∧ ∀ b : Nat, isEvt b =
    false → b ≠ CHN_STAT_TRAINED.addr link 0 → t.reg b = s.reg b) ∧
  (∀ (s : State), ∃ t : State, exec .fclkStep s = .next t ∧ ∀ b : Nat, isEvt b = false → b ≠ CLK_STAT_FSTEP.addr 0
    0 → t.reg b = s.reg b) ∧
  (∀ (ctrl : Fin 4) (s : State), ∃ t : State, exec (.recover ctrl) s = .next t ∧ ∀ b : Nat, isEvt b = false → b ≠
    CAN_STAT_STATE.addr ctrl 0 → t.reg b = s.reg b) ∧
  (∀ (ctrl : Fin 4) (s : State), ∃ t : State, exec (.busIntegrationComplete ctrl) s = .next t ∧ ∀ b : Nat, isEvt b
    = false → b ≠ CAN_STAT_STATE.addr ctrl 0 → t.reg b = s.reg b) ∧
  (∀ (value : Word) (s : State), ∃ t : State, exec (.mdioTransaction value) s = .next t ∧ ∀ b : Nat, isEvt b =
    false → b ≠ ETH_MDIO_BUSY.addr 0 0 → t.reg b = s.reg b) ∧
  (∀ (data : BitVec 16) (s : State), ∃ t : State, exec (.mdioComplete data) s = .next t ∧ ∀ b : Nat, isEvt b =
    false → b ≠ ETH_MDIO_BUSY.addr 0 0 → t.reg b = s.reg b) ∧
  (∀ (s : State), ∃ t : State, exec .fixInjCommit s = .next t ∧ ∀ b : Nat, isEvt b = false → b ≠
    FIX_INJ_ERR_COUNT.addr 0 0 → t.reg b = s.reg b) ∧
  (∀ (s : State), ∃ t : State, exec .spoofHoldEnd s = .next t ∧ ∀ b : Nat, isEvt b = false → b ≠
    TIME_DATUM_SPOOF.addr 0 0 → t.reg b = s.reg b) ∧
  (∀ (ch : Fin 96) (s : State), ∃ t : State, exec (.spoofSuspectClear ch) s = .next t ∧ ∀ b : Nat, isEvt b = false
    → b ≠ GNS_CH_SPOOF.addr ch 0 → t.reg b = s.reg b) ∧
  (∀ (s : State), ∃ t : State, exec .candidateExpiry s = .next t ∧ ∀ b : Nat, isEvt b = false → b ≠
    GNS_STAT_TRACKED.addr 0 0 → b ≠ GNS_STAT_WAITING.addr 0 0 → t.reg b = s.reg b) ∧
  (∀ (station : Fin 16) (s : State), ∃ t : State, exec (.subWindowEnd station) s = .next t ∧ ∀ b : Nat, isEvt b =
    false → b ≠ CLS_RATE_RATE.addr station 0 → t.reg b = s.reg b) ∧
  (∀ (group : Fin 4) (s : State), ∃ t : State, exec (.lossGroupEmit group) s = .next t ∧ ∀ b : Nat, isEvt b = false
    → b ≠ MSR_GRATE_V.addr group 0 → t.reg b = s.reg b) ∧
  (∀ (link : Fin 4) (s : State), ∃ t : State, exec (.vllost link) s = .next t ∧ ∀ b : Nat, isEvt b = false → b ≠
    VL_STAT_LOST.addr link 0 → t.reg b = s.reg b) ∧
  (∀ (s : State), ∃ t : State, exec .stkHGo s = .next t ∧ ∀ b : Nat, isEvt b = false → b ≠ STK_H_STAT_SEQ.addr 0 0
    → t.reg b = s.reg b) ∧
  (∀ (region : Fin 7) (s : State), ∃ t : State, exec (.leak region) s = .next t ∧ ∀ b : Nat, isEvt b = false → b ≠
    MEM_LEVEL_LEVEL.addr region 0 → t.reg b = s.reg b) ∧
  (∀ (value : Word) (s : State), ∃ t : State, exec (.memInit value) s = .next t ∧ ∀ b : Nat, isEvt b = false → b ≠
    MEM_REGION_INIT.addr 0 0 → t.reg b = s.reg b) ∧
  (∀ (value : Word) (s : State), ∃ t : State, exec (.nvCommand value) s = .next t ∧ ∀ b : Nat, isEvt b = false → b
    ≠ MEM_NV_STAT_BUSY.addr 0 0 → b ≠ MEM_NV_STAT_RESULT.addr 0 0 → t.reg b = s.reg b) ∧
  (∀ (value : Word) (s : State), ∃ t : State, exec (.repair value) s = .next t ∧ ∀ b : Nat, isEvt b = false → b ≠
    MEM_REPAIR_STAT_BUSY.addr 0 0 → b ≠ MEM_REPAIR_STAT_RESULT.addr 0 0 → t.reg b = s.reg b) ∧
  (∀ (s : State), ∃ t : State, exec .operatingTimeTick s = .next t ∧ ∀ b : Nat, isEvt b = false → b ≠
    REC_OPTIME_VALUE.addr 0 0 → t.reg b = s.reg b) ∧
  (∀ (s : State), ∃ t : State, exec .windowRead s = .next t ∧ ∀ b : Nat, isEvt b = false → b ≠ REC_CURSOR_POS.addr
    0 0 → t.reg b = s.reg b) ∧
  (∀ (value : Word) (s : State), ∃ t : State, exec (.kick value) s = .next t ∧ ∀ b : Nat, isEvt b = false → b ≠
    HST_LOST_KICKED.addr 0 0 → t.reg b = s.reg b) ∧
  (∀ (value : Word) (s : State), ∃ t : State, exec (.watchdogPeriodWrite value) s = .next t ∧ ∀ b : Nat, isEvt b =
    false → b ≠ HST_WD_PERIOD.addr 0 0 → b ≠ HST_LOST_KICKED.addr 0 0 → t.reg b = s.reg b) ∧
  (∀ (command : BitVec 8) (s : State), ∃ t : State, exec (.unknownCommand command) s = .next t ∧ ∀ b : Nat, isEvt b
    = false → b ≠ HST_SPI_ERR_COUNT.addr 0 0 → t.reg b = s.reg b) ∧
  (∀ (ch : Fin 8) (value : Word) (s : State), ∃ t : State, exec (.dmaPost ch value) s = .next t ∧ ∀ b : Nat, isEvt
    b = false → b ≠ HST_DMA_STAT_QUEUED.addr ch 0 → b ≠ HST_DMA_ERR_COUNT.addr 0 0 → t.reg b = s.reg b) ∧
  (∀ (group : Fin 12) (value : Word) (s : State), ∃ t : State, exec (.pwrLatWrite group value) s = .next t ∧ ∀ b :
    Nat, isEvt b = false → b ≠ PWR_LAT_LAT.addr group 0 → b ≠ 0x40040 → t.reg b = s.reg b) ∧
  (∀ (slot : Fin 524288) (s : State), ∃ t : State, exec (.quarantineRelease slot) s = .next t ∧ ∀ b : Nat, isEvt b
    = false → b ≠ TAL_STAT_LIVE.addr 0 0 → b ≠ TAL_STAT_FULL.addr 0 0 → t.reg b = s.reg b)
end

