-- ==== Sys2Proof/Laws/Bits.lean ====
section
/-! SUPPORT. The laws of bit fields: a field reads back what was written, other fields stay, words stay words. -/

namespace Sys2Proof.Machine

theorem bitsOf_lt (v hi lo : Nat) : bitsOf v hi lo < 2 ^ (hi + 1 - lo) := Nat.mod_lt _ (by positivity)

/-- A two-digit number is below its bound. -/
theorem digits_lt {a b m n : Nat} (ha : a < n) (hb : b < m) : a * m + b < n * m :=
  calc a * m + b < a * m + m := by omega
    _ = (a + 1) * m := by ring
    _ ≤ n * m := Nat.mul_le_mul_right m ha

/-- `setBits` as a sum of the bits above, the new field and the bits below. -/
theorem setBits_parts (v x : Nat) {hi lo : Nat} (h : lo ≤ hi) :
    setBits v hi lo x = v / 2 ^ (hi + 1) * 2 ^ (hi + 1) + x % 2 ^ (hi + 1 - lo) * 2 ^ lo + v % 2 ^ lo := by
  have e : (2 : Nat) ^ (hi + 1) = 2 ^ lo * 2 ^ (hi + 1 - lo) := by rw [← pow_add]; congr 1; omega
  have d1 := Nat.div_add_mod v (2 ^ lo)
  have d2 := Nat.div_add_mod (v / 2 ^ lo) (2 ^ (hi + 1 - lo))
  have d3 : v / 2 ^ (hi + 1) = v / 2 ^ lo / 2 ^ (hi + 1 - lo) := by rw [e, Nat.div_div_eq_div_mul]
  simp only [setBits, bitsOf]
  rw [d3, e]
  generalize v / 2 ^ lo / 2 ^ (hi + 1 - lo) = a at *
  generalize v / 2 ^ lo % 2 ^ (hi + 1 - lo) = b at *
  generalize v % 2 ^ lo = c at *
  have : v = a * (2 ^ lo * 2 ^ (hi + 1 - lo)) + b * 2 ^ lo + c := by rw [← d1, ← d2]; ring
  omega

/-- A field reads back what was written to it. -/
@[simp] theorem bitsOf_setBits_same (v x : Nat) {hi lo : Nat} (h : lo ≤ hi) :
    bitsOf (setBits v hi lo x) hi lo = x % 2 ^ (hi + 1 - lo) := by
  rw [setBits_parts v x h, bitsOf]
  have e : (2 : Nat) ^ (hi + 1) = 2 ^ (hi + 1 - lo) * 2 ^ lo := by rw [← pow_add]; congr 1; omega
  rw [e, ← mul_assoc, ← add_mul, Nat.add_comm, Nat.add_mul_div_right _ _ (by positivity),
    Nat.div_eq_of_lt (Nat.mod_lt _ (by positivity)), Nat.zero_add, Nat.add_comm, Nat.add_mul_mod_self_right,
    Nat.mod_mod]

/-- A field below the written one stays. -/
theorem bitsOf_setBits_below (v x : Nat) {hi lo h2 l2 : Nat} (h : lo ≤ hi) (hb : h2 < lo) :
    bitsOf (setBits v hi lo x) h2 l2 = bitsOf v h2 l2 := by
  by_cases hl : l2 ≤ h2
  · have key : ∀ w u : Nat, w % 2 ^ lo = u % 2 ^ lo → bitsOf w h2 l2 = bitsOf u h2 l2 := by
      intro w u hwu
      have f : ∀ y : Nat, bitsOf y h2 l2 = y % 2 ^ lo / 2 ^ l2 % 2 ^ (h2 + 1 - l2) := by
        intro y
        have e : (2 : Nat) ^ lo = 2 ^ l2 * 2 ^ (lo - l2) := by rw [← pow_add]; congr 1; omega
        rw [bitsOf, e, Nat.mod_mul_right_div_self, Nat.mod_mod_of_dvd]
        exact pow_dvd_pow 2 (by omega)
      rw [f, f, hwu]
    apply key
    rw [setBits_parts v x h]
    have e : (2 : Nat) ^ (hi + 1) = 2 ^ (hi + 1 - lo) * 2 ^ lo := by rw [← pow_add]; congr 1; omega
    rw [e, ← mul_assoc, ← add_mul, Nat.add_comm, Nat.add_mul_mod_self_right, Nat.mod_mod]
  · have : h2 + 1 - l2 = 0 := by omega
    simp [bitsOf, this, Nat.mod_one]

/-- A field above the written one stays. -/
theorem bitsOf_setBits_above (v x : Nat) {hi lo h2 l2 : Nat} (h : lo ≤ hi) (hb : hi < l2) :
    bitsOf (setBits v hi lo x) h2 l2 = bitsOf v h2 l2 := by
  have f : ∀ y : Nat, bitsOf y h2 l2 = y / 2 ^ (hi + 1) / 2 ^ (l2 - (hi + 1)) % 2 ^ (h2 + 1 - l2) := by
    intro y
    rw [bitsOf, Nat.div_div_eq_div_mul, ← pow_add]
    congr 3
    omega
  have lt : x % 2 ^ (hi + 1 - lo) * 2 ^ lo + v % 2 ^ lo < 2 ^ (hi + 1) := by
    have e : (2 : Nat) ^ (hi + 1) = 2 ^ (hi + 1 - lo) * 2 ^ lo := by rw [← pow_add]; congr 1; omega
    have h1 : x % 2 ^ (hi + 1 - lo) < 2 ^ (hi + 1 - lo) := Nat.mod_lt _ (by positivity)
    have h2 : v % 2 ^ lo < 2 ^ lo := Nat.mod_lt _ (by positivity)
    rw [e]
    exact digits_lt h1 h2
  rw [f, f, setBits_parts v x h, Nat.add_assoc, Nat.add_comm, Nat.add_mul_div_right _ _ (by positivity),
    Nat.div_eq_of_lt lt, Nat.zero_add]

/-- A word with a field written stays a word. -/
theorem setBits_lt (v x : Nat) {hi lo w : Nat} (h : lo ≤ hi) (hw : hi < w) (hv : v < 2 ^ w) :
    setBits v hi lo x < 2 ^ w := by
  rw [setBits_parts v x h]
  have e : (2 : Nat) ^ w = 2 ^ (w - (hi + 1)) * 2 ^ (hi + 1) := by rw [← pow_add]; congr 1; omega
  have e2 : (2 : Nat) ^ (hi + 1) = 2 ^ (hi + 1 - lo) * 2 ^ lo := by rw [← pow_add]; congr 1; omega
  have h1 : x % 2 ^ (hi + 1 - lo) < 2 ^ (hi + 1 - lo) := Nat.mod_lt _ (by positivity)
  have h2 : v % 2 ^ lo < 2 ^ lo := Nat.mod_lt _ (by positivity)
  have h3 : x % 2 ^ (hi + 1 - lo) * 2 ^ lo + v % 2 ^ lo < 2 ^ (hi + 1) := by
    rw [e2]; exact digits_lt h1 h2
  have h4 : v / 2 ^ (hi + 1) < 2 ^ (w - (hi + 1)) := by
    rw [Nat.div_lt_iff_lt_mul (by positivity), ← e]; exact hv
  rw [e, Nat.add_assoc]
  exact digits_lt h4 h3

theorem bitAt_eq_bitsOf (v i : Nat) : bitAt v i = (bitsOf v i i == 1) := by
  have e : i + 1 - i = 1 := by omega
  simp [bitAt, bitsOf, e]

/-- A bit reads back what was written. -/
@[simp] theorem bitAt_setBit_same (v i : Nat) (b : Bool) : bitAt (setBit v i b) i = b := by
  have e : i + 1 - i = 1 := by omega
  rw [bitAt_eq_bitsOf, setBit, bitsOf_setBits_same _ _ (Nat.le_refl i), e]
  cases b <;> rfl

/-- Another bit stays. -/
theorem bitAt_setBit_ne (v : Nat) {i j : Nat} (b : Bool) (h : j ≠ i) : bitAt (setBit v i b) j = bitAt v j := by
  rw [bitAt_eq_bitsOf, bitAt_eq_bitsOf, setBit]
  rcases Nat.lt_or_gt_of_ne h with h | h
  · rw [bitsOf_setBits_below _ _ (Nat.le_refl i) h]
  · rw [bitsOf_setBits_above _ _ (Nat.le_refl i) h]

theorem setBit_lt (v : Nat) {i w : Nat} (b : Bool) (h : i < w) (hv : v < 2 ^ w) : setBit v i b < 2 ^ w :=
  setBits_lt v _ (Nat.le_refl i) h hv

end Sys2Proof.Machine
end

