-- ==== Sys2Proof/Laws/Cells.lean ====
section
/-! SUPPORT. The laws of the sparse stores and of the finite maps: read after write, other keys, canonical form. -/

namespace Sys2Proof.Machine

variable {α : Type}

theorem cellGet_cellDel_same (d : Nat → α) (l : List (Nat × α)) (a : Nat) : cellGet d (cellDel l a) a = d a := by
  induction l with
  | nil => rfl
  | cons p t ih =>
    by_cases h : p.1 = a
    · simpa [cellDel, h] using ih
    · simpa [cellDel, h, cellGet, Ne.symm h] using ih

theorem cellGet_cellDel_ne (d : Nat → α) (l : List (Nat × α)) {a b : Nat} (hb : b ≠ a) :
    cellGet d (cellDel l a) b = cellGet d l b := by
  induction l with
  | nil => rfl
  | cons p t ih =>
    by_cases h : p.1 = a
    · have : b ≠ p.1 := by omega
      simpa [cellDel, h, cellGet, hb] using ih
    · have e : cellDel (p :: t) a = p :: cellDel t a := by simp [cellDel, h]
      simp only [e, cellGet, ih]

/-- A store reads back what was written last, whatever its form. -/
@[simp] theorem cellGet_cellPut_same [DecidableEq α] (d : Nat → α) (l : List (Nat × α)) (a : Nat) (v : α) :
    cellGet d (cellPut d l a v) a = v := by
  induction l with
  | nil =>
    by_cases h : v = d a
    · simp [cellPut, cellGet, h]
    · simp [cellPut, cellGet, h]
  | cons p t ih =>
    obtain ⟨b, w⟩ := p
    rcases Nat.lt_trichotomy a b with h | h | h
    · by_cases hv : v = d a
      · simp only [cellPut, h, if_true, hv]
        exact cellGet_cellDel_same d _ a
      · simp [cellPut, h, hv, cellGet]
    · subst h
      by_cases hv : v = d a
      · simp only [cellPut, Nat.lt_irrefl, if_false, if_true, hv]
        exact cellGet_cellDel_same d _ a
      · simp [cellPut, hv, cellGet]
    · have h1 : ¬ a < b := by omega
      have h2 : a ≠ b := by omega
      simpa [cellPut, h1, h2, cellGet] using ih

/-- A write leaves every other key alone. -/
theorem cellGet_cellPut_ne [DecidableEq α] (d : Nat → α) (l : List (Nat × α)) {a b : Nat} (v : α) (hb : b ≠ a) :
    cellGet d (cellPut d l a v) b = cellGet d l b := by
  induction l with
  | nil => by_cases h : v = d a <;> simp [cellPut, cellGet, h, hb]
  | cons p t ih =>
    obtain ⟨c, w⟩ := p
    rcases Nat.lt_trichotomy a c with h | h | h
    · by_cases hv : v = d a
      · simp only [cellPut, h, if_true, hv]
        exact cellGet_cellDel_ne d _ hb
      · simp [cellPut, h, hv, cellGet, hb]
    · subst h
      by_cases hv : v = d a
      · simp only [cellPut, Nat.lt_irrefl, if_false, if_true, hv]
        simpa [cellGet, hb] using cellGet_cellDel_ne d t hb
      · simp [cellPut, hv, cellGet, hb]
    · have h1 : ¬ a < c := by omega
      have h2 : a ≠ c := by omega
      simp [cellPut, h1, h2, cellGet, ih]

theorem cellWfFrom_mono [DecidableEq α] (d : Nat → α) {l : List (Nat × α)} {i j : Nat} (hij : i ≤ j)
    (h : cellWfFrom d j l = true) : cellWfFrom d i l = true := by
  cases l with
  | nil => rfl
  | cons p t =>
    obtain ⟨b, w⟩ := p
    simp only [cellWfFrom, Bool.and_eq_true, decide_eq_true_eq] at *
    exact ⟨⟨by omega, h.1.2⟩, h.2⟩

/-- A canonical store holds no key below its bound, so removing one there changes nothing. -/
theorem cellDel_below [DecidableEq α] (d : Nat → α) {l : List (Nat × α)} {i a : Nat} (ha : a < i)
    (h : cellWfFrom d i l = true) : cellDel l a = l := by
  induction l generalizing i with
  | nil => rfl
  | cons p t ih =>
    obtain ⟨b, w⟩ := p
    simp only [cellWfFrom, Bool.and_eq_true, decide_eq_true_eq] at h
    have hb : b ≠ a := by omega
    have e : cellDel ((b, w) :: t) a = (b, w) :: cellDel t a := by simp [cellDel, hb]
    rw [e, ih (by omega) h.2]

/-- A write keeps the canonical form. -/
theorem cellPut_wfFrom [DecidableEq α] (d : Nat → α) {l : List (Nat × α)} {i a : Nat} (v : α) (hi : i ≤ a)
    (h : cellWfFrom d i l = true) : cellWfFrom d i (cellPut d l a v) = true := by
  induction l generalizing i with
  | nil =>
    by_cases hv : v = d a
    · simp [cellPut, hv, cellWfFrom]
    · simp [cellPut, hv, cellWfFrom, hi]
  | cons p t ih =>
    obtain ⟨b, w⟩ := p
    have hh := h
    simp only [cellWfFrom, Bool.and_eq_true, decide_eq_true_eq] at h
    rcases Nat.lt_trichotomy a b with g | g | g
    · by_cases hv : v = d a
      · have h2 : cellWfFrom d (a + 1) ((b, w) :: t) = true := by
          simp only [cellWfFrom, Bool.and_eq_true, decide_eq_true_eq]
          exact ⟨⟨by omega, h.1.2⟩, h.2⟩
        simp only [cellPut, g, if_true, hv]
        rw [cellDel_below d (Nat.lt_succ_self a) h2]
        exact hh
      · simp only [cellPut, g, if_true, hv, if_false, cellWfFrom, Bool.and_eq_true, decide_eq_true_eq]
        exact ⟨⟨hi, hv⟩, ⟨⟨by omega, h.1.2⟩, h.2⟩⟩
    · subst g
      by_cases hv : v = d a
      · simp only [cellPut, Nat.lt_irrefl, if_false, if_true, hv]
        rw [cellDel_below d (Nat.lt_succ_self a) h.2]
        exact cellWfFrom_mono d (by omega) h.2
      · simp only [cellPut, Nat.lt_irrefl, if_false, if_true, hv, cellWfFrom, Bool.and_eq_true, decide_eq_true_eq]
        exact ⟨⟨hi, hv⟩, h.2⟩
    · have h1 : ¬ a < b := by omega
      have h2 : a ≠ b := by omega
      simp only [cellPut, h1, if_false, h2, cellWfFrom, Bool.and_eq_true, decide_eq_true_eq]
      exact ⟨⟨h.1.1, h.1.2⟩, ih (by omega) h.2⟩

theorem cellPut_wf [DecidableEq α] (d : Nat → α) {l : List (Nat × α)} (a : Nat) (v : α) (h : cellWf d l = true) :
    cellWf d (cellPut d l a v) = true := cellPut_wfFrom d v (Nat.zero_le a) h

@[simp] theorem assocGet_assocPut_same (l : List (Nat × α)) (k : Nat) (v : α) : assocGet (assocPut l k v) k = some v := by
  induction l with
  | nil => simp [assocPut, assocGet]
  | cons p t ih =>
    obtain ⟨b, w⟩ := p
    rcases Nat.lt_trichotomy k b with h | h | h
    · simp [assocPut, h, assocGet]
    · subst h; simp [assocPut, assocGet]
    · have h1 : ¬ k < b := by omega
      have h2 : k ≠ b := by omega
      simpa [assocPut, h1, h2, assocGet] using ih

theorem assocGet_assocPut_ne (l : List (Nat × α)) {k j : Nat} (v : α) (hj : j ≠ k) :
    assocGet (assocPut l k v) j = assocGet l j := by
  induction l with
  | nil => simp [assocPut, assocGet, hj]
  | cons p t ih =>
    obtain ⟨b, w⟩ := p
    rcases Nat.lt_trichotomy k b with h | h | h
    · simp [assocPut, h, assocGet, hj]
    · subst h; simp [assocPut, assocGet, hj]
    · have h1 : ¬ k < b := by omega
      have h2 : k ≠ b := by omega
      simp [assocPut, h1, h2, assocGet, ih]

@[simp] theorem assocGet_assocDel_same (l : List (Nat × α)) (k : Nat) : assocGet (assocDel l k) k = none := by
  induction l with
  | nil => rfl
  | cons p t ih =>
    by_cases h : p.1 = k
    · simpa [assocDel, h] using ih
    · simpa [assocDel, h, assocGet, Ne.symm h] using ih

theorem assocGet_assocDel_ne (l : List (Nat × α)) {k j : Nat} (hj : j ≠ k) :
    assocGet (assocDel l k) j = assocGet l j := by
  induction l with
  | nil => rfl
  | cons p t ih =>
    by_cases h : p.1 = k
    · simpa [assocDel, h, assocGet, hj] using ih
    · have e : assocDel (p :: t) k = p :: assocDel t k := by simp [assocDel, h]
      simp only [e, assocGet, ih]

/-- An item inside a list that is changed in place. -/
@[simp] theorem listAt_listMod_same (l : List α) (i : Nat) (f : α → α) (d : α) (h : i < l.length) :
    listAt (listMod l i f) i d = f (listAt l i d) := by
  induction l generalizing i with
  | nil => simp at h
  | cons x t ih =>
    cases i with
    | zero => rfl
    | succ n => exact ih n (by simpa using h)

theorem listAt_listMod_ne (l : List α) {i j : Nat} (f : α → α) (d : α) (h : j ≠ i) :
    listAt (listMod l i f) j d = listAt l j d := by
  induction l generalizing i j with
  | nil => rfl
  | cons x t ih =>
    cases i with
    | zero =>
      cases j with
      | zero => omega
      | succ m => rfl
    | succ n =>
      cases j with
      | zero => rfl
      | succ m => exact ih (by omega)

@[simp] theorem length_listMod (l : List α) (i : Nat) (f : α → α) : (listMod l i f).length = l.length := by
  induction l generalizing i with
  | nil => rfl
  | cons x t ih => cases i <;> simp [listMod, ih]

end Sys2Proof.Machine
end

