-- ==== Sys2Proof/Laws/State.lean ====
section
/-! SUPPORT. What the updates of the state leave alone: one lemma per field per update, true by definition. -/

namespace Sys2Proof.Machine

variable (s : State)

/-! ## setReg -/

@[simp] theorem State.setReg_mem (a v : Nat) : (s.setReg a v).mem = s.mem := rfl
@[simp] theorem State.setReg_memErr (a v : Nat) : (s.setReg a v).memErr = s.memErr := rfl
@[simp] theorem State.setReg_memEpoch (a v : Nat) : (s.setReg a v).memEpoch = s.memEpoch := rfl
@[simp] theorem State.setReg_freeCount (a v : Nat) : (s.setReg a v).freeCount = s.freeCount := rfl
@[simp] theorem State.setReg_fuses (a v : Nat) : (s.setReg a v).fuses = s.fuses := rfl
@[simp] theorem State.setReg_clk (a v : Nat) : (s.setReg a v).clk = s.clk := rfl
@[simp] theorem State.setReg_host (a v : Nat) : (s.setReg a v).host = s.host := rfl
@[simp] theorem State.setReg_links (a v : Nat) : (s.setReg a v).links = s.links := rfl
@[simp] theorem State.setReg_dies (a v : Nat) : (s.setReg a v).dies = s.dies := rfl
@[simp] theorem State.setReg_fio (a v : Nat) : (s.setReg a v).fio = s.fio := rfl
@[simp] theorem State.setReg_fans (a v : Nat) : (s.setReg a v).fans = s.fans := rfl
@[simp] theorem State.setReg_thm (a v : Nat) : (s.setReg a v).thm = s.thm := rfl
@[simp] theorem State.setReg_loader (a v : Nat) : (s.setReg a v).loader = s.loader := rfl
@[simp] theorem State.setReg_trav (a v : Nat) : (s.setReg a v).trav = s.trav := rfl
@[simp] theorem State.setReg_time (a v : Nat) : (s.setReg a v).time = s.time := rfl
@[simp] theorem State.setReg_gns (a v : Nat) : (s.setReg a v).gns = s.gns := rfl
@[simp] theorem State.setReg_memu (a v : Nat) : (s.setReg a v).memu = s.memu := rfl
@[simp] theorem State.setReg_spoor (a v : Nat) : (s.setReg a v).spoor = s.spoor := rfl
@[simp] theorem State.setReg_pix (a v : Nat) : (s.setReg a v).pix = s.pix := rfl
@[simp] theorem State.setReg_tally (a v : Nat) : (s.setReg a v).tally = s.tally := rfl
@[simp] theorem State.setReg_stk (a v : Nat) : (s.setReg a v).stk = s.stk := rfl
@[simp] theorem State.setReg_tpin (a v : Nat) : (s.setReg a v).tpin = s.tpin := rfl
@[simp] theorem State.setReg_rfx (a v : Nat) : (s.setReg a v).rfx = s.rfx := rfl
@[simp] theorem State.setReg_afe (a v : Nat) : (s.setReg a v).afe = s.afe := rfl
@[simp] theorem State.setReg_sig (a v : Nat) : (s.setReg a v).sig = s.sig := rfl
@[simp] theorem State.setReg_msr (a v : Nat) : (s.setReg a v).msr = s.msr := rfl
@[simp] theorem State.setReg_loops (a v : Nat) : (s.setReg a v).loops = s.loops := rfl
@[simp] theorem State.setReg_can (a v : Nat) : (s.setReg a v).can = s.can := rfl
@[simp] theorem State.setReg_eth (a v : Nat) : (s.setReg a v).eth = s.eth := rfl
@[simp] theorem State.setReg_twn (a v : Nat) : (s.setReg a v).twn = s.twn := rfl
@[simp] theorem State.setReg_pair (a v : Nat) : (s.setReg a v).pair = s.pair := rfl
@[simp] theorem State.setReg_sinks (a v : Nat) : (s.setReg a v).sinks = s.sinks := rfl
@[simp] theorem State.setReg_out (a v : Nat) : (s.setReg a v).out = s.out := rfl
@[simp] theorem State.setReg_pending (a v : Nat) : (s.setReg a v).pending = s.pending := rfl

/-! ## wrij -/

@[simp] theorem State.wrij_mem (f : Fld) (i j v : Nat) : (s.wrij f i j v).mem = s.mem := rfl
@[simp] theorem State.wrij_memErr (f : Fld) (i j v : Nat) : (s.wrij f i j v).memErr = s.memErr := rfl
@[simp] theorem State.wrij_memEpoch (f : Fld) (i j v : Nat) : (s.wrij f i j v).memEpoch = s.memEpoch := rfl
@[simp] theorem State.wrij_freeCount (f : Fld) (i j v : Nat) : (s.wrij f i j v).freeCount = s.freeCount := rfl
@[simp] theorem State.wrij_fuses (f : Fld) (i j v : Nat) : (s.wrij f i j v).fuses = s.fuses := rfl
@[simp] theorem State.wrij_clk (f : Fld) (i j v : Nat) : (s.wrij f i j v).clk = s.clk := rfl
@[simp] theorem State.wrij_host (f : Fld) (i j v : Nat) : (s.wrij f i j v).host = s.host := rfl
@[simp] theorem State.wrij_links (f : Fld) (i j v : Nat) : (s.wrij f i j v).links = s.links := rfl
@[simp] theorem State.wrij_dies (f : Fld) (i j v : Nat) : (s.wrij f i j v).dies = s.dies := rfl
@[simp] theorem State.wrij_fio (f : Fld) (i j v : Nat) : (s.wrij f i j v).fio = s.fio := rfl
@[simp] theorem State.wrij_fans (f : Fld) (i j v : Nat) : (s.wrij f i j v).fans = s.fans := rfl
@[simp] theorem State.wrij_thm (f : Fld) (i j v : Nat) : (s.wrij f i j v).thm = s.thm := rfl
@[simp] theorem State.wrij_loader (f : Fld) (i j v : Nat) : (s.wrij f i j v).loader = s.loader := rfl
@[simp] theorem State.wrij_trav (f : Fld) (i j v : Nat) : (s.wrij f i j v).trav = s.trav := rfl
@[simp] theorem State.wrij_time (f : Fld) (i j v : Nat) : (s.wrij f i j v).time = s.time := rfl
@[simp] theorem State.wrij_gns (f : Fld) (i j v : Nat) : (s.wrij f i j v).gns = s.gns := rfl
@[simp] theorem State.wrij_memu (f : Fld) (i j v : Nat) : (s.wrij f i j v).memu = s.memu := rfl
@[simp] theorem State.wrij_spoor (f : Fld) (i j v : Nat) : (s.wrij f i j v).spoor = s.spoor := rfl
@[simp] theorem State.wrij_pix (f : Fld) (i j v : Nat) : (s.wrij f i j v).pix = s.pix := rfl
@[simp] theorem State.wrij_tally (f : Fld) (i j v : Nat) : (s.wrij f i j v).tally = s.tally := rfl
@[simp] theorem State.wrij_stk (f : Fld) (i j v : Nat) : (s.wrij f i j v).stk = s.stk := rfl
@[simp] theorem State.wrij_tpin (f : Fld) (i j v : Nat) : (s.wrij f i j v).tpin = s.tpin := rfl
@[simp] theorem State.wrij_rfx (f : Fld) (i j v : Nat) : (s.wrij f i j v).rfx = s.rfx := rfl
@[simp] theorem State.wrij_afe (f : Fld) (i j v : Nat) : (s.wrij f i j v).afe = s.afe := rfl
@[simp] theorem State.wrij_sig (f : Fld) (i j v : Nat) : (s.wrij f i j v).sig = s.sig := rfl
@[simp] theorem State.wrij_msr (f : Fld) (i j v : Nat) : (s.wrij f i j v).msr = s.msr := rfl
@[simp] theorem State.wrij_loops (f : Fld) (i j v : Nat) : (s.wrij f i j v).loops = s.loops := rfl
@[simp] theorem State.wrij_can (f : Fld) (i j v : Nat) : (s.wrij f i j v).can = s.can := rfl
@[simp] theorem State.wrij_eth (f : Fld) (i j v : Nat) : (s.wrij f i j v).eth = s.eth := rfl
@[simp] theorem State.wrij_twn (f : Fld) (i j v : Nat) : (s.wrij f i j v).twn = s.twn := rfl
@[simp] theorem State.wrij_pair (f : Fld) (i j v : Nat) : (s.wrij f i j v).pair = s.pair := rfl
@[simp] theorem State.wrij_sinks (f : Fld) (i j v : Nat) : (s.wrij f i j v).sinks = s.sinks := rfl
@[simp] theorem State.wrij_out (f : Fld) (i j v : Nat) : (s.wrij f i j v).out = s.out := rfl
@[simp] theorem State.wrij_pending (f : Fld) (i j v : Nat) : (s.wrij f i j v).pending = s.pending := rfl

/-! ## wri -/

@[simp] theorem State.wri_mem (f : Fld) (i v : Nat) : (s.wri f i v).mem = s.mem := rfl
@[simp] theorem State.wri_memErr (f : Fld) (i v : Nat) : (s.wri f i v).memErr = s.memErr := rfl
@[simp] theorem State.wri_memEpoch (f : Fld) (i v : Nat) : (s.wri f i v).memEpoch = s.memEpoch := rfl
@[simp] theorem State.wri_freeCount (f : Fld) (i v : Nat) : (s.wri f i v).freeCount = s.freeCount := rfl
@[simp] theorem State.wri_fuses (f : Fld) (i v : Nat) : (s.wri f i v).fuses = s.fuses := rfl
@[simp] theorem State.wri_clk (f : Fld) (i v : Nat) : (s.wri f i v).clk = s.clk := rfl
@[simp] theorem State.wri_host (f : Fld) (i v : Nat) : (s.wri f i v).host = s.host := rfl
@[simp] theorem State.wri_links (f : Fld) (i v : Nat) : (s.wri f i v).links = s.links := rfl
@[simp] theorem State.wri_dies (f : Fld) (i v : Nat) : (s.wri f i v).dies = s.dies := rfl
@[simp] theorem State.wri_fio (f : Fld) (i v : Nat) : (s.wri f i v).fio = s.fio := rfl
@[simp] theorem State.wri_fans (f : Fld) (i v : Nat) : (s.wri f i v).fans = s.fans := rfl
@[simp] theorem State.wri_thm (f : Fld) (i v : Nat) : (s.wri f i v).thm = s.thm := rfl
@[simp] theorem State.wri_loader (f : Fld) (i v : Nat) : (s.wri f i v).loader = s.loader := rfl
@[simp] theorem State.wri_trav (f : Fld) (i v : Nat) : (s.wri f i v).trav = s.trav := rfl
@[simp] theorem State.wri_time (f : Fld) (i v : Nat) : (s.wri f i v).time = s.time := rfl
@[simp] theorem State.wri_gns (f : Fld) (i v : Nat) : (s.wri f i v).gns = s.gns := rfl
@[simp] theorem State.wri_memu (f : Fld) (i v : Nat) : (s.wri f i v).memu = s.memu := rfl
@[simp] theorem State.wri_spoor (f : Fld) (i v : Nat) : (s.wri f i v).spoor = s.spoor := rfl
@[simp] theorem State.wri_pix (f : Fld) (i v : Nat) : (s.wri f i v).pix = s.pix := rfl
@[simp] theorem State.wri_tally (f : Fld) (i v : Nat) : (s.wri f i v).tally = s.tally := rfl
@[simp] theorem State.wri_stk (f : Fld) (i v : Nat) : (s.wri f i v).stk = s.stk := rfl
@[simp] theorem State.wri_tpin (f : Fld) (i v : Nat) : (s.wri f i v).tpin = s.tpin := rfl
@[simp] theorem State.wri_rfx (f : Fld) (i v : Nat) : (s.wri f i v).rfx = s.rfx := rfl
@[simp] theorem State.wri_afe (f : Fld) (i v : Nat) : (s.wri f i v).afe = s.afe := rfl
@[simp] theorem State.wri_sig (f : Fld) (i v : Nat) : (s.wri f i v).sig = s.sig := rfl
@[simp] theorem State.wri_msr (f : Fld) (i v : Nat) : (s.wri f i v).msr = s.msr := rfl
@[simp] theorem State.wri_loops (f : Fld) (i v : Nat) : (s.wri f i v).loops = s.loops := rfl
@[simp] theorem State.wri_can (f : Fld) (i v : Nat) : (s.wri f i v).can = s.can := rfl
@[simp] theorem State.wri_eth (f : Fld) (i v : Nat) : (s.wri f i v).eth = s.eth := rfl
@[simp] theorem State.wri_twn (f : Fld) (i v : Nat) : (s.wri f i v).twn = s.twn := rfl
@[simp] theorem State.wri_pair (f : Fld) (i v : Nat) : (s.wri f i v).pair = s.pair := rfl
@[simp] theorem State.wri_sinks (f : Fld) (i v : Nat) : (s.wri f i v).sinks = s.sinks := rfl
@[simp] theorem State.wri_out (f : Fld) (i v : Nat) : (s.wri f i v).out = s.out := rfl
@[simp] theorem State.wri_pending (f : Fld) (i v : Nat) : (s.wri f i v).pending = s.pending := rfl

/-! ## wr -/

@[simp] theorem State.wr_mem (f : Fld) (v : Nat) : (s.wr f v).mem = s.mem := rfl
@[simp] theorem State.wr_memErr (f : Fld) (v : Nat) : (s.wr f v).memErr = s.memErr := rfl
@[simp] theorem State.wr_memEpoch (f : Fld) (v : Nat) : (s.wr f v).memEpoch = s.memEpoch := rfl
@[simp] theorem State.wr_freeCount (f : Fld) (v : Nat) : (s.wr f v).freeCount = s.freeCount := rfl
@[simp] theorem State.wr_fuses (f : Fld) (v : Nat) : (s.wr f v).fuses = s.fuses := rfl
@[simp] theorem State.wr_clk (f : Fld) (v : Nat) : (s.wr f v).clk = s.clk := rfl
@[simp] theorem State.wr_host (f : Fld) (v : Nat) : (s.wr f v).host = s.host := rfl
@[simp] theorem State.wr_links (f : Fld) (v : Nat) : (s.wr f v).links = s.links := rfl
@[simp] theorem State.wr_dies (f : Fld) (v : Nat) : (s.wr f v).dies = s.dies := rfl
@[simp] theorem State.wr_fio (f : Fld) (v : Nat) : (s.wr f v).fio = s.fio := rfl
@[simp] theorem State.wr_fans (f : Fld) (v : Nat) : (s.wr f v).fans = s.fans := rfl
@[simp] theorem State.wr_thm (f : Fld) (v : Nat) : (s.wr f v).thm = s.thm := rfl
@[simp] theorem State.wr_loader (f : Fld) (v : Nat) : (s.wr f v).loader = s.loader := rfl
@[simp] theorem State.wr_trav (f : Fld) (v : Nat) : (s.wr f v).trav = s.trav := rfl
@[simp] theorem State.wr_time (f : Fld) (v : Nat) : (s.wr f v).time = s.time := rfl
@[simp] theorem State.wr_gns (f : Fld) (v : Nat) : (s.wr f v).gns = s.gns := rfl
@[simp] theorem State.wr_memu (f : Fld) (v : Nat) : (s.wr f v).memu = s.memu := rfl
@[simp] theorem State.wr_spoor (f : Fld) (v : Nat) : (s.wr f v).spoor = s.spoor := rfl
@[simp] theorem State.wr_pix (f : Fld) (v : Nat) : (s.wr f v).pix = s.pix := rfl
@[simp] theorem State.wr_tally (f : Fld) (v : Nat) : (s.wr f v).tally = s.tally := rfl
@[simp] theorem State.wr_stk (f : Fld) (v : Nat) : (s.wr f v).stk = s.stk := rfl
@[simp] theorem State.wr_tpin (f : Fld) (v : Nat) : (s.wr f v).tpin = s.tpin := rfl
@[simp] theorem State.wr_rfx (f : Fld) (v : Nat) : (s.wr f v).rfx = s.rfx := rfl
@[simp] theorem State.wr_afe (f : Fld) (v : Nat) : (s.wr f v).afe = s.afe := rfl
@[simp] theorem State.wr_sig (f : Fld) (v : Nat) : (s.wr f v).sig = s.sig := rfl
@[simp] theorem State.wr_msr (f : Fld) (v : Nat) : (s.wr f v).msr = s.msr := rfl
@[simp] theorem State.wr_loops (f : Fld) (v : Nat) : (s.wr f v).loops = s.loops := rfl
@[simp] theorem State.wr_can (f : Fld) (v : Nat) : (s.wr f v).can = s.can := rfl
@[simp] theorem State.wr_eth (f : Fld) (v : Nat) : (s.wr f v).eth = s.eth := rfl
@[simp] theorem State.wr_twn (f : Fld) (v : Nat) : (s.wr f v).twn = s.twn := rfl
@[simp] theorem State.wr_pair (f : Fld) (v : Nat) : (s.wr f v).pair = s.pair := rfl
@[simp] theorem State.wr_sinks (f : Fld) (v : Nat) : (s.wr f v).sinks = s.sinks := rfl
@[simp] theorem State.wr_out (f : Fld) (v : Nat) : (s.wr f v).out = s.out := rfl
@[simp] theorem State.wr_pending (f : Fld) (v : Nat) : (s.wr f v).pending = s.pending := rfl

/-! ## incij -/

@[simp] theorem State.incij_mem (f : Fld) (i j n : Nat) : (s.incij f i j n).mem = s.mem := rfl
@[simp] theorem State.incij_memErr (f : Fld) (i j n : Nat) : (s.incij f i j n).memErr = s.memErr := rfl
@[simp] theorem State.incij_memEpoch (f : Fld) (i j n : Nat) : (s.incij f i j n).memEpoch = s.memEpoch := rfl
@[simp] theorem State.incij_freeCount (f : Fld) (i j n : Nat) : (s.incij f i j n).freeCount = s.freeCount := rfl
@[simp] theorem State.incij_fuses (f : Fld) (i j n : Nat) : (s.incij f i j n).fuses = s.fuses := rfl
@[simp] theorem State.incij_clk (f : Fld) (i j n : Nat) : (s.incij f i j n).clk = s.clk := rfl
@[simp] theorem State.incij_host (f : Fld) (i j n : Nat) : (s.incij f i j n).host = s.host := rfl
@[simp] theorem State.incij_links (f : Fld) (i j n : Nat) : (s.incij f i j n).links = s.links := rfl
@[simp] theorem State.incij_dies (f : Fld) (i j n : Nat) : (s.incij f i j n).dies = s.dies := rfl
@[simp] theorem State.incij_fio (f : Fld) (i j n : Nat) : (s.incij f i j n).fio = s.fio := rfl
@[simp] theorem State.incij_fans (f : Fld) (i j n : Nat) : (s.incij f i j n).fans = s.fans := rfl
@[simp] theorem State.incij_thm (f : Fld) (i j n : Nat) : (s.incij f i j n).thm = s.thm := rfl
@[simp] theorem State.incij_loader (f : Fld) (i j n : Nat) : (s.incij f i j n).loader = s.loader := rfl
@[simp] theorem State.incij_trav (f : Fld) (i j n : Nat) : (s.incij f i j n).trav = s.trav := rfl
@[simp] theorem State.incij_time (f : Fld) (i j n : Nat) : (s.incij f i j n).time = s.time := rfl
@[simp] theorem State.incij_gns (f : Fld) (i j n : Nat) : (s.incij f i j n).gns = s.gns := rfl
@[simp] theorem State.incij_memu (f : Fld) (i j n : Nat) : (s.incij f i j n).memu = s.memu := rfl
@[simp] theorem State.incij_spoor (f : Fld) (i j n : Nat) : (s.incij f i j n).spoor = s.spoor := rfl
@[simp] theorem State.incij_pix (f : Fld) (i j n : Nat) : (s.incij f i j n).pix = s.pix := rfl
@[simp] theorem State.incij_tally (f : Fld) (i j n : Nat) : (s.incij f i j n).tally = s.tally := rfl
@[simp] theorem State.incij_stk (f : Fld) (i j n : Nat) : (s.incij f i j n).stk = s.stk := rfl
@[simp] theorem State.incij_tpin (f : Fld) (i j n : Nat) : (s.incij f i j n).tpin = s.tpin := rfl
@[simp] theorem State.incij_rfx (f : Fld) (i j n : Nat) : (s.incij f i j n).rfx = s.rfx := rfl
@[simp] theorem State.incij_afe (f : Fld) (i j n : Nat) : (s.incij f i j n).afe = s.afe := rfl
@[simp] theorem State.incij_sig (f : Fld) (i j n : Nat) : (s.incij f i j n).sig = s.sig := rfl
@[simp] theorem State.incij_msr (f : Fld) (i j n : Nat) : (s.incij f i j n).msr = s.msr := rfl
@[simp] theorem State.incij_loops (f : Fld) (i j n : Nat) : (s.incij f i j n).loops = s.loops := rfl
@[simp] theorem State.incij_can (f : Fld) (i j n : Nat) : (s.incij f i j n).can = s.can := rfl
@[simp] theorem State.incij_eth (f : Fld) (i j n : Nat) : (s.incij f i j n).eth = s.eth := rfl
@[simp] theorem State.incij_twn (f : Fld) (i j n : Nat) : (s.incij f i j n).twn = s.twn := rfl
@[simp] theorem State.incij_pair (f : Fld) (i j n : Nat) : (s.incij f i j n).pair = s.pair := rfl
@[simp] theorem State.incij_sinks (f : Fld) (i j n : Nat) : (s.incij f i j n).sinks = s.sinks := rfl
@[simp] theorem State.incij_out (f : Fld) (i j n : Nat) : (s.incij f i j n).out = s.out := rfl
@[simp] theorem State.incij_pending (f : Fld) (i j n : Nat) : (s.incij f i j n).pending = s.pending := rfl

/-! ## inci -/

@[simp] theorem State.inci_mem (f : Fld) (i n : Nat) : (s.inci f i n).mem = s.mem := rfl
@[simp] theorem State.inci_memErr (f : Fld) (i n : Nat) : (s.inci f i n).memErr = s.memErr := rfl
@[simp] theorem State.inci_memEpoch (f : Fld) (i n : Nat) : (s.inci f i n).memEpoch = s.memEpoch := rfl
@[simp] theorem State.inci_freeCount (f : Fld) (i n : Nat) : (s.inci f i n).freeCount = s.freeCount := rfl
@[simp] theorem State.inci_fuses (f : Fld) (i n : Nat) : (s.inci f i n).fuses = s.fuses := rfl
@[simp] theorem State.inci_clk (f : Fld) (i n : Nat) : (s.inci f i n).clk = s.clk := rfl
@[simp] theorem State.inci_host (f : Fld) (i n : Nat) : (s.inci f i n).host = s.host := rfl
@[simp] theorem State.inci_links (f : Fld) (i n : Nat) : (s.inci f i n).links = s.links := rfl
@[simp] theorem State.inci_dies (f : Fld) (i n : Nat) : (s.inci f i n).dies = s.dies := rfl
@[simp] theorem State.inci_fio (f : Fld) (i n : Nat) : (s.inci f i n).fio = s.fio := rfl
@[simp] theorem State.inci_fans (f : Fld) (i n : Nat) : (s.inci f i n).fans = s.fans := rfl
@[simp] theorem State.inci_thm (f : Fld) (i n : Nat) : (s.inci f i n).thm = s.thm := rfl
@[simp] theorem State.inci_loader (f : Fld) (i n : Nat) : (s.inci f i n).loader = s.loader := rfl
@[simp] theorem State.inci_trav (f : Fld) (i n : Nat) : (s.inci f i n).trav = s.trav := rfl
@[simp] theorem State.inci_time (f : Fld) (i n : Nat) : (s.inci f i n).time = s.time := rfl
@[simp] theorem State.inci_gns (f : Fld) (i n : Nat) : (s.inci f i n).gns = s.gns := rfl
@[simp] theorem State.inci_memu (f : Fld) (i n : Nat) : (s.inci f i n).memu = s.memu := rfl
@[simp] theorem State.inci_spoor (f : Fld) (i n : Nat) : (s.inci f i n).spoor = s.spoor := rfl
@[simp] theorem State.inci_pix (f : Fld) (i n : Nat) : (s.inci f i n).pix = s.pix := rfl
@[simp] theorem State.inci_tally (f : Fld) (i n : Nat) : (s.inci f i n).tally = s.tally := rfl
@[simp] theorem State.inci_stk (f : Fld) (i n : Nat) : (s.inci f i n).stk = s.stk := rfl
@[simp] theorem State.inci_tpin (f : Fld) (i n : Nat) : (s.inci f i n).tpin = s.tpin := rfl
@[simp] theorem State.inci_rfx (f : Fld) (i n : Nat) : (s.inci f i n).rfx = s.rfx := rfl
@[simp] theorem State.inci_afe (f : Fld) (i n : Nat) : (s.inci f i n).afe = s.afe := rfl
@[simp] theorem State.inci_sig (f : Fld) (i n : Nat) : (s.inci f i n).sig = s.sig := rfl
@[simp] theorem State.inci_msr (f : Fld) (i n : Nat) : (s.inci f i n).msr = s.msr := rfl
@[simp] theorem State.inci_loops (f : Fld) (i n : Nat) : (s.inci f i n).loops = s.loops := rfl
@[simp] theorem State.inci_can (f : Fld) (i n : Nat) : (s.inci f i n).can = s.can := rfl
@[simp] theorem State.inci_eth (f : Fld) (i n : Nat) : (s.inci f i n).eth = s.eth := rfl
@[simp] theorem State.inci_twn (f : Fld) (i n : Nat) : (s.inci f i n).twn = s.twn := rfl
@[simp] theorem State.inci_pair (f : Fld) (i n : Nat) : (s.inci f i n).pair = s.pair := rfl
@[simp] theorem State.inci_sinks (f : Fld) (i n : Nat) : (s.inci f i n).sinks = s.sinks := rfl
@[simp] theorem State.inci_out (f : Fld) (i n : Nat) : (s.inci f i n).out = s.out := rfl
@[simp] theorem State.inci_pending (f : Fld) (i n : Nat) : (s.inci f i n).pending = s.pending := rfl

/-! ## inc -/

@[simp] theorem State.inc_mem (f : Fld) (n : Nat) : (s.inc f n).mem = s.mem := rfl
@[simp] theorem State.inc_memErr (f : Fld) (n : Nat) : (s.inc f n).memErr = s.memErr := rfl
@[simp] theorem State.inc_memEpoch (f : Fld) (n : Nat) : (s.inc f n).memEpoch = s.memEpoch := rfl
@[simp] theorem State.inc_freeCount (f : Fld) (n : Nat) : (s.inc f n).freeCount = s.freeCount := rfl
@[simp] theorem State.inc_fuses (f : Fld) (n : Nat) : (s.inc f n).fuses = s.fuses := rfl
@[simp] theorem State.inc_clk (f : Fld) (n : Nat) : (s.inc f n).clk = s.clk := rfl
@[simp] theorem State.inc_host (f : Fld) (n : Nat) : (s.inc f n).host = s.host := rfl
@[simp] theorem State.inc_links (f : Fld) (n : Nat) : (s.inc f n).links = s.links := rfl
@[simp] theorem State.inc_dies (f : Fld) (n : Nat) : (s.inc f n).dies = s.dies := rfl
@[simp] theorem State.inc_fio (f : Fld) (n : Nat) : (s.inc f n).fio = s.fio := rfl
@[simp] theorem State.inc_fans (f : Fld) (n : Nat) : (s.inc f n).fans = s.fans := rfl
@[simp] theorem State.inc_thm (f : Fld) (n : Nat) : (s.inc f n).thm = s.thm := rfl
@[simp] theorem State.inc_loader (f : Fld) (n : Nat) : (s.inc f n).loader = s.loader := rfl
@[simp] theorem State.inc_trav (f : Fld) (n : Nat) : (s.inc f n).trav = s.trav := rfl
@[simp] theorem State.inc_time (f : Fld) (n : Nat) : (s.inc f n).time = s.time := rfl
@[simp] theorem State.inc_gns (f : Fld) (n : Nat) : (s.inc f n).gns = s.gns := rfl
@[simp] theorem State.inc_memu (f : Fld) (n : Nat) : (s.inc f n).memu = s.memu := rfl
@[simp] theorem State.inc_spoor (f : Fld) (n : Nat) : (s.inc f n).spoor = s.spoor := rfl
@[simp] theorem State.inc_pix (f : Fld) (n : Nat) : (s.inc f n).pix = s.pix := rfl
@[simp] theorem State.inc_tally (f : Fld) (n : Nat) : (s.inc f n).tally = s.tally := rfl
@[simp] theorem State.inc_stk (f : Fld) (n : Nat) : (s.inc f n).stk = s.stk := rfl
@[simp] theorem State.inc_tpin (f : Fld) (n : Nat) : (s.inc f n).tpin = s.tpin := rfl
@[simp] theorem State.inc_rfx (f : Fld) (n : Nat) : (s.inc f n).rfx = s.rfx := rfl
@[simp] theorem State.inc_afe (f : Fld) (n : Nat) : (s.inc f n).afe = s.afe := rfl
@[simp] theorem State.inc_sig (f : Fld) (n : Nat) : (s.inc f n).sig = s.sig := rfl
@[simp] theorem State.inc_msr (f : Fld) (n : Nat) : (s.inc f n).msr = s.msr := rfl
@[simp] theorem State.inc_loops (f : Fld) (n : Nat) : (s.inc f n).loops = s.loops := rfl
@[simp] theorem State.inc_can (f : Fld) (n : Nat) : (s.inc f n).can = s.can := rfl
@[simp] theorem State.inc_eth (f : Fld) (n : Nat) : (s.inc f n).eth = s.eth := rfl
@[simp] theorem State.inc_twn (f : Fld) (n : Nat) : (s.inc f n).twn = s.twn := rfl
@[simp] theorem State.inc_pair (f : Fld) (n : Nat) : (s.inc f n).pair = s.pair := rfl
@[simp] theorem State.inc_sinks (f : Fld) (n : Nat) : (s.inc f n).sinks = s.sinks := rfl
@[simp] theorem State.inc_out (f : Fld) (n : Nat) : (s.inc f n).out = s.out := rfl
@[simp] theorem State.inc_pending (f : Fld) (n : Nat) : (s.inc f n).pending = s.pending := rfl

/-! ## wrapij -/

@[simp] theorem State.wrapij_mem (f : Fld) (i j n : Nat) : (s.wrapij f i j n).mem = s.mem := rfl
@[simp] theorem State.wrapij_memErr (f : Fld) (i j n : Nat) : (s.wrapij f i j n).memErr = s.memErr := rfl
@[simp] theorem State.wrapij_memEpoch (f : Fld) (i j n : Nat) : (s.wrapij f i j n).memEpoch = s.memEpoch := rfl
@[simp] theorem State.wrapij_freeCount (f : Fld) (i j n : Nat) : (s.wrapij f i j n).freeCount = s.freeCount := rfl
@[simp] theorem State.wrapij_fuses (f : Fld) (i j n : Nat) : (s.wrapij f i j n).fuses = s.fuses := rfl
@[simp] theorem State.wrapij_clk (f : Fld) (i j n : Nat) : (s.wrapij f i j n).clk = s.clk := rfl
@[simp] theorem State.wrapij_host (f : Fld) (i j n : Nat) : (s.wrapij f i j n).host = s.host := rfl
@[simp] theorem State.wrapij_links (f : Fld) (i j n : Nat) : (s.wrapij f i j n).links = s.links := rfl
@[simp] theorem State.wrapij_dies (f : Fld) (i j n : Nat) : (s.wrapij f i j n).dies = s.dies := rfl
@[simp] theorem State.wrapij_fio (f : Fld) (i j n : Nat) : (s.wrapij f i j n).fio = s.fio := rfl
@[simp] theorem State.wrapij_fans (f : Fld) (i j n : Nat) : (s.wrapij f i j n).fans = s.fans := rfl
@[simp] theorem State.wrapij_thm (f : Fld) (i j n : Nat) : (s.wrapij f i j n).thm = s.thm := rfl
@[simp] theorem State.wrapij_loader (f : Fld) (i j n : Nat) : (s.wrapij f i j n).loader = s.loader := rfl
@[simp] theorem State.wrapij_trav (f : Fld) (i j n : Nat) : (s.wrapij f i j n).trav = s.trav := rfl
@[simp] theorem State.wrapij_time (f : Fld) (i j n : Nat) : (s.wrapij f i j n).time = s.time := rfl
@[simp] theorem State.wrapij_gns (f : Fld) (i j n : Nat) : (s.wrapij f i j n).gns = s.gns := rfl
@[simp] theorem State.wrapij_memu (f : Fld) (i j n : Nat) : (s.wrapij f i j n).memu = s.memu := rfl
@[simp] theorem State.wrapij_spoor (f : Fld) (i j n : Nat) : (s.wrapij f i j n).spoor = s.spoor := rfl
@[simp] theorem State.wrapij_pix (f : Fld) (i j n : Nat) : (s.wrapij f i j n).pix = s.pix := rfl
@[simp] theorem State.wrapij_tally (f : Fld) (i j n : Nat) : (s.wrapij f i j n).tally = s.tally := rfl
@[simp] theorem State.wrapij_stk (f : Fld) (i j n : Nat) : (s.wrapij f i j n).stk = s.stk := rfl
@[simp] theorem State.wrapij_tpin (f : Fld) (i j n : Nat) : (s.wrapij f i j n).tpin = s.tpin := rfl
@[simp] theorem State.wrapij_rfx (f : Fld) (i j n : Nat) : (s.wrapij f i j n).rfx = s.rfx := rfl
@[simp] theorem State.wrapij_afe (f : Fld) (i j n : Nat) : (s.wrapij f i j n).afe = s.afe := rfl
@[simp] theorem State.wrapij_sig (f : Fld) (i j n : Nat) : (s.wrapij f i j n).sig = s.sig := rfl
@[simp] theorem State.wrapij_msr (f : Fld) (i j n : Nat) : (s.wrapij f i j n).msr = s.msr := rfl
@[simp] theorem State.wrapij_loops (f : Fld) (i j n : Nat) : (s.wrapij f i j n).loops = s.loops := rfl
@[simp] theorem State.wrapij_can (f : Fld) (i j n : Nat) : (s.wrapij f i j n).can = s.can := rfl
@[simp] theorem State.wrapij_eth (f : Fld) (i j n : Nat) : (s.wrapij f i j n).eth = s.eth := rfl
@[simp] theorem State.wrapij_twn (f : Fld) (i j n : Nat) : (s.wrapij f i j n).twn = s.twn := rfl
@[simp] theorem State.wrapij_pair (f : Fld) (i j n : Nat) : (s.wrapij f i j n).pair = s.pair := rfl
@[simp] theorem State.wrapij_sinks (f : Fld) (i j n : Nat) : (s.wrapij f i j n).sinks = s.sinks := rfl
@[simp] theorem State.wrapij_out (f : Fld) (i j n : Nat) : (s.wrapij f i j n).out = s.out := rfl
@[simp] theorem State.wrapij_pending (f : Fld) (i j n : Nat) : (s.wrapij f i j n).pending = s.pending := rfl

/-! ## wrapi -/

@[simp] theorem State.wrapi_mem (f : Fld) (i n : Nat) : (s.wrapi f i n).mem = s.mem := rfl
@[simp] theorem State.wrapi_memErr (f : Fld) (i n : Nat) : (s.wrapi f i n).memErr = s.memErr := rfl
@[simp] theorem State.wrapi_memEpoch (f : Fld) (i n : Nat) : (s.wrapi f i n).memEpoch = s.memEpoch := rfl
@[simp] theorem State.wrapi_freeCount (f : Fld) (i n : Nat) : (s.wrapi f i n).freeCount = s.freeCount := rfl
@[simp] theorem State.wrapi_fuses (f : Fld) (i n : Nat) : (s.wrapi f i n).fuses = s.fuses := rfl
@[simp] theorem State.wrapi_clk (f : Fld) (i n : Nat) : (s.wrapi f i n).clk = s.clk := rfl
@[simp] theorem State.wrapi_host (f : Fld) (i n : Nat) : (s.wrapi f i n).host = s.host := rfl
@[simp] theorem State.wrapi_links (f : Fld) (i n : Nat) : (s.wrapi f i n).links = s.links := rfl
@[simp] theorem State.wrapi_dies (f : Fld) (i n : Nat) : (s.wrapi f i n).dies = s.dies := rfl
@[simp] theorem State.wrapi_fio (f : Fld) (i n : Nat) : (s.wrapi f i n).fio = s.fio := rfl
@[simp] theorem State.wrapi_fans (f : Fld) (i n : Nat) : (s.wrapi f i n).fans = s.fans := rfl
@[simp] theorem State.wrapi_thm (f : Fld) (i n : Nat) : (s.wrapi f i n).thm = s.thm := rfl
@[simp] theorem State.wrapi_loader (f : Fld) (i n : Nat) : (s.wrapi f i n).loader = s.loader := rfl
@[simp] theorem State.wrapi_trav (f : Fld) (i n : Nat) : (s.wrapi f i n).trav = s.trav := rfl
@[simp] theorem State.wrapi_time (f : Fld) (i n : Nat) : (s.wrapi f i n).time = s.time := rfl
@[simp] theorem State.wrapi_gns (f : Fld) (i n : Nat) : (s.wrapi f i n).gns = s.gns := rfl
@[simp] theorem State.wrapi_memu (f : Fld) (i n : Nat) : (s.wrapi f i n).memu = s.memu := rfl
@[simp] theorem State.wrapi_spoor (f : Fld) (i n : Nat) : (s.wrapi f i n).spoor = s.spoor := rfl
@[simp] theorem State.wrapi_pix (f : Fld) (i n : Nat) : (s.wrapi f i n).pix = s.pix := rfl
@[simp] theorem State.wrapi_tally (f : Fld) (i n : Nat) : (s.wrapi f i n).tally = s.tally := rfl
@[simp] theorem State.wrapi_stk (f : Fld) (i n : Nat) : (s.wrapi f i n).stk = s.stk := rfl
@[simp] theorem State.wrapi_tpin (f : Fld) (i n : Nat) : (s.wrapi f i n).tpin = s.tpin := rfl
@[simp] theorem State.wrapi_rfx (f : Fld) (i n : Nat) : (s.wrapi f i n).rfx = s.rfx := rfl
@[simp] theorem State.wrapi_afe (f : Fld) (i n : Nat) : (s.wrapi f i n).afe = s.afe := rfl
@[simp] theorem State.wrapi_sig (f : Fld) (i n : Nat) : (s.wrapi f i n).sig = s.sig := rfl
@[simp] theorem State.wrapi_msr (f : Fld) (i n : Nat) : (s.wrapi f i n).msr = s.msr := rfl
@[simp] theorem State.wrapi_loops (f : Fld) (i n : Nat) : (s.wrapi f i n).loops = s.loops := rfl
@[simp] theorem State.wrapi_can (f : Fld) (i n : Nat) : (s.wrapi f i n).can = s.can := rfl
@[simp] theorem State.wrapi_eth (f : Fld) (i n : Nat) : (s.wrapi f i n).eth = s.eth := rfl
@[simp] theorem State.wrapi_twn (f : Fld) (i n : Nat) : (s.wrapi f i n).twn = s.twn := rfl
@[simp] theorem State.wrapi_pair (f : Fld) (i n : Nat) : (s.wrapi f i n).pair = s.pair := rfl
@[simp] theorem State.wrapi_sinks (f : Fld) (i n : Nat) : (s.wrapi f i n).sinks = s.sinks := rfl
@[simp] theorem State.wrapi_out (f : Fld) (i n : Nat) : (s.wrapi f i n).out = s.out := rfl
@[simp] theorem State.wrapi_pending (f : Fld) (i n : Nat) : (s.wrapi f i n).pending = s.pending := rfl

/-! ## wr64 -/

@[simp] theorem State.wr64_mem (f g : Fld) (v : Nat) : (s.wr64 f g v).mem = s.mem := rfl
@[simp] theorem State.wr64_memErr (f g : Fld) (v : Nat) : (s.wr64 f g v).memErr = s.memErr := rfl
@[simp] theorem State.wr64_memEpoch (f g : Fld) (v : Nat) : (s.wr64 f g v).memEpoch = s.memEpoch := rfl
@[simp] theorem State.wr64_freeCount (f g : Fld) (v : Nat) : (s.wr64 f g v).freeCount = s.freeCount := rfl
@[simp] theorem State.wr64_fuses (f g : Fld) (v : Nat) : (s.wr64 f g v).fuses = s.fuses := rfl
@[simp] theorem State.wr64_clk (f g : Fld) (v : Nat) : (s.wr64 f g v).clk = s.clk := rfl
@[simp] theorem State.wr64_host (f g : Fld) (v : Nat) : (s.wr64 f g v).host = s.host := rfl
@[simp] theorem State.wr64_links (f g : Fld) (v : Nat) : (s.wr64 f g v).links = s.links := rfl
@[simp] theorem State.wr64_dies (f g : Fld) (v : Nat) : (s.wr64 f g v).dies = s.dies := rfl
@[simp] theorem State.wr64_fio (f g : Fld) (v : Nat) : (s.wr64 f g v).fio = s.fio := rfl
@[simp] theorem State.wr64_fans (f g : Fld) (v : Nat) : (s.wr64 f g v).fans = s.fans := rfl
@[simp] theorem State.wr64_thm (f g : Fld) (v : Nat) : (s.wr64 f g v).thm = s.thm := rfl
@[simp] theorem State.wr64_loader (f g : Fld) (v : Nat) : (s.wr64 f g v).loader = s.loader := rfl
@[simp] theorem State.wr64_trav (f g : Fld) (v : Nat) : (s.wr64 f g v).trav = s.trav := rfl
@[simp] theorem State.wr64_time (f g : Fld) (v : Nat) : (s.wr64 f g v).time = s.time := rfl
@[simp] theorem State.wr64_gns (f g : Fld) (v : Nat) : (s.wr64 f g v).gns = s.gns := rfl
@[simp] theorem State.wr64_memu (f g : Fld) (v : Nat) : (s.wr64 f g v).memu = s.memu := rfl
@[simp] theorem State.wr64_spoor (f g : Fld) (v : Nat) : (s.wr64 f g v).spoor = s.spoor := rfl
@[simp] theorem State.wr64_pix (f g : Fld) (v : Nat) : (s.wr64 f g v).pix = s.pix := rfl
@[simp] theorem State.wr64_tally (f g : Fld) (v : Nat) : (s.wr64 f g v).tally = s.tally := rfl
@[simp] theorem State.wr64_stk (f g : Fld) (v : Nat) : (s.wr64 f g v).stk = s.stk := rfl
@[simp] theorem State.wr64_tpin (f g : Fld) (v : Nat) : (s.wr64 f g v).tpin = s.tpin := rfl
@[simp] theorem State.wr64_rfx (f g : Fld) (v : Nat) : (s.wr64 f g v).rfx = s.rfx := rfl
@[simp] theorem State.wr64_afe (f g : Fld) (v : Nat) : (s.wr64 f g v).afe = s.afe := rfl
@[simp] theorem State.wr64_sig (f g : Fld) (v : Nat) : (s.wr64 f g v).sig = s.sig := rfl
@[simp] theorem State.wr64_msr (f g : Fld) (v : Nat) : (s.wr64 f g v).msr = s.msr := rfl
@[simp] theorem State.wr64_loops (f g : Fld) (v : Nat) : (s.wr64 f g v).loops = s.loops := rfl
@[simp] theorem State.wr64_can (f g : Fld) (v : Nat) : (s.wr64 f g v).can = s.can := rfl
@[simp] theorem State.wr64_eth (f g : Fld) (v : Nat) : (s.wr64 f g v).eth = s.eth := rfl
@[simp] theorem State.wr64_twn (f g : Fld) (v : Nat) : (s.wr64 f g v).twn = s.twn := rfl
@[simp] theorem State.wr64_pair (f g : Fld) (v : Nat) : (s.wr64 f g v).pair = s.pair := rfl
@[simp] theorem State.wr64_sinks (f g : Fld) (v : Nat) : (s.wr64 f g v).sinks = s.sinks := rfl
@[simp] theorem State.wr64_out (f g : Fld) (v : Nat) : (s.wr64 f g v).out = s.out := rfl
@[simp] theorem State.wr64_pending (f g : Fld) (v : Nat) : (s.wr64 f g v).pending = s.pending := rfl

/-! ## emit -/

@[simp] theorem State.emit_regs (x : Out) : (s.emit x).regs = s.regs := rfl
@[simp] theorem State.emit_mem (x : Out) : (s.emit x).mem = s.mem := rfl
@[simp] theorem State.emit_memErr (x : Out) : (s.emit x).memErr = s.memErr := rfl
@[simp] theorem State.emit_memEpoch (x : Out) : (s.emit x).memEpoch = s.memEpoch := rfl
@[simp] theorem State.emit_freeCount (x : Out) : (s.emit x).freeCount = s.freeCount := rfl
@[simp] theorem State.emit_fuses (x : Out) : (s.emit x).fuses = s.fuses := rfl
@[simp] theorem State.emit_clk (x : Out) : (s.emit x).clk = s.clk := rfl
@[simp] theorem State.emit_host (x : Out) : (s.emit x).host = s.host := rfl
@[simp] theorem State.emit_links (x : Out) : (s.emit x).links = s.links := rfl
@[simp] theorem State.emit_dies (x : Out) : (s.emit x).dies = s.dies := rfl
@[simp] theorem State.emit_fio (x : Out) : (s.emit x).fio = s.fio := rfl
@[simp] theorem State.emit_fans (x : Out) : (s.emit x).fans = s.fans := rfl
@[simp] theorem State.emit_thm (x : Out) : (s.emit x).thm = s.thm := rfl
@[simp] theorem State.emit_loader (x : Out) : (s.emit x).loader = s.loader := rfl
@[simp] theorem State.emit_trav (x : Out) : (s.emit x).trav = s.trav := rfl
@[simp] theorem State.emit_time (x : Out) : (s.emit x).time = s.time := rfl
@[simp] theorem State.emit_gns (x : Out) : (s.emit x).gns = s.gns := rfl
@[simp] theorem State.emit_memu (x : Out) : (s.emit x).memu = s.memu := rfl
@[simp] theorem State.emit_spoor (x : Out) : (s.emit x).spoor = s.spoor := rfl
@[simp] theorem State.emit_pix (x : Out) : (s.emit x).pix = s.pix := rfl
@[simp] theorem State.emit_tally (x : Out) : (s.emit x).tally = s.tally := rfl
@[simp] theorem State.emit_stk (x : Out) : (s.emit x).stk = s.stk := rfl
@[simp] theorem State.emit_tpin (x : Out) : (s.emit x).tpin = s.tpin := rfl
@[simp] theorem State.emit_rfx (x : Out) : (s.emit x).rfx = s.rfx := rfl
@[simp] theorem State.emit_afe (x : Out) : (s.emit x).afe = s.afe := rfl
@[simp] theorem State.emit_sig (x : Out) : (s.emit x).sig = s.sig := rfl
@[simp] theorem State.emit_msr (x : Out) : (s.emit x).msr = s.msr := rfl
@[simp] theorem State.emit_loops (x : Out) : (s.emit x).loops = s.loops := rfl
@[simp] theorem State.emit_can (x : Out) : (s.emit x).can = s.can := rfl
@[simp] theorem State.emit_eth (x : Out) : (s.emit x).eth = s.eth := rfl
@[simp] theorem State.emit_twn (x : Out) : (s.emit x).twn = s.twn := rfl
@[simp] theorem State.emit_pair (x : Out) : (s.emit x).pair = s.pair := rfl
@[simp] theorem State.emit_sinks (x : Out) : (s.emit x).sinks = s.sinks := rfl
@[simp] theorem State.emit_out (x : Out) : (s.emit x).out = x :: s.out := rfl
@[simp] theorem State.emit_pending (x : Out) : (s.emit x).pending = s.pending := rfl
@[simp] theorem State.emit_reg (x : Out) (a : Nat) : (s.emit x).reg a = s.reg a := rfl
@[simp] theorem State.emit_rdij (x : Out) (f : Fld) (i j : Nat) : (s.emit x).rdij f i j = s.rdij f i j := rfl

end Sys2Proof.Machine
end

