-- ==== Sys2Proof/Laws/Regs.lean ====
section
/-! SUPPORT. The laws of the register file: a register and a field read back what was written, other registers and
fields stay, the canonical form stays. -/

namespace Sys2Proof.Machine

variable (s : State)

theorem State.reg_lt (a : Nat) : s.reg a < 2 ^ 32 := by
  unfold State.reg
  exact (cellGet regReset s.regs a).isLt

@[simp] theorem State.reg_setReg_same (a v : Nat) : (s.setReg a v).reg a = v % 2 ^ 32 := by
  simp [State.reg, State.setReg]

theorem State.reg_setReg_ne {a b : Nat} (v : Nat) (h : b ≠ a) : (s.setReg a v).reg b = s.reg b := by
  simp [State.reg, State.setReg, cellGet_cellPut_ne regReset s.regs _ h]

theorem State.reg_setReg (a b v : Nat) : (s.setReg a v).reg b = if b = a then v % 2 ^ 32 else s.reg b := by
  split
  · next h => subst h; exact State.reg_setReg_same s b v
  · next h => exact State.reg_setReg_ne s v h

/-- A field reads back what was written. -/
theorem State.rdij_wrij_same (f : Fld) (i j v : Nat) (h : f.lo ≤ f.hi) (w : f.hi < 32) :
    (s.wrij f i j v).rdij f i j = v % 2 ^ (f.hi + 1 - f.lo) := by
  have lt := setBits_lt (s.reg (f.addr i j)) v h w (State.reg_lt s _)
  simp only [State.rdij, State.wrij, State.reg_setReg_same, Nat.mod_eq_of_lt lt]
  exact bitsOf_setBits_same _ _ h

/-- A field of another register stays. -/
theorem State.rdij_wrij_ne (f g : Fld) (i j k l v : Nat) (h : g.addr k l ≠ f.addr i j) :
    (s.wrij f i j v).rdij g k l = s.rdij g k l := by
  simp only [State.rdij, State.wrij]
  rw [State.reg_setReg_ne s _ h]

/-- Another field of the same register stays. -/
theorem State.rdij_wrij_field (f g : Fld) (i j k l v : Nat) (h : f.lo ≤ f.hi) (w : f.hi < 32)
    (d : g.hi < f.lo ∨ f.hi < g.lo) : (s.wrij f i j v).rdij g k l = s.rdij g k l := by
  by_cases e : g.addr k l = f.addr i j
  · have lt := setBits_lt (s.reg (f.addr i j)) v h w (State.reg_lt s _)
    simp only [State.rdij, State.wrij, e, State.reg_setReg_same, Nat.mod_eq_of_lt lt]
    rcases d with d | d
    · exact bitsOf_setBits_below _ _ h d
    · exact bitsOf_setBits_above _ _ h d
  · exact State.rdij_wrij_ne s f g i j k l v e

/-- A register other than the field's stays. -/
theorem State.reg_wrij_ne (f : Fld) (i j v a : Nat) (h : a ≠ f.addr i j) : (s.wrij f i j v).reg a = s.reg a := by
  simp only [State.wrij]
  exact State.reg_setReg_ne s _ h

/-! ## Fields apart from each other -/

/-- The last address of a field. -/
def Fld.last (f : Fld) : Nat := f.base + f.stride * (f.count - 1) + f.stride2 * (f.count2 - 1)

/-- No register write of field `f` touches field `g`: other bits, other addresses, or another place in the strides. -/
def Fld.apart (f g : Fld) : Bool :=
  decide (f.lo ≤ f.hi ∧ f.hi < 32 ∧ (g.hi < f.lo ∨ f.hi < g.lo)) ||
  decide (0 < f.count ∧ 0 < f.count2 ∧ 0 < g.count ∧ 0 < g.count2 ∧ (f.last < g.base ∨ g.last < f.base)) ||
  decide (f.base % ((f.stride.gcd f.stride2).gcd (g.stride.gcd g.stride2)) ≠
    g.base % ((f.stride.gcd f.stride2).gcd (g.stride.gcd g.stride2)))

theorem Fld.addr_le (f : Fld) (i j : Nat) (h : 0 < f.count) (h2 : 0 < f.count2) : f.addr i j ≤ f.last := by
  have a := Nat.mul_le_mul_left f.stride (Nat.le_sub_one_of_lt (Nat.mod_lt i h))
  have b := Nat.mul_le_mul_left f.stride2 (Nat.le_sub_one_of_lt (Nat.mod_lt j h2))
  unfold Fld.addr Fld.last
  omega

theorem Fld.base_le_addr (f : Fld) (i j : Nat) : f.base ≤ f.addr i j := by unfold Fld.addr; omega

theorem Fld.addr_mod (f : Fld) (i j d : Nat) (h : d ∣ f.stride) (h2 : d ∣ f.stride2) : f.addr i j % d = f.base % d := by
  obtain ⟨a, ha⟩ := h
  obtain ⟨b, hb⟩ := h2
  unfold Fld.addr
  rw [ha, hb, Nat.mul_assoc, Nat.mul_assoc, Nat.add_mul_mod_self_left, Nat.add_mul_mod_self_left]

/-- A field apart from the written one reads as before, whatever the instances. -/
theorem State.rdij_wrij_apart (f g : Fld) (i j k l v : Nat) (h : f.apart g = true) :
    (s.wrij f i j v).rdij g k l = s.rdij g k l := by
  simp only [Fld.apart, Bool.or_eq_true, decide_eq_true_eq] at h
  rcases h with (⟨a, b, c⟩ | ⟨a, b, c, d, e⟩) | h
  · exact State.rdij_wrij_field s f g i j k l v a b c
  · refine State.rdij_wrij_ne s f g i j k l v ?_
    have h1 := f.addr_le i j a b
    have h2 := g.addr_le k l c d
    have h3 := f.base_le_addr i j
    have h4 := g.base_le_addr k l
    omega
  · refine State.rdij_wrij_ne s f g i j k l v fun e => h ?_
    rw [← Fld.addr_mod f i j _ ((Nat.gcd_dvd_left _ _).trans (Nat.gcd_dvd_left _ _))
      ((Nat.gcd_dvd_left _ _).trans (Nat.gcd_dvd_right _ _)),
      ← Fld.addr_mod g k l _ ((Nat.gcd_dvd_right _ _).trans (Nat.gcd_dvd_left _ _))
      ((Nat.gcd_dvd_right _ _).trans (Nat.gcd_dvd_right _ _)), e]

/-- Another instance of a field whose strides keep its instances apart. -/
theorem Fld.addr_ne (f : Fld) {i k : Nat} (h : 0 < f.stride) (hi : i % f.count ≠ k % f.count) :
    f.addr k 0 ≠ f.addr i 0 := by
  unfold Fld.addr
  intro e
  have e2 : f.stride * (k % f.count) = f.stride * (i % f.count) := by omega
  exact hi (Nat.eq_of_mul_eq_mul_left h e2).symm

/-- Another instance of the written field stays. -/
theorem State.rdi_wri_ne (f : Fld) {i k : Nat} (v : Nat) (h : 0 < f.stride) (hi : i % f.count ≠ k % f.count) :
    (s.wri f i v).rdi f k = s.rdi f k := State.rdij_wrij_ne s f f i 0 k 0 v (f.addr_ne h hi)

theorem State.rdij_lt (f : Fld) (i j : Nat) : s.rdij f i j < 2 ^ (f.hi + 1 - f.lo) := bitsOf_lt _ _ _

/-- A register write keeps every store canonical. -/
theorem State.setReg_storesWf (a v : Nat) (h : s.storesWf) : (s.setReg a v).storesWf :=
  ⟨cellPut_wf regReset a _ h.1, h.2.1, h.2.2⟩

theorem State.wrij_storesWf (f : Fld) (i j v : Nat) (h : s.storesWf) : (s.wrij f i j v).storesWf :=
  State.setReg_storesWf s _ _ h

/-- An event of a present unit in a powered core sets its bit. -/
theorem State.raise_evt (w e : Nat) (p : s.winPresent w = true) (q : s.host.halted = false) :
    ∃ t : State, s.raise w e = t ∧ t.rdi UNIT_EVT_EVT w = setBit (s.rdi UNIT_EVT_EVT w) e true % 2 ^ 32 := by
  refine ⟨_, rfl, ?_⟩
  have key := State.rdij_wrij_same s UNIT_EVT_EVT w 0 (setBit (s.rdi UNIT_EVT_EVT w) e true) (by decide) (by decide)
  have m : ∀ (t : State) (v : Nat), (t.msix v).rdi UNIT_EVT_EVT w = t.rdi UNIT_EVT_EVT w := by
    intro t v; unfold State.msix; split <;> rfl
  unfold State.raise
  simp only [p, q, Bool.not_false, Bool.and_self, if_true]
  split
  · rw [m]; exact key
  · exact key

/-- The event's bit reads 1 afterwards. -/
theorem State.raise_bit (w e : Nat) (p : s.winPresent w = true) (q : s.host.halted = false) (he : e < 32) :
    bitAt ((s.raise w e).rdi UNIT_EVT_EVT w) e = true := by
  obtain ⟨t, ht, h⟩ := State.raise_evt s w e p q
  have lt : s.rdi UNIT_EVT_EVT w < 2 ^ 32 := State.rdij_lt s UNIT_EVT_EVT w 0
  rw [ht, h, Nat.mod_eq_of_lt (setBit_lt _ _ he lt), bitAt_setBit_same]

/-- An event changes registers, the outputs and the pending vectors only. -/
theorem State.raise_mem (w e : Nat) : (s.raise w e).mem = s.mem := by
  have m : ∀ (t : State) (v : Nat), (t.msix v).mem = t.mem := by
    intro t v; unfold State.msix; split <;> rfl
  unfold State.raise
  dsimp only
  split
  · split
    · rw [m]; rfl
    · rfl
  · rfl

end Sys2Proof.Machine
end

