-- ==== Sys2Proof/Laws/Frame.lean ====
section
/-! SUPPORT. Frames: which parts of the state an operation can change, and that it keeps every store canonical. The
lemmas of Laws/Frame<Family>.lean give the frame of each operation; a claim about a part cites them. -/

namespace Sys2Proof.Machine

open Sys2Proof

/-- The bit of a part in a frame's mask. -/
def Part.ix : Part → Nat
  | .regs => 0
  | .mem => 1
  | .memErr => 2
  | .memEpoch => 3
  | .freeCount => 4
  | .fusesFixed => 5
  | .fusesFieldRows => 6
  | .clk => 7
  | .hostMsixTable => 8
  | .hostMsixMask => 9
  | .hostMsixPba => 10
  | .hostPcieUp => 11
  | .hostLastWrite => 12
  | .hostLastRead => 13
  | .hostLatchHi => 14
  | .hostHeldLo => 15
  | .hostDma => 16
  | .hostWdStart => 17
  | .hostAsleep => 18
  | .hostWake => 19
  | .hostResetAt => 20
  | .hostUresetAt => 21
  | .hostHalted => 22
  | .links => 23
  | .dies => 24
  | .fio => 25
  | .fans => 26
  | .thm => 27
  | .loaderCommitted => 28
  | .loaderRecs => 29
  | .loaderImageRecs => 30
  | .loaderStaged => 31
  | .loaderReport => 32
  | .loaderPendingAmends => 33
  | .loaderApplied => 34
  | .loaderCommitTime => 35
  | .trav => 36
  | .time => 37
  | .gns => 38
  | .memu => 39
  | .spoor => 40
  | .pix => 41
  | .tally => 42
  | .stk => 43
  | .tpin => 44
  | .rfx => 45
  | .afe => 46
  | .sig => 47
  | .msr => 48
  | .loops => 49
  | .can => 50
  | .eth => 51
  | .twn => 52
  | .pair => 53
  | .sinks => 54
  | .out => 55
  | .pending => 56
  | .win w => 57 + w.val
  | .evts => 89

/-- From `s` to `t` nothing changes but the parts of mask `m`, and canonical stores stay canonical. -/
def Frame (m : Nat) (s t : State) : Prop :=
  (∀ p : Part, m.testBit p.ix = false → p.same s t) ∧ (s.storesWf → t.storesWf)

/-- The mask of a list of parts. -/
def maskOf : List Part → Nat
  | [] => 0
  | p :: l => 2 ^ p.ix ||| maskOf l

theorem Part.ix_inj {p q : Part} (h : p.ix = q.ix) : p = q := by
  cases p <;> cases q <;> simp only [Part.ix] at h <;> first
    | rfl
    | exact absurd h (by decide)
    | (next w => have := w.isLt; omega)
    | (next w v => exact congrArg Part.win (Fin.ext (by omega)))

theorem maskOf_testBit {p : Part} {l : List Part} (h : p ∉ l) : (maskOf l).testBit p.ix = false := by
  induction l with
  | nil => exact Nat.zero_testBit _
  | cons q l ih =>
    rw [maskOf, Nat.testBit_or, ih fun e => h (List.mem_cons_of_mem _ e), Bool.or_false, Nat.testBit_two_pow]
    exact decide_eq_false fun e => h (Part.ix_inj e ▸ List.mem_cons_self ..)

/-- A frame as a list of parts. -/
theorem Frame.changesOnly {m : Nat} {s t : State} (h : Frame m s t) (l : List Part) (hm : m &&& maskOf l = m) :
    ChangesOnly l s t := by
  intro p hp
  refine h.1 p ?_
  rw [← hm, Nat.testBit_land, maskOf_testBit hp, Bool.and_false]

theorem Part.same_rfl (s : State) (p : Part) : p.same s s := by cases p <;> simp [Part.same]

theorem Part.same_trans {s t u : State} {p : Part} (h : p.same s t) (k : p.same t u) : p.same s u := by
  cases p <;> simp only [Part.same] at * <;> first
    | exact k.trans h
    | exact k.trans (by rw [h])
    | exact fun a ha hb => (k a ha hb).trans (h a ha hb)
    | exact fun a ha => (k a ha).trans (h a ha)

theorem Frame.rfl (m : Nat) (s : State) : Frame m s s := ⟨fun p _ => Part.same_rfl s p, id⟩

theorem Frame.trans {m : Nat} {s t u : State} (h : Frame m s t) (k : Frame m t u) : Frame m s u :=
  ⟨fun p hp => Part.same_trans (h.1 p hp) (k.1 p hp), fun w => k.2 (h.2 w)⟩

theorem Frame.mono {k m : Nat} {s t : State} (h : Frame k s t) (hm : k &&& m = k) : Frame m s t := by
  refine ⟨fun p hp => h.1 p ?_, h.2⟩
  rw [← hm, Nat.testBit_land, hp, Bool.and_false]

/-- A frame after another, in a wider mask. -/
theorem Frame.comp {k m : Nat} {s t u : State} (h : Frame k t u) (hm : k &&& m = k) (f : Frame m s t) : Frame m s u :=
  f.trans (h.mono hm)

theorem Frame.ite {m : Nat} {s a b : State} {c : Prop} [Decidable c] (h : Frame m s a) (k : Frame m s b) :
    Frame m s (if c then a else b) := by split <;> assumption

theorem Frame.ite2 {α : Type} {m : Nat} {s : State} {a b : α × State} {c : Prop} [Decidable c] (h : Frame m s a.2)
    (k : Frame m s b.2) : Frame m s (if c then a else b).2 := by split <;> assumption

theorem Frame.foldl {α : Type} {m : Nat} {s t : State} {f : State → α → State} (l : List α) (h : Frame m s t)
    (k : ∀ u x, Frame m u (f u x)) : Frame m s (l.foldl f t) := by
  induction l generalizing t with
  | nil => exact h
  | cons x l ih => exact ih (h.trans (k t x))

theorem Frame.foldl2 {α β : Type} {m : Nat} {s : State} {t : β × State} {f : β × State → α → β × State} (l : List α)
    (h : Frame m s t.2) (k : ∀ u x, Frame m u.2 (f u x).2) : Frame m s (l.foldl f t).2 := by
  induction l generalizing t with
  | nil => exact h
  | cons x l ih => exact ih (h.trans (k t x))

/-- A frame of a step: whatever next state it answers. -/
def FrameO (m : Nat) (s : State) (o : Host.Outcome State Fault Refusal) : Prop := ∀ t, o = .next t → Frame m s t

theorem FrameO.ok {m : Nat} {s t : State} (h : Frame m s t) : FrameO m s (Sys2Proof.Machine.ok t) := by
  intro u e
  cases e
  exact h

theorem FrameO.next {m : Nat} {s t : State} (h : Frame m s t) : FrameO m s (.next t) := FrameO.ok h

theorem FrameO.ite {m : Nat} {s : State} {a b : Host.Outcome State Fault Refusal} {c : Prop} [Decidable c]
    (h : FrameO m s a) (k : FrameO m s b) : FrameO m s (if c then a else b) := by split <;> assumption

theorem FrameO.powered {m : Nat} {s t : State} {o : Host.Outcome State Fault Refusal} (h : Frame m s t) (k : FrameO m s o) :
    FrameO m s (t.powered o) := by
  unfold State.powered
  exact FrameO.ite (FrameO.ok h) k

theorem FrameO.comp {k m : Nat} {s t : State} {o : Host.Outcome State Fault Refusal} (h : FrameO k t o) (hm : k &&& m = k)
    (f : Frame m s t) : FrameO m s o := fun u e => (h u e).comp hm f

/-! ## Changes of one part -/

theorem Frame.put_freeCount {m : Nat} {s t : State} (x) (hm : 0x10 &&& m = 0x10) (h : Frame m s t) :
    Frame m s ⟨t.regs, t.mem, t.memErr, t.memEpoch, x, t.fuses, t.clk, t.host, t.links, t.dies, t.fio, t.fans, t.thm, t.loader, t.trav, t.time, t.gns, t.memu, t.spoor, t.pix, t.tally, t.stk, t.tpin, t.rfx, t.afe, t.sig, t.msr, t.loops, t.can, t.eth, t.twn, t.pair, t.sinks, t.out, t.pending⟩ := by
  refine Frame.comp (k := 0x10) (t := t) ⟨fun p hp => ?_, id⟩ hm h
  cases p <;> first | exact Eq.refl _ | exact fun _ _ => Eq.refl _ | exact fun _ _ _ => Eq.refl _ | exact absurd hp (by decide)

theorem Frame.put_clk {m : Nat} {s t : State} (x) (hm : 0x80 &&& m = 0x80) (h : Frame m s t) :
    Frame m s ⟨t.regs, t.mem, t.memErr, t.memEpoch, t.freeCount, t.fuses, x, t.host, t.links, t.dies, t.fio, t.fans, t.thm, t.loader, t.trav, t.time, t.gns, t.memu, t.spoor, t.pix, t.tally, t.stk, t.tpin, t.rfx, t.afe, t.sig, t.msr, t.loops, t.can, t.eth, t.twn, t.pair, t.sinks, t.out, t.pending⟩ := by
  refine Frame.comp (k := 0x80) (t := t) ⟨fun p hp => ?_, id⟩ hm h
  cases p <;> first | exact Eq.refl _ | exact fun _ _ => Eq.refl _ | exact fun _ _ _ => Eq.refl _ | exact absurd hp (by decide)

theorem Frame.put_host {m : Nat} {s t : State} (x) (hm : 0x7fff00 &&& m = 0x7fff00) (h : Frame m s t) :
    Frame m s ⟨t.regs, t.mem, t.memErr, t.memEpoch, t.freeCount, t.fuses, t.clk, x, t.links, t.dies, t.fio, t.fans, t.thm, t.loader, t.trav, t.time, t.gns, t.memu, t.spoor, t.pix, t.tally, t.stk, t.tpin, t.rfx, t.afe, t.sig, t.msr, t.loops, t.can, t.eth, t.twn, t.pair, t.sinks, t.out, t.pending⟩ := by
  refine Frame.comp (k := 0x7fff00) (t := t) ⟨fun p hp => ?_, id⟩ hm h
  cases p <;> first | exact Eq.refl _ | exact fun _ _ => Eq.refl _ | exact fun _ _ _ => Eq.refl _ | exact absurd hp (by decide)

theorem Frame.put_links {m : Nat} {s t : State} (x) (hm : 0x800000 &&& m = 0x800000) (h : Frame m s t) :
    Frame m s ⟨t.regs, t.mem, t.memErr, t.memEpoch, t.freeCount, t.fuses, t.clk, t.host, x, t.dies, t.fio, t.fans, t.thm, t.loader, t.trav, t.time, t.gns, t.memu, t.spoor, t.pix, t.tally, t.stk, t.tpin, t.rfx, t.afe, t.sig, t.msr, t.loops, t.can, t.eth, t.twn, t.pair, t.sinks, t.out, t.pending⟩ := by
  refine Frame.comp (k := 0x800000) (t := t) ⟨fun p hp => ?_, id⟩ hm h
  cases p <;> first | exact Eq.refl _ | exact fun _ _ => Eq.refl _ | exact fun _ _ _ => Eq.refl _ | exact absurd hp (by decide)

theorem Frame.put_dies {m : Nat} {s t : State} (x) (hm : 0x1000000 &&& m = 0x1000000) (h : Frame m s t) :
    Frame m s ⟨t.regs, t.mem, t.memErr, t.memEpoch, t.freeCount, t.fuses, t.clk, t.host, t.links, x, t.fio, t.fans, t.thm, t.loader, t.trav, t.time, t.gns, t.memu, t.spoor, t.pix, t.tally, t.stk, t.tpin, t.rfx, t.afe, t.sig, t.msr, t.loops, t.can, t.eth, t.twn, t.pair, t.sinks, t.out, t.pending⟩ := by
  refine Frame.comp (k := 0x1000000) (t := t) ⟨fun p hp => ?_, id⟩ hm h
  cases p <;> first | exact Eq.refl _ | exact fun _ _ => Eq.refl _ | exact fun _ _ _ => Eq.refl _ | exact absurd hp (by decide)

theorem Frame.put_fio {m : Nat} {s t : State} (x) (hm : 0x2000000 &&& m = 0x2000000) (h : Frame m s t) :
    Frame m s ⟨t.regs, t.mem, t.memErr, t.memEpoch, t.freeCount, t.fuses, t.clk, t.host, t.links, t.dies, x, t.fans, t.thm, t.loader, t.trav, t.time, t.gns, t.memu, t.spoor, t.pix, t.tally, t.stk, t.tpin, t.rfx, t.afe, t.sig, t.msr, t.loops, t.can, t.eth, t.twn, t.pair, t.sinks, t.out, t.pending⟩ := by
  refine Frame.comp (k := 0x2000000) (t := t) ⟨fun p hp => ?_, id⟩ hm h
  cases p <;> first | exact Eq.refl _ | exact fun _ _ => Eq.refl _ | exact fun _ _ _ => Eq.refl _ | exact absurd hp (by decide)

theorem Frame.put_fans {m : Nat} {s t : State} (x) (hm : 0x4000000 &&& m = 0x4000000) (h : Frame m s t) :
    Frame m s ⟨t.regs, t.mem, t.memErr, t.memEpoch, t.freeCount, t.fuses, t.clk, t.host, t.links, t.dies, t.fio, x, t.thm, t.loader, t.trav, t.time, t.gns, t.memu, t.spoor, t.pix, t.tally, t.stk, t.tpin, t.rfx, t.afe, t.sig, t.msr, t.loops, t.can, t.eth, t.twn, t.pair, t.sinks, t.out, t.pending⟩ := by
  refine Frame.comp (k := 0x4000000) (t := t) ⟨fun p hp => ?_, id⟩ hm h
  cases p <;> first | exact Eq.refl _ | exact fun _ _ => Eq.refl _ | exact fun _ _ _ => Eq.refl _ | exact absurd hp (by decide)

theorem Frame.put_thm {m : Nat} {s t : State} (x) (hm : 0x8000000 &&& m = 0x8000000) (h : Frame m s t) :
    Frame m s ⟨t.regs, t.mem, t.memErr, t.memEpoch, t.freeCount, t.fuses, t.clk, t.host, t.links, t.dies, t.fio, t.fans, x, t.loader, t.trav, t.time, t.gns, t.memu, t.spoor, t.pix, t.tally, t.stk, t.tpin, t.rfx, t.afe, t.sig, t.msr, t.loops, t.can, t.eth, t.twn, t.pair, t.sinks, t.out, t.pending⟩ := by
  refine Frame.comp (k := 0x8000000) (t := t) ⟨fun p hp => ?_, id⟩ hm h
  cases p <;> first | exact Eq.refl _ | exact fun _ _ => Eq.refl _ | exact fun _ _ _ => Eq.refl _ | exact absurd hp (by decide)

theorem Frame.put_loader {m : Nat} {s t : State} (x) (hm : 0xff0000000 &&& m = 0xff0000000) (h : Frame m s t) :
    Frame m s ⟨t.regs, t.mem, t.memErr, t.memEpoch, t.freeCount, t.fuses, t.clk, t.host, t.links, t.dies, t.fio, t.fans, t.thm, x, t.trav, t.time, t.gns, t.memu, t.spoor, t.pix, t.tally, t.stk, t.tpin, t.rfx, t.afe, t.sig, t.msr, t.loops, t.can, t.eth, t.twn, t.pair, t.sinks, t.out, t.pending⟩ := by
  refine Frame.comp (k := 0xff0000000) (t := t) ⟨fun p hp => ?_, id⟩ hm h
  cases p <;> first | exact Eq.refl _ | exact fun _ _ => Eq.refl _ | exact fun _ _ _ => Eq.refl _ | exact absurd hp (by decide)

theorem Frame.put_trav {m : Nat} {s t : State} (x) (hm : 0x1000000000 &&& m = 0x1000000000) (h : Frame m s t) :
    Frame m s ⟨t.regs, t.mem, t.memErr, t.memEpoch, t.freeCount, t.fuses, t.clk, t.host, t.links, t.dies, t.fio, t.fans, t.thm, t.loader, x, t.time, t.gns, t.memu, t.spoor, t.pix, t.tally, t.stk, t.tpin, t.rfx, t.afe, t.sig, t.msr, t.loops, t.can, t.eth, t.twn, t.pair, t.sinks, t.out, t.pending⟩ := by
  refine Frame.comp (k := 0x1000000000) (t := t) ⟨fun p hp => ?_, id⟩ hm h
  cases p <;> first | exact Eq.refl _ | exact fun _ _ => Eq.refl _ | exact fun _ _ _ => Eq.refl _ | exact absurd hp (by decide)

theorem Frame.put_time {m : Nat} {s t : State} (x) (hm : 0x2000000000 &&& m = 0x2000000000) (h : Frame m s t) :
    Frame m s ⟨t.regs, t.mem, t.memErr, t.memEpoch, t.freeCount, t.fuses, t.clk, t.host, t.links, t.dies, t.fio, t.fans, t.thm, t.loader, t.trav, x, t.gns, t.memu, t.spoor, t.pix, t.tally, t.stk, t.tpin, t.rfx, t.afe, t.sig, t.msr, t.loops, t.can, t.eth, t.twn, t.pair, t.sinks, t.out, t.pending⟩ := by
  refine Frame.comp (k := 0x2000000000) (t := t) ⟨fun p hp => ?_, id⟩ hm h
  cases p <;> first | exact Eq.refl _ | exact fun _ _ => Eq.refl _ | exact fun _ _ _ => Eq.refl _ | exact absurd hp (by decide)

theorem Frame.put_gns {m : Nat} {s t : State} (x) (hm : 0x4000000000 &&& m = 0x4000000000) (h : Frame m s t) :
    Frame m s ⟨t.regs, t.mem, t.memErr, t.memEpoch, t.freeCount, t.fuses, t.clk, t.host, t.links, t.dies, t.fio, t.fans, t.thm, t.loader, t.trav, t.time, x, t.memu, t.spoor, t.pix, t.tally, t.stk, t.tpin, t.rfx, t.afe, t.sig, t.msr, t.loops, t.can, t.eth, t.twn, t.pair, t.sinks, t.out, t.pending⟩ := by
  refine Frame.comp (k := 0x4000000000) (t := t) ⟨fun p hp => ?_, id⟩ hm h
  cases p <;> first | exact Eq.refl _ | exact fun _ _ => Eq.refl _ | exact fun _ _ _ => Eq.refl _ | exact absurd hp (by decide)

theorem Frame.put_memu {m : Nat} {s t : State} (x) (hm : 0x8000000000 &&& m = 0x8000000000) (h : Frame m s t) :
    Frame m s ⟨t.regs, t.mem, t.memErr, t.memEpoch, t.freeCount, t.fuses, t.clk, t.host, t.links, t.dies, t.fio, t.fans, t.thm, t.loader, t.trav, t.time, t.gns, x, t.spoor, t.pix, t.tally, t.stk, t.tpin, t.rfx, t.afe, t.sig, t.msr, t.loops, t.can, t.eth, t.twn, t.pair, t.sinks, t.out, t.pending⟩ := by
  refine Frame.comp (k := 0x8000000000) (t := t) ⟨fun p hp => ?_, id⟩ hm h
  cases p <;> first | exact Eq.refl _ | exact fun _ _ => Eq.refl _ | exact fun _ _ _ => Eq.refl _ | exact absurd hp (by decide)

theorem Frame.put_spoor {m : Nat} {s t : State} (x) (hm : 0x10000000000 &&& m = 0x10000000000) (h : Frame m s t) :
    Frame m s ⟨t.regs, t.mem, t.memErr, t.memEpoch, t.freeCount, t.fuses, t.clk, t.host, t.links, t.dies, t.fio, t.fans, t.thm, t.loader, t.trav, t.time, t.gns, t.memu, x, t.pix, t.tally, t.stk, t.tpin, t.rfx, t.afe, t.sig, t.msr, t.loops, t.can, t.eth, t.twn, t.pair, t.sinks, t.out, t.pending⟩ := by
  refine Frame.comp (k := 0x10000000000) (t := t) ⟨fun p hp => ?_, id⟩ hm h
  cases p <;> first | exact Eq.refl _ | exact fun _ _ => Eq.refl _ | exact fun _ _ _ => Eq.refl _ | exact absurd hp (by decide)

theorem Frame.put_pix {m : Nat} {s t : State} (x) (hm : 0x20000000000 &&& m = 0x20000000000) (h : Frame m s t) :
    Frame m s ⟨t.regs, t.mem, t.memErr, t.memEpoch, t.freeCount, t.fuses, t.clk, t.host, t.links, t.dies, t.fio, t.fans, t.thm, t.loader, t.trav, t.time, t.gns, t.memu, t.spoor, x, t.tally, t.stk, t.tpin, t.rfx, t.afe, t.sig, t.msr, t.loops, t.can, t.eth, t.twn, t.pair, t.sinks, t.out, t.pending⟩ := by
  refine Frame.comp (k := 0x20000000000) (t := t) ⟨fun p hp => ?_, id⟩ hm h
  cases p <;> first | exact Eq.refl _ | exact fun _ _ => Eq.refl _ | exact fun _ _ _ => Eq.refl _ | exact absurd hp (by decide)

theorem Frame.put_tally {m : Nat} {s t : State} (x) (hm : 0x40000000000 &&& m = 0x40000000000) (h : Frame m s t) :
    Frame m s ⟨t.regs, t.mem, t.memErr, t.memEpoch, t.freeCount, t.fuses, t.clk, t.host, t.links, t.dies, t.fio, t.fans, t.thm, t.loader, t.trav, t.time, t.gns, t.memu, t.spoor, t.pix, x, t.stk, t.tpin, t.rfx, t.afe, t.sig, t.msr, t.loops, t.can, t.eth, t.twn, t.pair, t.sinks, t.out, t.pending⟩ := by
  refine Frame.comp (k := 0x40000000000) (t := t) ⟨fun p hp => ?_, id⟩ hm h
  cases p <;> first | exact Eq.refl _ | exact fun _ _ => Eq.refl _ | exact fun _ _ _ => Eq.refl _ | exact absurd hp (by decide)

theorem Frame.put_stk {m : Nat} {s t : State} (x) (hm : 0x80000000000 &&& m = 0x80000000000) (h : Frame m s t) :
    Frame m s ⟨t.regs, t.mem, t.memErr, t.memEpoch, t.freeCount, t.fuses, t.clk, t.host, t.links, t.dies, t.fio, t.fans, t.thm, t.loader, t.trav, t.time, t.gns, t.memu, t.spoor, t.pix, t.tally, x, t.tpin, t.rfx, t.afe, t.sig, t.msr, t.loops, t.can, t.eth, t.twn, t.pair, t.sinks, t.out, t.pending⟩ := by
  refine Frame.comp (k := 0x80000000000) (t := t) ⟨fun p hp => ?_, id⟩ hm h
  cases p <;> first | exact Eq.refl _ | exact fun _ _ => Eq.refl _ | exact fun _ _ _ => Eq.refl _ | exact absurd hp (by decide)

theorem Frame.put_tpin {m : Nat} {s t : State} (x) (hm : 0x100000000000 &&& m = 0x100000000000) (h : Frame m s t) :
    Frame m s ⟨t.regs, t.mem, t.memErr, t.memEpoch, t.freeCount, t.fuses, t.clk, t.host, t.links, t.dies, t.fio, t.fans, t.thm, t.loader, t.trav, t.time, t.gns, t.memu, t.spoor, t.pix, t.tally, t.stk, x, t.rfx, t.afe, t.sig, t.msr, t.loops, t.can, t.eth, t.twn, t.pair, t.sinks, t.out, t.pending⟩ := by
  refine Frame.comp (k := 0x100000000000) (t := t) ⟨fun p hp => ?_, id⟩ hm h
  cases p <;> first | exact Eq.refl _ | exact fun _ _ => Eq.refl _ | exact fun _ _ _ => Eq.refl _ | exact absurd hp (by decide)

theorem Frame.put_rfx {m : Nat} {s t : State} (x) (hm : 0x200000000000 &&& m = 0x200000000000) (h : Frame m s t) :
    Frame m s ⟨t.regs, t.mem, t.memErr, t.memEpoch, t.freeCount, t.fuses, t.clk, t.host, t.links, t.dies, t.fio, t.fans, t.thm, t.loader, t.trav, t.time, t.gns, t.memu, t.spoor, t.pix, t.tally, t.stk, t.tpin, x, t.afe, t.sig, t.msr, t.loops, t.can, t.eth, t.twn, t.pair, t.sinks, t.out, t.pending⟩ := by
  refine Frame.comp (k := 0x200000000000) (t := t) ⟨fun p hp => ?_, id⟩ hm h
  cases p <;> first | exact Eq.refl _ | exact fun _ _ => Eq.refl _ | exact fun _ _ _ => Eq.refl _ | exact absurd hp (by decide)

theorem Frame.put_afe {m : Nat} {s t : State} (x) (hm : 0x400000000000 &&& m = 0x400000000000) (h : Frame m s t) :
    Frame m s ⟨t.regs, t.mem, t.memErr, t.memEpoch, t.freeCount, t.fuses, t.clk, t.host, t.links, t.dies, t.fio, t.fans, t.thm, t.loader, t.trav, t.time, t.gns, t.memu, t.spoor, t.pix, t.tally, t.stk, t.tpin, t.rfx, x, t.sig, t.msr, t.loops, t.can, t.eth, t.twn, t.pair, t.sinks, t.out, t.pending⟩ := by
  refine Frame.comp (k := 0x400000000000) (t := t) ⟨fun p hp => ?_, id⟩ hm h
  cases p <;> first | exact Eq.refl _ | exact fun _ _ => Eq.refl _ | exact fun _ _ _ => Eq.refl _ | exact absurd hp (by decide)

theorem Frame.put_sig {m : Nat} {s t : State} (x) (hm : 0x800000000000 &&& m = 0x800000000000) (h : Frame m s t) :
    Frame m s ⟨t.regs, t.mem, t.memErr, t.memEpoch, t.freeCount, t.fuses, t.clk, t.host, t.links, t.dies, t.fio, t.fans, t.thm, t.loader, t.trav, t.time, t.gns, t.memu, t.spoor, t.pix, t.tally, t.stk, t.tpin, t.rfx, t.afe, x, t.msr, t.loops, t.can, t.eth, t.twn, t.pair, t.sinks, t.out, t.pending⟩ := by
  refine Frame.comp (k := 0x800000000000) (t := t) ⟨fun p hp => ?_, id⟩ hm h
  cases p <;> first | exact Eq.refl _ | exact fun _ _ => Eq.refl _ | exact fun _ _ _ => Eq.refl _ | exact absurd hp (by decide)

theorem Frame.put_msr {m : Nat} {s t : State} (x) (hm : 0x1000000000000 &&& m = 0x1000000000000) (h : Frame m s t) :
    Frame m s ⟨t.regs, t.mem, t.memErr, t.memEpoch, t.freeCount, t.fuses, t.clk, t.host, t.links, t.dies, t.fio, t.fans, t.thm, t.loader, t.trav, t.time, t.gns, t.memu, t.spoor, t.pix, t.tally, t.stk, t.tpin, t.rfx, t.afe, t.sig, x, t.loops, t.can, t.eth, t.twn, t.pair, t.sinks, t.out, t.pending⟩ := by
  refine Frame.comp (k := 0x1000000000000) (t := t) ⟨fun p hp => ?_, id⟩ hm h
  cases p <;> first | exact Eq.refl _ | exact fun _ _ => Eq.refl _ | exact fun _ _ _ => Eq.refl _ | exact absurd hp (by decide)

theorem Frame.put_loops {m : Nat} {s t : State} (x) (hm : 0x2000000000000 &&& m = 0x2000000000000) (h : Frame m s t) :
    Frame m s ⟨t.regs, t.mem, t.memErr, t.memEpoch, t.freeCount, t.fuses, t.clk, t.host, t.links, t.dies, t.fio, t.fans, t.thm, t.loader, t.trav, t.time, t.gns, t.memu, t.spoor, t.pix, t.tally, t.stk, t.tpin, t.rfx, t.afe, t.sig, t.msr, x, t.can, t.eth, t.twn, t.pair, t.sinks, t.out, t.pending⟩ := by
  refine Frame.comp (k := 0x2000000000000) (t := t) ⟨fun p hp => ?_, id⟩ hm h
  cases p <;> first | exact Eq.refl _ | exact fun _ _ => Eq.refl _ | exact fun _ _ _ => Eq.refl _ | exact absurd hp (by decide)

theorem Frame.put_can {m : Nat} {s t : State} (x) (hm : 0x4000000000000 &&& m = 0x4000000000000) (h : Frame m s t) :
    Frame m s ⟨t.regs, t.mem, t.memErr, t.memEpoch, t.freeCount, t.fuses, t.clk, t.host, t.links, t.dies, t.fio, t.fans, t.thm, t.loader, t.trav, t.time, t.gns, t.memu, t.spoor, t.pix, t.tally, t.stk, t.tpin, t.rfx, t.afe, t.sig, t.msr, t.loops, x, t.eth, t.twn, t.pair, t.sinks, t.out, t.pending⟩ := by
  refine Frame.comp (k := 0x4000000000000) (t := t) ⟨fun p hp => ?_, id⟩ hm h
  cases p <;> first | exact Eq.refl _ | exact fun _ _ => Eq.refl _ | exact fun _ _ _ => Eq.refl _ | exact absurd hp (by decide)

theorem Frame.put_eth {m : Nat} {s t : State} (x) (hm : 0x8000000000000 &&& m = 0x8000000000000) (h : Frame m s t) :
    Frame m s ⟨t.regs, t.mem, t.memErr, t.memEpoch, t.freeCount, t.fuses, t.clk, t.host, t.links, t.dies, t.fio, t.fans, t.thm, t.loader, t.trav, t.time, t.gns, t.memu, t.spoor, t.pix, t.tally, t.stk, t.tpin, t.rfx, t.afe, t.sig, t.msr, t.loops, t.can, x, t.twn, t.pair, t.sinks, t.out, t.pending⟩ := by
  refine Frame.comp (k := 0x8000000000000) (t := t) ⟨fun p hp => ?_, id⟩ hm h
  cases p <;> first | exact Eq.refl _ | exact fun _ _ => Eq.refl _ | exact fun _ _ _ => Eq.refl _ | exact absurd hp (by decide)

theorem Frame.put_twn {m : Nat} {s t : State} (x) (hm : 0x10000000000000 &&& m = 0x10000000000000) (h : Frame m s t) :
    Frame m s ⟨t.regs, t.mem, t.memErr, t.memEpoch, t.freeCount, t.fuses, t.clk, t.host, t.links, t.dies, t.fio, t.fans, t.thm, t.loader, t.trav, t.time, t.gns, t.memu, t.spoor, t.pix, t.tally, t.stk, t.tpin, t.rfx, t.afe, t.sig, t.msr, t.loops, t.can, t.eth, x, t.pair, t.sinks, t.out, t.pending⟩ := by
  refine Frame.comp (k := 0x10000000000000) (t := t) ⟨fun p hp => ?_, id⟩ hm h
  cases p <;> first | exact Eq.refl _ | exact fun _ _ => Eq.refl _ | exact fun _ _ _ => Eq.refl _ | exact absurd hp (by decide)

theorem Frame.put_pair {m : Nat} {s t : State} (x) (hm : 0x20000000000000 &&& m = 0x20000000000000) (h : Frame m s t) :
    Frame m s ⟨t.regs, t.mem, t.memErr, t.memEpoch, t.freeCount, t.fuses, t.clk, t.host, t.links, t.dies, t.fio, t.fans, t.thm, t.loader, t.trav, t.time, t.gns, t.memu, t.spoor, t.pix, t.tally, t.stk, t.tpin, t.rfx, t.afe, t.sig, t.msr, t.loops, t.can, t.eth, t.twn, x, t.sinks, t.out, t.pending⟩ := by
  refine Frame.comp (k := 0x20000000000000) (t := t) ⟨fun p hp => ?_, id⟩ hm h
  cases p <;> first | exact Eq.refl _ | exact fun _ _ => Eq.refl _ | exact fun _ _ _ => Eq.refl _ | exact absurd hp (by decide)

theorem Frame.put_sinks {m : Nat} {s t : State} (x) (hm : 0x40000000000000 &&& m = 0x40000000000000) (h : Frame m s t) :
    Frame m s ⟨t.regs, t.mem, t.memErr, t.memEpoch, t.freeCount, t.fuses, t.clk, t.host, t.links, t.dies, t.fio, t.fans, t.thm, t.loader, t.trav, t.time, t.gns, t.memu, t.spoor, t.pix, t.tally, t.stk, t.tpin, t.rfx, t.afe, t.sig, t.msr, t.loops, t.can, t.eth, t.twn, t.pair, x, t.out, t.pending⟩ := by
  refine Frame.comp (k := 0x40000000000000) (t := t) ⟨fun p hp => ?_, id⟩ hm h
  cases p <;> first | exact Eq.refl _ | exact fun _ _ => Eq.refl _ | exact fun _ _ _ => Eq.refl _ | exact absurd hp (by decide)

theorem Frame.put_out {m : Nat} {s t : State} (x) (hm : 0x80000000000000 &&& m = 0x80000000000000) (h : Frame m s t) :
    Frame m s ⟨t.regs, t.mem, t.memErr, t.memEpoch, t.freeCount, t.fuses, t.clk, t.host, t.links, t.dies, t.fio, t.fans, t.thm, t.loader, t.trav, t.time, t.gns, t.memu, t.spoor, t.pix, t.tally, t.stk, t.tpin, t.rfx, t.afe, t.sig, t.msr, t.loops, t.can, t.eth, t.twn, t.pair, t.sinks, x, t.pending⟩ := by
  refine Frame.comp (k := 0x80000000000000) (t := t) ⟨fun p hp => ?_, id⟩ hm h
  cases p <;> first | exact Eq.refl _ | exact fun _ _ => Eq.refl _ | exact fun _ _ _ => Eq.refl _ | exact absurd hp (by decide)

theorem Frame.put_pending {m : Nat} {s t : State} (x) (hm : 0x100000000000000 &&& m = 0x100000000000000) (h : Frame m s t) :
    Frame m s ⟨t.regs, t.mem, t.memErr, t.memEpoch, t.freeCount, t.fuses, t.clk, t.host, t.links, t.dies, t.fio, t.fans, t.thm, t.loader, t.trav, t.time, t.gns, t.memu, t.spoor, t.pix, t.tally, t.stk, t.tpin, t.rfx, t.afe, t.sig, t.msr, t.loops, t.can, t.eth, t.twn, t.pair, t.sinks, t.out, x⟩ := by
  refine Frame.comp (k := 0x100000000000000) (t := t) ⟨fun p hp => ?_, id⟩ hm h
  cases p <;> first | exact Eq.refl _ | exact fun _ _ => Eq.refl _ | exact fun _ _ _ => Eq.refl _ | exact absurd hp (by decide)

theorem Frame.put_host_msixTable {m : Nat} {s t : State} (x) (hm : 0x100 &&& m = 0x100) (h : Frame m s t) :
    Frame m s ⟨t.regs, t.mem, t.memErr, t.memEpoch, t.freeCount, t.fuses, t.clk, ⟨x, t.host.msixMask, t.host.msixPba, t.host.pcieUp, t.host.lastWrite, t.host.lastRead, t.host.latchHi, t.host.heldLo, t.host.dma, t.host.wdStart, t.host.asleep, t.host.wake, t.host.resetAt, t.host.uresetAt, t.host.halted⟩, t.links, t.dies, t.fio, t.fans, t.thm, t.loader, t.trav, t.time, t.gns, t.memu, t.spoor, t.pix, t.tally, t.stk, t.tpin, t.rfx, t.afe, t.sig, t.msr, t.loops, t.can, t.eth, t.twn, t.pair, t.sinks, t.out, t.pending⟩ := by
  refine Frame.comp (k := 0x100) (t := t) ⟨fun p hp => ?_, id⟩ hm h
  cases p <;> first | exact Eq.refl _ | exact fun _ _ => Eq.refl _ | exact fun _ _ _ => Eq.refl _ | exact absurd hp (by decide)

theorem Frame.put_host_msixMask {m : Nat} {s t : State} (x) (hm : 0x200 &&& m = 0x200) (h : Frame m s t) :
    Frame m s ⟨t.regs, t.mem, t.memErr, t.memEpoch, t.freeCount, t.fuses, t.clk, ⟨t.host.msixTable, x, t.host.msixPba, t.host.pcieUp, t.host.lastWrite, t.host.lastRead, t.host.latchHi, t.host.heldLo, t.host.dma, t.host.wdStart, t.host.asleep, t.host.wake, t.host.resetAt, t.host.uresetAt, t.host.halted⟩, t.links, t.dies, t.fio, t.fans, t.thm, t.loader, t.trav, t.time, t.gns, t.memu, t.spoor, t.pix, t.tally, t.stk, t.tpin, t.rfx, t.afe, t.sig, t.msr, t.loops, t.can, t.eth, t.twn, t.pair, t.sinks, t.out, t.pending⟩ := by
  refine Frame.comp (k := 0x200) (t := t) ⟨fun p hp => ?_, id⟩ hm h
  cases p <;> first | exact Eq.refl _ | exact fun _ _ => Eq.refl _ | exact fun _ _ _ => Eq.refl _ | exact absurd hp (by decide)

theorem Frame.put_host_msixPba {m : Nat} {s t : State} (x) (hm : 0x400 &&& m = 0x400) (h : Frame m s t) :
    Frame m s ⟨t.regs, t.mem, t.memErr, t.memEpoch, t.freeCount, t.fuses, t.clk, ⟨t.host.msixTable, t.host.msixMask, x, t.host.pcieUp, t.host.lastWrite, t.host.lastRead, t.host.latchHi, t.host.heldLo, t.host.dma, t.host.wdStart, t.host.asleep, t.host.wake, t.host.resetAt, t.host.uresetAt, t.host.halted⟩, t.links, t.dies, t.fio, t.fans, t.thm, t.loader, t.trav, t.time, t.gns, t.memu, t.spoor, t.pix, t.tally, t.stk, t.tpin, t.rfx, t.afe, t.sig, t.msr, t.loops, t.can, t.eth, t.twn, t.pair, t.sinks, t.out, t.pending⟩ := by
  refine Frame.comp (k := 0x400) (t := t) ⟨fun p hp => ?_, id⟩ hm h
  cases p <;> first | exact Eq.refl _ | exact fun _ _ => Eq.refl _ | exact fun _ _ _ => Eq.refl _ | exact absurd hp (by decide)

theorem Frame.put_host_pcieUp {m : Nat} {s t : State} (x) (hm : 0x800 &&& m = 0x800) (h : Frame m s t) :
    Frame m s ⟨t.regs, t.mem, t.memErr, t.memEpoch, t.freeCount, t.fuses, t.clk, ⟨t.host.msixTable, t.host.msixMask, t.host.msixPba, x, t.host.lastWrite, t.host.lastRead, t.host.latchHi, t.host.heldLo, t.host.dma, t.host.wdStart, t.host.asleep, t.host.wake, t.host.resetAt, t.host.uresetAt, t.host.halted⟩, t.links, t.dies, t.fio, t.fans, t.thm, t.loader, t.trav, t.time, t.gns, t.memu, t.spoor, t.pix, t.tally, t.stk, t.tpin, t.rfx, t.afe, t.sig, t.msr, t.loops, t.can, t.eth, t.twn, t.pair, t.sinks, t.out, t.pending⟩ := by
  refine Frame.comp (k := 0x800) (t := t) ⟨fun p hp => ?_, id⟩ hm h
  cases p <;> first | exact Eq.refl _ | exact fun _ _ => Eq.refl _ | exact fun _ _ _ => Eq.refl _ | exact absurd hp (by decide)

theorem Frame.put_host_lastWrite {m : Nat} {s t : State} (x) (hm : 0x1000 &&& m = 0x1000) (h : Frame m s t) :
    Frame m s ⟨t.regs, t.mem, t.memErr, t.memEpoch, t.freeCount, t.fuses, t.clk, ⟨t.host.msixTable, t.host.msixMask, t.host.msixPba, t.host.pcieUp, x, t.host.lastRead, t.host.latchHi, t.host.heldLo, t.host.dma, t.host.wdStart, t.host.asleep, t.host.wake, t.host.resetAt, t.host.uresetAt, t.host.halted⟩, t.links, t.dies, t.fio, t.fans, t.thm, t.loader, t.trav, t.time, t.gns, t.memu, t.spoor, t.pix, t.tally, t.stk, t.tpin, t.rfx, t.afe, t.sig, t.msr, t.loops, t.can, t.eth, t.twn, t.pair, t.sinks, t.out, t.pending⟩ := by
  refine Frame.comp (k := 0x1000) (t := t) ⟨fun p hp => ?_, id⟩ hm h
  cases p <;> first | exact Eq.refl _ | exact fun _ _ => Eq.refl _ | exact fun _ _ _ => Eq.refl _ | exact absurd hp (by decide)

theorem Frame.put_host_lastRead {m : Nat} {s t : State} (x) (hm : 0x2000 &&& m = 0x2000) (h : Frame m s t) :
    Frame m s ⟨t.regs, t.mem, t.memErr, t.memEpoch, t.freeCount, t.fuses, t.clk, ⟨t.host.msixTable, t.host.msixMask, t.host.msixPba, t.host.pcieUp, t.host.lastWrite, x, t.host.latchHi, t.host.heldLo, t.host.dma, t.host.wdStart, t.host.asleep, t.host.wake, t.host.resetAt, t.host.uresetAt, t.host.halted⟩, t.links, t.dies, t.fio, t.fans, t.thm, t.loader, t.trav, t.time, t.gns, t.memu, t.spoor, t.pix, t.tally, t.stk, t.tpin, t.rfx, t.afe, t.sig, t.msr, t.loops, t.can, t.eth, t.twn, t.pair, t.sinks, t.out, t.pending⟩ := by
  refine Frame.comp (k := 0x2000) (t := t) ⟨fun p hp => ?_, id⟩ hm h
  cases p <;> first | exact Eq.refl _ | exact fun _ _ => Eq.refl _ | exact fun _ _ _ => Eq.refl _ | exact absurd hp (by decide)

theorem Frame.put_host_latchHi {m : Nat} {s t : State} (x) (hm : 0x4000 &&& m = 0x4000) (h : Frame m s t) :
    Frame m s ⟨t.regs, t.mem, t.memErr, t.memEpoch, t.freeCount, t.fuses, t.clk, ⟨t.host.msixTable, t.host.msixMask, t.host.msixPba, t.host.pcieUp, t.host.lastWrite, t.host.lastRead, x, t.host.heldLo, t.host.dma, t.host.wdStart, t.host.asleep, t.host.wake, t.host.resetAt, t.host.uresetAt, t.host.halted⟩, t.links, t.dies, t.fio, t.fans, t.thm, t.loader, t.trav, t.time, t.gns, t.memu, t.spoor, t.pix, t.tally, t.stk, t.tpin, t.rfx, t.afe, t.sig, t.msr, t.loops, t.can, t.eth, t.twn, t.pair, t.sinks, t.out, t.pending⟩ := by
  refine Frame.comp (k := 0x4000) (t := t) ⟨fun p hp => ?_, id⟩ hm h
  cases p <;> first | exact Eq.refl _ | exact fun _ _ => Eq.refl _ | exact fun _ _ _ => Eq.refl _ | exact absurd hp (by decide)

theorem Frame.put_host_heldLo {m : Nat} {s t : State} (x) (hm : 0x8000 &&& m = 0x8000) (h : Frame m s t) :
    Frame m s ⟨t.regs, t.mem, t.memErr, t.memEpoch, t.freeCount, t.fuses, t.clk, ⟨t.host.msixTable, t.host.msixMask, t.host.msixPba, t.host.pcieUp, t.host.lastWrite, t.host.lastRead, t.host.latchHi, x, t.host.dma, t.host.wdStart, t.host.asleep, t.host.wake, t.host.resetAt, t.host.uresetAt, t.host.halted⟩, t.links, t.dies, t.fio, t.fans, t.thm, t.loader, t.trav, t.time, t.gns, t.memu, t.spoor, t.pix, t.tally, t.stk, t.tpin, t.rfx, t.afe, t.sig, t.msr, t.loops, t.can, t.eth, t.twn, t.pair, t.sinks, t.out, t.pending⟩ := by
  refine Frame.comp (k := 0x8000) (t := t) ⟨fun p hp => ?_, id⟩ hm h
  cases p <;> first | exact Eq.refl _ | exact fun _ _ => Eq.refl _ | exact fun _ _ _ => Eq.refl _ | exact absurd hp (by decide)

theorem Frame.put_host_dma {m : Nat} {s t : State} (x) (hm : 0x10000 &&& m = 0x10000) (h : Frame m s t) :
    Frame m s ⟨t.regs, t.mem, t.memErr, t.memEpoch, t.freeCount, t.fuses, t.clk, ⟨t.host.msixTable, t.host.msixMask, t.host.msixPba, t.host.pcieUp, t.host.lastWrite, t.host.lastRead, t.host.latchHi, t.host.heldLo, x, t.host.wdStart, t.host.asleep, t.host.wake, t.host.resetAt, t.host.uresetAt, t.host.halted⟩, t.links, t.dies, t.fio, t.fans, t.thm, t.loader, t.trav, t.time, t.gns, t.memu, t.spoor, t.pix, t.tally, t.stk, t.tpin, t.rfx, t.afe, t.sig, t.msr, t.loops, t.can, t.eth, t.twn, t.pair, t.sinks, t.out, t.pending⟩ := by
  refine Frame.comp (k := 0x10000) (t := t) ⟨fun p hp => ?_, id⟩ hm h
  cases p <;> first | exact Eq.refl _ | exact fun _ _ => Eq.refl _ | exact fun _ _ _ => Eq.refl _ | exact absurd hp (by decide)

theorem Frame.put_host_wdStart {m : Nat} {s t : State} (x) (hm : 0x20000 &&& m = 0x20000) (h : Frame m s t) :
    Frame m s ⟨t.regs, t.mem, t.memErr, t.memEpoch, t.freeCount, t.fuses, t.clk, ⟨t.host.msixTable, t.host.msixMask, t.host.msixPba, t.host.pcieUp, t.host.lastWrite, t.host.lastRead, t.host.latchHi, t.host.heldLo, t.host.dma, x, t.host.asleep, t.host.wake, t.host.resetAt, t.host.uresetAt, t.host.halted⟩, t.links, t.dies, t.fio, t.fans, t.thm, t.loader, t.trav, t.time, t.gns, t.memu, t.spoor, t.pix, t.tally, t.stk, t.tpin, t.rfx, t.afe, t.sig, t.msr, t.loops, t.can, t.eth, t.twn, t.pair, t.sinks, t.out, t.pending⟩ := by
  refine Frame.comp (k := 0x20000) (t := t) ⟨fun p hp => ?_, id⟩ hm h
  cases p <;> first | exact Eq.refl _ | exact fun _ _ => Eq.refl _ | exact fun _ _ _ => Eq.refl _ | exact absurd hp (by decide)

theorem Frame.put_host_asleep {m : Nat} {s t : State} (x) (hm : 0x40000 &&& m = 0x40000) (h : Frame m s t) :
    Frame m s ⟨t.regs, t.mem, t.memErr, t.memEpoch, t.freeCount, t.fuses, t.clk, ⟨t.host.msixTable, t.host.msixMask, t.host.msixPba, t.host.pcieUp, t.host.lastWrite, t.host.lastRead, t.host.latchHi, t.host.heldLo, t.host.dma, t.host.wdStart, x, t.host.wake, t.host.resetAt, t.host.uresetAt, t.host.halted⟩, t.links, t.dies, t.fio, t.fans, t.thm, t.loader, t.trav, t.time, t.gns, t.memu, t.spoor, t.pix, t.tally, t.stk, t.tpin, t.rfx, t.afe, t.sig, t.msr, t.loops, t.can, t.eth, t.twn, t.pair, t.sinks, t.out, t.pending⟩ := by
  refine Frame.comp (k := 0x40000) (t := t) ⟨fun p hp => ?_, id⟩ hm h
  cases p <;> first | exact Eq.refl _ | exact fun _ _ => Eq.refl _ | exact fun _ _ _ => Eq.refl _ | exact absurd hp (by decide)

theorem Frame.put_host_wake {m : Nat} {s t : State} (x) (hm : 0x80000 &&& m = 0x80000) (h : Frame m s t) :
    Frame m s ⟨t.regs, t.mem, t.memErr, t.memEpoch, t.freeCount, t.fuses, t.clk, ⟨t.host.msixTable, t.host.msixMask, t.host.msixPba, t.host.pcieUp, t.host.lastWrite, t.host.lastRead, t.host.latchHi, t.host.heldLo, t.host.dma, t.host.wdStart, t.host.asleep, x, t.host.resetAt, t.host.uresetAt, t.host.halted⟩, t.links, t.dies, t.fio, t.fans, t.thm, t.loader, t.trav, t.time, t.gns, t.memu, t.spoor, t.pix, t.tally, t.stk, t.tpin, t.rfx, t.afe, t.sig, t.msr, t.loops, t.can, t.eth, t.twn, t.pair, t.sinks, t.out, t.pending⟩ := by
  refine Frame.comp (k := 0x80000) (t := t) ⟨fun p hp => ?_, id⟩ hm h
  cases p <;> first | exact Eq.refl _ | exact fun _ _ => Eq.refl _ | exact fun _ _ _ => Eq.refl _ | exact absurd hp (by decide)

theorem Frame.put_host_resetAt {m : Nat} {s t : State} (x) (hm : 0x100000 &&& m = 0x100000) (h : Frame m s t) :
    Frame m s ⟨t.regs, t.mem, t.memErr, t.memEpoch, t.freeCount, t.fuses, t.clk, ⟨t.host.msixTable, t.host.msixMask, t.host.msixPba, t.host.pcieUp, t.host.lastWrite, t.host.lastRead, t.host.latchHi, t.host.heldLo, t.host.dma, t.host.wdStart, t.host.asleep, t.host.wake, x, t.host.uresetAt, t.host.halted⟩, t.links, t.dies, t.fio, t.fans, t.thm, t.loader, t.trav, t.time, t.gns, t.memu, t.spoor, t.pix, t.tally, t.stk, t.tpin, t.rfx, t.afe, t.sig, t.msr, t.loops, t.can, t.eth, t.twn, t.pair, t.sinks, t.out, t.pending⟩ := by
  refine Frame.comp (k := 0x100000) (t := t) ⟨fun p hp => ?_, id⟩ hm h
  cases p <;> first | exact Eq.refl _ | exact fun _ _ => Eq.refl _ | exact fun _ _ _ => Eq.refl _ | exact absurd hp (by decide)

theorem Frame.put_host_uresetAt {m : Nat} {s t : State} (x) (hm : 0x200000 &&& m = 0x200000) (h : Frame m s t) :
    Frame m s ⟨t.regs, t.mem, t.memErr, t.memEpoch, t.freeCount, t.fuses, t.clk, ⟨t.host.msixTable, t.host.msixMask, t.host.msixPba, t.host.pcieUp, t.host.lastWrite, t.host.lastRead, t.host.latchHi, t.host.heldLo, t.host.dma, t.host.wdStart, t.host.asleep, t.host.wake, t.host.resetAt, x, t.host.halted⟩, t.links, t.dies, t.fio, t.fans, t.thm, t.loader, t.trav, t.time, t.gns, t.memu, t.spoor, t.pix, t.tally, t.stk, t.tpin, t.rfx, t.afe, t.sig, t.msr, t.loops, t.can, t.eth, t.twn, t.pair, t.sinks, t.out, t.pending⟩ := by
  refine Frame.comp (k := 0x200000) (t := t) ⟨fun p hp => ?_, id⟩ hm h
  cases p <;> first | exact Eq.refl _ | exact fun _ _ => Eq.refl _ | exact fun _ _ _ => Eq.refl _ | exact absurd hp (by decide)

theorem Frame.put_host_halted {m : Nat} {s t : State} (x) (hm : 0x400000 &&& m = 0x400000) (h : Frame m s t) :
    Frame m s ⟨t.regs, t.mem, t.memErr, t.memEpoch, t.freeCount, t.fuses, t.clk, ⟨t.host.msixTable, t.host.msixMask, t.host.msixPba, t.host.pcieUp, t.host.lastWrite, t.host.lastRead, t.host.latchHi, t.host.heldLo, t.host.dma, t.host.wdStart, t.host.asleep, t.host.wake, t.host.resetAt, t.host.uresetAt, x⟩, t.links, t.dies, t.fio, t.fans, t.thm, t.loader, t.trav, t.time, t.gns, t.memu, t.spoor, t.pix, t.tally, t.stk, t.tpin, t.rfx, t.afe, t.sig, t.msr, t.loops, t.can, t.eth, t.twn, t.pair, t.sinks, t.out, t.pending⟩ := by
  refine Frame.comp (k := 0x400000) (t := t) ⟨fun p hp => ?_, id⟩ hm h
  cases p <;> first | exact Eq.refl _ | exact fun _ _ => Eq.refl _ | exact fun _ _ _ => Eq.refl _ | exact absurd hp (by decide)

theorem Frame.put_loader_committed {m : Nat} {s t : State} (x) (hm : 0x10000000 &&& m = 0x10000000) (h : Frame m s t) :
    Frame m s ⟨t.regs, t.mem, t.memErr, t.memEpoch, t.freeCount, t.fuses, t.clk, t.host, t.links, t.dies, t.fio, t.fans, t.thm, ⟨x, t.loader.recs, t.loader.imageRecs, t.loader.staged, t.loader.report, t.loader.pendingAmends, t.loader.applied, t.loader.commitTime⟩, t.trav, t.time, t.gns, t.memu, t.spoor, t.pix, t.tally, t.stk, t.tpin, t.rfx, t.afe, t.sig, t.msr, t.loops, t.can, t.eth, t.twn, t.pair, t.sinks, t.out, t.pending⟩ := by
  refine Frame.comp (k := 0x10000000) (t := t) ⟨fun p hp => ?_, id⟩ hm h
  cases p <;> first | exact Eq.refl _ | exact fun _ _ => Eq.refl _ | exact fun _ _ _ => Eq.refl _ | exact absurd hp (by decide)

theorem Frame.put_loader_recs {m : Nat} {s t : State} (x) (hm : 0x20000000 &&& m = 0x20000000) (h : Frame m s t) :
    Frame m s ⟨t.regs, t.mem, t.memErr, t.memEpoch, t.freeCount, t.fuses, t.clk, t.host, t.links, t.dies, t.fio, t.fans, t.thm, ⟨t.loader.committed, x, t.loader.imageRecs, t.loader.staged, t.loader.report, t.loader.pendingAmends, t.loader.applied, t.loader.commitTime⟩, t.trav, t.time, t.gns, t.memu, t.spoor, t.pix, t.tally, t.stk, t.tpin, t.rfx, t.afe, t.sig, t.msr, t.loops, t.can, t.eth, t.twn, t.pair, t.sinks, t.out, t.pending⟩ := by
  refine Frame.comp (k := 0x20000000) (t := t) ⟨fun p hp => ?_, id⟩ hm h
  cases p <;> first | exact Eq.refl _ | exact fun _ _ => Eq.refl _ | exact fun _ _ _ => Eq.refl _ | exact absurd hp (by decide)

theorem Frame.put_loader_imageRecs {m : Nat} {s t : State} (x) (hm : 0x40000000 &&& m = 0x40000000) (h : Frame m s t) :
    Frame m s ⟨t.regs, t.mem, t.memErr, t.memEpoch, t.freeCount, t.fuses, t.clk, t.host, t.links, t.dies, t.fio, t.fans, t.thm, ⟨t.loader.committed, t.loader.recs, x, t.loader.staged, t.loader.report, t.loader.pendingAmends, t.loader.applied, t.loader.commitTime⟩, t.trav, t.time, t.gns, t.memu, t.spoor, t.pix, t.tally, t.stk, t.tpin, t.rfx, t.afe, t.sig, t.msr, t.loops, t.can, t.eth, t.twn, t.pair, t.sinks, t.out, t.pending⟩ := by
  refine Frame.comp (k := 0x40000000) (t := t) ⟨fun p hp => ?_, id⟩ hm h
  cases p <;> first | exact Eq.refl _ | exact fun _ _ => Eq.refl _ | exact fun _ _ _ => Eq.refl _ | exact absurd hp (by decide)

theorem Frame.put_loader_staged {m : Nat} {s t : State} (x) (hm : 0x80000000 &&& m = 0x80000000) (h : Frame m s t) :
    Frame m s ⟨t.regs, t.mem, t.memErr, t.memEpoch, t.freeCount, t.fuses, t.clk, t.host, t.links, t.dies, t.fio, t.fans, t.thm, ⟨t.loader.committed, t.loader.recs, t.loader.imageRecs, x, t.loader.report, t.loader.pendingAmends, t.loader.applied, t.loader.commitTime⟩, t.trav, t.time, t.gns, t.memu, t.spoor, t.pix, t.tally, t.stk, t.tpin, t.rfx, t.afe, t.sig, t.msr, t.loops, t.can, t.eth, t.twn, t.pair, t.sinks, t.out, t.pending⟩ := by
  refine Frame.comp (k := 0x80000000) (t := t) ⟨fun p hp => ?_, id⟩ hm h
  cases p <;> first | exact Eq.refl _ | exact fun _ _ => Eq.refl _ | exact fun _ _ _ => Eq.refl _ | exact absurd hp (by decide)

theorem Frame.put_loader_report {m : Nat} {s t : State} (x) (hm : 0x100000000 &&& m = 0x100000000) (h : Frame m s t) :
    Frame m s ⟨t.regs, t.mem, t.memErr, t.memEpoch, t.freeCount, t.fuses, t.clk, t.host, t.links, t.dies, t.fio, t.fans, t.thm, ⟨t.loader.committed, t.loader.recs, t.loader.imageRecs, t.loader.staged, x, t.loader.pendingAmends, t.loader.applied, t.loader.commitTime⟩, t.trav, t.time, t.gns, t.memu, t.spoor, t.pix, t.tally, t.stk, t.tpin, t.rfx, t.afe, t.sig, t.msr, t.loops, t.can, t.eth, t.twn, t.pair, t.sinks, t.out, t.pending⟩ := by
  refine Frame.comp (k := 0x100000000) (t := t) ⟨fun p hp => ?_, id⟩ hm h
  cases p <;> first | exact Eq.refl _ | exact fun _ _ => Eq.refl _ | exact fun _ _ _ => Eq.refl _ | exact absurd hp (by decide)

theorem Frame.put_loader_pendingAmends {m : Nat} {s t : State} (x) (hm : 0x200000000 &&& m = 0x200000000) (h : Frame m s t) :
    Frame m s ⟨t.regs, t.mem, t.memErr, t.memEpoch, t.freeCount, t.fuses, t.clk, t.host, t.links, t.dies, t.fio, t.fans, t.thm, ⟨t.loader.committed, t.loader.recs, t.loader.imageRecs, t.loader.staged, t.loader.report, x, t.loader.applied, t.loader.commitTime⟩, t.trav, t.time, t.gns, t.memu, t.spoor, t.pix, t.tally, t.stk, t.tpin, t.rfx, t.afe, t.sig, t.msr, t.loops, t.can, t.eth, t.twn, t.pair, t.sinks, t.out, t.pending⟩ := by
  refine Frame.comp (k := 0x200000000) (t := t) ⟨fun p hp => ?_, id⟩ hm h
  cases p <;> first | exact Eq.refl _ | exact fun _ _ => Eq.refl _ | exact fun _ _ _ => Eq.refl _ | exact absurd hp (by decide)

theorem Frame.put_loader_applied {m : Nat} {s t : State} (x) (hm : 0x400000000 &&& m = 0x400000000) (h : Frame m s t) :
    Frame m s ⟨t.regs, t.mem, t.memErr, t.memEpoch, t.freeCount, t.fuses, t.clk, t.host, t.links, t.dies, t.fio, t.fans, t.thm, ⟨t.loader.committed, t.loader.recs, t.loader.imageRecs, t.loader.staged, t.loader.report, t.loader.pendingAmends, x, t.loader.commitTime⟩, t.trav, t.time, t.gns, t.memu, t.spoor, t.pix, t.tally, t.stk, t.tpin, t.rfx, t.afe, t.sig, t.msr, t.loops, t.can, t.eth, t.twn, t.pair, t.sinks, t.out, t.pending⟩ := by
  refine Frame.comp (k := 0x400000000) (t := t) ⟨fun p hp => ?_, id⟩ hm h
  cases p <;> first | exact Eq.refl _ | exact fun _ _ => Eq.refl _ | exact fun _ _ _ => Eq.refl _ | exact absurd hp (by decide)

theorem Frame.put_loader_commitTime {m : Nat} {s t : State} (x) (hm : 0x800000000 &&& m = 0x800000000) (h : Frame m s t) :
    Frame m s ⟨t.regs, t.mem, t.memErr, t.memEpoch, t.freeCount, t.fuses, t.clk, t.host, t.links, t.dies, t.fio, t.fans, t.thm, ⟨t.loader.committed, t.loader.recs, t.loader.imageRecs, t.loader.staged, t.loader.report, t.loader.pendingAmends, t.loader.applied, x⟩, t.trav, t.time, t.gns, t.memu, t.spoor, t.pix, t.tally, t.stk, t.tpin, t.rfx, t.afe, t.sig, t.msr, t.loops, t.can, t.eth, t.twn, t.pair, t.sinks, t.out, t.pending⟩ := by
  refine Frame.comp (k := 0x800000000) (t := t) ⟨fun p hp => ?_, id⟩ hm h
  cases p <;> first | exact Eq.refl _ | exact fun _ _ => Eq.refl _ | exact fun _ _ _ => Eq.refl _ | exact absurd hp (by decide)


/-! ## Registers -/

theorem mask_sub {k j m : Nat} (h : k &&& j = k) (i : j &&& m = j) : k &&& m = k := by
  rw [← h, Nat.and_assoc, i]

/-- May a write at address `a` happen inside mask `m`? -/
def regOk (a m : Nat) : Bool :=
  m.testBit 0 && (if isEvt a then m.testBit 89 else decide (32 ≤ a / 0x10000) || m.testBit (57 + a / 0x10000))

theorem Frame.setReg {m : Nat} {s t : State} {a v : Nat} (ha : regOk a m = true) (h : Frame m s t) :
    Frame m s (t.setReg a v) := by
  refine h.trans ⟨fun p hp => ?_, State.setReg_storesWf t a v⟩
  simp only [regOk, Bool.and_eq_true] at ha
  cases p <;> first
    | exact Eq.refl _
   
    | (simp only [Part.ix] at hp; rw [ha.1] at hp; cases hp)
    | skip
  · next w =>
    intro b hb eb
    refine State.reg_setReg_ne t v fun e => ?_
    subst e
    have hw := w.isLt
    rw [eb] at ha
    simp only [Part.ix, ← hb] at hp
    simp [hp] at ha
    omega
  · intro b eb
    refine State.reg_setReg_ne t v fun e => ?_
    subst e
    rw [eb] at ha
    simp only [Part.ix] at hp
    simp [hp] at ha

/-- The highest window and the highest offset in a window of a field's instances. -/
def Fld.winHi (f : Fld) : Nat :=
  f.base / 0x10000 + (if f.stride % 0x10000 = 0 then f.stride / 0x10000 * (f.count - 1) else 0) +
    (if f.stride2 % 0x10000 = 0 then f.stride2 / 0x10000 * (f.count2 - 1) else 0)

@[inherit_doc Fld.winHi]
def Fld.offHi (f : Fld) : Nat :=
  f.base % 0x10000 + (if f.stride % 0x10000 = 0 then 0 else f.stride * (f.count - 1)) +
    (if f.stride2 % 0x10000 = 0 then 0 else f.stride2 * (f.count2 - 1))

/-- May a write of any instance of field `f` happen inside mask `m`? -/
def Fld.okIn (f : Fld) (m : Nat) : Bool :=
  m.testBit 0 && decide (f.offHi < 0x10000) && decide (0 < f.count) && decide (0 < f.count2) &&
    (if 0x1000 ≤ f.base % 0x10000 ∨ f.offHi < 0xF00 then
      (List.range (f.winHi - f.base / 0x10000 + 1)).all (fun k => m.testBit (57 + (f.base / 0x10000 + k)))
    else decide (0xF00 ≤ f.base % 0x10000) && decide (f.offHi < 0x1000) && m.testBit 89)

theorem stride_split (s c i : Nat) (hc : 0 < c) : ∃ q r, s * (i % c) = 0x10000 * q + r ∧
    r ≤ (if s % 0x10000 = 0 then 0 else s * (c - 1)) ∧ q ≤ (if s % 0x10000 = 0 then s / 0x10000 * (c - 1) else 0) := by
  have hi : i % c ≤ c - 1 := Nat.le_sub_one_of_lt (Nat.mod_lt i hc)
  split
  · next h =>
    refine ⟨s / 0x10000 * (i % c), 0, ?_, le_refl _, Nat.mul_le_mul_left _ hi⟩
    rw [← Nat.mul_assoc, Nat.mul_div_cancel' (Nat.dvd_of_mod_eq_zero h), Nat.add_zero]
  · exact ⟨0, s * (i % c), by omega, Nat.mul_le_mul_left _ hi, le_refl _⟩

theorem Fld.addr_split (f : Fld) (i j : Nat) (hc : 0 < f.count) (hd : 0 < f.count2) : ∃ q r, f.addr i j = 0x10000 * q + r ∧
    f.base / 0x10000 ≤ q ∧ q ≤ f.winHi ∧ f.base % 0x10000 ≤ r ∧ r ≤ f.offHi := by
  obtain ⟨q1, r1, e1, h1, k1⟩ := stride_split f.stride f.count i hc
  obtain ⟨q2, r2, e2, h2, k2⟩ := stride_split f.stride2 f.count2 j hd
  refine ⟨f.base / 0x10000 + q1 + q2, f.base % 0x10000 + r1 + r2, ?_, ?_, ?_, ?_, ?_⟩
  · unfold Fld.addr
    rw [e1, e2]
    omega
  · omega
  · unfold Fld.winHi; omega
  · omega
  · unfold Fld.offHi; omega

theorem Fld.okIn_regOk {f : Fld} {m : Nat} (i j : Nat) (hf : f.okIn m = true) : regOk (f.addr i j) m = true := by
  simp only [Fld.okIn, Bool.and_eq_true, decide_eq_true_eq] at hf
  obtain ⟨⟨⟨⟨h0, h1⟩, h2⟩, h3⟩, h4⟩ := hf
  obtain ⟨q, r, e, b1, b2, b3, b4⟩ := Fld.addr_split f i j h2 h3
  have ew : f.addr i j / 0x10000 = q := by omega
  have eo : f.addr i j % 0x10000 = r := by omega
  simp only [regOk, isEvt, ew, eo, Bool.and_eq_true]
  refine ⟨h0, ?_⟩
  split at h4
  · next hc =>
    have hn : ¬ ((decide (0xF00 ≤ r) && decide (r < 0x1000)) = true) := by
      simp only [Bool.and_eq_true, decide_eq_true_eq]; omega
    rw [if_neg (by simpa using hn)]
    have := List.all_eq_true.mp h4 (q - f.base / 0x10000) (List.mem_range.mpr (by omega))
    rw [show f.base / 0x10000 + (q - f.base / 0x10000) = q by omega] at this
    simp [this]
  · simp only [Bool.and_eq_true, decide_eq_true_eq] at h4
    have hn : (decide (0xF00 ≤ r) && decide (r < 0x1000)) = true := by
      simp only [Bool.and_eq_true, decide_eq_true_eq]; omega
    rw [if_pos (by simpa using hn)]
    exact h4.2

theorem Fld.okIn_ite {c : Prop} [Decidable c] {f g : Fld} {m : Nat} (hf : f.okIn m = true) (hg : g.okIn m = true) :
    (if c then f else g).okIn m = true := by split <;> assumption

theorem testBit_sub {k m i : Nat} (h : k &&& m = k) (b : k.testBit i = true) : m.testBit i = true := by
  rw [← h, Nat.testBit_land, Bool.and_eq_true] at b
  exact b.2

theorem regOk_mono {a k m : Nat} (h : regOk a k = true) (hm : k &&& m = k) : regOk a m = true := by
  simp only [regOk, Bool.and_eq_true] at h ⊢
  refine ⟨testBit_sub hm h.1, ?_⟩
  have h2 := h.2
  split at h2
  · next e => rw [if_pos e]; exact testBit_sub hm h2
  · next e =>
    rw [if_neg e]
    rcases Bool.or_eq_true _ _ ▸ h2 with x | x
    · simp [x]
    · simp [testBit_sub hm x]

/-- All registers. -/
theorem regOk_all (a : Nat) : regOk a 0x3fffffffe00000000000001 = true := by
  unfold regOk
  rw [show Nat.testBit 0x3fffffffe00000000000001 0 = true by decide, Bool.true_and]
  split
  · decide
  · by_cases h : 32 ≤ a / 0x10000
    · simp [h]
    · have key : ∀ w : Fin 32, Nat.testBit 0x3fffffffe00000000000001 (57 + w.val) = true := by decide
      rw [key ⟨a / 0x10000, by omega⟩, Bool.or_true]

theorem Fld.okIn_mono {f : Fld} {k m : Nat} (h : f.okIn k = true) (hm : k &&& m = k) : f.okIn m = true := by
  simp only [Fld.okIn, Bool.and_eq_true] at h ⊢
  obtain ⟨⟨⟨⟨h0, h1⟩, h2⟩, h3⟩, h4⟩ := h
  refine ⟨⟨⟨⟨testBit_sub hm h0, h1⟩, h2⟩, h3⟩, ?_⟩
  split at h4
  · next c =>
    rw [if_pos c]
    rw [List.all_eq_true] at h4 ⊢
    exact fun x hx => testBit_sub hm (h4 x hx)
  · next c =>
    rw [if_neg c]
    simp only [Bool.and_eq_true] at h4 ⊢
    exact ⟨h4.1, testBit_sub hm h4.2⟩

variable {m : Nat} {s t : State} {f g : Fld}

theorem Frame.setFld {i j v : Nat} (hf : f.okIn m = true) (h : Frame m s t) : Frame m s (t.setReg (f.addr i j) v) :=
  h.setReg (Fld.okIn_regOk i j hf)

theorem Frame.wrij {i j v : Nat} (hf : f.okIn m = true) (h : Frame m s t) : Frame m s (t.wrij f i j v) := h.setFld hf
theorem Frame.wri {i v : Nat} (hf : f.okIn m = true) (h : Frame m s t) : Frame m s (t.wri f i v) := h.setFld hf
theorem Frame.wr {v : Nat} (hf : f.okIn m = true) (h : Frame m s t) : Frame m s (t.wr f v) := h.setFld hf
theorem Frame.incij {i j n : Nat} (hf : f.okIn m = true) (h : Frame m s t) : Frame m s (t.incij f i j n) := h.setFld hf
theorem Frame.inci {i n : Nat} (hf : f.okIn m = true) (h : Frame m s t) : Frame m s (t.inci f i n) := h.setFld hf
theorem Frame.inc {n : Nat} (hf : f.okIn m = true) (h : Frame m s t) : Frame m s (t.inc f n) := h.setFld hf
theorem Frame.wrapij {i j n : Nat} (hf : f.okIn m = true) (h : Frame m s t) : Frame m s (t.wrapij f i j n) := h.setFld hf
theorem Frame.wrapi {i n : Nat} (hf : f.okIn m = true) (h : Frame m s t) : Frame m s (t.wrapi f i n) := h.setFld hf
theorem Frame.wr64 {v : Nat} (hf : f.okIn m = true) (hg : g.okIn m = true) (h : Frame m s t) : Frame m s (t.wr64 f g v) :=
  (h.wr hf).wr hg

end Sys2Proof.Machine
end

