-- ==== Sys2Proof/Laws/FrameOps.lean ====
section
/-! SUPPORT. The frames of the operations of Machine/Ops.lean. -/

set_option linter.unreachableTactic false
set_option linter.unusedTactic false

namespace Sys2Proof.Machine

open Sys2Proof

theorem State.emit_frame (s : State) (o : Out) : Frame 0x80000000000000 s (State.emit s o) := by
  unfold State.emit
  repeat' first
    | with_reducible exact Frame.rfl _ _
    | with_reducible apply Frame.ite
    | fail_if_no_progress with_reducible apply Frame.put_out _ (by decide)
    | (split <;> try (rename_i hq; have e := congrArg Prod.snd hq; dsimp only at e; subst e))
    | dsimp only
    | with_reducible intro _ _
    | fail_if_no_progress apply Frame.put_out _ (by decide)

theorem State.free_frame (s : State) (site : Nat) : Frame 0x10 s (State.free s site).2 := by
  unfold State.free
  repeat' first
    | with_reducible exact Frame.rfl _ _
    | with_reducible apply Frame.ite
    | with_reducible apply Frame.ite2
    | fail_if_no_progress with_reducible apply Frame.put_freeCount _ (by decide)
    | (split <;> try (rename_i hq; have e := congrArg Prod.snd hq; dsimp only at e; subst e))
    | dsimp only
    | with_reducible intro _ _
    | fail_if_no_progress apply Frame.put_freeCount _ (by decide)

theorem State.msix_frame (s : State) (v : Nat) : Frame 0x80000000000400 s (State.msix s v) := by
  unfold State.msix
  repeat' first
    | with_reducible exact Frame.rfl _ _
    | with_reducible apply Frame.ite
    | with_reducible apply Frame.ite2
    | with_reducible apply Frame.comp (State.emit_frame ..) (by decide)
    | fail_if_no_progress with_reducible apply Frame.put_host_msixPba _ (by decide)
    | (split <;> try (rename_i hq; have e := congrArg Prod.snd hq; dsimp only at e; subst e))
    | dsimp only
    | with_reducible intro _ _
    | fail_if_no_progress apply Frame.put_host_msixPba _ (by decide)

theorem State.raise_frame (s : State) (w e : Nat) : Frame 0x20000000080000000000401 s (State.raise s w e) := by
  unfold State.raise
  repeat' first
    | with_reducible exact Frame.rfl _ _
    | with_reducible apply Frame.ite
    | with_reducible apply Frame.ite2
    | with_reducible apply Frame.comp (State.msix_frame ..) (by decide)
    | with_reducible apply Frame.wri (by decide)
    | (split <;> try (rename_i hq; have e := congrArg Prod.snd hq; dsimp only at e; subst e))
    | dsimp only
    | with_reducible intro _ _

theorem State.raiseIf_frame (s : State) (c : Bool) (w e : Nat) : Frame 0x20000000080000000000401 s (State.raiseIf s c w e) := by
  unfold State.raiseIf
  repeat' first
    | with_reducible exact Frame.rfl _ _
    | with_reducible apply Frame.ite
    | with_reducible apply Frame.comp (State.raise_frame ..) (by decide)
    | (split <;> try (rename_i hq; have e := congrArg Prod.snd hq; dsimp only at e; subst e))
    | dsimp only
    | with_reducible intro _ _

theorem State.quarDel_frame (s : State) (r w : Nat) : Frame 0x8000000000000001 s (State.quarDel s r w) := by
  unfold State.quarDel
  repeat' first
    | with_reducible exact Frame.rfl _ _
    | with_reducible apply Frame.ite
    | with_reducible apply Frame.ite2
    | with_reducible apply Frame.setFld (by decide)
    | with_reducible apply Frame.wri (by decide)
    | (split <;> try (rename_i hq; have e := congrArg Prod.snd hq; dsimp only at e; subst e))
    | dsimp only
    | with_reducible intro _ _

theorem putBytes_wf (d : Nat → Byte) (m : List Host.Cell) (a v n : Nat) (h : cellWf d m = true) :
    cellWf d (putBytes d m a v n) = true := by
  induction n generalizing m a v with
  | zero => exact h
  | succ n ih => exact ih _ _ _ (cellPut_wf d a _ h)

theorem State.memPut_frame (s : State) (a v : Nat) : Frame 0x8000000000000007 s (s.memPut a v) := by
  have key : Frame 0x8000000000000007 s { s with
      mem := putBytes (memByte0 s.memEpoch) s.mem a v 8
      memErr := cellPut (memFlips0 s.memEpoch) s.memErr (a / 8) 0 } := by
    refine ⟨fun p hp => ?_, fun w => ⟨w.1, putBytes_wf _ _ _ _ _ w.2.1, cellPut_wf _ _ _ w.2.2⟩⟩
    cases p <;> first | exact Eq.refl _ | exact fun _ _ => Eq.refl _ | exact fun _ _ _ => Eq.refl _ | exact absurd hp (by decide)
  unfold State.memPut
  repeat' first
    | exact key
    | with_reducible apply Frame.comp (State.quarDel_frame ..) (by decide)
    | split

theorem State.setFlips_frame (s : State) (a f : Nat) : Frame 0x4 s (s.setFlips a f) := by
  refine ⟨fun p hp => ?_, fun w => ⟨w.1, w.2.1, cellPut_wf _ _ _ w.2.2⟩⟩
  cases p <;> first | exact Eq.refl _ | exact fun _ _ => Eq.refl _ | exact fun _ _ _ => Eq.refl _ | exact absurd hp (by decide)

theorem State.memCorrect_frame (s : State) (r : Nat) : Frame 0x20000008080000000000401 s (State.memCorrect s r) := by
  unfold State.memCorrect
  repeat' first
    | with_reducible exact Frame.rfl _ _
    | with_reducible apply Frame.ite
    | with_reducible apply Frame.ite2
    | with_reducible apply Frame.comp (State.raise_frame ..) (by decide)
    | with_reducible apply Frame.inci (by decide)
    | with_reducible apply Frame.wri (by decide)
    | (split <;> try (rename_i hq; have e := congrArg Prod.snd hq; dsimp only at e; subst e))
    | dsimp only
    | with_reducible intro _ _

theorem State.memRead_frame (s : State) (a : Nat) : Frame 0x20000008080000000000401 s (State.memRead s a).2 := by
  unfold State.memRead
  repeat' first
    | with_reducible exact Frame.rfl _ _
    | with_reducible apply Frame.ite
    | with_reducible apply Frame.ite2
    | with_reducible apply Frame.comp (State.memCorrect_frame ..) (by decide)
    | with_reducible apply Frame.comp (State.raise_frame ..) (by decide)
    | with_reducible apply Frame.inci (by decide)
    | with_reducible apply Frame.wri (by decide)
    | (split <;> try (rename_i hq; have e := congrArg Prod.snd hq; dsimp only at e; subst e))
    | dsimp only
    | with_reducible intro _ _

theorem State.memReads_frame (n : Nat) (s : State) (a : Nat) : Frame 0x20000008080000000000401 s (s.memReads a n).2 := by
  induction n generalizing s a with
  | zero =>
    unfold State.memReads
    repeat' first
      | with_reducible exact Frame.rfl _ _
      | with_reducible apply Frame.ite
      | with_reducible apply Frame.ite2
      | with_reducible apply Frame.comp (State.memRead_frame ..) (by decide)
      | (split <;> try (rename_i hq; have e := congrArg Prod.snd hq; dsimp only at e; subst e))
      | dsimp only
      | with_reducible intro _ _
  | succ n ih =>
    unfold State.memReads
    repeat' first
      | with_reducible apply Frame.comp (ih ..) (by decide)
      | with_reducible exact Frame.rfl _ _
      | with_reducible apply Frame.ite
      | with_reducible apply Frame.ite2
      | with_reducible apply Frame.comp (State.memRead_frame ..) (by decide)
      | (split <;> try (rename_i hq; have e := congrArg Prod.snd hq; dsimp only at e; subst e))
      | dsimp only
      | with_reducible intro _ _

theorem State.memPuts_frame (l : List Nat) (s : State) (a : Nat) : Frame 0x8000000000000007 s (s.memPuts a l) := by
  induction l generalizing s a with
  | nil =>
    unfold State.memPuts
    repeat' first
      | with_reducible exact Frame.rfl _ _
      | with_reducible apply Frame.ite
      | with_reducible apply Frame.ite2
      | with_reducible apply Frame.comp (State.memPut_frame ..) (by decide)
      | (split <;> try (rename_i hq; have e := congrArg Prod.snd hq; dsimp only at e; subst e))
      | dsimp only
      | with_reducible intro _ _
  | cons x l ih =>
    unfold State.memPuts
    repeat' first
      | with_reducible apply Frame.comp (ih ..) (by decide)
      | with_reducible exact Frame.rfl _ _
      | with_reducible apply Frame.ite
      | with_reducible apply Frame.ite2
      | with_reducible apply Frame.comp (State.memPut_frame ..) (by decide)
      | (split <;> try (rename_i hq; have e := congrArg Prod.snd hq; dsimp only at e; subst e))
      | dsimp only
      | with_reducible intro _ _

theorem State.memMerge_frame (s : State) (a v : Nat) : Frame 0x20000008080000000000407 s (State.memMerge s a v) := by
  unfold State.memMerge
  repeat' first
    | with_reducible exact Frame.rfl _ _
    | with_reducible apply Frame.ite
    | with_reducible apply Frame.ite2
    | with_reducible apply Frame.comp (State.memRead_frame ..) (by decide)
    | with_reducible apply Frame.comp (State.memPut_frame ..) (by decide)
    | with_reducible apply Frame.inc (by decide)
    | (split <;> try (rename_i hq; have e := congrArg Prod.snd hq; dsimp only at e; subst e))
    | dsimp only
    | with_reducible intro _ _

theorem State.memBytes_frame (s : State) (a n : Nat) : Frame 0x20000008080000000000401 s (State.memBytes s a n).2 := by
  unfold State.memBytes
  repeat' first
    | with_reducible exact Frame.rfl _ _
    | with_reducible apply Frame.ite
    | with_reducible apply Frame.ite2
    | with_reducible apply Frame.comp (State.memReads_frame ..) (by decide)
    | (split <;> try (rename_i hq; have e := congrArg Prod.snd hq; dsimp only at e; subst e))
    | dsimp only
    | with_reducible intro _ _

theorem State.memPutBytes_frame (s : State) (a : Nat) (l : List Nat) : Frame 0x8000000000000007 s (State.memPutBytes s a l) := by
  unfold State.memPutBytes
  repeat' first
    | with_reducible exact Frame.rfl _ _
    | with_reducible apply Frame.ite
    | with_reducible apply Frame.ite2
    | with_reducible apply Frame.comp (State.memPuts_frame ..) (by decide)
    | (split <;> try (rename_i hq; have e := congrArg Prod.snd hq; dsimp only at e; subst e))
    | dsimp only
    | with_reducible intro _ _

theorem State.carry_frame (s : State) (ep : Nat) (e : Elem) : Frame 0x1800000000000 s (State.carry s ep e) := by
  unfold State.carry
  repeat' first
    | with_reducible exact Frame.rfl _ _
    | with_reducible apply Frame.ite
    | with_reducible apply Frame.ite2
    | fail_if_no_progress with_reducible apply Frame.put_sig _ (by decide)
    | fail_if_no_progress with_reducible apply Frame.put_msr _ (by decide)
    | with_reducible apply Frame.foldl
    | with_reducible apply Frame.foldl2
    | (split <;> try (rename_i hq; have e := congrArg Prod.snd hq; dsimp only at e; subst e))
    | dsimp only
    | with_reducible intro _ _
    | fail_if_no_progress apply Frame.put_sig _ (by decide)
    | fail_if_no_progress apply Frame.put_msr _ (by decide)

theorem State.produce_frame (s : State) (ep val fmt tag : Nat) : Frame 0x1801000000000 s (State.produce s ep val fmt tag) := by
  unfold State.produce
  repeat' first
    | with_reducible exact Frame.rfl _ _
    | with_reducible apply Frame.ite
    | with_reducible apply Frame.ite2
    | with_reducible apply Frame.comp (State.carry_frame ..) (by decide)
    | fail_if_no_progress with_reducible apply Frame.put_trav _ (by decide)
    | (split <;> try (rename_i hq; have e := congrArg Prod.snd hq; dsimp only at e; subst e))
    | dsimp only
    | with_reducible intro _ _
    | fail_if_no_progress apply Frame.put_trav _ (by decide)

theorem State.dmaReady_frame (s : State) (n : Nat) (rec : List Nat) : Frame 0x20000001080000000010401 s (State.dmaReady s n rec) := by
  unfold State.dmaReady
  repeat' first
    | with_reducible exact Frame.rfl _ _
    | with_reducible apply Frame.ite
    | with_reducible apply Frame.ite2
    | with_reducible apply Frame.comp (State.raise_frame ..) (by decide)
    | with_reducible apply Frame.inci (by decide)
    | with_reducible apply Frame.wri (by decide)
    | fail_if_no_progress with_reducible apply Frame.put_host_dma _ (by decide)
    | (split <;> try (rename_i hq; have e := congrArg Prod.snd hq; dsimp only at e; subst e))
    | dsimp only
    | with_reducible intro _ _
    | fail_if_no_progress apply Frame.put_host_dma _ (by decide)

theorem State.dmaDiscard_frame (s : State) (n : Nat) : Frame 0x1000000000010001 s (State.dmaDiscard s n) := by
  unfold State.dmaDiscard
  repeat' first
    | with_reducible exact Frame.rfl _ _
    | with_reducible apply Frame.ite
    | with_reducible apply Frame.ite2
    | with_reducible apply Frame.wri (by decide)
    | fail_if_no_progress with_reducible apply Frame.put_host_dma _ (by decide)
    | (split <;> try (rename_i hq; have e := congrArg Prod.snd hq; dsimp only at e; subst e))
    | dsimp only
    | with_reducible intro _ _
    | fail_if_no_progress apply Frame.put_host_dma _ (by decide)

theorem State.dmaDropOldest_frame (s : State) (n : Nat) : Frame 0x10000 s (State.dmaDropOldest s n) := by
  unfold State.dmaDropOldest
  repeat' first
    | with_reducible exact Frame.rfl _ _
    | with_reducible apply Frame.ite
    | with_reducible apply Frame.ite2
    | fail_if_no_progress with_reducible apply Frame.put_host_dma _ (by decide)
    | (split <;> try (rename_i hq; have e := congrArg Prod.snd hq; dsimp only at e; subst e))
    | dsimp only
    | with_reducible intro _ _
    | fail_if_no_progress apply Frame.put_host_dma _ (by decide)

theorem Frame.nextOr {m : Nat} {s t : State} {o : Host.Outcome State Fault Refusal} (h : Frame m s t) (k : FrameO m s o) :
    Frame m s (nextOr t o) := by
  unfold Sys2Proof.Machine.nextOr
  split
  · exact k _ (Eq.refl _)
  · exact h

end Sys2Proof.Machine
end

