-- ==== Sys2Proof/Laws/FramePads.lean ====
section
/-! SUPPORT. The frames of the operations of Machine/Pads.lean. -/

set_option linter.unreachableTactic false
set_option linter.unusedTactic false

namespace Sys2Proof.Machine

open Sys2Proof

theorem State.trnShow_frame (s : State) (t : Nat) : Frame 0x1000000000000000001 s (State.trnShow s t) := by
  unfold State.trnShow
  repeat' first
    | with_reducible exact Frame.rfl _ _
    | with_reducible apply Frame.ite
    | with_reducible apply Frame.ite2
    | with_reducible apply Frame.wri (by decide)
    | (split <;> try (rename_i hq; have e := congrArg Prod.snd hq; dsimp only at e; subst e))
    | dsimp only
    | with_reducible intro _ _

theorem State.trnM_frame (s : State) (t : Nat) (f : Transit → Transit) : Frame 0x1000000020000000001 s (State.trnM s t f) := by
  unfold State.trnM
  repeat' first
    | with_reducible exact Frame.rfl _ _
    | with_reducible apply Frame.ite
    | with_reducible apply Frame.ite2
    | with_reducible apply Frame.comp (State.trnShow_frame ..) (by decide)
    | fail_if_no_progress with_reducible apply Frame.put_pix _ (by decide)
    | (split <;> try (rename_i hq; have e := congrArg Prod.snd hq; dsimp only at e; subst e))
    | dsimp only
    | with_reducible intro _ _
    | fail_if_no_progress apply Frame.put_pix _ (by decide)

theorem State.sendEdge_frame (s : State) (p time : Nat) : Frame 0x1000000020000000001 s (State.sendEdge s p time) := by
  unfold State.sendEdge
  repeat' first
    | with_reducible exact Frame.rfl _ _
    | with_reducible apply Frame.ite
    | with_reducible apply Frame.ite2
    | with_reducible apply Frame.comp (State.trnM_frame ..) (by decide)
    | with_reducible apply Frame.foldl
    | with_reducible apply Frame.foldl2
    | (split <;> try (rename_i hq; have e := congrArg Prod.snd hq; dsimp only at e; subst e))
    | dsimp only
    | with_reducible intro _ _

theorem State.pinM_frame (s : State) (p : Nat) (f : TPin → TPin) : Frame 0x100000000000 s (State.pinM s p f) := by
  unfold State.pinM
  repeat' first
    | with_reducible exact Frame.rfl _ _
    | with_reducible apply Frame.ite
    | fail_if_no_progress with_reducible apply Frame.put_tpin _ (by decide)
    | (split <;> try (rename_i hq; have e := congrArg Prod.snd hq; dsimp only at e; subst e))
    | dsimp only
    | with_reducible intro _ _
    | fail_if_no_progress apply Frame.put_tpin _ (by decide)

theorem State.padDrive_frame (s : State) : Frame 0x80100000000000 s (State.padDrive s) := by
  unfold State.padDrive
  repeat' first
    | with_reducible exact Frame.rfl _ _
    | with_reducible apply Frame.ite
    | with_reducible apply Frame.ite2
    | with_reducible apply Frame.comp (State.pinM_frame ..) (by decide)
    | with_reducible apply Frame.comp (State.emit_frame ..) (by decide)
    | with_reducible apply Frame.foldl
    | with_reducible apply Frame.foldl2
    | (split <;> try (rename_i hq; have e := congrArg Prod.snd hq; dsimp only at e; subst e))
    | dsimp only
    | with_reducible intro _ _

theorem State.latchPut_frame (s : State) (k : Nat) (b : Bool) : Frame 0x80000000000000001 s (State.latchPut s k b) := by
  unfold State.latchPut
  repeat' first
    | with_reducible exact Frame.rfl _ _
    | with_reducible apply Frame.ite
    | with_reducible apply Frame.ite2
    | with_reducible apply Frame.wr (by decide)
    | (split <;> try (rename_i hq; have e := congrArg Prod.snd hq; dsimp only at e; subst e))
    | dsimp only
    | with_reducible intro _ _

theorem State.rfxStep_frame (s : State) (i k : Nat) : Frame 0x20000080080200000000401 s (State.rfxStep s i k) := by
  unfold State.rfxStep
  repeat' first
    | with_reducible exact Frame.rfl _ _
    | with_reducible apply Frame.ite
    | with_reducible apply Frame.ite2
    | with_reducible apply Frame.comp (State.latchPut_frame ..) (by decide)
    | with_reducible apply Frame.comp (State.raiseIf_frame ..) (by decide)
    | with_reducible apply Frame.wrapi (by decide)
    | fail_if_no_progress with_reducible apply Frame.put_rfx _ (by decide)
    | (split <;> try (rename_i hq; have e := congrArg Prod.snd hq; dsimp only at e; subst e))
    | dsimp only
    | with_reducible intro _ _
    | fail_if_no_progress apply Frame.put_rfx _ (by decide)

theorem State.rfxShow_frame (s : State) : Frame 0x180000000000000001 s (State.rfxShow s) := by
  unfold State.rfxShow
  repeat' first
    | with_reducible exact Frame.rfl _ _
    | with_reducible apply Frame.ite
    | with_reducible apply Frame.ite2
    | with_reducible apply Frame.wr (by decide)
    | (split <;> try (rename_i hq; have e := congrArg Prod.snd hq; dsimp only at e; subst e))
    | dsimp only
    | with_reducible intro _ _

theorem State.settle_frame (n : Nat) (s : State) : Frame 0x20000080080300000000401 s (State.settle n s) := by
  induction n generalizing s with
  | zero =>
    unfold State.settle
    repeat' first
      | with_reducible exact Frame.rfl _ _
      | with_reducible apply Frame.ite
      | with_reducible apply Frame.ite2
      | with_reducible apply Frame.comp (State.padDrive_frame ..) (by decide)
      | with_reducible apply Frame.comp (State.rfxStep_frame ..) (by decide)
      | with_reducible apply Frame.foldl
      | with_reducible apply Frame.foldl2
      | (split <;> try (rename_i hq; have e := congrArg Prod.snd hq; dsimp only at e; subst e))
      | dsimp only
      | with_reducible intro _ _
  | succ n ih =>
    unfold State.settle
    repeat' first
      | with_reducible apply Frame.comp (ih ..) (by decide)
      | with_reducible exact Frame.rfl _ _
      | with_reducible apply Frame.ite
      | with_reducible apply Frame.ite2
      | with_reducible apply Frame.comp (State.padDrive_frame ..) (by decide)
      | with_reducible apply Frame.comp (State.rfxStep_frame ..) (by decide)
      | with_reducible apply Frame.foldl
      | with_reducible apply Frame.foldl2
      | (split <;> try (rename_i hq; have e := congrArg Prod.snd hq; dsimp only at e; subst e))
      | dsimp only
      | with_reducible intro _ _

theorem State.padRefresh_frame (s : State) : Frame 0x20000180080300000000401 s (State.padRefresh s) := by
  unfold State.padRefresh
  repeat' first
    | with_reducible exact Frame.rfl _ _
    | with_reducible apply Frame.ite
    | with_reducible apply Frame.ite2
    | with_reducible apply Frame.comp (State.settle_frame ..) (by decide)
    | with_reducible apply Frame.comp (State.rfxShow_frame ..) (by decide)
    | (split <;> try (rename_i hq; have e := congrArg Prod.snd hq; dsimp only at e; subst e))
    | dsimp only
    | with_reducible intro _ _

end Sys2Proof.Machine
end

