-- ==== Sys2Proof/Laws/FrameMem.lean ====
section
/-! SUPPORT. The frames of the operations of Machine/Mem.lean. -/

set_option linter.unreachableTactic false
set_option linter.unusedTactic false

namespace Sys2Proof.Machine

open Sys2Proof

theorem State.hostMemWrite_frame (s : State) (a size v : Nat) : Frame 0x20000208280000000000407 s (State.hostMemWrite s a size v) := by
  unfold State.hostMemWrite
  repeat' first
    | with_reducible exact Frame.rfl _ _
    | with_reducible apply Frame.ite
    | with_reducible apply Frame.ite2
    | with_reducible apply Frame.comp (State.emit_frame ..) (by decide)
    | with_reducible apply Frame.comp (State.raise_frame ..) (by decide)
    | with_reducible apply Frame.comp (State.memPut_frame ..) (by decide)
    | with_reducible apply Frame.comp (State.memMerge_frame ..) (by decide)
    | with_reducible apply Frame.inc (by decide)
    | with_reducible apply Frame.wr (by decide)
    | (split <;> try (rename_i hq; have e := congrArg Prod.snd hq; dsimp only at e; subst e))
    | dsimp only
    | with_reducible intro _ _

theorem State.hostMemRead_frame (s : State) (a size : Nat) : Frame 0x20000008080000000000401 s (State.hostMemRead s a size).2 := by
  unfold State.hostMemRead
  repeat' first
    | with_reducible exact Frame.rfl _ _
    | with_reducible apply Frame.ite
    | with_reducible apply Frame.ite2
    | with_reducible apply Frame.comp (State.memRead_frame ..) (by decide)
    | (split <;> try (rename_i hq; have e := congrArg Prod.snd hq; dsimp only at e; subst e))
    | dsimp only
    | with_reducible intro _ _

theorem execMemoryWrite_frame (addr size value : Nat) (s : State) : FrameO 0x20000208280000000000407 s (execMemoryWrite addr size value s) := by
  unfold execMemoryWrite
  repeat' first
    | with_reducible exact Frame.rfl _ _
    | with_reducible apply FrameO.powered
    | with_reducible apply FrameO.ok
    | with_reducible apply FrameO.next
    | with_reducible apply FrameO.ite
    | with_reducible apply Frame.ite
    | with_reducible apply Frame.ite2
    | with_reducible apply Frame.comp (State.hostMemWrite_frame ..) (by decide)
    | (split <;> try (rename_i hq; have e := congrArg Prod.snd hq; dsimp only at e; subst e))
    | dsimp only
    | with_reducible intro _ _

theorem execDemandRead_frame (addr size : Nat) (s : State) : FrameO 0x20000008080000000000401 s (execDemandRead addr size s) := by
  unfold execDemandRead
  repeat' first
    | with_reducible exact Frame.rfl _ _
    | with_reducible apply FrameO.powered
    | with_reducible apply FrameO.ok
    | with_reducible apply FrameO.next
    | with_reducible apply FrameO.ite
    | with_reducible apply Frame.ite
    | with_reducible apply Frame.ite2
    | with_reducible apply Frame.comp (State.emit_frame ..) (by decide)
    | with_reducible apply Frame.comp (State.hostMemRead_frame ..) (by decide)
    | (split <;> try (rename_i hq; have e := congrArg Prod.snd hq; dsimp only at e; subst e))
    | dsimp only
    | with_reducible intro _ _

theorem State.scrubBad_frame (s : State) (r w : Nat) : Frame 0x20000008080000000000401 s (State.scrubBad s r w) := by
  unfold State.scrubBad
  repeat' first
    | with_reducible exact Frame.rfl _ _
    | with_reducible apply Frame.ite
    | with_reducible apply Frame.ite2
    | with_reducible apply Frame.comp (State.raise_frame ..) (by decide)
    | with_reducible apply Frame.inci (by decide)
    | with_reducible apply Frame.wri (by decide)
    | (split <;> try (rename_i hq; have e := congrArg Prod.snd hq; dsimp only at e; subst e))
    | dsimp only
    | with_reducible intro _ _

theorem State.nvRequest_frame (s : State) (q : NvReq) : Frame 0x8000000000 s (State.nvRequest s q) := by
  unfold State.nvRequest
  repeat' first
    | with_reducible exact Frame.rfl _ _
    | with_reducible apply Frame.ite
    | fail_if_no_progress with_reducible apply Frame.put_memu _ (by decide)
    | (split <;> try (rename_i hq; have e := congrArg Prod.snd hq; dsimp only at e; subst e))
    | dsimp only
    | with_reducible intro _ _
    | fail_if_no_progress apply Frame.put_memu _ (by decide)

theorem State.nvStart_frame (s : State) : Frame 0x8000000000 s (State.nvStart s) := by
  unfold State.nvStart
  repeat' first
    | with_reducible exact Frame.rfl _ _
    | with_reducible apply Frame.ite
    | fail_if_no_progress with_reducible apply Frame.put_memu _ (by decide)
    | (split <;> try (rename_i hq; have e := congrArg Prod.snd hq; dsimp only at e; subst e))
    | dsimp only
    | with_reducible intro _ _
    | fail_if_no_progress apply Frame.put_memu _ (by decide)

theorem State.scrubFix_frame (s : State) (r w : Nat) : Frame 0x20000008080008000000407 s (State.scrubFix s r w) := by
  unfold State.scrubFix
  repeat' first
    | with_reducible exact Frame.rfl _ _
    | with_reducible apply Frame.ite
    | with_reducible apply Frame.ite2
    | with_reducible apply Frame.comp (State.memCorrect_frame ..) (by decide)
    | with_reducible apply Frame.comp (State.nvRequest_frame ..) (by decide)
    | with_reducible apply Frame.comp (State.nvStart_frame ..) (by decide)
    | with_reducible apply Frame.comp (State.memPut_frame ..) (by decide)
    | (split <;> try (rename_i hq; have e := congrArg Prod.snd hq; dsimp only at e; subst e))
    | dsimp only
    | with_reducible intro _ _

theorem execScrubRead_frame (region : Fin 7) (s : State) : FrameO 0x20000008080008000000407 s (execScrubRead region s) := by
  unfold execScrubRead
  repeat' first
    | with_reducible exact Frame.rfl _ _
    | with_reducible apply FrameO.powered
    | with_reducible apply FrameO.ok
    | with_reducible apply FrameO.next
    | with_reducible apply FrameO.ite
    | with_reducible apply Frame.ite
    | with_reducible apply Frame.ite2
    | with_reducible apply Frame.comp (State.scrubFix_frame ..) (by decide)
    | with_reducible apply Frame.comp (State.scrubBad_frame ..) (by decide)
    | with_reducible apply Frame.wrapi (by decide)
    | with_reducible apply Frame.wri (by decide)
    | fail_if_no_progress with_reducible apply Frame.put_memu _ (by decide)
    | (split <;> try (rename_i hq; have e := congrArg Prod.snd hq; dsimp only at e; subst e))
    | dsimp only
    | with_reducible intro _ _
    | fail_if_no_progress apply Frame.put_memu _ (by decide)

theorem execLeak_frame (region : Fin 7) (s : State) : FrameO 0x8000008000000001 s (execLeak region s) := by
  unfold execLeak
  repeat' first
    | with_reducible exact Frame.rfl _ _
    | with_reducible apply FrameO.powered
    | with_reducible apply FrameO.ok
    | with_reducible apply FrameO.next
    | with_reducible apply FrameO.ite
    | with_reducible apply Frame.ite
    | with_reducible apply Frame.ite2
    | with_reducible apply Frame.wri (by decide)
    | fail_if_no_progress with_reducible apply Frame.put_memu _ (by decide)
    | (split <;> try (rename_i hq; have e := congrArg Prod.snd hq; dsimp only at e; subst e))
    | dsimp only
    | with_reducible intro _ _
    | fail_if_no_progress apply Frame.put_memu _ (by decide)

theorem State.mark_frame (s : State) (r : Nat) : Frame 0x8000000000000001 s (State.mark s r) := by
  unfold State.mark
  repeat' first
    | with_reducible exact Frame.rfl _ _
    | with_reducible apply Frame.ite
    | with_reducible apply Frame.ite2
    | with_reducible apply Frame.wr (by decide)
    | (split <;> try (rename_i hq; have e := congrArg Prod.snd hq; dsimp only at e; subst e))
    | dsimp only
    | with_reducible intro _ _

theorem State.marks_frame (s : State) (mask : Nat) : Frame 0x8000000000000001 s (State.marks s mask) := by
  unfold State.marks
  repeat' first
    | with_reducible exact Frame.rfl _ _
    | with_reducible apply Frame.ite
    | with_reducible apply Frame.ite2
    | with_reducible apply Frame.comp (State.mark_frame ..) (by decide)
    | with_reducible apply Frame.foldl
    | with_reducible apply Frame.foldl2
    | (split <;> try (rename_i hq; have e := congrArg Prod.snd hq; dsimp only at e; subst e))
    | dsimp only
    | with_reducible intro _ _

theorem execMemInit_frame (value : Word) (s : State) : FrameO 0x8000000000000001 s (execMemInit value s) := by
  unfold execMemInit
  repeat' first
    | with_reducible exact Frame.rfl _ _
    | with_reducible apply FrameO.powered
    | with_reducible apply FrameO.ok
    | with_reducible apply FrameO.next
    | with_reducible apply FrameO.ite
    | with_reducible apply Frame.ite
    | with_reducible apply Frame.ite2
    | with_reducible apply Frame.comp (State.marks_frame ..) (by decide)
    | (split <;> try (rename_i hq; have e := congrArg Prod.snd hq; dsimp only at e; subst e))
    | dsimp only
    | with_reducible intro _ _

theorem State.nvCommand_frame (s : State) (v : Nat) : Frame 0x8000008000000001 s (State.nvCommand s v) := by
  unfold State.nvCommand
  repeat' first
    | with_reducible exact Frame.rfl _ _
    | with_reducible apply Frame.ite
    | with_reducible apply Frame.ite2
    | with_reducible apply Frame.comp (State.nvRequest_frame ..) (by decide)
    | with_reducible apply Frame.comp (State.nvStart_frame ..) (by decide)
    | with_reducible apply Frame.wr (by decide)
    | (split <;> try (rename_i hq; have e := congrArg Prod.snd hq; dsimp only at e; subst e))
    | dsimp only
    | with_reducible intro _ _

theorem execNvCommand_frame (value : Word) (s : State) : FrameO 0x8000008000000001 s (execNvCommand value s) := by
  unfold execNvCommand
  repeat' first
    | with_reducible exact Frame.rfl _ _
    | with_reducible apply FrameO.powered
    | with_reducible apply FrameO.ok
    | with_reducible apply FrameO.next
    | with_reducible apply FrameO.ite
    | with_reducible apply Frame.ite
    | with_reducible apply Frame.ite2
    | with_reducible apply Frame.comp (State.nvCommand_frame ..) (by decide)
    | (split <;> try (rename_i hq; have e := congrArg Prod.snd hq; dsimp only at e; subst e))
    | dsimp only
    | with_reducible intro _ _

theorem State.nvWrite_frame (s : State) (q : NvReq) : Frame 0x20000008080008000000407 s (State.nvWrite s q) := by
  unfold State.nvWrite
  repeat' first
    | with_reducible exact Frame.rfl _ _
    | with_reducible apply Frame.ite
    | with_reducible apply Frame.ite2
    | with_reducible apply Frame.comp (State.memPut_frame ..) (by decide)
    | with_reducible apply Frame.comp (State.emit_frame ..) (by decide)
    | with_reducible apply Frame.comp (State.raise_frame ..) (by decide)
    | with_reducible apply Frame.wr (by decide)
    | fail_if_no_progress with_reducible apply Frame.put_memu _ (by decide)
    | (split <;> try (rename_i hq; have e := congrArg Prod.snd hq; dsimp only at e; subst e))
    | dsimp only
    | with_reducible intro _ _
    | fail_if_no_progress apply Frame.put_memu _ (by decide)

theorem execNvWordComplete_frame (s : State) : FrameO 0x20000008080008000000407 s (execNvWordComplete s) := by
  unfold execNvWordComplete
  repeat' first
    | with_reducible exact Frame.rfl _ _
    | with_reducible apply FrameO.powered
    | with_reducible apply FrameO.ok
    | with_reducible apply FrameO.next
    | with_reducible apply FrameO.ite
    | with_reducible apply Frame.ite
    | with_reducible apply Frame.ite2
    | with_reducible apply Frame.comp (State.nvStart_frame ..) (by decide)
    | with_reducible apply Frame.comp (State.nvWrite_frame ..) (by decide)
    | (split <;> try (rename_i hq; have e := congrArg Prod.snd hq; dsimp only at e; subst e))
    | dsimp only
    | with_reducible intro _ _

theorem State.repairCommand_frame (s : State) (v : Nat) : Frame 0x8000008000000001 s (State.repairCommand s v) := by
  unfold State.repairCommand
  repeat' first
    | with_reducible exact Frame.rfl _ _
    | with_reducible apply Frame.ite
    | with_reducible apply Frame.ite2
    | with_reducible apply Frame.wr (by decide)
    | fail_if_no_progress with_reducible apply Frame.put_memu _ (by decide)
    | (split <;> try (rename_i hq; have e := congrArg Prod.snd hq; dsimp only at e; subst e))
    | dsimp only
    | with_reducible intro _ _
    | fail_if_no_progress apply Frame.put_memu _ (by decide)

theorem execRepair_frame (value : Word) (s : State) : FrameO 0x8000008000000001 s (execRepair value s) := by
  unfold execRepair
  repeat' first
    | with_reducible exact Frame.rfl _ _
    | with_reducible apply FrameO.powered
    | with_reducible apply FrameO.ok
    | with_reducible apply FrameO.next
    | with_reducible apply FrameO.ite
    | with_reducible apply Frame.ite
    | with_reducible apply Frame.ite2
    | with_reducible apply Frame.comp (State.repairCommand_frame ..) (by decide)
    | (split <;> try (rename_i hq; have e := congrArg Prod.snd hq; dsimp only at e; subst e))
    | dsimp only
    | with_reducible intro _ _

theorem execRepairdone_frame (good : Bool) (s : State) : FrameO 0x20000008080008000000441 s (execRepairdone good s) := by
  unfold execRepairdone
  repeat' first
    | with_reducible exact Frame.rfl _ _
    | with_reducible apply FrameO.powered
    | with_reducible apply FrameO.ok
    | with_reducible apply FrameO.next
    | with_reducible apply FrameO.ite
    | with_reducible apply Frame.ite
    | with_reducible apply Frame.ite2
    | with_reducible apply Frame.comp (State.raise_frame ..) (by decide)
    | with_reducible apply Frame.wr (by decide)
    | (split <;> try (rename_i hq; have e := congrArg Prod.snd hq; dsimp only at e; subst e))
    | dsimp only
    | with_reducible intro _ _
    | (refine Frame.comp (k := 0x20000008080008000000441) (t := s) ⟨fun p hp => ?_, fun w => w⟩ (by decide) (Frame.rfl _ _); cases p <;> first | exact Eq.refl _ | exact fun _ _ => Eq.refl _ | exact fun _ _ _ => Eq.refl _ | exact absurd hp (by decide))

theorem State.freshRow_frame (s : State) (a : Nat) : Frame 0x8000000000000017 s (State.freshRow s a) := by
  unfold State.freshRow
  repeat' first
    | with_reducible exact Frame.rfl _ _
    | with_reducible apply Frame.ite
    | with_reducible apply Frame.ite2
    | with_reducible apply Frame.comp (State.free_frame ..) (by decide)
    | with_reducible apply Frame.comp (State.memPut_frame ..) (by decide)
    | with_reducible apply Frame.comp (State.setFlips_frame ..) (by decide)
    | with_reducible apply Frame.foldl
    | with_reducible apply Frame.foldl2
    | (split <;> try (rename_i hq; have e := congrArg Prod.snd hq; dsimp only at e; subst e))
    | dsimp only
    | with_reducible intro _ _

end Sys2Proof.Machine
end

