-- ==== Sys2Proof/Laws/FrameRec.lean ====
section
/-! SUPPORT. The frames of the operations of Machine/Rec.lean. -/

set_option linter.unreachableTactic false
set_option linter.unusedTactic false

namespace Sys2Proof.Machine

open Sys2Proof

theorem State.recSeq2_frame (s : State) : Frame 0x10000000000000001 s (State.recSeq2 s) := by
  unfold State.recSeq2
  repeat' first
    | with_reducible exact Frame.rfl _ _
    | with_reducible apply Frame.ite
    | with_reducible apply Frame.ite2
    | with_reducible apply Frame.wr (by decide)
    | (split <;> try (rename_i hq; have e := congrArg Prod.snd hq; dsimp only at e; subst e))
    | dsimp only
    | with_reducible intro _ _

theorem State.recSample_frame (s : State) (k : Nat) (v : FV) : Frame 0x10000010000000001 s (State.recSample s k v) := by
  unfold State.recSample
  repeat' first
    | with_reducible exact Frame.rfl _ _
    | with_reducible apply Frame.ite
    | with_reducible apply Frame.ite2
    | with_reducible apply Frame.inc (by decide)
    | fail_if_no_progress with_reducible apply Frame.put_spoor _ (by decide)
    | (split <;> try (rename_i hq; have e := congrArg Prod.snd hq; dsimp only at e; subst e))
    | dsimp only
    | with_reducible intro _ _
    | fail_if_no_progress apply Frame.put_spoor _ (by decide)

theorem State.recCan_frame (s : State) : Frame 0x10000000000 s (State.recCan s) := by
  unfold State.recCan
  repeat' first
    | with_reducible exact Frame.rfl _ _
    | with_reducible apply Frame.ite
    | with_reducible apply Frame.ite2
    | fail_if_no_progress with_reducible apply Frame.put_spoor _ (by decide)
    | with_reducible apply Frame.foldl
    | with_reducible apply Frame.foldl2
    | (split <;> try (rename_i hq; have e := congrArg Prod.snd hq; dsimp only at e; subst e))
    | dsimp only
    | with_reducible intro _ _
    | fail_if_no_progress apply Frame.put_spoor _ (by decide)

theorem execSeriesSample_frame (vddc : Nat) (s : State) : FrameO 0x10000010000000001 s (execSeriesSample vddc s) := by
  unfold execSeriesSample
  repeat' first
    | with_reducible exact Frame.rfl _ _
    | with_reducible apply FrameO.powered
    | with_reducible apply FrameO.ok
    | with_reducible apply FrameO.next
    | with_reducible apply FrameO.ite
    | with_reducible apply Frame.ite
    | with_reducible apply Frame.ite2
    | with_reducible apply Frame.comp (State.recSample_frame ..) (by decide)
    | with_reducible apply Frame.comp (State.recCan_frame ..) (by decide)
    | with_reducible apply Frame.comp (State.recSeq2_frame ..) (by decide)
    | fail_if_no_progress with_reducible apply Frame.put_spoor _ (by decide)
    | with_reducible apply Frame.foldl
    | with_reducible apply Frame.foldl2
    | (split <;> try (rename_i hq; have e := congrArg Prod.snd hq; dsimp only at e; subst e))
    | dsimp only
    | with_reducible intro _ _
    | fail_if_no_progress apply Frame.put_spoor _ (by decide)

theorem execOperatingTimeTick_frame (s : State) : FrameO 0x10000010000000001 s (execOperatingTimeTick s) := by
  unfold execOperatingTimeTick
  repeat' first
    | with_reducible exact Frame.rfl _ _
    | with_reducible apply FrameO.powered
    | with_reducible apply FrameO.ok
    | with_reducible apply FrameO.next
    | with_reducible apply FrameO.ite
    | with_reducible apply Frame.ite
    | with_reducible apply Frame.ite2
    | with_reducible apply Frame.wr (by decide)
    | fail_if_no_progress with_reducible apply Frame.put_spoor _ (by decide)
    | (split <;> try (rename_i hq; have e := congrArg Prod.snd hq; dsimp only at e; subst e))
    | dsimp only
    | with_reducible intro _ _
    | fail_if_no_progress apply Frame.put_spoor _ (by decide)

theorem State.nvRequests_frame (s : State) (prio : Nat) (l : List (Nat × Nat)) : Frame 0x8000000000 s (State.nvRequests s prio l) := by
  unfold State.nvRequests
  repeat' first
    | with_reducible exact Frame.rfl _ _
    | with_reducible apply Frame.ite
    | with_reducible apply Frame.ite2
    | fail_if_no_progress with_reducible apply Frame.put_memu _ (by decide)
    | (split <;> try (rename_i hq; have e := congrArg Prod.snd hq; dsimp only at e; subst e))
    | dsimp only
    | with_reducible intro _ _
    | fail_if_no_progress apply Frame.put_memu _ (by decide)

theorem State.nvDropRec_frame (s : State) : Frame 0x8000000000 s (State.nvDropRec s) := by
  unfold State.nvDropRec
  repeat' first
    | with_reducible exact Frame.rfl _ _
    | with_reducible apply Frame.ite
    | with_reducible apply Frame.ite2
    | fail_if_no_progress with_reducible apply Frame.put_memu _ (by decide)
    | (split <;> try (rename_i hq; have e := congrArg Prod.snd hq; dsimp only at e; subst e))
    | dsimp only
    | with_reducible intro _ _
    | fail_if_no_progress apply Frame.put_memu _ (by decide)

theorem State.recSuppress_frame (s : State) (code : Nat) : Frame 0x20000010080000000000401 s (State.recSuppress s code) := by
  unfold State.recSuppress
  repeat' first
    | with_reducible exact Frame.rfl _ _
    | with_reducible apply Frame.ite
    | with_reducible apply Frame.ite2
    | with_reducible apply Frame.comp (State.raise_frame ..) (by decide)
    | with_reducible apply Frame.inc (by decide)
    | (split <;> try (rename_i hq; have e := congrArg Prod.snd hq; dsimp only at e; subst e))
    | dsimp only
    | with_reducible intro _ _

theorem State.flushGo_frame (s : State) (code k : Nat) : Frame 0x10000018000000001 s (State.flushGo s code k) := by
  unfold State.flushGo
  repeat' first
    | with_reducible exact Frame.rfl _ _
    | with_reducible apply Frame.ite
    | with_reducible apply Frame.ite2
    | with_reducible apply Frame.comp (State.nvRequests_frame ..) (by decide)
    | with_reducible apply Frame.comp (State.nvStart_frame ..) (by decide)
    | with_reducible apply Frame.wr (by decide)
    | fail_if_no_progress with_reducible apply Frame.put_spoor _ (by decide)
    | (split <;> try (rename_i hq; have e := congrArg Prod.snd hq; dsimp only at e; subst e))
    | dsimp only
    | with_reducible intro _ _
    | fail_if_no_progress apply Frame.put_spoor _ (by decide)

theorem State.flushBack_frame (s : State) (f : Flush) : Frame 0x10000010000000001 s (State.flushBack s f) := by
  unfold State.flushBack
  repeat' first
    | with_reducible exact Frame.rfl _ _
    | with_reducible apply Frame.ite
    | with_reducible apply Frame.ite2
    | with_reducible apply Frame.inc (by decide)
    | fail_if_no_progress with_reducible apply Frame.put_spoor _ (by decide)
    | (split <;> try (rename_i hq; have e := congrArg Prod.snd hq; dsimp only at e; subst e))
    | dsimp only
    | with_reducible intro _ _
    | fail_if_no_progress apply Frame.put_spoor _ (by decide)

theorem State.flushAbandon_frame (s : State) : Frame 0x10000018000000001 s (State.flushAbandon s) := by
  unfold State.flushAbandon
  repeat' first
    | with_reducible exact Frame.rfl _ _
    | with_reducible apply Frame.ite
    | with_reducible apply Frame.ite2
    | with_reducible apply Frame.comp (State.nvDropRec_frame ..) (by decide)
    | with_reducible apply Frame.comp (State.flushBack_frame ..) (by decide)
    | with_reducible apply Frame.wr (by decide)
    | fail_if_no_progress with_reducible apply Frame.put_spoor _ (by decide)
    | (split <;> try (rename_i hq; have e := congrArg Prod.snd hq; dsimp only at e; subst e))
    | dsimp only
    | with_reducible intro _ _
    | fail_if_no_progress apply Frame.put_spoor _ (by decide)

theorem State.flushAsk_frame (s : State) (code : Nat) : Frame 0x20000010080018000000401 s (State.flushAsk s code) := by
  unfold State.flushAsk
  repeat' first
    | with_reducible exact Frame.rfl _ _
    | with_reducible apply Frame.ite
    | with_reducible apply Frame.comp (State.recSuppress_frame ..) (by decide)
    | with_reducible apply Frame.comp (State.flushAbandon_frame ..) (by decide)
    | with_reducible apply Frame.comp (State.flushGo_frame ..) (by decide)
    | (split <;> try (rename_i hq; have e := congrArg Prod.snd hq; dsimp only at e; subst e))
    | dsimp only
    | with_reducible intro _ _

theorem execPeriodicFlush_frame (s : State) : FrameO 0x20000010080018000000401 s (execPeriodicFlush s) := by
  unfold execPeriodicFlush
  repeat' first
    | with_reducible exact Frame.rfl _ _
    | with_reducible apply FrameO.powered
    | with_reducible apply FrameO.ok
    | with_reducible apply FrameO.next
    | with_reducible apply FrameO.ite
    | with_reducible apply Frame.ite
    | with_reducible apply Frame.ite2
    | with_reducible apply Frame.comp (State.flushAsk_frame ..) (by decide)
    | fail_if_no_progress with_reducible apply Frame.put_spoor _ (by decide)
    | (split <;> try (rename_i hq; have e := congrArg Prod.snd hq; dsimp only at e; subst e))
    | dsimp only
    | with_reducible intro _ _
    | fail_if_no_progress apply Frame.put_spoor _ (by decide)

theorem execPfail_frame (s : State) : FrameO 0x20000010080018000000401 s (execPfail s) := by
  unfold execPfail
  repeat' first
    | with_reducible exact Frame.rfl _ _
    | with_reducible apply FrameO.powered
    | with_reducible apply FrameO.ok
    | with_reducible apply FrameO.next
    | with_reducible apply FrameO.ite
    | with_reducible apply Frame.ite
    | with_reducible apply Frame.ite2
    | with_reducible apply Frame.comp (State.flushAsk_frame ..) (by decide)
    | fail_if_no_progress with_reducible apply Frame.put_spoor _ (by decide)
    | (split <;> try (rename_i hq; have e := congrArg Prod.snd hq; dsimp only at e; subst e))
    | dsimp only
    | with_reducible intro _ _
    | fail_if_no_progress apply Frame.put_spoor _ (by decide)

theorem execPfailRise_frame (s : State) : FrameO 0x10000000000 s (execPfailRise s) := by
  unfold execPfailRise
  repeat' first
    | with_reducible exact Frame.rfl _ _
    | with_reducible apply FrameO.powered
    | with_reducible apply FrameO.ok
    | with_reducible apply FrameO.next
    | with_reducible apply FrameO.ite
    | with_reducible apply Frame.ite
    | fail_if_no_progress with_reducible apply Frame.put_spoor _ (by decide)
    | (split <;> try (rename_i hq; have e := congrArg Prod.snd hq; dsimp only at e; subst e))
    | dsimp only
    | with_reducible intro _ _
    | fail_if_no_progress apply Frame.put_spoor _ (by decide)

theorem execFlush_frame (s : State) : FrameO 0x20000010080018000000401 s (execFlush s) := by
  unfold execFlush
  repeat' first
    | with_reducible exact Frame.rfl _ _
    | with_reducible apply FrameO.powered
    | with_reducible apply FrameO.ok
    | with_reducible apply FrameO.next
    | with_reducible apply FrameO.ite
    | with_reducible apply Frame.ite
    | with_reducible apply Frame.ite2
    | with_reducible apply Frame.comp (State.flushAsk_frame ..) (by decide)
    | (split <;> try (rename_i hq; have e := congrArg Prod.snd hq; dsimp only at e; subst e))
    | dsimp only
    | with_reducible intro _ _

theorem State.benchWrite_frame (s : State) (status dcause last dtime : Nat) : Frame 0x18000000000000007 s (State.benchWrite s status dcause last dtime) := by
  unfold State.benchWrite
  repeat' first
    | with_reducible exact Frame.rfl _ _
    | with_reducible apply Frame.ite
    | with_reducible apply Frame.ite2
    | with_reducible apply Frame.comp (State.memPuts_frame ..) (by decide)
    | with_reducible apply Frame.wr (by decide)
    | with_reducible apply Frame.foldl
    | with_reducible apply Frame.foldl2
    | (split <;> try (rename_i hq; have e := congrArg Prod.snd hq; dsimp only at e; subst e))
    | dsimp only
    | with_reducible intro _ _

theorem State.benchRead_frame (s : State) (c : Nat) : Frame 0x20000008080000000000401 s (State.benchRead s c).2 := by
  unfold State.benchRead
  repeat' first
    | with_reducible exact Frame.rfl _ _
    | with_reducible apply Frame.ite
    | with_reducible apply Frame.ite2
    | with_reducible apply Frame.comp (State.memReads_frame ..) (by decide)
    | (split <;> try (rename_i hq; have e := congrArg Prod.snd hq; dsimp only at e; subst e))
    | dsimp only
    | with_reducible intro _ _

theorem State.recDegrade_frame (s : State) (cause : Nat) : Frame 0x20000018080000000000407 s (State.recDegrade s cause) := by
  unfold State.recDegrade
  repeat' first
    | with_reducible exact Frame.rfl _ _
    | with_reducible apply Frame.ite
    | with_reducible apply Frame.ite2
    | with_reducible apply Frame.comp (State.raise_frame ..) (by decide)
    | with_reducible apply Frame.comp (State.benchWrite_frame ..) (by decide)
    | with_reducible apply Frame.wr (by decide)
    | (split <;> try (rename_i hq; have e := congrArg Prod.snd hq; dsimp only at e; subst e))
    | dsimp only
    | with_reducible intro _ _

theorem State.recBad_frame (s : State) (next : Nat) : Frame 0x20000018080010000000407 s (State.recBad s next) := by
  unfold State.recBad
  repeat' first
    | with_reducible exact Frame.rfl _ _
    | with_reducible apply Frame.ite
    | with_reducible apply Frame.ite2
    | with_reducible apply Frame.comp (State.raise_frame ..) (by decide)
    | with_reducible apply Frame.comp (State.recDegrade_frame ..) (by decide)
    | with_reducible apply Frame.inc (by decide)
    | fail_if_no_progress with_reducible apply Frame.put_spoor _ (by decide)
    | (split <;> try (rename_i hq; have e := congrArg Prod.snd hq; dsimp only at e; subst e))
    | dsimp only
    | with_reducible intro _ _
    | fail_if_no_progress apply Frame.put_spoor _ (by decide)

theorem State.recGood_frame (s : State) (f : Flush) (next : Nat) (l : List Nat) : Frame 0x20000010080010000000401 s (State.recGood s f next l) := by
  unfold State.recGood
  repeat' first
    | with_reducible exact Frame.rfl _ _
    | with_reducible apply Frame.ite
    | with_reducible apply Frame.ite2
    | with_reducible apply Frame.comp (State.raise_frame ..) (by decide)
    | with_reducible apply Frame.comp (State.raiseIf_frame ..) (by decide)
    | with_reducible apply Frame.wr (by decide)
    | fail_if_no_progress with_reducible apply Frame.put_spoor _ (by decide)
    | (split <;> try (rename_i hq; have e := congrArg Prod.snd hq; dsimp only at e; subst e))
    | dsimp only
    | with_reducible intro _ _
    | fail_if_no_progress apply Frame.put_spoor _ (by decide)

theorem State.flushEnd_frame (s : State) (f : Flush) : Frame 0x20000018080010000000407 s (State.flushEnd s f) := by
  unfold State.flushEnd
  dsimp only
  have h : Frame 0x20000018080010000000407 s (({ s with spoor := { s.spoor with flush := none } }.wr REC_STAT_FLUSHING 0).memBytes (ringAddr f.slot) 0x630).2 := by
    refine Frame.comp (State.memBytes_frame ..) (by decide) ?_
    refine Frame.wr (by decide) ?_
    exact Frame.put_spoor _ (by decide) (Frame.rfl _ _)
  split
  · refine Frame.ite ?_ ?_
    · exact Frame.comp (State.recGood_frame ..) (by decide) h
    · exact Frame.comp (State.recBad_frame ..) (by decide) (Frame.comp (State.flushBack_frame ..) (by decide) h)
  · exact Frame.comp (State.recBad_frame ..) (by decide) (Frame.comp (State.flushBack_frame ..) (by decide) h)

theorem execFlushComplete_frame (s : State) : FrameO 0x20000018080010000000407 s (execFlushComplete s) := by
  unfold execFlushComplete
  repeat' first
    | with_reducible exact Frame.rfl _ _
    | with_reducible apply FrameO.powered
    | with_reducible apply FrameO.ok
    | with_reducible apply FrameO.next
    | with_reducible apply FrameO.ite
    | with_reducible apply Frame.ite
    | with_reducible apply Frame.ite2
    | with_reducible apply Frame.comp (State.flushEnd_frame ..) (by decide)
    | (split <;> try (rename_i hq; have e := congrArg Prod.snd hq; dsimp only at e; subst e))
    | dsimp only
    | with_reducible intro _ _

theorem State.scanSlots_frame (n : Nat) (s : State) (addr : Nat → Nat) (len : Nat) : Frame 0x20000008080000000000401 s (s.scanSlots addr len n).2 := by
  induction n generalizing s with
  | zero =>
    unfold State.scanSlots
    repeat' first
      | with_reducible exact Frame.rfl _ _
      | with_reducible apply Frame.ite
      | with_reducible apply Frame.ite2
      | with_reducible apply Frame.comp (State.memBytes_frame ..) (by decide)
      | (split <;> try (rename_i hq; have e := congrArg Prod.snd hq; dsimp only at e; subst e))
      | dsimp only
      | with_reducible intro _ _
  | succ n ih =>
    unfold State.scanSlots
    repeat' first
      | with_reducible apply Frame.comp (ih ..) (by decide)
      | with_reducible exact Frame.rfl _ _
      | with_reducible apply Frame.ite
      | with_reducible apply Frame.ite2
      | with_reducible apply Frame.comp (State.memBytes_frame ..) (by decide)
      | (split <;> try (rename_i hq; have e := congrArg Prod.snd hq; dsimp only at e; subst e))
      | dsimp only
      | with_reducible intro _ _

theorem State.storeLoad_frame (s : State) (l : List Nat) : Frame 0x10000010000000001 s (State.storeLoad s l) := by
  unfold State.storeLoad
  repeat' first
    | with_reducible exact Frame.rfl _ _
    | with_reducible apply Frame.ite
    | with_reducible apply Frame.ite2
    | with_reducible apply Frame.comp (State.recSeq2_frame ..) (by decide)
    | with_reducible apply Frame.wr (by decide)
    | fail_if_no_progress with_reducible apply Frame.put_spoor _ (by decide)
    | (split <;> try (rename_i hq; have e := congrArg Prod.snd hq; dsimp only at e; subst e))
    | dsimp only
    | with_reducible intro _ _
    | fail_if_no_progress apply Frame.put_spoor _ (by decide)

theorem State.storeEmpty_frame (s : State) : Frame 0x10000000000 s (State.storeEmpty s) := by
  unfold State.storeEmpty
  repeat' first
    | with_reducible exact Frame.rfl _ _
    | with_reducible apply Frame.ite
    | fail_if_no_progress with_reducible apply Frame.put_spoor _ (by decide)
    | (split <;> try (rename_i hq; have e := congrArg Prod.snd hq; dsimp only at e; subst e))
    | dsimp only
    | with_reducible intro _ _
    | fail_if_no_progress apply Frame.put_spoor _ (by decide)

theorem State.scanRing_frame (s : State) (nr : Option (Nat × List Nat)) : Frame 0x10000010000000001 s (State.scanRing s nr) := by
  unfold State.scanRing
  repeat' first
    | with_reducible exact Frame.rfl _ _
    | with_reducible apply Frame.ite
    | with_reducible apply Frame.ite2
    | with_reducible apply Frame.wr (by decide)
    | fail_if_no_progress with_reducible apply Frame.put_spoor _ (by decide)
    | (split <;> try (rename_i hq; have e := congrArg Prod.snd hq; dsimp only at e; subst e))
    | dsimp only
    | with_reducible intro _ _
    | fail_if_no_progress apply Frame.put_spoor _ (by decide)

theorem State.scanShut_frame (s : State) (ns : Option (Nat × List Nat)) : Frame 0x18000010000000007 s (State.scanShut s ns) := by
  unfold State.scanShut
  repeat' first
    | with_reducible exact Frame.rfl _ _
    | with_reducible apply Frame.ite
    | with_reducible apply Frame.ite2
    | with_reducible apply Frame.comp (State.memPut_frame ..) (by decide)
    | with_reducible apply Frame.wr (by decide)
    | fail_if_no_progress with_reducible apply Frame.put_spoor _ (by decide)
    | (split <;> try (rename_i hq; have e := congrArg Prod.snd hq; dsimp only at e; subst e))
    | dsimp only
    | with_reducible intro _ _
    | fail_if_no_progress apply Frame.put_spoor _ (by decide)

theorem State.scanAon_frame (s : State) (nr : Option (Nat × List Nat)) : Frame 0x10000000000000001 s (State.scanAon s nr) := by
  unfold State.scanAon
  repeat' first
    | with_reducible exact Frame.rfl _ _
    | with_reducible apply Frame.ite
    | with_reducible apply Frame.ite2
    | with_reducible apply Frame.wr (by decide)
    | (split <;> try (rename_i hq; have e := congrArg Prod.snd hq; dsimp only at e; subst e))
    | dsimp only
    | with_reducible intro _ _

theorem State.scanBench_frame (s : State) (por : Bool) (shutD : Nat) : Frame 0x20000018080010000000407 s (State.scanBench s por shutD) := by
  unfold State.scanBench
  repeat' first
    | with_reducible exact Frame.rfl _ _
    | with_reducible apply Frame.ite
    | with_reducible apply Frame.ite2
    | with_reducible apply Frame.comp (State.benchRead_frame ..) (by decide)
    | with_reducible apply Frame.comp (State.raise_frame ..) (by decide)
    | with_reducible apply Frame.comp (State.benchWrite_frame ..) (by decide)
    | with_reducible apply Frame.wr (by decide)
    | fail_if_no_progress with_reducible apply Frame.put_spoor _ (by decide)
    | (split <;> try (rename_i hq; have e := congrArg Prod.snd hq; dsimp only at e; subst e))
    | dsimp only
    | with_reducible intro _ _
    | fail_if_no_progress apply Frame.put_spoor _ (by decide)

theorem State.recFound_frame (s : State) (por aon : Bool) (ring shut : List (Nat × List Nat)) : Frame 0x20000018080010000000407 s (State.recFound s por aon ring shut) := by
  unfold State.recFound
  repeat' first
    | with_reducible exact Frame.rfl _ _
    | with_reducible apply Frame.ite
    | with_reducible apply Frame.ite2
    | with_reducible apply Frame.comp (State.scanRing_frame ..) (by decide)
    | with_reducible apply Frame.comp (State.scanShut_frame ..) (by decide)
    | with_reducible apply Frame.comp (State.scanAon_frame ..) (by decide)
    | with_reducible apply Frame.comp (State.storeLoad_frame ..) (by decide)
    | with_reducible apply Frame.comp (State.storeEmpty_frame ..) (by decide)
    | with_reducible apply Frame.comp (State.scanBench_frame ..) (by decide)
    | (split <;> try (rename_i hq; have e := congrArg Prod.snd hq; dsimp only at e; subst e))
    | dsimp only
    | with_reducible intro _ _

theorem State.recScan_frame (s : State) (por aon : Bool) : Frame 0x20000018080010000000407 s (State.recScan s por aon) := by
  unfold State.recScan
  repeat' first
    | with_reducible exact Frame.rfl _ _
    | with_reducible apply Frame.ite
    | with_reducible apply Frame.ite2
    | with_reducible apply Frame.comp (State.storeEmpty_frame ..) (by decide)
    | with_reducible apply Frame.comp (State.scanAon_frame ..) (by decide)
    | with_reducible apply Frame.comp (State.recDegrade_frame ..) (by decide)
    | with_reducible apply Frame.comp (State.scanSlots_frame ..) (by decide)
    | with_reducible apply Frame.comp (State.recFound_frame ..) (by decide)
    | (split <;> try (rename_i hq; have e := congrArg Prod.snd hq; dsimp only at e; subst e))
    | dsimp only
    | with_reducible intro _ _

theorem State.shutRecord_frame (s : State) (group sensor level temp failed : Nat) : Frame 0x18000018000000007 s (State.shutRecord s group sensor level temp failed) := by
  unfold State.shutRecord
  repeat' first
    | with_reducible exact Frame.rfl _ _
    | with_reducible apply Frame.ite
    | with_reducible apply Frame.ite2
    | with_reducible apply Frame.comp (State.flushAbandon_frame ..) (by decide)
    | with_reducible apply Frame.comp (State.memPutBytes_frame ..) (by decide)
    | with_reducible apply Frame.wr (by decide)
    | fail_if_no_progress with_reducible apply Frame.put_spoor _ (by decide)
    | (split <;> try (rename_i hq; have e := congrArg Prod.snd hq; dsimp only at e; subst e))
    | dsimp only
    | with_reducible intro _ _
    | fail_if_no_progress apply Frame.put_spoor _ (by decide)

theorem State.recAdvance_frame (s : State) : Frame 0x10000000000000001 s (State.recAdvance s) := by
  unfold State.recAdvance
  repeat' first
    | with_reducible exact Frame.rfl _ _
    | with_reducible apply Frame.ite
    | with_reducible apply Frame.ite2
    | with_reducible apply Frame.wr (by decide)
    | (split <;> try (rename_i hq; have e := congrArg Prod.snd hq; dsimp only at e; subst e))
    | dsimp only
    | with_reducible intro _ _

theorem execWindowRead_frame (s : State) : FrameO 0x10080000000000001 s (execWindowRead s) := by
  unfold execWindowRead
  repeat' first
    | with_reducible exact Frame.rfl _ _
    | with_reducible apply FrameO.powered
    | with_reducible apply FrameO.ok
    | with_reducible apply FrameO.next
    | with_reducible apply FrameO.ite
    | with_reducible apply Frame.ite
    | with_reducible apply Frame.ite2
    | with_reducible apply Frame.comp (State.emit_frame ..) (by decide)
    | with_reducible apply Frame.comp (State.recAdvance_frame ..) (by decide)
    | (split <;> try (rename_i hq; have e := congrArg Prod.snd hq; dsimp only at e; subst e))
    | dsimp only
    | with_reducible intro _ _

theorem State.dumpSend_frame (s : State) (l : List (List Nat)) : Frame 0x20000011080000000010401 s (State.dumpSend s l) := by
  unfold State.dumpSend
  repeat' first
    | with_reducible exact Frame.rfl _ _
    | with_reducible apply Frame.ite
    | with_reducible apply Frame.ite2
    | with_reducible apply Frame.comp (State.dmaReady_frame ..) (by decide)
    | with_reducible apply Frame.wr (by decide)
    | with_reducible apply Frame.foldl
    | with_reducible apply Frame.foldl2
    | (split <;> try (rename_i hq; have e := congrArg Prod.snd hq; dsimp only at e; subst e))
    | dsimp only
    | with_reducible intro _ _

theorem execDump_frame (s : State) : FrameO 0x20000019080000000010401 s (execDump s) := by
  unfold execDump
  repeat' first
    | with_reducible exact Frame.rfl _ _
    | with_reducible apply FrameO.powered
    | with_reducible apply FrameO.ok
    | with_reducible apply FrameO.next
    | with_reducible apply FrameO.ite
    | with_reducible apply Frame.ite
    | with_reducible apply Frame.ite2
    | with_reducible apply Frame.comp (State.scanSlots_frame ..) (by decide)
    | with_reducible apply Frame.comp (State.dumpSend_frame ..) (by decide)
    | with_reducible apply Frame.foldl
    | with_reducible apply Frame.foldl2
    | (split <;> try (rename_i hq; have e := congrArg Prod.snd hq; dsimp only at e; subst e))
    | dsimp only
    | with_reducible intro _ _

theorem execClear_frame (key : BitVec 16) (s : State) : FrameO 0x10000010000000001 s (execClear key s) := by
  unfold execClear
  repeat' first
    | with_reducible exact Frame.rfl _ _
    | with_reducible apply FrameO.powered
    | with_reducible apply FrameO.ok
    | with_reducible apply FrameO.next
    | with_reducible apply FrameO.ite
    | with_reducible apply Frame.ite
    | with_reducible apply Frame.ite2
    | with_reducible apply Frame.comp (State.storeEmpty_frame ..) (by decide)
    | with_reducible apply Frame.comp (State.recSeq2_frame ..) (by decide)
    | with_reducible apply Frame.wr (by decide)
    | (split <;> try (rename_i hq; have e := congrArg Prod.snd hq; dsimp only at e; subst e))
    | dsimp only
    | with_reducible intro _ _

theorem State.recReset_frame (s : State) : Frame 0x20000019080018000010407 s (State.recReset s) := by
  unfold State.recReset
  repeat' first
    | with_reducible exact Frame.rfl _ _
    | with_reducible apply Frame.ite
    | with_reducible apply Frame.ite2
    | with_reducible apply Frame.comp (State.flushAbandon_frame ..) (by decide)
    | with_reducible apply Frame.comp (State.dmaDiscard_frame ..) (by decide)
    | with_reducible apply Frame.comp (State.recDegrade_frame ..) (by decide)
    | with_reducible apply Frame.wr (by decide)
    | fail_if_no_progress with_reducible apply Frame.put_spoor _ (by decide)
    | (split <;> try (rename_i hq; have e := congrArg Prod.snd hq; dsimp only at e; subst e))
    | dsimp only
    | with_reducible intro _ _
    | fail_if_no_progress apply Frame.put_spoor _ (by decide)

end Sys2Proof.Machine
end

