-- ==== Sys2Proof/Laws/FrameTime.lean ====
section
/-! SUPPORT. The frames of the operations of Machine/Time.lean. -/

set_option linter.unreachableTactic false
set_option linter.unusedTactic false

namespace Sys2Proof.Machine

open Sys2Proof

theorem State.timeM_frame (s : State) (f : TimeUnit → TimeUnit) : Frame 0x2000000000 s (State.timeM s f) := by
  unfold State.timeM
  repeat' first
    | with_reducible exact Frame.rfl _ _
    | with_reducible apply Frame.ite
    | fail_if_no_progress with_reducible apply Frame.put_time _ (by decide)
    | (split <;> try (rename_i hq; have e := congrArg Prod.snd hq; dsimp only at e; subst e))
    | dsimp only
    | with_reducible intro _ _
    | fail_if_no_progress apply Frame.put_time _ (by decide)

theorem State.advance_frame (s : State) (n : Nat) : Frame 0x10000000080 s (State.advance s n) := by
  unfold State.advance
  repeat' first
    | with_reducible exact Frame.rfl _ _
    | with_reducible apply Frame.ite
    | with_reducible apply Frame.ite2
    | fail_if_no_progress with_reducible apply Frame.put_clk _ (by decide)
    | (split <;> try (rename_i hq; have e := congrArg Prod.snd hq; dsimp only at e; subst e))
    | dsimp only
    | with_reducible intro _ _
    | fail_if_no_progress apply Frame.put_clk _ (by decide)
    | (refine Frame.comp (k := 0x10000000080) (t := s) ⟨fun p hp => ?_, fun w => w⟩ (by decide) (Frame.rfl _ _); cases p <;> first | exact Eq.refl _ | exact fun _ _ => Eq.refl _ | exact fun _ _ _ => Eq.refl _ | exact absurd hp (by decide))

theorem State.tick_frame (s : State) : Frame 0x10000000080 s (State.tick s) := by
  unfold State.tick
  repeat' first
    | with_reducible exact Frame.rfl _ _
    | with_reducible apply Frame.ite
    | with_reducible apply Frame.comp (State.advance_frame ..) (by decide)
    | (split <;> try (rename_i hq; have e := congrArg Prod.snd hq; dsimp only at e; subst e))
    | dsimp only
    | with_reducible intro _ _

theorem State.datumMeas_frame (s : State) (c : Nat) (off : Int) (tol : Nat) : Frame 0x2000000000 s (State.datumMeas s c off tol) := by
  unfold State.datumMeas
  repeat' first
    | with_reducible exact Frame.rfl _ _
    | with_reducible apply Frame.ite
    | with_reducible apply Frame.ite2
    | with_reducible apply Frame.comp (State.timeM_frame ..) (by decide)
    | (split <;> try (rename_i hq; have e := congrArg Prod.snd hq; dsimp only at e; subst e))
    | dsimp only
    | with_reducible intro _ _

theorem State.setActive_frame (s : State) (a : Nat) : Frame 0x20000000880000000000401 s (State.setActive s a) := by
  unfold State.setActive
  repeat' first
    | with_reducible exact Frame.rfl _ _
    | with_reducible apply Frame.ite
    | with_reducible apply Frame.ite2
    | with_reducible apply Frame.comp (State.raise_frame ..) (by decide)
    | with_reducible apply Frame.wr (by decide)
    | (split <;> try (rename_i hq; have e := congrArg Prod.snd hq; dsimp only at e; subst e))
    | dsimp only
    | with_reducible intro _ _

theorem State.setAdj_frame (s : State) (a : Int) : Frame 0x20000000880000000000401 s (State.setAdj s a) := by
  unfold State.setAdj
  repeat' first
    | with_reducible exact Frame.rfl _ _
    | with_reducible apply Frame.ite
    | with_reducible apply Frame.ite2
    | with_reducible apply Frame.comp (State.raiseIf_frame ..) (by decide)
    | with_reducible apply Frame.wr (by decide)
    | (split <;> try (rename_i hq; have e := congrArg Prod.snd hq; dsimp only at e; subst e))
    | dsimp only
    | with_reducible intro _ _

theorem State.setUnc_frame (s : State) (u : Nat) : Frame 0x20000000880000000000401 s (State.setUnc s u) := by
  unfold State.setUnc
  repeat' first
    | with_reducible exact Frame.rfl _ _
    | with_reducible apply Frame.ite
    | with_reducible apply Frame.ite2
    | with_reducible apply Frame.comp (State.raiseIf_frame ..) (by decide)
    | with_reducible apply Frame.wr (by decide)
    | (split <;> try (rename_i hq; have e := congrArg Prod.snd hq; dsimp only at e; subst e))
    | dsimp only
    | with_reducible intro _ _

theorem State.servoNone_frame (s : State) : Frame 0x20000000880002000000401 s (State.servoNone s) := by
  unfold State.servoNone
  repeat' first
    | with_reducible exact Frame.rfl _ _
    | with_reducible apply Frame.ite
    | with_reducible apply Frame.ite2
    | with_reducible apply Frame.comp (State.setActive_frame ..) (by decide)
    | with_reducible apply Frame.comp (State.setAdj_frame ..) (by decide)
    | with_reducible apply Frame.comp (State.timeM_frame ..) (by decide)
    | with_reducible apply Frame.comp (State.raise_frame ..) (by decide)
    | with_reducible apply Frame.comp (State.setUnc_frame ..) (by decide)
    | with_reducible apply Frame.wr (by decide)
    | (split <;> try (rename_i hq; have e := congrArg Prod.snd hq; dsimp only at e; subst e))
    | dsimp only
    | with_reducible intro _ _

theorem State.servoRun_frame (s : State) (c : Nat) : Frame 0x20000000880002000000411 s (State.servoRun s c) := by
  unfold State.servoRun
  repeat' first
    | with_reducible exact Frame.rfl _ _
    | with_reducible apply Frame.ite
    | with_reducible apply Frame.ite2
    | with_reducible apply Frame.comp (State.free_frame ..) (by decide)
    | with_reducible apply Frame.comp (State.timeM_frame ..) (by decide)
    | with_reducible apply Frame.comp (State.setAdj_frame ..) (by decide)
    | with_reducible apply Frame.comp (State.setUnc_frame ..) (by decide)
    | with_reducible apply Frame.comp (State.setActive_frame ..) (by decide)
    | with_reducible apply Frame.comp (State.raise_frame ..) (by decide)
    | with_reducible apply Frame.wr (by decide)
    | (split <;> try (rename_i hq; have e := congrArg Prod.snd hq; dsimp only at e; subst e))
    | dsimp only
    | with_reducible intro _ _

theorem execServoUpdate_frame (s : State) : FrameO 0x20000000880002000000491 s (execServoUpdate s) := by
  unfold execServoUpdate
  repeat' first
    | with_reducible exact Frame.rfl _ _
    | with_reducible apply FrameO.powered
    | with_reducible apply FrameO.ok
    | with_reducible apply FrameO.next
    | with_reducible apply FrameO.ite
    | with_reducible apply Frame.ite
    | with_reducible apply Frame.ite2
    | with_reducible apply Frame.comp (State.timeM_frame ..) (by decide)
    | with_reducible apply Frame.comp (State.servoNone_frame ..) (by decide)
    | with_reducible apply Frame.comp (State.servoRun_frame ..) (by decide)
    | with_reducible apply Frame.wr (by decide)
    | fail_if_no_progress with_reducible apply Frame.put_clk _ (by decide)
    | (split <;> try (rename_i hq; have e := congrArg Prod.snd hq; dsimp only at e; subst e))
    | dsimp only
    | with_reducible intro _ _
    | fail_if_no_progress apply Frame.put_clk _ (by decide)

theorem State.timeStep_frame (s : State) (d : Int) : Frame 0x20000000880002000000481 s (State.timeStep s d) := by
  unfold State.timeStep
  repeat' first
    | with_reducible exact Frame.rfl _ _
    | with_reducible apply Frame.ite
    | with_reducible apply Frame.ite2
    | with_reducible apply Frame.comp (State.timeM_frame ..) (by decide)
    | with_reducible apply Frame.comp (State.raise_frame ..) (by decide)
    | with_reducible apply Frame.wr (by decide)
    | fail_if_no_progress with_reducible apply Frame.put_clk _ (by decide)
    | (split <;> try (rename_i hq; have e := congrArg Prod.snd hq; dsimp only at e; subst e))
    | dsimp only
    | with_reducible intro _ _
    | fail_if_no_progress apply Frame.put_clk _ (by decide)

theorem execTimeHrefWrite_frame (hi : Word) (s : State) : FrameO 0x800002000000011 s (execTimeHrefWrite hi s) := by
  unfold execTimeHrefWrite
  repeat' first
    | with_reducible exact Frame.rfl _ _
    | with_reducible apply FrameO.powered
    | with_reducible apply FrameO.ok
    | with_reducible apply FrameO.next
    | with_reducible apply FrameO.ite
    | with_reducible apply Frame.ite
    | with_reducible apply Frame.ite2
    | with_reducible apply Frame.comp (State.free_frame ..) (by decide)
    | with_reducible apply Frame.comp (State.datumMeas_frame ..) (by decide)
    | with_reducible apply Frame.inc (by decide)
    | with_reducible apply Frame.wr (by decide)
    | (split <;> try (rename_i hq; have e := congrArg Prod.snd hq; dsimp only at e; subst e))
    | dsimp only
    | with_reducible intro _ _

theorem execHpinEdge_frame (s : State) : FrameO 0x2000000000 s (execHpinEdge s) := by
  unfold execHpinEdge
  repeat' first
    | with_reducible exact Frame.rfl _ _
    | with_reducible apply FrameO.powered
    | with_reducible apply FrameO.ok
    | with_reducible apply FrameO.next
    | with_reducible apply FrameO.ite
    | with_reducible apply Frame.ite
    | with_reducible apply Frame.ite2
    | with_reducible apply Frame.comp (State.timeM_frame ..) (by decide)
    | (split <;> try (rename_i hq; have e := congrArg Prod.snd hq; dsimp only at e; subst e))
    | dsimp only
    | with_reducible intro _ _

theorem execPpsEdge_frame (gen : Fin 4) (s : State) : FrameO 0x20001180080322000000401 s (execPpsEdge gen s) := by
  unfold execPpsEdge
  repeat' first
    | with_reducible exact Frame.rfl _ _
    | with_reducible apply FrameO.powered
    | with_reducible apply FrameO.ok
    | with_reducible apply FrameO.next
    | with_reducible apply FrameO.ite
    | with_reducible apply Frame.ite
    | with_reducible apply Frame.ite2
    | with_reducible apply Frame.comp (State.timeM_frame ..) (by decide)
    | with_reducible apply Frame.comp (State.sendEdge_frame ..) (by decide)
    | with_reducible apply Frame.comp (State.padRefresh_frame ..) (by decide)
    | with_reducible apply Frame.comp (State.raise_frame ..) (by decide)
    | (split <;> try (rename_i hq; have e := congrArg Prod.snd hq; dsimp only at e; subst e))
    | dsimp only
    | with_reducible intro _ _

theorem execPpsPulseEnd_frame (gen : Fin 4) (s : State) : FrameO 0x20000180080302000000401 s (execPpsPulseEnd gen s) := by
  unfold execPpsPulseEnd
  repeat' first
    | with_reducible exact Frame.rfl _ _
    | with_reducible apply FrameO.powered
    | with_reducible apply FrameO.ok
    | with_reducible apply FrameO.next
    | with_reducible apply FrameO.ite
    | with_reducible apply Frame.ite
    | with_reducible apply Frame.ite2
    | with_reducible apply Frame.comp (State.timeM_frame ..) (by decide)
    | with_reducible apply Frame.comp (State.padRefresh_frame ..) (by decide)
    | (split <;> try (rename_i hq; have e := congrArg Prod.snd hq; dsimp only at e; subst e))
    | dsimp only
    | with_reducible intro _ _

theorem execSpoofHoldEnd_frame (s : State) : FrameO 0x800002000000001 s (execSpoofHoldEnd s) := by
  unfold execSpoofHoldEnd
  repeat' first
    | with_reducible exact Frame.rfl _ _
    | with_reducible apply FrameO.powered
    | with_reducible apply FrameO.ok
    | with_reducible apply FrameO.next
    | with_reducible apply FrameO.ite
    | with_reducible apply Frame.ite
    | with_reducible apply Frame.ite2
    | with_reducible apply Frame.comp (State.timeM_frame ..) (by decide)
    | with_reducible apply Frame.wr (by decide)
    | (split <;> try (rename_i hq; have e := congrArg Prod.snd hq; dsimp only at e; subst e))
    | dsimp only
    | with_reducible intro _ _

theorem State.timeCommit_frame (s : State) : Frame 0x800000000000001 s (State.timeCommit s) := by
  unfold State.timeCommit
  repeat' first
    | with_reducible exact Frame.rfl _ _
    | with_reducible apply Frame.ite
    | with_reducible apply Frame.ite2
    | with_reducible apply Frame.wr (by decide)
    | (split <;> try (rename_i hq; have e := congrArg Prod.snd hq; dsimp only at e; subst e))
    | dsimp only
    | with_reducible intro _ _

theorem State.timeFromRtc_frame (s : State) : Frame 0x2000000080 s (State.timeFromRtc s) := by
  unfold State.timeFromRtc
  repeat' first
    | with_reducible exact Frame.rfl _ _
    | with_reducible apply Frame.ite
    | with_reducible apply Frame.ite2
    | fail_if_no_progress with_reducible apply Frame.put_clk _ (by decide)
    | fail_if_no_progress with_reducible apply Frame.put_time _ (by decide)
    | (split <;> try (rename_i hq; have e := congrArg Prod.snd hq; dsimp only at e; subst e))
    | dsimp only
    | with_reducible intro _ _
    | fail_if_no_progress apply Frame.put_clk _ (by decide)
    | fail_if_no_progress apply Frame.put_time _ (by decide)

end Sys2Proof.Machine
end

