-- ==== Sys2Proof/Laws/FrameGnss.lean ====
section
/-! SUPPORT. The frames of the operations of Machine/Gnss.lean. -/

set_option linter.unreachableTactic false
set_option linter.unusedTactic false

namespace Sys2Proof.Machine

open Sys2Proof

theorem State.gnsM_frame (s : State) (f : GnsUnit → GnsUnit) : Frame 0x4000000000 s (State.gnsM s f) := by
  unfold State.gnsM
  repeat' first
    | with_reducible exact Frame.rfl _ _
    | with_reducible apply Frame.ite
    | fail_if_no_progress with_reducible apply Frame.put_gns _ (by decide)
    | (split <;> try (rename_i hq; have e := congrArg Prod.snd hq; dsimp only at e; subst e))
    | dsimp only
    | with_reducible intro _ _
    | fail_if_no_progress apply Frame.put_gns _ (by decide)

theorem State.gnsCounts_frame (s : State) : Frame 0x800000000000000000001 s (State.gnsCounts s) := by
  unfold State.gnsCounts
  repeat' first
    | with_reducible exact Frame.rfl _ _
    | with_reducible apply Frame.ite
    | with_reducible apply Frame.ite2
    | with_reducible apply Frame.wr (by decide)
    | (split <;> try (rename_i hq; have e := congrArg Prod.snd hq; dsimp only at e; subst e))
    | dsimp only
    | with_reducible intro _ _

theorem State.chanAssign_frame (s : State) (c : Nat) (k : GnsCand) : Frame 0x800000000004000000001 s (State.chanAssign s c k) := by
  unfold State.chanAssign
  repeat' first
    | with_reducible exact Frame.rfl _ _
    | with_reducible apply Frame.ite
    | with_reducible apply Frame.ite2
    | with_reducible apply Frame.comp (State.gnsM_frame ..) (by decide)
    | with_reducible apply Frame.setFld (by decide)
    | with_reducible apply Frame.wri (by decide)
    | (split <;> try (rename_i hq; have e := congrArg Prod.snd hq; dsimp only at e; subst e))
    | dsimp only
    | with_reducible intro _ _

theorem State.chanDrop_frame (s : State) (c : Nat) : Frame 0x800000000004000000001 s (State.chanDrop s c) := by
  unfold State.chanDrop
  repeat' first
    | with_reducible exact Frame.rfl _ _
    | with_reducible apply Frame.ite
    | with_reducible apply Frame.ite2
    | with_reducible apply Frame.comp (State.gnsM_frame ..) (by decide)
    | with_reducible apply Frame.comp (State.chanAssign_frame ..) (by decide)
    | with_reducible apply Frame.comp (State.gnsCounts_frame ..) (by decide)
    | with_reducible apply Frame.setFld (by decide)
    | with_reducible apply Frame.wri (by decide)
    | (split <;> try (rename_i hq; have e := congrArg Prod.snd hq; dsimp only at e; subst e))
    | dsimp only
    | with_reducible intro _ _

theorem State.confirmed_frame (s : State) (k : GnsCand) : Frame 0x20800000080004000000401 s (State.confirmed s k) := by
  unfold State.confirmed
  repeat' first
    | with_reducible exact Frame.rfl _ _
    | with_reducible apply Frame.ite
    | with_reducible apply Frame.ite2
    | with_reducible apply Frame.comp (State.chanAssign_frame ..) (by decide)
    | with_reducible apply Frame.comp (State.gnsCounts_frame ..) (by decide)
    | with_reducible apply Frame.comp (State.gnsM_frame ..) (by decide)
    | with_reducible apply Frame.comp (State.raiseIf_frame ..) (by decide)
    | (split <;> try (rename_i hq; have e := congrArg Prod.snd hq; dsimp only at e; subst e))
    | dsimp only
    | with_reducible intro _ _

theorem execAcquisitionPass_frame (hyps : List Hypo) (s : State) : FrameO 0x20800000080004000000401 s (execAcquisitionPass hyps s) := by
  unfold execAcquisitionPass
  repeat' first
    | with_reducible exact Frame.rfl _ _
    | with_reducible apply FrameO.powered
    | with_reducible apply FrameO.ok
    | with_reducible apply FrameO.next
    | with_reducible apply FrameO.ite
    | with_reducible apply Frame.ite
    | with_reducible apply Frame.ite2
    | with_reducible apply Frame.comp (State.confirmed_frame ..) (by decide)
    | with_reducible apply Frame.comp (State.gnsM_frame ..) (by decide)
    | with_reducible apply Frame.foldl
    | with_reducible apply Frame.foldl2
    | (split <;> try (rename_i hq; have e := congrArg Prod.snd hq; dsimp only at e; subst e))
    | dsimp only
    | with_reducible intro _ _

theorem execCandidateExpiry_frame (s : State) : FrameO 0x800000000004000000001 s (execCandidateExpiry s) := by
  unfold execCandidateExpiry
  repeat' first
    | with_reducible exact Frame.rfl _ _
    | with_reducible apply FrameO.powered
    | with_reducible apply FrameO.ok
    | with_reducible apply FrameO.next
    | with_reducible apply FrameO.ite
    | with_reducible apply Frame.ite
    | with_reducible apply Frame.ite2
    | with_reducible apply Frame.comp (State.gnsM_frame ..) (by decide)
    | with_reducible apply Frame.comp (State.gnsCounts_frame ..) (by decide)
    | (split <;> try (rename_i hq; have e := congrArg Prod.snd hq; dsimp only at e; subst e))
    | dsimp only
    | with_reducible intro _ _

theorem State.navPut_frame (s : State) (m : NavMsg) (k : Nat) : Frame 0x8000000000000007 s (State.navPut s m k) := by
  unfold State.navPut
  repeat' first
    | with_reducible exact Frame.rfl _ _
    | with_reducible apply Frame.ite
    | with_reducible apply Frame.ite2
    | with_reducible apply Frame.comp (State.memPutBytes_frame ..) (by decide)
    | (split <;> try (rename_i hq; have e := congrArg Prod.snd hq; dsimp only at e; subst e))
    | dsimp only
    | with_reducible intro _ _

theorem State.navStore_frame (s : State) (m : NavMsg) : Frame 0x8000000000000017 s (State.navStore s m) := by
  unfold State.navStore
  generalize List.find? (fun k => s.navKey k == m.system + m.msg * 256 + m.svid * 65536) assistRecords = a
  generalize List.find? (fun k => s.navKey k % 256 == 0xFF) assistRecords = b
  cases a with
  | some k => exact Frame.comp (State.navPut_frame ..) (by decide) (Frame.rfl _ _)
  | none =>
    cases b with
    | some k => exact Frame.comp (State.navPut_frame ..) (by decide) (Frame.rfl _ _)
    | none =>
      exact Frame.comp (State.navPut_frame ..) (by decide) (Frame.comp (State.free_frame s 6) (by decide) (Frame.rfl _ _))

theorem State.notchSet_frame (s : State) (band k : Nat) (on : Bool) : Frame 0x800000000000000000001 s (State.notchSet s band k on) := by
  unfold State.notchSet
  repeat' first
    | with_reducible exact Frame.rfl _ _
    | with_reducible apply Frame.ite
    | with_reducible apply Frame.ite2
    | with_reducible apply Frame.wr (by decide)
    | with_reducible apply Frame.wr (Fld.okIn_ite (by decide) (by decide))
    | (split <;> try (rename_i hq; have e := congrArg Prod.snd hq; dsimp only at e; subst e))
    | dsimp only
    | with_reducible intro _ _

theorem State.tone_frame (s : State) (band k level : Nat) : Frame 0x800000000004000000001 s (State.tone s band k level) := by
  unfold State.tone
  repeat' first
    | with_reducible exact Frame.rfl _ _
    | with_reducible apply Frame.ite
    | with_reducible apply Frame.ite2
    | with_reducible apply Frame.comp (State.gnsM_frame ..) (by decide)
    | with_reducible apply Frame.comp (State.notchSet_frame ..) (by decide)
    | (split <;> try (rename_i hq; have e := congrArg Prod.snd hq; dsimp only at e; subst e))
    | dsimp only
    | with_reducible intro _ _

theorem State.chanEpoch_frame (s : State) (o : ChanObs) : Frame 0x800000000004000000001 s (State.chanEpoch s o) := by
  unfold State.chanEpoch
  repeat' first
    | with_reducible exact Frame.rfl _ _
    | with_reducible apply Frame.ite
    | with_reducible apply Frame.ite2
    | with_reducible apply Frame.comp (State.gnsM_frame ..) (by decide)
    | with_reducible apply Frame.wri (by decide)
    | (split <;> try (rename_i hq; have e := congrArg Prod.snd hq; dsimp only at e; subst e))
    | dsimp only
    | with_reducible intro _ _

theorem execTrackingEpoch_frame (obs : EpochObs) (s : State) : FrameO 0x800008800004000000017 s (execTrackingEpoch obs s) := by
  unfold execTrackingEpoch
  repeat' first
    | with_reducible exact Frame.rfl _ _
    | with_reducible apply FrameO.powered
    | with_reducible apply FrameO.ok
    | with_reducible apply FrameO.next
    | with_reducible apply FrameO.ite
    | with_reducible apply Frame.ite
    | with_reducible apply Frame.ite2
    | with_reducible apply Frame.comp (State.free_frame ..) (by decide)
    | with_reducible apply Frame.comp (State.gnsM_frame ..) (by decide)
    | with_reducible apply Frame.comp (State.chanEpoch_frame ..) (by decide)
    | with_reducible apply Frame.comp (State.chanDrop_frame ..) (by decide)
    | with_reducible apply Frame.comp (State.navStore_frame ..) (by decide)
    | with_reducible apply Frame.comp (State.tone_frame ..) (by decide)
    | with_reducible apply Frame.comp (State.gnsCounts_frame ..) (by decide)
    | with_reducible apply Frame.wr (by decide)
    | with_reducible apply Frame.foldl
    | with_reducible apply Frame.foldl2
    | (split <;> try (rename_i hq; have e := congrArg Prod.snd hq; dsimp only at e; subst e))
    | dsimp only
    | with_reducible intro _ _

theorem execNotchRelease_frame (band : Fin 2) (notch : Fin 4) (s : State) : FrameO 0x800000000000000000001 s (execNotchRelease band notch s) := by
  unfold execNotchRelease
  repeat' first
    | with_reducible exact Frame.rfl _ _
    | with_reducible apply FrameO.powered
    | with_reducible apply FrameO.ok
    | with_reducible apply FrameO.next
    | with_reducible apply FrameO.ite
    | with_reducible apply Frame.ite
    | with_reducible apply Frame.ite2
    | with_reducible apply Frame.comp (State.notchSet_frame ..) (by decide)
    | (split <;> try (rename_i hq; have e := congrArg Prod.snd hq; dsimp only at e; subst e))
    | dsimp only
    | with_reducible intro _ _

theorem State.jamBand_frame (s : State) (b : Nat) (floor gain : Nat) : Frame 0x20800000080004000000411 s (State.jamBand s b floor gain) := by
  unfold State.jamBand
  repeat' first
    | with_reducible exact Frame.rfl _ _
    | with_reducible apply Frame.ite
    | with_reducible apply Frame.ite2
    | with_reducible apply Frame.comp (State.free_frame ..) (by decide)
    | with_reducible apply Frame.comp (State.gnsM_frame ..) (by decide)
    | with_reducible apply Frame.comp (State.raiseIf_frame ..) (by decide)
    | with_reducible apply Frame.wr (by decide)
    | with_reducible apply Frame.wr (Fld.okIn_ite (by decide) (by decide))
    | (split <;> try (rename_i hq; have e := congrArg Prod.snd hq; dsimp only at e; subst e))
    | dsimp only
    | with_reducible intro _ _

theorem State.jamLearn_frame (s : State) : Frame 0x4000000000 s (State.jamLearn s) := by
  unfold State.jamLearn
  repeat' first
    | with_reducible exact Frame.rfl _ _
    | with_reducible apply Frame.ite
    | with_reducible apply Frame.ite2
    | with_reducible apply Frame.comp (State.gnsM_frame ..) (by decide)
    | (split <;> try (rename_i hq; have e := congrArg Prod.snd hq; dsimp only at e; subst e))
    | dsimp only
    | with_reducible intro _ _

theorem execJammingIndicator_frame (floors : List (Nat × Nat)) (s : State) : FrameO 0x20800000080004000000411 s (execJammingIndicator floors s) := by
  unfold execJammingIndicator
  repeat' first
    | with_reducible exact Frame.rfl _ _
    | with_reducible apply FrameO.powered
    | with_reducible apply FrameO.ok
    | with_reducible apply FrameO.next
    | with_reducible apply FrameO.ite
    | with_reducible apply Frame.ite
    | with_reducible apply Frame.ite2
    | with_reducible apply Frame.comp (State.gnsM_frame ..) (by decide)
    | with_reducible apply Frame.comp (State.jamBand_frame ..) (by decide)
    | with_reducible apply Frame.foldl
    | with_reducible apply Frame.foldl2
    | (split <;> try (rename_i hq; have e := congrArg Prod.snd hq; dsimp only at e; subst e))
    | dsimp only
    | with_reducible intro _ _

theorem State.suspect_frame (s : State) (c : Nat) : Frame 0x20800000080004000000401 s (State.suspect s c) := by
  unfold State.suspect
  repeat' first
    | with_reducible exact Frame.rfl _ _
    | with_reducible apply Frame.ite
    | with_reducible apply Frame.ite2
    | with_reducible apply Frame.comp (State.gnsM_frame ..) (by decide)
    | with_reducible apply Frame.comp (State.raise_frame ..) (by decide)
    | with_reducible apply Frame.wri (by decide)
    | (split <;> try (rename_i hq; have e := congrArg Prod.snd hq; dsimp only at e; subst e))
    | dsimp only
    | with_reducible intro _ _

theorem State.rawEmit_frame (s : State) (m : List RawMeas) (t bias : Nat) : Frame 0x20800001080004000010401 s (State.rawEmit s m t bias) := by
  unfold State.rawEmit
  repeat' first
    | with_reducible exact Frame.rfl _ _
    | with_reducible apply Frame.ite
    | with_reducible apply Frame.ite2
    | with_reducible apply Frame.comp (State.gnsM_frame ..) (by decide)
    | with_reducible apply Frame.comp (State.dmaDropOldest_frame ..) (by decide)
    | with_reducible apply Frame.comp (State.raise_frame ..) (by decide)
    | with_reducible apply Frame.comp (State.dmaReady_frame ..) (by decide)
    | with_reducible apply Frame.inc (by decide)
    | (split <;> try (rename_i hq; have e := congrArg Prod.snd hq; dsimp only at e; subst e))
    | dsimp only
    | with_reducible intro _ _

theorem State.fixOut_frame (s : State) (words : List Nat) : Frame 0x1000000000000000000001 s (State.fixOut s words) := by
  unfold State.fixOut
  repeat' first
    | with_reducible exact Frame.rfl _ _
    | with_reducible apply Frame.ite
    | with_reducible apply Frame.ite2
    | with_reducible apply Frame.wri (by decide)
    | with_reducible apply Frame.foldl
    | with_reducible apply Frame.foldl2
    | (split <;> try (rename_i hq; have e := congrArg Prod.snd hq; dsimp only at e; subst e))
    | dsimp only
    | with_reducible intro _ _

theorem execFixEpoch_frame (obs : FixObs) (s : State) : FrameO 0x21800001880006000010401 s (execFixEpoch obs s) := by
  unfold execFixEpoch
  repeat' first
    | with_reducible exact Frame.rfl _ _
    | with_reducible apply FrameO.powered
    | with_reducible apply FrameO.ok
    | with_reducible apply FrameO.next
    | with_reducible apply FrameO.ite
    | with_reducible apply Frame.ite
    | with_reducible apply Frame.ite2
    | with_reducible apply Frame.comp (State.gnsM_frame ..) (by decide)
    | with_reducible apply Frame.comp (State.suspect_frame ..) (by decide)
    | with_reducible apply Frame.comp (State.raiseIf_frame ..) (by decide)
    | with_reducible apply Frame.comp (State.timeM_frame ..) (by decide)
    | with_reducible apply Frame.comp (State.raise_frame ..) (by decide)
    | with_reducible apply Frame.comp (State.fixOut_frame ..) (by decide)
    | with_reducible apply Frame.comp (State.datumMeas_frame ..) (by decide)
    | with_reducible apply Frame.comp (State.rawEmit_frame ..) (by decide)
    | with_reducible apply Frame.comp (State.chanDrop_frame ..) (by decide)
    | with_reducible apply Frame.wr (by decide)
    | with_reducible apply Frame.wri (by decide)
    | with_reducible apply Frame.foldl
    | with_reducible apply Frame.foldl2
    | (split <;> try (rename_i hq; have e := congrArg Prod.snd hq; dsimp only at e; subst e))
    | dsimp only
    | with_reducible intro _ _

theorem execSpoofSuspectClear_frame (ch : Fin 96) (s : State) : FrameO 0x800000000000000000001 s (execSpoofSuspectClear ch s) := by
  unfold execSpoofSuspectClear
  repeat' first
    | with_reducible exact Frame.rfl _ _
    | with_reducible apply FrameO.powered
    | with_reducible apply FrameO.ok
    | with_reducible apply FrameO.next
    | with_reducible apply FrameO.ite
    | with_reducible apply Frame.ite
    | with_reducible apply Frame.ite2
    | with_reducible apply Frame.wri (by decide)
    | (split <;> try (rename_i hq; have e := congrArg Prod.snd hq; dsimp only at e; subst e))
    | dsimp only
    | with_reducible intro _ _

theorem execReacquisitionBarEnd_frame (s : State) : FrameO 0x4000000000 s (execReacquisitionBarEnd s) := by
  unfold execReacquisitionBarEnd
  repeat' first
    | with_reducible exact Frame.rfl _ _
    | with_reducible apply FrameO.powered
    | with_reducible apply FrameO.ok
    | with_reducible apply FrameO.next
    | with_reducible apply FrameO.ite
    | with_reducible apply Frame.ite
    | with_reducible apply Frame.ite2
    | with_reducible apply Frame.comp (State.gnsM_frame ..) (by decide)
    | (split <;> try (rename_i hq; have e := congrArg Prod.snd hq; dsimp only at e; subst e))
    | dsimp only
    | with_reducible intro _ _

theorem execBurstWake_frame (s : State) : FrameO 0x2000004000000001 s (execBurstWake s) := by
  unfold execBurstWake
  repeat' first
    | with_reducible exact Frame.rfl _ _
    | with_reducible apply FrameO.powered
    | with_reducible apply FrameO.ok
    | with_reducible apply FrameO.next
    | with_reducible apply FrameO.ite
    | with_reducible apply Frame.ite
    | with_reducible apply Frame.ite2
    | with_reducible apply Frame.comp (State.gnsM_frame ..) (by decide)
    | with_reducible apply Frame.wr (by decide)
    | (split <;> try (rename_i hq; have e := congrArg Prod.snd hq; dsimp only at e; subst e))
    | dsimp only
    | with_reducible intro _ _

theorem execBurstStart_frame (s : State) : FrameO 0x800000000004000000001 s (execBurstStart s) := by
  unfold execBurstStart
  repeat' first
    | with_reducible exact Frame.rfl _ _
    | with_reducible apply FrameO.powered
    | with_reducible apply FrameO.ok
    | with_reducible apply FrameO.next
    | with_reducible apply FrameO.ite
    | with_reducible apply Frame.ite
    | with_reducible apply Frame.ite2
    | with_reducible apply Frame.comp (State.gnsM_frame ..) (by decide)
    | with_reducible apply Frame.wri (by decide)
    | with_reducible apply Frame.foldl
    | with_reducible apply Frame.foldl2
    | (split <;> try (rename_i hq; have e := congrArg Prod.snd hq; dsimp only at e; subst e))
    | dsimp only
    | with_reducible intro _ _

theorem execBurstEnd_frame (s : State) : FrameO 0x800002000004000000001 s (execBurstEnd s) := by
  unfold execBurstEnd
  repeat' first
    | with_reducible exact Frame.rfl _ _
    | with_reducible apply FrameO.powered
    | with_reducible apply FrameO.ok
    | with_reducible apply FrameO.next
    | with_reducible apply FrameO.ite
    | with_reducible apply Frame.ite
    | with_reducible apply Frame.ite2
    | with_reducible apply Frame.comp (State.gnsM_frame ..) (by decide)
    | with_reducible apply Frame.wr (by decide)
    | with_reducible apply Frame.wri (by decide)
    | with_reducible apply Frame.foldl
    | with_reducible apply Frame.foldl2
    | (split <;> try (rename_i hq; have e := congrArg Prod.snd hq; dsimp only at e; subst e))
    | dsimp only
    | with_reducible intro _ _

theorem execSnapshotGo_frame (value : Word) (s : State) : FrameO 0x800000000000000000001 s (execSnapshotGo value s) := by
  unfold execSnapshotGo
  repeat' first
    | with_reducible exact Frame.rfl _ _
    | with_reducible apply FrameO.powered
    | with_reducible apply FrameO.ok
    | with_reducible apply FrameO.next
    | with_reducible apply FrameO.ite
    | with_reducible apply Frame.ite
    | with_reducible apply Frame.ite2
    | with_reducible apply Frame.wr (by decide)
    | (split <;> try (rename_i hq; have e := congrArg Prod.snd hq; dsimp only at e; subst e))
    | dsimp only
    | with_reducible intro _ _

theorem execCaptureStart_frame (edge : Option (Fin 64)) (s : State) : FrameO 0x2000004000000001 s (execCaptureStart edge s) := by
  unfold execCaptureStart
  repeat' first
    | with_reducible exact Frame.rfl _ _
    | with_reducible apply FrameO.powered
    | with_reducible apply FrameO.ok
    | with_reducible apply FrameO.next
    | with_reducible apply FrameO.ite
    | with_reducible apply Frame.ite
    | with_reducible apply Frame.ite2
    | with_reducible apply Frame.comp (State.gnsM_frame ..) (by decide)
    | with_reducible apply Frame.wr (by decide)
    | (split <;> try (rename_i hq; have e := congrArg Prod.snd hq; dsimp only at e; subst e))
    | dsimp only
    | with_reducible intro _ _

theorem State.memStore_frame (s : State) (a : Nat) (l : List Nat) : Frame 0x20000008080000000000407 s (State.memStore s a l) := by
  unfold State.memStore
  repeat' first
    | with_reducible exact Frame.rfl _ _
    | with_reducible apply Frame.ite
    | with_reducible apply Frame.ite2
    | with_reducible apply Frame.comp (State.memMerge_frame ..) (by decide)
    | with_reducible apply Frame.foldl
    | with_reducible apply Frame.foldl2
    | (split <;> try (rename_i hq; have e := congrArg Prod.snd hq; dsimp only at e; subst e))
    | dsimp only
    | with_reducible intro _ _

theorem execCaptureComplete_frame (samples : List (List Nat)) (s : State) : FrameO 0x20800009080004000010407 s (execCaptureComplete samples s) := by
  unfold execCaptureComplete
  repeat' first
    | with_reducible exact Frame.rfl _ _
    | with_reducible apply FrameO.powered
    | with_reducible apply FrameO.ok
    | with_reducible apply FrameO.next
    | with_reducible apply FrameO.ite
    | with_reducible apply Frame.ite
    | with_reducible apply Frame.ite2
    | with_reducible apply Frame.comp (State.memStore_frame ..) (by decide)
    | with_reducible apply Frame.comp (State.gnsM_frame ..) (by decide)
    | with_reducible apply Frame.comp (State.dmaReady_frame ..) (by decide)
    | with_reducible apply Frame.comp (State.raise_frame ..) (by decide)
    | with_reducible apply Frame.wr (by decide)
    | with_reducible apply Frame.foldl
    | with_reducible apply Frame.foldl2
    | (split <;> try (rename_i hq; have e := congrArg Prod.snd hq; dsimp only at e; subst e))
    | dsimp only
    | with_reducible intro _ _

theorem execFixInjCommit_frame (s : State) : FrameO 0x21000000080004000000401 s (execFixInjCommit s) := by
  unfold execFixInjCommit
  repeat' first
    | with_reducible exact Frame.rfl _ _
    | with_reducible apply FrameO.powered
    | with_reducible apply FrameO.ok
    | with_reducible apply FrameO.next
    | with_reducible apply FrameO.ite
    | with_reducible apply Frame.ite
    | with_reducible apply Frame.ite2
    | with_reducible apply Frame.comp (State.gnsM_frame ..) (by decide)
    | with_reducible apply Frame.comp (State.raise_frame ..) (by decide)
    | with_reducible apply Frame.inc (by decide)
    | with_reducible apply Frame.wr (by decide)
    | (split <;> try (rename_i hq; have e := congrArg Prod.snd hq; dsimp only at e; subst e))
    | dsimp only
    | with_reducible intro _ _

theorem execFixOutputElement_frame (s : State) : FrameO 0x1805000000000 s (execFixOutputElement s) := by
  unfold execFixOutputElement
  repeat' first
    | with_reducible exact Frame.rfl _ _
    | with_reducible apply FrameO.powered
    | with_reducible apply FrameO.ok
    | with_reducible apply FrameO.next
    | with_reducible apply FrameO.ite
    | with_reducible apply Frame.ite
    | with_reducible apply Frame.ite2
    | with_reducible apply Frame.comp (State.gnsM_frame ..) (by decide)
    | with_reducible apply Frame.comp (State.produce_frame ..) (by decide)
    | (split <;> try (rename_i hq; have e := congrArg Prod.snd hq; dsimp only at e; subst e))
    | dsimp only
    | with_reducible intro _ _

theorem execInjStale_frame (s : State) : FrameO 0x20000000080004000000401 s (execInjStale s) := by
  unfold execInjStale
  repeat' first
    | with_reducible exact Frame.rfl _ _
    | with_reducible apply FrameO.powered
    | with_reducible apply FrameO.ok
    | with_reducible apply FrameO.next
    | with_reducible apply FrameO.ite
    | with_reducible apply Frame.ite
    | with_reducible apply Frame.ite2
    | with_reducible apply Frame.comp (State.gnsM_frame ..) (by decide)
    | with_reducible apply Frame.comp (State.raise_frame ..) (by decide)
    | (split <;> try (rename_i hq; have e := congrArg Prod.snd hq; dsimp only at e; subst e))
    | dsimp only
    | with_reducible intro _ _

theorem execFixlost_frame (s : State) : FrameO 0x20000000080004000000401 s (execFixlost s) := by
  unfold execFixlost
  repeat' first
    | with_reducible exact Frame.rfl _ _
    | with_reducible apply FrameO.powered
    | with_reducible apply FrameO.ok
    | with_reducible apply FrameO.next
    | with_reducible apply FrameO.ite
    | with_reducible apply Frame.ite
    | with_reducible apply Frame.ite2
    | with_reducible apply Frame.comp (State.gnsM_frame ..) (by decide)
    | with_reducible apply Frame.comp (State.raise_frame ..) (by decide)
    | (split <;> try (rename_i hq; have e := congrArg Prod.snd hq; dsimp only at e; subst e))
    | dsimp only
    | with_reducible intro _ _

theorem State.gnsReset_frame (s : State) : Frame 0x20800001080004000010401 s (State.gnsReset s) := by
  unfold State.gnsReset
  repeat' first
    | with_reducible exact Frame.rfl _ _
    | with_reducible apply Frame.ite
    | with_reducible apply Frame.ite2
    | with_reducible apply Frame.comp (State.raiseIf_frame ..) (by decide)
    | with_reducible apply Frame.comp (State.dmaDiscard_frame ..) (by decide)
    | with_reducible apply Frame.comp (State.gnsM_frame ..) (by decide)
    | with_reducible apply Frame.comp (State.gnsCounts_frame ..) (by decide)
    | with_reducible apply Frame.inc (by decide)
    | with_reducible apply Frame.setFld (by decide)
    | with_reducible apply Frame.wr (by decide)
    | with_reducible apply Frame.wri (by decide)
    | with_reducible apply Frame.foldl
    | with_reducible apply Frame.foldl2
    | (split <;> try (rename_i hq; have e := congrArg Prod.snd hq; dsimp only at e; subst e))
    | dsimp only
    | with_reducible intro _ _

theorem State.fixReset_frame (s : State) : Frame 0x4000000000 s (State.fixReset s) := by
  unfold State.fixReset
  repeat' first
    | with_reducible exact Frame.rfl _ _
    | with_reducible apply Frame.ite
    | with_reducible apply Frame.ite2
    | with_reducible apply Frame.comp (State.gnsM_frame ..) (by decide)
    | (split <;> try (rename_i hq; have e := congrArg Prod.snd hq; dsimp only at e; subst e))
    | dsimp only
    | with_reducible intro _ _

end Sys2Proof.Machine
end

