-- ==== Sys2Proof/Laws/FrameFieldio.lean ====
section
/-! SUPPORT. The frames of the operations of Machine/Fieldio.lean. -/

set_option linter.unreachableTactic false
set_option linter.unusedTactic false

namespace Sys2Proof.Machine

open Sys2Proof

theorem causeFld_okIn (k : Nat) : (causeFld k).okIn 0x300000000000000000001 = true := by
  by_cases h : k < 6
  · interval_cases k <;> decide
  · have e : causeFld k = FIO_F_UV_CH := by
      obtain ⟨j, rfl⟩ : ∃ j, k = j + 6 := ⟨k - 6, by omega⟩
      rfl
    rw [e]
    decide

theorem State.dieM_frame (s : State) (d : Nat) (f : FieldDie → FieldDie) : Frame 0x1000000 s (State.dieM s d f) := by
  unfold State.dieM
  repeat' first
    | with_reducible exact Frame.rfl _ _
    | with_reducible apply Frame.ite
    | fail_if_no_progress with_reducible apply Frame.put_dies _ (by decide)
    | (split <;> try (rename_i hq; have e := congrArg Prod.snd hq; dsimp only at e; subst e))
    | dsimp only
    | with_reducible intro _ _
    | fail_if_no_progress apply Frame.put_dies _ (by decide)

theorem State.fioM_frame (s : State) (d : Nat) (f : FioCore → FioCore) : Frame 0x2000000 s (State.fioM s d f) := by
  unfold State.fioM
  repeat' first
    | with_reducible exact Frame.rfl _ _
    | with_reducible apply Frame.ite
    | fail_if_no_progress with_reducible apply Frame.put_fio _ (by decide)
    | (split <;> try (rename_i hq; have e := congrArg Prod.snd hq; dsimp only at e; subst e))
    | dsimp only
    | with_reducible intro _ _
    | fail_if_no_progress apply Frame.put_fio _ (by decide)

theorem State.swShow_frame (s : State) (d i : Nat) (was on : Bool) : Frame 0x300000000000000000001 s (State.swShow s d i was on) := by
  unfold State.swShow
  repeat' first
    | with_reducible exact Frame.rfl _ _
    | with_reducible apply Frame.ite
    | with_reducible apply Frame.ite2
    | with_reducible apply Frame.wrij (by decide)
    | (split <;> try (rename_i hq; have e := congrArg Prod.snd hq; dsimp only at e; subst e))
    | dsimp only
    | with_reducible intro _ _

theorem State.outRefresh_frame (s : State) (d : Nat) : Frame 0x300000000000001000001 s (State.outRefresh s d) := by
  unfold State.outRefresh
  repeat' first
    | with_reducible exact Frame.rfl _ _
    | with_reducible apply Frame.ite
    | with_reducible apply Frame.ite2
    | with_reducible apply Frame.comp (State.swShow_frame ..) (by decide)
    | with_reducible apply Frame.comp (State.dieM_frame ..) (by decide)
    | with_reducible apply Frame.wrij (by decide)
    | with_reducible apply Frame.foldl
    | with_reducible apply Frame.foldl2
    | (split <;> try (rename_i hq; have e := congrArg Prod.snd hq; dsimp only at e; subst e))
    | dsimp only
    | with_reducible intro _ _

theorem State.fioFault_frame (s : State) (d : Nat) : Frame 0x20300000080000000000401 s (State.fioFault s d) := by
  unfold State.fioFault
  repeat' first
    | with_reducible exact Frame.rfl _ _
    | with_reducible apply Frame.ite
    | with_reducible apply Frame.ite2
    | with_reducible apply Frame.comp (State.raiseIf_frame ..) (by decide)
    | with_reducible apply Frame.wrij (by decide)
    | (split <;> try (rename_i hq; have e := congrArg Prod.snd hq; dsimp only at e; subst e))
    | dsimp only
    | with_reducible intro _ _

theorem Frame.fioLatch {mk : Nat} {sA sB : State} {f : Fld} {d i evt : Nat} (hf : f.okIn mk = true) (hm : 0x20300000080000000000401 &&& mk = 0x20300000080000000000401)
    (h : Frame mk sA sB) : Frame mk sA (sB.fioLatch f d i evt) := by
  unfold State.fioLatch
  repeat' first
    | exact h
    | with_reducible exact Frame.rfl _ _
    | with_reducible apply Frame.ite
    | with_reducible apply Frame.ite2
    | with_reducible apply Frame.comp (State.raiseIf_frame ..) (mask_sub (by decide) hm)
    | with_reducible apply Frame.comp (State.fioFault_frame ..) (mask_sub (by decide) hm)
    | with_reducible apply Frame.wrij hf
    | (split <;> try (rename_i hq; have e := congrArg Prod.snd hq; dsimp only at e; subst e))
    | dsimp only
    | with_reducible intro _ _

theorem State.sample_frame (s : State) (d ep val fmt stamp : Nat) : Frame 0x1000000 s (State.sample s d ep val fmt stamp) := by
  unfold State.sample
  repeat' first
    | with_reducible exact Frame.rfl _ _
    | with_reducible apply Frame.ite
    | with_reducible apply Frame.ite2
    | with_reducible apply Frame.comp (State.dieM_frame ..) (by decide)
    | (split <;> try (rename_i hq; have e := congrArg Prod.snd hq; dsimp only at e; subst e))
    | dsimp only
    | with_reducible intro _ _

theorem State.dioState_frame (s : State) (d i : Nat) (on : Bool) (stamp : Nat) : Frame 0x300000000000001000001 s (State.dioState s d i on stamp) := by
  unfold State.dioState
  repeat' first
    | with_reducible exact Frame.rfl _ _
    | with_reducible apply Frame.ite
    | with_reducible apply Frame.ite2
    | with_reducible apply Frame.comp (State.dieM_frame ..) (by decide)
    | with_reducible apply Frame.comp (State.sample_frame ..) (by decide)
    | with_reducible apply Frame.wrij (by decide)
    | (split <;> try (rename_i hq; have e := congrArg Prod.snd hq; dsimp only at e; subst e))
    | dsimp only
    | with_reducible intro _ _

theorem State.partnerGone_frame (s : State) (d i : Nat) : Frame 0x300000000000000000001 s (State.partnerGone s d i) := by
  unfold State.partnerGone
  repeat' first
    | with_reducible exact Frame.rfl _ _
    | with_reducible apply Frame.ite
    | with_reducible apply Frame.ite2
    | with_reducible apply Frame.wrij (by decide)
    | (split <;> try (rename_i hq; have e := congrArg Prod.snd hq; dsimp only at e; subst e))
    | dsimp only
    | with_reducible intro _ _

theorem execDebouncedChange_frame (ch : Fin 48) (level : Bool) (held : Nat) (s : State) : FrameO 0x300000000000001000001 s (execDebouncedChange ch level held s) := by
  unfold execDebouncedChange
  repeat' first
    | with_reducible exact Frame.rfl _ _
    | with_reducible apply FrameO.powered
    | with_reducible apply FrameO.ok
    | with_reducible apply FrameO.next
    | with_reducible apply FrameO.ite
    | with_reducible apply Frame.ite
    | with_reducible apply Frame.ite2
    | with_reducible apply Frame.comp (State.partnerGone_frame ..) (by decide)
    | with_reducible apply Frame.comp (State.dioState_frame ..) (by decide)
    | with_reducible apply Frame.wrij (by decide)
    | (split <;> try (rename_i hq; have e := congrArg Prod.snd hq; dsimp only at e; subst e))
    | dsimp only
    | with_reducible intro _ _

theorem execInputRepeat_frame (ch : Fin 48) (s : State) : FrameO 0x300000000000001000001 s (execInputRepeat ch s) := by
  unfold execInputRepeat
  repeat' first
    | with_reducible exact Frame.rfl _ _
    | with_reducible apply FrameO.powered
    | with_reducible apply FrameO.ok
    | with_reducible apply FrameO.next
    | with_reducible apply FrameO.ite
    | with_reducible apply Frame.ite
    | with_reducible apply Frame.ite2
    | with_reducible apply Frame.comp (State.dioState_frame ..) (by decide)
    | (split <;> try (rename_i hq; have e := congrArg Prod.snd hq; dsimp only at e; subst e))
    | dsimp only
    | with_reducible intro _ _

theorem execWireBreak_frame (ch : Fin 48) (current : Nat) (s : State) : FrameO 0x20300000080000001000401 s (execWireBreak ch current s) := by
  unfold execWireBreak
  repeat' first
    | with_reducible exact Frame.rfl _ _
    | with_reducible apply FrameO.powered
    | with_reducible apply FrameO.ok
    | with_reducible apply FrameO.next
    | with_reducible apply FrameO.ite
    | with_reducible apply Frame.ite
    | with_reducible apply Frame.ite2
    | with_reducible apply Frame.fioLatch (by decide) (by decide)
    | with_reducible apply Frame.comp (State.dioState_frame ..) (by decide)
    | with_reducible apply Frame.wrij (by decide)
    | (split <;> try (rename_i hq; have e := congrArg Prod.snd hq; dsimp only at e; subst e))
    | dsimp only
    | with_reducible intro _ _

theorem execWireIntact_frame (ch : Fin 48) (current : Nat) (s : State) : FrameO 0x300000000000000000001 s (execWireIntact ch current s) := by
  unfold execWireIntact
  repeat' first
    | with_reducible exact Frame.rfl _ _
    | with_reducible apply FrameO.powered
    | with_reducible apply FrameO.ok
    | with_reducible apply FrameO.next
    | with_reducible apply FrameO.ite
    | with_reducible apply Frame.ite
    | with_reducible apply Frame.ite2
    | with_reducible apply Frame.wrij (by decide)
    | (split <;> try (rename_i hq; have e := congrArg Prod.snd hq; dsimp only at e; subst e))
    | dsimp only
    | with_reducible intro _ _

theorem execOverCurrent_frame (ch : Fin 48) (s : State) : FrameO 0x20300000080000001000401 s (execOverCurrent ch s) := by
  unfold execOverCurrent
  repeat' first
    | with_reducible exact Frame.rfl _ _
    | with_reducible apply FrameO.powered
    | with_reducible apply FrameO.ok
    | with_reducible apply FrameO.next
    | with_reducible apply FrameO.ite
    | with_reducible apply Frame.ite
    | with_reducible apply Frame.ite2
    | with_reducible apply Frame.fioLatch (by decide) (by decide)
    | with_reducible apply Frame.comp (State.outRefresh_frame ..) (by decide)
    | with_reducible apply Frame.wrij (by decide)
    | (split <;> try (rename_i hq; have e := congrArg Prod.snd hq; dsimp only at e; subst e))
    | dsimp only
    | with_reducible intro _ _

theorem execSwitchThermalShutdown_frame (ch : Fin 48) (s : State) : FrameO 0x20300000080000001000401 s (execSwitchThermalShutdown ch s) := by
  unfold execSwitchThermalShutdown
  repeat' first
    | with_reducible exact Frame.rfl _ _
    | with_reducible apply FrameO.powered
    | with_reducible apply FrameO.ok
    | with_reducible apply FrameO.next
    | with_reducible apply FrameO.ite
    | with_reducible apply Frame.ite
    | with_reducible apply Frame.ite2
    | with_reducible apply Frame.fioLatch (by decide) (by decide)
    | with_reducible apply Frame.comp (State.outRefresh_frame ..) (by decide)
    | with_reducible apply Frame.wrij (by decide)
    | (split <;> try (rename_i hq; have e := congrArg Prod.snd hq; dsimp only at e; subst e))
    | dsimp only
    | with_reducible intro _ _

theorem execThermalRetry_frame (ch : Fin 48) (s : State) : FrameO 0x300000000000001000001 s (execThermalRetry ch s) := by
  unfold execThermalRetry
  repeat' first
    | with_reducible exact Frame.rfl _ _
    | with_reducible apply FrameO.powered
    | with_reducible apply FrameO.ok
    | with_reducible apply FrameO.next
    | with_reducible apply FrameO.ite
    | with_reducible apply Frame.ite
    | with_reducible apply Frame.ite2
    | with_reducible apply Frame.comp (State.dieM_frame ..) (by decide)
    | with_reducible apply Frame.comp (State.outRefresh_frame ..) (by decide)
    | with_reducible apply Frame.incij (by decide)
    | with_reducible apply Frame.wrij (by decide)
    | (split <;> try (rename_i hq; have e := congrArg Prod.snd hq; dsimp only at e; subst e))
    | dsimp only
    | with_reducible intro _ _

theorem execOpenLoad_frame (ch : Fin 48) (current : Nat) (s : State) : FrameO 0x20300000080000000000401 s (execOpenLoad ch current s) := by
  unfold execOpenLoad
  repeat' first
    | with_reducible exact Frame.rfl _ _
    | with_reducible apply FrameO.powered
    | with_reducible apply FrameO.ok
    | with_reducible apply FrameO.next
    | with_reducible apply FrameO.ite
    | with_reducible apply Frame.ite
    | with_reducible apply Frame.ite2
    | with_reducible apply Frame.fioLatch (by decide) (by decide)
    | with_reducible apply Frame.wrij (by decide)
    | (split <;> try (rename_i hq; have e := congrArg Prod.snd hq; dsimp only at e; subst e))
    | dsimp only
    | with_reducible intro _ _

theorem execShortVs_frame (ch : Fin 48) (s : State) : FrameO 0x20300000080000001000401 s (execShortVs ch s) := by
  unfold execShortVs
  repeat' first
    | with_reducible exact Frame.rfl _ _
    | with_reducible apply FrameO.powered
    | with_reducible apply FrameO.ok
    | with_reducible apply FrameO.next
    | with_reducible apply FrameO.ite
    | with_reducible apply Frame.ite
    | with_reducible apply Frame.ite2
    | with_reducible apply Frame.fioLatch (by decide) (by decide)
    | with_reducible apply Frame.comp (State.outRefresh_frame ..) (by decide)
    | with_reducible apply Frame.wrij (by decide)
    | (split <;> try (rename_i hq; have e := congrArg Prod.snd hq; dsimp only at e; subst e))
    | dsimp only
    | with_reducible intro _ _

theorem execUnderVoltage_frame (bank : Fin 6) (volt : Nat) (s : State) : FrameO 0x20300000080000001000401 s (execUnderVoltage bank volt s) := by
  unfold execUnderVoltage
  repeat' first
    | with_reducible exact Frame.rfl _ _
    | with_reducible apply FrameO.powered
    | with_reducible apply FrameO.ok
    | with_reducible apply FrameO.next
    | with_reducible apply FrameO.ite
    | with_reducible apply Frame.ite
    | with_reducible apply Frame.ite2
    | with_reducible apply Frame.fioLatch (by decide) (by decide)
    | with_reducible apply Frame.comp (State.outRefresh_frame ..) (by decide)
    | with_reducible apply Frame.wrij (by decide)
    | with_reducible apply Frame.foldl
    | with_reducible apply Frame.foldl2
    | (split <;> try (rename_i hq; have e := congrArg Prod.snd hq; dsimp only at e; subst e))
    | dsimp only
    | with_reducible intro _ _

theorem execBankRestore_frame (bank : Fin 6) (volt : Nat) (s : State) : FrameO 0x20300000080000001000401 s (execBankRestore bank volt s) := by
  unfold execBankRestore
  repeat' first
    | with_reducible exact Frame.rfl _ _
    | with_reducible apply FrameO.powered
    | with_reducible apply FrameO.ok
    | with_reducible apply FrameO.next
    | with_reducible apply FrameO.ite
    | with_reducible apply Frame.ite
    | with_reducible apply Frame.ite2
    | with_reducible apply Frame.comp (State.raise_frame ..) (by decide)
    | with_reducible apply Frame.comp (State.outRefresh_frame ..) (by decide)
    | with_reducible apply Frame.wrij (by decide)
    | with_reducible apply Frame.foldl
    | with_reducible apply Frame.foldl2
    | (split <;> try (rename_i hq; have e := congrArg Prod.snd hq; dsimp only at e; subst e))
    | dsimp only
    | with_reducible intro _ _

theorem execBankWarn_frame (bank : Fin 6) (volt : Nat) (s : State) : FrameO 0x20300000080000000000401 s (execBankWarn bank volt s) := by
  unfold execBankWarn
  repeat' first
    | with_reducible exact Frame.rfl _ _
    | with_reducible apply FrameO.powered
    | with_reducible apply FrameO.ok
    | with_reducible apply FrameO.next
    | with_reducible apply FrameO.ite
    | with_reducible apply Frame.ite
    | with_reducible apply Frame.ite2
    | with_reducible apply Frame.comp (State.raiseIf_frame ..) (by decide)
    | with_reducible apply Frame.wrij (by decide)
    | (split <;> try (rename_i hq; have e := congrArg Prod.snd hq; dsimp only at e; subst e))
    | dsimp only
    | with_reducible intro _ _

theorem State.causeClear_frame (s : State) (d k v : Nat) : Frame 0x20300000080000001000401 s (State.causeClear s d k v) := by
  unfold State.causeClear
  repeat' first
    | with_reducible exact Frame.rfl _ _
    | with_reducible apply Frame.ite
    | with_reducible apply Frame.ite2
    | with_reducible apply Frame.comp (State.dieM_frame ..) (by decide)
    | with_reducible apply Frame.comp (State.fioFault_frame ..) (by decide)
    | with_reducible apply Frame.comp (State.outRefresh_frame ..) (by decide)
    | with_reducible apply Frame.wrij (by decide)
    | with_reducible apply Frame.wrij (Fld.okIn_ite (by decide) (by decide))
    | with_reducible apply Frame.wrij (Fld.okIn_mono (causeFld_okIn _) (by decide))
    | (split <;> try (rename_i hq; have e := congrArg Prod.snd hq; dsimp only at e; subst e))
    | dsimp only
    | with_reducible intro _ _

theorem execFaultClear_frame (die : Fin 2) (cause : Fin 6) (value : Word) (s : State) : FrameO 0x20300000080000001000401 s (execFaultClear die cause value s) := by
  unfold execFaultClear
  repeat' first
    | with_reducible exact Frame.rfl _ _
    | with_reducible apply FrameO.powered
    | with_reducible apply FrameO.ok
    | with_reducible apply FrameO.next
    | with_reducible apply FrameO.ite
    | with_reducible apply Frame.ite
    | with_reducible apply Frame.ite2
    | with_reducible apply Frame.comp (State.causeClear_frame ..) (by decide)
    | (split <;> try (rename_i hq; have e := congrArg Prod.snd hq; dsimp only at e; subst e))
    | dsimp only
    | with_reducible intro _ _

theorem State.aoutClear_frame (s : State) (d j v : Nat) : Frame 0x20300000080000000000401 s (State.aoutClear s d j v) := by
  unfold State.aoutClear
  repeat' first
    | with_reducible exact Frame.rfl _ _
    | with_reducible apply Frame.ite
    | with_reducible apply Frame.comp (State.fioFault_frame ..) (by decide)
    | with_reducible apply Frame.wrij (by decide)
    | (split <;> try (rename_i hq; have e := congrArg Prod.snd hq; dsimp only at e; subst e))
    | dsimp only
    | with_reducible intro _ _

theorem execOpenWire_frame (aout : Fin 8) (rb : Nat) (s : State) : FrameO 0x20300000080000000000401 s (execOpenWire aout rb s) := by
  unfold execOpenWire
  repeat' first
    | with_reducible exact Frame.rfl _ _
    | with_reducible apply FrameO.powered
    | with_reducible apply FrameO.ok
    | with_reducible apply FrameO.next
    | with_reducible apply FrameO.ite
    | with_reducible apply Frame.ite
    | with_reducible apply Frame.ite2
    | with_reducible apply Frame.comp (State.raiseIf_frame ..) (by decide)
    | with_reducible apply Frame.comp (State.fioFault_frame ..) (by decide)
    | with_reducible apply Frame.wrij (by decide)
    | (split <;> try (rename_i hq; have e := congrArg Prod.snd hq; dsimp only at e; subst e))
    | dsimp only
    | with_reducible intro _ _

theorem execOverload_frame (aout : Fin 8) (rb : Nat) (s : State) : FrameO 0x20300000080000000000401 s (execOverload aout rb s) := by
  unfold execOverload
  repeat' first
    | with_reducible exact Frame.rfl _ _
    | with_reducible apply FrameO.powered
    | with_reducible apply FrameO.ok
    | with_reducible apply FrameO.next
    | with_reducible apply FrameO.ite
    | with_reducible apply Frame.ite
    | with_reducible apply Frame.ite2
    | with_reducible apply Frame.comp (State.raiseIf_frame ..) (by decide)
    | with_reducible apply Frame.comp (State.fioFault_frame ..) (by decide)
    | with_reducible apply Frame.wrij (by decide)
    | (split <;> try (rename_i hq; have e := congrArg Prod.snd hq; dsimp only at e; subst e))
    | dsimp only
    | with_reducible intro _ _

theorem execTimeProportioningPeriod_frame (ch : Fin 48) (s : State) : FrameO 0x2000000 s (execTimeProportioningPeriod ch s) := by
  unfold execTimeProportioningPeriod
  repeat' first
    | with_reducible exact Frame.rfl _ _
    | with_reducible apply FrameO.powered
    | with_reducible apply FrameO.ok
    | with_reducible apply FrameO.next
    | with_reducible apply FrameO.ite
    | with_reducible apply Frame.ite
    | with_reducible apply Frame.ite2
    | with_reducible apply Frame.comp (State.fioM_frame ..) (by decide)
    | (split <;> try (rename_i hq; have e := congrArg Prod.snd hq; dsimp only at e; subst e))
    | dsimp only
    | with_reducible intro _ _

theorem State.fioCommands_frame (s : State) (d : Nat) : Frame 0x300000000000002000001 s (State.fioCommands s d).2.2 := by
  unfold State.fioCommands
  repeat' first
    | with_reducible exact Frame.rfl _ _
    | with_reducible apply Frame.ite
    | with_reducible apply Frame.ite2
    | with_reducible apply Frame.comp (State.fioM_frame ..) (by decide)
    | with_reducible apply Frame.wrij (by decide)
    | with_reducible apply Frame.foldl
    | with_reducible apply Frame.foldl2
    | (split <;> try (rename_i hq; have e := congrArg Prod.snd hq; dsimp only at e; subst e))
    | dsimp only
    | with_reducible intro _ _

theorem State.fioLost_frame (s : State) : Frame 0x2000000 s (State.fioLost s) := by
  unfold State.fioLost
  repeat' first
    | with_reducible exact Frame.rfl _ _
    | with_reducible apply Frame.ite
    | with_reducible apply Frame.ite2
    | fail_if_no_progress with_reducible apply Frame.put_fio _ (by decide)
    | (split <;> try (rename_i hq; have e := congrArg Prod.snd hq; dsimp only at e; subst e))
    | dsimp only
    | with_reducible intro _ _
    | fail_if_no_progress apply Frame.put_fio _ (by decide)

theorem State.enterSafe_frame (s : State) (d : Nat) : Frame 0x300000000000001000001 s (State.enterSafe s d) := by
  unfold State.enterSafe
  repeat' first
    | with_reducible exact Frame.rfl _ _
    | with_reducible apply Frame.ite
    | with_reducible apply Frame.ite2
    | with_reducible apply Frame.comp (State.dieM_frame ..) (by decide)
    | with_reducible apply Frame.comp (State.outRefresh_frame ..) (by decide)
    | (split <;> try (rename_i hq; have e := congrArg Prod.snd hq; dsimp only at e; subst e))
    | dsimp only
    | with_reducible intro _ _

theorem State.fioInit_frame (s : State) (d : Nat) : Frame 0x300000000000002000001 s (State.fioInit s d) := by
  unfold State.fioInit
  repeat' first
    | with_reducible exact Frame.rfl _ _
    | with_reducible apply Frame.ite
    | with_reducible apply Frame.ite2
    | with_reducible apply Frame.comp (State.fioM_frame ..) (by decide)
    | with_reducible apply Frame.wrij (by decide)
    | with_reducible apply Frame.foldl
    | with_reducible apply Frame.foldl2
    | (split <;> try (rename_i hq; have e := congrArg Prod.snd hq; dsimp only at e; subst e))
    | dsimp only
    | with_reducible intro _ _

theorem State.fioAgain_frame (s : State) (d i : Nat) : Frame 0x20300000080000000000401 s (State.fioAgain s d i) := by
  unfold State.fioAgain
  repeat' first
    | with_reducible exact Frame.rfl _ _
    | with_reducible apply Frame.ite
    | with_reducible apply Frame.ite2
    | with_reducible apply Frame.fioLatch (by decide) (by decide)
    | with_reducible apply Frame.wrij (by decide)
    | (split <;> try (rename_i hq; have e := congrArg Prod.snd hq; dsimp only at e; subst e))
    | dsimp only
    | with_reducible intro _ _

theorem State.aoutAgain_frame (s : State) (d : Nat) : Frame 0x20300000080000000000401 s (State.aoutAgain s d) := by
  unfold State.aoutAgain
  repeat' first
    | with_reducible exact Frame.rfl _ _
    | with_reducible apply Frame.ite
    | with_reducible apply Frame.ite2
    | with_reducible apply Frame.comp (State.raiseIf_frame ..) (by decide)
    | with_reducible apply Frame.comp (State.fioFault_frame ..) (by decide)
    | with_reducible apply Frame.wrij (by decide)
    | with_reducible apply Frame.foldl
    | with_reducible apply Frame.foldl2
    | (split <;> try (rename_i hq; have e := congrArg Prod.snd hq; dsimp only at e; subst e))
    | dsimp only
    | with_reducible intro _ _

theorem State.fioReset_frame (s : State) (d : Nat) : Frame 0x20300000080000003000401 s (State.fioReset s d) := by
  unfold State.fioReset
  repeat' first
    | with_reducible exact Frame.rfl _ _
    | with_reducible apply Frame.ite
    | with_reducible apply Frame.ite2
    | with_reducible apply Frame.comp (State.fioInit_frame ..) (by decide)
    | with_reducible apply Frame.comp (State.causeClear_frame ..) (by decide)
    | with_reducible apply Frame.comp (State.aoutClear_frame ..) (by decide)
    | with_reducible apply Frame.comp (State.fioAgain_frame ..) (by decide)
    | with_reducible apply Frame.comp (State.aoutAgain_frame ..) (by decide)
    | with_reducible apply Frame.comp (State.outRefresh_frame ..) (by decide)
    | with_reducible apply Frame.foldl
    | with_reducible apply Frame.foldl2
    | (split <;> try (rename_i hq; have e := congrArg Prod.snd hq; dsimp only at e; subst e))
    | dsimp only
    | with_reducible intro _ _

theorem execFieldDieSupplyLoss_frame (die : Fin 2) (s : State) : FrameO 0x300000000000001000001 s (execFieldDieSupplyLoss die s) := by
  unfold execFieldDieSupplyLoss
  repeat' first
    | with_reducible exact Frame.rfl _ _
    | with_reducible apply FrameO.powered
    | with_reducible apply FrameO.ok
    | with_reducible apply FrameO.next
    | with_reducible apply FrameO.ite
    | with_reducible apply Frame.ite
    | with_reducible apply Frame.ite2
    | with_reducible apply Frame.comp (State.dieM_frame ..) (by decide)
    | with_reducible apply Frame.comp (State.outRefresh_frame ..) (by decide)
    | with_reducible apply Frame.wrij (by decide)
    | with_reducible apply Frame.foldl
    | with_reducible apply Frame.foldl2
    | (split <;> try (rename_i hq; have e := congrArg Prod.snd hq; dsimp only at e; subst e))
    | dsimp only
    | with_reducible intro _ _

end Sys2Proof.Machine
end

