-- ==== Sys2Proof/Laws/FrameAfe.lean ====
section
/-! SUPPORT. The frames of the operations of Machine/Afe.lean. -/

set_option linter.unreachableTactic false
set_option linter.unusedTactic false

namespace Sys2Proof.Machine

open Sys2Proof

theorem cableWord_ok (d i w : Nat) : regOk (cableWord d i w) 0xc0000000000000000001 = true := by
  unfold cableWord
  have h1 : w % 128 < 128 := Nat.mod_lt _ (by decide)
  have h2 : i % 16 < 16 := Nat.mod_lt _ (by decide)
  have e : AFE_CABLEBLK_WORD.addr w i = 0x154000 + 4 * (w % 128) + 0x200 * (i % 16) := rfl
  have key : ∀ a, 0x154000 ≤ a → a < 0x157000 → ∀ d, d < 2 → regOk (a + 0x10000 * d) 0xc0000000000000000001 = true := by
    intro a h k d hd
    have e1 : isEvt (a + 0x10000 * d) = false := by
      simp only [isEvt, Bool.and_eq_false_iff, decide_eq_false_iff_not]; omega
    unfold regOk
    rw [e1]
    have : (a + 0x10000 * d) / 0x10000 = 21 + d := by omega
    rw [this]
    interval_cases d <;> rfl
  exact key _ (by omega) (by omega) _ (Nat.mod_lt _ (by decide))

theorem sweepWord_ok (d i w : Nat) : regOk (sweepWord d i w) 0xc0000000000000000001 = true := by
  unfold sweepWord
  have h1 : w % 32 < 32 := Nat.mod_lt _ (by decide)
  have h2 : i % 4 < 4 := Nat.mod_lt _ (by decide)
  have e : AFE_SWEEPBLK_WORD.addr w i = 0x152000 + 4 * (w % 32) + 0x80 * (i % 4) := rfl
  have key : ∀ a, 0x152000 ≤ a → a < 0x157000 → ∀ d, d < 2 → regOk (a + 0x10000 * d) 0xc0000000000000000001 = true := by
    intro a h k d hd
    have e1 : isEvt (a + 0x10000 * d) = false := by
      simp only [isEvt, Bool.and_eq_false_iff, decide_eq_false_iff_not]; omega
    unfold regOk
    rw [e1]
    have : (a + 0x10000 * d) / 0x10000 = 21 + d := by omega
    rw [this]
    interval_cases d <;> rfl
  exact key _ (by omega) (by omega) _ (Nat.mod_lt _ (by decide))

theorem State.afeM_frame (s : State) (d : Nat) (f : AfeDie → AfeDie) : Frame 0x400000000000 s (State.afeM s d f) := by
  unfold State.afeM
  repeat' first
    | with_reducible exact Frame.rfl _ _
    | with_reducible apply Frame.ite
    | fail_if_no_progress with_reducible apply Frame.put_afe _ (by decide)
    | (split <;> try (rename_i hq; have e := congrArg Prod.snd hq; dsimp only at e; subst e))
    | dsimp only
    | with_reducible intro _ _
    | fail_if_no_progress apply Frame.put_afe _ (by decide)

theorem State.afeChM_frame (s : State) (d i : Nat) (f : AfeChan → AfeChan) : Frame 0x400000000000 s (State.afeChM s d i f) := by
  unfold State.afeChM
  repeat' first
    | with_reducible exact Frame.rfl _ _
    | with_reducible apply Frame.ite
    | with_reducible apply Frame.ite2
    | with_reducible apply Frame.comp (State.afeM_frame ..) (by decide)
    | (split <;> try (rename_i hq; have e := congrArg Prod.snd hq; dsimp only at e; subst e))
    | dsimp only
    | with_reducible intro _ _

theorem State.adcM_frame (s : State) (d a : Nat) (f : AfeAdc → AfeAdc) : Frame 0x400000000000 s (State.adcM s d a f) := by
  unfold State.adcM
  repeat' first
    | with_reducible exact Frame.rfl _ _
    | with_reducible apply Frame.ite
    | with_reducible apply Frame.ite2
    | with_reducible apply Frame.comp (State.afeM_frame ..) (by decide)
    | (split <;> try (rename_i hq; have e := congrArg Prod.snd hq; dsimp only at e; subst e))
    | dsimp only
    | with_reducible intro _ _

theorem State.pathM_frame (s : State) (d j : Nat) (f : AfePath → AfePath) : Frame 0x400000000000 s (State.pathM s d j f) := by
  unfold State.pathM
  repeat' first
    | with_reducible exact Frame.rfl _ _
    | with_reducible apply Frame.ite
    | with_reducible apply Frame.ite2
    | with_reducible apply Frame.comp (State.afeM_frame ..) (by decide)
    | (split <;> try (rename_i hq; have e := congrArg Prod.snd hq; dsimp only at e; subst e))
    | dsimp only
    | with_reducible intro _ _

theorem State.settleStart_frame (s : State) (d i : Nat) : Frame 0xc0000000400000000001 s (State.settleStart s d i) := by
  unfold State.settleStart
  repeat' first
    | with_reducible exact Frame.rfl _ _
    | with_reducible apply Frame.ite
    | with_reducible apply Frame.ite2
    | with_reducible apply Frame.comp (State.afeChM_frame ..) (by decide)
    | with_reducible apply Frame.wrij (by decide)
    | (split <;> try (rename_i hq; have e := congrArg Prod.snd hq; dsimp only at e; subst e))
    | dsimp only
    | with_reducible intro _ _

theorem State.scanLate_frame (s : State) (d i n : Nat) : Frame 0x200c0000080000000000401 s (State.scanLate s d i n) := by
  unfold State.scanLate
  repeat' first
    | with_reducible exact Frame.rfl _ _
    | with_reducible apply Frame.ite
    | with_reducible apply Frame.ite2
    | with_reducible apply Frame.comp (State.raiseIf_frame ..) (by decide)
    | with_reducible apply Frame.incij (by decide)
    | with_reducible apply Frame.wrij (by decide)
    | (split <;> try (rename_i hq; have e := congrArg Prod.snd hq; dsimp only at e; subst e))
    | dsimp only
    | with_reducible intro _ _

theorem Frame.afeCount {mk : Nat} {sA sB : State} {f : Fld} {d i evt : Nat} {c : Bool} (hf : f.okIn mk = true) (hm : 0x20000000080000000000401 &&& mk = 0x20000000080000000000401)
    (h : Frame mk sA sB) : Frame mk sA (sB.afeCount f d i evt c) := by
  unfold State.afeCount
  repeat' first
    | exact h
    | with_reducible exact Frame.rfl _ _
    | with_reducible apply Frame.ite
    | with_reducible apply Frame.ite2
    | with_reducible apply Frame.comp (State.raiseIf_frame ..) (mask_sub (by decide) hm)
    | with_reducible apply Frame.incij hf
    | (split <;> try (rename_i hq; have e := congrArg Prod.snd hq; dsimp only at e; subst e))
    | dsimp only
    | with_reducible intro _ _

theorem State.afeTake_frame (s : State) (d i val flags : Nat) : Frame 0x200c0000080000000000401 s (State.afeTake s d i val flags).2 := by
  unfold State.afeTake
  repeat' first
    | with_reducible exact Frame.rfl _ _
    | with_reducible apply Frame.ite
    | with_reducible apply Frame.ite2
    | with_reducible apply Frame.afeCount (by decide) (by decide)
    | with_reducible apply Frame.incij (by decide)
    | with_reducible apply Frame.wrij (by decide)
    | (split <;> try (rename_i hq; have e := congrArg Prod.snd hq; dsimp only at e; subst e))
    | dsimp only
    | with_reducible intro _ _

theorem State.afeSample_frame (s : State) (d i val flags stamp : Nat) : Frame 0x200c0000080000001000401 s (State.afeSample s d i val flags stamp) := by
  unfold State.afeSample
  repeat' first
    | with_reducible exact Frame.rfl _ _
    | with_reducible apply Frame.ite
    | with_reducible apply Frame.ite2
    | with_reducible apply Frame.comp (State.afeTake_frame ..) (by decide)
    | with_reducible apply Frame.comp (State.sample_frame ..) (by decide)
    | (split <;> try (rename_i hq; have e := congrArg Prod.snd hq; dsimp only at e; subst e))
    | dsimp only
    | with_reducible intro _ _

theorem State.srcOn_frame (s : State) (d : Nat) (r : CfgRec) (phase : Nat) : Frame 0xc0000000000000000001 s (State.srcOn s d r phase) := by
  unfold State.srcOn
  repeat' first
    | with_reducible exact Frame.rfl _ _
    | with_reducible apply Frame.ite
    | with_reducible apply Frame.ite2
    | with_reducible apply Frame.wrij (by decide)
    | with_reducible apply Frame.foldl
    | with_reducible apply Frame.foldl2
    | (split <;> try (rename_i hq; have e := congrArg Prod.snd hq; dsimp only at e; subst e))
    | dsimp only
    | with_reducible intro _ _

theorem State.srcOff_frame (s : State) (d : Nat) (r : CfgRec) : Frame 0xc0000000000000000001 s (State.srcOff s d r) := by
  unfold State.srcOff
  repeat' first
    | with_reducible exact Frame.rfl _ _
    | with_reducible apply Frame.ite
    | with_reducible apply Frame.ite2
    | with_reducible apply Frame.wrij (by decide)
    | with_reducible apply Frame.foldl
    | with_reducible apply Frame.foldl2
    | (split <;> try (rename_i hq; have e := congrArg Prod.snd hq; dsimp only at e; subst e))
    | dsimp only
    | with_reducible intro _ _

theorem State.convStart_frame (s : State) (d a i : Nat) : Frame 0xc0000000400000000001 s (State.convStart s d a i) := by
  unfold State.convStart
  repeat' first
    | with_reducible exact Frame.rfl _ _
    | with_reducible apply Frame.ite
    | with_reducible apply Frame.ite2
    | with_reducible apply Frame.comp (State.afeChM_frame ..) (by decide)
    | with_reducible apply Frame.comp (State.adcM_frame ..) (by decide)
    | with_reducible apply Frame.wrij (by decide)
    | (split <;> try (rename_i hq; have e := congrArg Prod.snd hq; dsimp only at e; subst e))
    | dsimp only
    | with_reducible intro _ _

theorem State.visit_frame (s : State) (d a i : Nat) (r : CfgRec) : Frame 0x200c0080080700000000401 s (State.visit s d a i r) := by
  unfold State.visit
  repeat' first
    | with_reducible exact Frame.rfl _ _
    | with_reducible apply Frame.ite
    | with_reducible apply Frame.ite2
    | with_reducible apply Frame.comp (State.srcOff_frame ..) (by decide)
    | with_reducible apply Frame.comp (State.adcM_frame ..) (by decide)
    | with_reducible apply Frame.comp (State.settle_frame ..) (by decide)
    | with_reducible apply Frame.comp (State.srcOn_frame ..) (by decide)
    | with_reducible apply Frame.comp (State.settleStart_frame ..) (by decide)
    | with_reducible apply Frame.comp (State.convStart_frame ..) (by decide)
    | with_reducible apply Frame.wrij (by decide)
    | with_reducible apply Frame.wrij (Fld.okIn_ite (by decide) (by decide))
    | (split <;> try (rename_i hq; have e := congrArg Prod.snd hq; dsimp only at e; subst e))
    | dsimp only
    | with_reducible intro _ _

theorem State.adcNext_frame (s : State) (d a : Nat) : Frame 0x200c0080080700000000401 s (State.adcNext s d a) := by
  unfold State.adcNext
  repeat' first
    | with_reducible exact Frame.rfl _ _
    | with_reducible apply Frame.ite
    | with_reducible apply Frame.ite2
    | with_reducible apply Frame.comp (State.visit_frame ..) (by decide)
    | (split <;> try (rename_i hq; have e := congrArg Prod.snd hq; dsimp only at e; subst e))
    | dsimp only
    | with_reducible intro _ _

theorem State.visitEnd_frame (s : State) (d a i : Nat) (r : CfgRec) : Frame 0x200c0080080700000000401 s (State.visitEnd s d a i r) := by
  unfold State.visitEnd
  repeat' first
    | with_reducible exact Frame.rfl _ _
    | with_reducible apply Frame.ite
    | with_reducible apply Frame.ite2
    | with_reducible apply Frame.comp (State.srcOff_frame ..) (by decide)
    | with_reducible apply Frame.comp (State.afeChM_frame ..) (by decide)
    | with_reducible apply Frame.comp (State.adcM_frame ..) (by decide)
    | with_reducible apply Frame.comp (State.adcNext_frame ..) (by decide)
    | (split <;> try (rename_i hq; have e := congrArg Prod.snd hq; dsimp only at e; subst e))
    | dsimp only
    | with_reducible intro _ _

theorem State.rangeDone_frame (s : State) (d : Nat) (run : AdcRun) : Frame 0x400000000000 s (State.rangeDone s d run) := by
  unfold State.rangeDone
  repeat' first
    | with_reducible exact Frame.rfl _ _
    | with_reducible apply Frame.ite
    | with_reducible apply Frame.ite2
    | with_reducible apply Frame.comp (State.afeChM_frame ..) (by decide)
    | (split <;> try (rename_i hq; have e := congrArg Prod.snd hq; dsimp only at e; subst e))
    | dsimp only
    | with_reducible intro _ _

theorem State.cableSend_frame (s : State) (d i seq mask val fmt : Nat) (run : AdcRun) : Frame 0x200c0000081801000000401 s (State.cableSend s d i seq mask val fmt run) := by
  unfold State.cableSend
  repeat' first
    | with_reducible exact Frame.rfl _ _
    | with_reducible apply Frame.ite
    | with_reducible apply Frame.ite2
    | with_reducible apply Frame.comp (State.produce_frame ..) (by decide)
    | with_reducible apply Frame.comp (State.raise_frame ..) (by decide)
    | with_reducible apply Frame.setReg (regOk_mono (cableWord_ok _ _ _) (by decide))
    | with_reducible apply Frame.foldl
    | with_reducible apply Frame.foldl2
    | (split <;> try (rename_i hq; have e := congrArg Prod.snd hq; dsimp only at e; subst e))
    | dsimp only
    | with_reducible intro _ _

theorem State.cableDone_frame (s : State) (d a : Nat) (r : CfgRec) (run : AdcRun) : Frame 0x200c0080081f01000000401 s (State.cableDone s d a r run) := by
  unfold State.cableDone
  repeat' first
    | with_reducible exact Frame.rfl _ _
    | with_reducible apply Frame.ite
    | with_reducible apply Frame.ite2
    | with_reducible apply Frame.comp (State.afeTake_frame ..) (by decide)
    | with_reducible apply Frame.comp (State.cableSend_frame ..) (by decide)
    | with_reducible apply Frame.comp (State.rangeDone_frame ..) (by decide)
    | with_reducible apply Frame.comp (State.visitEnd_frame ..) (by decide)
    | with_reducible apply Frame.foldl
    | with_reducible apply Frame.foldl2
    | (split <;> try (rename_i hq; have e := congrArg Prod.snd hq; dsimp only at e; subst e))
    | dsimp only
    | with_reducible intro _ _

theorem State.resultDone_frame (s : State) (d a : Nat) (r : CfgRec) (run : AdcRun) (aref : Nat) : Frame 0x200c0080080700001000401 s (State.resultDone s d a r run aref) := by
  unfold State.resultDone
  repeat' first
    | with_reducible exact Frame.rfl _ _
    | with_reducible apply Frame.ite
    | with_reducible apply Frame.ite2
    | with_reducible apply Frame.comp (State.afeSample_frame ..) (by decide)
    | with_reducible apply Frame.comp (State.rangeDone_frame ..) (by decide)
    | with_reducible apply Frame.comp (State.adcM_frame ..) (by decide)
    | with_reducible apply Frame.comp (State.convStart_frame ..) (by decide)
    | with_reducible apply Frame.comp (State.visitEnd_frame ..) (by decide)
    | (split <;> try (rename_i hq; have e := congrArg Prod.snd hq; dsimp only at e; subst e))
    | dsimp only
    | with_reducible intro _ _

theorem State.convNext_frame (s : State) (d a : Nat) (r : CfgRec) (run : AdcRun) (aref : Nat) : Frame 0x200c0080081f01001000401 s (State.convNext s d a r run aref) := by
  unfold State.convNext
  repeat' first
    | with_reducible exact Frame.rfl _ _
    | with_reducible apply Frame.ite
    | with_reducible apply Frame.ite2
    | with_reducible apply Frame.comp (State.adcM_frame ..) (by decide)
    | with_reducible apply Frame.comp (State.settle_frame ..) (by decide)
    | with_reducible apply Frame.comp (State.convStart_frame ..) (by decide)
    | with_reducible apply Frame.comp (State.srcOn_frame ..) (by decide)
    | with_reducible apply Frame.comp (State.settleStart_frame ..) (by decide)
    | with_reducible apply Frame.comp (State.cableDone_frame ..) (by decide)
    | with_reducible apply Frame.comp (State.resultDone_frame ..) (by decide)
    | (split <;> try (rename_i hq; have e := congrArg Prod.snd hq; dsimp only at e; subst e))
    | dsimp only
    | with_reducible intro _ _

theorem execPrecisionResult_frame (die adc : Fin 2) (code : BitVec 24) (aref : Nat) (comply : Bool) (s : State) : FrameO 0x200c0080081f01001000401 s (execPrecisionResult die adc code aref comply s) := by
  unfold execPrecisionResult
  repeat' first
    | with_reducible exact Frame.rfl _ _
    | with_reducible apply FrameO.powered
    | with_reducible apply FrameO.ok
    | with_reducible apply FrameO.next
    | with_reducible apply FrameO.ite
    | with_reducible apply Frame.ite
    | with_reducible apply Frame.ite2
    | with_reducible apply Frame.comp (State.raiseIf_frame ..) (by decide)
    | with_reducible apply Frame.comp (State.convNext_frame ..) (by decide)
    | with_reducible apply Frame.wrij (by decide)
    | with_reducible apply Frame.foldl
    | with_reducible apply Frame.foldl2
    | (split <;> try (rename_i hq; have e := congrArg Prod.snd hq; dsimp only at e; subst e))
    | dsimp only
    | with_reducible intro _ _

theorem State.sineNext_frame (s : State) (d : Nat) : Frame 0xc0000000400000000001 s (State.sineNext s d) := by
  unfold State.sineNext
  repeat' first
    | with_reducible exact Frame.rfl _ _
    | with_reducible apply Frame.ite
    | with_reducible apply Frame.ite2
    | with_reducible apply Frame.comp (State.afeM_frame ..) (by decide)
    | with_reducible apply Frame.comp (State.settleStart_frame ..) (by decide)
    | with_reducible apply Frame.wrij (by decide)
    | (split <;> try (rename_i hq; have e := congrArg Prod.snd hq; dsimp only at e; subst e))
    | dsimp only
    | with_reducible intro _ _

theorem State.dwellStart_frame (s : State) (d i : Nat) : Frame 0x400000000000 s (State.dwellStart s d i) := by
  unfold State.dwellStart
  repeat' first
    | with_reducible exact Frame.rfl _ _
    | with_reducible apply Frame.ite
    | with_reducible apply Frame.ite2
    | with_reducible apply Frame.comp (State.afeM_frame ..) (by decide)
    | (split <;> try (rename_i hq; have e := congrArg Prod.snd hq; dsimp only at e; subst e))
    | dsimp only
    | with_reducible intro _ _

theorem State.sweepSend_frame (s : State) (d i seq time : Nat) (run : SineRun) : Frame 0x200c0000081801000000401 s (State.sweepSend s d i seq time run) := by
  unfold State.sweepSend
  repeat' first
    | with_reducible exact Frame.rfl _ _
    | with_reducible apply Frame.ite
    | with_reducible apply Frame.ite2
    | with_reducible apply Frame.comp (State.produce_frame ..) (by decide)
    | with_reducible apply Frame.comp (State.raise_frame ..) (by decide)
    | with_reducible apply Frame.setReg (regOk_mono (sweepWord_ok _ _ _) (by decide))
    | with_reducible apply Frame.foldl
    | with_reducible apply Frame.foldl2
    | (split <;> try (rename_i hq; have e := congrArg Prod.snd hq; dsimp only at e; subst e))
    | dsimp only
    | with_reducible intro _ _

theorem State.sweepDone_frame (s : State) (d i : Nat) (run : SineRun) : Frame 0x200c0000081c01000000401 s (State.sweepDone s d i run) := by
  unfold State.sweepDone
  repeat' first
    | with_reducible exact Frame.rfl _ _
    | with_reducible apply Frame.ite
    | with_reducible apply Frame.ite2
    | with_reducible apply Frame.comp (State.afeTake_frame ..) (by decide)
    | with_reducible apply Frame.comp (State.sweepSend_frame ..) (by decide)
    | with_reducible apply Frame.comp (State.pathM_frame ..) (by decide)
    | (split <;> try (rename_i hq; have e := congrArg Prod.snd hq; dsimp only at e; subst e))
    | dsimp only
    | with_reducible intro _ _

theorem execDwellEnd_frame (die : Fin 2) (z v : Nat × Nat) (ovr : Bool) (s : State) : FrameO 0x200c0000081c01000000401 s (execDwellEnd die z v ovr s) := by
  unfold execDwellEnd
  repeat' first
    | with_reducible exact Frame.rfl _ _
    | with_reducible apply FrameO.powered
    | with_reducible apply FrameO.ok
    | with_reducible apply FrameO.next
    | with_reducible apply FrameO.ite
    | with_reducible apply Frame.ite
    | with_reducible apply Frame.ite2
    | with_reducible apply Frame.comp (State.afeM_frame ..) (by decide)
    | with_reducible apply Frame.comp (State.settleStart_frame ..) (by decide)
    | with_reducible apply Frame.comp (State.pathM_frame ..) (by decide)
    | with_reducible apply Frame.comp (State.sweepDone_frame ..) (by decide)
    | with_reducible apply Frame.comp (State.sineNext_frame ..) (by decide)
    | with_reducible apply Frame.wrij (by decide)
    | (split <;> try (rename_i hq; have e := congrArg Prod.snd hq; dsimp only at e; subst e))
    | dsimp only
    | with_reducible intro _ _

theorem execSweep_frame (die : Fin 2) (mask : BitVec 4) (s : State) : FrameO 0xc0000000400000000001 s (execSweep die mask s) := by
  unfold execSweep
  repeat' first
    | with_reducible exact Frame.rfl _ _
    | with_reducible apply FrameO.powered
    | with_reducible apply FrameO.ok
    | with_reducible apply FrameO.next
    | with_reducible apply FrameO.ite
    | with_reducible apply Frame.ite
    | with_reducible apply Frame.ite2
    | with_reducible apply Frame.comp (State.pathM_frame ..) (by decide)
    | with_reducible apply Frame.comp (State.sineNext_frame ..) (by decide)
    | with_reducible apply Frame.foldl
    | with_reducible apply Frame.foldl2
    | (split <;> try (rename_i hq; have e := congrArg Prod.snd hq; dsimp only at e; subst e))
    | dsimp only
    | with_reducible intro _ _

theorem execChannelDue_frame (ch : Fin 32) (s : State) : FrameO 0x200c0080080700000000401 s (execChannelDue ch s) := by
  unfold execChannelDue
  repeat' first
    | with_reducible exact Frame.rfl _ _
    | with_reducible apply FrameO.powered
    | with_reducible apply FrameO.ok
    | with_reducible apply FrameO.next
    | with_reducible apply FrameO.ite
    | with_reducible apply Frame.ite
    | with_reducible apply Frame.ite2
    | with_reducible apply Frame.comp (State.afeChM_frame ..) (by decide)
    | with_reducible apply Frame.comp (State.scanLate_frame ..) (by decide)
    | with_reducible apply Frame.comp (State.adcNext_frame ..) (by decide)
    | with_reducible apply Frame.comp (State.pathM_frame ..) (by decide)
    | with_reducible apply Frame.comp (State.sineNext_frame ..) (by decide)
    | (split <;> try (rename_i hq; have e := congrArg Prod.snd hq; dsimp only at e; subst e))
    | dsimp only
    | with_reducible intro _ _

theorem execSettlingExpiry_frame (ch : Fin 32) (s : State) : FrameO 0x200c0080080700000000401 s (execSettlingExpiry ch s) := by
  unfold execSettlingExpiry
  repeat' first
    | with_reducible exact Frame.rfl _ _
    | with_reducible apply FrameO.powered
    | with_reducible apply FrameO.ok
    | with_reducible apply FrameO.next
    | with_reducible apply FrameO.ite
    | with_reducible apply Frame.ite
    | with_reducible apply Frame.ite2
    | with_reducible apply Frame.comp (State.settle_frame ..) (by decide)
    | with_reducible apply Frame.comp (State.convStart_frame ..) (by decide)
    | with_reducible apply Frame.comp (State.dwellStart_frame ..) (by decide)
    | with_reducible apply Frame.wrij (by decide)
    | with_reducible apply Frame.foldl
    | with_reducible apply Frame.foldl2
    | (split <;> try (rename_i hq; have e := congrArg Prod.snd hq; dsimp only at e; subst e))
    | dsimp only
    | with_reducible intro _ _

theorem State.cableExcite_frame (s : State) (d i a : Nat) (run : AdcRun) : Frame 0x200c0080080700000000401 s (State.cableExcite s d i a run) := by
  unfold State.cableExcite
  repeat' first
    | with_reducible exact Frame.rfl _ _
    | with_reducible apply Frame.ite
    | with_reducible apply Frame.ite2
    | with_reducible apply Frame.comp (State.srcOn_frame ..) (by decide)
    | with_reducible apply Frame.comp (State.adcM_frame ..) (by decide)
    | with_reducible apply Frame.comp (State.settle_frame ..) (by decide)
    | with_reducible apply Frame.comp (State.settleStart_frame ..) (by decide)
    | (split <;> try (rename_i hq; have e := congrArg Prod.snd hq; dsimp only at e; subst e))
    | dsimp only
    | with_reducible intro _ _

theorem execCableResetEnd_frame (ch : Fin 32) (s : State) : FrameO 0x200c0080080700000000401 s (execCableResetEnd ch s) := by
  unfold execCableResetEnd
  repeat' first
    | with_reducible exact Frame.rfl _ _
    | with_reducible apply FrameO.powered
    | with_reducible apply FrameO.ok
    | with_reducible apply FrameO.next
    | with_reducible apply FrameO.ite
    | with_reducible apply Frame.ite
    | with_reducible apply Frame.ite2
    | with_reducible apply Frame.comp (State.cableExcite_frame ..) (by decide)
    | (split <;> try (rename_i hq; have e := congrArg Prod.snd hq; dsimp only at e; subst e))
    | dsimp only
    | with_reducible intro _ _

theorem execStepPulseEnd_frame (ch : Fin 32) (s : State) : FrameO 0x200c0080080700000000401 s (execStepPulseEnd ch s) := by
  unfold execStepPulseEnd
  repeat' first
    | with_reducible exact Frame.rfl _ _
    | with_reducible apply FrameO.powered
    | with_reducible apply FrameO.ok
    | with_reducible apply FrameO.next
    | with_reducible apply FrameO.ite
    | with_reducible apply Frame.ite
    | with_reducible apply Frame.ite2
    | with_reducible apply Frame.comp (State.cableExcite_frame ..) (by decide)
    | (split <;> try (rename_i hq; have e := congrArg Prod.snd hq; dsimp only at e; subst e))
    | dsimp only
    | with_reducible intro _ _

theorem execFastSample_frame (die : Fin 2) (path : Fin 4) (hi lo : BitVec 16) (s : State) : FrameO 0x200c0000080400001000401 s (execFastSample die path hi lo s) := by
  unfold execFastSample
  repeat' first
    | with_reducible exact Frame.rfl _ _
    | with_reducible apply FrameO.powered
    | with_reducible apply FrameO.ok
    | with_reducible apply FrameO.next
    | with_reducible apply FrameO.ite
    | with_reducible apply Frame.ite
    | with_reducible apply Frame.ite2
    | with_reducible apply Frame.comp (State.pathM_frame ..) (by decide)
    | with_reducible apply Frame.comp (State.afeSample_frame ..) (by decide)
    | with_reducible apply Frame.wrij (by decide)
    | (split <;> try (rename_i hq; have e := congrArg Prod.snd hq; dsimp only at e; subst e))
    | dsimp only
    | with_reducible intro _ _

theorem State.qStart_frame (s : State) (d j : Nat) (thr : Bool) : Frame 0x200c0000080400000000401 s (State.qStart s d j thr) := by
  unfold State.qStart
  repeat' first
    | with_reducible exact Frame.rfl _ _
    | with_reducible apply Frame.ite
    | with_reducible apply Frame.ite2
    | with_reducible apply Frame.comp (State.pathM_frame ..) (by decide)
    | with_reducible apply Frame.comp (State.raise_frame ..) (by decide)
    | with_reducible apply Frame.incij (by decide)
    | (split <;> try (rename_i hq; have e := congrArg Prod.snd hq; dsimp only at e; subst e))
    | dsimp only
    | with_reducible intro _ _

theorem execPeriodicChargeReset_frame (die : Fin 2) (path : Fin 4) (s : State) : FrameO 0x200c0000080400000000401 s (execPeriodicChargeReset die path s) := by
  unfold execPeriodicChargeReset
  repeat' first
    | with_reducible exact Frame.rfl _ _
    | with_reducible apply FrameO.powered
    | with_reducible apply FrameO.ok
    | with_reducible apply FrameO.next
    | with_reducible apply FrameO.ite
    | with_reducible apply Frame.ite
    | with_reducible apply Frame.ite2
    | with_reducible apply Frame.comp (State.pathM_frame ..) (by decide)
    | with_reducible apply Frame.comp (State.qStart_frame ..) (by decide)
    | (split <;> try (rename_i hq; have e := congrArg Prod.snd hq; dsimp only at e; subst e))
    | dsimp only
    | with_reducible intro _ _

theorem execThresholdChargeReset_frame (die : Fin 2) (path : Fin 4) (s : State) : FrameO 0x200c0000080400000000401 s (execThresholdChargeReset die path s) := by
  unfold execThresholdChargeReset
  repeat' first
    | with_reducible exact Frame.rfl _ _
    | with_reducible apply FrameO.powered
    | with_reducible apply FrameO.ok
    | with_reducible apply FrameO.next
    | with_reducible apply FrameO.ite
    | with_reducible apply Frame.ite
    | with_reducible apply Frame.ite2
    | with_reducible apply Frame.comp (State.qStart_frame ..) (by decide)
    | (split <;> try (rename_i hq; have e := congrArg Prod.snd hq; dsimp only at e; subst e))
    | dsimp only
    | with_reducible intro _ _

theorem execQreset_frame (die : Fin 2) (mask : BitVec 4) (s : State) : FrameO 0x200c0000080400000000401 s (execQreset die mask s) := by
  unfold execQreset
  repeat' first
    | with_reducible exact Frame.rfl _ _
    | with_reducible apply FrameO.powered
    | with_reducible apply FrameO.ok
    | with_reducible apply FrameO.next
    | with_reducible apply FrameO.ite
    | with_reducible apply Frame.ite
    | with_reducible apply Frame.ite2
    | with_reducible apply Frame.comp (State.qStart_frame ..) (by decide)
    | with_reducible apply Frame.foldl
    | with_reducible apply Frame.foldl2
    | (split <;> try (rename_i hq; have e := congrArg Prod.snd hq; dsimp only at e; subst e))
    | dsimp only
    | with_reducible intro _ _

theorem execChargeResetEnd_frame (die : Fin 2) (path : Fin 4) (s : State) : FrameO 0x400000000000 s (execChargeResetEnd die path s) := by
  unfold execChargeResetEnd
  repeat' first
    | with_reducible exact Frame.rfl _ _
    | with_reducible apply FrameO.powered
    | with_reducible apply FrameO.ok
    | with_reducible apply FrameO.next
    | with_reducible apply FrameO.ite
    | with_reducible apply Frame.ite
    | with_reducible apply Frame.ite2
    | with_reducible apply Frame.comp (State.pathM_frame ..) (by decide)
    | (split <;> try (rename_i hq; have e := congrArg Prod.snd hq; dsimp only at e; subst e))
    | dsimp only
    | with_reducible intro _ _

theorem State.calBusy_frame (s : State) (d : Nat) : Frame 0xc0000000000000000001 s (State.calBusy s d) := by
  unfold State.calBusy
  repeat' first
    | with_reducible exact Frame.rfl _ _
    | with_reducible apply Frame.ite
    | with_reducible apply Frame.ite2
    | with_reducible apply Frame.wrij (by decide)
    | (split <;> try (rename_i hq; have e := congrArg Prod.snd hq; dsimp only at e; subst e))
    | dsimp only
    | with_reducible intro _ _

theorem State.calTake_frame (s : State) (d a : Nat) (c : CalReading) : Frame 0xc0000000400000000001 s (State.calTake s d a c) := by
  unfold State.calTake
  repeat' first
    | with_reducible exact Frame.rfl _ _
    | with_reducible apply Frame.ite
    | with_reducible apply Frame.ite2
    | with_reducible apply Frame.comp (State.pathM_frame ..) (by decide)
    | with_reducible apply Frame.wrij (by decide)
    | with_reducible apply Frame.foldl
    | with_reducible apply Frame.foldl2
    | (split <;> try (rename_i hq; have e := congrArg Prod.snd hq; dsimp only at e; subst e))
    | dsimp only
    | with_reducible intro _ _

theorem execCalibration_frame (die adc : Fin 2) (res : CalReading) (s : State) : FrameO 0x200c0080080700000000401 s (execCalibration die adc res s) := by
  unfold execCalibration
  repeat' first
    | with_reducible exact Frame.rfl _ _
    | with_reducible apply FrameO.powered
    | with_reducible apply FrameO.ok
    | with_reducible apply FrameO.next
    | with_reducible apply FrameO.ite
    | with_reducible apply Frame.ite
    | with_reducible apply Frame.ite2
    | with_reducible apply Frame.comp (State.adcM_frame ..) (by decide)
    | with_reducible apply Frame.comp (State.calBusy_frame ..) (by decide)
    | with_reducible apply Frame.comp (State.calTake_frame ..) (by decide)
    | with_reducible apply Frame.comp (State.raise_frame ..) (by decide)
    | with_reducible apply Frame.comp (State.adcNext_frame ..) (by decide)
    | (split <;> try (rename_i hq; have e := congrArg Prod.snd hq; dsimp only at e; subst e))
    | dsimp only
    | with_reducible intro _ _

theorem execCal_frame (die : Fin 2) (s : State) : FrameO 0x400000000000 s (execCal die s) := by
  unfold execCal
  repeat' first
    | with_reducible exact Frame.rfl _ _
    | with_reducible apply FrameO.powered
    | with_reducible apply FrameO.ok
    | with_reducible apply FrameO.next
    | with_reducible apply FrameO.ite
    | with_reducible apply Frame.ite
    | with_reducible apply Frame.ite2
    | with_reducible apply Frame.comp (State.adcM_frame ..) (by decide)
    | with_reducible apply Frame.foldl
    | with_reducible apply Frame.foldl2
    | (split <;> try (rename_i hq; have e := congrArg Prod.snd hq; dsimp only at e; subst e))
    | dsimp only
    | with_reducible intro _ _

theorem execRefOkChange_frame (die : Fin 2) (good : Bool) (s : State) : FrameO 0x200c0000080000000000401 s (execRefOkChange die good s) := by
  unfold execRefOkChange
  repeat' first
    | with_reducible exact Frame.rfl _ _
    | with_reducible apply FrameO.powered
    | with_reducible apply FrameO.ok
    | with_reducible apply FrameO.next
    | with_reducible apply FrameO.ite
    | with_reducible apply Frame.ite
    | with_reducible apply Frame.ite2
    | with_reducible apply Frame.comp (State.raiseIf_frame ..) (by decide)
    | with_reducible apply Frame.wrij (by decide)
    | (split <;> try (rename_i hq; have e := congrArg Prod.snd hq; dsimp only at e; subst e))
    | dsimp only
    | with_reducible intro _ _

theorem State.fastSrcOn_frame (s : State) (d i : Nat) : Frame 0xc0000000000000000001 s (State.fastSrcOn s d i) := by
  unfold State.fastSrcOn
  repeat' first
    | with_reducible exact Frame.rfl _ _
    | with_reducible apply Frame.ite
    | with_reducible apply Frame.comp (State.srcOn_frame ..) (by decide)
    | (split <;> try (rename_i hq; have e := congrArg Prod.snd hq; dsimp only at e; subst e))
    | dsimp only
    | with_reducible intro _ _

theorem State.chanOff_frame (s : State) (d i : Nat) : Frame 0xc0000000400000000001 s (State.chanOff s d i) := by
  unfold State.chanOff
  repeat' first
    | with_reducible exact Frame.rfl _ _
    | with_reducible apply Frame.ite
    | with_reducible apply Frame.ite2
    | with_reducible apply Frame.comp (State.afeChM_frame ..) (by decide)
    | with_reducible apply Frame.comp (State.srcOff_frame ..) (by decide)
    | with_reducible apply Frame.comp (State.pathM_frame ..) (by decide)
    | (split <;> try (rename_i hq; have e := congrArg Prod.snd hq; dsimp only at e; subst e))
    | dsimp only
    | with_reducible intro _ _

theorem State.chanOn_frame (s : State) (d i : Nat) : Frame 0xc0000000400000000001 s (State.chanOn s d i) := by
  unfold State.chanOn
  repeat' first
    | with_reducible exact Frame.rfl _ _
    | with_reducible apply Frame.ite
    | with_reducible apply Frame.ite2
    | with_reducible apply Frame.comp (State.afeChM_frame ..) (by decide)
    | with_reducible apply Frame.comp (State.pathM_frame ..) (by decide)
    | with_reducible apply Frame.comp (State.fastSrcOn_frame ..) (by decide)
    | with_reducible apply Frame.comp (State.settleStart_frame ..) (by decide)
    | (split <;> try (rename_i hq; have e := congrArg Prod.snd hq; dsimp only at e; subst e))
    | dsimp only
    | with_reducible intro _ _

theorem State.afeRestart_frame (s : State) (d : Nat) : Frame 0x200c0080080700000000401 s (State.afeRestart s d) := by
  unfold State.afeRestart
  repeat' first
    | with_reducible exact Frame.rfl _ _
    | with_reducible apply Frame.ite
    | with_reducible apply Frame.ite2
    | with_reducible apply Frame.comp (State.pathM_frame ..) (by decide)
    | with_reducible apply Frame.comp (State.afeM_frame ..) (by decide)
    | with_reducible apply Frame.comp (State.fastSrcOn_frame ..) (by decide)
    | with_reducible apply Frame.comp (State.settleStart_frame ..) (by decide)
    | with_reducible apply Frame.comp (State.adcNext_frame ..) (by decide)
    | with_reducible apply Frame.comp (State.sineNext_frame ..) (by decide)
    | with_reducible apply Frame.wrij (by decide)
    | with_reducible apply Frame.foldl
    | with_reducible apply Frame.foldl2
    | (split <;> try (rename_i hq; have e := congrArg Prod.snd hq; dsimp only at e; subst e))
    | dsimp only
    | with_reducible intro _ _

theorem State.afeEnable_frame (s : State) (d v : Nat) : Frame 0x200c0080080700000000401 s (State.afeEnable s d v) := by
  unfold State.afeEnable
  repeat' first
    | with_reducible exact Frame.rfl _ _
    | with_reducible apply Frame.ite
    | with_reducible apply Frame.ite2
    | with_reducible apply Frame.comp (State.adcM_frame ..) (by decide)
    | with_reducible apply Frame.comp (State.srcOff_frame ..) (by decide)
    | with_reducible apply Frame.comp (State.afeM_frame ..) (by decide)
    | with_reducible apply Frame.comp (State.chanOn_frame ..) (by decide)
    | with_reducible apply Frame.comp (State.chanOff_frame ..) (by decide)
    | with_reducible apply Frame.comp (State.adcNext_frame ..) (by decide)
    | with_reducible apply Frame.comp (State.sineNext_frame ..) (by decide)
    | with_reducible apply Frame.wrij (by decide)
    | with_reducible apply Frame.foldl
    | with_reducible apply Frame.foldl2
    | (split <;> try (rename_i hq; have e := congrArg Prod.snd hq; dsimp only at e; subst e))
    | dsimp only
    | with_reducible intro _ _

theorem State.afeImage_frame (s : State) (d : Nat) : Frame 0xc0000000000000000001 s (State.afeImage s d) := by
  unfold State.afeImage
  repeat' first
    | with_reducible exact Frame.rfl _ _
    | with_reducible apply Frame.ite
    | with_reducible apply Frame.ite2
    | with_reducible apply Frame.wrij (by decide)
    | with_reducible apply Frame.foldl
    | with_reducible apply Frame.foldl2
    | (split <;> try (rename_i hq; have e := congrArg Prod.snd hq; dsimp only at e; subst e))
    | dsimp only
    | with_reducible intro _ _

theorem State.afeReset_frame (s : State) (d : Nat) : Frame 0x200c0080080700000000401 s (State.afeReset s d) := by
  unfold State.afeReset
  repeat' first
    | with_reducible exact Frame.rfl _ _
    | with_reducible apply Frame.ite
    | with_reducible apply Frame.ite2
    | with_reducible apply Frame.comp (State.afeM_frame ..) (by decide)
    | with_reducible apply Frame.comp (State.afeImage_frame ..) (by decide)
    | with_reducible apply Frame.comp (State.afeRestart_frame ..) (by decide)
    | with_reducible apply Frame.comp (State.adcM_frame ..) (by decide)
    | with_reducible apply Frame.wrij (by decide)
    | with_reducible apply Frame.foldl
    | with_reducible apply Frame.foldl2
    | (split <;> try (rename_i hq; have e := congrArg Prod.snd hq; dsimp only at e; subst e))
    | dsimp only
    | with_reducible intro _ _

theorem State.afeAmended_frame (s : State) (d i old : Nat) (gain timing : Bool) : Frame 0x200c0080080700000000401 s (State.afeAmended s d i old gain timing) := by
  unfold State.afeAmended
  repeat' first
    | with_reducible exact Frame.rfl _ _
    | with_reducible apply Frame.ite
    | with_reducible apply Frame.ite2
    | with_reducible apply Frame.comp (State.afeChM_frame ..) (by decide)
    | with_reducible apply Frame.comp (State.settleStart_frame ..) (by decide)
    | with_reducible apply Frame.comp (State.adcNext_frame ..) (by decide)
    | with_reducible apply Frame.wrij (by decide)
    | with_reducible apply Frame.foldl
    | with_reducible apply Frame.foldl2
    | (split <;> try (rename_i hq; have e := congrArg Prod.snd hq; dsimp only at e; subst e))
    | dsimp only
    | with_reducible intro _ _

theorem State.afeStepChan_frame (s : State) (ahead : Bool) (d i : Nat) : Frame 0x200c0000080400000000401 s (State.afeStepChan s ahead d i) := by
  unfold State.afeStepChan
  repeat' first
    | with_reducible exact Frame.rfl _ _
    | with_reducible apply Frame.ite
    | with_reducible apply Frame.ite2
    | with_reducible apply Frame.comp (State.afeChM_frame ..) (by decide)
    | with_reducible apply Frame.comp (State.scanLate_frame ..) (by decide)
    | (split <;> try (rename_i hq; have e := congrArg Prod.snd hq; dsimp only at e; subst e))
    | dsimp only
    | with_reducible intro _ _

theorem State.afeStep_frame (s : State) (delta : Int) : Frame 0x200c0000080400000000401 s (State.afeStep s delta) := by
  unfold State.afeStep
  repeat' first
    | with_reducible exact Frame.rfl _ _
    | with_reducible apply Frame.ite
    | with_reducible apply Frame.ite2
    | with_reducible apply Frame.comp (State.afeStepChan_frame ..) (by decide)
    | with_reducible apply Frame.foldl
    | with_reducible apply Frame.foldl2
    | (split <;> try (rename_i hq; have e := congrArg Prod.snd hq; dsimp only at e; subst e))
    | dsimp only
    | with_reducible intro _ _

end Sys2Proof.Machine
end

