-- ==== Sys2Proof/Laws/FrameFans.lean ====
section
/-! SUPPORT. The frames of the operations of Machine/Fans.lean. -/

set_option linter.unreachableTactic false
set_option linter.unusedTactic false

namespace Sys2Proof.Machine

open Sys2Proof

theorem State.fanM_frame (s : State) (n : Nat) (f : FanUnit → FanUnit) : Frame 0x4000000 s (State.fanM s n f) := by
  unfold State.fanM
  repeat' first
    | with_reducible exact Frame.rfl _ _
    | with_reducible apply Frame.ite
    | fail_if_no_progress with_reducible apply Frame.put_fans _ (by decide)
    | (split <;> try (rename_i hq; have e := congrArg Prod.snd hq; dsimp only at e; subst e))
    | dsimp only
    | with_reducible intro _ _
    | fail_if_no_progress apply Frame.put_fans _ (by decide)

theorem State.fanApply_frame (s : State) (n : Nat) : Frame 0x40000000000000001 s (State.fanApply s n) := by
  unfold State.fanApply
  repeat' first
    | with_reducible exact Frame.rfl _ _
    | with_reducible apply Frame.ite
    | with_reducible apply Frame.ite2
    | with_reducible apply Frame.wri (by decide)
    | (split <;> try (rename_i hq; have e := congrArg Prod.snd hq; dsimp only at e; subst e))
    | dsimp only
    | with_reducible intro _ _

theorem State.fansApply_frame (s : State) : Frame 0x40000000000000001 s (State.fansApply s) := by
  unfold State.fansApply
  repeat' first
    | with_reducible exact Frame.rfl _ _
    | with_reducible apply Frame.ite
    | with_reducible apply Frame.ite2
    | with_reducible apply Frame.comp (State.fanApply_frame ..) (by decide)
    | with_reducible apply Frame.foldl
    | with_reducible apply Frame.foldl2
    | (split <;> try (rename_i hq; have e := congrArg Prod.snd hq; dsimp only at e; subst e))
    | dsimp only
    | with_reducible intro _ _

theorem State.pronkStart_frame (s : State) (n : Nat) (r : CfgRec) : Frame 0x40000000004000001 s (State.pronkStart s n r) := by
  unfold State.pronkStart
  repeat' first
    | with_reducible exact Frame.rfl _ _
    | with_reducible apply Frame.ite
    | with_reducible apply Frame.ite2
    | with_reducible apply Frame.comp (State.fanM_frame ..) (by decide)
    | with_reducible apply Frame.comp (State.fanApply_frame ..) (by decide)
    | with_reducible apply Frame.wri (by decide)
    | (split <;> try (rename_i hq; have e := congrArg Prod.snd hq; dsimp only at e; subst e))
    | dsimp only
    | with_reducible intro _ _

theorem State.learnFail_frame (s : State) (n : Nat) : Frame 0x20000000080000004000401 s (State.learnFail s n) := by
  unfold State.learnFail
  repeat' first
    | with_reducible exact Frame.rfl _ _
    | with_reducible apply Frame.ite
    | with_reducible apply Frame.ite2
    | with_reducible apply Frame.comp (State.fanM_frame ..) (by decide)
    | with_reducible apply Frame.comp (State.raise_frame ..) (by decide)
    | (split <;> try (rename_i hq; have e := congrArg Prod.snd hq; dsimp only at e; subst e))
    | dsimp only
    | with_reducible intro _ _

theorem State.failedStart_frame (s : State) (n : Nat) (r : CfgRec) : Frame 0x20000040080000004000401 s (State.failedStart s n r) := by
  unfold State.failedStart
  repeat' first
    | with_reducible exact Frame.rfl _ _
    | with_reducible apply Frame.ite
    | with_reducible apply Frame.ite2
    | with_reducible apply Frame.comp (State.learnFail_frame ..) (by decide)
    | with_reducible apply Frame.comp (State.raise_frame ..) (by decide)
    | with_reducible apply Frame.comp (State.fanM_frame ..) (by decide)
    | with_reducible apply Frame.comp (State.fanApply_frame ..) (by decide)
    | with_reducible apply Frame.inci (by decide)
    | with_reducible apply Frame.wri (by decide)
    | (split <;> try (rename_i hq; have e := congrArg Prod.snd hq; dsimp only at e; subst e))
    | dsimp only
    | with_reducible intro _ _

theorem State.fanResume_frame (s : State) (n : Nat) : Frame 0x40000000004000001 s (State.fanResume s n) := by
  unfold State.fanResume
  repeat' first
    | with_reducible exact Frame.rfl _ _
    | with_reducible apply Frame.ite
    | with_reducible apply Frame.ite2
    | with_reducible apply Frame.comp (State.fanM_frame ..) (by decide)
    | with_reducible apply Frame.comp (State.fanApply_frame ..) (by decide)
    | with_reducible apply Frame.wri (by decide)
    | (split <;> try (rename_i hq; have e := congrArg Prod.snd hq; dsimp only at e; subst e))
    | dsimp only
    | with_reducible intro _ _

theorem State.fanAge_frame (s : State) (n : Nat) (r : CfgRec) : Frame 0x20000040080000004000401 s (State.fanAge s n r) := by
  unfold State.fanAge
  repeat' first
    | with_reducible exact Frame.rfl _ _
    | with_reducible apply Frame.ite
    | with_reducible apply Frame.ite2
    | with_reducible apply Frame.comp (State.fanM_frame ..) (by decide)
    | with_reducible apply Frame.comp (State.raiseIf_frame ..) (by decide)
    | with_reducible apply Frame.wri (by decide)
    | (split <;> try (rename_i hq; have e := congrArg Prod.snd hq; dsimp only at e; subst e))
    | dsimp only
    | with_reducible intro _ _

theorem execFanUpdate_frame (fan : Fin 8) (s : State) : FrameO 0x20000040080000004000401 s (execFanUpdate fan s) := by
  unfold execFanUpdate
  repeat' first
    | with_reducible exact Frame.rfl _ _
    | with_reducible apply FrameO.powered
    | with_reducible apply FrameO.ok
    | with_reducible apply FrameO.next
    | with_reducible apply FrameO.ite
    | with_reducible apply Frame.ite
    | with_reducible apply Frame.ite2
    | with_reducible apply Frame.comp (State.fanApply_frame ..) (by decide)
    | with_reducible apply Frame.comp (State.fanM_frame ..) (by decide)
    | with_reducible apply Frame.comp (State.pronkStart_frame ..) (by decide)
    | with_reducible apply Frame.comp (State.fanAge_frame ..) (by decide)
    | with_reducible apply Frame.wri (by decide)
    | (split <;> try (rename_i hq; have e := congrArg Prod.snd hq; dsimp only at e; subst e))
    | dsimp only
    | with_reducible intro _ _

theorem execTachEdge_frame (fan : Fin 8) (s : State) : FrameO 0x40000000004000001 s (execTachEdge fan s) := by
  unfold execTachEdge
  repeat' first
    | with_reducible exact Frame.rfl _ _
    | with_reducible apply FrameO.powered
    | with_reducible apply FrameO.ok
    | with_reducible apply FrameO.next
    | with_reducible apply FrameO.ite
    | with_reducible apply Frame.ite
    | with_reducible apply Frame.ite2
    | with_reducible apply Frame.comp (State.fanM_frame ..) (by decide)
    | with_reducible apply Frame.wri (by decide)
    | (split <;> try (rename_i hq; have e := congrArg Prod.snd hq; dsimp only at e; subst e))
    | dsimp only
    | with_reducible intro _ _

theorem execPronkEnd_frame (fan : Fin 8) (s : State) : FrameO 0x20000040080000004000401 s (execPronkEnd fan s) := by
  unfold execPronkEnd
  repeat' first
    | with_reducible exact Frame.rfl _ _
    | with_reducible apply FrameO.powered
    | with_reducible apply FrameO.ok
    | with_reducible apply FrameO.next
    | with_reducible apply FrameO.ite
    | with_reducible apply Frame.ite
    | with_reducible apply Frame.ite2
    | with_reducible apply Frame.comp (State.fanResume_frame ..) (by decide)
    | with_reducible apply Frame.comp (State.failedStart_frame ..) (by decide)
    | (split <;> try (rename_i hq; have e := congrArg Prod.snd hq; dsimp only at e; subst e))
    | dsimp only
    | with_reducible intro _ _

theorem execStallOffEnd_frame (fan : Fin 8) (s : State) : FrameO 0x40000000004000001 s (execStallOffEnd fan s) := by
  unfold execStallOffEnd
  repeat' first
    | with_reducible exact Frame.rfl _ _
    | with_reducible apply FrameO.powered
    | with_reducible apply FrameO.ok
    | with_reducible apply FrameO.next
    | with_reducible apply FrameO.ite
    | with_reducible apply Frame.ite
    | with_reducible apply Frame.ite2
    | with_reducible apply Frame.comp (State.pronkStart_frame ..) (by decide)
    | with_reducible apply Frame.inci (by decide)
    | (split <;> try (rename_i hq; have e := congrArg Prod.snd hq; dsimp only at e; subst e))
    | dsimp only
    | with_reducible intro _ _

theorem State.tachLost_frame (s : State) (n : Nat) : Frame 0x20000040080000004000401 s (State.tachLost s n) := by
  unfold State.tachLost
  repeat' first
    | with_reducible exact Frame.rfl _ _
    | with_reducible apply Frame.ite
    | with_reducible apply Frame.ite2
    | with_reducible apply Frame.comp (State.learnFail_frame ..) (by decide)
    | with_reducible apply Frame.comp (State.fanM_frame ..) (by decide)
    | with_reducible apply Frame.comp (State.raise_frame ..) (by decide)
    | with_reducible apply Frame.comp (State.fanApply_frame ..) (by decide)
    | with_reducible apply Frame.wri (by decide)
    | (split <;> try (rename_i hq; have e := congrArg Prod.snd hq; dsimp only at e; subst e))
    | dsimp only
    | with_reducible intro _ _

theorem execTachLost_frame (fan : Fin 8) (s : State) : FrameO 0x20000040080000004000401 s (execTachLost fan s) := by
  unfold execTachLost
  repeat' first
    | with_reducible exact Frame.rfl _ _
    | with_reducible apply FrameO.powered
    | with_reducible apply FrameO.ok
    | with_reducible apply FrameO.next
    | with_reducible apply FrameO.ite
    | with_reducible apply Frame.ite
    | with_reducible apply Frame.ite2
    | with_reducible apply Frame.comp (State.tachLost_frame ..) (by decide)
    | with_reducible apply Frame.comp (State.failedStart_frame ..) (by decide)
    | (split <;> try (rename_i hq; have e := congrArg Prod.snd hq; dsimp only at e; subst e))
    | dsimp only
    | with_reducible intro _ _

theorem execPronk_frame (mask : BitVec 8) (s : State) : FrameO 0x40000000004000001 s (execPronk mask s) := by
  unfold execPronk
  repeat' first
    | with_reducible exact Frame.rfl _ _
    | with_reducible apply FrameO.powered
    | with_reducible apply FrameO.ok
    | with_reducible apply FrameO.next
    | with_reducible apply FrameO.ite
    | with_reducible apply Frame.ite
    | with_reducible apply Frame.ite2
    | with_reducible apply Frame.comp (State.pronkStart_frame ..) (by decide)
    | with_reducible apply Frame.foldl
    | with_reducible apply Frame.foldl2
    | (split <;> try (rename_i hq; have e := congrArg Prod.snd hq; dsimp only at e; subst e))
    | dsimp only
    | with_reducible intro _ _

theorem execLearn_frame (mask : BitVec 8) (s : State) : FrameO 0x40000000004000001 s (execLearn mask s) := by
  unfold execLearn
  repeat' first
    | with_reducible exact Frame.rfl _ _
    | with_reducible apply FrameO.powered
    | with_reducible apply FrameO.ok
    | with_reducible apply FrameO.next
    | with_reducible apply FrameO.ite
    | with_reducible apply Frame.ite
    | with_reducible apply Frame.ite2
    | with_reducible apply Frame.comp (State.fanM_frame ..) (by decide)
    | with_reducible apply Frame.comp (State.fanApply_frame ..) (by decide)
    | with_reducible apply Frame.wri (by decide)
    | with_reducible apply Frame.foldl
    | with_reducible apply Frame.foldl2
    | (split <;> try (rename_i hq; have e := congrArg Prod.snd hq; dsimp only at e; subst e))
    | dsimp only
    | with_reducible intro _ _

theorem execLearnHoldEnd_frame (fan : Fin 8) (s : State) : FrameO 0x20000040080000004000401 s (execLearnHoldEnd fan s) := by
  unfold execLearnHoldEnd
  repeat' first
    | with_reducible exact Frame.rfl _ _
    | with_reducible apply FrameO.powered
    | with_reducible apply FrameO.ok
    | with_reducible apply FrameO.next
    | with_reducible apply FrameO.ite
    | with_reducible apply Frame.ite
    | with_reducible apply Frame.ite2
    | with_reducible apply Frame.comp (State.learnFail_frame ..) (by decide)
    | with_reducible apply Frame.comp (State.fanResume_frame ..) (by decide)
    | with_reducible apply Frame.comp (State.fanM_frame ..) (by decide)
    | with_reducible apply Frame.comp (State.fanApply_frame ..) (by decide)
    | with_reducible apply Frame.comp (State.raise_frame ..) (by decide)
    | with_reducible apply Frame.wrij (by decide)
    | with_reducible apply Frame.foldl
    | with_reducible apply Frame.foldl2
    | (split <;> try (rename_i hq; have e := congrArg Prod.snd hq; dsimp only at e; subst e))
    | dsimp only
    | with_reducible intro _ _

theorem execStallLatchedClear_frame (fan : Fin 8) (s : State) : FrameO 0x40000000004000001 s (execStallLatchedClear fan s) := by
  unfold execStallLatchedClear
  repeat' first
    | with_reducible exact Frame.rfl _ _
    | with_reducible apply FrameO.powered
    | with_reducible apply FrameO.ok
    | with_reducible apply FrameO.next
    | with_reducible apply FrameO.ite
    | with_reducible apply Frame.ite
    | with_reducible apply Frame.ite2
    | with_reducible apply Frame.comp (State.pronkStart_frame ..) (by decide)
    | with_reducible apply Frame.comp (State.fanResume_frame ..) (by decide)
    | with_reducible apply Frame.wri (by decide)
    | (split <;> try (rename_i hq; have e := congrArg Prod.snd hq; dsimp only at e; subst e))
    | dsimp only
    | with_reducible intro _ _

theorem execTachLostClear_frame (fan : Fin 8) (s : State) : FrameO 0x40000000004000001 s (execTachLostClear fan s) := by
  unfold execTachLostClear
  repeat' first
    | with_reducible exact Frame.rfl _ _
    | with_reducible apply FrameO.powered
    | with_reducible apply FrameO.ok
    | with_reducible apply FrameO.next
    | with_reducible apply FrameO.ite
    | with_reducible apply Frame.ite
    | with_reducible apply Frame.ite2
    | with_reducible apply Frame.comp (State.pronkStart_frame ..) (by decide)
    | with_reducible apply Frame.comp (State.fanResume_frame ..) (by decide)
    | with_reducible apply Frame.wri (by decide)
    | (split <;> try (rename_i hq; have e := congrArg Prod.snd hq; dsimp only at e; subst e))
    | dsimp only
    | with_reducible intro _ _

theorem State.fanEnable_frame (s : State) (v : Nat) : Frame 0x20000040080000004000401 s (State.fanEnable s v) := by
  unfold State.fanEnable
  repeat' first
    | with_reducible exact Frame.rfl _ _
    | with_reducible apply Frame.ite
    | with_reducible apply Frame.ite2
    | with_reducible apply Frame.comp (State.learnFail_frame ..) (by decide)
    | with_reducible apply Frame.comp (State.fanM_frame ..) (by decide)
    | with_reducible apply Frame.comp (State.fansApply_frame ..) (by decide)
    | with_reducible apply Frame.wr (by decide)
    | with_reducible apply Frame.wri (by decide)
    | with_reducible apply Frame.foldl
    | with_reducible apply Frame.foldl2
    | (split <;> try (rename_i hq; have e := congrArg Prod.snd hq; dsimp only at e; subst e))
    | dsimp only
    | with_reducible intro _ _

theorem State.fanImage_frame (s : State) : Frame 0x40000000004000001 s (State.fanImage s) := by
  unfold State.fanImage
  repeat' first
    | with_reducible exact Frame.rfl _ _
    | with_reducible apply Frame.ite
    | with_reducible apply Frame.ite2
    | with_reducible apply Frame.comp (State.fanM_frame ..) (by decide)
    | with_reducible apply Frame.wr (by decide)
    | with_reducible apply Frame.wri (by decide)
    | with_reducible apply Frame.foldl
    | with_reducible apply Frame.foldl2
    | (split <;> try (rename_i hq; have e := congrArg Prod.snd hq; dsimp only at e; subst e))
    | dsimp only
    | with_reducible intro _ _

theorem State.fanBaseImage_frame (s : State) : Frame 0x40000000000000001 s (State.fanBaseImage s) := by
  unfold State.fanBaseImage
  repeat' first
    | with_reducible exact Frame.rfl _ _
    | with_reducible apply Frame.ite
    | with_reducible apply Frame.ite2
    | with_reducible apply Frame.wrij (by decide)
    | with_reducible apply Frame.foldl
    | with_reducible apply Frame.foldl2
    | (split <;> try (rename_i hq; have e := congrArg Prod.snd hq; dsimp only at e; subst e))
    | dsimp only
    | with_reducible intro _ _

theorem State.fanReset_frame (s : State) : Frame 0x40000000004000001 s (State.fanReset s) := by
  unfold State.fanReset
  repeat' first
    | with_reducible exact Frame.rfl _ _
    | with_reducible apply Frame.ite
    | with_reducible apply Frame.ite2
    | with_reducible apply Frame.comp (State.fanImage_frame ..) (by decide)
    | with_reducible apply Frame.comp (State.fanM_frame ..) (by decide)
    | with_reducible apply Frame.comp (State.pronkStart_frame ..) (by decide)
    | with_reducible apply Frame.comp (State.fanResume_frame ..) (by decide)
    | with_reducible apply Frame.wri (by decide)
    | with_reducible apply Frame.foldl
    | with_reducible apply Frame.foldl2
    | (split <;> try (rename_i hq; have e := congrArg Prod.snd hq; dsimp only at e; subst e))
    | dsimp only
    | with_reducible intro _ _

end Sys2Proof.Machine
end

