-- ==== Sys2Proof/Laws/FrameChain.lean ====
section
/-! SUPPORT. The frames of the operations of Machine/Chain.lean. -/

set_option linter.unreachableTactic false
set_option linter.unusedTactic false

namespace Sys2Proof.Machine

open Sys2Proof

theorem State.linkM_frame (s : State) (n : Nat) (f : ChainLink → ChainLink) : Frame 0x800000 s (State.linkM s n f) := by
  unfold State.linkM
  repeat' first
    | with_reducible exact Frame.rfl _ _
    | with_reducible apply Frame.ite
    | fail_if_no_progress with_reducible apply Frame.put_links _ (by decide)
    | (split <;> try (rename_i hq; have e := congrArg Prod.snd hq; dsimp only at e; subst e))
    | dsimp only
    | with_reducible intro _ _
    | fail_if_no_progress apply Frame.put_links _ (by decide)

theorem execOutboundFrame_frame (link : Fin 2) (s : State) : FrameO 0x300000080000002800001 s (execOutboundFrame link s) := by
  unfold execOutboundFrame
  repeat' first
    | with_reducible exact Frame.rfl _ _
    | with_reducible apply FrameO.powered
    | with_reducible apply FrameO.ok
    | with_reducible apply FrameO.next
    | with_reducible apply FrameO.ite
    | with_reducible apply Frame.ite
    | with_reducible apply Frame.ite2
    | with_reducible apply Frame.comp (State.fioCommands_frame ..) (by decide)
    | with_reducible apply Frame.comp (State.linkM_frame ..) (by decide)
    | with_reducible apply Frame.comp (State.emit_frame ..) (by decide)
    | (split <;> try (rename_i hq; have e := congrArg Prod.snd hq; dsimp only at e; subst e))
    | dsimp only
    | with_reducible intro _ _

theorem State.dieApply_frame (s : State) (d : Nat) (f : OutFrame) : Frame 0x203c0080080700001000401 s (State.dieApply s d f) := by
  unfold State.dieApply
  repeat' first
    | with_reducible exact Frame.rfl _ _
    | with_reducible apply Frame.ite
    | with_reducible apply Frame.ite2
    | with_reducible apply Frame.comp (State.dieM_frame ..) (by decide)
    | with_reducible apply Frame.comp (State.afeRestart_frame ..) (by decide)
    | with_reducible apply Frame.comp (State.outRefresh_frame ..) (by decide)
    | with_reducible apply Frame.wrij (by decide)
    | with_reducible apply Frame.foldl
    | with_reducible apply Frame.foldl2
    | (split <;> try (rename_i hq; have e := congrArg Prod.snd hq; dsimp only at e; subst e))
    | dsimp only
    | with_reducible intro _ _

theorem execFieldDieFrameReceive_frame (link : Fin 2) (aligned crcOk : Bool) (s : State) : FrameO 0x203c00c0080700001800401 s (execFieldDieFrameReceive link aligned crcOk s) := by
  unfold execFieldDieFrameReceive
  repeat' first
    | with_reducible exact Frame.rfl _ _
    | with_reducible apply FrameO.powered
    | with_reducible apply FrameO.ok
    | with_reducible apply FrameO.next
    | with_reducible apply FrameO.ite
    | with_reducible apply Frame.ite
    | with_reducible apply Frame.ite2
    | with_reducible apply Frame.comp (State.linkM_frame ..) (by decide)
    | with_reducible apply Frame.comp (State.dieM_frame ..) (by decide)
    | with_reducible apply Frame.comp (State.dieApply_frame ..) (by decide)
    | with_reducible apply Frame.comp (State.fansApply_frame ..) (by decide)
    | (split <;> try (rename_i hq; have e := congrArg Prod.snd hq; dsimp only at e; subst e))
    | dsimp only
    | with_reducible intro _ _

theorem execInboundFrameSend_frame (die : Fin 2) (s : State) : FrameO 0x80000001800000 s (execInboundFrameSend die s) := by
  unfold execInboundFrameSend
  repeat' first
    | with_reducible exact Frame.rfl _ _
    | with_reducible apply FrameO.powered
    | with_reducible apply FrameO.ok
    | with_reducible apply FrameO.next
    | with_reducible apply FrameO.ite
    | with_reducible apply Frame.ite
    | with_reducible apply Frame.ite2
    | with_reducible apply Frame.comp (State.linkM_frame ..) (by decide)
    | with_reducible apply Frame.comp (State.dieM_frame ..) (by decide)
    | with_reducible apply Frame.comp (State.emit_frame ..) (by decide)
    | (split <;> try (rename_i hq; have e := congrArg Prod.snd hq; dsimp only at e; subst e))
    | dsimp only
    | with_reducible intro _ _

theorem execInboundFrame_frame (link : Fin 2) (aligned crcOk : Bool) (s : State) : FrameO 0x20400000081801000800401 s (execInboundFrame link aligned crcOk s) := by
  unfold execInboundFrame
  repeat' first
    | with_reducible exact Frame.rfl _ _
    | with_reducible apply FrameO.powered
    | with_reducible apply FrameO.ok
    | with_reducible apply FrameO.next
    | with_reducible apply FrameO.ite
    | with_reducible apply Frame.ite
    | with_reducible apply Frame.ite2
    | with_reducible apply Frame.comp (State.linkM_frame ..) (by decide)
    | with_reducible apply Frame.comp (State.raiseIf_frame ..) (by decide)
    | with_reducible apply Frame.comp (State.produce_frame ..) (by decide)
    | with_reducible apply Frame.comp (State.raise_frame ..) (by decide)
    | with_reducible apply Frame.inci (by decide)
    | with_reducible apply Frame.wri (by decide)
    | with_reducible apply Frame.foldl
    | with_reducible apply Frame.foldl2
    | (split <;> try (rename_i hq; have e := congrArg Prod.snd hq; dsimp only at e; subst e))
    | dsimp only
    | with_reducible intro _ _

theorem execLinkLost_frame (link : Fin 2) (s : State) : FrameO 0x20400020080000000800401 s (execLinkLost link s) := by
  unfold execLinkLost
  repeat' first
    | with_reducible exact Frame.rfl _ _
    | with_reducible apply FrameO.powered
    | with_reducible apply FrameO.ok
    | with_reducible apply FrameO.next
    | with_reducible apply FrameO.ite
    | with_reducible apply Frame.ite
    | with_reducible apply Frame.ite2
    | with_reducible apply Frame.comp (State.linkM_frame ..) (by decide)
    | with_reducible apply Frame.comp (State.raise_frame ..) (by decide)
    | with_reducible apply Frame.wr (by decide)
    | with_reducible apply Frame.wri (by decide)
    | (split <;> try (rename_i hq; have e := congrArg Prod.snd hq; dsimp only at e; subst e))
    | dsimp only
    | with_reducible intro _ _

theorem execSilenceTimeout_frame (die : Fin 2) (s : State) : FrameO 0x300040000000001000001 s (execSilenceTimeout die s) := by
  unfold execSilenceTimeout
  repeat' first
    | with_reducible exact Frame.rfl _ _
    | with_reducible apply FrameO.powered
    | with_reducible apply FrameO.ok
    | with_reducible apply FrameO.next
    | with_reducible apply FrameO.ite
    | with_reducible apply Frame.ite
    | with_reducible apply Frame.ite2
    | with_reducible apply Frame.comp (State.enterSafe_frame ..) (by decide)
    | with_reducible apply Frame.comp (State.dieM_frame ..) (by decide)
    | with_reducible apply Frame.comp (State.fansApply_frame ..) (by decide)
    | (split <;> try (rename_i hq; have e := congrArg Prod.snd hq; dsimp only at e; subst e))
    | dsimp only
    | with_reducible intro _ _

theorem execResume_frame (link : Fin 2) (s : State) : FrameO 0x800000 s (execResume link s) := by
  unfold execResume
  repeat' first
    | with_reducible exact Frame.rfl _ _
    | with_reducible apply FrameO.powered
    | with_reducible apply FrameO.ok
    | with_reducible apply FrameO.next
    | with_reducible apply FrameO.ite
    | with_reducible apply Frame.ite
    | with_reducible apply Frame.ite2
    | with_reducible apply Frame.comp (State.linkM_frame ..) (by decide)
    | (split <;> try (rename_i hq; have e := congrArg Prod.snd hq; dsimp only at e; subst e))
    | dsimp only
    | with_reducible intro _ _

theorem execAutoResume_frame (link : Fin 2) (s : State) : FrameO 0x800000 s (execAutoResume link s) := by
  unfold execAutoResume
  repeat' first
    | with_reducible exact Frame.rfl _ _
    | with_reducible apply FrameO.powered
    | with_reducible apply FrameO.ok
    | with_reducible apply FrameO.next
    | with_reducible apply FrameO.ite
    | with_reducible apply Frame.ite
    | with_reducible apply Frame.ite2
    | with_reducible apply Frame.comp (State.linkM_frame ..) (by decide)
    | (split <;> try (rename_i hq; have e := congrArg Prod.snd hq; dsimp only at e; subst e))
    | dsimp only
    | with_reducible intro _ _

theorem State.chainReset1_frame (s : State) (n : Nat) : Frame 0x700000000000001800001 s (State.chainReset1 s n) := by
  unfold State.chainReset1
  repeat' first
    | with_reducible exact Frame.rfl _ _
    | with_reducible apply Frame.ite
    | with_reducible apply Frame.ite2
    | with_reducible apply Frame.comp (State.enterSafe_frame ..) (by decide)
    | with_reducible apply Frame.comp (State.dieM_frame ..) (by decide)
    | with_reducible apply Frame.comp (State.linkM_frame ..) (by decide)
    | with_reducible apply Frame.wri (by decide)
    | (split <;> try (rename_i hq; have e := congrArg Prod.snd hq; dsimp only at e; subst e))
    | dsimp only
    | with_reducible intro _ _

theorem execChainReset_frame (mask : BitVec 2) (s : State) : FrameO 0x700040000000001800001 s (execChainReset mask s) := by
  unfold execChainReset
  repeat' first
    | with_reducible exact Frame.rfl _ _
    | with_reducible apply FrameO.powered
    | with_reducible apply FrameO.ok
    | with_reducible apply FrameO.next
    | with_reducible apply FrameO.ite
    | with_reducible apply Frame.ite
    | with_reducible apply Frame.ite2
    | with_reducible apply Frame.comp (State.chainReset1_frame ..) (by decide)
    | with_reducible apply Frame.comp (State.fansApply_frame ..) (by decide)
    | with_reducible apply Frame.foldl
    | with_reducible apply Frame.foldl2
    | (split <;> try (rename_i hq; have e := congrArg Prod.snd hq; dsimp only at e; subst e))
    | dsimp only
    | with_reducible intro _ _

theorem State.trained_frame (s : State) (n : Nat) : Frame 0x400000000000001800001 s (State.trained s n) := by
  unfold State.trained
  repeat' first
    | with_reducible exact Frame.rfl _ _
    | with_reducible apply Frame.ite
    | with_reducible apply Frame.ite2
    | with_reducible apply Frame.comp (State.linkM_frame ..) (by decide)
    | with_reducible apply Frame.comp (State.dieM_frame ..) (by decide)
    | with_reducible apply Frame.wri (by decide)
    | (split <;> try (rename_i hq; have e := congrArg Prod.snd hq; dsimp only at e; subst e))
    | dsimp only
    | with_reducible intro _ _

theorem execLinkTrainingComplete_frame (link : Fin 2) (s : State) : FrameO 0x400000000000001800001 s (execLinkTrainingComplete link s) := by
  unfold execLinkTrainingComplete
  repeat' first
    | with_reducible exact Frame.rfl _ _
    | with_reducible apply FrameO.powered
    | with_reducible apply FrameO.ok
    | with_reducible apply FrameO.next
    | with_reducible apply FrameO.ite
    | with_reducible apply Frame.ite
    | with_reducible apply Frame.ite2
    | with_reducible apply Frame.comp (State.trained_frame ..) (by decide)
    | (split <;> try (rename_i hq; have e := congrArg Prod.snd hq; dsimp only at e; subst e))
    | dsimp only
    | with_reducible intro _ _

theorem State.chainCommit_frame (s : State) : Frame 0x400000000000000000001 s (State.chainCommit s) := by
  unfold State.chainCommit
  repeat' first
    | with_reducible exact Frame.rfl _ _
    | with_reducible apply Frame.ite
    | with_reducible apply Frame.ite2
    | with_reducible apply Frame.wri (by decide)
    | with_reducible apply Frame.foldl
    | with_reducible apply Frame.foldl2
    | (split <;> try (rename_i hq; have e := congrArg Prod.snd hq; dsimp only at e; subst e))
    | dsimp only
    | with_reducible intro _ _

theorem execFclkStep_frame (s : State) : FrameO 0x480000000000001 s (execFclkStep s) := by
  unfold execFclkStep
  repeat' first
    | with_reducible exact Frame.rfl _ _
    | with_reducible apply FrameO.powered
    | with_reducible apply FrameO.ok
    | with_reducible apply FrameO.next
    | with_reducible apply FrameO.ite
    | with_reducible apply Frame.ite
    | with_reducible apply Frame.ite2
    | with_reducible apply Frame.comp (State.emit_frame ..) (by decide)
    | with_reducible apply Frame.wr (by decide)
    | (split <;> try (rename_i hq; have e := congrArg Prod.snd hq; dsimp only at e; subst e))
    | dsimp only
    | with_reducible intro _ _

end Sys2Proof.Machine
end

