-- ==== Sys2Proof/Laws/FrameThermal.lean ====
section
/-! SUPPORT. The frames of the operations of Machine/Thermal.lean. -/

set_option linter.unreachableTactic false
set_option linter.unusedTactic false

namespace Sys2Proof.Machine

open Sys2Proof

theorem State.thmM_frame (s : State) (f : ThmUnit → ThmUnit) : Frame 0x8000000 s (State.thmM s f) := by
  unfold State.thmM
  repeat' first
    | with_reducible exact Frame.rfl _ _
    | with_reducible apply Frame.ite
    | fail_if_no_progress with_reducible apply Frame.put_thm _ (by decide)
    | (split <;> try (rename_i hq; have e := congrArg Prod.snd hq; dsimp only at e; subst e))
    | dsimp only
    | with_reducible intro _ _
    | fail_if_no_progress apply Frame.put_thm _ (by decide)

theorem State.groupValues_frame (s : State) (g : Nat) : Frame 0x20000000008000001 s (State.groupValues s g) := by
  unfold State.groupValues
  repeat' first
    | with_reducible exact Frame.rfl _ _
    | with_reducible apply Frame.ite
    | with_reducible apply Frame.ite2
    | with_reducible apply Frame.comp (State.thmM_frame ..) (by decide)
    | with_reducible apply Frame.wri (by decide)
    | with_reducible apply Frame.foldl
    | with_reducible apply Frame.foldl2
    | (split <;> try (rename_i hq; have e := congrArg Prod.snd hq; dsimp only at e; subst e))
    | dsimp only
    | with_reducible intro _ _

theorem State.enforce_frame (s : State) (k : Nat) : Frame 0x20000020480000000000401 s (State.enforce s k) := by
  unfold State.enforce
  repeat' first
    | with_reducible exact Frame.rfl _ _
    | with_reducible apply Frame.ite
    | with_reducible apply Frame.ite2
    | with_reducible apply Frame.comp (State.raise_frame ..) (by decide)
    | with_reducible apply Frame.wr (by decide)
    | (split <;> try (rename_i hq; have e := congrArg Prod.snd hq; dsimp only at e; subst e))
    | dsimp only
    | with_reducible intro _ _

theorem State.requestUpdate_frame (s : State) : Frame 0x20000020480000008000401 s (State.requestUpdate s) := by
  unfold State.requestUpdate
  repeat' first
    | with_reducible exact Frame.rfl _ _
    | with_reducible apply Frame.ite
    | with_reducible apply Frame.ite2
    | with_reducible apply Frame.comp (State.thmM_frame ..) (by decide)
    | with_reducible apply Frame.comp (State.raise_frame ..) (by decide)
    | with_reducible apply Frame.comp (State.enforce_frame ..) (by decide)
    | with_reducible apply Frame.wr (by decide)
    | (split <;> try (rename_i hq; have e := congrArg Prod.snd hq; dsimp only at e; subst e))
    | dsimp only
    | with_reducible intro _ _

theorem State.warnAny_frame (s : State) : Frame 0x20000000000000001 s (State.warnAny s) := by
  unfold State.warnAny
  repeat' first
    | with_reducible exact Frame.rfl _ _
    | with_reducible apply Frame.ite
    | with_reducible apply Frame.ite2
    | with_reducible apply Frame.wr (by decide)
    | (split <;> try (rename_i hq; have e := congrArg Prod.snd hq; dsimp only at e; subst e))
    | dsimp only
    | with_reducible intro _ _

theorem State.groupJudge_frame (s : State) (g : Nat) : Frame 0x20000020480000008000401 s (State.groupJudge s g) := by
  unfold State.groupJudge
  repeat' first
    | with_reducible exact Frame.rfl _ _
    | with_reducible apply Frame.ite
    | with_reducible apply Frame.ite2
    | with_reducible apply Frame.comp (State.raiseIf_frame ..) (by decide)
    | with_reducible apply Frame.comp (State.thmM_frame ..) (by decide)
    | with_reducible apply Frame.comp (State.warnAny_frame ..) (by decide)
    | with_reducible apply Frame.comp (State.requestUpdate_frame ..) (by decide)
    | with_reducible apply Frame.wri (by decide)
    | with_reducible apply Frame.foldl
    | with_reducible apply Frame.foldl2
    | (split <;> try (rename_i hq; have e := congrArg Prod.snd hq; dsimp only at e; subst e))
    | dsimp only
    | with_reducible intro _ _

theorem State.sensFail_frame (s : State) (k : Nat) : Frame 0x20000020080000008000401 s (State.sensFail s k) := by
  unfold State.sensFail
  repeat' first
    | with_reducible exact Frame.rfl _ _
    | with_reducible apply Frame.ite
    | with_reducible apply Frame.ite2
    | with_reducible apply Frame.comp (State.raise_frame ..) (by decide)
    | with_reducible apply Frame.comp (State.thmM_frame ..) (by decide)
    | with_reducible apply Frame.comp (State.raiseIf_frame ..) (by decide)
    | with_reducible apply Frame.wr (by decide)
    | with_reducible apply Frame.wri (by decide)
    | (split <;> try (rename_i hq; have e := congrArg Prod.snd hq; dsimp only at e; subst e))
    | dsimp only
    | with_reducible intro _ _

theorem State.shutdown_frame (s : State) (g k : Nat) : Frame 0x203001dc080318081c00c07 s (State.shutdown s g k) := by
  unfold State.shutdown
  repeat' first
    | with_reducible exact Frame.rfl _ _
    | with_reducible apply Frame.ite
    | with_reducible apply Frame.ite2
    | with_reducible apply Frame.comp (State.nvWrite_frame ..) (by decide)
    | with_reducible apply Frame.comp (State.shutRecord_frame ..) (by decide)
    | with_reducible apply Frame.comp (State.linkM_frame ..) (by decide)
    | with_reducible apply Frame.comp (State.enterSafe_frame ..) (by decide)
    | with_reducible apply Frame.comp (State.dieM_frame ..) (by decide)
    | with_reducible apply Frame.comp (State.outRefresh_frame ..) (by decide)
    | with_reducible apply Frame.comp (State.fansApply_frame ..) (by decide)
    | with_reducible apply Frame.comp (State.padRefresh_frame ..) (by decide)
    | with_reducible apply Frame.wr (by decide)
    | fail_if_no_progress with_reducible apply Frame.put_loader_staged _ (by decide)
    | fail_if_no_progress with_reducible apply Frame.put_memu _ (by decide)
    | fail_if_no_progress with_reducible apply Frame.put_host_pcieUp _ (by decide)
    | fail_if_no_progress with_reducible apply Frame.put_host_halted _ (by decide)
    | with_reducible apply Frame.foldl
    | with_reducible apply Frame.foldl2
    | (split <;> try (rename_i hq; have e := congrArg Prod.snd hq; dsimp only at e; subst e))
    | dsimp only
    | with_reducible intro _ _
    | fail_if_no_progress apply Frame.put_loader_staged _ (by decide)
    | fail_if_no_progress apply Frame.put_memu _ (by decide)
    | fail_if_no_progress apply Frame.put_host_pcieUp _ (by decide)
    | fail_if_no_progress apply Frame.put_host_halted _ (by decide)

theorem State.shutJudge_frame (s : State) (g k : Nat) : Frame 0x203001dc080318089c00c07 s (State.shutJudge s g k) := by
  unfold State.shutJudge
  repeat' first
    | with_reducible exact Frame.rfl _ _
    | with_reducible apply Frame.ite
    | with_reducible apply Frame.ite2
    | with_reducible apply Frame.comp (State.thmM_frame ..) (by decide)
    | with_reducible apply Frame.comp (State.shutdown_frame ..) (by decide)
    | (split <;> try (rename_i hq; have e := congrArg Prod.snd hq; dsimp only at e; subst e))
    | dsimp only
    | with_reducible intro _ _

theorem execSensorSample_frame (sensor : Fin 32) (raw : BitVec 16) (bad : Bool) (s : State) : FrameO 0x203001fc480318089c00c07 s (execSensorSample sensor raw bad s) := by
  unfold execSensorSample
  repeat' first
    | with_reducible exact Frame.rfl _ _
    | with_reducible apply FrameO.powered
    | with_reducible apply FrameO.ok
    | with_reducible apply FrameO.next
    | with_reducible apply FrameO.ite
    | with_reducible apply Frame.ite
    | with_reducible apply Frame.ite2
    | with_reducible apply Frame.comp (State.thmM_frame ..) (by decide)
    | with_reducible apply Frame.comp (State.sensFail_frame ..) (by decide)
    | with_reducible apply Frame.comp (State.groupValues_frame ..) (by decide)
    | with_reducible apply Frame.comp (State.groupJudge_frame ..) (by decide)
    | with_reducible apply Frame.comp (State.shutJudge_frame ..) (by decide)
    | with_reducible apply Frame.wr (by decide)
    | with_reducible apply Frame.wri (by decide)
    | (split <;> try (rename_i hq; have e := congrArg Prod.snd hq; dsimp only at e; subst e))
    | dsimp only
    | with_reducible intro _ _

theorem execHoldExpiry_frame (group : Fin 4) (s : State) : FrameO 0x20000020480000008000401 s (execHoldExpiry group s) := by
  unfold execHoldExpiry
  repeat' first
    | with_reducible exact Frame.rfl _ _
    | with_reducible apply FrameO.powered
    | with_reducible apply FrameO.ok
    | with_reducible apply FrameO.next
    | with_reducible apply FrameO.ite
    | with_reducible apply Frame.ite
    | with_reducible apply Frame.ite2
    | with_reducible apply Frame.comp (State.requestUpdate_frame ..) (by decide)
    | with_reducible apply Frame.wri (by decide)
    | (split <;> try (rename_i hq; have e := congrArg Prod.snd hq; dsimp only at e; subst e))
    | dsimp only
    | with_reducible intro _ _

theorem State.floorDrop_frame (s : State) (g : Nat) : Frame 0x20000020480000008000401 s (State.floorDrop s g) := by
  unfold State.floorDrop
  repeat' first
    | with_reducible exact Frame.rfl _ _
    | with_reducible apply Frame.ite
    | with_reducible apply Frame.ite2
    | with_reducible apply Frame.comp (State.thmM_frame ..) (by decide)
    | with_reducible apply Frame.comp (State.requestUpdate_frame ..) (by decide)
    | with_reducible apply Frame.wri (by decide)
    | (split <;> try (rename_i hq; have e := congrArg Prod.snd hq; dsimp only at e; subst e))
    | dsimp only
    | with_reducible intro _ _

theorem execFloorExpiry_frame (group : Fin 4) (s : State) : FrameO 0x20000020480000008000401 s (execFloorExpiry group s) := by
  unfold execFloorExpiry
  repeat' first
    | with_reducible exact Frame.rfl _ _
    | with_reducible apply FrameO.powered
    | with_reducible apply FrameO.ok
    | with_reducible apply FrameO.next
    | with_reducible apply FrameO.ite
    | with_reducible apply Frame.ite
    | with_reducible apply Frame.ite2
    | with_reducible apply Frame.comp (State.floorDrop_frame ..) (by decide)
    | (split <;> try (rename_i hq; have e := congrArg Prod.snd hq; dsimp only at e; subst e))
    | dsimp only
    | with_reducible intro _ _

theorem execGraceEnd_frame (s : State) : FrameO 0x20000020480000000000401 s (execGraceEnd s) := by
  unfold execGraceEnd
  repeat' first
    | with_reducible exact Frame.rfl _ _
    | with_reducible apply FrameO.powered
    | with_reducible apply FrameO.ok
    | with_reducible apply FrameO.next
    | with_reducible apply FrameO.ite
    | with_reducible apply Frame.ite
    | with_reducible apply Frame.ite2
    | with_reducible apply Frame.comp (State.enforce_frame ..) (by decide)
    | with_reducible apply Frame.wr (by decide)
    | (split <;> try (rename_i hq; have e := congrArg Prod.snd hq; dsimp only at e; subst e))
    | dsimp only
    | with_reducible intro _ _

theorem execAccept_frame (s : State) : FrameO 0x20000020480000000000401 s (execAccept s) := by
  unfold execAccept
  repeat' first
    | with_reducible exact Frame.rfl _ _
    | with_reducible apply FrameO.powered
    | with_reducible apply FrameO.ok
    | with_reducible apply FrameO.next
    | with_reducible apply FrameO.ite
    | with_reducible apply Frame.ite
    | with_reducible apply Frame.ite2
    | with_reducible apply Frame.comp (State.enforce_frame ..) (by decide)
    | with_reducible apply Frame.wr (by decide)
    | (split <;> try (rename_i hq; have e := congrArg Prod.snd hq; dsimp only at e; subst e))
    | dsimp only
    | with_reducible intro _ _

theorem execSensfailClear_frame (value : Word) (s : State) : FrameO 0x20000020480000008000401 s (execSensfailClear value s) := by
  unfold execSensfailClear
  repeat' first
    | with_reducible exact Frame.rfl _ _
    | with_reducible apply FrameO.powered
    | with_reducible apply FrameO.ok
    | with_reducible apply FrameO.next
    | with_reducible apply FrameO.ite
    | with_reducible apply Frame.ite
    | with_reducible apply Frame.ite2
    | with_reducible apply Frame.comp (State.thmM_frame ..) (by decide)
    | with_reducible apply Frame.comp (State.groupValues_frame ..) (by decide)
    | with_reducible apply Frame.comp (State.floorDrop_frame ..) (by decide)
    | with_reducible apply Frame.wr (by decide)
    | with_reducible apply Frame.foldl
    | with_reducible apply Frame.foldl2
    | (split <;> try (rename_i hq; have e := congrArg Prod.snd hq; dsimp only at e; subst e))
    | dsimp only
    | with_reducible intro _ _

theorem State.thmReset_frame (s : State) : Frame 0x20000020480000008000401 s (State.thmReset s) := by
  unfold State.thmReset
  repeat' first
    | with_reducible exact Frame.rfl _ _
    | with_reducible apply Frame.ite
    | with_reducible apply Frame.ite2
    | with_reducible apply Frame.comp (State.thmM_frame ..) (by decide)
    | with_reducible apply Frame.comp (State.groupValues_frame ..) (by decide)
    | with_reducible apply Frame.comp (State.requestUpdate_frame ..) (by decide)
    | with_reducible apply Frame.wr (by decide)
    | with_reducible apply Frame.wri (by decide)
    | with_reducible apply Frame.foldl
    | with_reducible apply Frame.foldl2
    | (split <;> try (rename_i hq; have e := congrArg Prod.snd hq; dsimp only at e; subst e))
    | dsimp only
    | with_reducible intro _ _

end Sys2Proof.Machine
end

