-- ==== Sys2Proof/Laws/FramePlat.lean ====
section
/-! SUPPORT. The frames of the operations of Machine/Plat.lean. -/

set_option linter.unreachableTactic false
set_option linter.unusedTactic false

namespace Sys2Proof.Machine

open Sys2Proof

theorem State.parseAt_frame (s : State) (base avail : Nat) : Frame 0x20000008080000000000401 s (State.parseAt s base avail).2 := by
  unfold State.parseAt
  repeat' first
    | with_reducible exact Frame.rfl _ _
    | with_reducible apply Frame.ite
    | with_reducible apply Frame.ite2
    | with_reducible apply Frame.comp (State.memBytes_frame ..) (by decide)
    | (split <;> try (rename_i hq; have e := congrArg Prod.snd hq; dsimp only at e; subst e))
    | dsimp only
    | with_reducible intro _ _

theorem State.sumReason_frame (s : State) (reason : Nat) : Frame 0x4000000000000001 s (State.sumReason s reason) := by
  unfold State.sumReason
  repeat' first
    | with_reducible exact Frame.rfl _ _
    | with_reducible apply Frame.ite
    | with_reducible apply Frame.inc (by decide)
    | (split <;> try (rename_i hq; have e := congrArg Prod.snd hq; dsimp only at e; subst e))
    | dsimp only
    | with_reducible intro _ _

theorem State.reportOne_frame (s : State) (e : RepEntry) : Frame 0x20000004080000100000401 s (State.reportOne s e) := by
  unfold State.reportOne
  repeat' first
    | with_reducible exact Frame.rfl _ _
    | with_reducible apply Frame.ite
    | with_reducible apply Frame.ite2
    | with_reducible apply Frame.comp (State.sumReason_frame ..) (by decide)
    | with_reducible apply Frame.comp (State.report_frame ..) (by decide)
    | with_reducible apply Frame.comp (State.raiseIf_frame ..) (by decide)
    | with_reducible apply Frame.inc (by decide)
    | fail_if_no_progress with_reducible apply Frame.put_loader_report _ (by decide)
    | (split <;> try (rename_i hq; have e := congrArg Prod.snd hq; dsimp only at e; subst e))
    | dsimp only
    | with_reducible intro _ _
    | fail_if_no_progress apply Frame.put_loader_report _ (by decide)

theorem State.reportAll_frame (s : State) (l : List RepEntry) : Frame 0x20000004080000100000401 s (State.reportAll s l) := by
  unfold State.reportAll
  repeat' first
    | with_reducible exact Frame.rfl _ _
    | with_reducible apply Frame.ite
    | with_reducible apply Frame.comp (State.reportOne_frame ..) (by decide)
    | with_reducible apply Frame.foldl
    | with_reducible apply Frame.foldl2
    | (split <;> try (rename_i hq; have e := congrArg Prod.snd hq; dsimp only at e; subst e))
    | dsimp only
    | with_reducible intro _ _

theorem State.reportClear_frame (s : State) : Frame 0x4000000100000001 s (State.reportClear s) := by
  unfold State.reportClear
  repeat' first
    | with_reducible exact Frame.rfl _ _
    | with_reducible apply Frame.ite
    | with_reducible apply Frame.ite2
    | with_reducible apply Frame.setFld (by decide)
    | with_reducible apply Frame.wr (by decide)
    | fail_if_no_progress with_reducible apply Frame.put_loader_report _ (by decide)
    | (split <;> try (rename_i hq; have e := congrArg Prod.snd hq; dsimp only at e; subst e))
    | dsimp only
    | with_reducible intro _ _
    | fail_if_no_progress apply Frame.put_loader_report _ (by decide)

theorem State.fillWords_frame (n : Nat) (s : State) (a v : Nat) : Frame 0x8000000000000007 s (s.fillWords a v n) := by
  induction n generalizing s a with
  | zero =>
    unfold State.fillWords
    repeat' first
      | with_reducible exact Frame.rfl _ _
      | with_reducible apply Frame.ite
      | with_reducible apply Frame.ite2
      | with_reducible apply Frame.comp (State.memPut_frame ..) (by decide)
      | (split <;> try (rename_i hq; have e := congrArg Prod.snd hq; dsimp only at e; subst e))
      | dsimp only
      | with_reducible intro _ _
  | succ n ih =>
    unfold State.fillWords
    repeat' first
      | with_reducible apply Frame.comp (ih ..) (by decide)
      | with_reducible exact Frame.rfl _ _
      | with_reducible apply Frame.ite
      | with_reducible apply Frame.ite2
      | with_reducible apply Frame.comp (State.memPut_frame ..) (by decide)
      | (split <;> try (rename_i hq; have e := congrArg Prod.snd hq; dsimp only at e; subst e))
      | dsimp only
      | with_reducible intro _ _

theorem State.runFill_frame (s : State) (f : MemFill) : Frame 0x8000000000000007 s (State.runFill s f) := by
  unfold State.runFill
  repeat' first
    | with_reducible exact Frame.rfl _ _
    | with_reducible apply Frame.ite
    | with_reducible apply Frame.ite2
    | with_reducible apply Frame.comp (State.memPutBytes_frame ..) (by decide)
    | with_reducible apply Frame.comp (State.fillWords_frame ..) (by decide)
    | (split <;> try (rename_i hq; have e := congrArg Prod.snd hq; dsimp only at e; subst e))
    | dsimp only
    | with_reducible intro _ _

theorem State.runFills_frame (s : State) (l : List MemFill) : Frame 0x8000000000000007 s (State.runFills s l) := by
  unfold State.runFills
  repeat' first
    | with_reducible exact Frame.rfl _ _
    | with_reducible apply Frame.ite
    | with_reducible apply Frame.ite2
    | with_reducible apply Frame.comp (State.runFill_frame ..) (by decide)
    | with_reducible apply Frame.comp (State.mark_frame ..) (by decide)
    | with_reducible apply Frame.foldl
    | with_reducible apply Frame.foldl2
    | (split <;> try (rename_i hq; have e := congrArg Prod.snd hq; dsimp only at e; subst e))
    | dsimp only
    | with_reducible intro _ _

theorem State.pendingShow_frame (s : State) : Frame 0x4000000000000001 s (State.pendingShow s) := by
  unfold State.pendingShow
  repeat' first
    | with_reducible exact Frame.rfl _ _
    | with_reducible apply Frame.ite
    | with_reducible apply Frame.wr (by decide)
    | (split <;> try (rename_i hq; have e := congrArg Prod.snd hq; dsimp only at e; subst e))
    | dsimp only
    | with_reducible intro _ _

theorem State.queueAmends_frame (s : State) (l : List Amend) : Frame 0x4000000200000001 s (State.queueAmends s l) := by
  unfold State.queueAmends
  repeat' first
    | with_reducible exact Frame.rfl _ _
    | with_reducible apply Frame.ite
    | with_reducible apply Frame.ite2
    | with_reducible apply Frame.comp (State.pendingShow_frame ..) (by decide)
    | fail_if_no_progress with_reducible apply Frame.put_loader_pendingAmends _ (by decide)
    | (split <;> try (rename_i hq; have e := congrArg Prod.snd hq; dsimp only at e; subst e))
    | dsimp only
    | with_reducible intro _ _
    | fail_if_no_progress apply Frame.put_loader_pendingAmends _ (by decide)

theorem State.discardReport_frame (s : State) (reason : Nat) (l : List Amend) : Frame 0x20000004080000100000401 s (State.discardReport s reason l) := by
  unfold State.discardReport
  repeat' first
    | with_reducible exact Frame.rfl _ _
    | with_reducible apply Frame.ite
    | with_reducible apply Frame.ite2
    | with_reducible apply Frame.comp (State.reportAll_frame ..) (by decide)
    | with_reducible apply Frame.comp (State.raiseIf_frame ..) (by decide)
    | (split <;> try (rename_i hq; have e := congrArg Prod.snd hq; dsimp only at e; subst e))
    | dsimp only
    | with_reducible intro _ _

theorem State.discardUnit_frame (s : State) (own : CfgRec → Bool) : Frame 0x20000004080000720000401 s (State.discardUnit s own) := by
  unfold State.discardUnit
  repeat' first
    | with_reducible exact Frame.rfl _ _
    | with_reducible apply Frame.ite
    | with_reducible apply Frame.ite2
    | with_reducible apply Frame.comp (State.discardReport_frame ..) (by decide)
    | with_reducible apply Frame.comp (State.pendingShow_frame ..) (by decide)
    | (split <;> try (rename_i hq; have e := congrArg Prod.snd hq; dsimp only at e; subst e))
    | dsimp only
    | with_reducible intro _ _
    | (refine Frame.comp (k := 0x20000004080000720000401) (t := s) ⟨fun p hp => ?_, fun w => w⟩ (by decide) (Frame.rfl _ _); cases p <;> first | exact Eq.refl _ | exact fun _ _ => Eq.refl _ | exact fun _ _ _ => Eq.refl _ | exact absurd hp (by decide))

theorem State.readPointer_frame (s : State) : Frame 0x2000000c080000000000401 s (State.readPointer s).2 := by
  unfold State.readPointer
  repeat' first
    | with_reducible exact Frame.rfl _ _
    | with_reducible apply Frame.ite
    | with_reducible apply Frame.ite2
    | with_reducible apply Frame.comp (State.memRead_frame ..) (by decide)
    | with_reducible apply Frame.wr (by decide)
    | (split <;> try (rename_i hq; have e := congrArg Prod.snd hq; dsimp only at e; subst e))
    | dsimp only
    | with_reducible intro _ _

theorem State.nvPut_frame (s : State) (a v : Nat) : Frame 0x8080000000000007 s (State.nvPut s a v) := by
  unfold State.nvPut
  repeat' first
    | with_reducible exact Frame.rfl _ _
    | with_reducible apply Frame.ite
    | with_reducible apply Frame.ite2
    | with_reducible apply Frame.comp (State.memPut_frame ..) (by decide)
    | with_reducible apply Frame.comp (State.emit_frame ..) (by decide)
    | (split <;> try (rename_i hq; have e := congrArg Prod.snd hq; dsimp only at e; subst e))
    | dsimp only
    | with_reducible intro _ _

theorem State.nvPuts_frame (l : List Nat) (s : State) (a : Nat) : Frame 0x8080000000000007 s (s.nvPuts a l) := by
  induction l generalizing s a with
  | nil =>
    unfold State.nvPuts
    repeat' first
      | with_reducible exact Frame.rfl _ _
      | with_reducible apply Frame.ite
      | with_reducible apply Frame.ite2
      | with_reducible apply Frame.comp (State.nvPut_frame ..) (by decide)
      | (split <;> try (rename_i hq; have e := congrArg Prod.snd hq; dsimp only at e; subst e))
      | dsimp only
      | with_reducible intro _ _
  | cons x l ih =>
    unfold State.nvPuts
    repeat' first
      | with_reducible apply Frame.comp (ih ..) (by decide)
      | with_reducible exact Frame.rfl _ _
      | with_reducible apply Frame.ite
      | with_reducible apply Frame.ite2
      | with_reducible apply Frame.comp (State.nvPut_frame ..) (by decide)
      | (split <;> try (rename_i hq; have e := congrArg Prod.snd hq; dsimp only at e; subst e))
      | dsimp only
      | with_reducible intro _ _

theorem State.slotOk_frame (s : State) (x : Nat) (good : Bool) : Frame 0x4000000000000001 s (State.slotOk s x good) := by
  unfold State.slotOk
  repeat' first
    | with_reducible exact Frame.rfl _ _
    | with_reducible apply Frame.ite
    | with_reducible apply Frame.ite2
    | with_reducible apply Frame.wr (by decide)
    | (split <;> try (rename_i hq; have e := congrArg Prod.snd hq; dsimp only at e; subst e))
    | dsimp only
    | with_reducible intro _ _

theorem State.parseSlot_frame (s : State) (x : Nat) : Frame 0x2000000c080000000000401 s (State.parseSlot s x).2 := by
  unfold State.parseSlot
  repeat' first
    | with_reducible exact Frame.rfl _ _
    | with_reducible apply Frame.ite
    | with_reducible apply Frame.ite2
    | with_reducible apply Frame.comp (State.parseAt_frame ..) (by decide)
    | with_reducible apply Frame.comp (State.slotOk_frame ..) (by decide)
    | (split <;> try (rename_i hq; have e := congrArg Prod.snd hq; dsimp only at e; subst e))
    | dsimp only
    | with_reducible intro _ _

theorem State.rejectImage_frame (s : State) (seq reason : Nat) : Frame 0x20000004080000100000401 s (State.rejectImage s seq reason) := by
  unfold State.rejectImage
  repeat' first
    | with_reducible exact Frame.rfl _ _
    | with_reducible apply Frame.ite
    | with_reducible apply Frame.ite2
    | with_reducible apply Frame.comp (State.reportOne_frame ..) (by decide)
    | with_reducible apply Frame.comp (State.raise_frame ..) (by decide)
    | (split <;> try (rename_i hq; have e := congrArg Prod.snd hq; dsimp only at e; subst e))
    | dsimp only
    | with_reducible intro _ _

theorem State.platDone_frame (s : State) (result : Nat) : Frame 0x20000004080000000000401 s (State.platDone s result) := by
  unfold State.platDone
  repeat' first
    | with_reducible exact Frame.rfl _ _
    | with_reducible apply Frame.ite
    | with_reducible apply Frame.ite2
    | with_reducible apply Frame.comp (State.raise_frame ..) (by decide)
    | with_reducible apply Frame.wr (by decide)
    | (split <;> try (rename_i hq; have e := congrArg Prod.snd hq; dsimp only at e; subst e))
    | dsimp only
    | with_reducible intro _ _

theorem State.platRefuse_frame (s : State) (cause : Nat) : Frame 0x20000004080000000000401 s (State.platRefuse s cause) := by
  unfold State.platRefuse
  repeat' first
    | with_reducible exact Frame.rfl _ _
    | with_reducible apply Frame.ite
    | with_reducible apply Frame.ite2
    | with_reducible apply Frame.comp (State.raise_frame ..) (by decide)
    | with_reducible apply Frame.inc (by decide)
    | with_reducible apply Frame.wr (by decide)
    | (split <;> try (rename_i hq; have e := congrArg Prod.snd hq; dsimp only at e; subst e))
    | dsimp only
    | with_reducible intro _ _

theorem State.platAccept_frame (s : State) : Frame 0x4000000100000001 s (State.platAccept s).2 := by
  unfold State.platAccept
  repeat' first
    | with_reducible exact Frame.rfl _ _
    | with_reducible apply Frame.ite
    | with_reducible apply Frame.ite2
    | with_reducible apply Frame.comp (State.reportClear_frame ..) (by decide)
    | with_reducible apply Frame.wr (by decide)
    | (split <;> try (rename_i hq; have e := congrArg Prod.snd hq; dsimp only at e; subst e))
    | dsimp only
    | with_reducible intro _ _

theorem State.parseHost_frame (s : State) : Frame 0x20000008080000000000401 s (State.parseHost s).2 := by
  unfold State.parseHost
  repeat' first
    | with_reducible exact Frame.rfl _ _
    | with_reducible apply Frame.ite
    | with_reducible apply Frame.ite2
    | with_reducible apply Frame.comp (State.parseAt_frame ..) (by decide)
    | (split <;> try (rename_i hq; have e := congrArg Prod.snd hq; dsimp only at e; subst e))
    | dsimp only
    | with_reducible intro _ _

theorem State.platLoad_frame (s : State) (q : Nat) : Frame 0x2000000c080000180000401 s (State.platLoad s q) := by
  unfold State.platLoad
  repeat' first
    | with_reducible exact Frame.rfl _ _
    | with_reducible apply Frame.ite
    | with_reducible apply Frame.ite2
    | with_reducible apply Frame.comp (State.parseHost_frame ..) (by decide)
    | with_reducible apply Frame.comp (State.rejectImage_frame ..) (by decide)
    | with_reducible apply Frame.comp (State.platDone_frame ..) (by decide)
    | with_reducible apply Frame.comp (State.reportAll_frame ..) (by decide)
    | with_reducible apply Frame.wr (by decide)
    | fail_if_no_progress with_reducible apply Frame.put_loader_staged _ (by decide)
    | (split <;> try (rename_i hq; have e := congrArg Prod.snd hq; dsimp only at e; subst e))
    | dsimp only
    | with_reducible intro _ _
    | fail_if_no_progress apply Frame.put_loader_staged _ (by decide)

theorem State.platAmend_frame (s : State) (q : Nat) : Frame 0x2000000c080000300000407 s (State.platAmend s q) := by
  unfold State.platAmend
  repeat' first
    | with_reducible exact Frame.rfl _ _
    | with_reducible apply Frame.ite
    | with_reducible apply Frame.ite2
    | with_reducible apply Frame.comp (State.parseHost_frame ..) (by decide)
    | with_reducible apply Frame.comp (State.rejectImage_frame ..) (by decide)
    | with_reducible apply Frame.comp (State.platDone_frame ..) (by decide)
    | with_reducible apply Frame.comp (State.reportAll_frame ..) (by decide)
    | with_reducible apply Frame.comp (State.runFills_frame ..) (by decide)
    | with_reducible apply Frame.comp (State.queueAmends_frame ..) (by decide)
    | (split <;> try (rename_i hq; have e := congrArg Prod.snd hq; dsimp only at e; subst e))
    | dsimp only
    | with_reducible intro _ _

theorem State.platCheck_frame (s : State) (q : Nat) : Frame 0x2000000c080000100000401 s (State.platCheck s q) := by
  unfold State.platCheck
  repeat' first
    | with_reducible exact Frame.rfl _ _
    | with_reducible apply Frame.ite
    | with_reducible apply Frame.ite2
    | with_reducible apply Frame.comp (State.parseHost_frame ..) (by decide)
    | with_reducible apply Frame.comp (State.rejectImage_frame ..) (by decide)
    | with_reducible apply Frame.comp (State.platDone_frame ..) (by decide)
    | with_reducible apply Frame.comp (State.reportAll_frame ..) (by decide)
    | (split <;> try (rename_i hq; have e := congrArg Prod.snd hq; dsimp only at e; subst e))
    | dsimp only
    | with_reducible intro _ _

theorem State.platVerify_frame (s : State) (q x : Nat) : Frame 0x2000000c080000100000401 s (State.platVerify s q x) := by
  unfold State.platVerify
  repeat' first
    | with_reducible exact Frame.rfl _ _
    | with_reducible apply Frame.ite
    | with_reducible apply Frame.ite2
    | with_reducible apply Frame.comp (State.parseSlot_frame ..) (by decide)
    | with_reducible apply Frame.comp (State.rejectImage_frame ..) (by decide)
    | with_reducible apply Frame.comp (State.platDone_frame ..) (by decide)
    | (split <;> try (rename_i hq; have e := congrArg Prod.snd hq; dsimp only at e; subst e))
    | dsimp only
    | with_reducible intro _ _

theorem State.platProgram_frame (s : State) (q x : Nat) : Frame 0x2000000c080000100000407 s (State.platProgram s q x) := by
  unfold State.platProgram
  repeat' first
    | with_reducible exact Frame.rfl _ _
    | with_reducible apply Frame.ite
    | with_reducible apply Frame.ite2
    | with_reducible apply Frame.comp (State.parseHost_frame ..) (by decide)
    | with_reducible apply Frame.comp (State.rejectImage_frame ..) (by decide)
    | with_reducible apply Frame.comp (State.platDone_frame ..) (by decide)
    | with_reducible apply Frame.comp (State.nvPut_frame ..) (by decide)
    | with_reducible apply Frame.comp (State.nvPuts_frame ..) (by decide)
    | with_reducible apply Frame.comp (State.platVerify_frame ..) (by decide)
    | (split <;> try (rename_i hq; have e := congrArg Prod.snd hq; dsimp only at e; subst e))
    | dsimp only
    | with_reducible intro _ _

theorem State.platBoot_frame (s : State) (q x : Nat) : Frame 0x2000000c080000100000407 s (State.platBoot s q x) := by
  unfold State.platBoot
  repeat' first
    | with_reducible exact Frame.rfl _ _
    | with_reducible apply Frame.ite
    | with_reducible apply Frame.ite2
    | with_reducible apply Frame.comp (State.parseSlot_frame ..) (by decide)
    | with_reducible apply Frame.comp (State.rejectImage_frame ..) (by decide)
    | with_reducible apply Frame.comp (State.platDone_frame ..) (by decide)
    | with_reducible apply Frame.comp (State.readPointer_frame ..) (by decide)
    | with_reducible apply Frame.comp (State.nvPut_frame ..) (by decide)
    | with_reducible apply Frame.wr (by decide)
    | (split <;> try (rename_i hq; have e := congrArg Prod.snd hq; dsimp only at e; subst e))
    | dsimp only
    | with_reducible intro _ _

theorem State.platCommand_frame (s : State) (v : Nat) : Frame 0x2000000c080000380000407 s (State.platCommand s v) := by
  unfold State.platCommand
  repeat' first
    | with_reducible exact Frame.rfl _ _
    | with_reducible apply Frame.ite
    | with_reducible apply Frame.ite2
    | with_reducible apply Frame.comp (State.platRefuse_frame ..) (by decide)
    | with_reducible apply Frame.comp (State.platAccept_frame ..) (by decide)
    | with_reducible apply Frame.comp (State.platLoad_frame ..) (by decide)
    | with_reducible apply Frame.comp (State.platAmend_frame ..) (by decide)
    | with_reducible apply Frame.comp (State.platCheck_frame ..) (by decide)
    | with_reducible apply Frame.comp (State.platProgram_frame ..) (by decide)
    | with_reducible apply Frame.comp (State.platBoot_frame ..) (by decide)
    | with_reducible apply Frame.comp (State.platVerify_frame ..) (by decide)
    | (split <;> try (rename_i hq; have e := congrArg Prod.snd hq; dsimp only at e; subst e))
    | dsimp only
    | with_reducible intro _ _

theorem execLoad_frame (key : BitVec 16) (s : State) : FrameO 0x2000000c080000380000407 s (execLoad key s) := by
  unfold execLoad
  repeat' first
    | with_reducible exact Frame.rfl _ _
    | with_reducible apply FrameO.powered
    | with_reducible apply FrameO.ok
    | with_reducible apply FrameO.next
    | with_reducible apply FrameO.ite
    | with_reducible apply Frame.ite
    | with_reducible apply Frame.ite2
    | with_reducible apply Frame.comp (State.platCommand_frame ..) (by decide)
    | (split <;> try (rename_i hq; have e := congrArg Prod.snd hq; dsimp only at e; subst e))
    | dsimp only
    | with_reducible intro _ _

theorem execAmend_frame (key : BitVec 16) (s : State) : FrameO 0x2000000c080000380000407 s (execAmend key s) := by
  unfold execAmend
  repeat' first
    | with_reducible exact Frame.rfl _ _
    | with_reducible apply FrameO.powered
    | with_reducible apply FrameO.ok
    | with_reducible apply FrameO.next
    | with_reducible apply FrameO.ite
    | with_reducible apply Frame.ite
    | with_reducible apply Frame.ite2
    | with_reducible apply Frame.comp (State.platCommand_frame ..) (by decide)
    | (split <;> try (rename_i hq; have e := congrArg Prod.snd hq; dsimp only at e; subst e))
    | dsimp only
    | with_reducible intro _ _

theorem execCheck_frame (key : BitVec 16) (s : State) : FrameO 0x2000000c080000380000407 s (execCheck key s) := by
  unfold execCheck
  repeat' first
    | with_reducible exact Frame.rfl _ _
    | with_reducible apply FrameO.powered
    | with_reducible apply FrameO.ok
    | with_reducible apply FrameO.next
    | with_reducible apply FrameO.ite
    | with_reducible apply Frame.ite
    | with_reducible apply Frame.ite2
    | with_reducible apply Frame.comp (State.platCommand_frame ..) (by decide)
    | (split <;> try (rename_i hq; have e := congrArg Prod.snd hq; dsimp only at e; subst e))
    | dsimp only
    | with_reducible intro _ _

theorem execProgramA_frame (key : BitVec 16) (s : State) : FrameO 0x2000000c080000380000407 s (execProgramA key s) := by
  unfold execProgramA
  repeat' first
    | with_reducible exact Frame.rfl _ _
    | with_reducible apply FrameO.powered
    | with_reducible apply FrameO.ok
    | with_reducible apply FrameO.next
    | with_reducible apply FrameO.ite
    | with_reducible apply Frame.ite
    | with_reducible apply Frame.ite2
    | with_reducible apply Frame.comp (State.platCommand_frame ..) (by decide)
    | (split <;> try (rename_i hq; have e := congrArg Prod.snd hq; dsimp only at e; subst e))
    | dsimp only
    | with_reducible intro _ _

theorem execProgramB_frame (key : BitVec 16) (s : State) : FrameO 0x2000000c080000380000407 s (execProgramB key s) := by
  unfold execProgramB
  repeat' first
    | with_reducible exact Frame.rfl _ _
    | with_reducible apply FrameO.powered
    | with_reducible apply FrameO.ok
    | with_reducible apply FrameO.next
    | with_reducible apply FrameO.ite
    | with_reducible apply Frame.ite
    | with_reducible apply Frame.ite2
    | with_reducible apply Frame.comp (State.platCommand_frame ..) (by decide)
    | (split <;> try (rename_i hq; have e := congrArg Prod.snd hq; dsimp only at e; subst e))
    | dsimp only
    | with_reducible intro _ _

theorem execBootA_frame (key : BitVec 16) (s : State) : FrameO 0x2000000c080000380000407 s (execBootA key s) := by
  unfold execBootA
  repeat' first
    | with_reducible exact Frame.rfl _ _
    | with_reducible apply FrameO.powered
    | with_reducible apply FrameO.ok
    | with_reducible apply FrameO.next
    | with_reducible apply FrameO.ite
    | with_reducible apply Frame.ite
    | with_reducible apply Frame.ite2
    | with_reducible apply Frame.comp (State.platCommand_frame ..) (by decide)
    | (split <;> try (rename_i hq; have e := congrArg Prod.snd hq; dsimp only at e; subst e))
    | dsimp only
    | with_reducible intro _ _

theorem execBootB_frame (key : BitVec 16) (s : State) : FrameO 0x2000000c080000380000407 s (execBootB key s) := by
  unfold execBootB
  repeat' first
    | with_reducible exact Frame.rfl _ _
    | with_reducible apply FrameO.powered
    | with_reducible apply FrameO.ok
    | with_reducible apply FrameO.next
    | with_reducible apply FrameO.ite
    | with_reducible apply Frame.ite
    | with_reducible apply Frame.ite2
    | with_reducible apply Frame.comp (State.platCommand_frame ..) (by decide)
    | (split <;> try (rename_i hq; have e := congrArg Prod.snd hq; dsimp only at e; subst e))
    | dsimp only
    | with_reducible intro _ _

theorem execVerifyA_frame (key : BitVec 16) (s : State) : FrameO 0x2000000c080000380000407 s (execVerifyA key s) := by
  unfold execVerifyA
  repeat' first
    | with_reducible exact Frame.rfl _ _
    | with_reducible apply FrameO.powered
    | with_reducible apply FrameO.ok
    | with_reducible apply FrameO.next
    | with_reducible apply FrameO.ite
    | with_reducible apply Frame.ite
    | with_reducible apply Frame.ite2
    | with_reducible apply Frame.comp (State.platCommand_frame ..) (by decide)
    | (split <;> try (rename_i hq; have e := congrArg Prod.snd hq; dsimp only at e; subst e))
    | dsimp only
    | with_reducible intro _ _

theorem execVerifyB_frame (key : BitVec 16) (s : State) : FrameO 0x2000000c080000380000407 s (execVerifyB key s) := by
  unfold execVerifyB
  repeat' first
    | with_reducible exact Frame.rfl _ _
    | with_reducible apply FrameO.powered
    | with_reducible apply FrameO.ok
    | with_reducible apply FrameO.next
    | with_reducible apply FrameO.ite
    | with_reducible apply Frame.ite
    | with_reducible apply Frame.ite2
    | with_reducible apply Frame.comp (State.platCommand_frame ..) (by decide)
    | (split <;> try (rename_i hq; have e := congrArg Prod.snd hq; dsimp only at e; subst e))
    | dsimp only
    | with_reducible intro _ _

theorem execOpUndefined_frame (value : Word) (s : State) : FrameO 0x2000000c080000380000407 s (execOpUndefined value s) := by
  unfold execOpUndefined
  repeat' first
    | with_reducible exact Frame.rfl _ _
    | with_reducible apply FrameO.powered
    | with_reducible apply FrameO.ok
    | with_reducible apply FrameO.next
    | with_reducible apply FrameO.ite
    | with_reducible apply Frame.ite
    | with_reducible apply Frame.ite2
    | with_reducible apply Frame.comp (State.platCommand_frame ..) (by decide)
    | (split <;> try (rename_i hq; have e := congrArg Prod.snd hq; dsimp only at e; subst e))
    | dsimp only
    | with_reducible intro _ _

end Sys2Proof.Machine
end

