-- ==== Sys2Proof/Laws/FramePixel.lean ====
section
/-! SUPPORT. The frames of the operations of Machine/Pixel.lean. -/

set_option linter.unreachableTactic false
set_option linter.unusedTactic false

namespace Sys2Proof.Machine

open Sys2Proof

theorem State.portM_frame (s : State) (n : Nat) (f : PixPort → PixPort) : Frame 0x20000000000 s (State.portM s n f) := by
  unfold State.portM
  repeat' first
    | with_reducible exact Frame.rfl _ _
    | with_reducible apply Frame.ite
    | fail_if_no_progress with_reducible apply Frame.put_pix _ (by decide)
    | (split <;> try (rename_i hq; have e := congrArg Prod.snd hq; dsimp only at e; subst e))
    | dsimp only
    | with_reducible intro _ _
    | fail_if_no_progress apply Frame.put_pix _ (by decide)

theorem Frame.trnLoss {mk : Nat} {sA sB : State} {f : Fld} {t n : Nat} (hf : f.okIn mk = true) (hm : 0x20000000080000000000401 &&& mk = 0x20000000080000000000401)
    (h : Frame mk sA sB) : Frame mk sA (sB.trnLoss f t n) := by
  unfold State.trnLoss
  repeat' first
    | exact h
    | with_reducible exact Frame.rfl _ _
    | with_reducible apply Frame.ite
    | with_reducible apply Frame.ite2
    | with_reducible apply Frame.comp (State.raise_frame ..) (mask_sub (by decide) hm)
    | with_reducible apply Frame.inci hf
    | (split <;> try (rename_i hq; have e := congrArg Prod.snd hq; dsimp only at e; subst e))
    | dsimp only
    | with_reducible intro _ _

theorem Frame.trnTrg {mk : Nat} {sA sB : State} {f : Fld} {t n : Nat} (hf : f.okIn mk = true) (hm : 0x20000000080000000000401 &&& mk = 0x20000000080000000000401)
    (h : Frame mk sA sB) : Frame mk sA (sB.trnTrg f t n) := by
  unfold State.trnTrg
  repeat' first
    | exact h
    | with_reducible exact Frame.rfl _ _
    | with_reducible apply Frame.ite
    | with_reducible apply Frame.ite2
    | with_reducible apply Frame.comp (State.raise_frame ..) (mask_sub (by decide) hm)
    | with_reducible apply Frame.inci hf
    | (split <;> try (rename_i hq; have e := congrArg Prod.snd hq; dsimp only at e; subst e))
    | dsimp only
    | with_reducible intro _ _

theorem Frame.pixErr {mk : Nat} {sA sB : State} {f : Fld} {n : Nat} (hf : f.okIn mk = true) (hm : 0x20000000080000000000401 &&& mk = 0x20000000080000000000401)
    (h : Frame mk sA sB) : Frame mk sA (sB.pixErr f n) := by
  unfold State.pixErr
  repeat' first
    | exact h
    | with_reducible exact Frame.rfl _ _
    | with_reducible apply Frame.ite
    | with_reducible apply Frame.ite2
    | with_reducible apply Frame.comp (State.raise_frame ..) (mask_sub (by decide) hm)
    | with_reducible apply Frame.inci hf
    | (split <;> try (rename_i hq; have e := congrArg Prod.snd hq; dsimp only at e; subst e))
    | dsimp only
    | with_reducible intro _ _

theorem State.toTransit_frame (s : State) (t : Nat) (i : PixItem) : Frame 0x1000000020000000001 s (State.toTransit s t i) := by
  unfold State.toTransit
  repeat' first
    | with_reducible exact Frame.rfl _ _
    | with_reducible apply Frame.ite
    | with_reducible apply Frame.ite2
    | with_reducible apply Frame.comp (State.trnM_frame ..) (by decide)
    | (split <;> try (rename_i hq; have e := congrArg Prod.snd hq; dsimp only at e; subst e))
    | dsimp only
    | with_reducible intro _ _

theorem State.pixPacket_frame (s : State) (n : Nat) (p : CsiPacket) : Frame 0x20001800080020000000401 s (State.pixPacket s n p) := by
  unfold State.pixPacket
  repeat' first
    | with_reducible exact Frame.rfl _ _
    | with_reducible apply Frame.ite
    | with_reducible apply Frame.ite2
    | with_reducible apply Frame.comp (State.toTransit_frame ..) (by decide)
    | with_reducible apply Frame.comp (State.portM_frame ..) (by decide)
    | with_reducible apply Frame.pixErr (by decide) (by decide)
    | with_reducible apply Frame.wrapi (by decide)
    | with_reducible apply Frame.wri (by decide)
    | (split <;> try (rename_i hq; have e := congrArg Prod.snd hq; dsimp only at e; subst e))
    | dsimp only
    | with_reducible intro _ _

theorem execPacket_frame (port : Fin 2) (pkt : CsiPacket) (s : State) : FrameO 0x20001800080020000000401 s (execPacket port pkt s) := by
  unfold execPacket
  repeat' first
    | with_reducible exact Frame.rfl _ _
    | with_reducible apply FrameO.powered
    | with_reducible apply FrameO.ok
    | with_reducible apply FrameO.next
    | with_reducible apply FrameO.ite
    | with_reducible apply Frame.ite
    | with_reducible apply Frame.ite2
    | with_reducible apply Frame.pixErr (by decide) (by decide)
    | with_reducible apply Frame.comp (State.pixPacket_frame ..) (by decide)
    | with_reducible apply Frame.inci (by decide)
    | with_reducible apply Frame.wri (by decide)
    | (split <;> try (rename_i hq; have e := congrArg Prod.snd hq; dsimp only at e; subst e))
    | dsimp only
    | with_reducible intro _ _

theorem State.portEnable_frame (s : State) (n v : Nat) : Frame 0x800000020000000001 s (State.portEnable s n v) := by
  unfold State.portEnable
  repeat' first
    | with_reducible exact Frame.rfl _ _
    | with_reducible apply Frame.ite
    | with_reducible apply Frame.ite2
    | with_reducible apply Frame.comp (State.portM_frame ..) (by decide)
    | with_reducible apply Frame.wri (by decide)
    | (split <;> try (rename_i hq; have e := congrArg Prod.snd hq; dsimp only at e; subst e))
    | dsimp only
    | with_reducible intro _ _

theorem execPortEnable_frame (port : Fin 2) (en : Bool) (s : State) : FrameO 0x800000020000000001 s (execPortEnable port en s) := by
  unfold execPortEnable
  repeat' first
    | with_reducible exact Frame.rfl _ _
    | with_reducible apply FrameO.powered
    | with_reducible apply FrameO.ok
    | with_reducible apply FrameO.next
    | with_reducible apply FrameO.ite
    | with_reducible apply Frame.ite
    | with_reducible apply Frame.ite2
    | with_reducible apply Frame.comp (State.portEnable_frame ..) (by decide)
    | (split <;> try (rename_i hq; have e := congrArg Prod.snd hq; dsimp only at e; subst e))
    | dsimp only
    | with_reducible intro _ _

theorem execIdle_frame (port : Fin 2) (s : State) : FrameO 0x20000000080020000000401 s (execIdle port s) := by
  unfold execIdle
  repeat' first
    | with_reducible exact Frame.rfl _ _
    | with_reducible apply FrameO.powered
    | with_reducible apply FrameO.ok
    | with_reducible apply FrameO.next
    | with_reducible apply FrameO.ite
    | with_reducible apply Frame.ite
    | with_reducible apply Frame.ite2
    | with_reducible apply Frame.comp (State.portM_frame ..) (by decide)
    | with_reducible apply Frame.comp (State.raise_frame ..) (by decide)
    | (split <;> try (rename_i hq; have e := congrArg Prod.snd hq; dsimp only at e; subst e))
    | dsimp only
    | with_reducible intro _ _

theorem State.lineStart_frame (s : State) (t : Nat) : Frame 0x20001000080020000000401 s (State.lineStart s t) := by
  unfold State.lineStart
  repeat' first
    | with_reducible exact Frame.rfl _ _
    | with_reducible apply Frame.ite
    | with_reducible apply Frame.ite2
    | with_reducible apply Frame.trnTrg (by decide) (by decide)
    | with_reducible apply Frame.comp (State.trnM_frame ..) (by decide)
    | with_reducible apply Frame.trnLoss (by decide) (by decide)
    | with_reducible apply Frame.wri (by decide)
    | (split <;> try (rename_i hq; have e := congrArg Prod.snd hq; dsimp only at e; subst e))
    | dsimp only
    | with_reducible intro _ _

theorem State.storeBand_frame (s : State) (t slot b : Nat) (px : List Nat) : Frame 0x8000000000000007 s (State.storeBand s t slot b px) := by
  unfold State.storeBand
  repeat' first
    | with_reducible exact Frame.rfl _ _
    | with_reducible apply Frame.ite
    | with_reducible apply Frame.ite2
    | with_reducible apply Frame.comp (State.memPutBytes_frame ..) (by decide)
    | (split <;> try (rename_i hq; have e := congrArg Prod.snd hq; dsimp only at e; subst e))
    | dsimp only
    | with_reducible intro _ _

theorem State.lineEnd_frame (s : State) (t : Nat) : Frame 0x1000000020000000001 s (State.lineEnd s t) := by
  unfold State.lineEnd
  repeat' first
    | with_reducible exact Frame.rfl _ _
    | with_reducible apply Frame.ite
    | with_reducible apply Frame.ite2
    | with_reducible apply Frame.comp (State.trnM_frame ..) (by decide)
    | (split <;> try (rename_i hq; have e := congrArg Prod.snd hq; dsimp only at e; subst e))
    | dsimp only
    | with_reducible intro _ _

theorem State.nextPos_frame (s : State) (t : Nat) : Frame 0x1000000020000000001 s (State.nextPos s t) := by
  unfold State.nextPos
  repeat' first
    | with_reducible exact Frame.rfl _ _
    | with_reducible apply Frame.ite
    | with_reducible apply Frame.ite2
    | with_reducible apply Frame.comp (State.trnM_frame ..) (by decide)
    | with_reducible apply Frame.comp (State.lineEnd_frame ..) (by decide)
    | (split <;> try (rename_i hq; have e := congrArg Prod.snd hq; dsimp only at e; subst e))
    | dsimp only
    | with_reducible intro _ _

theorem State.bandLine_frame (s : State) (t : Nat) (px : List Nat) : Frame 0x20001008080020000000407 s (State.bandLine s t px) := by
  unfold State.bandLine
  repeat' first
    | with_reducible exact Frame.rfl _ _
    | with_reducible apply Frame.ite
    | with_reducible apply Frame.ite2
    | with_reducible apply Frame.trnLoss (by decide) (by decide)
    | with_reducible apply Frame.comp (State.lineStart_frame ..) (by decide)
    | with_reducible apply Frame.comp (State.trnM_frame ..) (by decide)
    | with_reducible apply Frame.comp (State.storeBand_frame ..) (by decide)
    | with_reducible apply Frame.comp (State.nextPos_frame ..) (by decide)
    | (split <;> try (rename_i hq; have e := congrArg Prod.snd hq; dsimp only at e; subst e))
    | dsimp only
    | with_reducible intro _ _

theorem State.bandLost_frame (s : State) (t : Nat) : Frame 0x20001000080020000000401 s (State.bandLost s t) := by
  unfold State.bandLost
  repeat' first
    | with_reducible exact Frame.rfl _ _
    | with_reducible apply Frame.ite
    | with_reducible apply Frame.ite2
    | with_reducible apply Frame.comp (State.trnM_frame ..) (by decide)
    | with_reducible apply Frame.trnLoss (by decide) (by decide)
    | with_reducible apply Frame.comp (State.nextPos_frame ..) (by decide)
    | (split <;> try (rename_i hq; have e := congrArg Prod.snd hq; dsimp only at e; subst e))
    | dsimp only
    | with_reducible intro _ _

theorem State.popItem_frame (s : State) (t : Nat) : Frame 0x1000000020000000001 s (State.popItem s t) := by
  unfold State.popItem
  repeat' first
    | with_reducible exact Frame.rfl _ _
    | with_reducible apply Frame.ite
    | with_reducible apply Frame.ite2
    | with_reducible apply Frame.comp (State.trnM_frame ..) (by decide)
    | (split <;> try (rename_i hq; have e := congrArg Prod.snd hq; dsimp only at e; subst e))
    | dsimp only
    | with_reducible intro _ _

theorem State.bandErr_frame (s : State) (t : Nat) : Frame 0x20001000080020000000401 s (State.bandErr s t) := by
  unfold State.bandErr
  repeat' first
    | with_reducible exact Frame.rfl _ _
    | with_reducible apply Frame.ite
    | with_reducible apply Frame.ite2
    | with_reducible apply Frame.comp (State.trnM_frame ..) (by decide)
    | with_reducible apply Frame.trnLoss (by decide) (by decide)
    | (split <;> try (rename_i hq; have e := congrArg Prod.snd hq; dsimp only at e; subst e))
    | dsimp only
    | with_reducible intro _ _

theorem execFrameStart_frame (transit : Fin 8) (s : State) : FrameO 0x20001000080020000000401 s (execFrameStart transit s) := by
  unfold execFrameStart
  repeat' first
    | with_reducible exact Frame.rfl _ _
    | with_reducible apply FrameO.powered
    | with_reducible apply FrameO.ok
    | with_reducible apply FrameO.next
    | with_reducible apply FrameO.ite
    | with_reducible apply Frame.ite
    | with_reducible apply Frame.ite2
    | with_reducible apply Frame.comp (State.popItem_frame ..) (by decide)
    | with_reducible apply Frame.comp (State.bandErr_frame ..) (by decide)
    | with_reducible apply Frame.comp (State.trnM_frame ..) (by decide)
    | with_reducible apply Frame.trnTrg (by decide) (by decide)
    | with_reducible apply Frame.wri (by decide)
    | (split <;> try (rename_i hq; have e := congrArg Prod.snd hq; dsimp only at e; subst e))
    | dsimp only
    | with_reducible intro _ _

theorem execFrameEnd_frame (transit : Fin 8) (s : State) : FrameO 0x20001000080020000000401 s (execFrameEnd transit s) := by
  unfold execFrameEnd
  repeat' first
    | with_reducible exact Frame.rfl _ _
    | with_reducible apply FrameO.powered
    | with_reducible apply FrameO.ok
    | with_reducible apply FrameO.next
    | with_reducible apply FrameO.ite
    | with_reducible apply Frame.ite
    | with_reducible apply Frame.ite2
    | with_reducible apply Frame.comp (State.popItem_frame ..) (by decide)
    | with_reducible apply Frame.comp (State.bandErr_frame ..) (by decide)
    | (split <;> try (rename_i hq; have e := congrArg Prod.snd hq; dsimp only at e; subst e))
    | dsimp only
    | with_reducible intro _ _

theorem execBandLine_frame (transit : Fin 8) (s : State) : FrameO 0x20001008080020000000407 s (execBandLine transit s) := by
  unfold execBandLine
  repeat' first
    | with_reducible exact Frame.rfl _ _
    | with_reducible apply FrameO.powered
    | with_reducible apply FrameO.ok
    | with_reducible apply FrameO.next
    | with_reducible apply FrameO.ite
    | with_reducible apply Frame.ite
    | with_reducible apply Frame.ite2
    | with_reducible apply Frame.comp (State.popItem_frame ..) (by decide)
    | with_reducible apply Frame.trnLoss (by decide) (by decide)
    | with_reducible apply Frame.comp (State.bandLine_frame ..) (by decide)
    | with_reducible apply Frame.comp (State.bandLost_frame ..) (by decide)
    | (split <;> try (rename_i hq; have e := congrArg Prod.snd hq; dsimp only at e; subst e))
    | dsimp only
    | with_reducible intro _ _

theorem execEdgeTime_frame (transit : Fin 8) (s : State) : FrameO 0x20001000080020000000401 s (execEdgeTime transit s) := by
  unfold execEdgeTime
  repeat' first
    | with_reducible exact Frame.rfl _ _
    | with_reducible apply FrameO.powered
    | with_reducible apply FrameO.ok
    | with_reducible apply FrameO.next
    | with_reducible apply FrameO.ite
    | with_reducible apply Frame.ite
    | with_reducible apply Frame.ite2
    | with_reducible apply Frame.comp (State.trnM_frame ..) (by decide)
    | with_reducible apply Frame.trnTrg (by decide) (by decide)
    | (split <;> try (rename_i hq; have e := congrArg Prod.snd hq; dsimp only at e; subst e))
    | dsimp only
    | with_reducible intro _ _

theorem State.resync_frame (s : State) (t : Nat) : Frame 0x1000000020000000001 s (State.resync s t) := by
  unfold State.resync
  repeat' first
    | with_reducible exact Frame.rfl _ _
    | with_reducible apply Frame.ite
    | with_reducible apply Frame.ite2
    | with_reducible apply Frame.comp (State.trnM_frame ..) (by decide)
    | (split <;> try (rename_i hq; have e := congrArg Prod.snd hq; dsimp only at e; subst e))
    | dsimp only
    | with_reducible intro _ _

theorem execResync_frame (transit : Fin 8) (s : State) : FrameO 0x1000000020000000001 s (execResync transit s) := by
  unfold execResync
  repeat' first
    | with_reducible exact Frame.rfl _ _
    | with_reducible apply FrameO.powered
    | with_reducible apply FrameO.ok
    | with_reducible apply FrameO.next
    | with_reducible apply FrameO.ite
    | with_reducible apply Frame.ite
    | with_reducible apply Frame.ite2
    | with_reducible apply Frame.comp (State.resync_frame ..) (by decide)
    | (split <;> try (rename_i hq; have e := congrArg Prod.snd hq; dsimp only at e; subst e))
    | dsimp only
    | with_reducible intro _ _

theorem State.trnStop_frame (s : State) (t : Nat) : Frame 0x20001000080020000000401 s (State.trnStop s t) := by
  unfold State.trnStop
  repeat' first
    | with_reducible exact Frame.rfl _ _
    | with_reducible apply Frame.ite
    | with_reducible apply Frame.ite2
    | with_reducible apply Frame.comp (State.trnM_frame ..) (by decide)
    | with_reducible apply Frame.trnLoss (by decide) (by decide)
    | with_reducible apply Frame.wri (by decide)
    | (split <;> try (rename_i hq; have e := congrArg Prod.snd hq; dsimp only at e; subst e))
    | dsimp only
    | with_reducible intro _ _

theorem State.trnCtrl_frame (s : State) (t v : Nat) : Frame 0x20001000080020000000401 s (State.trnCtrl s t v) := by
  unfold State.trnCtrl
  repeat' first
    | with_reducible exact Frame.rfl _ _
    | with_reducible apply Frame.ite
    | with_reducible apply Frame.ite2
    | with_reducible apply Frame.comp (State.resync_frame ..) (by decide)
    | with_reducible apply Frame.comp (State.trnStop_frame ..) (by decide)
    | with_reducible apply Frame.wri (by decide)
    | (split <;> try (rename_i hq; have e := congrArg Prod.snd hq; dsimp only at e; subst e))
    | dsimp only
    | with_reducible intro _ _

theorem execTransitEnWrite_frame (transit : Fin 8) (value : Word) (s : State) : FrameO 0x20001000080020000000401 s (execTransitEnWrite transit value s) := by
  unfold execTransitEnWrite
  repeat' first
    | with_reducible exact Frame.rfl _ _
    | with_reducible apply FrameO.powered
    | with_reducible apply FrameO.ok
    | with_reducible apply FrameO.next
    | with_reducible apply FrameO.ite
    | with_reducible apply Frame.ite
    | with_reducible apply Frame.ite2
    | with_reducible apply Frame.comp (State.trnCtrl_frame ..) (by decide)
    | (split <;> try (rename_i hq; have e := congrArg Prod.snd hq; dsimp only at e; subst e))
    | dsimp only
    | with_reducible intro _ _

theorem State.readBand_frame (s : State) (t : Nat) (l : TLine) (b : Nat) : Frame 0x20000008080000000000401 s (State.readBand s t l b).2 := by
  unfold State.readBand
  repeat' first
    | with_reducible exact Frame.rfl _ _
    | with_reducible apply Frame.ite
    | with_reducible apply Frame.ite2
    | with_reducible apply Frame.comp (State.memReads_frame ..) (by decide)
    | (split <;> try (rename_i hq; have e := congrArg Prod.snd hq; dsimp only at e; subst e))
    | dsimp only
    | with_reducible intro _ _

theorem State.readBands_frame (n : Nat) (s : State) (t : Nat) (l : TLine) (b : Nat) : Frame 0x20000008080000000000401 s (s.readBands t l b n).2 := by
  induction n generalizing s b with
  | zero =>
    unfold State.readBands
    repeat' first
      | with_reducible exact Frame.rfl _ _
      | with_reducible apply Frame.ite
      | with_reducible apply Frame.ite2
      | with_reducible apply Frame.comp (State.readBand_frame ..) (by decide)
      | (split <;> try (rename_i hq; have e := congrArg Prod.snd hq; dsimp only at e; subst e))
      | dsimp only
      | with_reducible intro _ _
  | succ n ih =>
    unfold State.readBands
    repeat' first
      | with_reducible apply Frame.comp (ih ..) (by decide)
      | with_reducible exact Frame.rfl _ _
      | with_reducible apply Frame.ite
      | with_reducible apply Frame.ite2
      | with_reducible apply Frame.comp (State.readBand_frame ..) (by decide)
      | (split <;> try (rename_i hq; have e := congrArg Prod.snd hq; dsimp only at e; subst e))
      | dsimp only
      | with_reducible intro _ _

theorem State.emitSummary_frame (s : State) (t : Nat) (c : Comp) : Frame 0x20001000080020000000401 s (State.emitSummary s t c) := by
  unfold State.emitSummary
  repeat' first
    | with_reducible exact Frame.rfl _ _
    | with_reducible apply Frame.ite
    | with_reducible apply Frame.ite2
    | with_reducible apply Frame.trnLoss (by decide) (by decide)
    | with_reducible apply Frame.comp (State.trnM_frame ..) (by decide)
    | with_reducible apply Frame.comp (State.raiseIf_frame ..) (by decide)
    | with_reducible apply Frame.inci (by decide)
    | with_reducible apply Frame.wrapi (by decide)
    | (split <;> try (rename_i hq; have e := congrArg Prod.snd hq; dsimp only at e; subst e))
    | dsimp only
    | with_reducible intro _ _

theorem State.snapHand_frame (s : State) : Frame 0x20001001080020000010401 s (State.snapHand s) := by
  unfold State.snapHand
  repeat' first
    | with_reducible exact Frame.rfl _ _
    | with_reducible apply Frame.ite
    | with_reducible apply Frame.ite2
    | with_reducible apply Frame.comp (State.dmaReady_frame ..) (by decide)
    | with_reducible apply Frame.comp (State.trnM_frame ..) (by decide)
    | with_reducible apply Frame.comp (State.raise_frame ..) (by decide)
    | with_reducible apply Frame.wri (by decide)
    | fail_if_no_progress with_reducible apply Frame.put_pix _ (by decide)
    | (split <;> try (rename_i hq; have e := congrArg Prod.snd hq; dsimp only at e; subst e))
    | dsimp only
    | with_reducible intro _ _
    | fail_if_no_progress apply Frame.put_pix _ (by decide)

theorem State.snapLine_frame (s : State) (t : Nat) (l : TLine) (bands : List BandPx) (memErr : Bool) : Frame 0x20001001080020000010401 s (State.snapLine s t l bands memErr) := by
  unfold State.snapLine
  repeat' first
    | with_reducible exact Frame.rfl _ _
    | with_reducible apply Frame.ite
    | with_reducible apply Frame.ite2
    | with_reducible apply Frame.comp (State.trnM_frame ..) (by decide)
    | with_reducible apply Frame.comp (State.snapHand_frame ..) (by decide)
    | with_reducible apply Frame.inci (by decide)
    | fail_if_no_progress with_reducible apply Frame.put_pix _ (by decide)
    | (split <;> try (rename_i hq; have e := congrArg Prod.snd hq; dsimp only at e; subst e))
    | dsimp only
    | with_reducible intro _ _
    | fail_if_no_progress apply Frame.put_pix _ (by decide)

theorem State.snapGo_frame (s : State) (t v : Nat) : Frame 0x1000000020000000001 s (State.snapGo s t v) := by
  unfold State.snapGo
  repeat' first
    | with_reducible exact Frame.rfl _ _
    | with_reducible apply Frame.ite
    | with_reducible apply Frame.ite2
    | with_reducible apply Frame.comp (State.trnM_frame ..) (by decide)
    | with_reducible apply Frame.wri (by decide)
    | (split <;> try (rename_i hq; have e := congrArg Prod.snd hq; dsimp only at e; subst e))
    | dsimp only
    | with_reducible intro _ _

theorem execPixelSnapshotGo_frame (transit : Fin 8) (value : Word) (s : State) : FrameO 0x1000000020000000001 s (execPixelSnapshotGo transit value s) := by
  unfold execPixelSnapshotGo
  repeat' first
    | with_reducible exact Frame.rfl _ _
    | with_reducible apply FrameO.powered
    | with_reducible apply FrameO.ok
    | with_reducible apply FrameO.next
    | with_reducible apply FrameO.ite
    | with_reducible apply Frame.ite
    | with_reducible apply Frame.ite2
    | with_reducible apply Frame.comp (State.snapGo_frame ..) (by decide)
    | (split <;> try (rename_i hq; have e := congrArg Prod.snd hq; dsimp only at e; subst e))
    | dsimp only
    | with_reducible intro _ _

theorem State.trackLine_frame (s : State) (t : Nat) (l : TLine) (px : List Pixel) (memErr : Bool) : Frame 0x20001000080020000000401 s (State.trackLine s t l px memErr) := by
  unfold State.trackLine
  repeat' first
    | with_reducible exact Frame.rfl _ _
    | with_reducible apply Frame.ite
    | with_reducible apply Frame.ite2
    | with_reducible apply Frame.comp (State.trnM_frame ..) (by decide)
    | with_reducible apply Frame.comp (State.emitSummary_frame ..) (by decide)
    | with_reducible apply Frame.foldl
    | with_reducible apply Frame.foldl2
    | (split <;> try (rename_i hq; have e := congrArg Prod.snd hq; dsimp only at e; subst e))
    | dsimp only
    | with_reducible intro _ _

theorem execScanLineProcessed_frame (transit : Fin 8) (s : State) : FrameO 0x20001009080020000010401 s (execScanLineProcessed transit s) := by
  unfold execScanLineProcessed
  repeat' first
    | with_reducible exact Frame.rfl _ _
    | with_reducible apply FrameO.powered
    | with_reducible apply FrameO.ok
    | with_reducible apply FrameO.next
    | with_reducible apply FrameO.ite
    | with_reducible apply Frame.ite
    | with_reducible apply Frame.ite2
    | with_reducible apply Frame.comp (State.readBands_frame ..) (by decide)
    | with_reducible apply Frame.comp (State.trackLine_frame ..) (by decide)
    | with_reducible apply Frame.comp (State.trnM_frame ..) (by decide)
    | with_reducible apply Frame.comp (State.snapLine_frame ..) (by decide)
    | with_reducible apply Frame.inci (by decide)
    | with_reducible apply Frame.wri (by decide)
    | (split <;> try (rename_i hq; have e := congrArg Prod.snd hq; dsimp only at e; subst e))
    | dsimp only
    | with_reducible intro _ _

theorem State.trnImage_frame (s : State) (t : Nat) : Frame 0x1000000000000000001 s (State.trnImage s t) := by
  unfold State.trnImage
  repeat' first
    | with_reducible exact Frame.rfl _ _
    | with_reducible apply Frame.ite
    | with_reducible apply Frame.ite2
    | with_reducible apply Frame.wri (by decide)
    | (split <;> try (rename_i hq; have e := congrArg Prod.snd hq; dsimp only at e; subst e))
    | dsimp only
    | with_reducible intro _ _

theorem State.pixReset_frame (s : State) : Frame 0x20001800080020000000401 s (State.pixReset s) := by
  unfold State.pixReset
  repeat' first
    | with_reducible exact Frame.rfl _ _
    | with_reducible apply Frame.ite
    | with_reducible apply Frame.ite2
    | with_reducible apply Frame.comp (State.portM_frame ..) (by decide)
    | with_reducible apply Frame.comp (State.bandErr_frame ..) (by decide)
    | with_reducible apply Frame.comp (State.trnM_frame ..) (by decide)
    | with_reducible apply Frame.setFld (by decide)
    | with_reducible apply Frame.wri (by decide)
    | with_reducible apply Frame.foldl
    | with_reducible apply Frame.foldl2
    | (split <;> try (rename_i hq; have e := congrArg Prod.snd hq; dsimp only at e; subst e))
    | dsimp only
    | with_reducible intro _ _

theorem State.trnReset_frame (s : State) : Frame 0x20001000080020000000401 s (State.trnReset s) := by
  unfold State.trnReset
  repeat' first
    | with_reducible exact Frame.rfl _ _
    | with_reducible apply Frame.ite
    | with_reducible apply Frame.ite2
    | with_reducible apply Frame.trnLoss (by decide) (by decide)
    | with_reducible apply Frame.comp (State.trnM_frame ..) (by decide)
    | with_reducible apply Frame.comp (State.trnImage_frame ..) (by decide)
    | with_reducible apply Frame.wri (by decide)
    | fail_if_no_progress with_reducible apply Frame.put_pix _ (by decide)
    | with_reducible apply Frame.foldl
    | with_reducible apply Frame.foldl2
    | (split <;> try (rename_i hq; have e := congrArg Prod.snd hq; dsimp only at e; subst e))
    | dsimp only
    | with_reducible intro _ _
    | fail_if_no_progress apply Frame.put_pix _ (by decide)

end Sys2Proof.Machine
end

