-- ==== Sys2Proof/Laws/FrameHandoff.lean ====
section
/-! SUPPORT. The frames of the operations of Machine/Handoff.lean. -/

set_option linter.unreachableTactic false
set_option linter.unusedTactic false

namespace Sys2Proof.Machine

open Sys2Proof

theorem State.outM_frame (s : State) (c : Nat) (f : HandOut → HandOut) : Frame 0x10000000000000 s (State.outM s c f) := by
  unfold State.outM
  repeat' first
    | with_reducible exact Frame.rfl _ _
    | with_reducible apply Frame.ite
    | fail_if_no_progress with_reducible apply Frame.put_twn _ (by decide)
    | (split <;> try (rename_i hq; have e := congrArg Prod.snd hq; dsimp only at e; subst e))
    | dsimp only
    | with_reducible intro _ _
    | fail_if_no_progress apply Frame.put_twn _ (by decide)

theorem State.handQueue_frame (s : State) (c : Nat) : Frame 0x10000000000000 s (State.handQueue s c) := by
  unfold State.handQueue
  repeat' first
    | with_reducible exact Frame.rfl _ _
    | with_reducible apply Frame.ite
    | with_reducible apply Frame.ite2
    | with_reducible apply Frame.comp (State.outM_frame ..) (by decide)
    | fail_if_no_progress with_reducible apply Frame.put_twn _ (by decide)
    | (split <;> try (rename_i hq; have e := congrArg Prod.snd hq; dsimp only at e; subst e))
    | dsimp only
    | with_reducible intro _ _
    | fail_if_no_progress apply Frame.put_twn _ (by decide)

theorem State.handEntry_frame (s : State) (c : Nat) (e : List Nat) : Frame 0x28000000090000000000401 s (State.handEntry s c e) := by
  unfold State.handEntry
  repeat' first
    | with_reducible exact Frame.rfl _ _
    | with_reducible apply Frame.ite
    | with_reducible apply Frame.ite2
    | with_reducible apply Frame.comp (State.raise_frame ..) (by decide)
    | with_reducible apply Frame.comp (State.outM_frame ..) (by decide)
    | with_reducible apply Frame.comp (State.handQueue_frame ..) (by decide)
    | with_reducible apply Frame.inci (by decide)
    | (split <;> try (rename_i hq; have e := congrArg Prod.snd hq; dsimp only at e; subst e))
    | dsimp only
    | with_reducible intro _ _

theorem State.pairM_frame (s : State) (f : PairUnit → PairUnit) : Frame 0x20000000000000 s (State.pairM s f) := by
  unfold State.pairM
  repeat' first
    | with_reducible exact Frame.rfl _ _
    | with_reducible apply Frame.ite
    | fail_if_no_progress with_reducible apply Frame.put_pair _ (by decide)
    | (split <;> try (rename_i hq; have e := congrArg Prod.snd hq; dsimp only at e; subst e))
    | dsimp only
    | with_reducible intro _ _
    | fail_if_no_progress apply Frame.put_pair _ (by decide)

theorem State.tieSend_frame (s : State) (typ count : Nat) (body : List Nat) : Frame 0x80000000000000 s (State.tieSend s typ count body) := by
  unfold State.tieSend
  repeat' first
    | with_reducible exact Frame.rfl _ _
    | with_reducible apply Frame.ite
    | with_reducible apply Frame.ite2
    | with_reducible apply Frame.comp (State.emit_frame ..) (by decide)
    | (split <;> try (rename_i hq; have e := congrArg Prod.snd hq; dsimp only at e; subst e))
    | dsimp only
    | with_reducible intro _ _

theorem Frame.diverge {mk : Nat} {sA sB : State} {f : Fld} {n : Nat} (hf : f.okIn mk = true) (hm : 0x20000000080000000000401 &&& mk = 0x20000000080000000000401)
    (h : Frame mk sA sB) : Frame mk sA (sB.diverge f n) := by
  unfold State.diverge
  repeat' first
    | exact h
    | with_reducible exact Frame.rfl _ _
    | with_reducible apply Frame.ite
    | with_reducible apply Frame.ite2
    | with_reducible apply Frame.comp (State.raise_frame ..) (mask_sub (by decide) hm)
    | with_reducible apply Frame.inc hf
    | (split <;> try (rename_i hq; have e := congrArg Prod.snd hq; dsimp only at e; subst e))
    | dsimp only
    | with_reducible intro _ _

theorem State.pairAge_frame (s : State) : Frame 0x300000000a0000000000401 s (State.pairAge s) := by
  unfold State.pairAge
  repeat' first
    | with_reducible exact Frame.rfl _ _
    | with_reducible apply Frame.ite
    | with_reducible apply Frame.ite2
    | with_reducible apply Frame.diverge (by decide) (by decide)
    | with_reducible apply Frame.comp (State.pairM_frame ..) (by decide)
    | (split <;> try (rename_i hq; have e := congrArg Prod.snd hq; dsimp only at e; subst e))
    | dsimp only
    | with_reducible intro _ _

theorem State.pairRequest_frame (s : State) (r : StakeReq) : Frame 0x300000000a0000000000401 s (State.pairRequest s r) := by
  unfold State.pairRequest
  repeat' first
    | with_reducible exact Frame.rfl _ _
    | with_reducible apply Frame.ite
    | with_reducible apply Frame.ite2
    | with_reducible apply Frame.comp (State.pairM_frame ..) (by decide)
    | with_reducible apply Frame.comp (State.pairAge_frame ..) (by decide)
    | (split <;> try (rename_i hq; have e := congrArg Prod.snd hq; dsimp only at e; subst e))
    | dsimp only
    | with_reducible intro _ _

theorem State.pairMirror_frame (s : State) (r : StakeReq) : Frame 0x20000000000000 s (State.pairMirror s r) := by
  unfold State.pairMirror
  repeat' first
    | with_reducible exact Frame.rfl _ _
    | with_reducible apply Frame.ite
    | with_reducible apply Frame.ite2
    | with_reducible apply Frame.comp (State.pairM_frame ..) (by decide)
    | (split <;> try (rename_i hq; have e := congrArg Prod.snd hq; dsimp only at e; subst e))
    | dsimp only
    | with_reducible intro _ _

theorem State.pairLoop_frame (s : State) (n : Nat) (r : CfgRec) (c : FV) : Frame 0x300000000a0000000000401 s (State.pairLoop s n r c) := by
  unfold State.pairLoop
  repeat' first
    | with_reducible exact Frame.rfl _ _
    | with_reducible apply Frame.ite
    | with_reducible apply Frame.ite2
    | with_reducible apply Frame.comp (State.pairM_frame ..) (by decide)
    | with_reducible apply Frame.diverge (by decide) (by decide)
    | (split <;> try (rename_i hq; have e := congrArg Prod.snd hq; dsimp only at e; subst e))
    | dsimp only
    | with_reducible intro _ _

end Sys2Proof.Machine
end

