-- ==== Sys2Proof/Laws/FrameTally.lean ====
section
/-! SUPPORT. The frames of the operations of Machine/Tally.lean. -/

set_option linter.unreachableTactic false
set_option linter.unusedTactic false

namespace Sys2Proof.Machine

open Sys2Proof

theorem State.talM_frame (s : State) (f : TallyUnit → TallyUnit) : Frame 0x40000000000 s (State.talM s f) := by
  unfold State.talM
  repeat' first
    | with_reducible exact Frame.rfl _ _
    | with_reducible apply Frame.ite
    | fail_if_no_progress with_reducible apply Frame.put_tally _ (by decide)
    | (split <;> try (rename_i hq; have e := congrArg Prod.snd hq; dsimp only at e; subst e))
    | dsimp only
    | with_reducible intro _ _
    | fail_if_no_progress apply Frame.put_tally _ (by decide)

theorem State.objPut_frame (s : State) (n : Nat) (o : Obj) : Frame 0x40000000000 s (State.objPut s n o) := by
  unfold State.objPut
  repeat' first
    | with_reducible exact Frame.rfl _ _
    | with_reducible apply Frame.ite
    | with_reducible apply Frame.ite2
    | with_reducible apply Frame.comp (State.talM_frame ..) (by decide)
    | (split <;> try (rename_i hq; have e := congrArg Prod.snd hq; dsimp only at e; subst e))
    | dsimp only
    | with_reducible intro _ _

theorem State.talShow_frame (s : State) : Frame 0x20000400080000000000401 s (State.talShow s) := by
  unfold State.talShow
  repeat' first
    | with_reducible exact Frame.rfl _ _
    | with_reducible apply Frame.ite
    | with_reducible apply Frame.ite2
    | with_reducible apply Frame.comp (State.raiseIf_frame ..) (by decide)
    | with_reducible apply Frame.wr (by decide)
    | (split <;> try (rename_i hq; have e := congrArg Prod.snd hq; dsimp only at e; subst e))
    | dsimp only
    | with_reducible intro _ _

theorem State.recPut_frame (s : State) (n : Nat) (w : List Nat) : Frame 0x8000000000000007 s (State.recPut s n w) := by
  unfold State.recPut
  repeat' first
    | with_reducible exact Frame.rfl _ _
    | with_reducible apply Frame.ite
    | with_reducible apply Frame.ite2
    | with_reducible apply Frame.comp (State.memPuts_frame ..) (by decide)
    | with_reducible apply Frame.comp (State.memPut_frame ..) (by decide)
    | (split <;> try (rename_i hq; have e := congrArg Prod.snd hq; dsimp only at e; subst e))
    | dsimp only
    | with_reducible intro _ _

theorem State.talDrop_frame (s : State) (n : Nat) : Frame 0x40000000000 s (State.talDrop s n) := by
  unfold State.talDrop
  repeat' first
    | with_reducible exact Frame.rfl _ _
    | with_reducible apply Frame.ite
    | with_reducible apply Frame.ite2
    | with_reducible apply Frame.comp (State.talM_frame ..) (by decide)
    | (split <;> try (rename_i hq; have e := congrArg Prod.snd hq; dsimp only at e; subst e))
    | dsimp only
    | with_reducible intro _ _

theorem State.talQuarantine_frame (s : State) (n : Nat) (o : Obj) (w0 : Option Nat) : Frame 0x20000408080040000000407 s (State.talQuarantine s n o w0) := by
  unfold State.talQuarantine
  repeat' first
    | with_reducible exact Frame.rfl _ _
    | with_reducible apply Frame.ite
    | with_reducible apply Frame.ite2
    | with_reducible apply Frame.comp (State.talDrop_frame ..) (by decide)
    | with_reducible apply Frame.comp (State.memPut_frame ..) (by decide)
    | with_reducible apply Frame.comp (State.objPut_frame ..) (by decide)
    | with_reducible apply Frame.comp (State.raise_frame ..) (by decide)
    | with_reducible apply Frame.comp (State.talShow_frame ..) (by decide)
    | with_reducible apply Frame.inc (by decide)
    | with_reducible apply Frame.wr (by decide)
    | (split <;> try (rename_i hq; have e := congrArg Prod.snd hq; dsimp only at e; subst e))
    | dsimp only
    | with_reducible intro _ _

theorem State.recRead_frame (s : State) (n : Nat) (o : Obj) : Frame 0x20000408080040000000407 s (State.recRead s n o).2 := by
  unfold State.recRead
  repeat' first
    | with_reducible exact Frame.rfl _ _
    | with_reducible apply Frame.ite
    | with_reducible apply Frame.ite2
    | with_reducible apply Frame.comp (State.memReads_frame ..) (by decide)
    | with_reducible apply Frame.comp (State.talQuarantine_frame ..) (by decide)
    | (split <;> try (rename_i hq; have e := congrArg Prod.snd hq; dsimp only at e; subst e))
    | dsimp only
    | with_reducible intro _ _

theorem State.recUpd_frame (s : State) (n : Nat) (o : Obj) (f : List Nat → List Nat) : Frame 0x20000408080040000000407 s (State.recUpd s n o f).2 := by
  unfold State.recUpd
  repeat' first
    | with_reducible exact Frame.rfl _ _
    | with_reducible apply Frame.ite
    | with_reducible apply Frame.ite2
    | with_reducible apply Frame.comp (State.recRead_frame ..) (by decide)
    | with_reducible apply Frame.comp (State.recPut_frame ..) (by decide)
    | (split <;> try (rename_i hq; have e := congrArg Prod.snd hq; dsimp only at e; subst e))
    | dsimp only
    | with_reducible intro _ _

theorem State.reqTry_frame (s : State) (r : StakeReq) (lead : Nat) : Frame 0x20000400080040000000401 s (State.reqTry s r lead).2 := by
  unfold State.reqTry
  repeat' first
    | with_reducible exact Frame.rfl _ _
    | with_reducible apply Frame.ite
    | with_reducible apply Frame.ite2
    | with_reducible apply Frame.comp (State.talM_frame ..) (by decide)
    | with_reducible apply Frame.comp (State.raise_frame ..) (by decide)
    | with_reducible apply Frame.inc (by decide)
    | (split <;> try (rename_i hq; have e := congrArg Prod.snd hq; dsimp only at e; subst e))
    | dsimp only
    | with_reducible intro _ _

theorem State.reqAll_frame (l : List StakeReq) (s : State) (lead : Nat) : Frame 0x20000400080040000000401 s (s.reqAll lead l).2 := by
  induction l generalizing s with
  | nil =>
    unfold State.reqAll
    repeat' first
      | with_reducible exact Frame.rfl _ _
      | with_reducible apply Frame.ite
      | with_reducible apply Frame.ite2
      | with_reducible apply Frame.comp (State.talM_frame ..) (by decide)
      | with_reducible apply Frame.comp (State.reqTry_frame ..) (by decide)
      | (split <;> try (rename_i hq; have e := congrArg Prod.snd hq; dsimp only at e; subst e))
      | dsimp only
      | with_reducible intro _ _
  | cons x l ih =>
    unfold State.reqAll
    repeat' first
      | with_reducible apply Frame.comp (ih ..) (by decide)
      | with_reducible exact Frame.rfl _ _
      | with_reducible apply Frame.ite
      | with_reducible apply Frame.ite2
      | with_reducible apply Frame.comp (State.talM_frame ..) (by decide)
      | with_reducible apply Frame.comp (State.reqTry_frame ..) (by decide)
      | (split <;> try (rename_i hq; have e := congrArg Prod.snd hq; dsimp only at e; subst e))
      | dsimp only
      | with_reducible intro _ _

theorem State.talDone_frame (s : State) (n : Nat) (w : List Nat) : Frame 0x20000408080040000000407 s (State.talDone s n w) := by
  unfold State.talDone
  repeat' first
    | with_reducible exact Frame.rfl _ _
    | with_reducible apply Frame.ite
    | with_reducible apply Frame.ite2
    | with_reducible apply Frame.comp (State.recPut_frame ..) (by decide)
    | with_reducible apply Frame.comp (State.talM_frame ..) (by decide)
    | with_reducible apply Frame.comp (State.talShow_frame ..) (by decide)
    | (split <;> try (rename_i hq; have e := congrArg Prod.snd hq; dsimp only at e; subst e))
    | dsimp only
    | with_reducible intro _ _

theorem State.talFinish_frame (s : State) (n : Nat) (o : Obj) (w : List Nat) : Frame 0x20000409080040000010407 s (State.talFinish s n o w) := by
  unfold State.talFinish
  repeat' first
    | with_reducible exact Frame.rfl _ _
    | with_reducible apply Frame.ite
    | with_reducible apply Frame.ite2
    | with_reducible apply Frame.comp (State.recPut_frame ..) (by decide)
    | with_reducible apply Frame.comp (State.objPut_frame ..) (by decide)
    | with_reducible apply Frame.comp (State.talM_frame ..) (by decide)
    | with_reducible apply Frame.comp (State.dmaReady_frame ..) (by decide)
    | with_reducible apply Frame.comp (State.raise_frame ..) (by decide)
    | with_reducible apply Frame.comp (State.talDone_frame ..) (by decide)
    | with_reducible apply Frame.inc (by decide)
    | with_reducible apply Frame.wr (by decide)
    | with_reducible apply Frame.wrapij (by decide)
    | (split <;> try (rename_i hq; have e := congrArg Prod.snd hq; dsimp only at e; subst e))
    | dsimp only
    | with_reducible intro _ _

theorem State.talStake_frame (s : State) (n : Nat) (o : Obj) (w : List Nat) (l : Lane) : Frame 0x20000409080040000010407 s (State.talStake s n o w l) := by
  unfold State.talStake
  repeat' first
    | with_reducible exact Frame.rfl _ _
    | with_reducible apply Frame.ite
    | with_reducible apply Frame.ite2
    | with_reducible apply Frame.comp (State.recPut_frame ..) (by decide)
    | with_reducible apply Frame.comp (State.talFinish_frame ..) (by decide)
    | with_reducible apply Frame.comp (State.reqAll_frame ..) (by decide)
    | with_reducible apply Frame.comp (State.objPut_frame ..) (by decide)
    | (split <;> try (rename_i hq; have e := congrArg Prod.snd hq; dsimp only at e; subst e))
    | dsimp only
    | with_reducible intro _ _

theorem State.talAct_frame (s : State) (n : Nat) (o : Obj) (w : List Nat) : Frame 0x28000409090040000010407 s (State.talAct s n o w) := by
  unfold State.talAct
  repeat' first
    | with_reducible exact Frame.rfl _ _
    | with_reducible apply Frame.ite
    | with_reducible apply Frame.ite2
    | with_reducible apply Frame.comp (State.handEntry_frame ..) (by decide)
    | with_reducible apply Frame.comp (State.talStake_frame ..) (by decide)
    | with_reducible apply Frame.comp (State.recPut_frame ..) (by decide)
    | with_reducible apply Frame.comp (State.talFinish_frame ..) (by decide)
    | (split <;> try (rename_i hq; have e := congrArg Prod.snd hq; dsimp only at e; subst e))
    | dsimp only
    | with_reducible intro _ _

theorem State.classified_frame (s : State) (n : Nat) (o : Obj) (cls score act : Nat) (f : List Nat → List Nat) : Frame 0x28000409090040000010407 s (State.classified s n o cls score act f) := by
  unfold State.classified
  repeat' first
    | with_reducible exact Frame.rfl _ _
    | with_reducible apply Frame.ite
    | with_reducible apply Frame.ite2
    | with_reducible apply Frame.comp (State.recUpd_frame ..) (by decide)
    | with_reducible apply Frame.comp (State.talAct_frame ..) (by decide)
    | (split <;> try (rename_i hq; have e := congrArg Prod.snd hq; dsimp only at e; subst e))
    | dsimp only
    | with_reducible intro _ _

theorem State.lossResult_frame (s : State) (source : Nat) (cls : Option Nat) : Frame 0x1000000000000 s (State.lossResult s source cls) := by
  unfold State.lossResult
  repeat' first
    | with_reducible exact Frame.rfl _ _
    | with_reducible apply Frame.ite
    | with_reducible apply Frame.ite2
    | fail_if_no_progress with_reducible apply Frame.put_msr _ (by decide)
    | (split <;> try (rename_i hq; have e := congrArg Prod.snd hq; dsimp only at e; subst e))
    | dsimp only
    | with_reducible intro _ _
    | fail_if_no_progress apply Frame.put_msr _ (by decide)

theorem State.defaultPath_frame (s : State) (n : Nat) (o : Obj) (bad : Bool) : Frame 0x28000409091040000010407 s (State.defaultPath s n o bad) := by
  unfold State.defaultPath
  repeat' first
    | with_reducible exact Frame.rfl _ _
    | with_reducible apply Frame.ite
    | with_reducible apply Frame.ite2
    | with_reducible apply Frame.comp (State.talDrop_frame ..) (by decide)
    | with_reducible apply Frame.comp (State.lossResult_frame ..) (by decide)
    | with_reducible apply Frame.comp (State.classified_frame ..) (by decide)
    | (split <;> try (rename_i hq; have e := congrArg Prod.snd hq; dsimp only at e; subst e))
    | dsimp only
    | with_reducible intro _ _

theorem State.talClosed_frame (s : State) (n : Nat) (o : Obj) : Frame 0x28000409091040000010407 s (State.talClosed s n o) := by
  unfold State.talClosed
  repeat' first
    | with_reducible exact Frame.rfl _ _
    | with_reducible apply Frame.ite
    | with_reducible apply Frame.ite2
    | with_reducible apply Frame.comp (State.objPut_frame ..) (by decide)
    | with_reducible apply Frame.comp (State.talM_frame ..) (by decide)
    | with_reducible apply Frame.comp (State.defaultPath_frame ..) (by decide)
    | with_reducible apply Frame.comp (State.lossResult_frame ..) (by decide)
    | with_reducible apply Frame.comp (State.classified_frame ..) (by decide)
    | with_reducible apply Frame.comp (State.recUpd_frame ..) (by decide)
    | with_reducible apply Frame.comp (State.talFinish_frame ..) (by decide)
    | (split <;> try (rename_i hq; have e := congrArg Prod.snd hq; dsimp only at e; subst e))
    | dsimp only
    | with_reducible intro _ _

theorem State.untracked_frame (s : State) (source : Nat) (r : Option CfgRec) (lanes : List (Option Lane)) (g : Geo) : Frame 0x20000400081040000000401 s (State.untracked s source r lanes g) := by
  unfold State.untracked
  repeat' first
    | with_reducible exact Frame.rfl _ _
    | with_reducible apply Frame.ite
    | with_reducible apply Frame.ite2
    | with_reducible apply Frame.comp (State.lossResult_frame ..) (by decide)
    | with_reducible apply Frame.comp (State.raise_frame ..) (by decide)
    | with_reducible apply Frame.comp (State.reqAll_frame ..) (by decide)
    | with_reducible apply Frame.inc (by decide)
    | (split <;> try (rename_i hq; have e := congrArg Prod.snd hq; dsimp only at e; subst e))
    | dsimp only
    | with_reducible intro _ _

theorem State.talMerge_frame (s : State) (i : InObj) (r : Option CfgRec) (prim : Bool) (n : Nat) (o : Obj) : Frame 0x28000409091040000010407 s (State.talMerge s i r prim n o) := by
  unfold State.talMerge
  repeat' first
    | with_reducible exact Frame.rfl _ _
    | with_reducible apply Frame.ite
    | with_reducible apply Frame.ite2
    | with_reducible apply Frame.comp (State.recUpd_frame ..) (by decide)
    | with_reducible apply Frame.comp (State.talClosed_frame ..) (by decide)
    | (split <;> try (rename_i hq; have e := congrArg Prod.snd hq; dsimp only at e; subst e))
    | dsimp only
    | with_reducible intro _ _

theorem State.talAlloc_frame (s : State) (i : InObj) (r : Option CfgRec) (pair : Option (CfgRec × Bool)) : Frame 0x28000409091040000010407 s (State.talAlloc s i r pair) := by
  unfold State.talAlloc
  repeat' first
    | with_reducible exact Frame.rfl _ _
    | with_reducible apply Frame.ite
    | with_reducible apply Frame.ite2
    | with_reducible apply Frame.comp (State.untracked_frame ..) (by decide)
    | with_reducible apply Frame.comp (State.talShow_frame ..) (by decide)
    | with_reducible apply Frame.comp (State.memRead_frame ..) (by decide)
    | with_reducible apply Frame.comp (State.recPut_frame ..) (by decide)
    | with_reducible apply Frame.comp (State.objPut_frame ..) (by decide)
    | with_reducible apply Frame.comp (State.talM_frame ..) (by decide)
    | with_reducible apply Frame.comp (State.talAct_frame ..) (by decide)
    | with_reducible apply Frame.comp (State.raise_frame ..) (by decide)
    | with_reducible apply Frame.comp (State.talClosed_frame ..) (by decide)
    | with_reducible apply Frame.inc (by decide)
    | with_reducible apply Frame.wr (by decide)
    | with_reducible apply Frame.wr64 (by decide) (by decide)
    | (split <;> try (rename_i hq; have e := congrArg Prod.snd hq; dsimp only at e; subst e))
    | dsimp only
    | with_reducible intro _ _

theorem State.intakeObj_frame (s : State) (i : InObj) : Frame 0x28000409091040000010407 s (State.intakeObj s i) := by
  unfold State.intakeObj
  repeat' first
    | with_reducible exact Frame.rfl _ _
    | with_reducible apply Frame.ite
    | with_reducible apply Frame.ite2
    | with_reducible apply Frame.comp (State.untracked_frame ..) (by decide)
    | with_reducible apply Frame.comp (State.talShow_frame ..) (by decide)
    | with_reducible apply Frame.comp (State.raise_frame ..) (by decide)
    | with_reducible apply Frame.comp (State.talMerge_frame ..) (by decide)
    | with_reducible apply Frame.comp (State.talAlloc_frame ..) (by decide)
    | with_reducible apply Frame.inc (by decide)
    | (split <;> try (rename_i hq; have e := congrArg Prod.snd hq; dsimp only at e; subst e))
    | dsimp only
    | with_reducible intro _ _

theorem State.inPop_frame (s : State) (q : Nat) : Frame 0x60000000000 s (State.inPop s q) := by
  unfold State.inPop
  repeat' first
    | with_reducible exact Frame.rfl _ _
    | with_reducible apply Frame.ite
    | with_reducible apply Frame.ite2
    | with_reducible apply Frame.comp (State.talM_frame ..) (by decide)
    | fail_if_no_progress with_reducible apply Frame.put_pix _ (by decide)
    | (split <;> try (rename_i hq; have e := congrArg Prod.snd hq; dsimp only at e; subst e))
    | dsimp only
    | with_reducible intro _ _
    | fail_if_no_progress apply Frame.put_pix _ (by decide)

theorem execIntake_frame (s : State) : FrameO 0x28000409091060000010407 s (execIntake s) := by
  unfold execIntake
  repeat' first
    | with_reducible exact Frame.rfl _ _
    | with_reducible apply FrameO.powered
    | with_reducible apply FrameO.ok
    | with_reducible apply FrameO.next
    | with_reducible apply FrameO.ite
    | with_reducible apply Frame.ite
    | with_reducible apply Frame.ite2
    | with_reducible apply Frame.comp (State.inPop_frame ..) (by decide)
    | with_reducible apply Frame.comp (State.talM_frame ..) (by decide)
    | with_reducible apply Frame.comp (State.intakeObj_frame ..) (by decide)
    | (split <;> try (rename_i hq; have e := congrArg Prod.snd hq; dsimp only at e; subst e))
    | dsimp only
    | with_reducible intro _ _

theorem execPairingWaitEnd_frame (slot : Fin 524288) (s : State) : FrameO 0x28000409091040000010407 s (execPairingWaitEnd slot s) := by
  unfold execPairingWaitEnd
  repeat' first
    | with_reducible exact Frame.rfl _ _
    | with_reducible apply FrameO.powered
    | with_reducible apply FrameO.ok
    | with_reducible apply FrameO.next
    | with_reducible apply FrameO.ite
    | with_reducible apply Frame.ite
    | with_reducible apply Frame.ite2
    | with_reducible apply Frame.comp (State.recUpd_frame ..) (by decide)
    | with_reducible apply Frame.comp (State.raise_frame ..) (by decide)
    | with_reducible apply Frame.comp (State.talClosed_frame ..) (by decide)
    | with_reducible apply Frame.inc (by decide)
    | (split <;> try (rename_i hq; have e := congrArg Prod.snd hq; dsimp only at e; subst e))
    | dsimp only
    | with_reducible intro _ _

theorem execStakeRequestEntry_frame (s : State) : FrameO 0x20000409080040000010407 s (execStakeRequestEntry s) := by
  unfold execStakeRequestEntry
  repeat' first
    | with_reducible exact Frame.rfl _ _
    | with_reducible apply FrameO.powered
    | with_reducible apply FrameO.ok
    | with_reducible apply FrameO.next
    | with_reducible apply FrameO.ite
    | with_reducible apply Frame.ite
    | with_reducible apply Frame.ite2
    | with_reducible apply Frame.comp (State.talM_frame ..) (by decide)
    | with_reducible apply Frame.comp (State.reqTry_frame ..) (by decide)
    | with_reducible apply Frame.comp (State.objPut_frame ..) (by decide)
    | with_reducible apply Frame.comp (State.recUpd_frame ..) (by decide)
    | with_reducible apply Frame.comp (State.talFinish_frame ..) (by decide)
    | (split <;> try (rename_i hq; have e := congrArg Prod.snd hq; dsimp only at e; subst e))
    | dsimp only
    | with_reducible intro _ _

theorem execStakeReport_frame (s : State) : FrameO 0x20000409080040000010407 s (execStakeReport s) := by
  unfold execStakeReport
  repeat' first
    | with_reducible exact Frame.rfl _ _
    | with_reducible apply FrameO.powered
    | with_reducible apply FrameO.ok
    | with_reducible apply FrameO.next
    | with_reducible apply FrameO.ite
    | with_reducible apply Frame.ite
    | with_reducible apply Frame.ite2
    | with_reducible apply Frame.comp (State.talM_frame ..) (by decide)
    | with_reducible apply Frame.comp (State.recRead_frame ..) (by decide)
    | with_reducible apply Frame.comp (State.recPut_frame ..) (by decide)
    | with_reducible apply Frame.comp (State.raise_frame ..) (by decide)
    | with_reducible apply Frame.comp (State.talFinish_frame ..) (by decide)
    | with_reducible apply Frame.inc (by decide)
    | (split <;> try (rename_i hq; have e := congrArg Prod.snd hq; dsimp only at e; subst e))
    | dsimp only
    | with_reducible intro _ _

theorem execExportComplete_frame (s : State) : FrameO 0x20000408080040000000407 s (execExportComplete s) := by
  unfold execExportComplete
  repeat' first
    | with_reducible exact Frame.rfl _ _
    | with_reducible apply FrameO.powered
    | with_reducible apply FrameO.ok
    | with_reducible apply FrameO.next
    | with_reducible apply FrameO.ite
    | with_reducible apply Frame.ite
    | with_reducible apply Frame.ite2
    | with_reducible apply Frame.comp (State.talM_frame ..) (by decide)
    | with_reducible apply Frame.comp (State.recRead_frame ..) (by decide)
    | with_reducible apply Frame.comp (State.talDone_frame ..) (by decide)
    | with_reducible apply Frame.wr (by decide)
    | (split <;> try (rename_i hq; have e := congrArg Prod.snd hq; dsimp only at e; subst e))
    | dsimp only
    | with_reducible intro _ _

theorem execQuarantineRelease_frame (slot : Fin 524288) (s : State) : FrameO 0x20000400080040000000401 s (execQuarantineRelease slot s) := by
  unfold execQuarantineRelease
  repeat' first
    | with_reducible exact Frame.rfl _ _
    | with_reducible apply FrameO.powered
    | with_reducible apply FrameO.ok
    | with_reducible apply FrameO.next
    | with_reducible apply FrameO.ite
    | with_reducible apply Frame.ite
    | with_reducible apply Frame.ite2
    | with_reducible apply Frame.comp (State.talM_frame ..) (by decide)
    | with_reducible apply Frame.comp (State.talShow_frame ..) (by decide)
    | (split <;> try (rename_i hq; have e := congrArg Prod.snd hq; dsimp only at e; subst e))
    | dsimp only
    | with_reducible intro _ _

theorem State.epochChange_frame (s : State) : Frame 0x200004010800c0000010401 s (State.epochChange s) := by
  unfold State.epochChange
  repeat' first
    | with_reducible exact Frame.rfl _ _
    | with_reducible apply Frame.ite
    | with_reducible apply Frame.ite2
    | with_reducible apply Frame.comp (State.talM_frame ..) (by decide)
    | with_reducible apply Frame.comp (State.dmaDiscard_frame ..) (by decide)
    | with_reducible apply Frame.comp (State.talShow_frame ..) (by decide)
    | with_reducible apply Frame.wr (by decide)
    | fail_if_no_progress with_reducible apply Frame.put_stk _ (by decide)
    | (split <;> try (rename_i hq; have e := congrArg Prod.snd hq; dsimp only at e; subst e))
    | dsimp only
    | with_reducible intro _ _
    | fail_if_no_progress apply Frame.put_stk _ (by decide)

theorem State.talImage_frame (s : State) : Frame 0x400000000000000001 s (State.talImage s) := by
  unfold State.talImage
  repeat' first
    | with_reducible exact Frame.rfl _ _
    | with_reducible apply Frame.ite
    | with_reducible apply Frame.ite2
    | with_reducible apply Frame.wr (by decide)
    | (split <;> try (rename_i hq; have e := congrArg Prod.snd hq; dsimp only at e; subst e))
    | dsimp only
    | with_reducible intro _ _

theorem State.talReset_frame (s : State) : Frame 0x200004010810c0000010401 s (State.talReset s) := by
  unfold State.talReset
  repeat' first
    | with_reducible exact Frame.rfl _ _
    | with_reducible apply Frame.ite
    | with_reducible apply Frame.ite2
    | with_reducible apply Frame.comp (State.talDrop_frame ..) (by decide)
    | with_reducible apply Frame.comp (State.untracked_frame ..) (by decide)
    | with_reducible apply Frame.comp (State.epochChange_frame ..) (by decide)
    | with_reducible apply Frame.comp (State.talImage_frame ..) (by decide)
    | with_reducible apply Frame.foldl
    | with_reducible apply Frame.foldl2
    | (split <;> try (rename_i hq; have e := congrArg Prod.snd hq; dsimp only at e; subst e))
    | dsimp only
    | with_reducible intro _ _

end Sys2Proof.Machine
end

