-- ==== Sys2Proof/Laws/FrameStations.lean ====
section
/-! SUPPORT. The frames of the operations of Machine/Stations.lean. -/

set_option linter.unreachableTactic false
set_option linter.unusedTactic false

namespace Sys2Proof.Machine

open Sys2Proof

theorem State.fstM_frame (s : State) (k : Nat) (f : Station → Station) : Frame 0x2000000040000000001 s (State.fstM s k f) := by
  unfold State.fstM
  repeat' first
    | with_reducible exact Frame.rfl _ _
    | with_reducible apply Frame.ite
    | with_reducible apply Frame.ite2
    | with_reducible apply Frame.comp (State.talM_frame ..) (by decide)
    | with_reducible apply Frame.wri (by decide)
    | (split <;> try (rename_i hq; have e := congrArg Prod.snd hq; dsimp only at e; subst e))
    | dsimp only
    | with_reducible intro _ _

theorem State.cstM_frame (s : State) (k : Nat) (f : Station → Station) : Frame 0x4000000040000000001 s (State.cstM s k f) := by
  unfold State.cstM
  repeat' first
    | with_reducible exact Frame.rfl _ _
    | with_reducible apply Frame.ite
    | with_reducible apply Frame.ite2
    | with_reducible apply Frame.comp (State.talM_frame ..) (by decide)
    | with_reducible apply Frame.wri (by decide)
    | (split <;> try (rename_i hq; have e := congrArg Prod.snd hq; dsimp only at e; subst e))
    | dsimp only
    | with_reducible intro _ _

theorem State.stationsShow_frame (s : State) : Frame 0x6000000040000000001 s (State.stationsShow s) := by
  unfold State.stationsShow
  repeat' first
    | with_reducible exact Frame.rfl _ _
    | with_reducible apply Frame.ite
    | with_reducible apply Frame.ite2
    | with_reducible apply Frame.comp (State.fstM_frame ..) (by decide)
    | with_reducible apply Frame.comp (State.cstM_frame ..) (by decide)
    | with_reducible apply Frame.foldl
    | with_reducible apply Frame.foldl2
    | (split <;> try (rename_i hq; have e := congrArg Prod.snd hq; dsimp only at e; subst e))
    | dsimp only
    | with_reducible intro _ _

theorem State.feaStart_frame (s : State) (k : Nat) : Frame 0x20002008080040000000401 s (State.feaStart s k) := by
  unfold State.feaStart
  repeat' first
    | with_reducible exact Frame.rfl _ _
    | with_reducible apply Frame.ite
    | with_reducible apply Frame.ite2
    | with_reducible apply Frame.comp (State.memReads_frame ..) (by decide)
    | with_reducible apply Frame.comp (State.fstM_frame ..) (by decide)
    | (split <;> try (rename_i hq; have e := congrArg Prod.snd hq; dsimp only at e; subst e))
    | dsimp only
    | with_reducible intro _ _

theorem State.treeNode_frame (s : State) (tree i : Nat) : Frame 0x20000008080000000000401 s (State.treeNode s tree i).2 := by
  unfold State.treeNode
  repeat' first
    | with_reducible exact Frame.rfl _ _
    | with_reducible apply Frame.ite
    | with_reducible apply Frame.ite2
    | with_reducible apply Frame.comp (State.memRead_frame ..) (by decide)
    | (split <;> try (rename_i hq; have e := congrArg Prod.snd hq; dsimp only at e; subst e))
    | dsimp only
    | with_reducible intro _ _

theorem State.treeWalk_frame (n : Nat) (s : State) (m : CfgRec) (tree : Nat) (x : List Int) (i : Nat) : Frame 0x20000008080000000000401 s (s.treeWalk m tree x n i).2 := by
  induction n generalizing s i with
  | zero =>
    unfold State.treeWalk
    repeat' first
      | with_reducible exact Frame.rfl _ _
      | with_reducible apply Frame.ite
      | with_reducible apply Frame.ite2
      | with_reducible apply Frame.comp (State.treeNode_frame ..) (by decide)
      | (split <;> try (rename_i hq; have e := congrArg Prod.snd hq; dsimp only at e; subst e))
      | dsimp only
      | with_reducible intro _ _
  | succ n ih =>
    unfold State.treeWalk
    repeat' first
      | with_reducible apply Frame.comp (ih ..) (by decide)
      | with_reducible exact Frame.rfl _ _
      | with_reducible apply Frame.ite
      | with_reducible apply Frame.ite2
      | with_reducible apply Frame.comp (State.treeNode_frame ..) (by decide)
      | (split <;> try (rename_i hq; have e := congrArg Prod.snd hq; dsimp only at e; subst e))
      | dsimp only
      | with_reducible intro _ _

theorem State.trees_frame (n : Nat) (s : State) (m : CfgRec) (table : Nat) (x : List Int) (t : Nat) (votes : List Nat) (err : Nat) : Frame 0x20000008080000000000401 s (s.trees m table x n t votes err).2 := by
  induction n generalizing s t votes err with
  | zero =>
    unfold State.trees
    repeat' first
      | with_reducible exact Frame.rfl _ _
      | with_reducible apply Frame.ite
      | with_reducible apply Frame.ite2
      | with_reducible apply Frame.comp (State.treeWalk_frame ..) (by decide)
      | (split <;> try (rename_i hq; have e := congrArg Prod.snd hq; dsimp only at e; subst e))
      | dsimp only
      | with_reducible intro _ _
  | succ n ih =>
    unfold State.trees
    repeat' first
      | with_reducible apply Frame.comp (ih ..) (by decide)
      | with_reducible exact Frame.rfl _ _
      | with_reducible apply Frame.ite
      | with_reducible apply Frame.ite2
      | with_reducible apply Frame.comp (State.treeWalk_frame ..) (by decide)
      | (split <;> try (rename_i hq; have e := congrArg Prod.snd hq; dsimp only at e; subst e))
      | dsimp only
      | with_reducible intro _ _

theorem State.evalTrees_frame (s : State) (m : CfgRec) (table : Nat) (x : List Int) : Frame 0x20000008080000000000401 s (State.evalTrees s m table x).2 := by
  unfold State.evalTrees
  repeat' first
    | with_reducible exact Frame.rfl _ _
    | with_reducible apply Frame.ite
    | with_reducible apply Frame.ite2
    | with_reducible apply Frame.comp (State.trees_frame ..) (by decide)
    | (split <;> try (rename_i hq; have e := congrArg Prod.snd hq; dsimp only at e; subst e))
    | dsimp only
    | with_reducible intro _ _

theorem State.linearSums_frame (n : Nat) (s : State) (m : CfgRec) (table : Nat) (x : List Int) (c : Nat) : Frame 0x20000008080000000000401 s (s.linearSums m table x n c).2 := by
  induction n generalizing s c with
  | zero =>
    unfold State.linearSums
    repeat' first
      | with_reducible exact Frame.rfl _ _
      | with_reducible apply Frame.ite
      | with_reducible apply Frame.ite2
      | with_reducible apply Frame.comp (State.memBytes_frame ..) (by decide)
      | with_reducible apply Frame.comp (State.memRead_frame ..) (by decide)
      | with_reducible apply Frame.foldl
      | with_reducible apply Frame.foldl2
      | (split <;> try (rename_i hq; have e := congrArg Prod.snd hq; dsimp only at e; subst e))
      | dsimp only
      | with_reducible intro _ _
  | succ n ih =>
    unfold State.linearSums
    repeat' first
      | with_reducible apply Frame.comp (ih ..) (by decide)
      | with_reducible exact Frame.rfl _ _
      | with_reducible apply Frame.ite
      | with_reducible apply Frame.ite2
      | with_reducible apply Frame.comp (State.memBytes_frame ..) (by decide)
      | with_reducible apply Frame.comp (State.memRead_frame ..) (by decide)
      | with_reducible apply Frame.foldl
      | with_reducible apply Frame.foldl2
      | (split <;> try (rename_i hq; have e := congrArg Prod.snd hq; dsimp only at e; subst e))
      | dsimp only
      | with_reducible intro _ _

theorem State.evalLinear_frame (s : State) (m : CfgRec) (table : Nat) (x : List Int) : Frame 0x20000008080000000000401 s (State.evalLinear s m table x).2 := by
  unfold State.evalLinear
  repeat' first
    | with_reducible exact Frame.rfl _ _
    | with_reducible apply Frame.ite
    | with_reducible apply Frame.ite2
    | with_reducible apply Frame.comp (State.linearSums_frame ..) (by decide)
    | (split <;> try (rename_i hq; have e := congrArg Prod.snd hq; dsimp only at e; subst e))
    | dsimp only
    | with_reducible intro _ _

theorem State.clsBanks_frame (s : State) : Frame 0x20004000080000000000401 s (State.clsBanks s) := by
  unfold State.clsBanks
  repeat' first
    | with_reducible exact Frame.rfl _ _
    | with_reducible apply Frame.ite
    | with_reducible apply Frame.ite2
    | with_reducible apply Frame.comp (State.raiseIf_frame ..) (by decide)
    | with_reducible apply Frame.wr (by decide)
    | with_reducible apply Frame.foldl
    | with_reducible apply Frame.foldl2
    | (split <;> try (rename_i hq; have e := congrArg Prod.snd hq; dsimp only at e; subst e))
    | dsimp only
    | with_reducible intro _ _

theorem State.clsStart_frame (s : State) (k : Nat) : Frame 0x20004008080040000000401 s (State.clsStart s k) := by
  unfold State.clsStart
  repeat' first
    | with_reducible exact Frame.rfl _ _
    | with_reducible apply Frame.ite
    | with_reducible apply Frame.ite2
    | with_reducible apply Frame.comp (State.memReads_frame ..) (by decide)
    | with_reducible apply Frame.comp (State.evalTrees_frame ..) (by decide)
    | with_reducible apply Frame.comp (State.evalLinear_frame ..) (by decide)
    | with_reducible apply Frame.comp (State.cstM_frame ..) (by decide)
    | with_reducible apply Frame.comp (State.clsBanks_frame ..) (by decide)
    | (split <;> try (rename_i hq; have e := congrArg Prod.snd hq; dsimp only at e; subst e))
    | dsimp only
    | with_reducible intro _ _

theorem execDispatch_frame (group : Fin 16) (s : State) : FrameO 0x20006409081040000010407 s (execDispatch group s) := by
  unfold execDispatch
  repeat' first
    | with_reducible exact Frame.rfl _ _
    | with_reducible apply FrameO.powered
    | with_reducible apply FrameO.ok
    | with_reducible apply FrameO.next
    | with_reducible apply FrameO.ite
    | with_reducible apply Frame.ite
    | with_reducible apply Frame.ite2
    | with_reducible apply Frame.comp (State.talM_frame ..) (by decide)
    | with_reducible apply Frame.comp (State.recUpd_frame ..) (by decide)
    | with_reducible apply Frame.comp (State.raise_frame ..) (by decide)
    | with_reducible apply Frame.comp (State.lossResult_frame ..) (by decide)
    | with_reducible apply Frame.comp (State.talFinish_frame ..) (by decide)
    | with_reducible apply Frame.comp (State.objPut_frame ..) (by decide)
    | with_reducible apply Frame.comp (State.fstM_frame ..) (by decide)
    | with_reducible apply Frame.comp (State.cstM_frame ..) (by decide)
    | with_reducible apply Frame.comp (State.feaStart_frame ..) (by decide)
    | with_reducible apply Frame.inc (by decide)
    | (split <;> try (rename_i hq; have e := congrArg Prod.snd hq; dsimp only at e; subst e))
    | dsimp only
    | with_reducible intro _ _

theorem execFeatureComplete_frame (station : Fin 16) (s : State) : FrameO 0x28006409091040000010407 s (execFeatureComplete station s) := by
  unfold execFeatureComplete
  repeat' first
    | with_reducible exact Frame.rfl _ _
    | with_reducible apply FrameO.powered
    | with_reducible apply FrameO.ok
    | with_reducible apply FrameO.next
    | with_reducible apply FrameO.ite
    | with_reducible apply Frame.ite
    | with_reducible apply Frame.ite2
    | with_reducible apply Frame.comp (State.feaStart_frame ..) (by decide)
    | with_reducible apply Frame.comp (State.fstM_frame ..) (by decide)
    | with_reducible apply Frame.comp (State.raise_frame ..) (by decide)
    | with_reducible apply Frame.comp (State.defaultPath_frame ..) (by decide)
    | with_reducible apply Frame.comp (State.objPut_frame ..) (by decide)
    | with_reducible apply Frame.comp (State.cstM_frame ..) (by decide)
    | with_reducible apply Frame.comp (State.clsStart_frame ..) (by decide)
    | with_reducible apply Frame.comp (State.stationsShow_frame ..) (by decide)
    | with_reducible apply Frame.inc (by decide)
    | with_reducible apply Frame.wr (by decide)
    | with_reducible apply Frame.wrapi (by decide)
    | (split <;> try (rename_i hq; have e := congrArg Prod.snd hq; dsimp only at e; subst e))
    | dsimp only
    | with_reducible intro _ _

theorem State.rateCount_frame (s : State) (k : Nat) (m : CfgRec) (source cls : Nat) : Frame 0x40000000000 s (State.rateCount s k m source cls) := by
  unfold State.rateCount
  repeat' first
    | with_reducible exact Frame.rfl _ _
    | with_reducible apply Frame.ite
    | with_reducible apply Frame.ite2
    | with_reducible apply Frame.comp (State.talM_frame ..) (by decide)
    | with_reducible apply Frame.foldl
    | with_reducible apply Frame.foldl2
    | (split <;> try (rename_i hq; have e := congrArg Prod.snd hq; dsimp only at e; subst e))
    | dsimp only
    | with_reducible intro _ _

theorem execClassifierResult_frame (station : Fin 16) (s : State) : FrameO 0x28006409091040000010407 s (execClassifierResult station s) := by
  unfold execClassifierResult
  repeat' first
    | with_reducible exact Frame.rfl _ _
    | with_reducible apply FrameO.powered
    | with_reducible apply FrameO.ok
    | with_reducible apply FrameO.next
    | with_reducible apply FrameO.ite
    | with_reducible apply Frame.ite
    | with_reducible apply Frame.ite2
    | with_reducible apply Frame.comp (State.cstM_frame ..) (by decide)
    | with_reducible apply Frame.comp (State.clsBanks_frame ..) (by decide)
    | with_reducible apply Frame.comp (State.raise_frame ..) (by decide)
    | with_reducible apply Frame.comp (State.rateCount_frame ..) (by decide)
    | with_reducible apply Frame.comp (State.lossResult_frame ..) (by decide)
    | with_reducible apply Frame.comp (State.classified_frame ..) (by decide)
    | with_reducible apply Frame.comp (State.defaultPath_frame ..) (by decide)
    | with_reducible apply Frame.comp (State.stationsShow_frame ..) (by decide)
    | with_reducible apply Frame.comp (State.clsStart_frame ..) (by decide)
    | with_reducible apply Frame.inc (by decide)
    | with_reducible apply Frame.wr (by decide)
    | with_reducible apply Frame.wrapi (by decide)
    | (split <;> try (rename_i hq; have e := congrArg Prod.snd hq; dsimp only at e; subst e))
    | dsimp only
    | with_reducible intro _ _

theorem State.rateStart_frame (s : State) (k : Nat) : Frame 0x40000000000 s (State.rateStart s k) := by
  unfold State.rateStart
  repeat' first
    | with_reducible exact Frame.rfl _ _
    | with_reducible apply Frame.ite
    | with_reducible apply Frame.ite2
    | with_reducible apply Frame.comp (State.talM_frame ..) (by decide)
    | (split <;> try (rename_i hq; have e := congrArg Prod.snd hq; dsimp only at e; subst e))
    | dsimp only
    | with_reducible intro _ _

theorem execSubWindowEnd_frame (station : Fin 16) (s : State) : FrameO 0x4000001841000000001 s (execSubWindowEnd station s) := by
  unfold execSubWindowEnd
  repeat' first
    | with_reducible exact Frame.rfl _ _
    | with_reducible apply FrameO.powered
    | with_reducible apply FrameO.ok
    | with_reducible apply FrameO.next
    | with_reducible apply FrameO.ite
    | with_reducible apply Frame.ite
    | with_reducible apply Frame.ite2
    | with_reducible apply Frame.comp (State.talM_frame ..) (by decide)
    | with_reducible apply Frame.comp (State.produce_frame ..) (by decide)
    | with_reducible apply Frame.wri (by decide)
    | (split <;> try (rename_i hq; have e := congrArg Prod.snd hq; dsimp only at e; subst e))
    | dsimp only
    | with_reducible intro _ _

theorem State.feaImage_frame (s : State) : Frame 0x2000000000000000001 s (State.feaImage s) := by
  unfold State.feaImage
  repeat' first
    | with_reducible exact Frame.rfl _ _
    | with_reducible apply Frame.ite
    | with_reducible apply Frame.ite2
    | with_reducible apply Frame.wr (by decide)
    | with_reducible apply Frame.wri (by decide)
    | with_reducible apply Frame.foldl
    | with_reducible apply Frame.foldl2
    | (split <;> try (rename_i hq; have e := congrArg Prod.snd hq; dsimp only at e; subst e))
    | dsimp only
    | with_reducible intro _ _

theorem State.clsImage_frame (s : State) : Frame 0x20004000080040000000401 s (State.clsImage s) := by
  unfold State.clsImage
  repeat' first
    | with_reducible exact Frame.rfl _ _
    | with_reducible apply Frame.ite
    | with_reducible apply Frame.ite2
    | with_reducible apply Frame.comp (State.rateStart_frame ..) (by decide)
    | with_reducible apply Frame.comp (State.clsBanks_frame ..) (by decide)
    | with_reducible apply Frame.wr (by decide)
    | with_reducible apply Frame.wri (by decide)
    | with_reducible apply Frame.foldl
    | with_reducible apply Frame.foldl2
    | (split <;> try (rename_i hq; have e := congrArg Prod.snd hq; dsimp only at e; subst e))
    | dsimp only
    | with_reducible intro _ _

theorem State.defaultAll_frame (s : State) (p : Stage → Bool) : Frame 0x28006409091040000010407 s (State.defaultAll s p) := by
  unfold State.defaultAll
  repeat' first
    | with_reducible exact Frame.rfl _ _
    | with_reducible apply Frame.ite
    | with_reducible apply Frame.ite2
    | with_reducible apply Frame.comp (State.defaultPath_frame ..) (by decide)
    | with_reducible apply Frame.comp (State.stationsShow_frame ..) (by decide)
    | with_reducible apply Frame.foldl
    | with_reducible apply Frame.foldl2
    | (split <;> try (rename_i hq; have e := congrArg Prod.snd hq; dsimp only at e; subst e))
    | dsimp only
    | with_reducible intro _ _

theorem State.feaReset_frame (s : State) : Frame 0x28006409091040000010407 s (State.feaReset s) := by
  unfold State.feaReset
  repeat' first
    | with_reducible exact Frame.rfl _ _
    | with_reducible apply Frame.ite
    | with_reducible apply Frame.ite2
    | with_reducible apply Frame.comp (State.defaultAll_frame ..) (by decide)
    | with_reducible apply Frame.comp (State.talM_frame ..) (by decide)
    | with_reducible apply Frame.comp (State.stationsShow_frame ..) (by decide)
    | with_reducible apply Frame.comp (State.feaImage_frame ..) (by decide)
    | (split <;> try (rename_i hq; have e := congrArg Prod.snd hq; dsimp only at e; subst e))
    | dsimp only
    | with_reducible intro _ _

theorem State.clsReset_frame (s : State) : Frame 0x28006409091040000010407 s (State.clsReset s) := by
  unfold State.clsReset
  repeat' first
    | with_reducible exact Frame.rfl _ _
    | with_reducible apply Frame.ite
    | with_reducible apply Frame.ite2
    | with_reducible apply Frame.comp (State.defaultAll_frame ..) (by decide)
    | with_reducible apply Frame.comp (State.talM_frame ..) (by decide)
    | with_reducible apply Frame.comp (State.stationsShow_frame ..) (by decide)
    | with_reducible apply Frame.comp (State.clsImage_frame ..) (by decide)
    | (split <;> try (rename_i hq; have e := congrArg Prod.snd hq; dsimp only at e; subst e))
    | dsimp only
    | with_reducible intro _ _

end Sys2Proof.Machine
end

