-- ==== Sys2Proof/Laws/FrameStakeout.lean ====
section
/-! SUPPORT. The frames of the operations of Machine/Stakeout.lean. -/

set_option linter.unreachableTactic false
set_option linter.unusedTactic false

namespace Sys2Proof.Machine

open Sys2Proof

theorem State.stkM_frame (s : State) (f : StkUnit → StkUnit) : Frame 0x80000000000 s (State.stkM s f) := by
  unfold State.stkM
  repeat' first
    | with_reducible exact Frame.rfl _ _
    | with_reducible apply Frame.ite
    | fail_if_no_progress with_reducible apply Frame.put_stk _ (by decide)
    | (split <;> try (rename_i hq; have e := congrArg Prod.snd hq; dsimp only at e; subst e))
    | dsimp only
    | with_reducible intro _ _
    | fail_if_no_progress apply Frame.put_stk _ (by decide)

theorem State.stkShow_frame (s : State) : Frame 0x200000000000000001 s (State.stkShow s) := by
  unfold State.stkShow
  repeat' first
    | with_reducible exact Frame.rfl _ _
    | with_reducible apply Frame.ite
    | with_reducible apply Frame.ite2
    | with_reducible apply Frame.wr (by decide)
    | (split <;> try (rename_i hq; have e := congrArg Prod.snd hq; dsimp only at e; subst e))
    | dsimp only
    | with_reducible intro _ _

theorem State.hostResult_frame (s : State) (v : Nat) : Frame 0x20000200080000000000401 s (State.hostResult s v) := by
  unfold State.hostResult
  repeat' first
    | with_reducible exact Frame.rfl _ _
    | with_reducible apply Frame.ite
    | with_reducible apply Frame.ite2
    | with_reducible apply Frame.comp (State.raise_frame ..) (by decide)
    | with_reducible apply Frame.wr (by decide)
    | (split <;> try (rename_i hq; have e := congrArg Prod.snd hq; dsimp only at e; subst e))
    | dsimp only
    | with_reducible intro _ _

theorem State.report_frame (s : State) (r : StakeReq) (result host : Nat) : Frame 0x20000200080040000000401 s (State.report s r result host) := by
  unfold State.report
  repeat' first
    | with_reducible exact Frame.rfl _ _
    | with_reducible apply Frame.ite
    | with_reducible apply Frame.ite2
    | with_reducible apply Frame.comp (State.talM_frame ..) (by decide)
    | with_reducible apply Frame.comp (State.hostResult_frame ..) (by decide)
    | (split <;> try (rename_i hq; have e := congrArg Prod.snd hq; dsimp only at e; subst e))
    | dsimp only
    | with_reducible intro _ _

theorem State.executed_frame (s : State) (p : StakeReq × Bool) : Frame 0x20000200080040000000401 s (State.executed s p) := by
  unfold State.executed
  repeat' first
    | with_reducible exact Frame.rfl _ _
    | with_reducible apply Frame.ite
    | with_reducible apply Frame.ite2
    | with_reducible apply Frame.comp (State.report_frame ..) (by decide)
    | with_reducible apply Frame.wr64 (by decide) (by decide)
    | (split <;> try (rename_i hq; have e := congrArg Prod.snd hq; dsimp only at e; subst e))
    | dsimp only
    | with_reducible intro _ _

theorem State.lateDiscard_frame (s : State) (r : StakeReq) : Frame 0x20000200080040000000401 s (State.lateDiscard s r) := by
  unfold State.lateDiscard
  repeat' first
    | with_reducible exact Frame.rfl _ _
    | with_reducible apply Frame.ite
    | with_reducible apply Frame.ite2
    | with_reducible apply Frame.comp (State.raise_frame ..) (by decide)
    | with_reducible apply Frame.comp (State.report_frame ..) (by decide)
    | with_reducible apply Frame.inc (by decide)
    | (split <;> try (rename_i hq; have e := congrArg Prod.snd hq; dsimp only at e; subst e))
    | dsimp only
    | with_reducible intro _ _

theorem State.refuseTarget_frame (s : State) (r : StakeReq) : Frame 0x20000200080040000000401 s (State.refuseTarget s r) := by
  unfold State.refuseTarget
  repeat' first
    | with_reducible exact Frame.rfl _ _
    | with_reducible apply Frame.ite
    | with_reducible apply Frame.ite2
    | with_reducible apply Frame.comp (State.raise_frame ..) (by decide)
    | with_reducible apply Frame.comp (State.report_frame ..) (by decide)
    | with_reducible apply Frame.inc (by decide)
    | (split <;> try (rename_i hq; have e := congrArg Prod.snd hq; dsimp only at e; subst e))
    | dsimp only
    | with_reducible intro _ _

theorem State.stkAccept_frame (s : State) (e : Nat) (r : StakeReq) : Frame 0x20000208080080000000407 s (State.stkAccept s e r) := by
  unfold State.stkAccept
  repeat' first
    | with_reducible exact Frame.rfl _ _
    | with_reducible apply Frame.ite
    | with_reducible apply Frame.ite2
    | with_reducible apply Frame.comp (State.memPuts_frame ..) (by decide)
    | with_reducible apply Frame.comp (State.stkM_frame ..) (by decide)
    | with_reducible apply Frame.comp (State.hostResult_frame ..) (by decide)
    | with_reducible apply Frame.comp (State.stkShow_frame ..) (by decide)
    | with_reducible apply Frame.comp (State.tieSend_frame ..) (by decide)
    | with_reducible apply Frame.wr64 (by decide) (by decide)
    | (split <;> try (rename_i hq; have e := congrArg Prod.snd hq; dsimp only at e; subst e))
    | dsimp only
    | with_reducible intro _ _

theorem State.stkIntake_frame (s : State) (q : StakeReq) (mirrored : Bool) : Frame 0x200002080800c0000000407 s (State.stkIntake s q mirrored) := by
  unfold State.stkIntake
  repeat' first
    | with_reducible exact Frame.rfl _ _
    | with_reducible apply Frame.ite
    | with_reducible apply Frame.ite2
    | with_reducible apply Frame.comp (State.refuseTarget_frame ..) (by decide)
    | with_reducible apply Frame.comp (State.raise_frame ..) (by decide)
    | with_reducible apply Frame.comp (State.report_frame ..) (by decide)
    | with_reducible apply Frame.comp (State.lateDiscard_frame ..) (by decide)
    | with_reducible apply Frame.comp (State.stkAccept_frame ..) (by decide)
    | with_reducible apply Frame.inc (by decide)
    | with_reducible apply Frame.wr (by decide)
    | (split <;> try (rename_i hq; have e := congrArg Prod.snd hq; dsimp only at e; subst e))
    | dsimp only
    | with_reducible intro _ _

theorem execStakeIntake_frame (s : State) : FrameO 0x300002080a00c0000000407 s (execStakeIntake s) := by
  unfold execStakeIntake
  repeat' first
    | with_reducible exact Frame.rfl _ _
    | with_reducible apply FrameO.powered
    | with_reducible apply FrameO.ok
    | with_reducible apply FrameO.next
    | with_reducible apply FrameO.ite
    | with_reducible apply Frame.ite
    | with_reducible apply Frame.ite2
    | with_reducible apply Frame.comp (State.talM_frame ..) (by decide)
    | with_reducible apply Frame.comp (State.stkM_frame ..) (by decide)
    | with_reducible apply Frame.comp (State.pairRequest_frame ..) (by decide)
    | with_reducible apply Frame.comp (State.stkIntake_frame ..) (by decide)
    | (split <;> try (rename_i hq; have e := congrArg Prod.snd hq; dsimp only at e; subst e))
    | dsimp only
    | with_reducible intro _ _

theorem State.targetM_frame (s : State) (t : Nat) (f : Target → Target) : Frame 0x80000000000 s (State.targetM s t f) := by
  unfold State.targetM
  repeat' first
    | with_reducible exact Frame.rfl _ _
    | with_reducible apply Frame.ite
    | with_reducible apply Frame.ite2
    | with_reducible apply Frame.comp (State.stkM_frame ..) (by decide)
    | (split <;> try (rename_i hq; have e := congrArg Prod.snd hq; dsimp only at e; subst e))
    | dsimp only
    | with_reducible intro _ _

theorem State.execute_frame (s : State) (c : StkEnt) : Frame 0x200002000800c0000000401 s (State.execute s c) := by
  unfold State.execute
  repeat' first
    | with_reducible exact Frame.rfl _ _
    | with_reducible apply Frame.ite
    | with_reducible apply Frame.ite2
    | with_reducible apply Frame.comp (State.lateDiscard_frame ..) (by decide)
    | with_reducible apply Frame.comp (State.raise_frame ..) (by decide)
    | with_reducible apply Frame.comp (State.targetM_frame ..) (by decide)
    | with_reducible apply Frame.comp (State.executed_frame ..) (by decide)
    | with_reducible apply Frame.inc (by decide)
    | (split <;> try (rename_i hq; have e := congrArg Prod.snd hq; dsimp only at e; subst e))
    | dsimp only
    | with_reducible intro _ _

theorem execFetch_frame (s : State) : FrameO 0x200002080800c0000000401 s (execFetch s) := by
  unfold execFetch
  repeat' first
    | with_reducible exact Frame.rfl _ _
    | with_reducible apply FrameO.powered
    | with_reducible apply FrameO.ok
    | with_reducible apply FrameO.next
    | with_reducible apply FrameO.ite
    | with_reducible apply Frame.ite
    | with_reducible apply Frame.ite2
    | with_reducible apply Frame.comp (State.memReads_frame ..) (by decide)
    | with_reducible apply Frame.comp (State.stkM_frame ..) (by decide)
    | with_reducible apply Frame.comp (State.stkShow_frame ..) (by decide)
    | with_reducible apply Frame.comp (State.raise_frame ..) (by decide)
    | with_reducible apply Frame.comp (State.report_frame ..) (by decide)
    | with_reducible apply Frame.comp (State.execute_frame ..) (by decide)
    | with_reducible apply Frame.inc (by decide)
    | (split <;> try (rename_i hq; have e := congrArg Prod.snd hq; dsimp only at e; subst e))
    | dsimp only
    | with_reducible intro _ _

theorem State.executedAll_frame (s : State) (l : List (StakeReq × Bool)) : Frame 0x20000200080040000000401 s (State.executedAll s l) := by
  unfold State.executedAll
  repeat' first
    | with_reducible exact Frame.rfl _ _
    | with_reducible apply Frame.ite
    | with_reducible apply Frame.ite2
    | with_reducible apply Frame.comp (State.executed_frame ..) (by decide)
    | with_reducible apply Frame.foldl
    | with_reducible apply Frame.foldl2
    | (split <;> try (rename_i hq; have e := congrArg Prod.snd hq; dsimp only at e; subst e))
    | dsimp only
    | with_reducible intro _ _

theorem execOffEdgeCommit_frame (pin : Fin 64) (s : State) : FrameO 0x80000000000 s (execOffEdgeCommit pin s) := by
  unfold execOffEdgeCommit
  repeat' first
    | with_reducible exact Frame.rfl _ _
    | with_reducible apply FrameO.powered
    | with_reducible apply FrameO.ok
    | with_reducible apply FrameO.next
    | with_reducible apply FrameO.ite
    | with_reducible apply Frame.ite
    | with_reducible apply Frame.ite2
    | with_reducible apply Frame.comp (State.targetM_frame ..) (by decide)
    | (split <;> try (rename_i hq; have e := congrArg Prod.snd hq; dsimp only at e; subst e))
    | dsimp only
    | with_reducible intro _ _

theorem execTimedPinEdge_frame (pin : Fin 64) (s : State) : FrameO 0x200003800803c0000000401 s (execTimedPinEdge pin s) := by
  unfold execTimedPinEdge
  repeat' first
    | with_reducible exact Frame.rfl _ _
    | with_reducible apply FrameO.powered
    | with_reducible apply FrameO.ok
    | with_reducible apply FrameO.next
    | with_reducible apply FrameO.ite
    | with_reducible apply Frame.ite
    | with_reducible apply Frame.ite2
    | with_reducible apply Frame.comp (State.targetM_frame ..) (by decide)
    | with_reducible apply Frame.comp (State.executedAll_frame ..) (by decide)
    | with_reducible apply Frame.comp (State.padRefresh_frame ..) (by decide)
    | (split <;> try (rename_i hq; have e := congrArg Prod.snd hq; dsimp only at e; subst e))
    | dsimp only
    | with_reducible intro _ _

theorem State.tmplPass_frame (s : State) : Frame 0x80000000000 s (State.tmplPass s) := by
  unfold State.tmplPass
  repeat' first
    | with_reducible exact Frame.rfl _ _
    | with_reducible apply Frame.ite
    | with_reducible apply Frame.ite2
    | with_reducible apply Frame.comp (State.stkM_frame ..) (by decide)
    | (split <;> try (rename_i hq; have e := congrArg Prod.snd hq; dsimp only at e; subst e))
    | dsimp only
    | with_reducible intro _ _

theorem execTemplateSubmit_frame (template : Fin 16) (s : State) : FrameO 0x80000000000 s (execTemplateSubmit template s) := by
  unfold execTemplateSubmit
  repeat' first
    | with_reducible exact Frame.rfl _ _
    | with_reducible apply FrameO.powered
    | with_reducible apply FrameO.ok
    | with_reducible apply FrameO.next
    | with_reducible apply FrameO.ite
    | with_reducible apply Frame.ite
    | with_reducible apply Frame.ite2
    | with_reducible apply Frame.comp (State.stkM_frame ..) (by decide)
    | (split <;> try (rename_i hq; have e := congrArg Prod.snd hq; dsimp only at e; subst e))
    | dsimp only
    | with_reducible intro _ _

theorem State.stkHostGo_frame (s : State) : Frame 0x200000080000000001 s (State.stkHostGo s) := by
  unfold State.stkHostGo
  repeat' first
    | with_reducible exact Frame.rfl _ _
    | with_reducible apply Frame.ite
    | with_reducible apply Frame.ite2
    | with_reducible apply Frame.comp (State.stkM_frame ..) (by decide)
    | with_reducible apply Frame.wrapij (by decide)
    | (split <;> try (rename_i hq; have e := congrArg Prod.snd hq; dsimp only at e; subst e))
    | dsimp only
    | with_reducible intro _ _

theorem execStkHGo_frame (s : State) : FrameO 0x200000080000000001 s (execStkHGo s) := by
  unfold execStkHGo
  repeat' first
    | with_reducible exact Frame.rfl _ _
    | with_reducible apply FrameO.powered
    | with_reducible apply FrameO.ok
    | with_reducible apply FrameO.next
    | with_reducible apply FrameO.ite
    | with_reducible apply Frame.ite
    | with_reducible apply Frame.comp (State.stkHostGo_frame ..) (by decide)
    | (split <;> try (rename_i hq; have e := congrArg Prod.snd hq; dsimp only at e; subst e))
    | dsimp only
    | with_reducible intro _ _

theorem State.flushOne_frame (s : State) (r : StakeReq) : Frame 0x20000200080040000000401 s (State.flushOne s r) := by
  unfold State.flushOne
  repeat' first
    | with_reducible exact Frame.rfl _ _
    | with_reducible apply Frame.ite
    | with_reducible apply Frame.ite2
    | with_reducible apply Frame.comp (State.report_frame ..) (by decide)
    | with_reducible apply Frame.inc (by decide)
    | (split <;> try (rename_i hq; have e := congrArg Prod.snd hq; dsimp only at e; subst e))
    | dsimp only
    | with_reducible intro _ _

theorem State.stkFlush_frame (s : State) (p : Nat → Bool) : Frame 0x200003800803c0000000401 s (State.stkFlush s p) := by
  unfold State.stkFlush
  repeat' first
    | with_reducible exact Frame.rfl _ _
    | with_reducible apply Frame.ite
    | with_reducible apply Frame.ite2
    | with_reducible apply Frame.comp (State.stkM_frame ..) (by decide)
    | with_reducible apply Frame.comp (State.flushOne_frame ..) (by decide)
    | with_reducible apply Frame.comp (State.stkShow_frame ..) (by decide)
    | with_reducible apply Frame.comp (State.padRefresh_frame ..) (by decide)
    | with_reducible apply Frame.foldl
    | with_reducible apply Frame.foldl2
    | (split <;> try (rename_i hq; have e := congrArg Prod.snd hq; dsimp only at e; subst e))
    | dsimp only
    | with_reducible intro _ _

theorem State.vlinkM_frame (s : State) (l : Nat) (f : VLink → VLink) : Frame 0x80000000000 s (State.vlinkM s l f) := by
  unfold State.vlinkM
  repeat' first
    | with_reducible exact Frame.rfl _ _
    | with_reducible apply Frame.ite
    | with_reducible apply Frame.ite2
    | with_reducible apply Frame.comp (State.stkM_frame ..) (by decide)
    | (split <;> try (rename_i hq; have e := congrArg Prod.snd hq; dsimp only at e; subst e))
    | dsimp only
    | with_reducible intro _ _

theorem State.stkFlushAll_frame (s : State) : Frame 0x200003800803c0000000401 s (State.stkFlushAll s) := by
  unfold State.stkFlushAll
  repeat' first
    | with_reducible exact Frame.rfl _ _
    | with_reducible apply Frame.ite
    | with_reducible apply Frame.ite2
    | with_reducible apply Frame.comp (State.vlinkM_frame ..) (by decide)
    | with_reducible apply Frame.comp (State.stkFlush_frame ..) (by decide)
    | with_reducible apply Frame.foldl
    | with_reducible apply Frame.foldl2
    | (split <;> try (rename_i hq; have e := congrArg Prod.snd hq; dsimp only at e; subst e))
    | dsimp only
    | with_reducible intro _ _

theorem execEngineDisable_frame (s : State) : FrameO 0x200003800803c0000000401 s (execEngineDisable s) := by
  unfold execEngineDisable
  repeat' first
    | with_reducible exact Frame.rfl _ _
    | with_reducible apply FrameO.powered
    | with_reducible apply FrameO.ok
    | with_reducible apply FrameO.next
    | with_reducible apply FrameO.ite
    | with_reducible apply Frame.ite
    | with_reducible apply Frame.ite2
    | with_reducible apply Frame.comp (State.stkFlushAll_frame ..) (by decide)
    | with_reducible apply Frame.wr (by decide)
    | (split <;> try (rename_i hq; have e := congrArg Prod.snd hq; dsimp only at e; subst e))
    | dsimp only
    | with_reducible intro _ _

theorem State.vlShow_frame (s : State) : Frame 0x200000000000000001 s (State.vlShow s) := by
  unfold State.vlShow
  repeat' first
    | with_reducible exact Frame.rfl _ _
    | with_reducible apply Frame.ite
    | with_reducible apply Frame.ite2
    | with_reducible apply Frame.wri (by decide)
    | with_reducible apply Frame.foldl
    | with_reducible apply Frame.foldl2
    | (split <;> try (rename_i hq; have e := congrArg Prod.snd hq; dsimp only at e; subst e))
    | dsimp only
    | with_reducible intro _ _

theorem State.stkStep_frame (s : State) (d : Int) : Frame 0x208000080000000007 s (State.stkStep s d) := by
  unfold State.stkStep
  repeat' first
    | with_reducible exact Frame.rfl _ _
    | with_reducible apply Frame.ite
    | with_reducible apply Frame.ite2
    | with_reducible apply Frame.comp (State.stkM_frame ..) (by decide)
    | with_reducible apply Frame.comp (State.memPuts_frame ..) (by decide)
    | with_reducible apply Frame.comp (State.tmplPass_frame ..) (by decide)
    | with_reducible apply Frame.wr (by decide)
    | with_reducible apply Frame.foldl
    | with_reducible apply Frame.foldl2
    | (split <;> try (rename_i hq; have e := congrArg Prod.snd hq; dsimp only at e; subst e))
    | dsimp only
    | with_reducible intro _ _

theorem State.stkTakeover_frame (s : State) : Frame 0x20000380080380000000401 s (State.stkTakeover s) := by
  unfold State.stkTakeover
  repeat' first
    | with_reducible exact Frame.rfl _ _
    | with_reducible apply Frame.ite
    | with_reducible apply Frame.ite2
    | with_reducible apply Frame.comp (State.vlinkM_frame ..) (by decide)
    | with_reducible apply Frame.comp (State.stkShow_frame ..) (by decide)
    | with_reducible apply Frame.comp (State.padRefresh_frame ..) (by decide)
    | with_reducible apply Frame.foldl
    | with_reducible apply Frame.foldl2
    | (split <;> try (rename_i hq; have e := congrArg Prod.snd hq; dsimp only at e; subst e))
    | dsimp only
    | with_reducible intro _ _

theorem State.stkImage_frame (s : State) : Frame 0x200000080000000001 s (State.stkImage s) := by
  unfold State.stkImage
  repeat' first
    | with_reducible exact Frame.rfl _ _
    | with_reducible apply Frame.ite
    | with_reducible apply Frame.ite2
    | with_reducible apply Frame.comp (State.vlShow_frame ..) (by decide)
    | with_reducible apply Frame.comp (State.tmplPass_frame ..) (by decide)
    | with_reducible apply Frame.wr (by decide)
    | with_reducible apply Frame.wri (by decide)
    | with_reducible apply Frame.foldl
    | with_reducible apply Frame.foldl2
    | (split <;> try (rename_i hq; have e := congrArg Prod.snd hq; dsimp only at e; subst e))
    | dsimp only
    | with_reducible intro _ _

end Sys2Proof.Machine
end

