-- ==== Sys2Proof/Laws/FrameValveLinks.lean ====
section
/-! SUPPORT. The frames of the operations of Machine/ValveLinks.lean. -/

set_option linter.unreachableTactic false
set_option linter.unusedTactic false

namespace Sys2Proof.Machine

open Sys2Proof

theorem State.placeEdge_frame (s : State) (e : VEdge) : Frame 0x200002000800c0000000401 s (State.placeEdge s e) := by
  unfold State.placeEdge
  repeat' first
    | with_reducible exact Frame.rfl _ _
    | with_reducible apply Frame.ite
    | with_reducible apply Frame.ite2
    | with_reducible apply Frame.comp (State.targetM_frame ..) (by decide)
    | with_reducible apply Frame.comp (State.executedAll_frame ..) (by decide)
    | (split <;> try (rename_i hq; have e := congrArg Prod.snd hq; dsimp only at e; subst e))
    | dsimp only
    | with_reducible intro _ _

theorem execValveLinkFrame_frame (link : Fin 4) (s : State) : FrameO 0x200002000800c0000000401 s (execValveLinkFrame link s) := by
  unfold execValveLinkFrame
  repeat' first
    | with_reducible exact Frame.rfl _ _
    | with_reducible apply FrameO.powered
    | with_reducible apply FrameO.ok
    | with_reducible apply FrameO.next
    | with_reducible apply FrameO.ite
    | with_reducible apply Frame.ite
    | with_reducible apply Frame.ite2
    | with_reducible apply Frame.comp (State.vlinkM_frame ..) (by decide)
    | with_reducible apply Frame.comp (State.placeEdge_frame ..) (by decide)
    | with_reducible apply Frame.comp (State.emit_frame ..) (by decide)
    | with_reducible apply Frame.comp (State.raise_frame ..) (by decide)
    | with_reducible apply Frame.inci (by decide)
    | with_reducible apply Frame.foldl
    | with_reducible apply Frame.foldl2
    | (split <;> try (rename_i hq; have e := congrArg Prod.snd hq; dsimp only at e; subst e))
    | dsimp only
    | with_reducible intro _ _

theorem execReturnFrame_frame (link : Fin 4) (bytes : List Nat) (s : State) : FrameO 0x20000200080080000000401 s (execReturnFrame link bytes s) := by
  unfold execReturnFrame
  repeat' first
    | with_reducible exact Frame.rfl _ _
    | with_reducible apply FrameO.powered
    | with_reducible apply FrameO.ok
    | with_reducible apply FrameO.next
    | with_reducible apply FrameO.ite
    | with_reducible apply Frame.ite
    | with_reducible apply Frame.ite2
    | with_reducible apply Frame.comp (State.vlinkM_frame ..) (by decide)
    | with_reducible apply Frame.comp (State.raise_frame ..) (by decide)
    | with_reducible apply Frame.inci (by decide)
    | with_reducible apply Frame.wri (by decide)
    | (split <;> try (rename_i hq; have e := congrArg Prod.snd hq; dsimp only at e; subst e))
    | dsimp only
    | with_reducible intro _ _

theorem execVllost_frame (link : Fin 4) (s : State) : FrameO 0x20000200080000000000401 s (execVllost link s) := by
  unfold execVllost
  repeat' first
    | with_reducible exact Frame.rfl _ _
    | with_reducible apply FrameO.powered
    | with_reducible apply FrameO.ok
    | with_reducible apply FrameO.next
    | with_reducible apply FrameO.ite
    | with_reducible apply Frame.ite
    | with_reducible apply Frame.ite2
    | with_reducible apply Frame.comp (State.raise_frame ..) (by decide)
    | with_reducible apply Frame.wri (by decide)
    | (split <;> try (rename_i hq; have e := congrArg Prod.snd hq; dsimp only at e; subst e))
    | dsimp only
    | with_reducible intro _ _

theorem State.vlEnable_frame (s : State) (l : Nat) (on : Bool) : Frame 0x200003800803c0000000401 s (State.vlEnable s l on) := by
  unfold State.vlEnable
  repeat' first
    | with_reducible exact Frame.rfl _ _
    | with_reducible apply Frame.ite
    | with_reducible apply Frame.ite2
    | with_reducible apply Frame.comp (State.vlShow_frame ..) (by decide)
    | with_reducible apply Frame.comp (State.vlinkM_frame ..) (by decide)
    | with_reducible apply Frame.comp (State.stkFlush_frame ..) (by decide)
    | with_reducible apply Frame.wri (by decide)
    | (split <;> try (rename_i hq; have e := congrArg Prod.snd hq; dsimp only at e; subst e))
    | dsimp only
    | with_reducible intro _ _

theorem execVlEnableWrite_frame (link : Fin 4) (en : Bool) (s : State) : FrameO 0x200003800803c0000000401 s (execVlEnableWrite link en s) := by
  unfold execVlEnableWrite
  repeat' first
    | with_reducible exact Frame.rfl _ _
    | with_reducible apply FrameO.powered
    | with_reducible apply FrameO.ok
    | with_reducible apply FrameO.next
    | with_reducible apply FrameO.ite
    | with_reducible apply Frame.ite
    | with_reducible apply Frame.ite2
    | with_reducible apply Frame.comp (State.vlEnable_frame ..) (by decide)
    | (split <;> try (rename_i hq; have e := congrArg Prod.snd hq; dsimp only at e; subst e))
    | dsimp only
    | with_reducible intro _ _

end Sys2Proof.Machine
end

