-- ==== Sys2Proof/Laws/FramePins.lean ====
section
/-! SUPPORT. The frames of the operations of Machine/Pins.lean. -/

set_option linter.unreachableTactic false
set_option linter.unusedTactic false

namespace Sys2Proof.Machine

open Sys2Proof

theorem State.tsqShow_frame (s : State) : Frame 0x100000000000000001 s (State.tsqShow s) := by
  unfold State.tsqShow
  repeat' first
    | with_reducible exact Frame.rfl _ _
    | with_reducible apply Frame.ite
    | with_reducible apply Frame.ite2
    | with_reducible apply Frame.wr (by decide)
    | (split <;> try (rename_i hq; have e := congrArg Prod.snd hq; dsimp only at e; subst e))
    | dsimp only
    | with_reducible intro _ _

theorem State.tsqPush_frame (s : State) (p : Nat) (rise : Bool) (t : Nat) : Frame 0x20000100080100000000401 s (State.tsqPush s p rise t) := by
  unfold State.tsqPush
  repeat' first
    | with_reducible exact Frame.rfl _ _
    | with_reducible apply Frame.ite
    | with_reducible apply Frame.ite2
    | with_reducible apply Frame.comp (State.raise_frame ..) (by decide)
    | with_reducible apply Frame.comp (State.tsqShow_frame ..) (by decide)
    | with_reducible apply Frame.comp (State.raiseIf_frame ..) (by decide)
    | with_reducible apply Frame.inc (by decide)
    | fail_if_no_progress with_reducible apply Frame.put_tpin _ (by decide)
    | (split <;> try (rename_i hq; have e := congrArg Prod.snd hq; dsimp only at e; subst e))
    | dsimp only
    | with_reducible intro _ _
    | fail_if_no_progress apply Frame.put_tpin _ (by decide)

theorem State.runt_frame (s : State) : Frame 0x20000100080000000000401 s (State.runt s) := by
  unfold State.runt
  repeat' first
    | with_reducible exact Frame.rfl _ _
    | with_reducible apply Frame.ite
    | with_reducible apply Frame.ite2
    | with_reducible apply Frame.comp (State.raise_frame ..) (by decide)
    | with_reducible apply Frame.inc (by decide)
    | (split <;> try (rename_i hq; have e := congrArg Prod.snd hq; dsimp only at e; subst e))
    | dsimp only
    | with_reducible intro _ _

theorem State.pinEdge_frame (s : State) (p : Nat) (rise both : Bool) (t : Nat) : Frame 0x20000100080100000000401 s (State.pinEdge s p rise both t) := by
  unfold State.pinEdge
  repeat' first
    | with_reducible exact Frame.rfl _ _
    | with_reducible apply Frame.ite
    | with_reducible apply Frame.ite2
    | with_reducible apply Frame.comp (State.pinM_frame ..) (by decide)
    | with_reducible apply Frame.comp (State.tsqPush_frame ..) (by decide)
    | with_reducible apply Frame.comp (State.runt_frame ..) (by decide)
    | (split <;> try (rename_i hq; have e := congrArg Prod.snd hq; dsimp only at e; subst e))
    | dsimp only
    | with_reducible intro _ _

theorem execPinInputEdge_frame (pin : Fin 64) (level : Bool) (width : Nat) (both : Bool) (s : State) : FrameO 0x20001180080320000000401 s (execPinInputEdge pin level width both s) := by
  unfold execPinInputEdge
  repeat' first
    | with_reducible exact Frame.rfl _ _
    | with_reducible apply FrameO.powered
    | with_reducible apply FrameO.ok
    | with_reducible apply FrameO.next
    | with_reducible apply FrameO.ite
    | with_reducible apply Frame.ite
    | with_reducible apply Frame.ite2
    | with_reducible apply Frame.comp (State.runt_frame ..) (by decide)
    | with_reducible apply Frame.comp (State.pinM_frame ..) (by decide)
    | with_reducible apply Frame.comp (State.padRefresh_frame ..) (by decide)
    | with_reducible apply Frame.comp (State.pinEdge_frame ..) (by decide)
    | with_reducible apply Frame.comp (State.sendEdge_frame ..) (by decide)
    | (split <;> try (rename_i hq; have e := congrArg Prod.snd hq; dsimp only at e; subst e))
    | dsimp only
    | with_reducible intro _ _

theorem execGateEnd_frame (pin : Fin 64) (s : State) : FrameO 0x1901000000000 s (execGateEnd pin s) := by
  unfold execGateEnd
  repeat' first
    | with_reducible exact Frame.rfl _ _
    | with_reducible apply FrameO.powered
    | with_reducible apply FrameO.ok
    | with_reducible apply FrameO.next
    | with_reducible apply FrameO.ite
    | with_reducible apply Frame.ite
    | with_reducible apply Frame.ite2
    | with_reducible apply Frame.comp (State.pinM_frame ..) (by decide)
    | with_reducible apply Frame.comp (State.produce_frame ..) (by decide)
    | (split <;> try (rename_i hq; have e := congrArg Prod.snd hq; dsimp only at e; subst e))
    | dsimp only
    | with_reducible intro _ _

theorem execPwmPulseStart_frame (pin : Fin 64) (s : State) : FrameO 0x20001180080320000000401 s (execPwmPulseStart pin s) := by
  unfold execPwmPulseStart
  repeat' first
    | with_reducible exact Frame.rfl _ _
    | with_reducible apply FrameO.powered
    | with_reducible apply FrameO.ok
    | with_reducible apply FrameO.next
    | with_reducible apply FrameO.ite
    | with_reducible apply Frame.ite
    | with_reducible apply Frame.ite2
    | with_reducible apply Frame.comp (State.pinM_frame ..) (by decide)
    | with_reducible apply Frame.comp (State.sendEdge_frame ..) (by decide)
    | with_reducible apply Frame.comp (State.padRefresh_frame ..) (by decide)
    | (split <;> try (rename_i hq; have e := congrArg Prod.snd hq; dsimp only at e; subst e))
    | dsimp only
    | with_reducible intro _ _

theorem execPwmPulseEnd_frame (pin : Fin 64) (s : State) : FrameO 0x20000180080300000000401 s (execPwmPulseEnd pin s) := by
  unfold execPwmPulseEnd
  repeat' first
    | with_reducible exact Frame.rfl _ _
    | with_reducible apply FrameO.powered
    | with_reducible apply FrameO.ok
    | with_reducible apply FrameO.next
    | with_reducible apply FrameO.ite
    | with_reducible apply Frame.ite
    | with_reducible apply Frame.ite2
    | with_reducible apply Frame.comp (State.pinM_frame ..) (by decide)
    | with_reducible apply Frame.comp (State.padRefresh_frame ..) (by decide)
    | (split <;> try (rename_i hq; have e := congrArg Prod.snd hq; dsimp only at e; subst e))
    | dsimp only
    | with_reducible intro _ _

theorem State.tsqPop_frame (s : State) : Frame 0x100000100000000001 s (State.tsqPop s) := by
  unfold State.tsqPop
  repeat' first
    | with_reducible exact Frame.rfl _ _
    | with_reducible apply Frame.ite
    | with_reducible apply Frame.ite2
    | with_reducible apply Frame.comp (State.tsqShow_frame ..) (by decide)
    | fail_if_no_progress with_reducible apply Frame.put_tpin _ (by decide)
    | (split <;> try (rename_i hq; have e := congrArg Prod.snd hq; dsimp only at e; subst e))
    | dsimp only
    | with_reducible intro _ _
    | fail_if_no_progress apply Frame.put_tpin _ (by decide)

theorem execTimestampQueueRead_frame (s : State) : FrameO 0x100080100000000001 s (execTimestampQueueRead s) := by
  unfold execTimestampQueueRead
  repeat' first
    | with_reducible exact Frame.rfl _ _
    | with_reducible apply FrameO.powered
    | with_reducible apply FrameO.ok
    | with_reducible apply FrameO.next
    | with_reducible apply FrameO.ite
    | with_reducible apply Frame.ite
    | with_reducible apply Frame.ite2
    | with_reducible apply Frame.comp (State.emit_frame ..) (by decide)
    | with_reducible apply Frame.comp (State.tsqPop_frame ..) (by decide)
    | (split <;> try (rename_i hq; have e := congrArg Prod.snd hq; dsimp only at e; subst e))
    | dsimp only
    | with_reducible intro _ _

theorem execReflexInputChange_frame (pin : Fin 64) (level : Bool) (s : State) : FrameO 0x20000180080300000000401 s (execReflexInputChange pin level s) := by
  unfold execReflexInputChange
  repeat' first
    | with_reducible exact Frame.rfl _ _
    | with_reducible apply FrameO.powered
    | with_reducible apply FrameO.ok
    | with_reducible apply FrameO.next
    | with_reducible apply FrameO.ite
    | with_reducible apply Frame.ite
    | with_reducible apply Frame.ite2
    | with_reducible apply Frame.comp (State.pinM_frame ..) (by decide)
    | with_reducible apply Frame.comp (State.padRefresh_frame ..) (by decide)
    | (split <;> try (rename_i hq; have e := congrArg Prod.snd hq; dsimp only at e; subst e))
    | dsimp only
    | with_reducible intro _ _

theorem execFabricFlagChange_frame (flag : Fin 16) (s : State) : FrameO 0x20000180080300000000401 s (execFabricFlagChange flag s) := by
  unfold execFabricFlagChange
  repeat' first
    | with_reducible exact Frame.rfl _ _
    | with_reducible apply FrameO.powered
    | with_reducible apply FrameO.ok
    | with_reducible apply FrameO.next
    | with_reducible apply FrameO.ite
    | with_reducible apply Frame.ite
    | with_reducible apply Frame.ite2
    | with_reducible apply Frame.comp (State.padRefresh_frame ..) (by decide)
    | fail_if_no_progress with_reducible apply Frame.put_rfx _ (by decide)
    | (split <;> try (rename_i hq; have e := congrArg Prod.snd hq; dsimp only at e; subst e))
    | dsimp only
    | with_reducible intro _ _
    | fail_if_no_progress apply Frame.put_rfx _ (by decide)

theorem execStretchEnd_frame (out : Fin 64) (s : State) : FrameO 0x20000180080300000000401 s (execStretchEnd out s) := by
  unfold execStretchEnd
  repeat' first
    | with_reducible exact Frame.rfl _ _
    | with_reducible apply FrameO.powered
    | with_reducible apply FrameO.ok
    | with_reducible apply FrameO.next
    | with_reducible apply FrameO.ite
    | with_reducible apply Frame.ite
    | with_reducible apply Frame.ite2
    | with_reducible apply Frame.comp (State.padRefresh_frame ..) (by decide)
    | (split <;> try (rename_i hq; have e := congrArg Prod.snd hq; dsimp only at e; subst e))
    | dsimp only
    | with_reducible intro _ _

theorem State.latchClear_frame (s : State) (i mask : Nat) : Frame 0x20000180080300000000401 s (State.latchClear s i mask) := by
  unfold State.latchClear
  repeat' first
    | with_reducible exact Frame.rfl _ _
    | with_reducible apply Frame.ite
    | with_reducible apply Frame.ite2
    | with_reducible apply Frame.comp (State.padRefresh_frame ..) (by decide)
    | with_reducible apply Frame.wr (by decide)
    | (split <;> try (rename_i hq; have e := congrArg Prod.snd hq; dsimp only at e; subst e))
    | dsimp only
    | with_reducible intro _ _

theorem execLatchReset_frame (reg : Fin 2) (mask : Word) (s : State) : FrameO 0x20000180080300000000401 s (execLatchReset reg mask s) := by
  unfold execLatchReset
  repeat' first
    | with_reducible exact Frame.rfl _ _
    | with_reducible apply FrameO.powered
    | with_reducible apply FrameO.ok
    | with_reducible apply FrameO.next
    | with_reducible apply FrameO.ite
    | with_reducible apply Frame.ite
    | with_reducible apply Frame.ite2
    | with_reducible apply Frame.comp (State.latchClear_frame ..) (by decide)
    | (split <;> try (rename_i hq; have e := congrArg Prod.snd hq; dsimp only at e; subst e))
    | dsimp only
    | with_reducible intro _ _

theorem State.tpinReset_frame (s : State) : Frame 0x20000180080300000000401 s (State.tpinReset s) := by
  unfold State.tpinReset
  repeat' first
    | with_reducible exact Frame.rfl _ _
    | with_reducible apply Frame.ite
    | with_reducible apply Frame.ite2
    | with_reducible apply Frame.comp (State.tsqShow_frame ..) (by decide)
    | with_reducible apply Frame.comp (State.padRefresh_frame ..) (by decide)
    | with_reducible apply Frame.wr (by decide)
    | fail_if_no_progress with_reducible apply Frame.put_tpin _ (by decide)
    | (split <;> try (rename_i hq; have e := congrArg Prod.snd hq; dsimp only at e; subst e))
    | dsimp only
    | with_reducible intro _ _
    | fail_if_no_progress apply Frame.put_tpin _ (by decide)

theorem State.rfxReset_frame (s : State) : Frame 0x20000180080300000000401 s (State.rfxReset s) := by
  unfold State.rfxReset
  repeat' first
    | with_reducible exact Frame.rfl _ _
    | with_reducible apply Frame.ite
    | with_reducible apply Frame.ite2
    | with_reducible apply Frame.comp (State.padRefresh_frame ..) (by decide)
    | with_reducible apply Frame.wr (by decide)
    | fail_if_no_progress with_reducible apply Frame.put_rfx _ (by decide)
    | (split <;> try (rename_i hq; have e := congrArg Prod.snd hq; dsimp only at e; subst e))
    | dsimp only
    | with_reducible intro _ _
    | fail_if_no_progress apply Frame.put_rfx _ (by decide)

end Sys2Proof.Machine
end

