-- ==== Sys2Proof/Laws/FrameSignal.lean ====
section
/-! SUPPORT. The frames of the operations of Machine/Signal.lean. -/

set_option linter.unreachableTactic false
set_option linter.unusedTactic false

namespace Sys2Proof.Machine

open Sys2Proof

theorem State.sigM_frame (s : State) (f : SigUnit → SigUnit) : Frame 0x800000000000 s (State.sigM s f) := by
  unfold State.sigM
  repeat' first
    | with_reducible exact Frame.rfl _ _
    | with_reducible apply Frame.ite
    | fail_if_no_progress with_reducible apply Frame.put_sig _ (by decide)
    | (split <;> try (rename_i hq; have e := congrArg Prod.snd hq; dsimp only at e; subst e))
    | dsimp only
    | with_reducible intro _ _
    | fail_if_no_progress apply Frame.put_sig _ (by decide)

theorem State.opPut_frame (s : State) (n k : Nat) (o : OpSt) : Frame 0x800000000000 s (State.opPut s n k o) := by
  unfold State.opPut
  repeat' first
    | with_reducible exact Frame.rfl _ _
    | with_reducible apply Frame.ite
    | with_reducible apply Frame.ite2
    | with_reducible apply Frame.comp (State.sigM_frame ..) (by decide)
    | (split <;> try (rename_i hq; have e := congrArg Prod.snd hq; dsimp only at e; subst e))
    | dsimp only
    | with_reducible intro _ _

theorem Frame.sigErr {mk : Nat} {sA sB : State} {last count : Fld} {n evt : Nat} (hlast : last.okIn mk = true) (hcount : count.okIn mk = true) (hm : 0x20000000080000000000401 &&& mk = 0x20000000080000000000401)
    (h : Frame mk sA sB) : Frame mk sA (sB.sigErr last count n evt) := by
  unfold State.sigErr
  repeat' first
    | exact h
    | with_reducible exact Frame.rfl _ _
    | with_reducible apply Frame.ite
    | with_reducible apply Frame.ite2
    | with_reducible apply Frame.comp (State.raiseIf_frame ..) (mask_sub (by decide) hm)
    | with_reducible apply Frame.inc hlast
    | with_reducible apply Frame.inc hcount
    | with_reducible apply Frame.wr hlast
    | with_reducible apply Frame.wr hcount
    | (split <;> try (rename_i hq; have e := congrArg Prod.snd hq; dsimp only at e; subst e))
    | dsimp only
    | with_reducible intro _ _

theorem State.sigShow_frame (s : State) (n : Nat) : Frame 0x8000000000000000001 s (State.sigShow s n) := by
  unfold State.sigShow
  repeat' first
    | with_reducible exact Frame.rfl _ _
    | with_reducible apply Frame.ite
    | with_reducible apply Frame.ite2
    | with_reducible apply Frame.wri (by decide)
    | (split <;> try (rename_i hq; have e := congrArg Prod.snd hq; dsimp only at e; subst e))
    | dsimp only
    | with_reducible intro _ _

theorem execPortInput_frame (station : Fin 96) (s : State) : FrameO 0x20008000080800000000401 s (execPortInput station s) := by
  unfold execPortInput
  repeat' first
    | with_reducible exact Frame.rfl _ _
    | with_reducible apply FrameO.powered
    | with_reducible apply FrameO.ok
    | with_reducible apply FrameO.next
    | with_reducible apply FrameO.ite
    | with_reducible apply Frame.ite
    | with_reducible apply Frame.ite2
    | with_reducible apply Frame.comp (State.sigM_frame ..) (by decide)
    | with_reducible apply Frame.sigErr (by decide) (by decide) (by decide)
    | with_reducible apply Frame.comp (State.sigShow_frame ..) (by decide)
    | (split <;> try (rename_i hq; have e := congrArg Prod.snd hq; dsimp only at e; subst e))
    | dsimp only
    | with_reducible intro _ _

theorem State.pulseEmit_frame (s : State) (n : Nat) (r : CfgRec) (e : PulseEnd) : Frame 0x20008000280040000000401 s (State.pulseEmit s n r e).2 := by
  unfold State.pulseEmit
  repeat' first
    | with_reducible exact Frame.rfl _ _
    | with_reducible apply Frame.ite
    | with_reducible apply Frame.ite2
    | with_reducible apply Frame.comp (State.raiseIf_frame ..) (by decide)
    | with_reducible apply Frame.inc (by decide)
    | with_reducible apply Frame.inc (Fld.okIn_ite (by decide) (by decide))
    | with_reducible apply Frame.inci (by decide)
    | with_reducible apply Frame.inci (Fld.okIn_ite (by decide) (by decide))
    | with_reducible apply Frame.wr (by decide)
    | with_reducible apply Frame.wr (Fld.okIn_ite (by decide) (by decide))
    | with_reducible apply Frame.wrapi (by decide)
    | with_reducible apply Frame.wrapi (Fld.okIn_ite (by decide) (by decide))
    | fail_if_no_progress with_reducible apply Frame.put_tally _ (by decide)
    | (split <;> try (rename_i hq; have e := congrArg Prod.snd hq; dsimp only at e; subst e))
    | dsimp only
    | with_reducible intro _ _
    | fail_if_no_progress apply Frame.put_tally _ (by decide)

theorem State.lutPoint_frame (s : State) (table i : Nat) : Frame 0x20000008080000000000401 s (State.lutPoint s table i).2.2 := by
  unfold State.lutPoint
  repeat' first
    | with_reducible exact Frame.rfl _ _
    | with_reducible apply Frame.ite
    | with_reducible apply Frame.ite2
    | with_reducible apply Frame.comp (State.memRead_frame ..) (by decide)
    | (split <;> try (rename_i hq; have e := congrArg Prod.snd hq; dsimp only at e; subst e))
    | dsimp only
    | with_reducible intro _ _

theorem State.lut_frame (s : State) (n : Nat) (r : CfgRec) (x : Nat) : Frame 0x20008008080000000000401 s (State.lut s n r x).2 := by
  unfold State.lut
  repeat' first
    | with_reducible exact Frame.rfl _ _
    | with_reducible apply Frame.ite
    | with_reducible apply Frame.ite2
    | with_reducible apply Frame.comp (State.lutPoint_frame ..) (by decide)
    | with_reducible apply Frame.sigErr (by decide) (by decide) (by decide)
    | (split <;> try (rename_i hq; have e := congrArg Prod.snd hq; dsimp only at e; subst e))
    | dsimp only
    | with_reducible intro _ _

theorem State.ring_frame (s : State) (n k : Nat) (r : CfgRec) (o : OpSt) (x : Nat) : Frame 0x20008008080000000000407 s (State.ring s n k r o x).2 := by
  unfold State.ring
  repeat' first
    | with_reducible exact Frame.rfl _ _
    | with_reducible apply Frame.ite
    | with_reducible apply Frame.ite2
    | with_reducible apply Frame.comp (State.memRead_frame ..) (by decide)
    | with_reducible apply Frame.comp (State.memMerge_frame ..) (by decide)
    | with_reducible apply Frame.sigErr (by decide) (by decide) (by decide)
    | (split <;> try (rename_i hq; have e := congrArg Prod.snd hq; dsimp only at e; subst e))
    | dsimp only
    | with_reducible intro _ _

theorem State.runOp_frame (s : State) (n k : Nat) (x tag : Nat) : Frame 0x20008008280840000000407 s (State.runOp s n k x tag).2 := by
  unfold State.runOp
  repeat' first
    | with_reducible exact Frame.rfl _ _
    | with_reducible apply Frame.ite
    | with_reducible apply Frame.ite2
    | with_reducible apply Frame.comp (State.lut_frame ..) (by decide)
    | with_reducible apply Frame.comp (State.opPut_frame ..) (by decide)
    | with_reducible apply Frame.comp (State.raiseIf_frame ..) (by decide)
    | with_reducible apply Frame.comp (State.pulseEmit_frame ..) (by decide)
    | with_reducible apply Frame.comp (State.ring_frame ..) (by decide)
    | with_reducible apply Frame.sigErr (by decide) (by decide) (by decide)
    | with_reducible apply Frame.inci (by decide)
    | with_reducible apply Frame.wri (by decide)
    | (split <;> try (rename_i hq; have e := congrArg Prod.snd hq; dsimp only at e; subst e))
    | dsimp only
    | with_reducible intro _ _

theorem State.runFrom_frame (m : Nat) (s : State) (n k x tag : Nat) : Frame 0x20008008281841000000407 s (s.runFrom n k m x tag) := by
  induction m generalizing s k x tag with
  | zero =>
    unfold State.runFrom
    repeat' first
      | with_reducible exact Frame.rfl _ _
      | with_reducible apply Frame.ite
      | with_reducible apply Frame.ite2
      | with_reducible apply Frame.comp (State.produce_frame ..) (by decide)
      | with_reducible apply Frame.comp (State.runOp_frame ..) (by decide)
      | with_reducible apply Frame.wri (by decide)
      | (split <;> try (rename_i hq; have e := congrArg Prod.snd hq; dsimp only at e; subst e))
      | dsimp only
      | with_reducible intro _ _
  | succ n ih =>
    unfold State.runFrom
    repeat' first
      | with_reducible apply Frame.comp (ih ..) (by decide)
      | with_reducible exact Frame.rfl _ _
      | with_reducible apply Frame.ite
      | with_reducible apply Frame.ite2
      | with_reducible apply Frame.comp (State.produce_frame ..) (by decide)
      | with_reducible apply Frame.comp (State.runOp_frame ..) (by decide)
      | with_reducible apply Frame.wri (by decide)
      | (split <;> try (rename_i hq; have e := congrArg Prod.snd hq; dsimp only at e; subst e))
      | dsimp only
      | with_reducible intro _ _

theorem execStationVisit_frame (station : Fin 96) (s : State) : FrameO 0x20008008281841000000407 s (execStationVisit station s) := by
  unfold execStationVisit
  repeat' first
    | with_reducible exact Frame.rfl _ _
    | with_reducible apply FrameO.powered
    | with_reducible apply FrameO.ok
    | with_reducible apply FrameO.next
    | with_reducible apply FrameO.ite
    | with_reducible apply Frame.ite
    | with_reducible apply Frame.ite2
    | with_reducible apply Frame.comp (State.sigM_frame ..) (by decide)
    | with_reducible apply Frame.comp (State.sigShow_frame ..) (by decide)
    | with_reducible apply Frame.comp (State.runFrom_frame ..) (by decide)
    | (split <;> try (rename_i hq; have e := congrArg Prod.snd hq; dsimp only at e; subst e))
    | dsimp only
    | with_reducible intro _ _

theorem execRateGate_frame (station : Fin 96) (slot : Fin 4) (s : State) : FrameO 0x20008008281841000000407 s (execRateGate station slot s) := by
  unfold execRateGate
  repeat' first
    | with_reducible exact Frame.rfl _ _
    | with_reducible apply FrameO.powered
    | with_reducible apply FrameO.ok
    | with_reducible apply FrameO.next
    | with_reducible apply FrameO.ite
    | with_reducible apply Frame.ite
    | with_reducible apply Frame.ite2
    | with_reducible apply Frame.comp (State.opPut_frame ..) (by decide)
    | with_reducible apply Frame.comp (State.runFrom_frame ..) (by decide)
    | (split <;> try (rename_i hq; have e := congrArg Prod.snd hq; dsimp only at e; subst e))
    | dsimp only
    | with_reducible intro _ _

theorem State.sigStart_frame (s : State) (n : Nat) : Frame 0x8000000800000000001 s (State.sigStart s n) := by
  unfold State.sigStart
  repeat' first
    | with_reducible exact Frame.rfl _ _
    | with_reducible apply Frame.ite
    | with_reducible apply Frame.ite2
    | with_reducible apply Frame.comp (State.sigM_frame ..) (by decide)
    | with_reducible apply Frame.comp (State.opPut_frame ..) (by decide)
    | with_reducible apply Frame.comp (State.sigShow_frame ..) (by decide)
    | with_reducible apply Frame.foldl
    | with_reducible apply Frame.foldl2
    | (split <;> try (rename_i hq; have e := congrArg Prod.snd hq; dsimp only at e; subst e))
    | dsimp only
    | with_reducible intro _ _

theorem State.sigEnable_frame (s : State) (i v : Nat) : Frame 0x8000000800000000001 s (State.sigEnable s i v) := by
  unfold State.sigEnable
  repeat' first
    | with_reducible exact Frame.rfl _ _
    | with_reducible apply Frame.ite
    | with_reducible apply Frame.ite2
    | with_reducible apply Frame.comp (State.sigStart_frame ..) (by decide)
    | with_reducible apply Frame.comp (State.sigM_frame ..) (by decide)
    | with_reducible apply Frame.comp (State.sigShow_frame ..) (by decide)
    | with_reducible apply Frame.wri (by decide)
    | with_reducible apply Frame.foldl
    | with_reducible apply Frame.foldl2
    | (split <;> try (rename_i hq; have e := congrArg Prod.snd hq; dsimp only at e; subst e))
    | dsimp only
    | with_reducible intro _ _

theorem State.sigImage_frame (s : State) : Frame 0x8000000000000000001 s (State.sigImage s) := by
  unfold State.sigImage
  repeat' first
    | with_reducible exact Frame.rfl _ _
    | with_reducible apply Frame.ite
    | with_reducible apply Frame.ite2
    | with_reducible apply Frame.wri (by decide)
    | with_reducible apply Frame.foldl
    | with_reducible apply Frame.foldl2
    | (split <;> try (rename_i hq; have e := congrArg Prod.snd hq; dsimp only at e; subst e))
    | dsimp only
    | with_reducible intro _ _

theorem State.sigReset_frame (s : State) : Frame 0x8000000800000000001 s (State.sigReset s) := by
  unfold State.sigReset
  repeat' first
    | with_reducible exact Frame.rfl _ _
    | with_reducible apply Frame.ite
    | with_reducible apply Frame.ite2
    | with_reducible apply Frame.comp (State.sigStart_frame ..) (by decide)
    | with_reducible apply Frame.comp (State.sigImage_frame ..) (by decide)
    | fail_if_no_progress with_reducible apply Frame.put_sig _ (by decide)
    | with_reducible apply Frame.foldl
    | with_reducible apply Frame.foldl2
    | (split <;> try (rename_i hq; have e := congrArg Prod.snd hq; dsimp only at e; subst e))
    | dsimp only
    | with_reducible intro _ _
    | fail_if_no_progress apply Frame.put_sig _ (by decide)

theorem State.sigCommit_frame (s : State) : Frame 0x8000000000000000001 s (State.sigCommit s) := by
  unfold State.sigCommit
  repeat' first
    | with_reducible exact Frame.rfl _ _
    | with_reducible apply Frame.ite
    | with_reducible apply Frame.ite2
    | with_reducible apply Frame.wri (by decide)
    | with_reducible apply Frame.foldl
    | with_reducible apply Frame.foldl2
    | (split <;> try (rename_i hq; have e := congrArg Prod.snd hq; dsimp only at e; subst e))
    | dsimp only
    | with_reducible intro _ _

theorem State.sigStep_frame (s : State) : Frame 0x800000000000 s (State.sigStep s) := by
  unfold State.sigStep
  repeat' first
    | with_reducible exact Frame.rfl _ _
    | with_reducible apply Frame.ite
    | with_reducible apply Frame.ite2
    | with_reducible apply Frame.comp (State.opPut_frame ..) (by decide)
    | with_reducible apply Frame.foldl
    | with_reducible apply Frame.foldl2
    | (split <;> try (rename_i hq; have e := congrArg Prod.snd hq; dsimp only at e; subst e))
    | dsimp only
    | with_reducible intro _ _

end Sys2Proof.Machine
end

