-- ==== Sys2Proof/Laws/FrameMeasure.lean ====
section
/-! SUPPORT. The frames of the operations of Machine/Measure.lean. -/

set_option linter.unreachableTactic false
set_option linter.unusedTactic false

namespace Sys2Proof.Machine

open Sys2Proof

theorem State.msrM_frame (s : State) (f : MsrUnit → MsrUnit) : Frame 0x1000000000000 s (State.msrM s f) := by
  unfold State.msrM
  repeat' first
    | with_reducible exact Frame.rfl _ _
    | with_reducible apply Frame.ite
    | fail_if_no_progress with_reducible apply Frame.put_msr _ (by decide)
    | (split <;> try (rename_i hq; have e := congrArg Prod.snd hq; dsimp only at e; subst e))
    | dsimp only
    | with_reducible intro _ _
    | fail_if_no_progress apply Frame.put_msr _ (by decide)

theorem State.lineIO_frame (s : State) (i k v : Nat) : Frame 0x20000008080000000000407 s (State.lineIO s i k v).2 := by
  unfold State.lineIO
  repeat' first
    | with_reducible exact Frame.rfl _ _
    | with_reducible apply Frame.ite
    | with_reducible apply Frame.ite2
    | with_reducible apply Frame.comp (State.memMerge_frame ..) (by decide)
    | with_reducible apply Frame.comp (State.memRead_frame ..) (by decide)
    | (split <;> try (rename_i hq; have e := congrArg Prod.snd hq; dsimp only at e; subst e))
    | dsimp only
    | with_reducible intro _ _

theorem State.linesIO_frame (m : Nat) (s : State) (k : Nat) (vals : List Nat) (i : Nat) : Frame 0x20000008080000000000407 s (s.linesIO k vals i m).2 := by
  induction m generalizing s i with
  | zero =>
    unfold State.linesIO
    repeat' first
      | with_reducible exact Frame.rfl _ _
      | with_reducible apply Frame.ite
      | with_reducible apply Frame.ite2
      | with_reducible apply Frame.comp (State.lineIO_frame ..) (by decide)
      | (split <;> try (rename_i hq; have e := congrArg Prod.snd hq; dsimp only at e; subst e))
      | dsimp only
      | with_reducible intro _ _
  | succ n ih =>
    unfold State.linesIO
    repeat' first
      | with_reducible apply Frame.comp (ih ..) (by decide)
      | with_reducible exact Frame.rfl _ _
      | with_reducible apply Frame.ite
      | with_reducible apply Frame.ite2
      | with_reducible apply Frame.comp (State.lineIO_frame ..) (by decide)
      | (split <;> try (rename_i hq; have e := congrArg Prod.snd hq; dsimp only at e; subst e))
      | dsimp only
      | with_reducible intro _ _

theorem State.yShow_frame (s : State) : Frame 0x10000000000000000001 s (State.yShow s) := by
  unfold State.yShow
  repeat' first
    | with_reducible exact Frame.rfl _ _
    | with_reducible apply Frame.ite
    | with_reducible apply Frame.ite2
    | with_reducible apply Frame.wr (by decide)
    | (split <;> try (rename_i hq; have e := congrArg Prod.snd hq; dsimp only at e; subst e))
    | dsimp only
    | with_reducible intro _ _

theorem State.stepClose_frame (s : State) (y : YStep) (short : Bool) : Frame 0x20010001081000000010411 s (State.stepClose s y short) := by
  unfold State.stepClose
  repeat' first
    | with_reducible exact Frame.rfl _ _
    | with_reducible apply Frame.ite
    | with_reducible apply Frame.ite2
    | with_reducible apply Frame.comp (State.msrM_frame ..) (by decide)
    | with_reducible apply Frame.comp (State.free_frame ..) (by decide)
    | with_reducible apply Frame.comp (State.dmaDropOldest_frame ..) (by decide)
    | with_reducible apply Frame.comp (State.raise_frame ..) (by decide)
    | with_reducible apply Frame.comp (State.dmaReady_frame ..) (by decide)
    | with_reducible apply Frame.comp (State.yShow_frame ..) (by decide)
    | with_reducible apply Frame.inc (by decide)
    | with_reducible apply Frame.wr (by decide)
    | (split <;> try (rename_i hq; have e := congrArg Prod.snd hq; dsimp only at e; subst e))
    | dsimp only
    | with_reducible intro _ _

theorem State.stepTick_frame (s : State) (vals : List (Option Nat)) (loss : List Nat) (cut : Nat) : Frame 0x20010001081000000010411 s (State.stepTick s vals loss cut) := by
  unfold State.stepTick
  repeat' first
    | with_reducible exact Frame.rfl _ _
    | with_reducible apply Frame.ite
    | with_reducible apply Frame.ite2
    | with_reducible apply Frame.comp (State.stepClose_frame ..) (by decide)
    | with_reducible apply Frame.comp (State.msrM_frame ..) (by decide)
    | with_reducible apply Frame.wr64 (by decide) (by decide)
    | (split <;> try (rename_i hq; have e := congrArg Prod.snd hq; dsimp only at e; subst e))
    | dsimp only
    | with_reducible intro _ _

theorem State.tickDelayed_frame (s : State) (good : List Bool) (stop : Nat) : Frame 0x20010001081801000010411 s (State.tickDelayed s good stop) := by
  unfold State.tickDelayed
  repeat' first
    | with_reducible exact Frame.rfl _ _
    | with_reducible apply Frame.ite
    | with_reducible apply Frame.ite2
    | with_reducible apply Frame.comp (State.raiseIf_frame ..) (by decide)
    | with_reducible apply Frame.comp (State.free_frame ..) (by decide)
    | with_reducible apply Frame.comp (State.produce_frame ..) (by decide)
    | with_reducible apply Frame.comp (State.stepTick_frame ..) (by decide)
    | with_reducible apply Frame.wr (by decide)
    | (split <;> try (rename_i hq; have e := congrArg Prod.snd hq; dsimp only at e; subst e))
    | dsimp only
    | with_reducible intro _ _

theorem State.tickInputs_frame (s : State) (stop : Nat) : Frame 0x20010000081000000000401 s (State.tickInputs s stop).2 := by
  unfold State.tickInputs
  repeat' first
    | with_reducible exact Frame.rfl _ _
    | with_reducible apply Frame.ite
    | with_reducible apply Frame.ite2
    | with_reducible apply Frame.comp (State.raiseIf_frame ..) (by decide)
    | with_reducible apply Frame.comp (State.msrM_frame ..) (by decide)
    | with_reducible apply Frame.wr (by decide)
    | (split <;> try (rename_i hq; have e := congrArg Prod.snd hq; dsimp only at e; subst e))
    | dsimp only
    | with_reducible intro _ _

theorem State.tickFlow_frame (s : State) (vals : List (Option Nat)) (stop : Nat) : Frame 0x10000001801000000011 s (State.tickFlow s vals stop) := by
  unfold State.tickFlow
  repeat' first
    | with_reducible exact Frame.rfl _ _
    | with_reducible apply Frame.ite
    | with_reducible apply Frame.ite2
    | with_reducible apply Frame.comp (State.free_frame ..) (by decide)
    | with_reducible apply Frame.comp (State.produce_frame ..) (by decide)
    | with_reducible apply Frame.wr (by decide)
    | with_reducible apply Frame.wr64 (by decide) (by decide)
    | (split <;> try (rename_i hq; have e := congrArg Prod.snd hq; dsimp only at e; subst e))
    | dsimp only
    | with_reducible intro _ _

theorem State.tickShift_frame (s : State) (vals : List (Option Nat)) (good : List Bool) (stop : Nat) : Frame 0x20010001081801000010411 s (State.tickShift s vals good stop) := by
  unfold State.tickShift
  repeat' first
    | with_reducible exact Frame.rfl _ _
    | with_reducible apply Frame.ite
    | with_reducible apply Frame.ite2
    | with_reducible apply Frame.comp (State.msrM_frame ..) (by decide)
    | with_reducible apply Frame.comp (State.tickDelayed_frame ..) (by decide)
    | with_reducible apply Frame.wr (by decide)
    | with_reducible apply Frame.foldl
    | with_reducible apply Frame.foldl2
    | (split <;> try (rename_i hq; have e := congrArg Prod.snd hq; dsimp only at e; subst e))
    | dsimp only
    | with_reducible intro _ _

theorem State.tickTotals_frame (s : State) (stop : Nat) : Frame 0x1801000000000 s (State.tickTotals s stop) := by
  unfold State.tickTotals
  repeat' first
    | with_reducible exact Frame.rfl _ _
    | with_reducible apply Frame.ite
    | with_reducible apply Frame.ite2
    | with_reducible apply Frame.comp (State.produce_frame ..) (by decide)
    | (split <;> try (rename_i hq; have e := congrArg Prod.snd hq; dsimp only at e; subst e))
    | dsimp only
    | with_reducible intro _ _

theorem execTickClose_frame (s : State) : FrameO 0x20010009081801000010417 s (execTickClose s) := by
  unfold execTickClose
  refine FrameO.powered (Frame.rfl _ _) ?_
  refine FrameO.ite (FrameO.ok (Frame.rfl _ _)) (FrameO.ok ?_)
  refine Frame.comp (State.yShow_frame ..) (by decide) ?_
  refine Frame.comp (State.msrM_frame ..) (by decide) ?_
  refine Frame.comp (State.tickTotals_frame ..) (by decide) ?_
  refine Frame.comp (State.tickShift_frame ..) (by decide) ?_
  refine Frame.comp (State.linesIO_frame ..) (by decide) ?_
  refine Frame.comp (State.tickFlow_frame ..) (by decide) ?_
  exact Frame.comp (State.tickInputs_frame ..) (by decide) (Frame.rfl _ _)

theorem execClassResultArrival_frame (s : State) : FrameO 0x10000001000000000001 s (execClassResultArrival s) := by
  unfold execClassResultArrival
  repeat' first
    | with_reducible exact Frame.rfl _ _
    | with_reducible apply FrameO.powered
    | with_reducible apply FrameO.ok
    | with_reducible apply FrameO.next
    | with_reducible apply FrameO.ite
    | with_reducible apply Frame.ite
    | with_reducible apply Frame.ite2
    | with_reducible apply Frame.comp (State.msrM_frame ..) (by decide)
    | with_reducible apply Frame.wrapi (by decide)
    | (split <;> try (rename_i hq; have e := congrArg Prod.snd hq; dsimp only at e; subst e))
    | dsimp only
    | with_reducible intro _ _

theorem State.lossStart_frame (s : State) (g : Nat) : Frame 0x1000000000000 s (State.lossStart s g) := by
  unfold State.lossStart
  repeat' first
    | with_reducible exact Frame.rfl _ _
    | with_reducible apply Frame.ite
    | with_reducible apply Frame.ite2
    | with_reducible apply Frame.comp (State.msrM_frame ..) (by decide)
    | (split <;> try (rename_i hq; have e := congrArg Prod.snd hq; dsimp only at e; subst e))
    | dsimp only
    | with_reducible intro _ _

theorem State.msrEnable_frame (s : State) (v : Nat) : Frame 0x10000001000000000001 s (State.msrEnable s v) := by
  unfold State.msrEnable
  repeat' first
    | with_reducible exact Frame.rfl _ _
    | with_reducible apply Frame.ite
    | with_reducible apply Frame.ite2
    | with_reducible apply Frame.comp (State.lossStart_frame ..) (by decide)
    | with_reducible apply Frame.comp (State.msrM_frame ..) (by decide)
    | with_reducible apply Frame.wr (by decide)
    | with_reducible apply Frame.foldl
    | with_reducible apply Frame.foldl2
    | (split <;> try (rename_i hq; have e := congrArg Prod.snd hq; dsimp only at e; subst e))
    | dsimp only
    | with_reducible intro _ _

theorem execLossGroupEmit_frame (group : Fin 4) (s : State) : FrameO 0x10000001801000000001 s (execLossGroupEmit group s) := by
  unfold execLossGroupEmit
  repeat' first
    | with_reducible exact Frame.rfl _ _
    | with_reducible apply FrameO.powered
    | with_reducible apply FrameO.ok
    | with_reducible apply FrameO.next
    | with_reducible apply FrameO.ite
    | with_reducible apply Frame.ite
    | with_reducible apply Frame.ite2
    | with_reducible apply Frame.comp (State.msrM_frame ..) (by decide)
    | with_reducible apply Frame.comp (State.produce_frame ..) (by decide)
    | with_reducible apply Frame.wri (by decide)
    | (split <;> try (rename_i hq; have e := congrArg Prod.snd hq; dsimp only at e; subst e))
    | dsimp only
    | with_reducible intro _ _

theorem execClose_frame (s : State) : FrameO 0x1000000000000 s (execClose s) := by
  unfold execClose
  repeat' first
    | with_reducible exact Frame.rfl _ _
    | with_reducible apply FrameO.powered
    | with_reducible apply FrameO.ok
    | with_reducible apply FrameO.next
    | with_reducible apply FrameO.ite
    | with_reducible apply Frame.ite
    | with_reducible apply Frame.ite2
    | with_reducible apply Frame.comp (State.msrM_frame ..) (by decide)
    | (split <;> try (rename_i hq; have e := congrArg Prod.snd hq; dsimp only at e; subst e))
    | dsimp only
    | with_reducible intro _ _

theorem execTotClr_frame (s : State) : FrameO 0x10000000000000000001 s (execTotClr s) := by
  unfold execTotClr
  repeat' first
    | with_reducible exact Frame.rfl _ _
    | with_reducible apply FrameO.powered
    | with_reducible apply FrameO.ok
    | with_reducible apply FrameO.next
    | with_reducible apply FrameO.ite
    | with_reducible apply Frame.ite
    | with_reducible apply Frame.ite2
    | with_reducible apply Frame.wr64 (by decide) (by decide)
    | (split <;> try (rename_i hq; have e := congrArg Prod.snd hq; dsimp only at e; subst e))
    | dsimp only
    | with_reducible intro _ _

theorem execLossClr_frame (s : State) : FrameO 0x10000000000000000001 s (execLossClr s) := by
  unfold execLossClr
  repeat' first
    | with_reducible exact Frame.rfl _ _
    | with_reducible apply FrameO.powered
    | with_reducible apply FrameO.ok
    | with_reducible apply FrameO.next
    | with_reducible apply FrameO.ite
    | with_reducible apply Frame.ite
    | with_reducible apply Frame.ite2
    | with_reducible apply Frame.wri (by decide)
    | with_reducible apply Frame.foldl
    | with_reducible apply Frame.foldl2
    | (split <;> try (rename_i hq; have e := congrArg Prod.snd hq; dsimp only at e; subst e))
    | dsimp only
    | with_reducible intro _ _

theorem State.msrReset_frame (s : State) : Frame 0x10001001000000010001 s (State.msrReset s) := by
  unfold State.msrReset
  repeat' first
    | with_reducible exact Frame.rfl _ _
    | with_reducible apply Frame.ite
    | with_reducible apply Frame.ite2
    | with_reducible apply Frame.comp (State.dmaDiscard_frame ..) (by decide)
    | with_reducible apply Frame.comp (State.lossStart_frame ..) (by decide)
    | with_reducible apply Frame.comp (State.yShow_frame ..) (by decide)
    | with_reducible apply Frame.wr (by decide)
    | fail_if_no_progress with_reducible apply Frame.put_msr _ (by decide)
    | with_reducible apply Frame.foldl
    | with_reducible apply Frame.foldl2
    | (split <;> try (rename_i hq; have e := congrArg Prod.snd hq; dsimp only at e; subst e))
    | dsimp only
    | with_reducible intro _ _
    | fail_if_no_progress apply Frame.put_msr _ (by decide)

theorem State.msrStep_frame (s : State) : Frame 0x1000000000000 s (State.msrStep s) := by
  unfold State.msrStep
  repeat' first
    | with_reducible exact Frame.rfl _ _
    | with_reducible apply Frame.ite
    | with_reducible apply Frame.ite2
    | with_reducible apply Frame.comp (State.msrM_frame ..) (by decide)
    | (split <;> try (rename_i hq; have e := congrArg Prod.snd hq; dsimp only at e; subst e))
    | dsimp only
    | with_reducible intro _ _

end Sys2Proof.Machine
end

