-- ==== Sys2Proof/Laws/FrameLoops.lean ====
section
/-! SUPPORT. The frames of the operations of Machine/Loops.lean. -/

set_option linter.unreachableTactic false
set_option linter.unusedTactic false

namespace Sys2Proof.Machine

open Sys2Proof

theorem State.loopM_frame (s : State) (n : Nat) (f : LoopSt → LoopSt) : Frame 0x2000000000000 s (State.loopM s n f) := by
  unfold State.loopM
  repeat' first
    | with_reducible exact Frame.rfl _ _
    | with_reducible apply Frame.ite
    | fail_if_no_progress with_reducible apply Frame.put_loops _ (by decide)
    | (split <;> try (rename_i hq; have e := congrArg Prod.snd hq; dsimp only at e; subst e))
    | dsimp only
    | with_reducible intro _ _
    | fail_if_no_progress apply Frame.put_loops _ (by decide)

theorem Frame.loopStick {mk : Nat} {sA sB : State} {f : Fld} {n evt : Nat} {c : Bool} (hf : f.okIn mk = true) (hm : 0x20020000080000000000401 &&& mk = 0x20020000080000000000401)
    (h : Frame mk sA sB) : Frame mk sA (sB.loopStick f n evt c) := by
  unfold State.loopStick
  repeat' first
    | exact h
    | with_reducible exact Frame.rfl _ _
    | with_reducible apply Frame.ite
    | with_reducible apply Frame.ite2
    | with_reducible apply Frame.comp (State.raiseIf_frame ..) (mask_sub (by decide) hm)
    | with_reducible apply Frame.wr hf
    | with_reducible apply Frame.wr (Fld.okIn_mono (Fld.okIn_ite (by decide) (by decide)) hm)
    | with_reducible apply Frame.wri hf
    | with_reducible apply Frame.wri (Fld.okIn_mono (Fld.okIn_ite (by decide) (by decide)) hm)
    | (split <;> try (rename_i hq; have e := congrArg Prod.snd hq; dsimp only at e; subst e))
    | dsimp only
    | with_reducible intro _ _

theorem State.loopPost_frame (s : State) (c : LoopCalc) (before : List Nat) (t u : FV) (held sel : Bool) (el : Nat) : Frame 0x20020000082000000000401 s (State.loopPost s c before t u held sel el) := by
  unfold State.loopPost
  repeat' first
    | with_reducible exact Frame.rfl _ _
    | with_reducible apply Frame.ite
    | with_reducible apply Frame.ite2
    | with_reducible apply Frame.comp (State.loopM_frame ..) (by decide)
    | with_reducible apply Frame.loopStick (by decide) (by decide)
    | with_reducible apply Frame.inc (by decide)
    | with_reducible apply Frame.setFld (by decide)
    | with_reducible apply Frame.wr (by decide)
    | with_reducible apply Frame.wrapi (by decide)
    | with_reducible apply Frame.wri (by decide)
    | (split <;> try (rename_i hq; have e := congrArg Prod.snd hq; dsimp only at e; subst e))
    | dsimp only
    | with_reducible intro _ _

theorem State.loopSinkSet_frame (s : State) (sink : Nat × Nat) (v : Option Nat) : Frame 0x40000000000000 s (State.loopSinkSet s sink v) := by
  unfold State.loopSinkSet
  repeat' first
    | with_reducible exact Frame.rfl _ _
    | with_reducible apply Frame.ite
    | with_reducible apply Frame.ite2
    | fail_if_no_progress with_reducible apply Frame.put_sinks _ (by decide)
    | (split <;> try (rename_i hq; have e := congrArg Prod.snd hq; dsimp only at e; subst e))
    | dsimp only
    | with_reducible intro _ _
    | fail_if_no_progress apply Frame.put_sinks _ (by decide)

theorem State.groupShow_frame (s : State) (g : Nat) (sel : Option (FV × Nat)) (had : Bool) : Frame 0x20020000080000000000401 s (State.groupShow s g sel had) := by
  unfold State.groupShow
  repeat' first
    | with_reducible exact Frame.rfl _ _
    | with_reducible apply Frame.ite
    | with_reducible apply Frame.ite2
    | with_reducible apply Frame.comp (State.raise_frame ..) (by decide)
    | with_reducible apply Frame.inci (by decide)
    | with_reducible apply Frame.wri (by decide)
    | (split <;> try (rename_i hq; have e := congrArg Prod.snd hq; dsimp only at e; subst e))
    | dsimp only
    | with_reducible intro _ _

theorem State.loopRun_frame (s : State) (peers : List Nat) (r : CfgRec) (tk el : Nat) : Frame 0x300200000e3801000000401 s (State.loopRun s peers r tk el) := by
  unfold State.loopRun
  repeat' first
    | with_reducible exact Frame.rfl _ _
    | with_reducible apply Frame.ite
    | with_reducible apply Frame.ite2
    | with_reducible apply Frame.comp (State.groupShow_frame ..) (by decide)
    | with_reducible apply Frame.comp (State.pairLoop_frame ..) (by decide)
    | with_reducible apply Frame.comp (State.loopPost_frame ..) (by decide)
    | with_reducible apply Frame.comp (State.tieSend_frame ..) (by decide)
    | with_reducible apply Frame.comp (State.produce_frame ..) (by decide)
    | with_reducible apply Frame.comp (State.loopSinkSet_frame ..) (by decide)
    | with_reducible apply Frame.foldl
    | with_reducible apply Frame.foldl2
    | (split <;> try (rename_i hq; have e := congrArg Prod.snd hq; dsimp only at e; subst e))
    | dsimp only
    | with_reducible intro _ _

theorem execLoopSample_frame (loop : Fin 64) (s : State) : FrameO 0x300200000e3801000000401 s (execLoopSample loop s) := by
  unfold execLoopSample
  repeat' first
    | with_reducible exact Frame.rfl _ _
    | with_reducible apply FrameO.powered
    | with_reducible apply FrameO.ok
    | with_reducible apply FrameO.next
    | with_reducible apply FrameO.ite
    | with_reducible apply Frame.ite
    | with_reducible apply Frame.ite2
    | with_reducible apply Frame.comp (State.loopRun_frame ..) (by decide)
    | (split <;> try (rename_i hq; have e := congrArg Prod.snd hq; dsimp only at e; subst e))
    | dsimp only
    | with_reducible intro _ _

theorem State.loopStart_frame (s : State) (n : Nat) : Frame 0x20000002000000000001 s (State.loopStart s n) := by
  unfold State.loopStart
  repeat' first
    | with_reducible exact Frame.rfl _ _
    | with_reducible apply Frame.ite
    | with_reducible apply Frame.ite2
    | with_reducible apply Frame.comp (State.loopM_frame ..) (by decide)
    | with_reducible apply Frame.wri (by decide)
    | (split <;> try (rename_i hq; have e := congrArg Prod.snd hq; dsimp only at e; subst e))
    | dsimp only
    | with_reducible intro _ _

theorem State.sinkIdle_frame (s : State) (n : Nat) : Frame 0x40000000000000 s (State.sinkIdle s n) := by
  unfold State.sinkIdle
  repeat' first
    | with_reducible exact Frame.rfl _ _
    | with_reducible apply Frame.ite
    | with_reducible apply Frame.ite2
    | with_reducible apply Frame.comp (State.loopSinkSet_frame ..) (by decide)
    | (split <;> try (rename_i hq; have e := congrArg Prod.snd hq; dsimp only at e; subst e))
    | dsimp only
    | with_reducible intro _ _

theorem State.loopEnable_frame (s : State) (i v : Nat) : Frame 0x20000042000000000001 s (State.loopEnable s i v) := by
  unfold State.loopEnable
  repeat' first
    | with_reducible exact Frame.rfl _ _
    | with_reducible apply Frame.ite
    | with_reducible apply Frame.ite2
    | with_reducible apply Frame.comp (State.loopStart_frame ..) (by decide)
    | with_reducible apply Frame.comp (State.sinkIdle_frame ..) (by decide)
    | with_reducible apply Frame.wr (by decide)
    | with_reducible apply Frame.wr (Fld.okIn_ite (by decide) (by decide))
    | with_reducible apply Frame.foldl
    | with_reducible apply Frame.foldl2
    | (split <;> try (rename_i hq; have e := congrArg Prod.snd hq; dsimp only at e; subst e))
    | dsimp only
    | with_reducible intro _ _

theorem State.loopReset_frame (s : State) : Frame 0x20000042000000000001 s (State.loopReset s) := by
  unfold State.loopReset
  repeat' first
    | with_reducible exact Frame.rfl _ _
    | with_reducible apply Frame.ite
    | with_reducible apply Frame.ite2
    | with_reducible apply Frame.comp (State.loopStart_frame ..) (by decide)
    | with_reducible apply Frame.wr (by decide)
    | fail_if_no_progress with_reducible apply Frame.put_sinks _ (by decide)
    | with_reducible apply Frame.foldl
    | with_reducible apply Frame.foldl2
    | (split <;> try (rename_i hq; have e := congrArg Prod.snd hq; dsimp only at e; subst e))
    | dsimp only
    | with_reducible intro _ _
    | fail_if_no_progress apply Frame.put_sinks _ (by decide)

theorem State.loopCommit_frame (s : State) : Frame 0x20000042000000000001 s (State.loopCommit s) := by
  unfold State.loopCommit
  repeat' first
    | with_reducible exact Frame.rfl _ _
    | with_reducible apply Frame.ite
    | with_reducible apply Frame.ite2
    | with_reducible apply Frame.comp (State.loopReset_frame ..) (by decide)
    | with_reducible apply Frame.setFld (by decide)
    | with_reducible apply Frame.wri (by decide)
    | with_reducible apply Frame.foldl
    | with_reducible apply Frame.foldl2
    | (split <;> try (rename_i hq; have e := congrArg Prod.snd hq; dsimp only at e; subst e))
    | dsimp only
    | with_reducible intro _ _

theorem State.loopAmended_frame (s : State) (n : Nat) : Frame 0x2000000000000 s (State.loopAmended s n) := by
  unfold State.loopAmended
  repeat' first
    | with_reducible exact Frame.rfl _ _
    | with_reducible apply Frame.ite
    | with_reducible apply Frame.ite2
    | with_reducible apply Frame.comp (State.loopM_frame ..) (by decide)
    | (split <;> try (rename_i hq; have e := congrArg Prod.snd hq; dsimp only at e; subst e))
    | dsimp only
    | with_reducible intro _ _

end Sys2Proof.Machine
end

