-- ==== Sys2Proof/Laws/FrameCan.lean ====
section
/-! SUPPORT. The frames of the operations of Machine/Can.lean. -/

set_option linter.unreachableTactic false
set_option linter.unusedTactic false

namespace Sys2Proof.Machine

open Sys2Proof

theorem State.canM_frame (s : State) (n : Nat) (f : CanCtl → CanCtl) : Frame 0x4000000000000 s (State.canM s n f) := by
  unfold State.canM
  repeat' first
    | with_reducible exact Frame.rfl _ _
    | with_reducible apply Frame.ite
    | fail_if_no_progress with_reducible apply Frame.put_can _ (by decide)
    | (split <;> try (rename_i hq; have e := congrArg Prod.snd hq; dsimp only at e; subst e))
    | dsimp only
    | with_reducible intro _ _
    | fail_if_no_progress apply Frame.put_can _ (by decide)

theorem State.bufPut_frame (s : State) (b w v : Nat) : Frame 0x2000000000000000000001 s (State.bufPut s b w v) := by
  unfold State.bufPut
  repeat' first
    | with_reducible exact Frame.rfl _ _
    | with_reducible apply Frame.ite
    | with_reducible apply Frame.ite2
    | with_reducible apply Frame.wri (by decide)
    | (split <;> try (rename_i hq; have e := congrArg Prod.snd hq; dsimp only at e; subst e))
    | dsimp only
    | with_reducible intro _ _

theorem State.bufPuts_frame (l : List Nat) (s : State) (b w : Nat) : Frame 0x2000000000000000000001 s (s.bufPuts b w l) := by
  induction l generalizing s w with
  | nil =>
    unfold State.bufPuts
    repeat' first
      | with_reducible exact Frame.rfl _ _
      | with_reducible apply Frame.ite
      | with_reducible apply Frame.ite2
      | with_reducible apply Frame.comp (State.bufPut_frame ..) (by decide)
      | (split <;> try (rename_i hq; have e := congrArg Prod.snd hq; dsimp only at e; subst e))
      | dsimp only
      | with_reducible intro _ _
  | cons x l ih =>
    unfold State.bufPuts
    repeat' first
      | with_reducible apply Frame.comp (ih ..) (by decide)
      | with_reducible exact Frame.rfl _ _
      | with_reducible apply Frame.ite
      | with_reducible apply Frame.ite2
      | with_reducible apply Frame.comp (State.bufPut_frame ..) (by decide)
      | (split <;> try (rename_i hq; have e := congrArg Prod.snd hq; dsimp only at e; subst e))
      | dsimp only
      | with_reducible intro _ _

theorem Frame.bufMap {mk : Nat} {sA sB : State} {f : Fld} {b : Nat} {on : Bool} (hf : f.okIn mk = true) (hm : 0x1 &&& mk = 0x1)
    (h : Frame mk sA sB) : Frame mk sA (sB.bufMap f b on) := by
  unfold State.bufMap
  repeat' first
    | exact h
    | with_reducible exact Frame.rfl _ _
    | with_reducible apply Frame.ite
    | with_reducible apply Frame.ite2
    | with_reducible apply Frame.wri hf
    | (split <;> try (rename_i hq; have e := congrArg Prod.snd hq; dsimp only at e; subst e))
    | dsimp only
    | with_reducible intro _ _

theorem State.ringFull_frame (s : State) (n k : Nat) : Frame 0x2000000000000000000001 s (State.ringFull s n k) := by
  unfold State.ringFull
  repeat' first
    | with_reducible exact Frame.rfl _ _
    | with_reducible apply Frame.ite
    | with_reducible apply Frame.ite2
    | with_reducible apply Frame.wri (by decide)
    | with_reducible apply Frame.wri (Fld.okIn_ite (by decide) (by decide))
    | (split <;> try (rename_i hq; have e := congrArg Prod.snd hq; dsimp only at e; subst e))
    | dsimp only
    | with_reducible intro _ _

theorem State.bufSet_frame (s : State) (b st : Nat) : Frame 0x2000000000000000000001 s (State.bufSet s b st) := by
  unfold State.bufSet
  repeat' first
    | with_reducible exact Frame.rfl _ _
    | with_reducible apply Frame.ite
    | with_reducible apply Frame.ite2
    | with_reducible apply Frame.bufMap (by decide) (by decide)
    | with_reducible apply Frame.comp (State.ringFull_frame ..) (by decide)
    | with_reducible apply Frame.wri (by decide)
    | (split <;> try (rename_i hq; have e := congrArg Prod.snd hq; dsimp only at e; subst e))
    | dsimp only
    | with_reducible intro _ _

theorem State.bufErr_frame (s : State) (b cause : Nat) : Frame 0x2000000000000000000001 s (State.bufErr s b cause) := by
  unfold State.bufErr
  repeat' first
    | with_reducible exact Frame.rfl _ _
    | with_reducible apply Frame.ite
    | with_reducible apply Frame.ite2
    | with_reducible apply Frame.inc (by decide)
    | with_reducible apply Frame.wr (by decide)
    | (split <;> try (rename_i hq; have e := congrArg Prod.snd hq; dsimp only at e; subst e))
    | dsimp only
    | with_reducible intro _ _

theorem State.bufResult_frame (s : State) (b res : Nat) : Frame 0x22000000080000000000401 s (State.bufResult s b res) := by
  unfold State.bufResult
  repeat' first
    | with_reducible exact Frame.rfl _ _
    | with_reducible apply Frame.ite
    | with_reducible apply Frame.ite2
    | with_reducible apply Frame.comp (State.bufSet_frame ..) (by decide)
    | with_reducible apply Frame.comp (State.raiseIf_frame ..) (by decide)
    | with_reducible apply Frame.wri (by decide)
    | (split <;> try (rename_i hq; have e := congrArg Prod.snd hq; dsimp only at e; subst e))
    | dsimp only
    | with_reducible intro _ _

theorem State.canCount_frame (s : State) (n tec rec_ : Nat) : Frame 0x22000000080000000000401 s (State.canCount s n tec rec_) := by
  unfold State.canCount
  repeat' first
    | with_reducible exact Frame.rfl _ _
    | with_reducible apply Frame.ite
    | with_reducible apply Frame.ite2
    | with_reducible apply Frame.comp (State.raiseIf_frame ..) (by decide)
    | with_reducible apply Frame.wri (by decide)
    | (split <;> try (rename_i hq; have e := congrArg Prod.snd hq; dsimp only at e; subst e))
    | dsimp only
    | with_reducible intro _ _

theorem State.busIdle_frame (s : State) (n : Nat) : Frame 0x2000000004000000000001 s (State.busIdle s n) := by
  unfold State.busIdle
  repeat' first
    | with_reducible exact Frame.rfl _ _
    | with_reducible apply Frame.ite
    | with_reducible apply Frame.ite2
    | with_reducible apply Frame.comp (State.canM_frame ..) (by decide)
    | with_reducible apply Frame.wri (by decide)
    | (split <;> try (rename_i hq; have e := congrArg Prod.snd hq; dsimp only at e; subst e))
    | dsimp only
    | with_reducible intro _ _

theorem State.txFail_frame (s : State) (n : Nat) : Frame 0x22000000084000000000401 s (State.txFail s n) := by
  unfold State.txFail
  repeat' first
    | with_reducible exact Frame.rfl _ _
    | with_reducible apply Frame.ite
    | with_reducible apply Frame.ite2
    | with_reducible apply Frame.comp (State.canM_frame ..) (by decide)
    | with_reducible apply Frame.comp (State.bufResult_frame ..) (by decide)
    | with_reducible apply Frame.comp (State.bufSet_frame ..) (by decide)
    | (split <;> try (rename_i hq; have e := congrArg Prod.snd hq; dsimp only at e; subst e))
    | dsimp only
    | with_reducible intro _ _

theorem State.busOff_frame (s : State) (n : Nat) : Frame 0x22000000084000000000401 s (State.busOff s n) := by
  unfold State.busOff
  repeat' first
    | with_reducible exact Frame.rfl _ _
    | with_reducible apply Frame.ite
    | with_reducible apply Frame.ite2
    | with_reducible apply Frame.comp (State.txFail_frame ..) (by decide)
    | with_reducible apply Frame.comp (State.bufResult_frame ..) (by decide)
    | with_reducible apply Frame.comp (State.raise_frame ..) (by decide)
    | with_reducible apply Frame.inci (by decide)
    | with_reducible apply Frame.wri (by decide)
    | with_reducible apply Frame.foldl
    | with_reducible apply Frame.foldl2
    | (split <;> try (rename_i hq; have e := congrArg Prod.snd hq; dsimp only at e; subst e))
    | dsimp only
    | with_reducible intro _ _

theorem State.abdNext_frame (s : State) (n : Nat) : Frame 0x22000000084000000000401 s (State.abdNext s n) := by
  unfold State.abdNext
  repeat' first
    | with_reducible exact Frame.rfl _ _
    | with_reducible apply Frame.ite
    | with_reducible apply Frame.ite2
    | with_reducible apply Frame.comp (State.canM_frame ..) (by decide)
    | with_reducible apply Frame.comp (State.raise_frame ..) (by decide)
    | with_reducible apply Frame.wri (by decide)
    | (split <;> try (rename_i hq; have e := congrArg Prod.snd hq; dsimp only at e; subst e))
    | dsimp only
    | with_reducible intro _ _

theorem State.abdGood_frame (s : State) (n : Nat) : Frame 0x22000000084000000000401 s (State.abdGood s n) := by
  unfold State.abdGood
  repeat' first
    | with_reducible exact Frame.rfl _ _
    | with_reducible apply Frame.ite
    | with_reducible apply Frame.ite2
    | with_reducible apply Frame.comp (State.canM_frame ..) (by decide)
    | with_reducible apply Frame.comp (State.raise_frame ..) (by decide)
    | with_reducible apply Frame.wri (by decide)
    | (split <;> try (rename_i hq; have e := congrArg Prod.snd hq; dsimp only at e; subst e))
    | dsimp only
    | with_reducible intro _ _

theorem State.canStore_frame (s : State) (n b : Nat) (f : CanFrame) (filter time : Nat) (spill : Bool) : Frame 0x2000000004000000000001 s (State.canStore s n b f filter time spill) := by
  unfold State.canStore
  repeat' first
    | with_reducible exact Frame.rfl _ _
    | with_reducible apply Frame.ite
    | with_reducible apply Frame.ite2
    | with_reducible apply Frame.comp (State.bufPuts_frame ..) (by decide)
    | with_reducible apply Frame.comp (State.canM_frame ..) (by decide)
    | with_reducible apply Frame.comp (State.bufSet_frame ..) (by decide)
    | (split <;> try (rename_i hq; have e := congrArg Prod.snd hq; dsimp only at e; subst e))
    | dsimp only
    | with_reducible intro _ _

theorem State.ringStore_frame (s : State) (n k : Nat) (f : CanFrame) (filter time : Nat) (spill : Bool) : Frame 0x22000000084000000000401 s (State.ringStore s n k f filter time spill) := by
  unfold State.ringStore
  repeat' first
    | with_reducible exact Frame.rfl _ _
    | with_reducible apply Frame.ite
    | with_reducible apply Frame.ite2
    | with_reducible apply Frame.comp (State.canStore_frame ..) (by decide)
    | with_reducible apply Frame.comp (State.raise_frame ..) (by decide)
    | with_reducible apply Frame.inci (by decide)
    | with_reducible apply Frame.inci (Fld.okIn_ite (by decide) (by decide))
    | with_reducible apply Frame.wri (by decide)
    | with_reducible apply Frame.wri (Fld.okIn_ite (by decide) (by decide))
    | (split <;> try (rename_i hq; have e := congrArg Prod.snd hq; dsimp only at e; subst e))
    | dsimp only
    | with_reducible intro _ _

theorem State.hpSpill_frame (s : State) (n : Nat) (f : CanFrame) (filter time : Nat) : Frame 0x22000000084000000000401 s (State.hpSpill s n f filter time) := by
  unfold State.hpSpill
  repeat' first
    | with_reducible exact Frame.rfl _ _
    | with_reducible apply Frame.ite
    | with_reducible apply Frame.ite2
    | with_reducible apply Frame.comp (State.ringStore_frame ..) (by decide)
    | with_reducible apply Frame.comp (State.raise_frame ..) (by decide)
    | with_reducible apply Frame.inci (by decide)
    | (split <;> try (rename_i hq; have e := congrArg Prod.snd hq; dsimp only at e; subst e))
    | dsimp only
    | with_reducible intro _ _

theorem State.hpStore_frame (s : State) (n : Nat) (f : CanFrame) (filter time : Nat) : Frame 0x22000000084000000000401 s (State.hpStore s n f filter time) := by
  unfold State.hpStore
  repeat' first
    | with_reducible exact Frame.rfl _ _
    | with_reducible apply Frame.ite
    | with_reducible apply Frame.ite2
    | with_reducible apply Frame.comp (State.canStore_frame ..) (by decide)
    | with_reducible apply Frame.comp (State.raise_frame ..) (by decide)
    | with_reducible apply Frame.comp (State.hpSpill_frame ..) (by decide)
    | (split <;> try (rename_i hq; have e := congrArg Prod.snd hq; dsimp only at e; subst e))
    | dsimp only
    | with_reducible intro _ _

theorem State.rxSignals_frame (s : State) (n : Nat) (f : CanFrame) (time : Nat) : Frame 0x1801000000000 s (State.rxSignals s n f time) := by
  unfold State.rxSignals
  repeat' first
    | with_reducible exact Frame.rfl _ _
    | with_reducible apply Frame.ite
    | with_reducible apply Frame.ite2
    | with_reducible apply Frame.comp (State.produce_frame ..) (by decide)
    | with_reducible apply Frame.foldl
    | with_reducible apply Frame.foldl2
    | (split <;> try (rename_i hq; have e := congrArg Prod.snd hq; dsimp only at e; subst e))
    | dsimp only
    | with_reducible intro _ _

theorem State.txPack_frame (s : State) (b : Nat) : Frame 0x2000000000000000000001 s (State.txPack s b) := by
  unfold State.txPack
  repeat' first
    | with_reducible exact Frame.rfl _ _
    | with_reducible apply Frame.ite
    | with_reducible apply Frame.ite2
    | with_reducible apply Frame.comp (State.bufPuts_frame ..) (by decide)
    | with_reducible apply Frame.foldl
    | with_reducible apply Frame.foldl2
    | (split <;> try (rename_i hq; have e := congrArg Prod.snd hq; dsimp only at e; subst e))
    | dsimp only
    | with_reducible intro _ _

theorem execFrameReceived_frame (ctrl : Fin 4) (frame : CanFrame) (ago : Nat) (s : State) : FrameO 0x22000000085801000000411 s (execFrameReceived ctrl frame ago s) := by
  unfold execFrameReceived
  repeat' first
    | with_reducible exact Frame.rfl _ _
    | with_reducible apply FrameO.powered
    | with_reducible apply FrameO.ok
    | with_reducible apply FrameO.next
    | with_reducible apply FrameO.ite
    | with_reducible apply Frame.ite
    | with_reducible apply Frame.ite2
    | with_reducible apply Frame.comp (State.abdGood_frame ..) (by decide)
    | with_reducible apply Frame.comp (State.free_frame ..) (by decide)
    | with_reducible apply Frame.comp (State.canCount_frame ..) (by decide)
    | with_reducible apply Frame.comp (State.ringStore_frame ..) (by decide)
    | with_reducible apply Frame.comp (State.hpStore_frame ..) (by decide)
    | with_reducible apply Frame.comp (State.rxSignals_frame ..) (by decide)
    | (split <;> try (rename_i hq; have e := congrArg Prod.snd hq; dsimp only at e; subst e))
    | dsimp only
    | with_reducible intro _ _

theorem execProtocolException_frame (ctrl : Fin 4) (s : State) : FrameO 0x22000000084000000000401 s (execProtocolException ctrl s) := by
  unfold execProtocolException
  repeat' first
    | with_reducible exact Frame.rfl _ _
    | with_reducible apply FrameO.powered
    | with_reducible apply FrameO.ok
    | with_reducible apply FrameO.next
    | with_reducible apply FrameO.ite
    | with_reducible apply Frame.ite
    | with_reducible apply Frame.ite2
    | with_reducible apply Frame.comp (State.txFail_frame ..) (by decide)
    | with_reducible apply Frame.comp (State.busIdle_frame ..) (by decide)
    | with_reducible apply Frame.inci (by decide)
    | with_reducible apply Frame.wri (by decide)
    | (split <;> try (rename_i hq; have e := congrArg Prod.snd hq; dsimp only at e; subst e))
    | dsimp only
    | with_reducible intro _ _

theorem execBusIntegrationComplete_frame (ctrl : Fin 4) (s : State) : FrameO 0x2000000004000000000001 s (execBusIntegrationComplete ctrl s) := by
  unfold execBusIntegrationComplete
  repeat' first
    | with_reducible exact Frame.rfl _ _
    | with_reducible apply FrameO.powered
    | with_reducible apply FrameO.ok
    | with_reducible apply FrameO.next
    | with_reducible apply FrameO.ite
    | with_reducible apply Frame.ite
    | with_reducible apply Frame.ite2
    | with_reducible apply Frame.comp (State.canM_frame ..) (by decide)
    | with_reducible apply Frame.wri (by decide)
    | (split <;> try (rename_i hq; have e := congrArg Prod.snd hq; dsimp only at e; subst e))
    | dsimp only
    | with_reducible intro _ _

theorem execFrameLoad_frame (ctrl : Fin 4) (s : State) : FrameO 0x2000000084000000000001 s (execFrameLoad ctrl s) := by
  unfold execFrameLoad
  repeat' first
    | with_reducible exact Frame.rfl _ _
    | with_reducible apply FrameO.powered
    | with_reducible apply FrameO.ok
    | with_reducible apply FrameO.next
    | with_reducible apply FrameO.ite
    | with_reducible apply Frame.ite
    | with_reducible apply Frame.ite2
    | with_reducible apply Frame.comp (State.txPack_frame ..) (by decide)
    | with_reducible apply Frame.comp (State.bufSet_frame ..) (by decide)
    | with_reducible apply Frame.comp (State.canM_frame ..) (by decide)
    | with_reducible apply Frame.comp (State.emit_frame ..) (by decide)
    | (split <;> try (rename_i hq; have e := congrArg Prod.snd hq; dsimp only at e; subst e))
    | dsimp only
    | with_reducible intro _ _

theorem execTxDone_frame (ctrl : Fin 4) (ago delay : Nat) (s : State) : FrameO 0x22000000084000000000401 s (execTxDone ctrl ago delay s) := by
  unfold execTxDone
  repeat' first
    | with_reducible exact Frame.rfl _ _
    | with_reducible apply FrameO.powered
    | with_reducible apply FrameO.ok
    | with_reducible apply FrameO.next
    | with_reducible apply FrameO.ite
    | with_reducible apply Frame.ite
    | with_reducible apply Frame.ite2
    | with_reducible apply Frame.comp (State.bufPuts_frame ..) (by decide)
    | with_reducible apply Frame.comp (State.canM_frame ..) (by decide)
    | with_reducible apply Frame.comp (State.bufResult_frame ..) (by decide)
    | with_reducible apply Frame.comp (State.canCount_frame ..) (by decide)
    | with_reducible apply Frame.comp (State.busIdle_frame ..) (by decide)
    | with_reducible apply Frame.wri (by decide)
    | (split <;> try (rename_i hq; have e := congrArg Prod.snd hq; dsimp only at e; subst e))
    | dsimp only
    | with_reducible intro _ _

theorem execArbitrationLost_frame (ctrl : Fin 4) (s : State) : FrameO 0x22000000084000000000401 s (execArbitrationLost ctrl s) := by
  unfold execArbitrationLost
  repeat' first
    | with_reducible exact Frame.rfl _ _
    | with_reducible apply FrameO.powered
    | with_reducible apply FrameO.ok
    | with_reducible apply FrameO.next
    | with_reducible apply FrameO.ite
    | with_reducible apply Frame.ite
    | with_reducible apply Frame.ite2
    | with_reducible apply Frame.comp (State.txFail_frame ..) (by decide)
    | with_reducible apply Frame.comp (State.busIdle_frame ..) (by decide)
    | (split <;> try (rename_i hq; have e := congrArg Prod.snd hq; dsimp only at e; subst e))
    | dsimp only
    | with_reducible intro _ _

theorem execErrorFrame_frame (ctrl : Fin 4) (tx : Bool) (code : Fin 7) (extra : Nat) (s : State) : FrameO 0x22000000084000000000401 s (execErrorFrame ctrl tx code extra s) := by
  unfold execErrorFrame
  repeat' first
    | with_reducible exact Frame.rfl _ _
    | with_reducible apply FrameO.powered
    | with_reducible apply FrameO.ok
    | with_reducible apply FrameO.next
    | with_reducible apply FrameO.ite
    | with_reducible apply Frame.ite
    | with_reducible apply Frame.ite2
    | with_reducible apply Frame.comp (State.abdNext_frame ..) (by decide)
    | with_reducible apply Frame.comp (State.canCount_frame ..) (by decide)
    | with_reducible apply Frame.comp (State.busOff_frame ..) (by decide)
    | with_reducible apply Frame.comp (State.busIdle_frame ..) (by decide)
    | with_reducible apply Frame.comp (State.txFail_frame ..) (by decide)
    | with_reducible apply Frame.inci (by decide)
    | with_reducible apply Frame.wri (by decide)
    | (split <;> try (rename_i hq; have e := congrArg Prod.snd hq; dsimp only at e; subst e))
    | dsimp only
    | with_reducible intro _ _

theorem State.txRequest_frame (s : State) (b : Nat) : Frame 0x2000000000000000000001 s (State.txRequest s b) := by
  unfold State.txRequest
  repeat' first
    | with_reducible exact Frame.rfl _ _
    | with_reducible apply Frame.ite
    | with_reducible apply Frame.ite2
    | with_reducible apply Frame.comp (State.bufSet_frame ..) (by decide)
    | with_reducible apply Frame.wri (by decide)
    | (split <;> try (rename_i hq; have e := congrArg Prod.snd hq; dsimp only at e; subst e))
    | dsimp only
    | with_reducible intro _ _

theorem execCanTxgo_frame (buf : Fin 512) (s : State) : FrameO 0x2000000000000000000001 s (execCanTxgo buf s) := by
  unfold execCanTxgo
  repeat' first
    | with_reducible exact Frame.rfl _ _
    | with_reducible apply FrameO.powered
    | with_reducible apply FrameO.ok
    | with_reducible apply FrameO.next
    | with_reducible apply FrameO.ite
    | with_reducible apply Frame.ite
    | with_reducible apply Frame.ite2
    | with_reducible apply Frame.comp (State.bufErr_frame ..) (by decide)
    | with_reducible apply Frame.comp (State.txRequest_frame ..) (by decide)
    | (split <;> try (rename_i hq; have e := congrArg Prod.snd hq; dsimp only at e; subst e))
    | dsimp only
    | with_reducible intro _ _

theorem execCanTxcancel_frame (buf : Fin 512) (s : State) : FrameO 0x22000000084000000000401 s (execCanTxcancel buf s) := by
  unfold execCanTxcancel
  repeat' first
    | with_reducible exact Frame.rfl _ _
    | with_reducible apply FrameO.powered
    | with_reducible apply FrameO.ok
    | with_reducible apply FrameO.next
    | with_reducible apply FrameO.ite
    | with_reducible apply Frame.ite
    | with_reducible apply Frame.ite2
    | with_reducible apply Frame.comp (State.bufErr_frame ..) (by decide)
    | with_reducible apply Frame.comp (State.canM_frame ..) (by decide)
    | with_reducible apply Frame.comp (State.bufResult_frame ..) (by decide)
    | (split <;> try (rename_i hq; have e := congrArg Prod.snd hq; dsimp only at e; subst e))
    | dsimp only
    | with_reducible intro _ _

theorem execAtMissed_frame (buf : Fin 512) (s : State) : FrameO 0x22000000080000000000401 s (execAtMissed buf s) := by
  unfold execAtMissed
  repeat' first
    | with_reducible exact Frame.rfl _ _
    | with_reducible apply FrameO.powered
    | with_reducible apply FrameO.ok
    | with_reducible apply FrameO.next
    | with_reducible apply FrameO.ite
    | with_reducible apply Frame.ite
    | with_reducible apply Frame.ite2
    | with_reducible apply Frame.comp (State.bufResult_frame ..) (by decide)
    | (split <;> try (rename_i hq; have e := congrArg Prod.snd hq; dsimp only at e; subst e))
    | dsimp only
    | with_reducible intro _ _

theorem State.periodFrom_frame (s : State) (r : CfgRec) : Frame 0x4000000000000 s (State.periodFrom s r) := by
  unfold State.periodFrom
  repeat' first
    | with_reducible exact Frame.rfl _ _
    | with_reducible apply Frame.ite
    | with_reducible apply Frame.ite2
    | fail_if_no_progress with_reducible apply Frame.put_can _ (by decide)
    | (split <;> try (rename_i hq; have e := congrArg Prod.snd hq; dsimp only at e; subst e))
    | dsimp only
    | with_reducible intro _ _
    | fail_if_no_progress apply Frame.put_can _ (by decide)

theorem execPeriodicRequest_frame (buf : Fin 512) (s : State) : FrameO 0x2000000004000000000001 s (execPeriodicRequest buf s) := by
  unfold execPeriodicRequest
  repeat' first
    | with_reducible exact Frame.rfl _ _
    | with_reducible apply FrameO.powered
    | with_reducible apply FrameO.ok
    | with_reducible apply FrameO.next
    | with_reducible apply FrameO.ite
    | with_reducible apply Frame.ite
    | with_reducible apply Frame.ite2
    | with_reducible apply Frame.comp (State.periodFrom_frame ..) (by decide)
    | with_reducible apply Frame.comp (State.bufErr_frame ..) (by decide)
    | with_reducible apply Frame.comp (State.txRequest_frame ..) (by decide)
    | (split <;> try (rename_i hq; have e := congrArg Prod.snd hq; dsimp only at e; subst e))
    | dsimp only
    | with_reducible intro _ _

theorem State.bufLock_frame (s : State) (b : Nat) : Frame 0x2000000004000000000001 s (State.bufLock s b) := by
  unfold State.bufLock
  repeat' first
    | with_reducible exact Frame.rfl _ _
    | with_reducible apply Frame.ite
    | with_reducible apply Frame.comp (State.bufSet_frame ..) (by decide)
    | fail_if_no_progress with_reducible apply Frame.put_can _ (by decide)
    | (split <;> try (rename_i hq; have e := congrArg Prod.snd hq; dsimp only at e; subst e))
    | dsimp only
    | with_reducible intro _ _
    | fail_if_no_progress apply Frame.put_can _ (by decide)

theorem State.bufRelease_frame (s : State) (b : Nat) : Frame 0x2000000004000000000001 s (State.bufRelease s b) := by
  unfold State.bufRelease
  repeat' first
    | with_reducible exact Frame.rfl _ _
    | with_reducible apply Frame.ite
    | with_reducible apply Frame.comp (State.bufSet_frame ..) (by decide)
    | fail_if_no_progress with_reducible apply Frame.put_can _ (by decide)
    | (split <;> try (rename_i hq; have e := congrArg Prod.snd hq; dsimp only at e; subst e))
    | dsimp only
    | with_reducible intro _ _
    | fail_if_no_progress apply Frame.put_can _ (by decide)

theorem State.bufTouch_frame (s : State) (b w : Nat) : Frame 0x2000000004000000000001 s (State.bufTouch s b w) := by
  unfold State.bufTouch
  repeat' first
    | with_reducible exact Frame.rfl _ _
    | with_reducible apply Frame.ite
    | with_reducible apply Frame.comp (State.bufLock_frame ..) (by decide)
    | with_reducible apply Frame.comp (State.bufRelease_frame ..) (by decide)
    | (split <;> try (rename_i hq; have e := congrArg Prod.snd hq; dsimp only at e; subst e))
    | dsimp only
    | with_reducible intro _ _

theorem execBufferLock_frame (buf : Fin 512) (s : State) : FrameO 0x2000000084000000000001 s (execBufferLock buf s) := by
  unfold execBufferLock
  repeat' first
    | with_reducible exact Frame.rfl _ _
    | with_reducible apply FrameO.powered
    | with_reducible apply FrameO.ok
    | with_reducible apply FrameO.next
    | with_reducible apply FrameO.ite
    | with_reducible apply Frame.ite
    | with_reducible apply Frame.ite2
    | with_reducible apply Frame.comp (State.bufLock_frame ..) (by decide)
    | with_reducible apply Frame.comp (State.emit_frame ..) (by decide)
    | (split <;> try (rename_i hq; have e := congrArg Prod.snd hq; dsimp only at e; subst e))
    | dsimp only
    | with_reducible intro _ _

theorem execBufferRelease_frame (buf : Fin 512) (s : State) : FrameO 0x2000000084000000000001 s (execBufferRelease buf s) := by
  unfold execBufferRelease
  repeat' first
    | with_reducible exact Frame.rfl _ _
    | with_reducible apply FrameO.powered
    | with_reducible apply FrameO.ok
    | with_reducible apply FrameO.next
    | with_reducible apply FrameO.ite
    | with_reducible apply Frame.ite
    | with_reducible apply Frame.ite2
    | with_reducible apply Frame.comp (State.bufRelease_frame ..) (by decide)
    | with_reducible apply Frame.comp (State.emit_frame ..) (by decide)
    | (split <;> try (rename_i hq; have e := congrArg Prod.snd hq; dsimp only at e; subst e))
    | dsimp only
    | with_reducible intro _ _

theorem State.bufUnlock_frame (s : State) (b : Nat) : Frame 0x2000000004000000000001 s (State.bufUnlock s b) := by
  unfold State.bufUnlock
  repeat' first
    | with_reducible exact Frame.rfl _ _
    | with_reducible apply Frame.ite
    | with_reducible apply Frame.comp (State.bufSet_frame ..) (by decide)
    | fail_if_no_progress with_reducible apply Frame.put_can _ (by decide)
    | (split <;> try (rename_i hq; have e := congrArg Prod.snd hq; dsimp only at e; subst e))
    | dsimp only
    | with_reducible intro _ _
    | fail_if_no_progress apply Frame.put_can _ (by decide)

theorem execCanLockclr_frame (buf : Fin 512) (s : State) : FrameO 0x2000000004000000000001 s (execCanLockclr buf s) := by
  unfold execCanLockclr
  repeat' first
    | with_reducible exact Frame.rfl _ _
    | with_reducible apply FrameO.powered
    | with_reducible apply FrameO.ok
    | with_reducible apply FrameO.next
    | with_reducible apply FrameO.ite
    | with_reducible apply Frame.ite
    | with_reducible apply Frame.ite2
    | with_reducible apply Frame.comp (State.bufUnlock_frame ..) (by decide)
    | (split <;> try (rename_i hq; have e := congrArg Prod.snd hq; dsimp only at e; subst e))
    | dsimp only
    | with_reducible intro _ _

theorem execLockTimeout_frame (buf : Fin 512) (s : State) : FrameO 0x2000000004000000000001 s (execLockTimeout buf s) := by
  unfold execLockTimeout
  repeat' first
    | with_reducible exact Frame.rfl _ _
    | with_reducible apply FrameO.powered
    | with_reducible apply FrameO.ok
    | with_reducible apply FrameO.next
    | with_reducible apply FrameO.ite
    | with_reducible apply Frame.ite
    | with_reducible apply Frame.ite2
    | with_reducible apply Frame.comp (State.bufUnlock_frame ..) (by decide)
    | with_reducible apply Frame.inc (by decide)
    | (split <;> try (rename_i hq; have e := congrArg Prod.snd hq; dsimp only at e; subst e))
    | dsimp only
    | with_reducible intro _ _

theorem execRecover_frame (ctrl : Fin 4) (s : State) : FrameO 0x2000000000000000000001 s (execRecover ctrl s) := by
  unfold execRecover
  repeat' first
    | with_reducible exact Frame.rfl _ _
    | with_reducible apply FrameO.powered
    | with_reducible apply FrameO.ok
    | with_reducible apply FrameO.next
    | with_reducible apply FrameO.ite
    | with_reducible apply Frame.ite
    | with_reducible apply Frame.ite2
    | with_reducible apply Frame.wri (by decide)
    | (split <;> try (rename_i hq; have e := congrArg Prod.snd hq; dsimp only at e; subst e))
    | dsimp only
    | with_reducible intro _ _

theorem execRecovered_frame (ctrl : Fin 4) (s : State) : FrameO 0x22000000080000000000401 s (execRecovered ctrl s) := by
  unfold execRecovered
  repeat' first
    | with_reducible exact Frame.rfl _ _
    | with_reducible apply FrameO.powered
    | with_reducible apply FrameO.ok
    | with_reducible apply FrameO.next
    | with_reducible apply FrameO.ite
    | with_reducible apply Frame.ite
    | with_reducible apply Frame.ite2
    | with_reducible apply Frame.comp (State.canCount_frame ..) (by decide)
    | with_reducible apply Frame.comp (State.raise_frame ..) (by decide)
    | with_reducible apply Frame.wri (by decide)
    | (split <;> try (rename_i hq; have e := congrArg Prod.snd hq; dsimp only at e; subst e))
    | dsimp only
    | with_reducible intro _ _

theorem State.canStart_frame (s : State) (n : Nat) : Frame 0x2000000004000000000001 s (State.canStart s n) := by
  unfold State.canStart
  repeat' first
    | with_reducible exact Frame.rfl _ _
    | with_reducible apply Frame.ite
    | with_reducible apply Frame.ite2
    | with_reducible apply Frame.comp (State.canM_frame ..) (by decide)
    | with_reducible apply Frame.wri (by decide)
    | (split <;> try (rename_i hq; have e := congrArg Prod.snd hq; dsimp only at e; subst e))
    | dsimp only
    | with_reducible intro _ _

theorem execControllerEnable_frame (ctrl : Fin 4) (value : Word) (s : State) : FrameO 0x2000000004000000000001 s (execControllerEnable ctrl value s) := by
  unfold execControllerEnable
  repeat' first
    | with_reducible exact Frame.rfl _ _
    | with_reducible apply FrameO.powered
    | with_reducible apply FrameO.ok
    | with_reducible apply FrameO.next
    | with_reducible apply FrameO.ite
    | with_reducible apply Frame.ite
    | with_reducible apply Frame.ite2
    | with_reducible apply Frame.comp (State.canM_frame ..) (by decide)
    | with_reducible apply Frame.comp (State.busIdle_frame ..) (by decide)
    | with_reducible apply Frame.comp (State.canStart_frame ..) (by decide)
    | with_reducible apply Frame.wri (by decide)
    | (split <;> try (rename_i hq; have e := congrArg Prod.snd hq; dsimp only at e; subst e))
    | dsimp only
    | with_reducible intro _ _

theorem execAbdDwellTimeout_frame (ctrl : Fin 4) (s : State) : FrameO 0x22000000084000000000401 s (execAbdDwellTimeout ctrl s) := by
  unfold execAbdDwellTimeout
  repeat' first
    | with_reducible exact Frame.rfl _ _
    | with_reducible apply FrameO.powered
    | with_reducible apply FrameO.ok
    | with_reducible apply FrameO.next
    | with_reducible apply FrameO.ite
    | with_reducible apply Frame.ite
    | with_reducible apply Frame.ite2
    | with_reducible apply Frame.comp (State.abdNext_frame ..) (by decide)
    | (split <;> try (rename_i hq; have e := congrArg Prod.snd hq; dsimp only at e; subst e))
    | dsimp only
    | with_reducible intro _ _

theorem State.txHeader_frame (s : State) (r : CfgRec) (fill : Bool) : Frame 0x2000000000000000000001 s (State.txHeader s r fill) := by
  unfold State.txHeader
  repeat' first
    | with_reducible exact Frame.rfl _ _
    | with_reducible apply Frame.ite
    | with_reducible apply Frame.ite2
    | with_reducible apply Frame.comp (State.bufPuts_frame ..) (by decide)
    | (split <;> try (rename_i hq; have e := congrArg Prod.snd hq; dsimp only at e; subst e))
    | dsimp only
    | with_reducible intro _ _

theorem State.canRoles_frame (s : State) (n : Nat) : Frame 0x2000000000000000000001 s (State.canRoles s n) := by
  unfold State.canRoles
  repeat' first
    | with_reducible exact Frame.rfl _ _
    | with_reducible apply Frame.ite
    | with_reducible apply Frame.ite2
    | with_reducible apply Frame.wri (by decide)
    | with_reducible apply Frame.foldl
    | with_reducible apply Frame.foldl2
    | (split <;> try (rename_i hq; have e := congrArg Prod.snd hq; dsimp only at e; subst e))
    | dsimp only
    | with_reducible intro _ _

theorem cellWfFrom_filter {α : Type} [DecidableEq α] (d : Nat → α) (q : Nat × α → Bool) {l : List (Nat × α)} {i : Nat}
    (h : cellWfFrom d i l = true) : cellWfFrom d i (l.filter q) = true := by
  induction l generalizing i with
  | nil => exact h
  | cons x l ih =>
    simp only [cellWfFrom, Bool.and_eq_true, decide_eq_true_eq] at h
    rw [List.filter_cons]
    split
    · simp only [cellWfFrom, Bool.and_eq_true, decide_eq_true_eq]
      exact ⟨h.1, ih h.2⟩
    · exact cellWfFrom_mono d (by omega) (ih h.2)

theorem cellGet_filter {α : Type} (d : Nat → α) (q : Nat × α → Bool) (l : List (Nat × α)) (a : Nat)
    (h : ∀ v, q (a, v) = true) : cellGet d (l.filter q) a = cellGet d l a := by
  induction l with
  | nil => rfl
  | cons x l ih =>
    obtain ⟨b, w⟩ := x
    rw [List.filter_cons]
    split
    · simp only [cellGet, ih]
    · next hq =>
      have hb : a ≠ b := fun e => hq (by rw [← e]; exact h w)
      simp only [cellGet, if_neg hb, ih]

theorem State.canClear_reg (s : State) (keep : Bool) (a : Nat) (h : a / 0x10000 ≠ 28 ∨ isEvt a = true) :
    (State.canClear s keep).reg a = s.reg a := by
  have hn : ¬ (0x1C4000 ≤ a ∧ a < 0x1CE000) ∧ ¬ (0x1C0400 ≤ a ∧ a < 0x1C04C0) ∧ ¬ (0x1C2000 ≤ a ∧ a < 0x1C2800) := by
    simp only [isEvt, Bool.and_eq_true, decide_eq_true_eq] at h
    omega
  unfold State.canClear State.reg
  refine congrArg BitVec.toNat (cellGet_filter regReset _ s.regs a fun v => ?_)
  simp only [Bool.not_eq_true', Bool.or_eq_false_iff, Bool.and_eq_false_iff, decide_eq_false_iff_not]
  omega

theorem State.canClear_frame (s : State) (keep : Bool) : Frame 0x2000000004000000000001 s (State.canClear s keep) := by
  refine ⟨fun p hp => ?_, fun w => ⟨cellWfFrom_filter regReset _ w.1, w.2⟩⟩
  cases p <;> first
    | exact Eq.refl _
   
    | exact absurd hp (by decide)
    | skip
  · next w =>
    intro a ha _
    refine s.canClear_reg keep a (Or.inl fun e => ?_)
    have : w = 28 := by omega
    subst this
    exact absurd hp (by decide)
  · exact fun a ha => s.canClear_reg keep a (Or.inr ha)

theorem State.canImage_frame (s : State) : Frame 0x2000000004000000000001 s (State.canImage s) := by
  unfold State.canImage
  repeat' first
    | with_reducible exact Frame.rfl _ _
    | with_reducible apply Frame.ite
    | with_reducible apply Frame.ite2
    | with_reducible apply Frame.comp (State.periodFrom_frame ..) (by decide)
    | with_reducible apply Frame.comp (State.canRoles_frame ..) (by decide)
    | with_reducible apply Frame.comp (State.txHeader_frame ..) (by decide)
    | with_reducible apply Frame.comp (State.canStart_frame ..) (by decide)
    | with_reducible apply Frame.setFld (by decide)
    | with_reducible apply Frame.wri (by decide)
    | with_reducible apply Frame.foldl
    | with_reducible apply Frame.foldl2
    | (split <;> try (rename_i hq; have e := congrArg Prod.snd hq; dsimp only at e; subst e))
    | dsimp only
    | with_reducible intro _ _

theorem State.canReset_frame (s : State) : Frame 0x22000000084000000000401 s (State.canReset s) := by
  unfold State.canReset
  repeat' first
    | with_reducible exact Frame.rfl _ _
    | with_reducible apply Frame.ite
    | with_reducible apply Frame.ite2
    | with_reducible apply Frame.comp (State.bufResult_frame ..) (by decide)
    | with_reducible apply Frame.comp (State.canClear_frame ..) (by decide)
    | with_reducible apply Frame.comp (State.canImage_frame ..) (by decide)
    | with_reducible apply Frame.wri (by decide)
    | with_reducible apply Frame.foldl
    | with_reducible apply Frame.foldl2
    | (split <;> try (rename_i hq; have e := congrArg Prod.snd hq; dsimp only at e; subst e))
    | dsimp only
    | with_reducible intro _ _

theorem State.canCommit_frame (s : State) : Frame 0x2000000004000000000001 s (State.canCommit s) := by
  unfold State.canCommit
  repeat' first
    | with_reducible exact Frame.rfl _ _
    | with_reducible apply Frame.ite
    | with_reducible apply Frame.ite2
    | with_reducible apply Frame.comp (State.canClear_frame ..) (by decide)
    | with_reducible apply Frame.comp (State.canImage_frame ..) (by decide)
    | (split <;> try (rename_i hq; have e := congrArg Prod.snd hq; dsimp only at e; subst e))
    | dsimp only
    | with_reducible intro _ _

end Sys2Proof.Machine
end

