-- ==== Sys2Proof/Laws/FrameSteps.lean ====
section
/-! SUPPORT. The frames of the operations of Machine/Steps.lean. -/

set_option linter.unreachableTactic false
set_option linter.unusedTactic false

namespace Sys2Proof.Machine

open Sys2Proof

theorem State.talStep_frame (s : State) (d : Int) : Frame 0x40000000000 s (State.talStep s d) := by
  unfold State.talStep
  repeat' first
    | with_reducible exact Frame.rfl _ _
    | with_reducible apply Frame.ite
    | with_reducible apply Frame.ite2
    | with_reducible apply Frame.comp (State.talM_frame ..) (by decide)
    | (split <;> try (rename_i hq; have e := congrArg Prod.snd hq; dsimp only at e; subst e))
    | dsimp only
    | with_reducible intro _ _

theorem State.pairStep_frame (s : State) (d : Int) : Frame 0x20000000000000 s (State.pairStep s d) := by
  unfold State.pairStep
  repeat' first
    | with_reducible exact Frame.rfl _ _
    | with_reducible apply Frame.ite
    | with_reducible apply Frame.ite2
    | with_reducible apply Frame.comp (State.pairM_frame ..) (by decide)
    | (split <;> try (rename_i hq; have e := congrArg Prod.snd hq; dsimp only at e; subst e))
    | dsimp only
    | with_reducible intro _ _

theorem State.stepAll_frame (s : State) (d : Int) : Frame 0x200c02088a5cc6000000487 s (State.stepAll s d) := by
  unfold State.stepAll
  repeat' first
    | with_reducible exact Frame.rfl _ _
    | with_reducible apply Frame.ite
    | with_reducible apply Frame.ite2
    | with_reducible apply Frame.comp (State.timeStep_frame ..) (by decide)
    | with_reducible apply Frame.comp (State.stkStep_frame ..) (by decide)
    | with_reducible apply Frame.comp (State.talStep_frame ..) (by decide)
    | with_reducible apply Frame.comp (State.pairStep_frame ..) (by decide)
    | with_reducible apply Frame.comp (State.afeStep_frame ..) (by decide)
    | with_reducible apply Frame.comp (State.sigStep_frame ..) (by decide)
    | with_reducible apply Frame.comp (State.msrStep_frame ..) (by decide)
    | fail_if_no_progress with_reducible apply Frame.put_gns _ (by decide)
    | fail_if_no_progress with_reducible apply Frame.put_can _ (by decide)
    | (split <;> try (rename_i hq; have e := congrArg Prod.snd hq; dsimp only at e; subst e))
    | dsimp only
    | with_reducible intro _ _
    | fail_if_no_progress apply Frame.put_gns _ (by decide)
    | fail_if_no_progress apply Frame.put_can _ (by decide)

theorem execStep_frame (s : State) : FrameO 0x200c02088a5cc6000000487 s (execStep s) := by
  unfold execStep
  repeat' first
    | with_reducible exact Frame.rfl _ _
    | with_reducible apply FrameO.powered
    | with_reducible apply FrameO.ok
    | with_reducible apply FrameO.next
    | with_reducible apply FrameO.ite
    | with_reducible apply Frame.ite
    | with_reducible apply Frame.ite2
    | with_reducible apply Frame.comp (State.stepAll_frame ..) (by decide)
    | (split <;> try (rename_i hq; have e := congrArg Prod.snd hq; dsimp only at e; subst e))
    | dsimp only
    | with_reducible intro _ _

end Sys2Proof.Machine
end

