-- ==== Sys2Proof/Laws/FrameTownship.lean ====
section
/-! SUPPORT. The frames of the operations of Machine/Township.lean. -/

set_option linter.unreachableTactic false
set_option linter.unusedTactic false

namespace Sys2Proof.Machine

open Sys2Proof

theorem State.macM_frame (s : State) (m : Nat) (f : EthMac → EthMac) : Frame 0x8000000000000 s (State.macM s m f) := by
  unfold State.macM
  repeat' first
    | with_reducible exact Frame.rfl _ _
    | with_reducible apply Frame.ite
    | fail_if_no_progress with_reducible apply Frame.put_eth _ (by decide)
    | (split <;> try (rename_i hq; have e := congrArg Prod.snd hq; dsimp only at e; subst e))
    | dsimp only
    | with_reducible intro _ _
    | fail_if_no_progress apply Frame.put_eth _ (by decide)

theorem State.twnM_frame (s : State) (f : TwnUnit → TwnUnit) : Frame 0x10000000000000 s (State.twnM s f) := by
  unfold State.twnM
  repeat' first
    | with_reducible exact Frame.rfl _ _
    | with_reducible apply Frame.ite
    | fail_if_no_progress with_reducible apply Frame.put_twn _ (by decide)
    | (split <;> try (rename_i hq; have e := congrArg Prod.snd hq; dsimp only at e; subst e))
    | dsimp only
    | with_reducible intro _ _
    | fail_if_no_progress apply Frame.put_twn _ (by decide)

theorem State.ptpM_frame (s : State) (f : Ptp → Ptp) : Frame 0x10000000000000 s (State.ptpM s f) := by
  unfold State.ptpM
  repeat' first
    | with_reducible exact Frame.rfl _ _
    | with_reducible apply Frame.ite
    | with_reducible apply Frame.ite2
    | with_reducible apply Frame.comp (State.twnM_frame ..) (by decide)
    | (split <;> try (rename_i hq; have e := congrArg Prod.snd hq; dsimp only at e; subst e))
    | dsimp only
    | with_reducible intro _ _

theorem State.ethSend_frame (s : State) (m : Nat) (bytes : List Nat) : Frame 0x88000000000000 s (State.ethSend s m bytes) := by
  unfold State.ethSend
  repeat' first
    | with_reducible exact Frame.rfl _ _
    | with_reducible apply Frame.ite
    | with_reducible apply Frame.ite2
    | with_reducible apply Frame.comp (State.macM_frame ..) (by decide)
    | with_reducible apply Frame.comp (State.emit_frame ..) (by decide)
    | (split <;> try (rename_i hq; have e := congrArg Prod.snd hq; dsimp only at e; subst e))
    | dsimp only
    | with_reducible intro _ _

theorem execGateControlInterval_frame (mac : Fin 2) (s : State) : FrameO 0x8000000000000 s (execGateControlInterval mac s) := by
  unfold execGateControlInterval
  repeat' first
    | with_reducible exact Frame.rfl _ _
    | with_reducible apply FrameO.powered
    | with_reducible apply FrameO.ok
    | with_reducible apply FrameO.next
    | with_reducible apply FrameO.ite
    | with_reducible apply Frame.ite
    | with_reducible apply Frame.ite2
    | with_reducible apply Frame.comp (State.macM_frame ..) (by decide)
    | (split <;> try (rename_i hq; have e := congrArg Prod.snd hq; dsimp only at e; subst e))
    | dsimp only
    | with_reducible intro _ _

theorem State.mirrorCopy_frame (s : State) (stamp : Nat) (received : Bool) (payload : List Nat) : Frame 0x28000001080000000010401 s (State.mirrorCopy s stamp received payload) := by
  unfold State.mirrorCopy
  repeat' first
    | with_reducible exact Frame.rfl _ _
    | with_reducible apply Frame.ite
    | with_reducible apply Frame.ite2
    | with_reducible apply Frame.comp (State.dmaReady_frame ..) (by decide)
    | with_reducible apply Frame.inc (by decide)
    | (split <;> try (rename_i hq; have e := congrArg Prod.snd hq; dsimp only at e; subst e))
    | dsimp only
    | with_reducible intro _ _

theorem State.txDone_frame (s : State) (m : Nat) : Frame 0x4000000008000000000001 s (State.txDone s m) := by
  unfold State.txDone
  repeat' first
    | with_reducible exact Frame.rfl _ _
    | with_reducible apply Frame.ite
    | with_reducible apply Frame.ite2
    | with_reducible apply Frame.comp (State.macM_frame ..) (by decide)
    | with_reducible apply Frame.wri (by decide)
    | (split <;> try (rename_i hq; have e := congrArg Prod.snd hq; dsimp only at e; subst e))
    | dsimp only
    | with_reducible intro _ _

theorem State.ethPost_frame (s : State) (m v : Nat) : Frame 0x24000008088000000000401 s (State.ethPost s m v) := by
  unfold State.ethPost
  repeat' first
    | with_reducible exact Frame.rfl _ _
    | with_reducible apply Frame.ite
    | with_reducible apply Frame.ite2
    | with_reducible apply Frame.comp (State.memRead_frame ..) (by decide)
    | with_reducible apply Frame.comp (State.macM_frame ..) (by decide)
    | with_reducible apply Frame.wri (by decide)
    | with_reducible apply Frame.foldl
    | with_reducible apply Frame.foldl2
    | (split <;> try (rename_i hq; have e := congrArg Prod.snd hq; dsimp only at e; subst e))
    | dsimp only
    | with_reducible intro _ _

theorem execTransmitPost_frame (mac : Fin 2) (value : Word) (s : State) : FrameO 0x24000008288000000000401 s (execTransmitPost mac value s) := by
  unfold execTransmitPost
  repeat' first
    | with_reducible exact Frame.rfl _ _
    | with_reducible apply FrameO.powered
    | with_reducible apply FrameO.ok
    | with_reducible apply FrameO.next
    | with_reducible apply FrameO.ite
    | with_reducible apply Frame.ite
    | with_reducible apply Frame.ite2
    | with_reducible apply Frame.comp (State.ethPost_frame ..) (by decide)
    | with_reducible apply Frame.inc (by decide)
    | with_reducible apply Frame.wr (by decide)
    | (split <;> try (rename_i hq; have e := congrArg Prod.snd hq; dsimp only at e; subst e))
    | dsimp only
    | with_reducible intro _ _

theorem State.txMark_frame (s : State) (m i : Nat) : Frame 0x4000000008000000000001 s (State.txMark s m i) := by
  unfold State.txMark
  repeat' first
    | with_reducible exact Frame.rfl _ _
    | with_reducible apply Frame.ite
    | with_reducible apply Frame.ite2
    | with_reducible apply Frame.comp (State.macM_frame ..) (by decide)
    | with_reducible apply Frame.comp (State.txDone_frame ..) (by decide)
    | (split <;> try (rename_i hq; have e := congrArg Prod.snd hq; dsimp only at e; subst e))
    | dsimp only
    | with_reducible intro _ _

theorem State.txDescriptor_frame (s : State) (m : Nat) (d : TxDesc) : Frame 0x24000008088000000000407 s (State.txDescriptor s m d) := by
  unfold State.txDescriptor
  repeat' first
    | with_reducible exact Frame.rfl _ _
    | with_reducible apply Frame.ite
    | with_reducible apply Frame.ite2
    | with_reducible apply Frame.comp (State.memPut_frame ..) (by decide)
    | with_reducible apply Frame.comp (State.txMark_frame ..) (by decide)
    | with_reducible apply Frame.comp (State.memBytes_frame ..) (by decide)
    | with_reducible apply Frame.comp (State.ethSend_frame ..) (by decide)
    | (split <;> try (rename_i hq; have e := congrArg Prod.snd hq; dsimp only at e; subst e))
    | dsimp only
    | with_reducible intro _ _

theorem State.txHand_frame (s : State) (m : Nat) (h : HFrame) : Frame 0x28000001098000000010401 s (State.txHand s m h) := by
  unfold State.txHand
  repeat' first
    | with_reducible exact Frame.rfl _ _
    | with_reducible apply Frame.ite
    | with_reducible apply Frame.ite2
    | with_reducible apply Frame.comp (State.twnM_frame ..) (by decide)
    | with_reducible apply Frame.comp (State.ethSend_frame ..) (by decide)
    | with_reducible apply Frame.comp (State.mirrorCopy_frame ..) (by decide)
    | with_reducible apply Frame.wrapi (by decide)
    | (split <;> try (rename_i hq; have e := congrArg Prod.snd hq; dsimp only at e; subst e))
    | dsimp only
    | with_reducible intro _ _

theorem execTransmitComplete_frame (mac : Fin 2) (s : State) : FrameO 0x2c000009098000000010407 s (execTransmitComplete mac s) := by
  unfold execTransmitComplete
  repeat' first
    | with_reducible exact Frame.rfl _ _
    | with_reducible apply FrameO.powered
    | with_reducible apply FrameO.ok
    | with_reducible apply FrameO.next
    | with_reducible apply FrameO.ite
    | with_reducible apply Frame.ite
    | with_reducible apply Frame.ite2
    | with_reducible apply Frame.comp (State.txDescriptor_frame ..) (by decide)
    | with_reducible apply Frame.comp (State.txHand_frame ..) (by decide)
    | (split <;> try (rename_i hq; have e := congrArg Prod.snd hq; dsimp only at e; subst e))
    | dsimp only
    | with_reducible intro _ _

theorem State.mdioWrite_frame (s : State) (v : Nat) : Frame 0x4000000080000000000001 s (State.mdioWrite s v) := by
  unfold State.mdioWrite
  repeat' first
    | with_reducible exact Frame.rfl _ _
    | with_reducible apply Frame.ite
    | with_reducible apply Frame.ite2
    | with_reducible apply Frame.comp (State.emit_frame ..) (by decide)
    | with_reducible apply Frame.setFld (by decide)
    | (split <;> try (rename_i hq; have e := congrArg Prod.snd hq; dsimp only at e; subst e))
    | dsimp only
    | with_reducible intro _ _

theorem execMdioTransaction_frame (value : Word) (s : State) : FrameO 0x4000000080000000000001 s (execMdioTransaction value s) := by
  unfold execMdioTransaction
  repeat' first
    | with_reducible exact Frame.rfl _ _
    | with_reducible apply FrameO.powered
    | with_reducible apply FrameO.ok
    | with_reducible apply FrameO.next
    | with_reducible apply FrameO.ite
    | with_reducible apply Frame.ite
    | with_reducible apply Frame.ite2
    | with_reducible apply Frame.comp (State.mdioWrite_frame ..) (by decide)
    | (split <;> try (rename_i hq; have e := congrArg Prod.snd hq; dsimp only at e; subst e))
    | dsimp only
    | with_reducible intro _ _

theorem execMdioComplete_frame (data : BitVec 16) (s : State) : FrameO 0x4000000000000000000001 s (execMdioComplete data s) := by
  unfold execMdioComplete
  repeat' first
    | with_reducible exact Frame.rfl _ _
    | with_reducible apply FrameO.powered
    | with_reducible apply FrameO.ok
    | with_reducible apply FrameO.next
    | with_reducible apply FrameO.ite
    | with_reducible apply Frame.ite
    | with_reducible apply Frame.ite2
    | with_reducible apply Frame.wr (by decide)
    | (split <;> try (rename_i hq; have e := congrArg Prod.snd hq; dsimp only at e; subst e))
    | dsimp only
    | with_reducible intro _ _

theorem State.ethLink_frame (s : State) (m : Nat) (up : Bool) (speed : Nat) : Frame 0x24000000080000000000401 s (State.ethLink s m up speed) := by
  unfold State.ethLink
  repeat' first
    | with_reducible exact Frame.rfl _ _
    | with_reducible apply Frame.ite
    | with_reducible apply Frame.ite2
    | with_reducible apply Frame.comp (State.raiseIf_frame ..) (by decide)
    | with_reducible apply Frame.wri (by decide)
    | (split <;> try (rename_i hq; have e := congrArg Prod.snd hq; dsimp only at e; subst e))
    | dsimp only
    | with_reducible intro _ _

theorem execEthLinkChange_frame (mac : Fin 2) (up : Bool) (speed : Fin 3) (s : State) : FrameO 0x24000000080000000000401 s (execEthLinkChange mac up speed s) := by
  unfold execEthLinkChange
  repeat' first
    | with_reducible exact Frame.rfl _ _
    | with_reducible apply FrameO.powered
    | with_reducible apply FrameO.ok
    | with_reducible apply FrameO.next
    | with_reducible apply FrameO.ite
    | with_reducible apply Frame.ite
    | with_reducible apply Frame.ite2
    | with_reducible apply Frame.comp (State.ethLink_frame ..) (by decide)
    | (split <;> try (rename_i hq; have e := congrArg Prod.snd hq; dsimp only at e; subst e))
    | dsimp only
    | with_reducible intro _ _

theorem State.ethCtrl_frame (s : State) (m v : Nat) : Frame 0x24000000080000000000401 s (State.ethCtrl s m v) := by
  unfold State.ethCtrl
  repeat' first
    | with_reducible exact Frame.rfl _ _
    | with_reducible apply Frame.ite
    | with_reducible apply Frame.ite2
    | with_reducible apply Frame.comp (State.ethLink_frame ..) (by decide)
    | with_reducible apply Frame.wri (by decide)
    | (split <;> try (rename_i hq; have e := congrArg Prod.snd hq; dsimp only at e; subst e))
    | dsimp only
    | with_reducible intro _ _

theorem State.ptpSelect_frame (s : State) : Frame 0x28000000090000000000401 s (State.ptpSelect s) := by
  unfold State.ptpSelect
  repeat' first
    | with_reducible exact Frame.rfl _ _
    | with_reducible apply Frame.ite
    | with_reducible apply Frame.ite2
    | with_reducible apply Frame.comp (State.ptpM_frame ..) (by decide)
    | with_reducible apply Frame.comp (State.raise_frame ..) (by decide)
    | with_reducible apply Frame.wr (by decide)
    | (split <;> try (rename_i hq; have e := congrArg Prod.snd hq; dsimp only at e; subst e))
    | dsimp only
    | with_reducible intro _ _

theorem State.ptpSend_frame (s : State) (msg : List Nat) : Frame 0x88000000000000 s (State.ptpSend s msg) := by
  unfold State.ptpSend
  repeat' first
    | with_reducible exact Frame.rfl _ _
    | with_reducible apply Frame.ite
    | with_reducible apply Frame.ite2
    | with_reducible apply Frame.comp (State.ethSend_frame ..) (by decide)
    | (split <;> try (rename_i hq; have e := congrArg Prod.snd hq; dsimp only at e; subst e))
    | dsimp only
    | with_reducible intro _ _

theorem execSyncSend_frame (s : State) : FrameO 0x28000000098000000000401 s (execSyncSend s) := by
  unfold execSyncSend
  repeat' first
    | with_reducible exact Frame.rfl _ _
    | with_reducible apply FrameO.powered
    | with_reducible apply FrameO.ok
    | with_reducible apply FrameO.next
    | with_reducible apply FrameO.ite
    | with_reducible apply Frame.ite
    | with_reducible apply Frame.ite2
    | with_reducible apply Frame.comp (State.ptpSelect_frame ..) (by decide)
    | with_reducible apply Frame.comp (State.ptpSend_frame ..) (by decide)
    | with_reducible apply Frame.comp (State.ptpM_frame ..) (by decide)
    | (split <;> try (rename_i hq; have e := congrArg Prod.snd hq; dsimp only at e; subst e))
    | dsimp only
    | with_reducible intro _ _

theorem State.ptpOffset_frame (s : State) (off : Int) : Frame 0x8000000000002000000011 s (State.ptpOffset s off) := by
  unfold State.ptpOffset
  repeat' first
    | with_reducible exact Frame.rfl _ _
    | with_reducible apply Frame.ite
    | with_reducible apply Frame.ite2
    | with_reducible apply Frame.comp (State.free_frame ..) (by decide)
    | with_reducible apply Frame.comp (State.datumMeas_frame ..) (by decide)
    | with_reducible apply Frame.wr (by decide)
    | (split <;> try (rename_i hq; have e := congrArg Prod.snd hq; dsimp only at e; subst e))
    | dsimp only
    | with_reducible intro _ _

theorem State.ptpMessage_frame (s : State) (t : Int) (b : List Nat) : Frame 0x28000000098002000000411 s (State.ptpMessage s t b) := by
  unfold State.ptpMessage
  repeat' first
    | with_reducible exact Frame.rfl _ _
    | with_reducible apply Frame.ite
    | with_reducible apply Frame.ite2
    | with_reducible apply Frame.comp (State.ptpM_frame ..) (by decide)
    | with_reducible apply Frame.comp (State.ptpOffset_frame ..) (by decide)
    | with_reducible apply Frame.comp (State.ptpSend_frame ..) (by decide)
    | with_reducible apply Frame.comp (State.ptpSelect_frame ..) (by decide)
    | (split <;> try (rename_i hq; have e := congrArg Prod.snd hq; dsimp only at e; subst e))
    | dsimp only
    | with_reducible intro _ _

theorem State.ethPlace_frame (s : State) (m : Nat) (b : List Nat) (stamp : Int) : Frame 0x24000008080000000000407 s (State.ethPlace s m b stamp) := by
  unfold State.ethPlace
  repeat' first
    | with_reducible exact Frame.rfl _ _
    | with_reducible apply Frame.ite
    | with_reducible apply Frame.ite2
    | with_reducible apply Frame.comp (State.raise_frame ..) (by decide)
    | with_reducible apply Frame.comp (State.memRead_frame ..) (by decide)
    | with_reducible apply Frame.comp (State.memPutBytes_frame ..) (by decide)
    | with_reducible apply Frame.comp (State.memPuts_frame ..) (by decide)
    | with_reducible apply Frame.inci (by decide)
    | with_reducible apply Frame.wri (by decide)
    | (split <;> try (rename_i hq; have e := congrArg Prod.snd hq; dsimp only at e; subst e))
    | dsimp only
    | with_reducible intro _ _

theorem State.dupTest_frame (s : State) (src : Nat) (p : List Nat) : Frame 0x28000000080000000000401 s (State.dupTest s src p) := by
  unfold State.dupTest
  repeat' first
    | with_reducible exact Frame.rfl _ _
    | with_reducible apply Frame.ite
    | with_reducible apply Frame.ite2
    | with_reducible apply Frame.comp (State.raiseIf_frame ..) (by decide)
    | with_reducible apply Frame.wr (by decide)
    | (split <;> try (rename_i hq; have e := congrArg Prod.snd hq; dsimp only at e; subst e))
    | dsimp only
    | with_reducible intro _ _

theorem execEthFrameReceive_frame (mac : Fin 2) (frame : List Nat) (fcsOk : Bool) (ago : Nat) (s : State) : FrameO 0x2c000008098002000000417 s (execEthFrameReceive mac frame fcsOk ago s) := by
  unfold execEthFrameReceive
  repeat' first
    | with_reducible exact Frame.rfl _ _
    | with_reducible apply FrameO.powered
    | with_reducible apply FrameO.ok
    | with_reducible apply FrameO.next
    | with_reducible apply FrameO.ite
    | with_reducible apply Frame.ite
    | with_reducible apply Frame.ite2
    | with_reducible apply Frame.comp (State.raise_frame ..) (by decide)
    | with_reducible apply Frame.comp (State.macM_frame ..) (by decide)
    | with_reducible apply Frame.comp (State.ptpMessage_frame ..) (by decide)
    | with_reducible apply Frame.comp (State.dupTest_frame ..) (by decide)
    | with_reducible apply Frame.comp (State.twnM_frame ..) (by decide)
    | with_reducible apply Frame.comp (State.ethPlace_frame ..) (by decide)
    | with_reducible apply Frame.inci (by decide)
    | (split <;> try (rename_i hq; have e := congrArg Prod.snd hq; dsimp only at e; subst e))
    | dsimp only
    | with_reducible intro _ _

theorem State.importEntry_frame (s : State) (ch : Nat) (rec : CfgRec) (flags : Nat) (stamp sig : Int) (e : List Nat) : Frame 0x28000000080040000000401 s (State.importEntry s ch rec flags stamp sig e) := by
  unfold State.importEntry
  repeat' first
    | with_reducible exact Frame.rfl _ _
    | with_reducible apply Frame.ite
    | with_reducible apply Frame.ite2
    | with_reducible apply Frame.comp (State.raise_frame ..) (by decide)
    | with_reducible apply Frame.comp (State.talM_frame ..) (by decide)
    | with_reducible apply Frame.inci (by decide)
    | with_reducible apply Frame.wrapi (by decide)
    | (split <;> try (rename_i hq; have e := congrArg Prod.snd hq; dsimp only at e; subst e))
    | dsimp only
    | with_reducible intro _ _

theorem State.handTake_frame (s : State) (ch : Nat) (rec : CfgRec) (f : TwnRx) : Frame 0x28000001090040000010401 s (State.handTake s ch rec f) := by
  unfold State.handTake
  repeat' first
    | with_reducible exact Frame.rfl _ _
    | with_reducible apply Frame.ite
    | with_reducible apply Frame.ite2
    | with_reducible apply Frame.comp (State.twnM_frame ..) (by decide)
    | with_reducible apply Frame.comp (State.raise_frame ..) (by decide)
    | with_reducible apply Frame.comp (State.mirrorCopy_frame ..) (by decide)
    | with_reducible apply Frame.comp (State.importEntry_frame ..) (by decide)
    | with_reducible apply Frame.inci (by decide)
    | with_reducible apply Frame.foldl
    | with_reducible apply Frame.foldl2
    | (split <;> try (rename_i hq; have e := congrArg Prod.snd hq; dsimp only at e; subst e))
    | dsimp only
    | with_reducible intro _ _

theorem execHandoffFrame_frame (s : State) : FrameO 0x28000001090040000010401 s (execHandoffFrame s) := by
  unfold execHandoffFrame
  repeat' first
    | with_reducible exact Frame.rfl _ _
    | with_reducible apply FrameO.powered
    | with_reducible apply FrameO.ok
    | with_reducible apply FrameO.next
    | with_reducible apply FrameO.ite
    | with_reducible apply Frame.ite
    | with_reducible apply Frame.ite2
    | with_reducible apply Frame.comp (State.twnM_frame ..) (by decide)
    | with_reducible apply Frame.comp (State.dupTest_frame ..) (by decide)
    | with_reducible apply Frame.comp (State.handTake_frame ..) (by decide)
    | with_reducible apply Frame.inc (by decide)
    | (split <;> try (rename_i hq; have e := congrArg Prod.snd hq; dsimp only at e; subst e))
    | dsimp only
    | with_reducible intro _ _

theorem execAnnounce_frame (s : State) : FrameO 0x10000000000000 s (execAnnounce s) := by
  unfold execAnnounce
  repeat' first
    | with_reducible exact Frame.rfl _ _
    | with_reducible apply FrameO.powered
    | with_reducible apply FrameO.ok
    | with_reducible apply FrameO.next
    | with_reducible apply FrameO.ite
    | with_reducible apply Frame.ite
    | with_reducible apply Frame.ite2
    | with_reducible apply Frame.comp (State.twnM_frame ..) (by decide)
    | (split <;> try (rename_i hq; have e := congrArg Prod.snd hq; dsimp only at e; subst e))
    | dsimp only
    | with_reducible intro _ _

theorem execHandoffFlush_frame (channel : Fin 8) (s : State) : FrameO 0x10000000000000 s (execHandoffFlush channel s) := by
  unfold execHandoffFlush
  repeat' first
    | with_reducible exact Frame.rfl _ _
    | with_reducible apply FrameO.powered
    | with_reducible apply FrameO.ok
    | with_reducible apply FrameO.next
    | with_reducible apply FrameO.ite
    | with_reducible apply Frame.ite
    | with_reducible apply Frame.ite2
    | with_reducible apply Frame.comp (State.handQueue_frame ..) (by decide)
    | (split <;> try (rename_i hq; have e := congrArg Prod.snd hq; dsimp only at e; subst e))
    | dsimp only
    | with_reducible intro _ _

theorem State.ethReset_frame (s : State) : Frame 0x24000000088000000000401 s (State.ethReset s) := by
  unfold State.ethReset
  repeat' first
    | with_reducible exact Frame.rfl _ _
    | with_reducible apply Frame.ite
    | with_reducible apply Frame.ite2
    | with_reducible apply Frame.comp (State.ethLink_frame ..) (by decide)
    | with_reducible apply Frame.comp (State.macM_frame ..) (by decide)
    | with_reducible apply Frame.wri (by decide)
    | with_reducible apply Frame.foldl
    | with_reducible apply Frame.foldl2
    | (split <;> try (rename_i hq; have e := congrArg Prod.snd hq; dsimp only at e; subst e))
    | dsimp only
    | with_reducible intro _ _

theorem State.twnReset_frame (s : State) : Frame 0x28000000090040000000401 s (State.twnReset s) := by
  unfold State.twnReset
  repeat' first
    | with_reducible exact Frame.rfl _ _
    | with_reducible apply Frame.ite
    | with_reducible apply Frame.ite2
    | with_reducible apply Frame.comp (State.twnM_frame ..) (by decide)
    | with_reducible apply Frame.comp (State.talM_frame ..) (by decide)
    | with_reducible apply Frame.comp (State.ptpSelect_frame ..) (by decide)
    | with_reducible apply Frame.wr (by decide)
    | (split <;> try (rename_i hq; have e := congrArg Prod.snd hq; dsimp only at e; subst e))
    | dsimp only
    | with_reducible intro _ _

theorem State.twnCommit_frame (s : State) : Frame 0x28000000090040000000401 s (State.twnCommit s) := by
  unfold State.twnCommit
  repeat' first
    | with_reducible exact Frame.rfl _ _
    | with_reducible apply Frame.ite
    | with_reducible apply Frame.ite2
    | with_reducible apply Frame.comp (State.talM_frame ..) (by decide)
    | with_reducible apply Frame.comp (State.ptpSelect_frame ..) (by decide)
    | with_reducible apply Frame.wr (by decide)
    | fail_if_no_progress with_reducible apply Frame.put_twn _ (by decide)
    | (split <;> try (rename_i hq; have e := congrArg Prod.snd hq; dsimp only at e; subst e))
    | dsimp only
    | with_reducible intro _ _
    | fail_if_no_progress apply Frame.put_twn _ (by decide)

end Sys2Proof.Machine
end

