-- ==== Sys2Proof/Laws/FramePair.lean ====
section
/-! SUPPORT. The frames of the operations of Machine/Pair.lean. -/

set_option linter.unreachableTactic false
set_option linter.unusedTactic false

namespace Sys2Proof.Machine

open Sys2Proof

theorem State.setRole_frame (s : State) (r : Nat) : Frame 0x30000380080300000000401 s (State.setRole s r) := by
  unfold State.setRole
  repeat' first
    | with_reducible exact Frame.rfl _ _
    | with_reducible apply Frame.ite
    | with_reducible apply Frame.ite2
    | with_reducible apply Frame.comp (State.raise_frame ..) (by decide)
    | with_reducible apply Frame.comp (State.stkShow_frame ..) (by decide)
    | with_reducible apply Frame.comp (State.vlShow_frame ..) (by decide)
    | with_reducible apply Frame.comp (State.padRefresh_frame ..) (by decide)
    | with_reducible apply Frame.wr (by decide)
    | (split <;> try (rename_i hq; have e := congrArg Prod.snd hq; dsimp only at e; subst e))
    | dsimp only
    | with_reducible intro _ _

theorem execHeartbeat_frame (s : State) : FrameO 0xa0000000000010 s (execHeartbeat s) := by
  unfold execHeartbeat
  repeat' first
    | with_reducible exact Frame.rfl _ _
    | with_reducible apply FrameO.powered
    | with_reducible apply FrameO.ok
    | with_reducible apply FrameO.next
    | with_reducible apply FrameO.ite
    | with_reducible apply Frame.ite
    | with_reducible apply Frame.ite2
    | with_reducible apply Frame.comp (State.free_frame ..) (by decide)
    | with_reducible apply Frame.comp (State.pairM_frame ..) (by decide)
    | with_reducible apply Frame.comp (State.emit_frame ..) (by decide)
    | (split <;> try (rename_i hq; have e := congrArg Prod.snd hq; dsimp only at e; subst e))
    | dsimp only
    | with_reducible intro _ _

theorem execOutputMessage_frame (s : State) : FrameO 0xa0000000000000 s (execOutputMessage s) := by
  unfold execOutputMessage
  repeat' first
    | with_reducible exact Frame.rfl _ _
    | with_reducible apply FrameO.powered
    | with_reducible apply FrameO.ok
    | with_reducible apply FrameO.next
    | with_reducible apply FrameO.ite
    | with_reducible apply Frame.ite
    | with_reducible apply Frame.ite2
    | with_reducible apply Frame.comp (State.pairM_frame ..) (by decide)
    | with_reducible apply Frame.comp (State.tieSend_frame ..) (by decide)
    | (split <;> try (rename_i hq; have e := congrArg Prod.snd hq; dsimp only at e; subst e))
    | dsimp only
    | with_reducible intro _ _

theorem State.aliveShow_frame (s : State) : Frame 0x10000000000000000000001 s (State.aliveShow s) := by
  unfold State.aliveShow
  repeat' first
    | with_reducible exact Frame.rfl _ _
    | with_reducible apply Frame.ite
    | with_reducible apply Frame.ite2
    | with_reducible apply Frame.wr (by decide)
    | (split <;> try (rename_i hq; have e := congrArg Prod.snd hq; dsimp only at e; subst e))
    | dsimp only
    | with_reducible intro _ _

theorem execAliveOutToggle_frame (s : State) : FrameO 0x300003800a0300000000401 s (execAliveOutToggle s) := by
  unfold execAliveOutToggle
  repeat' first
    | with_reducible exact Frame.rfl _ _
    | with_reducible apply FrameO.powered
    | with_reducible apply FrameO.ok
    | with_reducible apply FrameO.next
    | with_reducible apply FrameO.ite
    | with_reducible apply Frame.ite
    | with_reducible apply Frame.ite2
    | with_reducible apply Frame.comp (State.pairM_frame ..) (by decide)
    | with_reducible apply Frame.comp (State.aliveShow_frame ..) (by decide)
    | with_reducible apply Frame.comp (State.emit_frame ..) (by decide)
    | with_reducible apply Frame.comp (State.setRole_frame ..) (by decide)
    | with_reducible apply Frame.comp (State.padRefresh_frame ..) (by decide)
    | (split <;> try (rename_i hq; have e := congrArg Prod.snd hq; dsimp only at e; subst e))
    | dsimp only
    | with_reducible intro _ _

theorem State.takeOver_frame (s : State) : Frame 0x300003888a03c2000000407 s (State.takeOver s) := by
  unfold State.takeOver
  repeat' first
    | with_reducible exact Frame.rfl _ _
    | with_reducible apply Frame.ite
    | with_reducible apply Frame.ite2
    | with_reducible apply Frame.comp (State.raise_frame ..) (by decide)
    | with_reducible apply Frame.comp (State.setRole_frame ..) (by decide)
    | with_reducible apply Frame.comp (State.timeM_frame ..) (by decide)
    | with_reducible apply Frame.comp (State.setActive_frame ..) (by decide)
    | with_reducible apply Frame.comp (State.raiseIf_frame ..) (by decide)
    | with_reducible apply Frame.comp (State.stkTakeover_frame ..) (by decide)
    | with_reducible apply Frame.comp (State.pairM_frame ..) (by decide)
    | with_reducible apply Frame.comp (State.stkIntake_frame ..) (by decide)
    | with_reducible apply Frame.inc (by decide)
    | with_reducible apply Frame.wr (by decide)
    | with_reducible apply Frame.foldl
    | with_reducible apply Frame.foldl2
    | (split <;> try (rename_i hq; have e := congrArg Prod.snd hq; dsimp only at e; subst e))
    | dsimp only
    | with_reducible intro _ _

theorem State.judgeLoss_frame (s : State) : Frame 0x300003888a03c2000000407 s (State.judgeLoss s) := by
  unfold State.judgeLoss
  repeat' first
    | with_reducible exact Frame.rfl _ _
    | with_reducible apply Frame.ite
    | with_reducible apply Frame.ite2
    | with_reducible apply Frame.comp (State.raiseIf_frame ..) (by decide)
    | with_reducible apply Frame.comp (State.aliveShow_frame ..) (by decide)
    | with_reducible apply Frame.comp (State.takeOver_frame ..) (by decide)
    | with_reducible apply Frame.wr (by decide)
    | (split <;> try (rename_i hq; have e := congrArg Prod.snd hq; dsimp only at e; subst e))
    | dsimp only
    | with_reducible intro _ _

theorem execPrimaryLost_frame (s : State) : FrameO 0x300003888a03c2000000407 s (execPrimaryLost s) := by
  unfold execPrimaryLost
  repeat' first
    | with_reducible exact Frame.rfl _ _
    | with_reducible apply FrameO.powered
    | with_reducible apply FrameO.ok
    | with_reducible apply FrameO.next
    | with_reducible apply FrameO.ite
    | with_reducible apply Frame.ite
    | with_reducible apply Frame.comp (State.judgeLoss_frame ..) (by decide)
    | (split <;> try (rename_i hq; have e := congrArg Prod.snd hq; dsimp only at e; subst e))
    | dsimp only
    | with_reducible intro _ _

theorem execAliveInEdge_frame (s : State) : FrameO 0x300003888a03c2000000407 s (execAliveInEdge s) := by
  unfold execAliveInEdge
  repeat' first
    | with_reducible exact Frame.rfl _ _
    | with_reducible apply FrameO.powered
    | with_reducible apply FrameO.ok
    | with_reducible apply FrameO.next
    | with_reducible apply FrameO.ite
    | with_reducible apply Frame.ite
    | with_reducible apply Frame.ite2
    | with_reducible apply Frame.comp (State.pinM_frame ..) (by decide)
    | with_reducible apply Frame.comp (State.pairM_frame ..) (by decide)
    | with_reducible apply Frame.comp (State.aliveShow_frame ..) (by decide)
    | with_reducible apply Frame.comp (State.judgeLoss_frame ..) (by decide)
    | with_reducible apply Frame.comp (State.padRefresh_frame ..) (by decide)
    | (split <;> try (rename_i hq; have e := congrArg Prod.snd hq; dsimp only at e; subst e))
    | dsimp only
    | with_reducible intro _ _

theorem execRoleDecision_frame (s : State) : FrameO 0x300003800a0300000000401 s (execRoleDecision s) := by
  unfold execRoleDecision
  repeat' first
    | with_reducible exact Frame.rfl _ _
    | with_reducible apply FrameO.powered
    | with_reducible apply FrameO.ok
    | with_reducible apply FrameO.next
    | with_reducible apply FrameO.ite
    | with_reducible apply Frame.ite
    | with_reducible apply Frame.ite2
    | with_reducible apply Frame.comp (State.pairM_frame ..) (by decide)
    | with_reducible apply Frame.comp (State.setRole_frame ..) (by decide)
    | (split <;> try (rename_i hq; have e := congrArg Prod.snd hq; dsimp only at e; subst e))
    | dsimp only
    | with_reducible intro _ _

theorem execSwitchover_frame (s : State) : FrameO 0x20000000000000 s (execSwitchover s) := by
  unfold execSwitchover
  repeat' first
    | with_reducible exact Frame.rfl _ _
    | with_reducible apply FrameO.powered
    | with_reducible apply FrameO.ok
    | with_reducible apply FrameO.next
    | with_reducible apply FrameO.ite
    | with_reducible apply Frame.ite
    | with_reducible apply Frame.ite2
    | with_reducible apply Frame.comp (State.pairM_frame ..) (by decide)
    | (split <;> try (rename_i hq; have e := congrArg Prod.snd hq; dsimp only at e; subst e))
    | dsimp only
    | with_reducible intro _ _

theorem State.followTime_frame (s : State) (t : Nat) : Frame 0x200c02088a5cc6000000487 s (State.followTime s t) := by
  unfold State.followTime
  repeat' first
    | with_reducible exact Frame.rfl _ _
    | with_reducible apply Frame.ite
    | with_reducible apply Frame.ite2
    | with_reducible apply Frame.comp (State.stepAll_frame ..) (by decide)
    | fail_if_no_progress with_reducible apply Frame.put_clk _ (by decide)
    | (split <;> try (rename_i hq; have e := congrArg Prod.snd hq; dsimp only at e; subst e))
    | dsimp only
    | with_reducible intro _ _
    | fail_if_no_progress apply Frame.put_clk _ (by decide)

theorem State.heartbeatIn_frame (s : State) (b : List Nat) (lat : Nat) : Frame 0x300c03888a5fc6000000487 s (State.heartbeatIn s b lat) := by
  unfold State.heartbeatIn
  repeat' first
    | with_reducible exact Frame.rfl _ _
    | with_reducible apply Frame.ite
    | with_reducible apply Frame.ite2
    | with_reducible apply Frame.comp (State.pairM_frame ..) (by decide)
    | with_reducible apply Frame.comp (State.setRole_frame ..) (by decide)
    | with_reducible apply Frame.comp (State.stkTakeover_frame ..) (by decide)
    | with_reducible apply Frame.comp (State.followTime_frame ..) (by decide)
    | with_reducible apply Frame.wr (by decide)
    | (split <;> try (rename_i hq; have e := congrArg Prod.snd hq; dsimp only at e; subst e))
    | dsimp only
    | with_reducible intro _ _

theorem State.stakesIn_frame (s : State) (b : List Nat) (n : Nat) : Frame 0x20080000000000 s (State.stakesIn s b n) := by
  unfold State.stakesIn
  repeat' first
    | with_reducible exact Frame.rfl _ _
    | with_reducible apply Frame.ite
    | with_reducible apply Frame.ite2
    | with_reducible apply Frame.comp (State.stkM_frame ..) (by decide)
    | with_reducible apply Frame.comp (State.pairMirror_frame ..) (by decide)
    | with_reducible apply Frame.foldl
    | with_reducible apply Frame.foldl2
    | (split <;> try (rename_i hq; have e := congrArg Prod.snd hq; dsimp only at e; subst e))
    | dsimp only
    | with_reducible intro _ _

theorem State.loopIn__frame (s : State) (b : List Nat) : Frame 0x20000022000000000001 s (State.loopIn_ s b) := by
  unfold State.loopIn_
  repeat' first
    | with_reducible exact Frame.rfl _ _
    | with_reducible apply Frame.ite
    | with_reducible apply Frame.ite2
    | with_reducible apply Frame.comp (State.pairM_frame ..) (by decide)
    | with_reducible apply Frame.comp (State.loopM_frame ..) (by decide)
    | with_reducible apply Frame.wri (by decide)
    | (split <;> try (rename_i hq; have e := congrArg Prod.snd hq; dsimp only at e; subst e))
    | dsimp only
    | with_reducible intro _ _

theorem State.outputsIn_frame (s : State) (b : List Nat) : Frame 0x300000020000002000001 s (State.outputsIn s b) := by
  unfold State.outputsIn
  repeat' first
    | with_reducible exact Frame.rfl _ _
    | with_reducible apply Frame.ite
    | with_reducible apply Frame.ite2
    | with_reducible apply Frame.comp (State.fioM_frame ..) (by decide)
    | with_reducible apply Frame.comp (State.pairM_frame ..) (by decide)
    | with_reducible apply Frame.wrij (by decide)
    | with_reducible apply Frame.foldl
    | with_reducible apply Frame.foldl2
    | (split <;> try (rename_i hq; have e := congrArg Prod.snd hq; dsimp only at e; subst e))
    | dsimp only
    | with_reducible intro _ _

theorem execTieMessage_frame (message : List Nat) (lat : BitVec 16) (s : State) : FrameO 0x303e03888a7fc6002000487 s (execTieMessage message lat s) := by
  unfold execTieMessage
  repeat' first
    | with_reducible exact Frame.rfl _ _
    | with_reducible apply FrameO.powered
    | with_reducible apply FrameO.ok
    | with_reducible apply FrameO.next
    | with_reducible apply FrameO.ite
    | with_reducible apply Frame.ite
    | with_reducible apply Frame.ite2
    | with_reducible apply Frame.comp (State.heartbeatIn_frame ..) (by decide)
    | with_reducible apply Frame.comp (State.stakesIn_frame ..) (by decide)
    | with_reducible apply Frame.comp (State.loopIn__frame ..) (by decide)
    | with_reducible apply Frame.comp (State.outputsIn_frame ..) (by decide)
    | with_reducible apply Frame.comp (State.pairAge_frame ..) (by decide)
    | with_reducible apply Frame.inc (by decide)
    | (split <;> try (rename_i hq; have e := congrArg Prod.snd hq; dsimp only at e; subst e))
    | dsimp only
    | with_reducible intro _ _

theorem State.pairReset_frame (s : State) : Frame 0x10000000020000000000001 s (State.pairReset s) := by
  unfold State.pairReset
  repeat' first
    | with_reducible exact Frame.rfl _ _
    | with_reducible apply Frame.ite
    | with_reducible apply Frame.ite2
    | with_reducible apply Frame.comp (State.pairM_frame ..) (by decide)
    | with_reducible apply Frame.wr (by decide)
    | (split <;> try (rename_i hq; have e := congrArg Prod.snd hq; dsimp only at e; subst e))
    | dsimp only
    | with_reducible intro _ _

theorem State.pairCommit_frame (s : State) : Frame 0x10000200020000000000001 s (State.pairCommit s) := by
  unfold State.pairCommit
  repeat' first
    | with_reducible exact Frame.rfl _ _
    | with_reducible apply Frame.ite
    | with_reducible apply Frame.ite2
    | with_reducible apply Frame.comp (State.pairReset_frame ..) (by decide)
    | with_reducible apply Frame.comp (State.pairM_frame ..) (by decide)
    | with_reducible apply Frame.comp (State.stkShow_frame ..) (by decide)
    | with_reducible apply Frame.comp (State.vlShow_frame ..) (by decide)
    | with_reducible apply Frame.wr (by decide)
    | (split <;> try (rename_i hq; have e := congrArg Prod.snd hq; dsimp only at e; subst e))
    | dsimp only
    | with_reducible intro _ _

end Sys2Proof.Machine
end

