-- ==== Sys2Proof/Laws/FrameHostport.lean ====
section
/-! SUPPORT. The frames of the operations of Machine/Hostport.lean. -/

set_option linter.unreachableTactic false
set_option linter.unusedTactic false

namespace Sys2Proof.Machine

open Sys2Proof

theorem descWord_ok (d w : Nat) : regOk (descWord d w) 0x1000000000000001 = true := by
  have h1 : d % 256 < 256 := Nat.mod_lt _ (by decide)
  have h2 : w % 8 < 8 := Nat.mod_lt _ (by decide)
  have e : descWord d w = 0x38000 + 32 * (d % 256) + 4 * (w % 8) := rfl
  have e1 : isEvt (descWord d w) = false := by
    simp only [isEvt, Bool.and_eq_false_iff, decide_eq_false_iff_not]; omega
  have e2 : descWord d w / 0x10000 = 3 := by omega
  unfold regOk
  rw [e1, e2]
  rfl

theorem State.evtClear_frame (s : State) (w mask : Nat) : Frame 0x20000000000000000000001 s (State.evtClear s w mask) := by
  unfold State.evtClear
  repeat' first
    | with_reducible exact Frame.rfl _ _
    | with_reducible apply Frame.ite
    | with_reducible apply Frame.ite2
    | with_reducible apply Frame.wri (by decide)
    | (split <;> try (rename_i hq; have e := congrArg Prod.snd hq; dsimp only at e; subst e))
    | dsimp only
    | with_reducible intro _ _

theorem State.evtEnable_frame (s : State) (w v : Nat) : Frame 0x20000000080000000000401 s (State.evtEnable s w v) := by
  unfold State.evtEnable
  repeat' first
    | with_reducible exact Frame.rfl _ _
    | with_reducible apply Frame.ite
    | with_reducible apply Frame.ite2
    | with_reducible apply Frame.comp (State.msix_frame ..) (by decide)
    | with_reducible apply Frame.wri (by decide)
    | with_reducible apply Frame.foldl
    | with_reducible apply Frame.foldl2
    | (split <;> try (rename_i hq; have e := congrArg Prod.snd hq; dsimp only at e; subst e))
    | dsimp only
    | with_reducible intro _ _

theorem State.vecUnmask_frame (s : State) (v addr data : Nat) : Frame 0x80000000000700 s (State.vecUnmask s v addr data) := by
  unfold State.vecUnmask
  repeat' first
    | with_reducible exact Frame.rfl _ _
    | with_reducible apply Frame.ite
    | with_reducible apply Frame.ite2
    | with_reducible apply Frame.comp (State.msix_frame ..) (by decide)
    | (split <;> try (rename_i hq; have e := congrArg Prod.snd hq; dsimp only at e; subst e))
    | dsimp only
    | with_reducible intro _ _
    | (refine Frame.comp (k := 0x80000000000700) (t := s) ⟨fun p hp => ?_, fun w => w⟩ (by decide) (Frame.rfl _ _); cases p <;> first | exact Eq.refl _ | exact fun _ _ => Eq.refl _ | exact fun _ _ _ => Eq.refl _ | exact absurd hp (by decide))

theorem execVectorUnmask_frame (vec : Fin 64) (addr : BitVec 64) (data : Word) (s : State) : FrameO 0x80000000000700 s (execVectorUnmask vec addr data s) := by
  unfold execVectorUnmask
  repeat' first
    | with_reducible exact Frame.rfl _ _
    | with_reducible apply FrameO.powered
    | with_reducible apply FrameO.ok
    | with_reducible apply FrameO.next
    | with_reducible apply FrameO.ite
    | with_reducible apply Frame.ite
    | with_reducible apply Frame.ite2
    | with_reducible apply Frame.comp (State.vecUnmask_frame ..) (by decide)
    | (split <;> try (rename_i hq; have e := congrArg Prod.snd hq; dsimp only at e; subst e))
    | dsimp only
    | with_reducible intro _ _

theorem State.dmaM_frame (s : State) (n : Nat) (f : DmaCh → DmaCh) : Frame 0x1000000000010001 s (State.dmaM s n f) := by
  unfold State.dmaM
  repeat' first
    | with_reducible exact Frame.rfl _ _
    | with_reducible apply Frame.ite
    | with_reducible apply Frame.ite2
    | with_reducible apply Frame.wri (by decide)
    | fail_if_no_progress with_reducible apply Frame.put_host_dma _ (by decide)
    | (split <;> try (rename_i hq; have e := congrArg Prod.snd hq; dsimp only at e; subst e))
    | dsimp only
    | with_reducible intro _ _
    | fail_if_no_progress apply Frame.put_host_dma _ (by decide)

theorem State.dmaStall_frame (s : State) (n : Nat) : Frame 0x20000001080000000000401 s (State.dmaStall s n) := by
  unfold State.dmaStall
  repeat' first
    | with_reducible exact Frame.rfl _ _
    | with_reducible apply Frame.ite
    | with_reducible apply Frame.ite2
    | with_reducible apply Frame.comp (State.raise_frame ..) (by decide)
    | with_reducible apply Frame.inci (by decide)
    | with_reducible apply Frame.wri (by decide)
    | (split <;> try (rename_i hq; have e := congrArg Prod.snd hq; dsimp only at e; subst e))
    | dsimp only
    | with_reducible intro _ _

theorem State.dmaPost_frame (s : State) (n v : Nat) : Frame 0x20000001080000000010401 s (State.dmaPost s n v) := by
  unfold State.dmaPost
  repeat' first
    | with_reducible exact Frame.rfl _ _
    | with_reducible apply Frame.ite
    | with_reducible apply Frame.ite2
    | with_reducible apply Frame.comp (State.raise_frame ..) (by decide)
    | with_reducible apply Frame.comp (State.dmaM_frame ..) (by decide)
    | with_reducible apply Frame.inc (by decide)
    | with_reducible apply Frame.wr (by decide)
    | with_reducible apply Frame.wri (by decide)
    | (split <;> try (rename_i hq; have e := congrArg Prod.snd hq; dsimp only at e; subst e))
    | dsimp only
    | with_reducible intro _ _

theorem execDmaPost_frame (ch : Fin 8) (value : Word) (s : State) : FrameO 0x20000001080000000010401 s (execDmaPost ch value s) := by
  unfold execDmaPost
  repeat' first
    | with_reducible exact Frame.rfl _ _
    | with_reducible apply FrameO.powered
    | with_reducible apply FrameO.ok
    | with_reducible apply FrameO.next
    | with_reducible apply FrameO.ite
    | with_reducible apply Frame.ite
    | with_reducible apply Frame.ite2
    | with_reducible apply Frame.comp (State.dmaPost_frame ..) (by decide)
    | (split <;> try (rename_i hq; have e := congrArg Prod.snd hq; dsimp only at e; subst e))
    | dsimp only
    | with_reducible intro _ _

theorem State.descDone_frame (s : State) (n d len : Nat) (err : Bool) : Frame 0x20000001080000000010401 s (State.descDone s n d len err) := by
  unfold State.descDone
  repeat' first
    | with_reducible exact Frame.rfl _ _
    | with_reducible apply Frame.ite
    | with_reducible apply Frame.ite2
    | with_reducible apply Frame.comp (State.dmaM_frame ..) (by decide)
    | with_reducible apply Frame.comp (State.raiseIf_frame ..) (by decide)
    | with_reducible apply Frame.setReg (regOk_mono (descWord_ok _ _) (by decide))
    | (split <;> try (rename_i hq; have e := congrArg Prod.snd hq; dsimp only at e; subst e))
    | dsimp only
    | with_reducible intro _ _

theorem State.dmaAfter_frame (s : State) (n : Nat) : Frame 0x20011011080024000010401 s (State.dmaAfter s n) := by
  unfold State.dmaAfter
  repeat' first
    | with_reducible exact Frame.rfl _ _
    | with_reducible apply Frame.ite
    | with_reducible apply Frame.ite2
    | with_reducible apply Frame.comp (State.yShow_frame ..) (by decide)
    | with_reducible apply Frame.comp (State.gnsM_frame ..) (by decide)
    | with_reducible apply Frame.comp (State.raise_frame ..) (by decide)
    | with_reducible apply Frame.comp (State.snapHand_frame ..) (by decide)
    | with_reducible apply Frame.wr (by decide)
    | (split <;> try (rename_i hq; have e := congrArg Prod.snd hq; dsimp only at e; subst e))
    | dsimp only
    | with_reducible intro _ _

theorem State.dmaMove_frame (s : State) (d n : Nat) (data : List Nat) : Frame 0x20000208280000000000407 s (State.dmaMove s d n data).2.2 := by
  unfold State.dmaMove
  repeat' first
    | with_reducible exact Frame.rfl _ _
    | with_reducible apply Frame.ite
    | with_reducible apply Frame.ite2
    | with_reducible apply Frame.comp (State.memReads_frame ..) (by decide)
    | with_reducible apply Frame.comp (State.hostMemWrite_frame ..) (by decide)
    | with_reducible apply Frame.foldl
    | with_reducible apply Frame.foldl2
    | (split <;> try (rename_i hq; have e := congrArg Prod.snd hq; dsimp only at e; subst e))
    | dsimp only
    | with_reducible intro _ _

theorem execDescriptorComplete_frame (ch : Fin 8) (data : List Nat) (moved : Option Nat) (s : State) : FrameO 0x20011219280024000010407 s (execDescriptorComplete ch data moved s) := by
  unfold execDescriptorComplete
  repeat' first
    | with_reducible exact Frame.rfl _ _
    | with_reducible apply FrameO.powered
    | with_reducible apply FrameO.ok
    | with_reducible apply FrameO.next
    | with_reducible apply FrameO.ite
    | with_reducible apply Frame.ite
    | with_reducible apply Frame.ite2
    | with_reducible apply Frame.comp (State.dmaStall_frame ..) (by decide)
    | with_reducible apply Frame.comp (State.dmaMove_frame ..) (by decide)
    | with_reducible apply Frame.comp (State.emit_frame ..) (by decide)
    | with_reducible apply Frame.comp (State.descDone_frame ..) (by decide)
    | with_reducible apply Frame.comp (State.dmaM_frame ..) (by decide)
    | with_reducible apply Frame.comp (State.dmaAfter_frame ..) (by decide)
    | (split <;> try (rename_i hq; have e := congrArg Prod.snd hq; dsimp only at e; subst e))
    | dsimp only
    | with_reducible intro _ _

theorem execPcieLinkReset_frame (cause : Fin 3) (up : Bool) (s : State) : FrameO 0x20000001080000000010f01 s (execPcieLinkReset cause up s) := by
  unfold execPcieLinkReset
  repeat' first
    | with_reducible exact Frame.rfl _ _
    | with_reducible apply FrameO.powered
    | with_reducible apply FrameO.ok
    | with_reducible apply FrameO.next
    | with_reducible apply FrameO.ite
    | with_reducible apply Frame.ite
    | with_reducible apply Frame.ite2
    | with_reducible apply Frame.comp (State.dmaM_frame ..) (by decide)
    | with_reducible apply Frame.comp (State.dmaStall_frame ..) (by decide)
    | with_reducible apply Frame.comp (State.raiseIf_frame ..) (by decide)
    | with_reducible apply Frame.foldl
    | with_reducible apply Frame.foldl2
    | (split <;> try (rename_i hq; have e := congrArg Prod.snd hq; dsimp only at e; subst e))
    | dsimp only
    | with_reducible intro _ _
    | (refine Frame.comp (k := 0x20000001080000000010f01) (t := s) ⟨fun p hp => ?_, fun w => w⟩ (by decide) (Frame.rfl _ _); cases p <;> first | exact Eq.refl _ | exact fun _ _ => Eq.refl _ | exact fun _ _ _ => Eq.refl _ | exact absurd hp (by decide))

theorem State.wdKick_frame (s : State) : Frame 0x1000000000020001 s (State.wdKick s) := by
  unfold State.wdKick
  repeat' first
    | with_reducible exact Frame.rfl _ _
    | with_reducible apply Frame.ite
    | with_reducible apply Frame.wr (by decide)
    | fail_if_no_progress with_reducible apply Frame.put_host_wdStart _ (by decide)
    | (split <;> try (rename_i hq; have e := congrArg Prod.snd hq; dsimp only at e; subst e))
    | dsimp only
    | with_reducible intro _ _
    | fail_if_no_progress apply Frame.put_host_wdStart _ (by decide)

theorem State.kick_frame (s : State) (v : Nat) : Frame 0x1000000000020001 s (State.kick s v) := by
  unfold State.kick
  repeat' first
    | with_reducible exact Frame.rfl _ _
    | with_reducible apply Frame.ite
    | with_reducible apply Frame.comp (State.wdKick_frame ..) (by decide)
    | with_reducible apply Frame.inc (by decide)
    | (split <;> try (rename_i hq; have e := congrArg Prod.snd hq; dsimp only at e; subst e))
    | dsimp only
    | with_reducible intro _ _

theorem execKick_frame (value : Word) (s : State) : FrameO 0x1000000000020001 s (execKick value s) := by
  unfold execKick
  repeat' first
    | with_reducible exact Frame.rfl _ _
    | with_reducible apply FrameO.powered
    | with_reducible apply FrameO.ok
    | with_reducible apply FrameO.next
    | with_reducible apply FrameO.ite
    | with_reducible apply Frame.ite
    | with_reducible apply Frame.ite2
    | with_reducible apply Frame.comp (State.kick_frame ..) (by decide)
    | (split <;> try (rename_i hq; have e := congrArg Prod.snd hq; dsimp only at e; subst e))
    | dsimp only
    | with_reducible intro _ _

theorem State.wdPeriod_frame (s : State) (v : Nat) : Frame 0x1000000000020001 s (State.wdPeriod s v) := by
  unfold State.wdPeriod
  repeat' first
    | with_reducible exact Frame.rfl _ _
    | with_reducible apply Frame.ite
    | with_reducible apply Frame.ite2
    | with_reducible apply Frame.comp (State.wdKick_frame ..) (by decide)
    | with_reducible apply Frame.wr (by decide)
    | (split <;> try (rename_i hq; have e := congrArg Prod.snd hq; dsimp only at e; subst e))
    | dsimp only
    | with_reducible intro _ _

theorem execWatchdogPeriodWrite_frame (value : Word) (s : State) : FrameO 0x1000000000020001 s (execWatchdogPeriodWrite value s) := by
  unfold execWatchdogPeriodWrite
  repeat' first
    | with_reducible exact Frame.rfl _ _
    | with_reducible apply FrameO.powered
    | with_reducible apply FrameO.ok
    | with_reducible apply FrameO.next
    | with_reducible apply FrameO.ite
    | with_reducible apply Frame.ite
    | with_reducible apply Frame.ite2
    | with_reducible apply Frame.comp (State.wdPeriod_frame ..) (by decide)
    | (split <;> try (rename_i hq; have e := congrArg Prod.snd hq; dsimp only at e; subst e))
    | dsimp only
    | with_reducible intro _ _

theorem execWatchdogExpiry_frame (s : State) : FrameO 0x20000041080000002020401 s (execWatchdogExpiry s) := by
  unfold execWatchdogExpiry
  repeat' first
    | with_reducible exact Frame.rfl _ _
    | with_reducible apply FrameO.powered
    | with_reducible apply FrameO.ok
    | with_reducible apply FrameO.next
    | with_reducible apply FrameO.ite
    | with_reducible apply Frame.ite
    | with_reducible apply Frame.ite2
    | with_reducible apply Frame.comp (State.fioLost_frame ..) (by decide)
    | with_reducible apply Frame.comp (State.raise_frame ..) (by decide)
    | with_reducible apply Frame.comp (State.fansApply_frame ..) (by decide)
    | with_reducible apply Frame.inc (by decide)
    | with_reducible apply Frame.wr (by decide)
    | fail_if_no_progress with_reducible apply Frame.put_host_wdStart _ (by decide)
    | (split <;> try (rename_i hq; have e := congrArg Prod.snd hq; dsimp only at e; subst e))
    | dsimp only
    | with_reducible intro _ _
    | fail_if_no_progress apply Frame.put_host_wdStart _ (by decide)

theorem State.lostClear_frame (s : State) (v : Nat) : Frame 0x41000000000000001 s (State.lostClear s v) := by
  unfold State.lostClear
  repeat' first
    | with_reducible exact Frame.rfl _ _
    | with_reducible apply Frame.ite
    | with_reducible apply Frame.ite2
    | with_reducible apply Frame.comp (State.fansApply_frame ..) (by decide)
    | with_reducible apply Frame.wr (by decide)
    | (split <;> try (rename_i hq; have e := congrArg Prod.snd hq; dsimp only at e; subst e))
    | dsimp only
    | with_reducible intro _ _

theorem execHostLostClear_frame (value : Word) (s : State) : FrameO 0x41000000000000001 s (execHostLostClear value s) := by
  unfold execHostLostClear
  repeat' first
    | with_reducible exact Frame.rfl _ _
    | with_reducible apply FrameO.powered
    | with_reducible apply FrameO.ok
    | with_reducible apply FrameO.next
    | with_reducible apply FrameO.ite
    | with_reducible apply Frame.ite
    | with_reducible apply Frame.ite2
    | with_reducible apply Frame.comp (State.lostClear_frame ..) (by decide)
    | (split <;> try (rename_i hq; have e := congrArg Prod.snd hq; dsimp only at e; subst e))
    | dsimp only
    | with_reducible intro _ _

end Sys2Proof.Machine
end

