-- ==== Sys2Proof/Laws/FrameResets.lean ====
section
/-! SUPPORT. The frames of the operations of Machine/Resets.lean. -/

set_option linter.unreachableTactic false
set_option linter.unusedTactic false

namespace Sys2Proof.Machine

open Sys2Proof

theorem State.unitApply_frame (s : State) (w : Nat) : Frame 0x3ebffff94ffffc00f810407 s (State.unitApply s w) := by
  unfold State.unitApply
  repeat' first
    | with_reducible exact Frame.rfl _ _
    | with_reducible apply Frame.ite
    | with_reducible apply Frame.ite2
    | with_reducible apply Frame.comp (State.recReset_frame ..) (by decide)
    | with_reducible apply Frame.comp (State.thmReset_frame ..) (by decide)
    | with_reducible apply Frame.comp (State.fanReset_frame ..) (by decide)
    | with_reducible apply Frame.comp (State.fansApply_frame ..) (by decide)
    | with_reducible apply Frame.comp (State.rfxReset_frame ..) (by decide)
    | with_reducible apply Frame.comp (State.tpinReset_frame ..) (by decide)
    | with_reducible apply Frame.comp (State.stkFlushAll_frame ..) (by decide)
    | with_reducible apply Frame.comp (State.stkImage_frame ..) (by decide)
    | with_reducible apply Frame.comp (State.talReset_frame ..) (by decide)
    | with_reducible apply Frame.comp (State.pixReset_frame ..) (by decide)
    | with_reducible apply Frame.comp (State.trnReset_frame ..) (by decide)
    | with_reducible apply Frame.comp (State.feaReset_frame ..) (by decide)
    | with_reducible apply Frame.comp (State.clsReset_frame ..) (by decide)
    | with_reducible apply Frame.comp (State.sigReset_frame ..) (by decide)
    | with_reducible apply Frame.comp (State.msrReset_frame ..) (by decide)
    | with_reducible apply Frame.comp (State.loopReset_frame ..) (by decide)
    | with_reducible apply Frame.comp (State.afeReset_frame ..) (by decide)
    | with_reducible apply Frame.comp (State.fioReset_frame ..) (by decide)
    | with_reducible apply Frame.comp (State.linkM_frame ..) (by decide)
    | with_reducible apply Frame.comp (State.gnsReset_frame ..) (by decide)
    | with_reducible apply Frame.comp (State.fixReset_frame ..) (by decide)
    | with_reducible apply Frame.comp (State.canReset_frame ..) (by decide)
    | with_reducible apply Frame.comp (State.ethReset_frame ..) (by decide)
    | with_reducible apply Frame.comp (State.twnReset_frame ..) (by decide)
    | with_reducible apply Frame.comp (State.pairReset_frame ..) (by decide)
    | (split <;> try (rename_i hq; have e := congrArg Prod.snd hq; dsimp only at e; subst e))
    | dsimp only
    | with_reducible intro _ _

theorem State.unitReset_frame (s : State) (w : Nat) : Frame 0x3ebffffd6ffffc72fa10407 s (State.unitReset s w) := by
  unfold State.unitReset
  repeat' first
    | with_reducible exact Frame.rfl _ _
    | with_reducible apply Frame.ite
    | with_reducible apply Frame.ite2
    | with_reducible apply Frame.comp (State.discardUnit_frame ..) (by decide)
    | with_reducible apply Frame.comp (State.unitApply_frame ..) (by decide)
    | with_reducible apply Frame.comp (State.padRefresh_frame ..) (by decide)
    | with_reducible apply Frame.wr (by decide)
    | fail_if_no_progress with_reducible apply Frame.put_host_uresetAt _ (by decide)
    | (split <;> try (rename_i hq; have e := congrArg Prod.snd hq; dsimp only at e; subst e))
    | dsimp only
    | with_reducible intro _ _
    | fail_if_no_progress apply Frame.put_host_uresetAt _ (by decide)

theorem State.unitResets_frame (s : State) (mask : Nat) : Frame 0x3ebffffd6ffffc72fa10407 s (State.unitResets s mask) := by
  unfold State.unitResets
  repeat' first
    | with_reducible exact Frame.rfl _ _
    | with_reducible apply Frame.ite
    | with_reducible apply Frame.ite2
    | with_reducible apply Frame.comp (State.unitReset_frame ..) (by decide)
    | with_reducible apply Frame.foldl
    | with_reducible apply Frame.foldl2
    | (split <;> try (rename_i hq; have e := congrArg Prod.snd hq; dsimp only at e; subst e))
    | dsimp only
    | with_reducible intro _ _

theorem execUnitReset_frame (mask : Word) (s : State) : FrameO 0x3ebffffd6ffffc72fa10407 s (execUnitReset mask s) := by
  unfold execUnitReset
  repeat' first
    | with_reducible exact Frame.rfl _ _
    | with_reducible apply FrameO.powered
    | with_reducible apply FrameO.ok
    | with_reducible apply FrameO.next
    | with_reducible apply FrameO.ite
    | with_reducible apply Frame.ite
    | with_reducible apply Frame.ite2
    | with_reducible apply Frame.comp (State.unitResets_frame ..) (by decide)
    | (split <;> try (rename_i hq; have e := congrArg Prod.snd hq; dsimp only at e; subst e))
    | dsimp only
    | with_reducible intro _ _

theorem execUnitResetComplete_frame (window : Fin 32) (s : State) : FrameO 0x20000180280300000200401 s (execUnitResetComplete window s) := by
  unfold execUnitResetComplete
  repeat' first
    | with_reducible exact Frame.rfl _ _
    | with_reducible apply FrameO.powered
    | with_reducible apply FrameO.ok
    | with_reducible apply FrameO.next
    | with_reducible apply FrameO.ite
    | with_reducible apply Frame.ite
    | with_reducible apply Frame.ite2
    | with_reducible apply Frame.comp (State.padRefresh_frame ..) (by decide)
    | with_reducible apply Frame.wr (by decide)
    | fail_if_no_progress with_reducible apply Frame.put_host_uresetAt _ (by decide)
    | (split <;> try (rename_i hq; have e := congrArg Prod.snd hq; dsimp only at e; subst e))
    | dsimp only
    | with_reducible intro _ _
    | fail_if_no_progress apply Frame.put_host_uresetAt _ (by decide)

end Sys2Proof.Machine
end

