-- ==== Sys2Proof/Laws/FrameCommit.lean ====
section
/-! SUPPORT. The frames of the operations of Machine/Commit.lean. -/

set_option linter.unreachableTactic false
set_option linter.unusedTactic false

namespace Sys2Proof.Machine

open Sys2Proof

theorem State.swapIn_frame (s : State) (st : Staged) : Frame 0x4200001cf0000001 s (State.swapIn s st) := by
  unfold State.swapIn
  repeat' first
    | with_reducible exact Frame.rfl _ _
    | with_reducible apply Frame.ite
    | with_reducible apply Frame.ite2
    | with_reducible apply Frame.wr (by decide)
    | (split <;> try (rename_i hq; have e := congrArg Prod.snd hq; dsimp only at e; subst e))
    | dsimp only
    | with_reducible intro _ _
    | (refine Frame.comp (k := 0x4200001cf0000001) (t := s) ⟨fun p hp => ?_, fun w => w⟩ (by decide) (Frame.rfl _ _); cases p <;> first | exact Eq.refl _ | exact fun _ _ => Eq.refl _ | exact fun _ _ _ => Eq.refl _ | exact absurd hp (by decide))

theorem State.commitEnd_frame (s : State) : Frame 0x20001f810813e0000010401 s (State.commitEnd s) := by
  unfold State.commitEnd
  repeat' first
    | with_reducible exact Frame.rfl _ _
    | with_reducible apply Frame.ite
    | with_reducible apply Frame.ite2
    | with_reducible apply Frame.comp (State.stkFlushAll_frame ..) (by decide)
    | with_reducible apply Frame.comp (State.talReset_frame ..) (by decide)
    | with_reducible apply Frame.comp (State.pixReset_frame ..) (by decide)
    | with_reducible apply Frame.comp (State.trnReset_frame ..) (by decide)
    | with_reducible apply Frame.comp (State.padRefresh_frame ..) (by decide)
    | (split <;> try (rename_i hq; have e := congrArg Prod.snd hq; dsimp only at e; subst e))
    | dsimp only
    | with_reducible intro _ _

theorem State.commitUnits_frame (s : State) : Frame 0x3effffdb8ffffc007010407 s (State.commitUnits s) := by
  unfold State.commitUnits
  repeat' first
    | with_reducible exact Frame.rfl _ _
    | with_reducible apply Frame.ite
    | with_reducible apply Frame.ite2
    | with_reducible apply Frame.comp (State.fanReset_frame ..) (by decide)
    | with_reducible apply Frame.comp (State.fanBaseImage_frame ..) (by decide)
    | with_reducible apply Frame.comp (State.rfxReset_frame ..) (by decide)
    | with_reducible apply Frame.comp (State.tpinReset_frame ..) (by decide)
    | with_reducible apply Frame.comp (State.stkImage_frame ..) (by decide)
    | with_reducible apply Frame.comp (State.talImage_frame ..) (by decide)
    | with_reducible apply Frame.comp (State.pixReset_frame ..) (by decide)
    | with_reducible apply Frame.comp (State.trnReset_frame ..) (by decide)
    | with_reducible apply Frame.comp (State.feaImage_frame ..) (by decide)
    | with_reducible apply Frame.comp (State.clsImage_frame ..) (by decide)
    | with_reducible apply Frame.comp (State.sigReset_frame ..) (by decide)
    | with_reducible apply Frame.comp (State.sigCommit_frame ..) (by decide)
    | with_reducible apply Frame.comp (State.msrReset_frame ..) (by decide)
    | with_reducible apply Frame.comp (State.loopCommit_frame ..) (by decide)
    | with_reducible apply Frame.comp (State.afeReset_frame ..) (by decide)
    | with_reducible apply Frame.comp (State.fioReset_frame ..) (by decide)
    | with_reducible apply Frame.comp (State.gnsReset_frame ..) (by decide)
    | with_reducible apply Frame.comp (State.fixReset_frame ..) (by decide)
    | with_reducible apply Frame.comp (State.canCommit_frame ..) (by decide)
    | with_reducible apply Frame.comp (State.ethReset_frame ..) (by decide)
    | with_reducible apply Frame.comp (State.twnCommit_frame ..) (by decide)
    | with_reducible apply Frame.comp (State.pairCommit_frame ..) (by decide)
    | with_reducible apply Frame.comp (State.recReset_frame ..) (by decide)
    | with_reducible apply Frame.comp (State.chainCommit_frame ..) (by decide)
    | with_reducible apply Frame.comp (State.timeCommit_frame ..) (by decide)
    | with_reducible apply Frame.comp (State.stationsShow_frame ..) (by decide)
    | with_reducible apply Frame.wri (by decide)
    | with_reducible apply Frame.foldl
    | with_reducible apply Frame.foldl2
    | (split <;> try (rename_i hq; have e := congrArg Prod.snd hq; dsimp only at e; subst e))
    | dsimp only
    | with_reducible intro _ _

theorem State.commitDies_frame (s : State) (run : Bool) : Frame 0x700000000000001800001 s (State.commitDies s run) := by
  unfold State.commitDies
  repeat' first
    | with_reducible exact Frame.rfl _ _
    | with_reducible apply Frame.ite
    | with_reducible apply Frame.ite2
    | with_reducible apply Frame.comp (State.chainReset1_frame ..) (by decide)
    | with_reducible apply Frame.comp (State.linkM_frame ..) (by decide)
    | (split <;> try (rename_i hq; have e := congrArg Prod.snd hq; dsimp only at e; subst e))
    | dsimp only
    | with_reducible intro _ _

theorem execCommit_frame (s : State) : FrameO 0x3effffdfaffffdff7810407 s (execCommit s) := by
  unfold execCommit
  repeat' first
    | with_reducible exact Frame.rfl _ _
    | with_reducible apply FrameO.powered
    | with_reducible apply FrameO.ok
    | with_reducible apply FrameO.next
    | with_reducible apply FrameO.ite
    | with_reducible apply Frame.ite
    | with_reducible apply Frame.ite2
    | with_reducible apply Frame.comp (State.discardReport_frame ..) (by decide)
    | with_reducible apply Frame.comp (State.pendingShow_frame ..) (by decide)
    | with_reducible apply Frame.comp (State.commitEnd_frame ..) (by decide)
    | with_reducible apply Frame.comp (State.swapIn_frame ..) (by decide)
    | with_reducible apply Frame.comp (State.commitUnits_frame ..) (by decide)
    | with_reducible apply Frame.comp (State.commitDies_frame ..) (by decide)
    | with_reducible apply Frame.comp (State.runFills_frame ..) (by decide)
    | with_reducible apply Frame.comp (State.reportAll_frame ..) (by decide)
    | with_reducible apply Frame.comp (State.queueAmends_frame ..) (by decide)
    | with_reducible apply Frame.comp (State.jamLearn_frame ..) (by decide)
    | with_reducible apply Frame.comp (State.platDone_frame ..) (by decide)
    | with_reducible apply Frame.comp (State.pwrShow_frame ..) (by decide)
    | with_reducible apply Frame.comp (State.fansApply_frame ..) (by decide)
    | with_reducible apply Frame.comp (State.padRefresh_frame ..) (by decide)
    | with_reducible apply Frame.wr (by decide)
    | fail_if_no_progress with_reducible apply Frame.put_loader_pendingAmends _ (by decide)
    | (split <;> try (rename_i hq; have e := congrArg Prod.snd hq; dsimp only at e; subst e))
    | dsimp only
    | with_reducible intro _ _
    | fail_if_no_progress apply Frame.put_loader_pendingAmends _ (by decide)

theorem Frame.wrSet {mk : Nat} {sA sB : State} {l : List (Nat × Nat)} {c : CRef} {f : Fld} {i j : Nat} (hf : f.okIn mk = true) (hm : 0x1 &&& mk = 0x1)
    (h : Frame mk sA sB) : Frame mk sA (sB.wrSet l c f i j) := by
  unfold State.wrSet
  repeat' first
    | exact h
    | with_reducible exact Frame.rfl _ _
    | with_reducible apply Frame.ite
    | with_reducible apply Frame.wrij hf
    | (split <;> try (rename_i hq; have e := congrArg Prod.snd hq; dsimp only at e; subst e))
    | dsimp only
    | with_reducible intro _ _

theorem State.amendEnable_frame (s : State) (r : CfgRec) (l : List (Nat × Nat)) : Frame 0x28000042800000000001 s (State.amendEnable s r l) := by
  unfold State.amendEnable
  repeat' first
    | with_reducible exact Frame.rfl _ _
    | with_reducible apply Frame.ite
    | with_reducible apply Frame.ite2
    | with_reducible apply Frame.comp (State.sigEnable_frame ..) (by decide)
    | with_reducible apply Frame.comp (State.loopEnable_frame ..) (by decide)
    | with_reducible apply Frame.comp (State.loopAmended_frame ..) (by decide)
    | (split <;> try (rename_i hq; have e := congrArg Prod.snd hq; dsimp only at e; subst e))
    | dsimp only
    | with_reducible intro _ _

theorem State.amendAfe_frame (s : State) (old r : CfgRec) (l : List (Nat × Nat)) : Frame 0x200c0080080700000000401 s (State.amendAfe s old r l) := by
  unfold State.amendAfe
  repeat' first
    | with_reducible exact Frame.rfl _ _
    | with_reducible apply Frame.ite
    | with_reducible apply Frame.ite2
    | with_reducible apply Frame.comp (State.afeAmended_frame ..) (by decide)
    | with_reducible apply Frame.comp (State.settleStart_frame ..) (by decide)
    | (split <;> try (rename_i hq; have e := congrArg Prod.snd hq; dsimp only at e; subst e))
    | dsimp only
    | with_reducible intro _ _

theorem State.amendCls_frame (s : State) (r : CfgRec) (l : List (Nat × Nat)) : Frame 0x20004000080040000000401 s (State.amendCls s r l) := by
  unfold State.amendCls
  repeat' first
    | with_reducible exact Frame.rfl _ _
    | with_reducible apply Frame.ite
    | with_reducible apply Frame.ite2
    | with_reducible apply Frame.comp (State.clsBanks_frame ..) (by decide)
    | with_reducible apply Frame.comp (State.rateStart_frame ..) (by decide)
    | with_reducible apply Frame.wr (by decide)
    | (split <;> try (rename_i hq; have e := congrArg Prod.snd hq; dsimp only at e; subst e))
    | dsimp only
    | with_reducible intro _ _

theorem State.amendStk_frame (s : State) (r : CfgRec) (l : List (Nat × Nat)) : Frame 0x200003800803c0000000401 s (State.amendStk s r l) := by
  unfold State.amendStk
  repeat' first
    | with_reducible exact Frame.rfl _ _
    | with_reducible apply Frame.ite
    | with_reducible apply Frame.ite2
    | with_reducible apply Frame.wrSet (by decide) (by decide)
    | with_reducible apply Frame.comp (State.stkFlushAll_frame ..) (by decide)
    | with_reducible apply Frame.comp (State.vlEnable_frame ..) (by decide)
    | with_reducible apply Frame.comp (State.stkM_frame ..) (by decide)
    | with_reducible apply Frame.wr (by decide)
    | (split <;> try (rename_i hq; have e := congrArg Prod.snd hq; dsimp only at e; subst e))
    | dsimp only
    | with_reducible intro _ _

theorem State.amendMsr_frame (s : State) (r : CfgRec) (l : List (Nat × Nat)) : Frame 0x10000001000000000001 s (State.amendMsr s r l) := by
  unfold State.amendMsr
  repeat' first
    | with_reducible exact Frame.rfl _ _
    | with_reducible apply Frame.ite
    | with_reducible apply Frame.ite2
    | with_reducible apply Frame.comp (State.msrM_frame ..) (by decide)
    | with_reducible apply Frame.comp (State.msrEnable_frame ..) (by decide)
    | with_reducible apply Frame.comp (State.lossStart_frame ..) (by decide)
    | (split <;> try (rename_i hq; have e := congrArg Prod.snd hq; dsimp only at e; subst e))
    | dsimp only
    | with_reducible intro _ _

theorem State.amendFio_frame (s : State) (r : CfgRec) (l : List (Nat × Nat)) : Frame 0x300000000000000800001 s (State.amendFio s r l) := by
  unfold State.amendFio
  repeat' first
    | with_reducible exact Frame.rfl _ _
    | with_reducible apply Frame.ite
    | with_reducible apply Frame.ite2
    | with_reducible apply Frame.comp (State.linkM_frame ..) (by decide)
    | with_reducible apply Frame.wrSet (by decide) (by decide)
    | with_reducible apply Frame.wrij (by decide)
    | (split <;> try (rename_i hq; have e := congrArg Prod.snd hq; dsimp only at e; subst e))
    | dsimp only
    | with_reducible intro _ _

theorem State.amendFan_frame (s : State) (r : CfgRec) (l : List (Nat × Nat)) : Frame 0x20000040080000004000401 s (State.amendFan s r l) := by
  unfold State.amendFan
  repeat' first
    | with_reducible exact Frame.rfl _ _
    | with_reducible apply Frame.ite
    | with_reducible apply Frame.ite2
    | with_reducible apply Frame.comp (State.fanEnable_frame ..) (by decide)
    | with_reducible apply Frame.comp (State.fansApply_frame ..) (by decide)
    | with_reducible apply Frame.setFld (by decide)
    | with_reducible apply Frame.wrij (by decide)
    | with_reducible apply Frame.foldl
    | with_reducible apply Frame.foldl2
    | (split <;> try (rename_i hq; have e := congrArg Prod.snd hq; dsimp only at e; subst e))
    | dsimp only
    | with_reducible intro _ _

theorem State.amendCan_frame (s : State) (r : CfgRec) (l : List (Nat × Nat)) : Frame 0x2000000004000000000001 s (State.amendCan s r l) := by
  unfold State.amendCan
  repeat' first
    | with_reducible exact Frame.rfl _ _
    | with_reducible apply Frame.ite
    | with_reducible apply Frame.ite2
    | with_reducible apply Frame.nextOr
    | with_reducible apply Frame.comp (State.canStart_frame ..) (by decide)
    | with_reducible apply Frame.wrSet (by decide) (by decide)
    | with_reducible apply FrameO.comp (execControllerEnable_frame ..) (by decide)
    | with_reducible apply Frame.comp (State.txHeader_frame ..) (by decide)
    | with_reducible apply Frame.comp (State.periodFrom_frame ..) (by decide)
    | with_reducible apply Frame.wri (by decide)
    | with_reducible apply Frame.foldl
    | with_reducible apply Frame.foldl2
    | (split <;> try (rename_i hq; have e := congrArg Prod.snd hq; dsimp only at e; subst e))
    | dsimp only
    | with_reducible intro _ _

theorem State.amendTwn_frame (s : State) (r : CfgRec) (l : List (Nat × Nat)) : Frame 0x2c000000090000000000401 s (State.amendTwn s r l) := by
  unfold State.amendTwn
  repeat' first
    | with_reducible exact Frame.rfl _ _
    | with_reducible apply Frame.ite
    | with_reducible apply Frame.ite2
    | with_reducible apply Frame.wrSet (by decide) (by decide)
    | with_reducible apply Frame.comp (State.ethCtrl_frame ..) (by decide)
    | with_reducible apply Frame.comp (State.ptpSelect_frame ..) (by decide)
    | (split <;> try (rename_i hq; have e := congrArg Prod.snd hq; dsimp only at e; subst e))
    | dsimp only
    | with_reducible intro _ _

theorem State.amendGns_frame (s : State) (r : CfgRec) (l : List (Nat × Nat)) : Frame 0x800000800004000000001 s (State.amendGns s r l) := by
  unfold State.amendGns
  repeat' first
    | with_reducible exact Frame.rfl _ _
    | with_reducible apply Frame.ite
    | with_reducible apply Frame.ite2
    | with_reducible apply Frame.wrSet (by decide) (by decide)
    | with_reducible apply Frame.comp (State.chanDrop_frame ..) (by decide)
    | with_reducible apply Frame.foldl
    | with_reducible apply Frame.foldl2
    | (split <;> try (rename_i hq; have e := congrArg Prod.snd hq; dsimp only at e; subst e))
    | dsimp only
    | with_reducible intro _ _

theorem State.amendEffect_frame (s : State) (old r : CfgRec) (l : List (Nat × Nat)) : Frame 0x2effd7d28d7fd4004800401 s (State.amendEffect s old r l) := by
  unfold State.amendEffect
  repeat' first
    | with_reducible exact Frame.rfl _ _
    | with_reducible apply Frame.ite
    | with_reducible apply Frame.ite2
    | with_reducible apply Frame.comp (State.padRefresh_frame ..) (by decide)
    | with_reducible apply Frame.wrSet (by decide) (by decide)
    | with_reducible apply Frame.comp (State.amendAfe_frame ..) (by decide)
    | with_reducible apply Frame.comp (State.amendEnable_frame ..) (by decide)
    | with_reducible apply Frame.comp (State.amendCls_frame ..) (by decide)
    | with_reducible apply Frame.comp (State.amendStk_frame ..) (by decide)
    | with_reducible apply Frame.comp (State.amendMsr_frame ..) (by decide)
    | with_reducible apply Frame.comp (State.amendFio_frame ..) (by decide)
    | with_reducible apply Frame.comp (State.amendFan_frame ..) (by decide)
    | with_reducible apply Frame.comp (State.amendCan_frame ..) (by decide)
    | with_reducible apply Frame.comp (State.amendTwn_frame ..) (by decide)
    | with_reducible apply Frame.comp (State.amendGns_frame ..) (by decide)
    | with_reducible apply Frame.comp (State.pwrShow_frame ..) (by decide)
    | fail_if_no_progress with_reducible apply Frame.put_spoor _ (by decide)
    | (split <;> try (rename_i hq; have e := congrArg Prod.snd hq; dsimp only at e; subst e))
    | dsimp only
    | with_reducible intro _ _
    | fail_if_no_progress apply Frame.put_spoor _ (by decide)

theorem execAmendmentApply_frame (sect index : Nat) (s : State) : FrameO 0x2effd7d68d7fd4624800401 s (execAmendmentApply sect index s) := by
  unfold execAmendmentApply
  repeat' first
    | with_reducible exact Frame.rfl _ _
    | with_reducible apply FrameO.powered
    | with_reducible apply FrameO.ok
    | with_reducible apply FrameO.next
    | with_reducible apply FrameO.ite
    | with_reducible apply Frame.ite
    | with_reducible apply Frame.ite2
    | with_reducible apply Frame.comp (State.pendingShow_frame ..) (by decide)
    | with_reducible apply Frame.comp (State.amendEffect_frame ..) (by decide)
    | with_reducible apply Frame.comp (State.raiseIf_frame ..) (by decide)
    | with_reducible apply Frame.inc (by decide)
    | with_reducible apply Frame.foldl
    | with_reducible apply Frame.foldl2
    | (split <;> try (rename_i hq; have e := congrArg Prod.snd hq; dsimp only at e; subst e))
    | dsimp only
    | with_reducible intro _ _
    | (refine Frame.comp (k := 0x2effd7d68d7fd4624800401) (t := s) ⟨fun p hp => ?_, fun w => w⟩ (by decide) (Frame.rfl _ _); cases p <;> first | exact Eq.refl _ | exact fun _ _ => Eq.refl _ | exact fun _ _ _ => Eq.refl _ | exact absurd hp (by decide))

end Sys2Proof.Machine
end

