-- ==== Sys2Proof/Laws/FrameStartup.lean ====
section
/-! SUPPORT. The frames of the operations of Machine/Startup.lean. -/

set_option linter.unreachableTactic false
set_option linter.unusedTactic false

namespace Sys2Proof.Machine

open Sys2Proof

theorem State.nvCut_frame (s : State) : Frame 0x8000000000000017 s (State.nvCut s) := by
  unfold State.nvCut
  repeat' first
    | with_reducible exact Frame.rfl _ _
    | with_reducible apply Frame.ite
    | with_reducible apply Frame.ite2
    | with_reducible apply Frame.comp (State.free_frame ..) (by decide)
    | with_reducible apply Frame.comp (State.memPut_frame ..) (by decide)
    | (split <;> try (rename_i hq; have e := congrArg Prod.snd hq; dsimp only at e; subst e))
    | dsimp only
    | with_reducible intro _ _

theorem cellWfFrom_congr {α : Type} [DecidableEq α] (d e : Nat → α) {l : List (Nat × α)} {i : Nat}
    (k : ∀ p ∈ l, d p.1 = e p.1) (h : cellWfFrom d i l = true) : cellWfFrom e i l = true := by
  induction l generalizing i with
  | nil => exact h
  | cons x l ih =>
    simp only [cellWfFrom, Bool.and_eq_true, decide_eq_true_eq] at h ⊢
    exact ⟨by rw [← k x (by simp)]; exact h.1, ih (fun p hp => k p (by simp [hp])) h.2⟩

theorem memByte0_high (e f a : Nat) (h : 0x4000000 ≤ a) : memByte0 e a = memByte0 f a := by
  unfold memByte0
  rw [if_neg (Nat.not_lt.mpr h), if_neg (Nat.not_lt.mpr h)]

theorem memFlips0_high (e f w : Nat) (h : 0x800000 ≤ w) : memFlips0 e w = memFlips0 f w := by
  unfold memFlips0
  rw [if_neg (by omega), if_neg (by omega)]

/-- The cells from address `n` on of a canonical store are canonical, whatever the cells below it read as. -/
theorem cellWf_from {α : Type} [DecidableEq α] (d e : Nat → α) (n : Nat) {l : List (Nat × α)}
    (k : ∀ a, n ≤ a → d a = e a) (h : cellWf d l = true) :
    cellWf e (l.filter (fun p => decide (n ≤ p.1))) = true := by
  refine cellWfFrom_congr d e (fun p hp => k p.1 ?_) (cellWfFrom_filter _ _ h)
  have := (List.mem_filter.mp hp).2
  exact of_decide_eq_true this

theorem resetRegs_wf (s : State) (keep : List (Nat × Nat)) : cellWf regReset (s.resetRegs keep) = true := by
  have key : ∀ (l : List (Nat × Nat)) (m : List (Nat × Word)), cellWf regReset m = true →
      cellWf regReset (l.foldl (fun m p => cellPut regReset m p.1 (BitVec.ofNat 32 p.2)) m) = true := by
    intro l
    induction l with
    | nil => exact fun m h => h
    | cons x l ih => exact fun m h => ih _ (cellPut_wf regReset _ _ h)
  exact key _ [] rfl

theorem State.coreReset_wf (s : State) (por : Bool) (w : s.storesWf) : (s.coreReset por).storesWf := by
  have e1 : (s.coreReset por).memEpoch = if por then s.memEpoch + 1 else s.memEpoch := rfl
  have e2 : (s.coreReset por).mem = if por then s.mem.filter (fun p => decide (0x4000000 ≤ p.1)) else s.mem := rfl
  have e3 : (s.coreReset por).memErr = if por then s.memErr.filter (fun p => decide (0x800000 ≤ p.1)) else s.memErr := rfl
  refine ⟨resetRegs_wf s _, ?_, ?_⟩
  · rw [e1, e2]
    cases por
    · rw [if_neg Bool.false_ne_true, if_neg Bool.false_ne_true]; exact w.2.1
    · rw [if_pos (Eq.refl true), if_pos (Eq.refl true)]; exact cellWf_from (memByte0 s.memEpoch) _ 0x4000000 (memByte0_high _ _) w.2.1
  · rw [e1, e3]
    cases por
    · rw [if_neg Bool.false_ne_true, if_neg Bool.false_ne_true]; exact w.2.2
    · rw [if_pos (Eq.refl true), if_pos (Eq.refl true)]; exact cellWf_from (memFlips0 s.memEpoch) _ 0x800000 (memFlips0_high _ _) w.2.2

theorem State.coreReset_frame (s : State) (por : Bool) : Frame 0x3fffffffe7ffffffeffff8f s (State.coreReset s por) := by
  refine ⟨fun p hp => ?_, State.coreReset_wf s por⟩
  cases p <;> first | exact absurd hp (by decide) | (rename_i w; exact absurd hp (by revert w; decide)) | exact Eq.refl _

theorem State.selfTest_frame (s : State) (bad : Nat) : Frame 0x20000008080000000000401 s (State.selfTest s bad) := by
  unfold State.selfTest
  repeat' first
    | with_reducible exact Frame.rfl _ _
    | with_reducible apply Frame.ite
    | with_reducible apply Frame.ite2
    | with_reducible apply Frame.comp (State.raiseIf_frame ..) (by decide)
    | with_reducible apply Frame.wr (by decide)
    | (split <;> try (rename_i hq; have e := congrArg Prod.snd hq; dsimp only at e; subst e))
    | dsimp only
    | with_reducible intro _ _

theorem State.startClocks_frame (s : State) (pcie : Bool) : Frame 0x2000000048000a000000c81 s (State.startClocks s pcie) := by
  unfold State.startClocks
  repeat' first
    | with_reducible exact Frame.rfl _ _
    | with_reducible apply Frame.ite
    | with_reducible apply Frame.ite2
    | with_reducible apply Frame.comp (State.timeFromRtc_frame ..) (by decide)
    | with_reducible apply Frame.comp (State.raiseIf_frame ..) (by decide)
    | with_reducible apply Frame.wr (by decide)
    | fail_if_no_progress with_reducible apply Frame.put_host_pcieUp _ (by decide)
    | fail_if_no_progress with_reducible apply Frame.put_memu _ (by decide)
    | (split <;> try (rename_i hq; have e := congrArg Prod.snd hq; dsimp only at e; subst e))
    | dsimp only
    | with_reducible intro _ _
    | fail_if_no_progress apply Frame.put_host_pcieUp _ (by decide)
    | fail_if_no_progress apply Frame.put_memu _ (by decide)

theorem State.enterUnplatted_frame (s : State) : Frame 0x200000000000001 s (State.enterUnplatted s) := by
  unfold State.enterUnplatted
  repeat' first
    | with_reducible exact Frame.rfl _ _
    | with_reducible apply Frame.ite
    | with_reducible apply Frame.wr (by decide)
    | (split <;> try (rename_i hq; have e := congrArg Prod.snd hq; dsimp only at e; subst e))
    | dsimp only
    | with_reducible intro _ _

theorem State.stageSlot_frame (s : State) (x : Nat) (p : Parsed) : Frame 0x20000004280000180000401 s (State.stageSlot s x p) := by
  unfold State.stageSlot
  repeat' first
    | with_reducible exact Frame.rfl _ _
    | with_reducible apply Frame.ite
    | with_reducible apply Frame.ite2
    | with_reducible apply Frame.comp (State.reportAll_frame ..) (by decide)
    | with_reducible apply Frame.wr (by decide)
    | fail_if_no_progress with_reducible apply Frame.put_loader_staged _ (by decide)
    | (split <;> try (rename_i hq; have e := congrArg Prod.snd hq; dsimp only at e; subst e))
    | dsimp only
    | with_reducible intro _ _
    | fail_if_no_progress apply Frame.put_loader_staged _ (by decide)

theorem State.startLoad_frame (s : State) (bootsel : Nat) : Frame 0x2000000c280000180000401 s (State.startLoad s bootsel) := by
  unfold State.startLoad
  repeat' first
    | with_reducible exact Frame.rfl _ _
    | with_reducible apply Frame.ite
    | with_reducible apply Frame.ite2
    | with_reducible apply Frame.comp (State.readPointer_frame ..) (by decide)
    | with_reducible apply Frame.comp (State.enterUnplatted_frame ..) (by decide)
    | with_reducible apply Frame.comp (State.parseSlot_frame ..) (by decide)
    | with_reducible apply Frame.comp (State.stageSlot_frame ..) (by decide)
    | with_reducible apply Frame.comp (State.rejectImage_frame ..) (by decide)
    | with_reducible apply Frame.comp (State.reportOne_frame ..) (by decide)
    | with_reducible apply Frame.comp (State.raise_frame ..) (by decide)
    | with_reducible apply Frame.comp (State.platDone_frame ..) (by decide)
    | with_reducible apply Frame.wr (by decide)
    | (split <;> try (rename_i hq; have e := congrArg Prod.snd hq; dsimp only at e; subst e))
    | dsimp only
    | with_reducible intro _ _

theorem State.startUp_frame (s : State) (por aon : Bool) (env : BootEnv) : Frame 0x200001dc68031a180000c87 s (State.startUp s por aon env) := by
  unfold State.startUp
  repeat' first
    | with_reducible exact Frame.rfl _ _
    | with_reducible apply Frame.ite
    | with_reducible apply Frame.ite2
    | with_reducible apply Frame.comp (State.selfTest_frame ..) (by decide)
    | with_reducible apply Frame.comp (State.startClocks_frame ..) (by decide)
    | with_reducible apply Frame.comp (State.recScan_frame ..) (by decide)
    | with_reducible apply Frame.comp (State.startLoad_frame ..) (by decide)
    | with_reducible apply Frame.comp (State.fansApply_frame ..) (by decide)
    | with_reducible apply Frame.comp (State.padRefresh_frame ..) (by decide)
    | (split <;> try (rename_i hq; have e := congrArg Prod.snd hq; dsimp only at e; subst e))
    | dsimp only
    | with_reducible intro _ _

theorem State.cause_frame (s : State) (bit : Nat) (aon halted : Bool) : Frame 0x200000000000001 s (State.cause s bit aon halted) := by
  unfold State.cause
  repeat' first
    | with_reducible exact Frame.rfl _ _
    | with_reducible apply Frame.ite
    | with_reducible apply Frame.ite2
    | with_reducible apply Frame.setReg (by decide)
    | (split <;> try (rename_i hq; have e := congrArg Prod.snd hq; dsimp only at e; subst e))
    | dsimp only
    | with_reducible intro _ _

theorem execPowerOnReset_frame (supv aon : Bool) (env : BootEnv) (s : State) : FrameO 0x3fffffffefffffffeffff9f s (execPowerOnReset supv aon env s) := by
  unfold execPowerOnReset
  repeat' first
    | with_reducible exact Frame.rfl _ _
    | with_reducible apply FrameO.powered
    | with_reducible apply FrameO.ok
    | with_reducible apply FrameO.next
    | with_reducible apply FrameO.ite
    | with_reducible apply Frame.ite
    | with_reducible apply Frame.ite2
    | with_reducible apply Frame.comp (State.nvCut_frame ..) (by decide)
    | with_reducible apply Frame.comp (State.freshRow_frame ..) (by decide)
    | with_reducible apply Frame.comp (State.coreReset_frame ..) (by decide)
    | with_reducible apply Frame.comp (State.cause_frame ..) (by decide)
    | with_reducible apply Frame.comp (State.startUp_frame ..) (by decide)
    | with_reducible apply Frame.inc (by decide)
    | fail_if_no_progress with_reducible apply Frame.put_clk _ (by decide)
    | with_reducible apply Frame.foldl
    | with_reducible apply Frame.foldl2
    | (split <;> try (rename_i hq; have e := congrArg Prod.snd hq; dsimp only at e; subst e))
    | dsimp only
    | with_reducible intro _ _
    | fail_if_no_progress apply Frame.put_clk _ (by decide)

theorem execWarmReset_frame (pin : Bool) (env : BootEnv) (s : State) : FrameO 0x3fffffffefffffffeffff9f s (execWarmReset pin env s) := by
  unfold execWarmReset
  repeat' first
    | with_reducible exact Frame.rfl _ _
    | with_reducible apply FrameO.powered
    | with_reducible apply FrameO.ok
    | with_reducible apply FrameO.next
    | with_reducible apply FrameO.ite
    | with_reducible apply Frame.ite
    | with_reducible apply Frame.ite2
    | with_reducible apply Frame.comp (State.nvCut_frame ..) (by decide)
    | with_reducible apply Frame.comp (State.coreReset_frame ..) (by decide)
    | with_reducible apply Frame.comp (State.cause_frame ..) (by decide)
    | with_reducible apply Frame.comp (State.startUp_frame ..) (by decide)
    | (split <;> try (rename_i hq; have e := congrArg Prod.snd hq; dsimp only at e; subst e))
    | dsimp only
    | with_reducible intro _ _

theorem State.sysReset_frame (s : State) (v : Nat) : Frame 0x100000 s (State.sysReset s v) := by
  unfold State.sysReset
  repeat' first
    | with_reducible exact Frame.rfl _ _
    | with_reducible apply Frame.ite
    | with_reducible apply Frame.ite2
    | fail_if_no_progress with_reducible apply Frame.put_host_resetAt _ (by decide)
    | (split <;> try (rename_i hq; have e := congrArg Prod.snd hq; dsimp only at e; subst e))
    | dsimp only
    | with_reducible intro _ _
    | fail_if_no_progress apply Frame.put_host_resetAt _ (by decide)

theorem execSysReset_frame (value : Word) (s : State) : FrameO 0x100000 s (execSysReset value s) := by
  unfold execSysReset
  repeat' first
    | with_reducible exact Frame.rfl _ _
    | with_reducible apply FrameO.powered
    | with_reducible apply FrameO.ok
    | with_reducible apply FrameO.next
    | with_reducible apply FrameO.ite
    | with_reducible apply Frame.ite
    | with_reducible apply Frame.ite2
    | with_reducible apply Frame.comp (State.sysReset_frame ..) (by decide)
    | (split <;> try (rename_i hq; have e := congrArg Prod.snd hq; dsimp only at e; subst e))
    | dsimp only
    | with_reducible intro _ _

end Sys2Proof.Machine
end

