-- ==== Sys2Proof/Laws/FrameHostBus.lean ====
section
/-! SUPPORT. The frames of the operations of Machine/HostBus.lean. -/

set_option linter.unreachableTactic false
set_option linter.unusedTactic false

namespace Sys2Proof.Machine

open Sys2Proof

theorem State.regPut_frame (s : State) (a v : Nat) : Frame 0x3fffffffe00000000000001 s (State.regPut s a v) := by
  unfold State.regPut
  repeat' first
    | with_reducible exact Frame.rfl _ _
    | with_reducible apply Frame.ite
    | with_reducible apply Frame.ite2
    | with_reducible apply Frame.setReg (regOk_mono (regOk_all _) (by decide))
    | (split <;> try (rename_i hq; have e := congrArg Prod.snd hq; dsimp only at e; subst e))
    | dsimp only
    | with_reducible intro _ _

theorem State.wrSys_frame (s : State) (a v : Nat) : Frame 0x3fffffffeffffc72fb10407 s (State.wrSys s a v) := by
  unfold State.wrSys
  repeat' first
    | with_reducible exact Frame.rfl _ _
    | with_reducible apply Frame.ite
    | with_reducible apply Frame.comp (State.sysReset_frame ..) (by decide)
    | with_reducible apply Frame.comp (State.unitResets_frame ..) (by decide)
    | with_reducible apply Frame.comp (State.regPut_frame ..) (by decide)
    | (split <;> try (rename_i hq; have e := congrArg Prod.snd hq; dsimp only at e; subst e))
    | dsimp only
    | with_reducible intro _ _

theorem State.wrTime_frame (s : State) (a v : Nat) : Frame 0x3fffffffe00002000000011 s (State.wrTime s a v) := by
  unfold State.wrTime
  repeat' first
    | with_reducible exact Frame.rfl _ _
    | with_reducible apply Frame.ite
    | with_reducible apply Frame.ite2
    | with_reducible apply Frame.nextOr
    | with_reducible apply FrameO.comp (execTimeHrefWrite_frame ..) (by decide)
    | with_reducible apply Frame.comp (State.regPut_frame ..) (by decide)
    | with_reducible apply Frame.wr (by decide)
    | (split <;> try (rename_i hq; have e := congrArg Prod.snd hq; dsimp only at e; subst e))
    | dsimp only
    | with_reducible intro _ _

theorem State.wrHst_frame (s : State) (a v : Nat) : Frame 0x3fffffffe80000000030401 s (State.wrHst s a v) := by
  unfold State.wrHst
  repeat' first
    | with_reducible exact Frame.rfl _ _
    | with_reducible apply Frame.ite
    | with_reducible apply Frame.comp (State.kick_frame ..) (by decide)
    | with_reducible apply Frame.comp (State.wdPeriod_frame ..) (by decide)
    | with_reducible apply Frame.comp (State.lostClear_frame ..) (by decide)
    | with_reducible apply Frame.comp (State.dmaPost_frame ..) (by decide)
    | with_reducible apply Frame.comp (State.regPut_frame ..) (by decide)
    | (split <;> try (rename_i hq; have e := congrArg Prod.snd hq; dsimp only at e; subst e))
    | dsimp only
    | with_reducible intro _ _

theorem State.wrMem_frame (s : State) (a v : Nat) : Frame 0x3fffffffe00008000000001 s (State.wrMem s a v) := by
  unfold State.wrMem
  repeat' first
    | with_reducible exact Frame.rfl _ _
    | with_reducible apply Frame.ite
    | with_reducible apply Frame.ite2
    | with_reducible apply Frame.comp (State.marks_frame ..) (by decide)
    | with_reducible apply Frame.comp (State.nvCommand_frame ..) (by decide)
    | with_reducible apply Frame.comp (State.repairCommand_frame ..) (by decide)
    | with_reducible apply Frame.comp (State.regPut_frame ..) (by decide)
    | with_reducible apply Frame.wr (by decide)
    | with_reducible apply Frame.wri (by decide)
    | (split <;> try (rename_i hq; have e := congrArg Prod.snd hq; dsimp only at e; subst e))
    | dsimp only
    | with_reducible intro _ _

theorem State.wrRec_frame (s : State) (a v : Nat) : Frame 0x3fffffffe80018000010401 s (State.wrRec s a v) := by
  unfold State.wrRec
  repeat' first
    | with_reducible exact Frame.rfl _ _
    | with_reducible apply Frame.ite
    | with_reducible apply Frame.ite2
    | with_reducible apply Frame.nextOr
    | with_reducible apply FrameO.comp (execFlush_frame ..) (by decide)
    | with_reducible apply FrameO.comp (execClear_frame ..) (by decide)
    | with_reducible apply FrameO.comp (execDump_frame ..) (by decide)
    | with_reducible apply Frame.comp (State.regPut_frame ..) (by decide)
    | with_reducible apply Frame.wr (by decide)
    | (split <;> try (rename_i hq; have e := congrArg Prod.snd hq; dsimp only at e; subst e))
    | dsimp only
    | with_reducible intro _ _

theorem State.wrThm_frame (s : State) (a v : Nat) : Frame 0x3fffffffe80000008000401 s (State.wrThm s a v) := by
  unfold State.wrThm
  repeat' first
    | with_reducible exact Frame.rfl _ _
    | with_reducible apply Frame.ite
    | with_reducible apply Frame.ite2
    | with_reducible apply Frame.nextOr
    | with_reducible apply Frame.comp (State.requestUpdate_frame ..) (by decide)
    | with_reducible apply FrameO.comp (execAccept_frame ..) (by decide)
    | with_reducible apply FrameO.comp (execSensfailClear_frame ..) (by decide)
    | with_reducible apply Frame.comp (State.regPut_frame ..) (by decide)
    | with_reducible apply Frame.wr (by decide)
    | (split <;> try (rename_i hq; have e := congrArg Prod.snd hq; dsimp only at e; subst e))
    | dsimp only
    | with_reducible intro _ _

theorem State.wrFan_frame (s : State) (a v : Nat) : Frame 0x3fffffffe80000004000401 s (State.wrFan s a v) := by
  unfold State.wrFan
  repeat' first
    | with_reducible exact Frame.rfl _ _
    | with_reducible apply Frame.ite
    | with_reducible apply Frame.ite2
    | with_reducible apply Frame.nextOr
    | with_reducible apply Frame.comp (State.fanEnable_frame ..) (by decide)
    | with_reducible apply FrameO.comp (execPronk_frame ..) (by decide)
    | with_reducible apply FrameO.comp (execLearn_frame ..) (by decide)
    | with_reducible apply FrameO.comp (execStallLatchedClear_frame ..) (by decide)
    | with_reducible apply FrameO.comp (execTachLostClear_frame ..) (by decide)
    | with_reducible apply Frame.comp (State.regPut_frame ..) (by decide)
    | with_reducible apply Frame.wri (by decide)
    | (split <;> try (rename_i hq; have e := congrArg Prod.snd hq; dsimp only at e; subst e))
    | dsimp only
    | with_reducible intro _ _

theorem State.wrStk_frame (s : State) (a v : Nat) : Frame 0x3fffffffe803c0000000401 s (State.wrStk s a v) := by
  unfold State.wrStk
  repeat' first
    | with_reducible exact Frame.rfl _ _
    | with_reducible apply Frame.ite
    | with_reducible apply Frame.ite2
    | with_reducible apply Frame.nextOr
    | with_reducible apply FrameO.comp (execEngineDisable_frame ..) (by decide)
    | with_reducible apply Frame.comp (State.stkHostGo_frame ..) (by decide)
    | with_reducible apply Frame.comp (State.vlEnable_frame ..) (by decide)
    | with_reducible apply Frame.comp (State.regPut_frame ..) (by decide)
    | with_reducible apply Frame.wr (by decide)
    | with_reducible apply Frame.wri (by decide)
    | (split <;> try (rename_i hq; have e := congrArg Prod.snd hq; dsimp only at e; subst e))
    | dsimp only
    | with_reducible intro _ _

theorem State.wrTal_frame (s : State) (a v : Nat) : Frame 0x3fffffffe00000000000001 s (State.wrTal s a v) := by
  unfold State.wrTal
  repeat' first
    | with_reducible exact Frame.rfl _ _
    | with_reducible apply Frame.ite
    | with_reducible apply Frame.ite2
    | with_reducible apply Frame.comp (State.regPut_frame ..) (by decide)
    | with_reducible apply Frame.wr (by decide)
    | (split <;> try (rename_i hq; have e := congrArg Prod.snd hq; dsimp only at e; subst e))
    | dsimp only
    | with_reducible intro _ _

theorem State.wrTrn_frame (s : State) (a v : Nat) : Frame 0x3fffffffe80020000000401 s (State.wrTrn s a v) := by
  unfold State.wrTrn
  repeat' first
    | with_reducible exact Frame.rfl _ _
    | with_reducible apply Frame.ite
    | with_reducible apply Frame.comp (State.trnCtrl_frame ..) (by decide)
    | with_reducible apply Frame.comp (State.snapGo_frame ..) (by decide)
    | with_reducible apply Frame.comp (State.regPut_frame ..) (by decide)
    | (split <;> try (rename_i hq; have e := congrArg Prod.snd hq; dsimp only at e; subst e))
    | dsimp only
    | with_reducible intro _ _

theorem State.wrMsr_frame (s : State) (a v : Nat) : Frame 0x3fffffffe01000000000001 s (State.wrMsr s a v) := by
  unfold State.wrMsr
  repeat' first
    | with_reducible exact Frame.rfl _ _
    | with_reducible apply Frame.ite
    | with_reducible apply Frame.ite2
    | with_reducible apply Frame.nextOr
    | with_reducible apply Frame.comp (State.msrEnable_frame ..) (by decide)
    | with_reducible apply FrameO.comp (execClose_frame ..) (by decide)
    | with_reducible apply FrameO.comp (execTotClr_frame ..) (by decide)
    | with_reducible apply FrameO.comp (execLossClr_frame ..) (by decide)
    | with_reducible apply Frame.comp (State.regPut_frame ..) (by decide)
    | (split <;> try (rename_i hq; have e := congrArg Prod.snd hq; dsimp only at e; subst e))
    | dsimp only
    | with_reducible intro _ _

theorem State.wrLoop_frame (s : State) (a v : Nat) : Frame 0x3fffffffe42000000000001 s (State.wrLoop s a v) := by
  unfold State.wrLoop
  repeat' first
    | with_reducible exact Frame.rfl _ _
    | with_reducible apply Frame.ite
    | with_reducible apply Frame.ite2
    | with_reducible apply Frame.comp (State.loopEnable_frame ..) (by decide)
    | with_reducible apply Frame.comp (State.regPut_frame ..) (by decide)
    | with_reducible apply Frame.wr (by decide)
    | (split <;> try (rename_i hq; have e := congrArg Prod.snd hq; dsimp only at e; subst e))
    | dsimp only
    | with_reducible intro _ _

theorem State.wrAfe_frame (s : State) (d : Fin 2) (o a v : Nat) : Frame 0x3fffffffe80700000000401 s (State.wrAfe s d o a v) := by
  unfold State.wrAfe
  repeat' first
    | with_reducible exact Frame.rfl _ _
    | with_reducible apply Frame.ite
    | with_reducible apply Frame.ite2
    | with_reducible apply Frame.nextOr
    | with_reducible apply Frame.comp (State.afeEnable_frame ..) (by decide)
    | with_reducible apply FrameO.comp (execCal_frame ..) (by decide)
    | with_reducible apply FrameO.comp (execSweep_frame ..) (by decide)
    | with_reducible apply FrameO.comp (execQreset_frame ..) (by decide)
    | with_reducible apply Frame.comp (State.regPut_frame ..) (by decide)
    | (split <;> try (rename_i hq; have e := congrArg Prod.snd hq; dsimp only at e; subst e))
    | dsimp only
    | with_reducible intro _ _

theorem State.wrFio_frame (s : State) (d o a v : Nat) : Frame 0x3fffffffe80000001000401 s (State.wrFio s d o a v) := by
  unfold State.wrFio
  repeat' first
    | with_reducible exact Frame.rfl _ _
    | with_reducible apply Frame.ite
    | with_reducible apply Frame.comp (State.causeClear_frame ..) (by decide)
    | with_reducible apply Frame.comp (State.aoutClear_frame ..) (by decide)
    | with_reducible apply Frame.comp (State.regPut_frame ..) (by decide)
    | (split <;> try (rename_i hq; have e := congrArg Prod.snd hq; dsimp only at e; subst e))
    | dsimp only
    | with_reducible intro _ _

theorem State.wrChn_frame (s : State) (a v : Nat) : Frame 0x3fffffffe00000001800001 s (State.wrChn s a v) := by
  unfold State.wrChn
  repeat' first
    | with_reducible exact Frame.rfl _ _
    | with_reducible apply Frame.ite
    | with_reducible apply Frame.ite2
    | with_reducible apply Frame.nextOr
    | with_reducible apply FrameO.comp (execChainReset_frame ..) (by decide)
    | with_reducible apply FrameO.comp (execResume_frame ..) (by decide)
    | with_reducible apply Frame.comp (State.regPut_frame ..) (by decide)
    | with_reducible apply Frame.wri (by decide)
    | (split <;> try (rename_i hq; have e := congrArg Prod.snd hq; dsimp only at e; subst e))
    | dsimp only
    | with_reducible intro _ _

theorem State.wrPool_frame (s : State) (a v : Nat) : Frame 0x3fffffffe00000000000001 s (State.wrPool s a v) := by
  unfold State.wrPool
  repeat' first
    | with_reducible exact Frame.rfl _ _
    | with_reducible apply Frame.ite
    | with_reducible apply Frame.ite2
    | with_reducible apply Frame.comp (State.regPut_frame ..) (by decide)
    | with_reducible apply Frame.comp (State.bufErr_frame ..) (by decide)
    | (split <;> try (rename_i hq; have e := congrArg Prod.snd hq; dsimp only at e; subst e))
    | dsimp only
    | with_reducible intro _ _

theorem State.wrCan_frame (s : State) (a v : Nat) : Frame 0x3fffffffe84000000000401 s (State.wrCan s a v) := by
  unfold State.wrCan
  repeat' first
    | with_reducible exact Frame.rfl _ _
    | with_reducible apply Frame.ite
    | with_reducible apply Frame.ite2
    | with_reducible apply Frame.nextOr
    | with_reducible apply Frame.comp (State.wrPool_frame ..) (by decide)
    | with_reducible apply FrameO.comp (execCanTxgo_frame ..) (by decide)
    | with_reducible apply FrameO.comp (execCanTxcancel_frame ..) (by decide)
    | with_reducible apply FrameO.comp (execCanLockclr_frame ..) (by decide)
    | with_reducible apply FrameO.comp (execControllerEnable_frame ..) (by decide)
    | with_reducible apply FrameO.comp (execRecover_frame ..) (by decide)
    | with_reducible apply Frame.comp (State.regPut_frame ..) (by decide)
    | (split <;> try (rename_i hq; have e := congrArg Prod.snd hq; dsimp only at e; subst e))
    | dsimp only
    | with_reducible intro _ _

theorem State.wrEth_frame (s : State) (a v : Nat) : Frame 0x3fffffffe88000000000401 s (State.wrEth s a v) := by
  unfold State.wrEth
  repeat' first
    | with_reducible exact Frame.rfl _ _
    | with_reducible apply Frame.ite
    | with_reducible apply Frame.ite2
    | with_reducible apply Frame.comp (State.mdioWrite_frame ..) (by decide)
    | with_reducible apply Frame.comp (State.ethCtrl_frame ..) (by decide)
    | with_reducible apply Frame.comp (State.ethPost_frame ..) (by decide)
    | with_reducible apply Frame.comp (State.regPut_frame ..) (by decide)
    | with_reducible apply Frame.wri (by decide)
    | (split <;> try (rename_i hq; have e := congrArg Prod.snd hq; dsimp only at e; subst e))
    | dsimp only
    | with_reducible intro _ _

theorem State.unitWrite_frame (s : State) (w a v : Nat) : Frame 0x3fffffffeffffe7afb30417 s (State.unitWrite s w a v) := by
  unfold State.unitWrite
  repeat' first
    | with_reducible exact Frame.rfl _ _
    | with_reducible apply Frame.ite
    | with_reducible apply Frame.ite2
    | with_reducible apply Frame.nextOr
    | with_reducible apply Frame.comp (State.wrSys_frame ..) (by decide)
    | with_reducible apply Frame.comp (State.wrTime_frame ..) (by decide)
    | with_reducible apply Frame.comp (State.wrHst_frame ..) (by decide)
    | with_reducible apply FrameO.comp (execPwrLatWrite_frame ..) (by decide)
    | with_reducible apply Frame.comp (State.regPut_frame ..) (by decide)
    | with_reducible apply Frame.comp (State.platCommand_frame ..) (by decide)
    | with_reducible apply Frame.comp (State.wrMem_frame ..) (by decide)
    | with_reducible apply Frame.comp (State.wrRec_frame ..) (by decide)
    | with_reducible apply Frame.comp (State.wrThm_frame ..) (by decide)
    | with_reducible apply Frame.comp (State.wrFan_frame ..) (by decide)
    | with_reducible apply Frame.comp (State.latchClear_frame ..) (by decide)
    | with_reducible apply Frame.comp (State.padRefresh_frame ..) (by decide)
    | with_reducible apply Frame.comp (State.wrStk_frame ..) (by decide)
    | with_reducible apply Frame.comp (State.wrTal_frame ..) (by decide)
    | with_reducible apply Frame.comp (State.portEnable_frame ..) (by decide)
    | with_reducible apply Frame.comp (State.wrTrn_frame ..) (by decide)
    | with_reducible apply Frame.comp (State.clsBanks_frame ..) (by decide)
    | with_reducible apply Frame.comp (State.sigEnable_frame ..) (by decide)
    | with_reducible apply Frame.comp (State.wrMsr_frame ..) (by decide)
    | with_reducible apply Frame.comp (State.wrLoop_frame ..) (by decide)
    | with_reducible apply Frame.comp (State.wrAfe_frame ..) (by decide)
    | with_reducible apply Frame.comp (State.wrFio_frame ..) (by decide)
    | with_reducible apply Frame.comp (State.wrChn_frame ..) (by decide)
    | with_reducible apply FrameO.comp (execSnapshotGo_frame ..) (by decide)
    | with_reducible apply FrameO.comp (execFixInjCommit_frame ..) (by decide)
    | with_reducible apply Frame.comp (State.wrCan_frame ..) (by decide)
    | with_reducible apply Frame.comp (State.wrEth_frame ..) (by decide)
    | with_reducible apply FrameO.comp (execSwitchover_frame ..) (by decide)
    | (split <;> try (rename_i hq; have e := congrArg Prod.snd hq; dsimp only at e; subst e))
    | dsimp only
    | with_reducible intro _ _

theorem State.regWrite_frame (s : State) (a v : Nat) : Frame 0x3fffffffeffffe7afb38417 s (State.regWrite s a v) := by
  unfold State.regWrite
  repeat' first
    | with_reducible exact Frame.rfl _ _
    | with_reducible apply Frame.ite
    | with_reducible apply Frame.ite2
    | with_reducible apply Frame.comp (State.evtClear_frame ..) (by decide)
    | with_reducible apply Frame.comp (State.evtEnable_frame ..) (by decide)
    | with_reducible apply Frame.comp (State.unitWrite_frame ..) (by decide)
    | fail_if_no_progress with_reducible apply Frame.put_host_heldLo _ (by decide)
    | (split <;> try (rename_i hq; have e := congrArg Prod.snd hq; dsimp only at e; subst e))
    | dsimp only
    | with_reducible intro _ _
    | fail_if_no_progress apply Frame.put_host_heldLo _ (by decide)

theorem State.absentWrite_frame (s : State) (a : Nat) : Frame 0x200000000000001 s (State.absentWrite s a) := by
  unfold State.absentWrite
  repeat' first
    | with_reducible exact Frame.rfl _ _
    | with_reducible apply Frame.ite
    | with_reducible apply Frame.ite2
    | with_reducible apply Frame.inc (by decide)
    | with_reducible apply Frame.wr (by decide)
    | (split <;> try (rename_i hq; have e := congrArg Prod.snd hq; dsimp only at e; subst e))
    | dsimp only
    | with_reducible intro _ _

theorem State.wordWrite_frame (s : State) (a v : Nat) : Frame 0x3fffffffeffffe7afb38417 s (State.wordWrite s a v) := by
  unfold State.wordWrite
  repeat' first
    | with_reducible exact Frame.rfl _ _
    | with_reducible apply Frame.ite
    | with_reducible apply Frame.comp (State.hostMemWrite_frame ..) (by decide)
    | with_reducible apply Frame.comp (State.absentWrite_frame ..) (by decide)
    | with_reducible apply Frame.comp (State.regWrite_frame ..) (by decide)
    | (split <;> try (rename_i hq; have e := congrArg Prod.snd hq; dsimp only at e; subst e))
    | dsimp only
    | with_reducible intro _ _

theorem execRegisterWrite_frame (addr size value : Nat) (s : State) : FrameO 0x3fffffffeffffe7afb38417 s (execRegisterWrite addr size value s) := by
  unfold execRegisterWrite
  repeat' first
    | with_reducible exact Frame.rfl _ _
    | with_reducible apply FrameO.powered
    | with_reducible apply FrameO.ok
    | with_reducible apply FrameO.next
    | with_reducible apply FrameO.ite
    | with_reducible apply Frame.ite
    | with_reducible apply Frame.ite2
    | with_reducible apply Frame.comp (State.hostMemWrite_frame ..) (by decide)
    | with_reducible apply Frame.comp (State.emit_frame ..) (by decide)
    | with_reducible apply Frame.comp (State.wordWrite_frame ..) (by decide)
    | with_reducible apply Frame.comp (State.regPut_frame ..) (by decide)
    | with_reducible apply Frame.comp (State.bufErr_frame ..) (by decide)
    | (split <;> try (rename_i hq; have e := congrArg Prod.snd hq; dsimp only at e; subst e))
    | dsimp only
    | with_reducible intro _ _

theorem execEventClear_frame (window : Fin 32) (mask : Word) (s : State) : FrameO 0x20000000200000000000001 s (execEventClear window mask s) := by
  unfold execEventClear
  repeat' first
    | with_reducible exact Frame.rfl _ _
    | with_reducible apply FrameO.powered
    | with_reducible apply FrameO.ok
    | with_reducible apply FrameO.next
    | with_reducible apply FrameO.ite
    | with_reducible apply Frame.ite
    | with_reducible apply Frame.ite2
    | with_reducible apply Frame.comp (State.absentWrite_frame ..) (by decide)
    | with_reducible apply Frame.comp (State.evtClear_frame ..) (by decide)
    | (split <;> try (rename_i hq; have e := congrArg Prod.snd hq; dsimp only at e; subst e))
    | dsimp only
    | with_reducible intro _ _

theorem execEventEnable_frame (window : Fin 32) (value : Word) (s : State) : FrameO 0x20000000280000000000401 s (execEventEnable window value s) := by
  unfold execEventEnable
  repeat' first
    | with_reducible exact Frame.rfl _ _
    | with_reducible apply FrameO.powered
    | with_reducible apply FrameO.ok
    | with_reducible apply FrameO.next
    | with_reducible apply FrameO.ite
    | with_reducible apply Frame.ite
    | with_reducible apply Frame.ite2
    | with_reducible apply Frame.comp (State.absentWrite_frame ..) (by decide)
    | with_reducible apply Frame.comp (State.evtEnable_frame ..) (by decide)
    | (split <;> try (rename_i hq; have e := congrArg Prod.snd hq; dsimp only at e; subst e))
    | dsimp only
    | with_reducible intro _ _

theorem State.readClear_frame (s : State) (a : Nat) : Frame 0x3fffffffe00000000000001 s (State.readClear s a) := by
  unfold State.readClear
  repeat' first
    | with_reducible exact Frame.rfl _ _
    | with_reducible apply Frame.ite
    | with_reducible apply Frame.ite2
    | with_reducible apply Frame.setReg (regOk_mono (regOk_all _) (by decide))
    | with_reducible apply Frame.foldl
    | with_reducible apply Frame.foldl2
    | (split <;> try (rename_i hq; have e := congrArg Prod.snd hq; dsimp only at e; subst e))
    | dsimp only
    | with_reducible intro _ _

theorem State.readEffect_frame (s : State) (a : Nat) : Frame 0x3fffffffe04100000004001 s (State.readEffect s a) := by
  unfold State.readEffect
  repeat' first
    | with_reducible exact Frame.rfl _ _
    | with_reducible apply Frame.ite
    | with_reducible apply Frame.ite2
    | with_reducible apply Frame.comp (State.readClear_frame ..) (by decide)
    | with_reducible apply Frame.comp (State.tsqPop_frame ..) (by decide)
    | with_reducible apply Frame.comp (State.recAdvance_frame ..) (by decide)
    | with_reducible apply Frame.comp (State.bufTouch_frame ..) (by decide)
    | fail_if_no_progress with_reducible apply Frame.put_host_latchHi _ (by decide)
    | (split <;> try (rename_i hq; have e := congrArg Prod.snd hq; dsimp only at e; subst e))
    | dsimp only
    | with_reducible intro _ _
    | fail_if_no_progress apply Frame.put_host_latchHi _ (by decide)

theorem State.regRead_frame (s : State) (a : Nat) : Frame 0x3fffffffe04100000004001 s (State.regRead s a).2 := by
  unfold State.regRead
  repeat' first
    | with_reducible exact Frame.rfl _ _
    | with_reducible apply Frame.ite
    | with_reducible apply Frame.ite2
    | with_reducible apply Frame.comp (State.readEffect_frame ..) (by decide)
    | (split <;> try (rename_i hq; have e := congrArg Prod.snd hq; dsimp only at e; subst e))
    | dsimp only
    | with_reducible intro _ _

theorem State.wordRead_frame (s : State) (a : Nat) : Frame 0x3fffffffe84100000004401 s (State.wordRead s a).2 := by
  unfold State.wordRead
  repeat' first
    | with_reducible exact Frame.rfl _ _
    | with_reducible apply Frame.ite
    | with_reducible apply Frame.ite2
    | with_reducible apply Frame.comp (State.hostMemRead_frame ..) (by decide)
    | with_reducible apply Frame.comp (State.regRead_frame ..) (by decide)
    | (split <;> try (rename_i hq; have e := congrArg Prod.snd hq; dsimp only at e; subst e))
    | dsimp only
    | with_reducible intro _ _

theorem execReadClear_frame (addr size : Nat) (s : State) : FrameO 0x3fffffffe84100000004401 s (execReadClear addr size s) := by
  unfold execReadClear
  repeat' first
    | with_reducible exact Frame.rfl _ _
    | with_reducible apply FrameO.powered
    | with_reducible apply FrameO.ok
    | with_reducible apply FrameO.next
    | with_reducible apply FrameO.ite
    | with_reducible apply Frame.ite
    | with_reducible apply Frame.ite2
    | with_reducible apply FrameO.comp (execDemandRead_frame ..) (by decide)
    | with_reducible apply Frame.comp (State.emit_frame ..) (by decide)
    | with_reducible apply Frame.comp (State.wordRead_frame ..) (by decide)
    | (split <;> try (rename_i hq; have e := congrArg Prod.snd hq; dsimp only at e; subst e))
    | dsimp only
    | with_reducible intro _ _

theorem State.spiError_frame (s : State) (status : Nat) : Frame 0x20000001080000000000401 s (State.spiError s status) := by
  unfold State.spiError
  repeat' first
    | with_reducible exact Frame.rfl _ _
    | with_reducible apply Frame.ite
    | with_reducible apply Frame.ite2
    | with_reducible apply Frame.comp (State.raise_frame ..) (by decide)
    | with_reducible apply Frame.inc (by decide)
    | with_reducible apply Frame.wr (by decide)
    | (split <;> try (rename_i hq; have e := congrArg Prod.snd hq; dsimp only at e; subst e))
    | dsimp only
    | with_reducible intro _ _

theorem State.spiReads_frame (n : Nat) (s : State) (a : Nat) : Frame 0x3fffffffe84100000004401 s (s.spiReads a n).2 := by
  induction n generalizing s a with
  | zero =>
    unfold State.spiReads
    repeat' first
      | with_reducible exact Frame.rfl _ _
      | with_reducible apply Frame.ite
      | with_reducible apply Frame.ite2
      | with_reducible apply Frame.comp (State.wordRead_frame ..) (by decide)
      | (split <;> try (rename_i hq; have e := congrArg Prod.snd hq; dsimp only at e; subst e))
      | dsimp only
      | with_reducible intro _ _
  | succ n ih =>
    unfold State.spiReads
    repeat' first
      | with_reducible apply Frame.comp (ih ..) (by decide)
      | with_reducible exact Frame.rfl _ _
      | with_reducible apply Frame.ite
      | with_reducible apply Frame.ite2
      | with_reducible apply Frame.comp (State.wordRead_frame ..) (by decide)
      | (split <;> try (rename_i hq; have e := congrArg Prod.snd hq; dsimp only at e; subst e))
      | dsimp only
      | with_reducible intro _ _

theorem State.spiWrites_frame (l : List Nat) (s : State) (a : Nat) : Frame 0x3fffffffeffffe7afb38417 s (s.spiWrites a l) := by
  induction l generalizing s a with
  | nil =>
    unfold State.spiWrites
    repeat' first
      | with_reducible exact Frame.rfl _ _
      | with_reducible apply Frame.ite
      | with_reducible apply Frame.ite2
      | with_reducible apply Frame.comp (State.wordWrite_frame ..) (by decide)
      | (split <;> try (rename_i hq; have e := congrArg Prod.snd hq; dsimp only at e; subst e))
      | dsimp only
      | with_reducible intro _ _
  | cons x l ih =>
    unfold State.spiWrites
    repeat' first
      | with_reducible apply Frame.comp (ih ..) (by decide)
      | with_reducible exact Frame.rfl _ _
      | with_reducible apply Frame.ite
      | with_reducible apply Frame.ite2
      | with_reducible apply Frame.comp (State.wordWrite_frame ..) (by decide)
      | (split <;> try (rename_i hq; have e := congrArg Prod.snd hq; dsimp only at e; subst e))
      | dsimp only
      | with_reducible intro _ _

theorem State.spiRead_frame (s : State) (status : Nat) : Frame 0x20000001080000000002401 s (State.spiRead s status) := by
  unfold State.spiRead
  repeat' first
    | with_reducible exact Frame.rfl _ _
    | with_reducible apply Frame.ite
    | with_reducible apply Frame.comp (State.spiError_frame ..) (by decide)
    | fail_if_no_progress with_reducible apply Frame.put_host_lastRead _ (by decide)
    | (split <;> try (rename_i hq; have e := congrArg Prod.snd hq; dsimp only at e; subst e))
    | dsimp only
    | with_reducible intro _ _
    | fail_if_no_progress apply Frame.put_host_lastRead _ (by decide)

theorem execReadWords_frame (addr : Word) (count : Fin 64) (timedOut : Bool) (s : State) : FrameO 0x3fffffffe84100000006401 s (execReadWords addr count timedOut s) := by
  unfold execReadWords
  repeat' first
    | with_reducible exact Frame.rfl _ _
    | with_reducible apply FrameO.powered
    | with_reducible apply FrameO.ok
    | with_reducible apply FrameO.next
    | with_reducible apply FrameO.ite
    | with_reducible apply Frame.ite
    | with_reducible apply Frame.ite2
    | with_reducible apply Frame.comp (State.emit_frame ..) (by decide)
    | with_reducible apply Frame.comp (State.spiRead_frame ..) (by decide)
    | with_reducible apply Frame.comp (State.spiReads_frame ..) (by decide)
    | (split <;> try (rename_i hq; have e := congrArg Prod.snd hq; dsimp only at e; subst e))
    | dsimp only
    | with_reducible intro _ _

theorem execWriteWords_frame (addr : Word) (words : List Word) (cut : Bool) (s : State) : FrameO 0x3fffffffeffffe7afb39417 s (execWriteWords addr words cut s) := by
  unfold execWriteWords
  repeat' first
    | with_reducible exact Frame.rfl _ _
    | with_reducible apply FrameO.powered
    | with_reducible apply FrameO.ok
    | with_reducible apply FrameO.next
    | with_reducible apply FrameO.ite
    | with_reducible apply Frame.ite
    | with_reducible apply Frame.ite2
    | with_reducible apply Frame.comp (State.spiWrites_frame ..) (by decide)
    | with_reducible apply Frame.comp (State.spiError_frame ..) (by decide)
    | fail_if_no_progress with_reducible apply Frame.put_host_lastWrite _ (by decide)
    | (split <;> try (rename_i hq; have e := congrArg Prod.snd hq; dsimp only at e; subst e))
    | dsimp only
    | with_reducible intro _ _
    | fail_if_no_progress apply Frame.put_host_lastWrite _ (by decide)

theorem execReadLastStatus_frame (s : State) : FrameO 0x80000000000000 s (execReadLastStatus s) := by
  unfold execReadLastStatus
  repeat' first
    | with_reducible exact Frame.rfl _ _
    | with_reducible apply FrameO.powered
    | with_reducible apply FrameO.ok
    | with_reducible apply FrameO.next
    | with_reducible apply FrameO.ite
    | with_reducible apply Frame.ite
    | with_reducible apply Frame.ite2
    | with_reducible apply Frame.comp (State.emit_frame ..) (by decide)
    | (split <;> try (rename_i hq; have e := congrArg Prod.snd hq; dsimp only at e; subst e))
    | dsimp only
    | with_reducible intro _ _

theorem execNoOperation_frame (s : State) : FrameO 0x0 s (execNoOperation s) := by
  unfold execNoOperation
  repeat' first
    | with_reducible exact Frame.rfl _ _
    | with_reducible apply FrameO.powered
    | with_reducible apply FrameO.ok
    | with_reducible apply FrameO.next
    | with_reducible apply FrameO.ite
    | with_reducible apply Frame.ite
    | (split <;> try (rename_i hq; have e := congrArg Prod.snd hq; dsimp only at e; subst e))
    | dsimp only
    | with_reducible intro _ _

theorem execUnknownCommand_frame (command : BitVec 8) (s : State) : FrameO 0x20000001080000000000401 s (execUnknownCommand command s) := by
  unfold execUnknownCommand
  repeat' first
    | with_reducible exact Frame.rfl _ _
    | with_reducible apply FrameO.powered
    | with_reducible apply FrameO.ok
    | with_reducible apply FrameO.next
    | with_reducible apply FrameO.ite
    | with_reducible apply Frame.ite
    | with_reducible apply Frame.ite2
    | with_reducible apply Frame.comp (State.raise_frame ..) (by decide)
    | with_reducible apply Frame.inc (by decide)
    | (split <;> try (rename_i hq; have e := congrArg Prod.snd hq; dsimp only at e; subst e))
    | dsimp only
    | with_reducible intro _ _

end Sys2Proof.Machine
end

