-- ==== Sys2Proof/Laws/FrameExec.lean ====
section
/-! SUPPORT. The frame of every command, and of a step. -/

namespace Sys2Proof.Machine

open Sys2Proof

/-- The parts that a command may change, as a mask. -/
def Instr.frameMask : Instr → Nat
  | .registerWrite _ _ _ => 0x3fffffffeffffe7afb38417
  | .readClear _ _ => 0x3fffffffe84100000004401
  | .memoryWrite _ _ _ => 0x20000208280000000000407
  | .demandRead _ _ => 0x20000008080000000000401
  | .eventClear _ _ => 0x20000000200000000000001
  | .eventEnable _ _ => 0x20000000280000000000401
  | .vectorUnmask _ _ _ => 0x80000000000700
  | .readWords _ _ _ => 0x3fffffffe84100000006401
  | .writeWords _ _ _ => 0x3fffffffeffffe7afb39417
  | .readLastStatus => 0x80000000000000
  | .noOperation => 0x0
  | .unknownCommand _ => 0x20000001080000000000401
  | .pcieLinkReset _ _ => 0x20000001080000000010f01
  | .dmaPost _ _ => 0x20000001080000000010401
  | .descriptorComplete _ _ _ => 0x20011219280024000010407
  | .kick _ => 0x1000000000020001
  | .watchdogPeriodWrite _ => 0x1000000000020001
  | .watchdogExpiry => 0x20000041080000002020401
  | .hostLostClear _ => 0x41000000000000001
  | .pwrLatWrite _ _ => 0x2000000000000001
  | .enterPowerState _ => 0x20801801080024000050401
  | .groupWake _ => 0x80000
  | .wakeComplete _ => 0xc00000004000000c0001
  | .powerOnReset _ _ _ => 0x3fffffffefffffffeffff9f
  | .warmReset _ _ => 0x3fffffffefffffffeffff9f
  | .sysReset _ => 0x100000
  | .unitReset _ => 0x3ebffffd6ffffc72fa10407
  | .unitResetComplete _ => 0x20000180280300000200401
  | .chainReset _ => 0x700040000000001800001
  | .linkTrainingComplete _ => 0x400000000000001800001
  | .outboundFrame _ => 0x300000080000002800001
  | .inboundFrame _ _ _ => 0x20400000081801000800401
  | .fieldDieFrameReceive _ _ _ => 0x203c00c0080700001800401
  | .inboundFrameSend _ => 0x80000001800000
  | .linkLost _ => 0x20400020080000000800401
  | .silenceTimeout _ => 0x300040000000001000001
  | .resume _ => 0x800000
  | .autoResume _ => 0x800000
  | .fclkStep => 0x480000000000001
  | .load _ => 0x2000000c080000380000407
  | .commit => 0x3effffdfaffffdff7810407
  | .amend _ => 0x2000000c080000380000407
  | .amendmentApply _ _ => 0x2effd7d68d7fd4624800401
  | .check _ => 0x2000000c080000380000407
  | .programA _ => 0x2000000c080000380000407
  | .programB _ => 0x2000000c080000380000407
  | .bootA _ => 0x2000000c080000380000407
  | .bootB _ => 0x2000000c080000380000407
  | .verifyA _ => 0x2000000c080000380000407
  | .verifyB _ => 0x2000000c080000380000407
  | .opUndefined _ => 0x2000000c080000380000407
  | .servoUpdate => 0x20000000880002000000491
  | .step => 0x200c02088a5cc6000000487
  | .timeHrefWrite _ => 0x800002000000011
  | .hpinEdge => 0x2000000000
  | .ppsEdge _ => 0x20001180080322000000401
  | .ppsPulseEnd _ => 0x20000180080302000000401
  | .trackingEpoch _ => 0x800008800004000000017
  | .acquisitionPass _ => 0x20800000080004000000401
  | .candidateExpiry => 0x800000000004000000001
  | .notchRelease _ _ => 0x800000000000000000001
  | .jammingIndicator _ => 0x20800000080004000000411
  | .fixEpoch _ => 0x21800001880006000010401
  | .spoofHoldEnd => 0x800002000000001
  | .spoofSuspectClear _ => 0x800000000000000000001
  | .reacquisitionBarEnd => 0x4000000000
  | .burstWake => 0x2000004000000001
  | .burstStart => 0x800000000004000000001
  | .burstEnd => 0x800002000004000000001
  | .snapshotGo _ => 0x800000000000000000001
  | .captureStart _ => 0x2000004000000001
  | .captureComplete _ => 0x20800009080004000010407
  | .fixInjCommit => 0x21000000080004000000401
  | .fixOutputElement => 0x1805000000000
  | .injStale => 0x20000000080004000000401
  | .fixlost => 0x20000000080004000000401
  | .packet _ _ => 0x20001800080020000000401
  | .portEnable _ _ => 0x800000020000000001
  | .idle _ => 0x20000000080020000000401
  | .frameStart _ => 0x20001000080020000000401
  | .frameEnd _ => 0x20001000080020000000401
  | .bandLine _ => 0x20001008080020000000407
  | .scanLineProcessed _ => 0x20001009080020000010401
  | .edgeTime _ => 0x20001000080020000000401
  | .resync _ => 0x1000000020000000001
  | .transitEnWrite _ _ => 0x20001000080020000000401
  | .pixelSnapshotGo _ _ => 0x1000000020000000001
  | .intake => 0x28000409091060000010407
  | .pairingWaitEnd _ => 0x28000409091040000010407
  | .dispatch _ => 0x20006409081040000010407
  | .featureComplete _ => 0x28006409091040000010407
  | .classifierResult _ => 0x28006409091040000010407
  | .stakeRequestEntry => 0x20000409080040000010407
  | .stakeReport => 0x20000409080040000010407
  | .exportComplete => 0x20000408080040000000407
  | .quarantineRelease _ => 0x20000400080040000000401
  | .subWindowEnd _ => 0x4000001841000000001
  | .stakeIntake => 0x300002080a00c0000000407
  | .fetch => 0x200002080800c0000000401
  | .offEdgeCommit _ => 0x80000000000
  | .timedPinEdge _ => 0x200003800803c0000000401
  | .valveLinkFrame _ => 0x200002000800c0000000401
  | .returnFrame _ _ => 0x20000200080080000000401
  | .vllost _ => 0x20000200080000000000401
  | .templateSubmit _ => 0x80000000000
  | .stkHGo => 0x200000080000000001
  | .engineDisable => 0x200003800803c0000000401
  | .vlEnableWrite _ _ => 0x200003800803c0000000401
  | .pinInputEdge _ _ _ _ => 0x20001180080320000000401
  | .gateEnd _ => 0x1901000000000
  | .pwmPulseStart _ => 0x20001180080320000000401
  | .pwmPulseEnd _ => 0x20000180080300000000401
  | .timestampQueueRead => 0x100080100000000001
  | .reflexInputChange _ _ => 0x20000180080300000000401
  | .fabricFlagChange _ => 0x20000180080300000000401
  | .stretchEnd _ => 0x20000180080300000000401
  | .latchReset _ _ => 0x20000180080300000000401
  | .channelDue _ => 0x200c0080080700000000401
  | .settlingExpiry _ => 0x200c0080080700000000401
  | .precisionResult _ _ _ _ _ => 0x200c0080081f01001000401
  | .fastSample _ _ _ _ => 0x200c0000080400001000401
  | .periodicChargeReset _ _ => 0x200c0000080400000000401
  | .thresholdChargeReset _ _ => 0x200c0000080400000000401
  | .qreset _ _ => 0x200c0000080400000000401
  | .chargeResetEnd _ _ => 0x400000000000
  | .sweep _ _ => 0xc0000000400000000001
  | .dwellEnd _ _ _ _ => 0x200c0000081c01000000401
  | .cableResetEnd _ => 0x200c0080080700000000401
  | .stepPulseEnd _ => 0x200c0080080700000000401
  | .calibration _ _ _ => 0x200c0080080700000000401
  | .cal _ => 0x400000000000
  | .portInput _ => 0x20008000080800000000401
  | .stationVisit _ => 0x20008008281841000000407
  | .rateGate _ _ => 0x20008008281841000000407
  | .tickClose => 0x20010009081801000010417
  | .classResultArrival => 0x10000001000000000001
  | .lossGroupEmit _ => 0x10000001801000000001
  | .close => 0x1000000000000
  | .totClr => 0x10000000000000000001
  | .lossClr => 0x10000000000000000001
  | .loopSample _ => 0x300200000e3801000000401
  | .debouncedChange _ _ _ => 0x300000000000001000001
  | .inputRepeat _ => 0x300000000000001000001
  | .wireBreak _ _ => 0x20300000080000001000401
  | .overCurrent _ => 0x20300000080000001000401
  | .switchThermalShutdown _ => 0x20300000080000001000401
  | .thermalRetry _ => 0x300000000000001000001
  | .openLoad _ _ => 0x20300000080000000000401
  | .shortVs _ => 0x20300000080000001000401
  | .underVoltage _ _ => 0x20300000080000001000401
  | .bankRestore _ _ => 0x20300000080000001000401
  | .bankWarn _ _ => 0x20300000080000000000401
  | .timeProportioningPeriod _ => 0x2000000
  | .faultClear _ _ _ => 0x20300000080000001000401
  | .openWire _ _ => 0x20300000080000000000401
  | .overload _ _ => 0x20300000080000000000401
  | .fanUpdate _ => 0x20000040080000004000401
  | .tachEdge _ => 0x40000000004000001
  | .pronkEnd _ => 0x20000040080000004000401
  | .stallOffEnd _ => 0x40000000004000001
  | .tachLost _ => 0x20000040080000004000401
  | .pronk _ => 0x40000000004000001
  | .learn _ => 0x40000000004000001
  | .learnHoldEnd _ => 0x20000040080000004000401
  | .stallLatchedClear _ => 0x40000000004000001
  | .tachLostClear _ => 0x40000000004000001
  | .sensorSample _ _ _ => 0x203001fc480318089c00c07
  | .holdExpiry _ => 0x20000020480000008000401
  | .floorExpiry _ => 0x20000020480000008000401
  | .graceEnd => 0x20000020480000000000401
  | .accept => 0x20000020480000000000401
  | .sensfailClear _ => 0x20000020480000008000401
  | .frameReceived _ _ _ => 0x22000000085801000000411
  | .protocolException _ => 0x22000000084000000000401
  | .frameLoad _ => 0x2000000084000000000001
  | .txDone _ _ _ => 0x22000000084000000000401
  | .arbitrationLost _ => 0x22000000084000000000401
  | .errorFrame _ _ _ _ => 0x22000000084000000000401
  | .canTxgo _ => 0x2000000000000000000001
  | .canTxcancel _ => 0x22000000084000000000401
  | .canLockclr _ => 0x2000000004000000000001
  | .bufferLock _ => 0x2000000084000000000001
  | .bufferRelease _ => 0x2000000084000000000001
  | .lockTimeout _ => 0x2000000004000000000001
  | .atMissed _ => 0x22000000080000000000401
  | .periodicRequest _ => 0x2000000004000000000001
  | .recover _ => 0x2000000000000000000001
  | .recovered _ => 0x22000000080000000000401
  | .controllerEnable _ _ => 0x2000000004000000000001
  | .abdDwellTimeout _ => 0x22000000084000000000401
  | .ethFrameReceive _ _ _ _ => 0x2c000008098002000000417
  | .transmitPost _ _ => 0x24000008288000000000401
  | .transmitComplete _ => 0x2c000009098000000010407
  | .mdioTransaction _ => 0x4000000080000000000001
  | .mdioComplete _ => 0x4000000000000000000001
  | .syncSend => 0x28000000098000000000401
  | .gateControlInterval _ => 0x8000000000000
  | .announce => 0x10000000000000
  | .handoffFlush _ => 0x10000000000000
  | .handoffFrame => 0x28000001090040000010401
  | .heartbeat => 0xa0000000000010
  | .tieMessage _ _ => 0x303e03888a7fc6002000487
  | .outputMessage => 0xa0000000000000
  | .aliveOutToggle => 0x300003800a0300000000401
  | .roleDecision => 0x300003800a0300000000401
  | .primaryLost => 0x300003888a03c2000000407
  | .switchover => 0x20000000000000
  | .scrubRead _ => 0x20000008080008000000407
  | .leak _ => 0x8000008000000001
  | .memInit _ => 0x8000000000000001
  | .nvCommand _ => 0x8000008000000001
  | .nvWordComplete => 0x20000008080008000000407
  | .repair _ => 0x8000008000000001
  | .repairdone _ => 0x20000008080008000000441
  | .seriesSample _ => 0x10000010000000001
  | .periodicFlush => 0x20000010080018000000401
  | .pfail => 0x20000010080018000000401
  | .flush => 0x20000010080018000000401
  | .flushComplete => 0x20000018080010000000407
  | .dump => 0x20000019080000000010401
  | .clear _ => 0x10000010000000001
  | .operatingTimeTick => 0x10000010000000001
  | .windowRead => 0x10080000000000001
  | .ethLinkChange _ _ _ => 0x24000000080000000000401
  | .busIntegrationComplete _ => 0x2000000004000000000001
  | .fieldDieSupplyLoss _ => 0x300000000000001000001
  | .wireIntact _ _ => 0x300000000000000000001
  | .refOkChange _ _ => 0x200c0000080000000000401
  | .pfailRise => 0x10000000000
  | .aliveInEdge => 0x300003888a03c2000000407

/-- Every command keeps to its mask. -/
theorem exec_frame (c : Instr) (s : State) : FrameO (Instr.frameMask c) s (exec c s) := by
  cases c with
  | registerWrite _ _ _ => exact execRegisterWrite_frame _ _ _ _
  | readClear _ _ => exact execReadClear_frame _ _ _
  | memoryWrite _ _ _ => exact execMemoryWrite_frame _ _ _ _
  | demandRead _ _ => exact execDemandRead_frame _ _ _
  | eventClear _ _ => exact execEventClear_frame _ _ _
  | eventEnable _ _ => exact execEventEnable_frame _ _ _
  | vectorUnmask _ _ _ => exact execVectorUnmask_frame _ _ _ _
  | readWords _ _ _ => exact execReadWords_frame _ _ _ _
  | writeWords _ _ _ => exact execWriteWords_frame _ _ _ _
  | readLastStatus => exact execReadLastStatus_frame _
  | noOperation => exact execNoOperation_frame _
  | unknownCommand _ => exact execUnknownCommand_frame _ _
  | pcieLinkReset _ _ => exact execPcieLinkReset_frame _ _ _
  | dmaPost _ _ => exact execDmaPost_frame _ _ _
  | descriptorComplete _ _ _ => exact execDescriptorComplete_frame _ _ _ _
  | kick _ => exact execKick_frame _ _
  | watchdogPeriodWrite _ => exact execWatchdogPeriodWrite_frame _ _
  | watchdogExpiry => exact execWatchdogExpiry_frame _
  | hostLostClear _ => exact execHostLostClear_frame _ _
  | pwrLatWrite _ _ => exact execPwrLatWrite_frame _ _ _
  | enterPowerState _ => exact execEnterPowerState_frame _ _
  | groupWake _ => exact execGroupWake_frame _ _
  | wakeComplete _ => exact execWakeComplete_frame _ _
  | powerOnReset _ _ _ => exact execPowerOnReset_frame _ _ _ _
  | warmReset _ _ => exact execWarmReset_frame _ _ _
  | sysReset _ => exact execSysReset_frame _ _
  | unitReset _ => exact execUnitReset_frame _ _
  | unitResetComplete _ => exact execUnitResetComplete_frame _ _
  | chainReset _ => exact execChainReset_frame _ _
  | linkTrainingComplete _ => exact execLinkTrainingComplete_frame _ _
  | outboundFrame _ => exact execOutboundFrame_frame _ _
  | inboundFrame _ _ _ => exact execInboundFrame_frame _ _ _ _
  | fieldDieFrameReceive _ _ _ => exact execFieldDieFrameReceive_frame _ _ _ _
  | inboundFrameSend _ => exact execInboundFrameSend_frame _ _
  | linkLost _ => exact execLinkLost_frame _ _
  | silenceTimeout _ => exact execSilenceTimeout_frame _ _
  | resume _ => exact execResume_frame _ _
  | autoResume _ => exact execAutoResume_frame _ _
  | fclkStep => exact execFclkStep_frame _
  | load _ => exact execLoad_frame _ _
  | commit => exact execCommit_frame _
  | amend _ => exact execAmend_frame _ _
  | amendmentApply _ _ => exact execAmendmentApply_frame _ _ _
  | check _ => exact execCheck_frame _ _
  | programA _ => exact execProgramA_frame _ _
  | programB _ => exact execProgramB_frame _ _
  | bootA _ => exact execBootA_frame _ _
  | bootB _ => exact execBootB_frame _ _
  | verifyA _ => exact execVerifyA_frame _ _
  | verifyB _ => exact execVerifyB_frame _ _
  | opUndefined _ => exact execOpUndefined_frame _ _
  | servoUpdate => exact execServoUpdate_frame _
  | step => exact execStep_frame _
  | timeHrefWrite _ => exact execTimeHrefWrite_frame _ _
  | hpinEdge => exact execHpinEdge_frame _
  | ppsEdge _ => exact execPpsEdge_frame _ _
  | ppsPulseEnd _ => exact execPpsPulseEnd_frame _ _
  | trackingEpoch _ => exact execTrackingEpoch_frame _ _
  | acquisitionPass _ => exact execAcquisitionPass_frame _ _
  | candidateExpiry => exact execCandidateExpiry_frame _
  | notchRelease _ _ => exact execNotchRelease_frame _ _ _
  | jammingIndicator _ => exact execJammingIndicator_frame _ _
  | fixEpoch _ => exact execFixEpoch_frame _ _
  | spoofHoldEnd => exact execSpoofHoldEnd_frame _
  | spoofSuspectClear _ => exact execSpoofSuspectClear_frame _ _
  | reacquisitionBarEnd => exact execReacquisitionBarEnd_frame _
  | burstWake => exact execBurstWake_frame _
  | burstStart => exact execBurstStart_frame _
  | burstEnd => exact execBurstEnd_frame _
  | snapshotGo _ => exact execSnapshotGo_frame _ _
  | captureStart _ => exact execCaptureStart_frame _ _
  | captureComplete _ => exact execCaptureComplete_frame _ _
  | fixInjCommit => exact execFixInjCommit_frame _
  | fixOutputElement => exact execFixOutputElement_frame _
  | injStale => exact execInjStale_frame _
  | fixlost => exact execFixlost_frame _
  | packet _ _ => exact execPacket_frame _ _ _
  | portEnable _ _ => exact execPortEnable_frame _ _ _
  | idle _ => exact execIdle_frame _ _
  | frameStart _ => exact execFrameStart_frame _ _
  | frameEnd _ => exact execFrameEnd_frame _ _
  | bandLine _ => exact execBandLine_frame _ _
  | scanLineProcessed _ => exact execScanLineProcessed_frame _ _
  | edgeTime _ => exact execEdgeTime_frame _ _
  | resync _ => exact execResync_frame _ _
  | transitEnWrite _ _ => exact execTransitEnWrite_frame _ _ _
  | pixelSnapshotGo _ _ => exact execPixelSnapshotGo_frame _ _ _
  | intake => exact execIntake_frame _
  | pairingWaitEnd _ => exact execPairingWaitEnd_frame _ _
  | dispatch _ => exact execDispatch_frame _ _
  | featureComplete _ => exact execFeatureComplete_frame _ _
  | classifierResult _ => exact execClassifierResult_frame _ _
  | stakeRequestEntry => exact execStakeRequestEntry_frame _
  | stakeReport => exact execStakeReport_frame _
  | exportComplete => exact execExportComplete_frame _
  | quarantineRelease _ => exact execQuarantineRelease_frame _ _
  | subWindowEnd _ => exact execSubWindowEnd_frame _ _
  | stakeIntake => exact execStakeIntake_frame _
  | fetch => exact execFetch_frame _
  | offEdgeCommit _ => exact execOffEdgeCommit_frame _ _
  | timedPinEdge _ => exact execTimedPinEdge_frame _ _
  | valveLinkFrame _ => exact execValveLinkFrame_frame _ _
  | returnFrame _ _ => exact execReturnFrame_frame _ _ _
  | vllost _ => exact execVllost_frame _ _
  | templateSubmit _ => exact execTemplateSubmit_frame _ _
  | stkHGo => exact execStkHGo_frame _
  | engineDisable => exact execEngineDisable_frame _
  | vlEnableWrite _ _ => exact execVlEnableWrite_frame _ _ _
  | pinInputEdge _ _ _ _ => exact execPinInputEdge_frame _ _ _ _ _
  | gateEnd _ => exact execGateEnd_frame _ _
  | pwmPulseStart _ => exact execPwmPulseStart_frame _ _
  | pwmPulseEnd _ => exact execPwmPulseEnd_frame _ _
  | timestampQueueRead => exact execTimestampQueueRead_frame _
  | reflexInputChange _ _ => exact execReflexInputChange_frame _ _ _
  | fabricFlagChange _ => exact execFabricFlagChange_frame _ _
  | stretchEnd _ => exact execStretchEnd_frame _ _
  | latchReset _ _ => exact execLatchReset_frame _ _ _
  | channelDue _ => exact execChannelDue_frame _ _
  | settlingExpiry _ => exact execSettlingExpiry_frame _ _
  | precisionResult _ _ _ _ _ => exact execPrecisionResult_frame _ _ _ _ _ _
  | fastSample _ _ _ _ => exact execFastSample_frame _ _ _ _ _
  | periodicChargeReset _ _ => exact execPeriodicChargeReset_frame _ _ _
  | thresholdChargeReset _ _ => exact execThresholdChargeReset_frame _ _ _
  | qreset _ _ => exact execQreset_frame _ _ _
  | chargeResetEnd _ _ => exact execChargeResetEnd_frame _ _ _
  | sweep _ _ => exact execSweep_frame _ _ _
  | dwellEnd _ _ _ _ => exact execDwellEnd_frame _ _ _ _ _
  | cableResetEnd _ => exact execCableResetEnd_frame _ _
  | stepPulseEnd _ => exact execStepPulseEnd_frame _ _
  | calibration _ _ _ => exact execCalibration_frame _ _ _ _
  | cal _ => exact execCal_frame _ _
  | portInput _ => exact execPortInput_frame _ _
  | stationVisit _ => exact execStationVisit_frame _ _
  | rateGate _ _ => exact execRateGate_frame _ _ _
  | tickClose => exact execTickClose_frame _
  | classResultArrival => exact execClassResultArrival_frame _
  | lossGroupEmit _ => exact execLossGroupEmit_frame _ _
  | close => exact execClose_frame _
  | totClr => exact execTotClr_frame _
  | lossClr => exact execLossClr_frame _
  | loopSample _ => exact execLoopSample_frame _ _
  | debouncedChange _ _ _ => exact execDebouncedChange_frame _ _ _ _
  | inputRepeat _ => exact execInputRepeat_frame _ _
  | wireBreak _ _ => exact execWireBreak_frame _ _ _
  | overCurrent _ => exact execOverCurrent_frame _ _
  | switchThermalShutdown _ => exact execSwitchThermalShutdown_frame _ _
  | thermalRetry _ => exact execThermalRetry_frame _ _
  | openLoad _ _ => exact execOpenLoad_frame _ _ _
  | shortVs _ => exact execShortVs_frame _ _
  | underVoltage _ _ => exact execUnderVoltage_frame _ _ _
  | bankRestore _ _ => exact execBankRestore_frame _ _ _
  | bankWarn _ _ => exact execBankWarn_frame _ _ _
  | timeProportioningPeriod _ => exact execTimeProportioningPeriod_frame _ _
  | faultClear _ _ _ => exact execFaultClear_frame _ _ _ _
  | openWire _ _ => exact execOpenWire_frame _ _ _
  | overload _ _ => exact execOverload_frame _ _ _
  | fanUpdate _ => exact execFanUpdate_frame _ _
  | tachEdge _ => exact execTachEdge_frame _ _
  | pronkEnd _ => exact execPronkEnd_frame _ _
  | stallOffEnd _ => exact execStallOffEnd_frame _ _
  | tachLost _ => exact execTachLost_frame _ _
  | pronk _ => exact execPronk_frame _ _
  | learn _ => exact execLearn_frame _ _
  | learnHoldEnd _ => exact execLearnHoldEnd_frame _ _
  | stallLatchedClear _ => exact execStallLatchedClear_frame _ _
  | tachLostClear _ => exact execTachLostClear_frame _ _
  | sensorSample _ _ _ => exact execSensorSample_frame _ _ _ _
  | holdExpiry _ => exact execHoldExpiry_frame _ _
  | floorExpiry _ => exact execFloorExpiry_frame _ _
  | graceEnd => exact execGraceEnd_frame _
  | accept => exact execAccept_frame _
  | sensfailClear _ => exact execSensfailClear_frame _ _
  | frameReceived _ _ _ => exact execFrameReceived_frame _ _ _ _
  | protocolException _ => exact execProtocolException_frame _ _
  | frameLoad _ => exact execFrameLoad_frame _ _
  | txDone _ _ _ => exact execTxDone_frame _ _ _ _
  | arbitrationLost _ => exact execArbitrationLost_frame _ _
  | errorFrame _ _ _ _ => exact execErrorFrame_frame _ _ _ _ _
  | canTxgo _ => exact execCanTxgo_frame _ _
  | canTxcancel _ => exact execCanTxcancel_frame _ _
  | canLockclr _ => exact execCanLockclr_frame _ _
  | bufferLock _ => exact execBufferLock_frame _ _
  | bufferRelease _ => exact execBufferRelease_frame _ _
  | lockTimeout _ => exact execLockTimeout_frame _ _
  | atMissed _ => exact execAtMissed_frame _ _
  | periodicRequest _ => exact execPeriodicRequest_frame _ _
  | recover _ => exact execRecover_frame _ _
  | recovered _ => exact execRecovered_frame _ _
  | controllerEnable _ _ => exact execControllerEnable_frame _ _ _
  | abdDwellTimeout _ => exact execAbdDwellTimeout_frame _ _
  | ethFrameReceive _ _ _ _ => exact execEthFrameReceive_frame _ _ _ _ _
  | transmitPost _ _ => exact execTransmitPost_frame _ _ _
  | transmitComplete _ => exact execTransmitComplete_frame _ _
  | mdioTransaction _ => exact execMdioTransaction_frame _ _
  | mdioComplete _ => exact execMdioComplete_frame _ _
  | syncSend => exact execSyncSend_frame _
  | gateControlInterval _ => exact execGateControlInterval_frame _ _
  | announce => exact execAnnounce_frame _
  | handoffFlush _ => exact execHandoffFlush_frame _ _
  | handoffFrame => exact execHandoffFrame_frame _
  | heartbeat => exact execHeartbeat_frame _
  | tieMessage _ _ => exact execTieMessage_frame _ _ _
  | outputMessage => exact execOutputMessage_frame _
  | aliveOutToggle => exact execAliveOutToggle_frame _
  | roleDecision => exact execRoleDecision_frame _
  | primaryLost => exact execPrimaryLost_frame _
  | switchover => exact execSwitchover_frame _
  | scrubRead _ => exact execScrubRead_frame _ _
  | leak _ => exact execLeak_frame _ _
  | memInit _ => exact execMemInit_frame _ _
  | nvCommand _ => exact execNvCommand_frame _ _
  | nvWordComplete => exact execNvWordComplete_frame _
  | repair _ => exact execRepair_frame _ _
  | repairdone _ => exact execRepairdone_frame _ _
  | seriesSample _ => exact execSeriesSample_frame _ _
  | periodicFlush => exact execPeriodicFlush_frame _
  | pfail => exact execPfail_frame _
  | flush => exact execFlush_frame _
  | flushComplete => exact execFlushComplete_frame _
  | dump => exact execDump_frame _
  | clear _ => exact execClear_frame _ _
  | operatingTimeTick => exact execOperatingTimeTick_frame _
  | windowRead => exact execWindowRead_frame _
  | ethLinkChange _ _ _ => exact execEthLinkChange_frame _ _ _ _
  | busIntegrationComplete _ => exact execBusIntegrationComplete_frame _ _
  | fieldDieSupplyLoss _ => exact execFieldDieSupplyLoss_frame _ _
  | wireIntact _ _ => exact execWireIntact_frame _ _ _
  | refOkChange _ _ => exact execRefOkChange_frame _ _ _
  | pfailRise => exact execPfailRise_frame _
  | aliveInEdge => exact execAliveInEdge_frame _

end Sys2Proof.Machine
end

