-- ==== Sys2Proof/Laws/Mem.lean ====
section
/-! SUPPORT. The laws of the memory: a word reads back what was stored, every other byte stays. -/

namespace Sys2Proof.Machine

open Sys2Proof

/-- A byte outside the stored ones stays. -/
theorem cellGet_putBytes_ne (d : Nat → Byte) (n : Nat) : ∀ (m : List Host.Cell) (a v b : Nat), b < a ∨ a + n ≤ b →
    cellGet d (putBytes d m a v n) b = cellGet d m b := by
  induction n with
  | zero => intro m a v b _; rfl
  | succ n ih =>
    intro m a v b h
    unfold putBytes
    rw [ih _ _ _ _ (by omega), cellGet_cellPut_ne _ _ _ (by omega)]

/-- The bytes stored, lowest first. -/
theorem cellGet_putBytes (d : Nat → Byte) (n : Nat) : ∀ (m : List Host.Cell) (a v k : Nat), k < n →
    cellGet d (putBytes d m a v n) (a + k) = BitVec.ofNat 8 (v / 256 ^ k) := by
  induction n with
  | zero => intro m a v k h; omega
  | succ n ih =>
    intro m a v k h
    unfold putBytes
    cases k with
    | zero =>
      rw [cellGet_putBytes_ne _ _ _ _ _ _ (by omega), Nat.add_zero, cellGet_cellPut_same]
      simp
    | succ k =>
      rw [show a + (k + 1) = a + 1 + k by omega, ih _ _ _ _ (by omega), Nat.pow_succ', Nat.div_div_eq_div_mul]

/-- The number that the little-endian bytes of a number spell. -/
theorem leNat_bytes (n : Nat) : ∀ v : Nat,
    leNat ((List.range n).map (fun k => (BitVec.ofNat 8 (v / 256 ^ k)).toNat)) = v % 256 ^ n := by
  induction n with
  | zero => intro v; simp [leNat, Nat.mod_one]
  | succ n ih =>
    intro v
    rw [List.range_succ_eq_map, List.map_cons, List.map_map, leNat]
    have e : (List.range n).map ((fun k => (BitVec.ofNat 8 (v / 256 ^ k)).toNat) ∘ Nat.succ) =
        (List.range n).map (fun k => (BitVec.ofNat 8 (v / 256 / 256 ^ k)).toNat) := by
      refine List.map_congr_left fun k _ => ?_
      simp only [Function.comp_apply, Nat.succ_eq_add_one]
      rw [Nat.pow_succ', Nat.div_div_eq_div_mul]
    rw [e, ih]
    simp only [Nat.pow_zero, Nat.div_one, BitVec.toNat_ofNat]
    have h := Nat.mod_mul (x := v) (a := 256) (b := 256 ^ n)
    have e2 : 256 ^ (n + 1) = 256 * 256 ^ n := Nat.pow_succ'
    rw [e2, h]
    omega

/-- Memory and flipped bits after a word is stored. -/
theorem State.memPut_stores (s : State) (a v : Nat) : (s.memPut a v).mem = putBytes (memByte0 s.memEpoch) s.mem a v 8 ∧
    (s.memPut a v).memErr = cellPut (memFlips0 s.memEpoch) s.memErr (a / 8) 0 ∧ (s.memPut a v).memEpoch = s.memEpoch := by
  unfold State.memPut
  dsimp only
  split
  · refine ⟨?_, ?_, ?_⟩
    · exact (State.quarDel_frame _ _ _).1 .mem (by decide)
    · exact (State.quarDel_frame _ _ _).1 .memErr (by decide)
    · exact (State.quarDel_frame _ _ _).1 .memEpoch (by decide)
  · exact ⟨Eq.refl _, Eq.refl _, Eq.refl _⟩

/-- A word reads back what was stored. -/
theorem State.memWord_memPut (s : State) (a v : Nat) : (s.memPut a v).memWord a = v % 2 ^ 64 := by
  obtain ⟨h1, -, h3⟩ := State.memPut_stores s a v
  unfold State.memWord
  rw [h1, h3]
  have e : (List.range 8).map (fun k => (cellGet (memByte0 s.memEpoch) (putBytes (memByte0 s.memEpoch) s.mem a v 8) (a + k)).toNat) =
      (List.range 8).map (fun k => (BitVec.ofNat 8 (v / 256 ^ k)).toNat) :=
    List.map_congr_left fun k hk => by rw [cellGet_putBytes _ _ _ _ _ _ (List.mem_range.mp hk)]
  rw [e, leNat_bytes]
  norm_num

/-- A stored word has no flipped bit. -/
theorem State.memFlips_memPut (s : State) (a v : Nat) : (s.memPut a v).memFlips a = 0 := by
  obtain ⟨-, h2, h3⟩ := State.memPut_stores s a v
  unfold State.memFlips
  rw [h2, h3, cellGet_cellPut_same]

/-- A byte outside a stored word stays. -/
theorem State.memByte_memPut_ne (s : State) (a v : Nat) {b : Nat} (h : b < a ∨ a + 8 ≤ b) :
    (s.memPut a v).memByte b = s.memByte b := by
  obtain ⟨h1, -, h3⟩ := State.memPut_stores s a v
  unfold State.memByte
  rw [h1, h3, cellGet_putBytes_ne _ _ _ _ _ _ h]

theorem State.memWord_lt (s : State) (a : Nat) : s.memWord a < 2 ^ 64 := by
  have key : ∀ l : List Nat, leNat l < 256 ^ l.length := by
    intro l
    induction l with
    | nil => simp [leNat]
    | cons x l ih => rw [leNat, List.length_cons, Nat.pow_succ']; omega
  have := key ((List.range 8).map (fun k => (cellGet (memByte0 s.memEpoch) s.mem (a + k)).toNat))
  simpa [State.memWord] using this

end Sys2Proof.Machine
end

