-- ==== Sys2Proof/Laws/Reads.lean ====
section
/-! SUPPORT. What stays readable across a framed operation: a field outside a frame's mask, the words of other
windows, and what an event leaves alone. -/

namespace Sys2Proof.Machine

open Sys2Proof

/-- Every register of field `f` lies outside the parts of mask `m`. -/
def Fld.outside (f : Fld) (m : Nat) : Bool :=
  decide (0 < f.count ∧ 0 < f.count2 ∧ f.base / 0x10000 = f.last / 0x10000 ∧ f.base / 0x10000 < 32) &&
  !m.testBit (57 + f.base / 0x10000) && (decide (f.last % 0x10000 < 0xF00) || decide (0x1000 ≤ f.base % 0x10000))

theorem Frame.reg {m : Nat} {s t : State} (h : Frame m s t) {a : Nat} (w : a / 0x10000 < 32)
    (hm : m.testBit (57 + a / 0x10000) = false) (e : isEvt a = false) : t.reg a = s.reg a :=
  h.1 (.win ⟨a / 0x10000, w⟩) hm a (Eq.refl _) e

/-- A field outside the mask reads as before. -/
theorem Frame.rdij {m : Nat} {s t : State} (h : Frame m s t) {f : Fld} (hf : f.outside m = true) (i j : Nat) :
    t.rdij f i j = s.rdij f i j := by
  simp only [Fld.outside, Bool.and_eq_true, Bool.or_eq_true, decide_eq_true_eq, Bool.not_eq_true'] at hf
  obtain ⟨⟨⟨c, c2, e, l⟩, b⟩, d⟩ := hf
  have h1 := f.addr_le i j c c2
  have h2 := f.base_le_addr i j
  have ew : f.addr i j / 0x10000 = f.base / 0x10000 := by omega
  unfold State.rdij
  rw [h.reg (by omega) (by rw [ew]; exact b)]
  simp only [isEvt, Bool.and_eq_false_iff, decide_eq_false_iff_not]
  omega

theorem Frame.rdi {m : Nat} {s t : State} (h : Frame m s t) {f : Fld} (hf : f.outside m = true) (i : Nat) :
    t.rdi f i = s.rdi f i := h.rdij hf i 0

theorem Frame.rd {m : Nat} {s t : State} (h : Frame m s t) {f : Fld} (hf : f.outside m = true) :
    t.rd f = s.rd f := h.rdij hf 0 0

/-- An event leaves every field outside the event groups as it was. -/
theorem State.rdij_raise (s : State) (w e : Nat) (f : Fld) (i j : Nat) (hf : f.outside 0x20000000080000000000401 = true) :
    (s.raise w e).rdij f i j = s.rdij f i j := (State.raise_frame s w e).rdij hf i j

theorem State.rdij_raiseIf (s : State) (c : Bool) (w e : Nat) (f : Fld) (i j : Nat)
    (hf : f.outside 0x20000000080000000000401 = true) :
    (s.raiseIf c w e).rdij f i j = s.rdij f i j := (State.raiseIf_frame s c w e).rdij hf i j

end Sys2Proof.Machine
end

