-- ==== Sys2Proof/Tests/Slice0.lean ====
section
/-! SUPPORT. The model's own tests: small states, the well-formedness checks on ill-formed commands, a few commands on
examples and numbers of the spec, and for every statement with hypotheses operands and a state that meet them. -/

namespace Sys2Proof.Tests
open Sys2Proof Sys2Proof.Machine

set_option maxRecDepth 100000
set_option Elab.async false

/-- The state right after reset. -/
def t0 : State := State.reset
/-- A record of the kind of `c` with the given fields set, the others 0. -/
def trec (c : CRef) (l : List (CRef × Nat)) : CfgRec :=
  ⟨c.sect, c.kind, 0, l.foldl (fun v p => v.set p.1.field p.2) (List.replicate 40 0)⟩
/-- The state after reset with committed records. -/
def tcfg (l : List CfgRec) : State := { t0 with loader := { committed := true, recs := l } }
/-- The state at elapsed and device time `n`. -/
def tat (s : State) (n : Nat) : State := { s with clk := { s.clk with el := n, now := n } }
/-- An object at a stage. -/
def tobj (g : Stage) : Obj := { source := 0, stage := g }
/-- A herd of one object whose record is zeros. -/
def theld (n : Nat) (g : Stage) : State :=
  { t0 with
    tally := { herd := [(n, tobj g)] }
    mem := (List.range 64).map (fun k => (slotAddr n + k, 0))
    memErr := (List.range 8).map (fun k => (slotAddr n / 8 + k, 0)) }
/-- A transit with one summary for the tally engine. -/
def tallyFront : State := { t0 with pix := { trn := t0.pix.trn.set 7 { sums := [List.replicate 15 0] } } }
/-- What intake finds there. -/
def tallyIn : InObj := { source := 7, frag := some (List.replicate 14 0), sig := 0 }

/-! ## Well-formedness refuses an ill-formed command, one term per check -/

/-- A solution whose words are 20 zeros. -/
def solZero : FixSol := ⟨0, 4, List.replicate 20 0, 0⟩
/-- An empty fix epoch. -/
def obsZero : FixObs := ⟨[], [], [], [], []⟩
/-- An empty packet. -/
def pktZero : CsiPacket := ⟨false, 0, false, 0, 0, [], true, false⟩
/-- An empty CAN frame. -/
def canZero : CanFrame := ⟨0, false, false, false, 0, false, false, []⟩

theorem test_wf_bus : ∀ c ∈ [Instr.registerWrite 0x8000000 4 0, .registerWrite 0 3 0, .registerWrite 0 4 0x100000000,
    .readClear 0x8000000 4, .readClear 0 0, .memoryWrite 0x8000000 8 0, .memoryWrite 0x2000000 5 0,
    .memoryWrite 0x2000000 1 256, .demandRead 0x8000000 8, .demandRead 0 16,
    .writeWords 0 (List.replicate 65 0) false, .descriptorComplete 0 [256] none,
    .descriptorComplete 0 [] (some 0x10000)], c.wf = false := by decide
theorem test_wf_image : ∀ c ∈ [Instr.amendmentApply 65536 0, .amendmentApply 0 65536], c.wf = false := by decide
theorem test_wf_tracking : ∀ c ∈ [Instr.trackingEpoch ⟨[⟨96, true, true, 0, 0⟩], [], none, []⟩,
    .trackingEpoch ⟨[⟨0, true, true, 256, 0⟩], [], none, []⟩, .trackingEpoch ⟨[⟨0, true, true, 0, 256⟩], [], none, []⟩,
    .trackingEpoch ⟨[], [⟨256, 0, 0, List.replicate 40 0⟩], none, []⟩,
    .trackingEpoch ⟨[], [⟨0, 256, 0, List.replicate 40 0⟩], none, []⟩,
    .trackingEpoch ⟨[], [⟨0, 0, 256, List.replicate 40 0⟩], none, []⟩,
    .trackingEpoch ⟨[], [⟨0, 0, 0, List.replicate 39 0⟩], none, []⟩,
    .trackingEpoch ⟨[], [⟨0, 0, 0, List.replicate 40 256⟩], none, []⟩,
    .trackingEpoch ⟨[], [], none, [(2, 0, 0)]⟩, .trackingEpoch ⟨[], [], none, [(0, 4, 0)]⟩,
    .trackingEpoch ⟨[], [], none, [(0, 0, 0x100000000)]⟩], c.wf = false := by decide
theorem test_wf_acquisition : ∀ c ∈ [Instr.acquisitionPass [⟨256, 0, 0, 0, 0, 0, false⟩],
    .acquisitionPass [⟨0, 256, 0, 0, 0, 0, false⟩], .acquisitionPass [⟨0, 0, 256, 0, 0, 0, false⟩],
    .acquisitionPass [⟨0, 0, 0, 256, 0, 0, false⟩], .acquisitionPass [⟨0, 0, 0, 0, 256, 0, false⟩],
    .acquisitionPass [⟨0, 0, 0, 0, 0, 0x100000000, false⟩], .jammingIndicator [(0, 0), (0, 0), (0, 0)],
    .jammingIndicator [(0x100000000, 0)], .jammingIndicator [(0, 0x100000000)],
    .captureComplete [[0x100000000]]], c.wf = false := by decide
theorem test_wf_fix : ∀ c ∈ [Instr.fixEpoch { obsZero with tries := List.replicate 4 ⟨0, 0, solZero⟩ },
    .fixEpoch { obsZero with tries := [⟨0x100000000, 0, solZero⟩] }, .fixEpoch { obsZero with tries := [⟨0, 96, solZero⟩] },
    .fixEpoch { obsZero with tries := [⟨0, 0, { solZero with typ := 4 }⟩] },
    .fixEpoch { obsZero with tries := [⟨0, 0, { solZero with words := [] }⟩] },
    .fixEpoch { obsZero with tries := [⟨0, 0, { solZero with words := List.replicate 20 0x100000000 }⟩] },
    .fixEpoch { obsZero with meas := [⟨96, 0, 0, 0, 0, 0, 0⟩] }], c.wf = false := by decide
theorem test_wf_packet : ∀ c ∈ [Instr.packet 0 { pktZero with ecc := 3 }, .packet 0 { pktZero with vc := 4 },
    .packet 0 { pktZero with dt := 64 }, .packet 0 { pktZero with payload := [256] }], c.wf = false := by decide
theorem test_wf_packet_length : (Instr.packet 0 { pktZero with payload := List.replicate 65536 0 }).wf = false := by
  decide +kernel
theorem test_wf_frames : ∀ c ∈ [Instr.returnFrame 0 (List.replicate 14 0), .returnFrame 0 (List.replicate 15 256),
    .frameReceived 0 { canZero with id := 2048 } 0, .frameReceived 0 { canZero with xtd := true, id := 2 ^ 29 } 0,
    .frameReceived 0 { canZero with dlc := 16 } 0, .frameReceived 0 { canZero with data := List.replicate 65 0 } 0,
    .frameReceived 0 { canZero with data := [256] } 0, .ethFrameReceive 0 [256] true 0, .tieMessage [256] 0],
    c.wf = false := by decide
theorem test_wf_measured : ∀ c ∈ [Instr.precisionResult 0 0 0 0x100000000 true,
    .dwellEnd 0 (0x100000000, 0) (0, 0) false, .dwellEnd 0 (0, 0x100000000) (0, 0) false,
    .dwellEnd 0 (0, 0) (0x100000000, 0) false, .dwellEnd 0 (0, 0) (0, 0x100000000) false, .wireBreak 0 4096,
    .wireIntact 0 4096, .openLoad 0 4096, .underVoltage 0 65536, .bankRestore 0 65536, .bankWarn 0 65536,
    .openWire 0 0x100000000, .overload 0 0x100000000, .seriesSample 65536], c.wf = false := by decide
theorem test_wf_accepts : ∀ c ∈ [Instr.registerWrite 0x7FFFFFC 4 0xFFFFFFFF, .fixEpoch obsZero, .packet 1 pktZero,
    .frameReceived 3 { canZero with id := 2047 } 0, .returnFrame 3 (List.replicate 15 255), .noOperation],
    c.wf = true := by decide

/-! ## Numbers and examples of the spec -/

/-- No row of the table gives bits, so no word spells a command. -/
theorem test_no_word_spells_a_command : decodeTableWord 32 0x80 = none := by decide

/-- R85: the CRC-32C of the ASCII string "123456789" is 0xE3069283. -/
theorem test_crc32c_check_value : crc32c [0x31, 0x32, 0x33, 0x34, 0x35, 0x36, 0x37, 0x38, 0x39] = 0xE3069283 := by
  decide +kernel

/-- The worked example of R22: s = 7,930 and f = 8,000 in a frame whose comma arrives at 1,745,000,000,000,012,345 ns. -/
theorem test_field_sample_time : sampleTime 1745000000000012345 8000 7930 = 1745000000000009645 := by decide +kernel

/-- The worked example of R59: SYS_UNITS of a DV-9640 over HSPI is the bytes A5 7F 00 00 40 and the status 5A. -/
theorem test_hspi_reads_sys_units : (match exec (.readWords 8 0 false) { t0 with fuses := { variant := 0x40 } } with
    | .next t => t.out.head?
    | _ => none) = some (.hspi [0xA5, 0x7F, 0, 0, 0x40, 0x5A]) := by decide +kernel

/-- R4: a read of an absent window answers 0xAB5E0000 (window 14 of a DV-9630). -/
theorem test_absent_window_reads_absent : (match exec (.readClear 0xE0000 4) { t0 with fuses := { variant := 0x30 } } with
    | .next t => t.out.head?
    | _ => none) = some (.readData 0xE0000 0xAB5E0000) := by decide +kernel

/-- The silo site: a record for every group except G01, G10 and G11 on a DV-9630, and the tolerances of the example. -/
def silo : State :=
  { tcfg [⟨0x40, 0, 0, []⟩, ⟨0x110, 2, 0, []⟩, ⟨0x110, 4, 0, []⟩, ⟨0x100, 1, 0, []⟩, ⟨0xF0, 0, 0, []⟩, ⟨0x30, 1, 0, []⟩,
      trec C_CHANNEL_MODE [(C_CHANNEL_MODE, 1)], ⟨0x40, 2, 0, []⟩, ⟨0xB0, 0, 0, []⟩] with
    fuses := { variant := 0x30 } }

/-- The worked example of R73: the choice makes PWR_STATE read 0x01F8_013E. -/
theorem test_silo_power_states : ([(0, 100), (1, 0), (2, 2000000), (3, 0), (4, 20), (5, 0), (6, 0), (7, 0), (8, 0), (9, 60),
    (10, 0), (11, 0)].foldl (fun s p => s.wri PWR_LAT_LAT p.1 p.2) silo).pwrValue = 0x01F8013E := by decide +kernel

/-- R70: an expiry sets LOST, counts in EXPIRED and records the event. -/
theorem test_watchdog_expiry : (match exec .watchdogExpiry ((tat t0 500000000).wr HST_WD_PERIOD 500) with
    | .next t => (t.rd HST_LOST_LOST, t.rd HST_LOST_EXPIRED)
    | _ => (9, 9)) = (1, 1) := by decide +kernel

/-- R62, R64: a fresh event of an enabled bit whose vector is open sends its message; a cleared one does not. -/
theorem test_event_clear_w1c : (match exec (.eventClear 31 0x80000000) (t0.wri UNIT_EVT_EVT 31 0xC0000000) with
    | .next t => t.rdi UNIT_EVT_EVT 31
    | _ => 0) = 0x40000000 := by decide +kernel

/-- After a thermal halt the core answers no command (here one that would send its status). -/
theorem test_halted_core_is_silent : (match exec .readLastStatus { t0 with host := { halted := true } } with
    | .next t => t.out
    | _ => [.aliveOut true]) = [] := by decide +kernel

/-- R502, R504: one wrong bit of a word reads corrected (the word read back is the one stored). -/
theorem test_demand_read_corrects : (match exec (.demandRead 0x2000000 8)
    { t0 with mem := [(0x2000000, 0x55)] ++ (List.range 7).map (fun k => (0x2000001 + k, 0)), memErr := [(0x400000, 1)] } with
    | .next t => t.out.head?
    | _ => none) = some (.readData 0x2000000 0x55) := by decide +kernel

/-- R4: a write into an absent window leaves the registers and counts in SYS_ABSENT. -/
theorem test_absent_write_counts : (match exec (.registerWrite 0xE0000 4 1) { t0 with fuses := { variant := 0x30 } } with
    | .next t => t.rd SYS_ABSENT_WR_COUNT
    | _ => 9) = 1 := by decide +kernel

/-- The idle step passes one period of TCLK; a step with a command takes it from the front. -/
theorem test_step_takes_the_front : (match step { t0 with pending := [.noOperation, .pfail] } with
    | .next t => t.pending
    | _ => []) = [.pfail] := by decide +kernel

/-! ## Operands and states that meet the hypotheses of the statements -/

theorem wit_HostAccessesComplete :
    (∃ (a : Nat) (row : RegRow) (s : State), s.host.halted = false ∧ a % 4 = 0 ∧ a / 0x10000 ∈ [1, 16, 30] ∧ (a %
      0x10000 < 0xF00 ∨ 0x1000 ≤ a % 0x10000) ∧ regRow a = some row) ∧
    (∃ (a : Nat) (s : State), s.host.halted = false ∧ a % 4 = 0 ∧ a < 0x400000 ∧ s.absentAddr a = true) ∧
    (∃ (a : Nat) (n : Nat) (s : State), s.host.halted = false ∧ a < 0x400000 ∧ (accessOk a n = false ∨ s.reserved a
      = true)) ∧
    (∃ (a : Nat) (s : State), s.host.halted = false ∧ 0x400000 ≤ a) ∧
    (∃ (s : State), s.host.halted = false) ∧
    (∃ (a : Nat) (r : Nat) (s : State), s.host.halted = false ∧ a % 8 = 0 ∧ regionOf a = some r ∧ s.absentAddr a =
      false ∧ s.usable r = true ∧ r ≠ 6 ∧ (r = 1 → s.rd STK_CTRL_EN = 0)) ∧
    (∃ (a : Nat) (r : Nat) (s : State), s.host.halted = false ∧ a % 8 = 0 ∧ regionOf a = some r ∧ s.absentAddr a =
      false ∧ s.usable r = true ∧ s.memFlips a = 0) ∧
    (∃ (a : Nat) (r : Nat) (s : State), s.host.halted = false ∧ a % 8 = 0 ∧ regionOf a = some r ∧ s.absentAddr a =
      false ∧ s.usable r = true ∧ 2 < s.memFlips a) :=
  ⟨⟨0x10000, (regRow 0x10000).get (by decide), t0, by decide +kernel⟩,
   ⟨0xE0000, { t0 with fuses := { variant := 0x20 } }, by decide +kernel⟩,
   ⟨1, 4, t0, by decide +kernel⟩,
   ⟨0x400000, t0, by decide +kernel⟩,
   ⟨t0, by decide +kernel⟩,
   ⟨0xC00000, 1, t0, by decide +kernel⟩,
   ⟨0x4000000, 6, t0, by decide +kernel⟩,
   ⟨0x2000000, 0, { t0 with memErr := [(0x400000, 3)] }, by decide +kernel⟩⟩

theorem wit_EventAndVectorCommandsComplete :
    (∃ (w : Fin 32) (s : State), s.host.halted = false ∧ s.winPresent w.val = true) ∧
    (∃ (w : Fin 32) (v : Word) (c : Instr) (s : State), s.host.halted = false ∧ s.winPresent w.val = false ∧ (c =
      .eventClear w v ∨ c = .eventEnable w v)) ∧
    (∃ (s : State), s.host.halted = false) :=
  ⟨⟨31, t0, by decide +kernel⟩,
   ⟨14, 0, .eventClear 14 0, { t0 with fuses := { variant := 0x20 } }, by decide +kernel⟩,
   ⟨t0, by decide +kernel⟩⟩

theorem wit_HspiTransactionsComplete :
    (∃ (a : Word) (n : Fin 64) (s : State), s.host.halted = false ∧ s.spiCheck a.toNat (n.val + 1) = 0x5A ∧
      (s.spiReads a.toNat (n.val + 1)).1.any (·.isNone) = false) ∧
    (∃ (a : Word) (n : Fin 64) (late : Bool) (s : State), s.host.halted = false ∧ (late = true ∨ s.spiCheck a.toNat
      (n.val + 1) ≠ 0x5A)) ∧
    (∃ (s : State), s.host.halted = false) ∧
    (∃ (a : Word) (l : List Word) (s : State), s.host.halted = false ∧ s.spiCheck a.toNat l.length ≠ 0x5A) ∧
    (∃ (a : Word) (l : List Word) (s : State), s.host.halted = false ∧ s.spiCheck a.toNat l.length = 0x5A) ∧
    (∃ (c : BitVec 8) (s : State), s.host.halted = false ∧ spiKnown c.toNat = false) :=
  ⟨⟨8, 0, t0, by decide +kernel⟩,
   ⟨0, 0, true, t0, by decide +kernel⟩,
   ⟨t0, by decide +kernel⟩,
   ⟨1, [0], t0, by decide +kernel⟩,
   ⟨8, [0], t0, by decide +kernel⟩,
   ⟨0xFF, t0, by decide +kernel⟩⟩

theorem wit_DmaCommandsComplete :
    (∃ (n : Fin 8) (v : Word) (s : State), s.host.halted = false ∧ v.toNat < 256 ∧ s.postBad n.val v.toNat = false
      ∧ s.host.dma.length = 8) ∧
    (∃ (n : Fin 8) (v : Word) (s : State), s.host.halted = false ∧ (255 < v.toNat ∨ s.postBad n.val v.toNat =
      true)) ∧
    (∃ (d : Nat) (l : List Nat) (s : State), s.host.halted = false ∧ (s.dmaCh 7).posted = d :: l ∧
      s.host.dma.length = 8) ∧
    (∃ (n : Fin 8) (d : Nat) (l : List Nat) (s : State), s.host.halted = false ∧ n.val < 7 ∧ n.val ≠ 5 ∧ (s.dmaCh
      n.val).posted = d :: l ∧ (s.dmaCh n.val).ready ≠ [] ∧ s.host.dma.length = 8) ∧
    (∃ (n : Fin 8) (s : State), s.host.halted = false ∧ (s.dmaCh n.val).posted = [] ∧ (s.dmaCh n.val).ready = []) :=
  ⟨⟨0, 255, ((t0.setReg (descWord 255 4) 0x80000000).setReg (descWord 255 3) 8), by decide +kernel⟩,
   ⟨0, 256, t0, by decide +kernel⟩,
   ⟨0, [], { t0 with host := { dma := t0.host.dma.set 7 { posted := [0] } } }, by decide +kernel⟩,
   ⟨0, 0, [], { t0 with host := { dma := t0.host.dma.set 0 { posted := [0], ready := [[1]] } } }, by decide +kernel⟩,
   ⟨7, t0, by decide +kernel⟩⟩

theorem wit_WatchdogCommandsComplete :
    (∃ (v : Word) (s : State), s.host.halted = false ∧ v.toNat = 0x5A3C) ∧
    (∃ (v : Word) (s : State), s.host.halted = false ∧ v.toNat ≠ 0x5A3C) ∧
    (∃ (v : Word) (s : State), s.host.halted = false ∧ v.toNat % 65536 ≠ 0) ∧
    (∃ (v : Word) (s : State), s.host.halted = false ∧ v.toNat % 65536 = 0) ∧
    (∃ (s : State), s.host.halted = false ∧ s.rd HST_WD_PERIOD ≠ 0 ∧ s.host.wdStart + s.rd HST_WD_PERIOD * 1000000
      ≤ s.clk.el) ∧
    (∃ (v : Word) (s : State), s.host.halted = false ∧ bitAt v.toNat 0 = true ∧ s.rd HST_LOST_KICKED = 1) ∧
    (∃ (v : Word) (s : State), s.host.halted = false ∧ (bitAt v.toNat 0 = false ∨ s.rd HST_LOST_KICKED ≠ 1)) :=
  ⟨⟨0x5A3C, t0, by decide +kernel⟩,
   ⟨0, t0, by decide +kernel⟩,
   ⟨60001, t0, by decide +kernel⟩,
   ⟨65536, t0, by decide +kernel⟩,
   ⟨(tat t0 1000000).wr HST_WD_PERIOD 1, by decide +kernel⟩,
   ⟨1, t0.wr HST_LOST_KICKED 1, by decide +kernel⟩,
   ⟨0, t0, by decide +kernel⟩⟩

theorem wit_PowerCommandsComplete :
    (∃ (s : State), s.host.halted = false) ∧
    (∃ (g : Fin 12) (s : State), s.host.halted = false ∧ s.groupState g.val ≠ 0 ∧ assocGet s.host.asleep g.val =
      none ∧ assocGet s.host.wake g.val = none) ∧
    (∃ (g : Fin 12) (s : State), s.host.halted = false ∧ (assocGet s.host.asleep g.val).isSome = true ∧ assocGet
      s.host.wake g.val = none) ∧
    (∃ (g : Fin 12) (s : State), s.host.halted = false ∧ (assocGet s.host.wake g.val).isSome = true) :=
  ⟨⟨t0, by decide +kernel⟩,
   ⟨11, t0, by decide +kernel⟩,
   ⟨11, { t0 with host := { asleep := [(11, 3)] } }, by decide +kernel⟩,
   ⟨11, { t0 with host := { wake := [(11, 3)] } }, by decide +kernel⟩⟩

theorem wit_TimeCommandsComplete :
    (∃ (s : State), s.host.halted = false ∧ s.time.servoSec ≠ s.sec ∧ s.standby = false ∧ s.rd TIME_CTRL_FORCE_HOLD
      = 1 ∧ s.rd TIME_DATUM_STATE = 1) ∧
    (∃ (d : Int) (s : State), s.host.halted = false ∧ s.time.step = some d ∧ s.time.stepSec ≠ s.sec) ∧
    (∃ (tt : Nat) (e : Nat) (s : State), s.host.halted = false ∧ s.time.hpin = some (tt, e) ∧ s.clk.el ≤ e +
      1000000000 ∧ s.time.srcs.length = 3) ∧
    (∃ (s : State), s.host.halted = false ∧ (∀ tt e, s.time.hpin = some (tt, e) → e + 1000000000 < s.clk.el)) ∧
    (∃ (s : State), s.host.halted = false ∧ s.cv1 C_TIMEBASE_HPIN ≠ 0xFF) ∧
    (∃ (g : Fin 4) (r : CfgRec) (s : State), s.host.halted = false ∧ s.crec C_PPS_INDEX g.val = some r ∧ (listAt
      s.time.pps g.val {}).sec ≠ s.sec ∧ (listAt s.time.pps g.val {}).rise = none ∧ s.time.pps.length = 4) ∧
    (∃ (g : Fin 4) (e : Nat) (s : State), s.host.halted = false ∧ (listAt s.time.pps g.val {}).fall = some e ∧ e ≤
      s.clk.el) ∧
    (∃ (s : State), s.host.halted = false ∧ s.rd TIME_DATUM_SPOOF = 1 ∧ s.time.spoofUntil ≤ s.clk.el) :=
  ⟨⟨((tat t0 1000000000).wr TIME_CTRL_FORCE_HOLD 1).wr TIME_DATUM_STATE 1, by decide +kernel⟩,
   ⟨5, { tat t0 1000000000 with time := { step := some 5 } }, by decide +kernel⟩,
   ⟨0, 0, { tat t0 1000000000 with time := { hpin := some (0, 0) } }, by decide +kernel⟩,
   ⟨t0, by decide, fun _ _ h => nomatch h⟩,
   ⟨tcfg [trec C_TIMEBASE_HPIN []], by decide +kernel⟩,
   ⟨3, trec C_PPS_INDEX [(C_PPS_INDEX, 3)], tat (tcfg [trec C_PPS_INDEX [(C_PPS_INDEX, 3)]]) 1000000000, by decide +kernel⟩,
   ⟨3, 0, { t0 with time := { pps := [{}, {}, {}, { fall := some 0 }] } }, by decide +kernel⟩,
   ⟨t0.wr TIME_DATUM_SPOOF 1, by decide +kernel⟩⟩

theorem wit_GnssTrackingCommandsComplete :
    (∃ (s : State), s.host.halted = false ∧ s.gnsLive = true) ∧
    (∃ (h : Hypo) (c : Nat) (s : State), s.host.halted = false ∧ s.gnsLive = true ∧ h.confirmed = true ∧ (ofB32
      (s.cv1 C_TRACK_ACQ_THR)).lt (ofB32 h.power) = true ∧ s.signalOn h.signal = true ∧ s.gnsBarred h.signal h.svid
      = false ∧ (List.range 96).any (fun d => !s.chanFree d && s.rdi GNS_CH_SIGNAL d == h.signal && s.rdi
      GNS_CH_SVID d == h.svid) = false ∧ (List.range 96).find? (fun d => s.chanFree d) = some c) ∧
    (∃ (s : State), s.host.halted = false) ∧
    (∃ (b : Fin 2) (k : Fin 4) (s : State), s.host.halted = false ∧ listAt s.gns.notchAt (4 * b.val + k.val) 0 +
      1000000000 ≤ s.clk.el) ∧
    (∃ (s : State), s.host.halted = false ∧ s.gnsLive = true ∧ s.gns.epochMs ≠ s.clk.now / 1000000) ∧
    (∃ (s : State), s.host.halted = false ∧ s.gnsLive = true ∧ s.gns.jamAt + 100000000 ≤ s.clk.el) ∧
    (∃ (c : Fin 96) (s : State), s.host.halted = false ∧ s.rdi GNS_CH_SPOOF c.val = 1 ∧ (listAt s.gns.chans c.val
      {}).suspectAt + 60000000000 ≤ s.clk.el) :=
  ⟨⟨((tcfg [trec C_TRACK_SIGNALS [(C_TRACK_SIGNALS, 3)], trec C_GPORT_PORT []]).wr MEM_REGION_INIT 127), by decide +kernel⟩,
   ⟨⟨0, 0, 5, 0, 0, 0x42C80000, true⟩, 0, ((tcfg [trec C_TRACK_SIGNALS [(C_TRACK_SIGNALS, 3)], trec C_GPORT_PORT []]).wr MEM_REGION_INIT 127), by decide +kernel⟩,
   ⟨t0, by decide +kernel⟩,
   ⟨0, 0, tat t0 1000000000, by decide +kernel⟩,
   ⟨tat ((tcfg [trec C_TRACK_SIGNALS [(C_TRACK_SIGNALS, 3)], trec C_GPORT_PORT []]).wr MEM_REGION_INIT 127) 1000000, by decide +kernel⟩,
   ⟨tat ((tcfg [trec C_TRACK_SIGNALS [(C_TRACK_SIGNALS, 3)], trec C_GPORT_PORT []]).wr MEM_REGION_INIT 127) 100000000, by decide +kernel⟩,
   ⟨95, (tat t0 60000000000).wri GNS_CH_SPOOF 95 1, by decide +kernel⟩⟩

theorem wit_GnssBurstSnapshotAndFixCommandsComplete :
    (∃ (s : State), s.host.halted = false ∧ s.gnsOn = true ∧ s.bursting = true ∧ s.gns.burst = 0 ∧ 995000000 ≤
      s.subSec) ∧
    (∃ (s : State), s.host.halted = false ∧ s.gnsOn = true ∧ s.bursting = true ∧ s.gns.burst = 1 ∧ s.gns.burstSec ≠
      s.sec) ∧
    (∃ (s : State), s.host.halted = false ∧ s.gns.burst = 2 ∧ s.gns.burstEnd ≤ s.clk.el) ∧
    (∃ (s : State), s.host.halted = false ∧ s.winPresent 26 = true ∧ s.rd GNS_SNAP_GO = 0) ∧
    (∃ (s : State), s.host.halted = false ∧ s.rd GNS_SNAP_GO = 1 ∧ s.gns.snap = none ∧ s.rd GNS_SNAP_START = 0) ∧
    (∃ (c : GnsSnap) (s : State), s.host.halted = false ∧ s.gns.snap = some c ∧ c.el + s.rd GNS_SNAP_LEN * 1000000
      ≤ s.clk.el) ∧
    (∃ (s : State), s.host.halted = false ∧ s.fixOn = true ∧ s.gns.fixEpoch ≠ s.clk.now * s.fixRate / 1000000000) ∧
    (∃ (s : State), s.host.halted = false ∧ s.winPresent 27 = true ∧ s.injCause = 0) ∧
    (∃ (s : State), s.host.halted = false ∧ s.winPresent 27 = true ∧ s.injCause ≠ 0) ∧
    (∃ (s : State), s.host.halted = false ∧ s.fixOn = true ∧ s.gns.outEpoch ≠ s.clk.now * s.cv1 C_FIX_OUT_RATE /
      1000000000 ∧ (s.gns.inj.isSome = true ∨ s.gns.fresh = true) ) ∧
    (∃ (s : State), s.host.halted = false ∧ s.gns.inj.isSome = true ∧ s.injYoung = false ∧ s.gns.staleRaised =
      false) ∧
    (∃ (s : State), s.host.halted = false ∧ s.fixOn = true ∧ s.gns.lostRaised = false ∧ s.gns.lastFix + 3000000000
      ≤ s.clk.el) :=
  ⟨⟨tat (((tcfg [trec C_TRACK_SIGNALS [(C_TRACK_SIGNALS, 3)], trec C_GPORT_PORT []]).wr MEM_REGION_INIT 127).wr PWR_STATE_BURST 1) 995000000, by decide +kernel⟩,
   ⟨{ tat (((tcfg [trec C_TRACK_SIGNALS [(C_TRACK_SIGNALS, 3)], trec C_GPORT_PORT []]).wr MEM_REGION_INIT 127).wr PWR_STATE_BURST 1) 1000000000 with gns := { burst := 1 } }, by decide +kernel⟩,
   ⟨{ t0 with gns := { burst := 2 } }, by decide +kernel⟩,
   ⟨t0, by decide +kernel⟩,
   ⟨t0.wr GNS_SNAP_GO 1, by decide +kernel⟩,
   ⟨⟨0, 0, 0, 0, 0⟩, { tat t0 20000000 with gns := { snap := some ⟨0, 0, 0, 0, 0⟩ } }, by decide +kernel⟩,
   ⟨tat ((tcfg [trec C_FIX_RATE [(C_FIX_RATE, 1), (C_FIX_OUT_RATE, 1)]]).wr MEM_REGION_INIT 127) 1000000000, by decide +kernel⟩,
   ⟨t0, by decide +kernel⟩,
   ⟨tat (tcfg [trec C_FIX_RATE []]) 1, by decide +kernel⟩,
   ⟨{ tat ((tcfg [trec C_FIX_RATE [(C_FIX_RATE, 1), (C_FIX_OUT_RATE, 1)]]).wr MEM_REGION_INIT 127) 1000000000 with gns := { fresh := true } }, by decide +kernel⟩,
   ⟨{ tat (tcfg [trec C_FIX_RATE []]) 0 with gns := { inj := some [] } }, by decide +kernel⟩,
   ⟨tat ((tcfg [trec C_FIX_RATE [(C_FIX_RATE, 1), (C_FIX_OUT_RATE, 1)]]).wr MEM_REGION_INIT 127) 3000000000, by decide +kernel⟩⟩

theorem wit_MemoryUnitCommandsComplete :
    (∃ (r : Fin 7) (s : State), s.host.halted = false ∧ s.rdi MEM_SCRUB_EN r.val = 1 ∧ s.marked r.val = true ∧
      s.usable r.val = true ∧ ((r.val = 4 → s.is20 = false)) ∧ listAt s.memu.lastScrub r.val 0 + s.scrubNs r.val ≤
      s.clk.el ∧ s.rdi MEM_POS_WORD r.val + 1 < regionWords r.val) ∧
    (∃ (r : Fin 7) (s : State), s.host.halted = false ∧ s.rdi MEM_SCRUB_EN r.val = 1 ∧ s.marked r.val = true ∧
      s.usable r.val = true ∧ ((r.val = 4 → s.is20 = false)) ∧ listAt s.memu.lastScrub r.val 0 + s.scrubNs r.val ≤
      s.clk.el ∧ regionWords r.val ≤ s.rdi MEM_POS_WORD r.val + 1) ∧
    (∃ (r : Fin 7) (s : State), s.host.halted = false ∧ periodPassed (listAt s.memu.lastLeak r.val 0) s.clk.now (2
      ^ s.rdi MEM_BUCKET_LEAK_K r.val * 1000) = true) ∧
    (∃ (v : Word) (r : Fin 6) (s : State), s.host.halted = false ∧ bitAt v.toNat r.val = true ∧ s.usable r.val =
      true ∧ ((r.val = 4 → s.is20 = false))) ∧
    (∃ (v : Word) (s : State), s.host.halted = false ∧ bitAt v.toNat 0 = true ∧ bitsOf v.toNat 31 16 = 0x4E56 ∧
      s.rd MEM_NV_STAT_BUSY = 0 ∧ s.rd MEM_NV_ADDR_ADDR % 8 = 0 ∧ inHostArea (s.rd MEM_NV_ADDR_ADDR) = true ∧
      s.usable 6 = true ∧ s.memu.nvCur.isSome = true) ∧
    (∃ (v : Word) (s : State), s.host.halted = false ∧ bitAt v.toNat 0 = true ∧ s.rd MEM_NV_STAT_BUSY = 0 ∧ bitsOf
      v.toNat 31 16 ≠ 0x4E56) ∧
    (∃ (q : NvReq) (s : State), s.host.halted = false ∧ s.memu.nvCur = some q ∧ s.memu.nvq = [] ∧ s.usable 6 = true
      ∧ q.prio = 5) ∧
    (∃ (v : Word) (r : Nat) (m : Nat) (s : State), s.host.halted = false ∧ bitAt v.toNat 0 = true ∧ bitsOf v.toNat
      31 16 = 0xF5E1 ∧ s.rd MEM_REPAIR_STAT_BUSY = 0 ∧ regionOf (s.rd MEM_REPAIR_ADDR_ADDR) = some r ∧ macroOf
      (s.rd MEM_REPAIR_ADDR_ADDR) = some m ∧ s.usable r = true ∧ ((r = 4 → s.is20 = false)) ∧ assocGetD
      s.fuses.fieldRows m 0 < 2 ∧ s.thermalWarn = false) ∧
    (∃ (m : Nat) (s : State), s.host.halted = false ∧ s.memu.burn = some m) :=
  ⟨⟨6, tat ((t0.wri MEM_SCRUB_EN 6 1).wr MEM_REGION_INIT 127) 1000000000, by decide +kernel⟩,
   ⟨6, (tat ((t0.wri MEM_SCRUB_EN 6 1).wr MEM_REGION_INIT 127) 1000000000).wri MEM_POS_WORD 6 0x1FFFFF, by decide +kernel⟩,
   ⟨6, tat t0 1000000000000, by decide +kernel⟩,
   ⟨1, 0, t0, by decide +kernel⟩,
   ⟨0x4E560001, { (t0.wr MEM_NV_ADDR_ADDR 0x810000) with memu := { nvCur := some ⟨5, 0x4810000, 0⟩ } }, by decide +kernel⟩,
   ⟨1, t0, by decide +kernel⟩,
   ⟨⟨5, 0x4810000, 0⟩, { t0 with memu := { nvCur := some ⟨5, 0x4810000, 0⟩ } }, by decide +kernel⟩,
   ⟨0xF5E10001, 0, 0, t0.wr MEM_REPAIR_ADDR_ADDR 0x2000000, by decide +kernel⟩,
   ⟨0, { t0 with memu := { burn := some 0 } }, by decide +kernel⟩⟩

theorem wit_RecorderCommandsComplete :
    (∃ (s : State), s.host.halted = false ∧ s.rd REC_CTRL_EN = 1 ∧ s.spoor.lastSample + 1000000000 ≤ s.clk.el) ∧
    (∃ (s : State), s.host.halted = false ∧ s.spoor.optimeEl + 36000000000 ≤ s.clk.el) ∧
    (∃ (s : State), s.host.halted = false ∧ s.rd REC_CTRL_EN = 1 ∧ s.spoor.lastPeriodic + s.cv1 C_RECORDER_FLUSH_S
      * 1000000000 ≤ s.clk.el ∧ s.rd REC_STAT_DEGRADED = 0 ∧ s.spoor.flush = none ∧ s.flushOver 1 = false) ∧
    (∃ (s : State), s.host.halted = false ∧ s.spoor.pfailHigh = true ∧ s.spoor.pfailSince + 1000000000 ≤ s.clk.el ∧
      s.rd REC_STAT_DEGRADED = 0 ∧ s.spoor.flush = none ∧ s.flushOver 2 = false) ∧
    (∃ (s : State), s.host.halted = false ∧ s.spoor.pfailHigh = false) ∧
    (∃ (s : State), s.host.halted = false ∧ s.rd REC_STAT_DEGRADED = 0 ∧ s.spoor.flush = none ∧ s.flushOver 4 =
      false) ∧
    (∃ (f : Flush) (s : State), s.host.halted = false ∧ s.spoor.flush = some f ∧ s.recWordsLeft = false) ∧
    (∃ (s : State), s.host.halted = false) ∧
    (∃ (s : State), s.host.halted = false ∧ s.rd REC_STAT_DUMPING = 0) ∧
    (∃ (k : BitVec 16) (s : State), s.host.halted = false ∧ k.toNat = 0x5C0F) ∧
    (∃ (k : BitVec 16) (s : State), s.host.halted = false ∧ k.toNat ≠ 0x5C0F ) :=
  ⟨⟨(tat t0 1000000000).wr REC_CTRL_EN 1, by decide +kernel⟩,
   ⟨tat t0 36000000000, by decide +kernel⟩,
   ⟨(tat t0 100000000000000).wr REC_CTRL_EN 1, by decide +kernel⟩,
   ⟨{ tat t0 1000000000 with spoor := { pfailHigh := true } }, by decide +kernel⟩,
   ⟨t0, by decide +kernel⟩,
   ⟨t0, by decide +kernel⟩,
   ⟨⟨4, 0, []⟩, { t0 with spoor := { flush := some ⟨4, 0, []⟩ } }, by decide +kernel⟩,
   ⟨t0, by decide +kernel⟩,
   ⟨t0, by decide +kernel⟩,
   ⟨0x5C0F, t0, by decide +kernel⟩,
   ⟨0, t0, by decide +kernel⟩⟩

theorem wit_PixelAndTransitCommandsComplete :
    (∃ (n : Fin 2) (p : CsiPacket) (s : State), s.host.halted = false ∧ s.winPresent 14 = true ∧ s.rdi PIX_CTRL_EN
      n.val = 1 ∧ p.sot = true) ∧
    (∃ (n : Fin 2) (p : CsiPacket) (r : CfgRec) (s : State), s.host.halted = false ∧ s.winPresent 14 = true ∧ s.rdi
      PIX_CTRL_EN n.val = 1 ∧ p.sot = false ∧ p.ecc = 0 ∧ p.vcx = false ∧ s.boundTo n.val p.vc = some r ∧ p.dt =
      r.v C_STREAM_DT ∧ 0x10 ≤ p.dt ∧ p.dt ≠ 0x12 ∧ p.crcOk = true ∧ r.v C_STREAM_TRANSIT < s.pix.trn.length) ∧
    (∃ (s : State), s.host.halted = false ∧ s.winPresent 14 = true) ∧
    (∃ (n : Fin 2) (s : State), s.host.halted = false ∧ s.winPresent 14 = true ∧ s.rdi PIX_CTRL_EN n.val = 1 ∧
      s.pix.ports.length = 2 ∧ (listAt s.pix.ports n.val {}).idled = false ∧ (listAt s.pix.ports n.val {}).lastLong
      + 100000000 ≤ s.clk.el) ∧
    (∃ (n : Fin 8) (l : List PixItem) (s : State), s.host.halted = false ∧ (s.trn n.val).inq = .frameStart :: l ∧
      s.trnOn n.val = true) ∧
    (∃ (n : Fin 8) (l : List PixItem) (s : State), s.host.halted = false ∧ (s.trn n.val).inq = .frameEnd :: l) ∧
    (∃ (n : Fin 8) (px : List Nat) (l : List PixItem) (s : State), s.host.halted = false ∧ (s.trn n.val).inq =
      .band px :: l ∧ s.trnOn n.val = true ∧ s.rdi TRN_STAT_ALIGNED n.val = 0) ∧
    (∃ (n : Fin 8) (px : List Nat) (l : List PixItem) (s : State), s.host.halted = false ∧ (s.trn n.val).inq =
      .band px :: l ∧ s.trnOn n.val = true ∧ s.rdi TRN_STAT_ALIGNED n.val = 1) ∧
    (∃ (n : Fin 8) (e : Nat × Int) (l : List (Nat × Int)) (s : State), s.host.halted = false ∧ (s.trn n.val).edgeIn
      = e :: l) ∧
    (∃ (s : State), s.host.halted = false ∧ s.winPresent 15 = true) ∧
    (∃ (n : Fin 8) (v : Word) (s : State), s.host.halted = false ∧ s.winPresent 15 = true ∧ s.rdi TRN_SNAP_GO n.val
      = 0 ∧ bitAt v.toNat 31 = true) ∧
    (∃ (n : Fin 8) (x : TLine) (l : List TLine) (s : State), s.host.halted = false ∧ (s.trn n.val).lines = x :: l ∧
      s.trnOn n.val = true ∧ x.kind = 0 ∧ x.full = true ∧ x.ready ≤ s.clk.el) :=
  ⟨⟨1, ⟨true, 0, false, 0, 0, [], true, false⟩, (t0.wri PIX_CTRL_EN 1 1), by decide +kernel⟩,
   ⟨1, ⟨false, 0, false, 0, 0x2A, [], true, false⟩, trec C_STREAM_PORT [(C_STREAM_PORT, 1), (C_STREAM_DT, 0x2A), (C_STREAM_TRANSIT, 7)], (tcfg [trec C_STREAM_PORT [(C_STREAM_PORT, 1), (C_STREAM_DT, 0x2A), (C_STREAM_TRANSIT, 7)]]).wri PIX_CTRL_EN 1 1, by decide +kernel⟩,
   ⟨t0, by decide +kernel⟩,
   ⟨1, tat (t0.wri PIX_CTRL_EN 1 1) 100000000, by decide +kernel⟩,
   ⟨7, [], { ((tcfg [trec C_STREAM_PORT [(C_STREAM_PORT, 1), (C_STREAM_DT, 0x2A), (C_STREAM_TRANSIT, 7)]]).wri TRN_CTRL_EN 7 1).wr MEM_REGION_INIT 4 with pix := { trn := t0.pix.trn.set 7 { inq := [.frameStart] } } }, by decide +kernel⟩,
   ⟨7, [], { ((tcfg [trec C_STREAM_PORT [(C_STREAM_PORT, 1), (C_STREAM_DT, 0x2A), (C_STREAM_TRANSIT, 7)]]).wri TRN_CTRL_EN 7 1).wr MEM_REGION_INIT 4 with pix := { trn := t0.pix.trn.set 7 { inq := [.frameEnd] } } }, by decide +kernel⟩,
   ⟨7, [1], [], { ((tcfg [trec C_STREAM_PORT [(C_STREAM_PORT, 1), (C_STREAM_DT, 0x2A), (C_STREAM_TRANSIT, 7)]]).wri TRN_CTRL_EN 7 1).wr MEM_REGION_INIT 4 with pix := { trn := t0.pix.trn.set 7 { inq := [.band [1]] } } }, by decide +kernel⟩,
   ⟨7, [1], [], ({ ((tcfg [trec C_STREAM_PORT [(C_STREAM_PORT, 1), (C_STREAM_DT, 0x2A), (C_STREAM_TRANSIT, 7)]]).wri TRN_CTRL_EN 7 1).wr MEM_REGION_INIT 4 with pix := { trn := t0.pix.trn.set 7 { inq := [.band [1]] } } } : State).wri TRN_STAT_ALIGNED 7 1, by decide +kernel⟩,
   ⟨7, (1, 2), [], { ((tcfg [trec C_STREAM_PORT [(C_STREAM_PORT, 1), (C_STREAM_DT, 0x2A), (C_STREAM_TRANSIT, 7)]]).wri TRN_CTRL_EN 7 1).wr MEM_REGION_INIT 4 with pix := { trn := t0.pix.trn.set 7 { edgeIn := [(1, 2)] } } }, by decide +kernel⟩,
   ⟨t0, by decide +kernel⟩,
   ⟨7, 0x80000000, t0, by decide +kernel⟩,
   ⟨7, { num := 0, time := 0, sig := 0, est := false, k := 1, bank := 0, slot := 0, full := true }, [], { ((tcfg [trec C_STREAM_PORT [(C_STREAM_PORT, 1), (C_STREAM_DT, 0x2A), (C_STREAM_TRANSIT, 7)]]).wri TRN_CTRL_EN 7 1).wr MEM_REGION_INIT 4 with pix := { trn := t0.pix.trn.set 7 { lines := [{ num := 0, time := 0, sig := 0, est := false, k := 1, bank := 0, slot := 0, full := true }] } } }, by decide +kernel⟩⟩

theorem wit_TallyCommandsComplete :
    (∃ (q : Nat) (i : InObj) (s : State), s.host.halted = false ∧ ((List.range 10).map (fun k => (s.tally.rr + k) %
      10)).find? (fun p => (s.inFront p).isSome) = some q ∧ s.inFront q = some i ) ∧
    (∃ (n : Fin 524288) (o : Obj) (p : Nat) (prim : Bool) (till : Int) (w : List Nat) (s : State), s.host.halted =
      false ∧ s.obj n.val = some o ∧ o.stage = .openWait p prim till ∧ till ≤ (s.clk.now : Int) ∧ (s.recRead n.val
      o).1 = some w) ∧
    (∃ (r : StakeReq) (lead : Nat) (l : List (StakeReq × Nat)) (s : State), s.host.halted = false ∧ s.tally.held =
      (r, lead) :: l ∧ s.tally.fifo.length < 256 ∧ r.origin ≠ 0) ∧
    (∃ (p : StakeRep) (l : List StakeRep) (s : State), s.host.halted = false ∧ s.tally.reports = p :: l) ∧
    (∃ (n : Nat) (l : List Nat) (s : State), s.host.halted = false ∧ s.tally.exportQ = n :: l ∧ s.dmaWaiting 0 <
      s.tally.exportQ.length ∧ s.obj n = none) ∧
    (∃ (n : Fin 524288) (o : Obj) (till : Nat) (s : State), s.host.halted = false ∧ s.obj n.val = some o ∧ o.stage
      = .quarantined till ∧ till ≤ s.clk.el ∧ s.talCovered.contains n.val = false) :=
  ⟨⟨7, tallyIn, tallyFront, by decide, by decide, rfl⟩,
   ⟨524287, tobj (.openWait 0 true 0), 0, true, 0, [0, 0, 0, 0, 0, 0, 0, 0], theld 524287 (.openWait 0 true 0), by decide +kernel⟩,
   ⟨⟨0, 0, 1, 0, 1, 0, 0, false⟩, 0, [], { t0 with tally := { held := [(⟨0, 0, 1, 0, 1, 0, 0, false⟩, 0)] } }, by decide +kernel⟩,
   ⟨⟨0, 0, 0⟩, [], { t0 with tally := { reports := [⟨0, 0, 0⟩] } }, by decide +kernel⟩,
   ⟨0, [], { t0 with tally := { exportQ := [0] } }, by decide +kernel⟩,
   ⟨524287, tobj (.quarantined 0), 0, theld 524287 (.quarantined 0), by decide +kernel⟩⟩

theorem wit_StationCommandsComplete :
    (∃ (g : Fin 16) (n : Nat) (l : List Nat) (s : State), s.host.halted = false ∧ listAt s.tally.waits g.val [] = n
      :: l ∧ s.obj n = none) ∧
    (∃ (k : Fin 16) (v : Service) (s : State), s.host.halted = false ∧ (listAt s.tally.fst k.val {}).cur = some v ∧
      v.till ≤ s.clk.el) ∧
    (∃ (k : Fin 16) (v : Service) (m : CfgRec) (s : State), s.host.halted = false ∧ (listAt s.tally.cst k.val
      {}).cur = some v ∧ s.clsModel k.val = some m ∧ v.till ≤ s.clk.el) ∧
    (∃ (k : Fin 16) (r : CfgRec) (s : State), s.host.halted = false ∧ s.crec C_RATE_STATION k.val = some r ∧
      (listAt s.tally.rates k.val {}).till ≤ s.clk.el) :=
  ⟨⟨15, 3, [], { t0 with tally := { waits := t0.tally.waits.set 15 [3] } }, by decide +kernel⟩,
   ⟨15, { slot := 3, till := 0 }, { t0 with tally := { fst := t0.tally.fst.set 15 { cur := some { slot := 3, till := 0 } } } }, by decide +kernel⟩,
   ⟨15, { slot := 3, till := 0 }, trec C_MODEL_STATIONS [(C_MODEL_STATIONS, 0x8000)], { tcfg [trec C_MODEL_STATIONS [(C_MODEL_STATIONS, 0x8000)]] with tally := { cst := t0.tally.cst.set 15 { cur := some { slot := 3, till := 0 } } } }, by decide +kernel⟩,
   ⟨15, trec C_RATE_STATION [(C_RATE_STATION, 15), (C_RATE_WINDOW, 1000)], tcfg [trec C_RATE_STATION [(C_RATE_STATION, 15), (C_RATE_WINDOW, 1000)]], by decide +kernel⟩⟩

theorem wit_StakeOutCommandsComplete :
    (∃ (r : StakeReq) (l : List StakeReq) (s : State), s.host.halted = false ∧ s.stkSource = some 0 ∧ s.tally.fifo
      = r :: l ∧ s.standby = false) ∧
    (∃ (r : StakeReq) (l : List StakeReq) (s : State), s.host.halted = false ∧ s.stkSource = some 3 ∧ s.stk.host =
      r :: l) ∧
    (∃ (c : StkEnt) (s : State), s.host.halted = false ∧ earliestEnt s.stk.cal = some c ∧ c.st.time ≤ (s.clk.now :
      Int) + 64000 ∧ s.stk.nextFetch ≤ 2 * s.clk.el) ∧
    (∃ (p : Fin 64) (s : State), s.host.halted = false ∧ (s.target p.val).runs.any (fun r => !r.commit &&
      s.offCommitted p.val r) = true) ∧
    (∃ (p : Fin 64) (r : Run) (l : List Run) (s : State), s.host.halted = false ∧ (s.target p.val).runs = r :: l ∧
      r.placed = false ∧ r.on ≤ (s.clk.now : Int)) ∧
    (∃ (p : Fin 64) (r : Run) (l : List Run) (e : Int) (s : State), s.host.halted = false ∧ (s.target p.val).runs =
      r :: l ∧ r.placed = true ∧ r.off (s.minW p.val) = some e ∧ e ≤ (s.clk.now : Int)) ∧
    (∃ (i : Fin 16) (r : CfgRec) (w : Nat) (s : State), s.host.halted = false ∧ s.crec C_TEMPLATE_INDEX i.val =
      some r ∧ r.v C_TEMPLATE_PHASE ≤ s.clk.now + r.v C_TEMPLATE_LEAD ∧ s.stk.tmplK.length = 16 ∧ listAt
      s.stk.tmplK i.val none ≠ some ((s.clk.now + r.v C_TEMPLATE_LEAD - r.v C_TEMPLATE_PHASE) / (r.v
      C_TEMPLATE_PERIOD * 1000)) ∧ templateWidth r (assocGet s.sinks (2 * 256 + i.val)) = some w) ∧
    (∃ (s : State), s.host.halted = false) :=
  ⟨⟨⟨0, 0, 1, 0, 2, 0, 0, false⟩, [], { t0 with tally := { fifo := [⟨0, 0, 1, 0, 2, 0, 0, false⟩] } }, by decide +kernel⟩,
   ⟨⟨0, 0, 1, 0, 2, 0, 0, false⟩, [], { t0 with stk := { host := [⟨0, 0, 1, 0, 2, 0, 0, false⟩] } }, by decide +kernel⟩,
   ⟨⟨1, 0, ⟨0, 0, 1, 0, 2, 0, 0, false⟩⟩, { t0 with stk := { cal := [⟨1, 0, ⟨0, 0, 1, 0, 2, 0, 0, false⟩⟩] } }, by decide +kernel⟩,
   ⟨0, { t0 with stk := { targets := [(0, { runs := [{ on := 0, stop := some 0, order := 0 }] })] } }, by decide +kernel⟩,
   ⟨0, { on := 0, stop := none, order := 0 }, [], { t0 with stk := { targets := [(0, { runs := [{ on := 0, stop := none, order := 0 }] })] } }, by decide +kernel⟩,
   ⟨0, { on := 0, stop := some 0, order := 0, placed := true }, [], (Run.off { on := 0, stop := some 0, order := 0, placed := true } (t0.minW 0)).getD 0, { tat t0 1000000 with stk := { targets := [(0, { runs := [{ on := 0, stop := some 0, order := 0, placed := true }] })] } }, by decide +kernel⟩,
   ⟨15, trec C_TEMPLATE_INDEX [(C_TEMPLATE_INDEX, 15), (C_TEMPLATE_PERIOD, 1), (C_TEMPLATE_MIN_WIDTH, 1), (C_TEMPLATE_MAX_WIDTH, 100)], 1, { tcfg [trec C_TEMPLATE_INDEX [(C_TEMPLATE_INDEX, 15), (C_TEMPLATE_PERIOD, 1), (C_TEMPLATE_MIN_WIDTH, 1), (C_TEMPLATE_MAX_WIDTH, 100)]] with sinks := [(2 * 256 + 15, 0x3F800000)] }, by decide +kernel⟩,
   ⟨t0, by decide +kernel⟩⟩

theorem wit_ValveLinkCommandsComplete :
    (∃ (l : Fin 4) (s : State), s.host.halted = false ∧ s.has C_VLINK_LINK l.val = true ∧ s.rdi VL_CTRL_EN l.val =
      1 ∧ s.stk.links.length = 4 ∧ (listAt s.stk.links l.val {}).last ≠ some (s.clk.now / 1000) ∧ s.standby =
      false) ∧
    (∃ (b : List Nat) (s : State), s.host.halted = false ∧ leAt b 13 2 ≠ crc16ccitt (slice b 0 13)) ∧
    (∃ (b : List Nat) (s : State), s.host.halted = false ∧ leAt b 13 2 = crc16ccitt (slice b 0 13)) ∧
    (∃ (l : Fin 4) (s : State), s.host.halted = false ∧ s.has C_VLINK_LINK l.val = true ∧ s.rdi VL_STAT_LOST l.val
      = 0 ∧ (listAt s.stk.links l.val {}).lastRet + 1000 * s.cv C_VLINK_RET_TIMEOUT l.val ≤ s.clk.el) ∧
    (∃ (s : State), s.host.halted = false) :=
  ⟨⟨3, (tcfg [trec C_VLINK_LINK [(C_VLINK_LINK, 3)]]).wri VL_CTRL_EN 3 1, by decide +kernel⟩,
   ⟨[0], t0, by decide +kernel⟩,
   ⟨List.replicate 13 0 ++ leBytes 2 (crc16ccitt (List.replicate 13 0)), t0, by decide +kernel⟩,
   ⟨3, tat ((tcfg [trec C_VLINK_LINK [(C_VLINK_LINK, 3)]]).wri VL_STAT_LOST 3 0) 1000000000, by decide +kernel⟩,
   ⟨t0, by decide +kernel⟩⟩

theorem wit_TimedPinAndReflexCommandsComplete :
    (∃ (p : Fin 64) (v : Bool) (w : Nat) (s : State), s.host.halted = false ∧ (s.pin p.val).seen ≠ v ∧ max 4 (s.cv
      C_PIN_GLITCH p.val) ≤ w ∧ s.tpin.pins.length = 64) ∧
    (∃ (p : Fin 64) (v : Bool) (w : Nat) (s : State), s.host.halted = false ∧ (s.pin p.val).seen ≠ v ∧ w < max 4
      (s.cv C_PIN_GLITCH p.val)) ∧
    (∃ (p : Fin 64) (r : CfgRec) (s : State), s.host.halted = false ∧ s.crec C_PIN_PIN p.val = some r ∧ 1 ≤ r.v
      C_PIN_MODE ∧ r.v C_PIN_MODE ≤ 3 ∧ (s.pin p.val).gateEl + r.v C_PIN_GATE_US * 1000 / 2 + (s.clk.now -
      s.clk.now / (r.v C_PIN_GATE_US * 1000) * (r.v C_PIN_GATE_US * 1000)) ≤ s.clk.el) ∧
    (∃ (p : Fin 64) (r : CfgRec) (s : State), s.host.halted = false ∧ s.crec C_PIN_PIN p.val = some r ∧ r.v
      C_PIN_MODE = 5 ∧ r.v C_PIN_PHASE ≤ s.clk.now ∧ (s.pin p.val).pStart = none ∧ s.tpin.pins.length = 64) ∧
    (∃ (p : Fin 64) (s : State), s.host.halted = false ∧ s.cv C_PIN_MODE p.val = 5 ∧ (s.pin p.val).pulse = true ∧
      (s.pin p.val).high < s.cv C_PIN_PERIOD p.val ∧ (s.pin p.val).pStartEl + (s.pin p.val).high ≤ s.clk.el) ∧
    (∃ (s : State), s.host.halted = false) ∧
    (∃ (s : State), s.host.halted = false ∧ s.tpin.pins.length = 64) ∧
    (∃ (k : Fin 64) (s : State), s.host.halted = false ∧ s.rfxOut k.val = true ∧ listAt s.rfx.stretch k.val 0 ≤
      s.clk.el) :=
  ⟨⟨63, true, 4, t0, by decide +kernel⟩,
   ⟨63, true, 3, t0, by decide +kernel⟩,
   ⟨63, trec C_PIN_PIN [(C_PIN_PIN, 63), (C_PIN_MODE, 3), (C_PIN_GATE_US, 1)], tat (tcfg [trec C_PIN_PIN [(C_PIN_PIN, 63), (C_PIN_MODE, 3), (C_PIN_GATE_US, 1)]]) 1000000, by decide +kernel⟩,
   ⟨63, trec C_PIN_PIN [(C_PIN_PIN, 63), (C_PIN_MODE, 5), (C_PIN_PERIOD, 1000)], tcfg [trec C_PIN_PIN [(C_PIN_PIN, 63), (C_PIN_MODE, 5), (C_PIN_PERIOD, 1000)]], by decide +kernel⟩,
   ⟨63, { tcfg [trec C_PIN_PIN [(C_PIN_PIN, 63), (C_PIN_MODE, 5), (C_PIN_PERIOD, 1000)]] with tpin := { pins := t0.tpin.pins.set 63 { pulse := true } } }, by decide +kernel⟩,
   ⟨t0, by decide +kernel⟩,
   ⟨t0, by decide +kernel⟩,
   ⟨63, { t0 with rfx := { outs := 2 ^ 63 } }, by decide +kernel⟩⟩

theorem wit_SignalAndMeasurementCommandsComplete :
    (∃ (n : Fin 96) (e : Elem) (l : List Elem) (s : State), s.host.halted = false ∧ assocGetD s.sig.way n.val [] =
      e :: l ∧ s.sigOn n.val = true ∧ (assocGetD s.sig.queue n.val []).length < 32) ∧
    (∃ (n : Fin 96) (e : Elem) (l : List Elem) (s : State), s.host.halted = false ∧ assocGetD s.sig.way n.val [] =
      e :: l ∧ s.sigOn n.val = true ∧ 32 ≤ (assocGetD s.sig.queue n.val []).length) ∧
    (∃ (n : Fin 96) (r : CfgRec) (e : Elem) (l : List Elem) (s : State), s.host.halted = false ∧ s.sigRec n.val =
      some r ∧ assocGetD s.sig.queue n.val [] = e :: l ∧ s.sigOn n.val = true) ∧
    (∃ (n : Fin 96) (k : Fin 4) (st : CfgRec) (r : CfgRec) (s : State), s.host.halted = false ∧ s.sigRec n.val =
      some st ∧ s.sigOp n.val k.val = some r ∧ r.v C_SIGNAL_OP_OP = 11 ∧ s.sigOn n.val = true ∧ (s.opSt n.val
      k.val).gate < s.clk.now / gateNs r) ∧
    (∃ (s : State), s.host.halted = false ∧ s.rd MSR_CTRL_EN ≠ 0 ∧ (s.crec1 C_YIELD_EN).isSome = true ∧ s.marked 3
      = true ∧ (s.msr.tick + 1) * s.gridNs + 1000000 ≤ s.clk.now) ∧
    (∃ (p : Nat) (c : Nat) (l : List (Nat × Option Nat)) (s : State), s.host.halted = false ∧ s.msr.results = (p,
      some c) :: l ∧ s.rd MSR_CTRL_EN ≠ 0) ∧
    (∃ (p : Nat) (l : List (Nat × Option Nat)) (s : State), s.host.halted = false ∧ s.msr.results = (p, none) :: l
      ∧ s.rd MSR_CTRL_EN ≠ 0) ∧
    (∃ (g : Fin 4) (r : CfgRec) (s : State), s.host.halted = false ∧ s.lossRec g.val = some r ∧ s.rd MSR_CTRL_EN ≠
      0 ∧ (listAt s.msr.rates g.val {}).till ≤ s.clk.el) ∧
    (∃ (s : State), s.host.halted = false) ∧
    (∃ (n : Fin 64) (r : CfgRec) (s : State), s.host.halted = false ∧ s.loopRec n.val = some r ∧ r.v C_LOOP_GROUP =
      255 ∧ s.loopEn n.val = true ∧ s.warmStandby = false ∧ s.loops.length = 64 ∧ headPhase r * 1000 ≤ s.clk.now ∧
      (s.clk.now - headPhase r * 1000) % (headPeriod r * 1000) ≤ s.clk.el ∧ (s.loop n.val).last + headPeriod r *
      1000 / 2 ≤ s.clk.el - (s.clk.now - headPhase r * 1000) % (headPeriod r * 1000)) :=
  ⟨⟨95, ⟨0, 0, 0⟩, [], { ((tcfg [trec C_SIGNAL_STATION_STATION [(C_SIGNAL_STATION_STATION, 95), (C_SIGNAL_STATION_NOPS, 1)], trec C_SIGNAL_OP_STATION [(C_SIGNAL_OP_STATION, 95), (C_SIGNAL_OP_SLOT, 3), (C_SIGNAL_OP_OP, 11)]]).wri SIG_CTRL_EN 2 0x80000000).wr MEM_REGION_INIT 8 with sig := { way := [(95, [⟨0, 0, 0⟩])] } }, by decide +kernel⟩,
   ⟨95, ⟨0, 0, 0⟩, [], { ((tcfg [trec C_SIGNAL_STATION_STATION [(C_SIGNAL_STATION_STATION, 95), (C_SIGNAL_STATION_NOPS, 1)], trec C_SIGNAL_OP_STATION [(C_SIGNAL_OP_STATION, 95), (C_SIGNAL_OP_SLOT, 3), (C_SIGNAL_OP_OP, 11)]]).wri SIG_CTRL_EN 2 0x80000000).wr MEM_REGION_INIT 8 with sig := { way := [(95, [⟨0, 0, 0⟩])], queue := [(95, List.replicate 32 ⟨0, 0, 0⟩)] } }, by decide +kernel⟩,
   ⟨95, trec C_SIGNAL_STATION_STATION [(C_SIGNAL_STATION_STATION, 95), (C_SIGNAL_STATION_NOPS, 1)], ⟨0, 0, 0⟩, [], { ((tcfg [trec C_SIGNAL_STATION_STATION [(C_SIGNAL_STATION_STATION, 95), (C_SIGNAL_STATION_NOPS, 1)], trec C_SIGNAL_OP_STATION [(C_SIGNAL_OP_STATION, 95), (C_SIGNAL_OP_SLOT, 3), (C_SIGNAL_OP_OP, 11)]]).wri SIG_CTRL_EN 2 0x80000000).wr MEM_REGION_INIT 8 with sig := { queue := [(95, [⟨0, 0, 0⟩])] } }, by decide +kernel⟩,
   ⟨95, 3, trec C_SIGNAL_STATION_STATION [(C_SIGNAL_STATION_STATION, 95), (C_SIGNAL_STATION_NOPS, 1)], trec C_SIGNAL_OP_STATION [(C_SIGNAL_OP_STATION, 95), (C_SIGNAL_OP_SLOT, 3), (C_SIGNAL_OP_OP, 11)], tat ({ ((tcfg [trec C_SIGNAL_STATION_STATION [(C_SIGNAL_STATION_STATION, 95), (C_SIGNAL_STATION_NOPS, 1)], trec C_SIGNAL_OP_STATION [(C_SIGNAL_OP_STATION, 95), (C_SIGNAL_OP_SLOT, 3), (C_SIGNAL_OP_OP, 11)]]).wri SIG_CTRL_EN 2 0x80000000).wr MEM_REGION_INIT 8 with sig := {  } }) 100000000000, by decide +kernel⟩,
   ⟨tat (((tcfg [trec C_YIELD_EN [(C_YIELD_GRID_MS, 10)]]).wr MSR_CTRL_EN 1).wr MEM_REGION_INIT 8) 11000000, by decide +kernel⟩,
   ⟨15, 15, [], { t0.wr MSR_CTRL_EN 1 with msr := { results := [(15, some 15)] } }, by decide +kernel⟩,
   ⟨15, [], { t0.wr MSR_CTRL_EN 1 with msr := { results := [(15, none)] } }, by decide +kernel⟩,
   ⟨3, trec C_LOSS_GROUP [(C_LOSS_GROUP, 3), (C_LOSS_WINDOW, 1000)], (tcfg [trec C_LOSS_GROUP [(C_LOSS_GROUP, 3), (C_LOSS_WINDOW, 1000)]]).wr MSR_CTRL_EN 1, by decide +kernel⟩,
   ⟨t0, by decide +kernel⟩,
   ⟨63, trec C_LOOP_LOOP [(C_LOOP_LOOP, 63), (C_LOOP_GROUP, 255), (C_LOOP_PERIOD, 100)], tat ((tcfg [trec C_LOOP_LOOP [(C_LOOP_LOOP, 63), (C_LOOP_GROUP, 255), (C_LOOP_PERIOD, 100)]]).wr LOOP_CTRL1_EN 0x80000000) 100000, by decide +kernel⟩⟩

theorem wit_DigitalFieldCommandsComplete :
    (∃ (ch : Fin 48) (s : State), s.diePresent (ch.val / 24) = true) ∧
    (∃ (ch : Fin 48) (s : State), s.diePresent (ch.val / 24) = true ∧ s.dies.length = 2 ∧ (s.die (ch.val /
      24)).repAt.length = 24 ∧ listAt (s.die (ch.val / 24)).repAt (ch.val % 24) 0 + 100000000 ≤ s.clk.el) ∧
    (∃ (ch : Fin 48) (c : Nat) (s : State), s.diePresent (ch.val / 24) = true ∧ c < 20 ∧ s.dieDio (ch.val / 24)
      (ch.val % 24) C_DIO_WB_EN = 1 ∧ s.dioOut (ch.val / 24) (ch.val % 24) = false ∧ s.bankLow (ch.val / 24)
      (ch.val % 24) = false) ∧
    (∃ (ch : Fin 48) (c : Nat) (s : State), s.diePresent (ch.val / 24) = true ∧ 30 ≤ c ∧ c ≤ 150 ∧ s.dieDio (ch.val
      / 24) (ch.val % 24) C_DIO_WB_EN = 1 ∧ s.bankLow (ch.val / 24) (ch.val % 24) = false) ∧
    (∃ (ch : Fin 48) (s : State), s.diePresent (ch.val / 24) = true ∧ s.dioOn (ch.val / 24) (ch.val % 24) = true ∧
      s.dieDio (ch.val / 24) (ch.val % 24) C_DIO_OC_TIME ≠ 0) ∧
    (∃ (ch : Fin 48) (s : State), s.diePresent (ch.val / 24) = true ∧ s.dioOut (ch.val / 24) (ch.val % 24) = true) ∧
    (∃ (ch : Fin 48) (s : State), s.diePresent (ch.val / 24) = true ∧ s.rdij FIO_CH_TH_OFF (ch.val % 24) (ch.val /
      24) = 1) ∧
    (∃ (ch : Fin 48) (c : Nat) (s : State), s.diePresent (ch.val / 24) = true ∧ s.dioOut (ch.val / 24) (ch.val %
      24) = true ∧ s.dioOn (ch.val / 24) (ch.val % 24) = true ∧ s.dieDio (ch.val / 24) (ch.val % 24) C_DIO_OL_ON_EN
      = 1 ∧ c < s.dieDio (ch.val / 24) (ch.val % 24) C_DIO_OL_ON_MA) ∧
    (∃ (ch : Fin 48) (s : State), s.diePresent (ch.val / 24) = true ∧ s.dioOut (ch.val / 24) (ch.val % 24) = true ∧
      s.dioOn (ch.val / 24) (ch.val % 24) = false ∧ s.dieDio (ch.val / 24) (ch.val % 24) C_DIO_PARTNER_DRIVE = 0 ∧
      listAt (s.die (ch.val / 24)).offAt (ch.val % 24) 0 + 600000 ≤ s.clk.el) ∧
    (∃ (ch : Fin 48) (s : State), s.diePresent (ch.val / 24) = true ∧ s.dioOut (ch.val / 24) (ch.val % 24) = true ∧
      s.dioOn (ch.val / 24) (ch.val % 24) = false ∧ s.dieDio (ch.val / 24) (ch.val % 24) C_DIO_PARTNER_DRIVE = 1) ∧
    (∃ (d : Fin 2) (s : State), s.host.halted = false ∧ s.winPresent (23 + d.val) = true) ∧
    (∃ (ch : Fin 48) (r : CfgRec) (s : State), s.host.halted = false ∧ s.crec C_DIO_CHANNEL ch.val = some r ∧ r.v
      C_DIO_DIR = 1 ∧ r.v C_DIO_SOURCE = 1 ∧ r.v C_DIO_OUT_MODE = 1 ∧ s.fio.length = 2 ∧ (listAt s.fio (ch.val /
      24) {}).tp.length = 24 ∧ (listAt (listAt s.fio (ch.val / 24) {}).tp (ch.val % 24) (0, 0)).1 ≠ s.clk.now /
      (r.v C_DIO_TP_PERIOD * 1000000)) :=
  ⟨⟨47, t0, by decide +kernel⟩,
   ⟨47, tat t0 100000000, by decide +kernel⟩,
   ⟨47, 19, (({ t0 with dies := [{}, { configured := true, cfg := [trec C_DIO_CHANNEL [(C_DIO_CHANNEL, 47), (C_DIO_WB_EN, 1)]], safe := false, dio := 0x800000 }] } : State)).wrij FIO_VBANK_VOLT 2 1 1400 |>.wrij FIO_VBANK_UV 2 1 0, by decide +kernel⟩,
   ⟨47, 150, ({ t0 with dies := [{}, { configured := true, cfg := [trec C_DIO_CHANNEL [(C_DIO_CHANNEL, 47), (C_DIO_WB_EN, 1)]], safe := false, dio := 0x800000 }] } : State).wrij FIO_VBANK_VOLT 2 1 1400 |>.wrij FIO_VBANK_UV 2 1 0, by decide +kernel⟩,
   ⟨47, ({ t0 with dies := [{}, { configured := true, cfg := [trec C_DIO_CHANNEL [(C_DIO_CHANNEL, 47), (C_DIO_DIR, 1), (C_DIO_OC_TIME, 1), (C_DIO_OL_ON_EN, 1), (C_DIO_OL_ON_MA, 5)]], safe := false, dio := 0x800000 }] } : State).wrij FIO_VBANK_UV 2 1 0, by decide +kernel⟩,
   ⟨47, ({ t0 with dies := [{}, { configured := true, cfg := [trec C_DIO_CHANNEL [(C_DIO_CHANNEL, 47), (C_DIO_DIR, 1), (C_DIO_OC_TIME, 1), (C_DIO_OL_ON_EN, 1), (C_DIO_OL_ON_MA, 5)]], safe := false, dio := 0x800000 }] } : State).wrij FIO_VBANK_UV 2 1 0, by decide +kernel⟩,
   ⟨47, t0.wrij FIO_CH_TH_OFF 23 1 1, by decide +kernel⟩,
   ⟨47, 4, ({ t0 with dies := [{}, { configured := true, cfg := [trec C_DIO_CHANNEL [(C_DIO_CHANNEL, 47), (C_DIO_DIR, 1), (C_DIO_OC_TIME, 1), (C_DIO_OL_ON_EN, 1), (C_DIO_OL_ON_MA, 5)]], safe := false, dio := 0x800000 }] } : State).wrij FIO_VBANK_UV 2 1 0, by decide +kernel⟩,
   ⟨47, tat ({ t0 with dies := [{}, { configured := true, cfg := [trec C_DIO_CHANNEL [(C_DIO_CHANNEL, 47), (C_DIO_DIR, 1)]], safe := false }] }) 600000, by decide +kernel⟩,
   ⟨47, { t0 with dies := [{}, { configured := true, cfg := [trec C_DIO_CHANNEL [(C_DIO_CHANNEL, 47), (C_DIO_DIR, 1), (C_DIO_PARTNER_DRIVE, 1)]], safe := false }] }, by decide +kernel⟩,
   ⟨1, t0, by decide +kernel⟩,
   ⟨47, trec C_DIO_CHANNEL [(C_DIO_CHANNEL, 47), (C_DIO_DIR, 1), (C_DIO_SOURCE, 1), (C_DIO_OUT_MODE, 1), (C_DIO_TP_PERIOD, 1)], tat (tcfg [trec C_DIO_CHANNEL [(C_DIO_CHANNEL, 47), (C_DIO_DIR, 1), (C_DIO_SOURCE, 1), (C_DIO_OUT_MODE, 1), (C_DIO_TP_PERIOD, 1)]]) 1000000, by decide +kernel⟩⟩

theorem wit_BankAndAnalogueFieldCommandsComplete :
    (∃ (b : Fin 6) (v : Nat) (s : State), s.diePresent (b.val / 3) = true ∧ v < 1400) ∧
    (∃ (b : Fin 6) (v : Nat) (s : State), s.diePresent (b.val / 3) = true ∧ 1600 < v ∧ s.rdij FIO_VBANK_UV (b.val %
      3) (b.val / 3) = 1) ∧
    (∃ (b : Fin 6) (v : Nat) (s : State), s.diePresent (b.val / 3) = true ∧ v < 1800) ∧
    (∃ (b : Fin 6) (v : Nat) (s : State), s.diePresent (b.val / 3) = true ∧ 1900 < v) ∧
    (∃ (a : Fin 8) (rb : Nat) (r : CfgRec) (s : State), s.dieAout (a.val / 4) (a.val % 4) = some r ∧ s.diePresent
      (a.val / 4) = true ∧ r.v C_AOUT_MODE ≠ 0 ∧ r.v C_AOUT_OPEN_EN = 1 ∧ (FV.ofInt 1).le (aoutValue (r.v
      C_AOUT_MODE) (s.rdij FIO_AOUTSTAT_CODE (a.val % 4) (a.val / 4))) = true ∧ (FV.dec f32 5 1).lt (FV.sub f32
      (aoutValue (r.v C_AOUT_MODE) (s.rdij FIO_AOUTSTAT_CODE (a.val % 4) (a.val / 4))) (ofB32 rb)) = true) ∧
    (∃ (a : Fin 8) (r : CfgRec) (s : State), s.dieAout (a.val / 4) (a.val % 4) = some r ∧ r.v C_AOUT_MODE = 0) ∧
    (∃ (a : Fin 8) (rb : Nat) (r : CfgRec) (s : State), s.dieAout (a.val / 4) (a.val % 4) = some r ∧ s.diePresent
      (a.val / 4) = true ∧ r.v C_AOUT_MODE = 0 ∧ (FV.dec f32 1 1).lt (FV.sub f32 (aoutValue 0 (s.rdij
      FIO_AOUTSTAT_CODE (a.val % 4) (a.val / 4))) (ofB32 rb)).abs = true) ∧
    (∃ (a : Fin 8) (r : CfgRec) (s : State), s.dieAout (a.val / 4) (a.val % 4) = some r ∧ r.v C_AOUT_MODE ≠ 0) ∧
    (∃ (d : Fin 2) (s : State), s.diePresent d.val = true ∧ s.dies.length = 2) :=
  ⟨⟨5, 1399, t0, by decide +kernel⟩,
   ⟨5, 1601, t0.wrij FIO_VBANK_UV 2 1 1, by decide +kernel⟩,
   ⟨5, 1799, t0, by decide +kernel⟩,
   ⟨5, 1901, t0, by decide +kernel⟩,
   ⟨7, 0, trec C_AOUT_AOUT [(C_AOUT_AOUT, 7), (C_AOUT_MODE, 1), (C_AOUT_OPEN_EN, 1)], ({ t0 with dies := [{}, { configured := true, cfg := [trec C_AOUT_AOUT [(C_AOUT_AOUT, 7), (C_AOUT_MODE, 1), (C_AOUT_OPEN_EN, 1)]] }] } : State).wrij FIO_AOUTSTAT_CODE 3 1 57344, by decide +kernel⟩,
   ⟨7, trec C_AOUT_AOUT [(C_AOUT_AOUT, 7)], { t0 with dies := [{}, { configured := true, cfg := [trec C_AOUT_AOUT [(C_AOUT_AOUT, 7)]] }] }, by decide +kernel⟩,
   ⟨7, 0, trec C_AOUT_AOUT [(C_AOUT_AOUT, 7)], ({ t0 with dies := [{}, { configured := true, cfg := [trec C_AOUT_AOUT [(C_AOUT_AOUT, 7)]] }] } : State).wrij FIO_AOUTSTAT_CODE 3 1 64000, by decide +kernel⟩,
   ⟨7, trec C_AOUT_AOUT [(C_AOUT_AOUT, 7), (C_AOUT_MODE, 1)], { t0 with dies := [{}, { configured := true, cfg := [trec C_AOUT_AOUT [(C_AOUT_AOUT, 7), (C_AOUT_MODE, 1)]] }] }, by decide +kernel⟩,
   ⟨1, t0, by decide +kernel⟩⟩

theorem wit_PrecisionChannelCommandsComplete :
    (∃ (ch : Fin 32) (s : State), s.host.halted = false ∧ s.afe.length = 2 ∧ (s.afeD (ch.val / 16)).chans.length =
      16 ∧ s.diePresent (ch.val / 16) = true ∧ s.chanEn (ch.val / 16) (ch.val % 16) = true ∧ precisionMode (s.chanV
      (ch.val / 16) (ch.val % 16) C_CHANNEL_MODE) = true ∧ s.chanV (ch.val / 16) (ch.val % 16) C_CHANNEL_INTERVAL ≠
      0 ∧ (s.afeCh (ch.val / 16) (ch.val % 16)).dueIx < s.clk.now / (s.chanV (ch.val / 16) (ch.val % 16)
      C_CHANNEL_INTERVAL * 1000000)) ∧
    (∃ (ch : Fin 32) (s : State), s.host.halted = false ∧ s.settling (ch.val / 16) (ch.val % 16) = true ∧ (s.afeCh
      (ch.val / 16) (ch.val % 16)).settleTill ≤ s.clk.el) ∧
    (∃ (d : Fin 2) (a : Fin 2) (run : AdcRun) (r : CfgRec) (s : State), s.host.halted = false ∧ s.afe.length = 2 ∧
      (s.afeD d.val).adcs.length = 2 ∧ (s.adc d.val a.val).run = some run ∧ s.chanRec d.val run.ch = some r ∧
      run.stage = .conv ∧ run.till ≤ s.clk.el ∧ run.got.length + 1 < phaseCount r ∧ r.v C_CHANNEL_MODE ≠ 8) ∧
    (∃ (ch : Fin 32) (a : Nat) (run : AdcRun) (r : CfgRec) (s : State), s.host.halted = false ∧ s.afe.length = 2 ∧
      (s.afeD (ch.val / 16)).adcs.length = 2 ∧ s.stageDone (ch.val / 16) (ch.val % 16) .reset = some (a, run) ∧
      s.chanRec (ch.val / 16) (ch.val % 16) = some r) ∧
    (∃ (ch : Fin 32) (a : Nat) (run : AdcRun) (r : CfgRec) (s : State), s.host.halted = false ∧ s.afe.length = 2 ∧
      (s.afeD (ch.val / 16)).adcs.length = 2 ∧ s.stageDone (ch.val / 16) (ch.val % 16) .pulse = some (a, run) ∧
      s.chanRec (ch.val / 16) (ch.val % 16) = some r) ∧
    (∃ (d : Fin 2) (a : Fin 2) (e : Nat) (s : State), s.host.halted = false ∧ s.afe.length = 2 ∧ (s.afeD
      d.val).adcs.length = 2 ∧ s.diePresent d.val = true ∧ (s.adc d.val a.val).calTill = some e ∧ e ≤ s.clk.el) ∧
    (∃ (d : Fin 2) (a : Fin 2) (s : State), s.host.halted = false ∧ s.afe.length = 2 ∧ (s.afeD d.val).adcs.length =
      2 ∧ s.diePresent d.val = true ∧ (s.adc d.val a.val).calTill = none ∧ (s.adc d.val a.val).calWait = true ∧
      (s.adc d.val a.val).run = none) ∧
    (∃ (d : Fin 2) (s : State), s.host.halted = false ∧ s.afe.length = 2 ∧ (s.afeD d.val).adcs.length = 2 ∧
      s.diePresent d.val = true) ∧
    (∃ (d : Fin 2) (s : State), s.host.halted = false ∧ s.diePresent d.val = true) :=
  ⟨⟨31, tat ((tcfg [trec C_CHANNEL_CHANNEL [(C_CHANNEL_CHANNEL, 31), (C_CHANNEL_MODE, 1), (C_CHANNEL_INTERVAL, 1)]]).wrij AFE_CTRL_EN 0 1 0x8000) 1000000, by decide +kernel⟩,
   ⟨31, t0.wrij AFE_STAT_SETTLING 0 1 0x8000, by decide +kernel⟩,
   ⟨1, 1, { ch := 15, stage := .conv, till := 0, t0 := 0, cont := false }, trec C_CHANNEL_CHANNEL [(C_CHANNEL_CHANNEL, 31), (C_CHANNEL_MODE, 4), (C_CHANNEL_WIRES, 3)], { tcfg [trec C_CHANNEL_CHANNEL [(C_CHANNEL_CHANNEL, 31), (C_CHANNEL_MODE, 4), (C_CHANNEL_WIRES, 3)]] with afe := [{}, { adcs := [{}, { run := some { ch := 15, stage := .conv, till := 0, t0 := 0, cont := false } }] }] }, by decide +kernel⟩,
   ⟨31, 1, { ch := 15, stage := .reset, till := 0, t0 := 0, cont := false }, trec C_CHANNEL_CHANNEL [(C_CHANNEL_CHANNEL, 31), (C_CHANNEL_MODE, 4), (C_CHANNEL_WIRES, 3)], { tcfg [trec C_CHANNEL_CHANNEL [(C_CHANNEL_CHANNEL, 31), (C_CHANNEL_MODE, 4), (C_CHANNEL_WIRES, 3)]] with afe := [{}, { adcs := [{}, { run := some { ch := 15, stage := .reset, till := 0, t0 := 0, cont := false } }] }] }, by decide +kernel⟩,
   ⟨31, 1, { ch := 15, stage := .pulse, till := 0, t0 := 0, cont := false }, trec C_CHANNEL_CHANNEL [(C_CHANNEL_CHANNEL, 31), (C_CHANNEL_MODE, 4), (C_CHANNEL_WIRES, 3)], { tcfg [trec C_CHANNEL_CHANNEL [(C_CHANNEL_CHANNEL, 31), (C_CHANNEL_MODE, 4), (C_CHANNEL_WIRES, 3)]] with afe := [{}, { adcs := [{}, { run := some { ch := 15, stage := .pulse, till := 0, t0 := 0, cont := false } }] }] }, by decide +kernel⟩,
   ⟨1, 1, 0, { t0 with afe := [{}, { adcs := [{}, { calTill := some 0 }] }] }, by decide +kernel⟩,
   ⟨1, 1, { t0 with afe := [{}, { adcs := [{}, { calWait := true }] }] }, by decide +kernel⟩,
   ⟨1, t0, by decide +kernel⟩,
   ⟨1, t0, by decide +kernel⟩⟩

theorem wit_FastPathAndSweepCommandsComplete :
    (∃ (d : Fin 2) (j : Fin 4) (i : Nat) (f : CfgRec) (r : CfgRec) (s : State), s.host.halted = false ∧
      s.afe.length = 2 ∧ (s.afeD d.val).paths.length = 4 ∧ s.pathChan d.val j.val = some (i, f, r) ∧ r.v
      C_CHANNEL_MODE ≠ 7 ∧ (s.path d.val j.val).lastAt + 500 ≤ s.clk.el ∧ s.diePresent d.val = true) ∧
    (∃ (d : Fin 2) (j : Fin 4) (i : Nat) (f : CfgRec) (r : CfgRec) (s : State), s.host.halted = false ∧
      s.afe.length = 2 ∧ (s.afeD d.val).paths.length = 4 ∧ s.pathChan d.val j.val = some (i, f, r) ∧ r.v
      C_CHANNEL_MODE = 6 ∧ bitAt (f.v C_FAST_QRESET_MODE) 0 = true ∧ (s.path d.val j.val).perAt + f.v
      C_FAST_QRESET_PERIOD * 1000000 ≤ s.clk.el ∧ 20 * (s.path d.val j.val).lo ≤ 32768 ∧ (s.path d.val j.val).rst =
      none) ∧
    (∃ (d : Fin 2) (j : Fin 4) (i : Nat) (e : Nat) (f : CfgRec) (r : CfgRec) (s : State), s.host.halted = false ∧
      s.afe.length = 2 ∧ (s.afeD d.val).paths.length = 4 ∧ s.pathChan d.val j.val = some (i, f, r) ∧ r.v
      C_CHANNEL_MODE = 6 ∧ bitAt (f.v C_FAST_QRESET_MODE) 1 = true ∧ (s.path d.val j.val).above = some e ∧ e + f.v
      C_FAST_QRESET_DWELL * 1000 ≤ s.clk.el ∧ (s.path d.val j.val).rst = none) ∧
    (∃ (d : Fin 2) (j : Fin 4) (m : BitVec 4) (s : State), s.host.halted = false ∧ s.afe.length = 2 ∧ (s.afeD
      d.val).paths.length = 4 ∧ s.diePresent d.val = true ∧ bitAt m.toNat j.val = true ∧ (s.path d.val j.val).rst =
      none) ∧
    (∃ (d : Fin 2) (j : Fin 4) (x : Nat) (y : Nat) (s : State), s.host.halted = false ∧ s.afe.length = 2 ∧ (s.afeD
      d.val).paths.length = 4 ∧ (s.path d.val j.val).rst = some (x, y) ∧ y ≤ s.clk.el) ∧
    (∃ (d : Fin 2) (j : Fin 4) (m : BitVec 4) (i : Nat) (f : CfgRec) (r : CfgRec) (s : State), s.host.halted =
      false ∧ s.afe.length = 2 ∧ (s.afeD d.val).paths.length = 4 ∧ bitAt m.toNat j.val = true ∧ s.pathChan d.val
      j.val = some (i, f, r) ∧ r.v C_CHANNEL_MODE = 7 ∧ (s.afeD d.val).sine = none) ∧
    (∃ (d : Fin 2) (q : SineRun) (i : Nat) (e : Nat) (f : CfgRec) (r : CfgRec) (s : State), s.host.halted = false ∧
      s.afe.length = 2 ∧ (s.afeD d.val).sine = some q ∧ s.pathChan d.val q.path = some (i, f, r) ∧ q.till = some e
      ∧ e ≤ s.clk.el ∧ q.k + 1 < s.cv C_SWEEP_NFREQ (16 * d.val + i)) :=
  ⟨⟨1, 3, 15, trec C_FAST_CHANNEL [(C_FAST_CHANNEL, 31), (C_FAST_PATH, 3), (C_FAST_QRESET_MODE, 3)], trec C_CHANNEL_CHANNEL [(C_CHANNEL_CHANNEL, 31), (C_CHANNEL_MODE, 6)], tat ({ (tcfg [trec C_CHANNEL_CHANNEL [(C_CHANNEL_CHANNEL, 31), (C_CHANNEL_MODE, 6)], trec C_FAST_CHANNEL [(C_FAST_CHANNEL, 31), (C_FAST_PATH, 3), (C_FAST_QRESET_MODE, 3)]]).wrij AFE_CTRL_EN 0 1 0x8000 with afe := [{}, {  }] }) 500, by decide +kernel⟩,
   ⟨1, 3, 15, trec C_FAST_CHANNEL [(C_FAST_CHANNEL, 31), (C_FAST_PATH, 3), (C_FAST_QRESET_MODE, 3)], trec C_CHANNEL_CHANNEL [(C_CHANNEL_CHANNEL, 31), (C_CHANNEL_MODE, 6)], { (tcfg [trec C_CHANNEL_CHANNEL [(C_CHANNEL_CHANNEL, 31), (C_CHANNEL_MODE, 6)], trec C_FAST_CHANNEL [(C_FAST_CHANNEL, 31), (C_FAST_PATH, 3), (C_FAST_QRESET_MODE, 3)]]).wrij AFE_CTRL_EN 0 1 0x8000 with afe := [{}, {  }] }, by decide +kernel⟩,
   ⟨1, 3, 15, 0, trec C_FAST_CHANNEL [(C_FAST_CHANNEL, 31), (C_FAST_PATH, 3), (C_FAST_QRESET_MODE, 3)], trec C_CHANNEL_CHANNEL [(C_CHANNEL_CHANNEL, 31), (C_CHANNEL_MODE, 6)], { (tcfg [trec C_CHANNEL_CHANNEL [(C_CHANNEL_CHANNEL, 31), (C_CHANNEL_MODE, 6)], trec C_FAST_CHANNEL [(C_FAST_CHANNEL, 31), (C_FAST_PATH, 3), (C_FAST_QRESET_MODE, 3)]]).wrij AFE_CTRL_EN 0 1 0x8000 with afe := [{}, { paths := [{}, {}, {}, { above := some 0 }] }] }, by decide +kernel⟩,
   ⟨1, 3, 8, t0, by decide +kernel⟩,
   ⟨1, 3, 0, 0, { t0 with afe := [{}, { paths := [{}, {}, {}, { rst := some (0, 0) }] }] }, by decide +kernel⟩,
   ⟨1, 3, 8, 15, trec C_FAST_CHANNEL [(C_FAST_CHANNEL, 31), (C_FAST_PATH, 3), (C_FAST_QRESET_MODE, 3)], trec C_CHANNEL_CHANNEL [(C_CHANNEL_CHANNEL, 31), (C_CHANNEL_MODE, 7)], { (tcfg [trec C_CHANNEL_CHANNEL [(C_CHANNEL_CHANNEL, 31), (C_CHANNEL_MODE, 7)], trec C_FAST_CHANNEL [(C_FAST_CHANNEL, 31), (C_FAST_PATH, 3), (C_FAST_QRESET_MODE, 3)]]).wrij AFE_CTRL_EN 0 1 0x8000 with afe := [{}, {  }] }, by decide +kernel⟩,
   ⟨1, { path := 3, isRef := false, till := some 0 }, 15, 0, trec C_FAST_CHANNEL [(C_FAST_CHANNEL, 31), (C_FAST_PATH, 3), (C_FAST_QRESET_MODE, 3)], trec C_CHANNEL_CHANNEL [(C_CHANNEL_CHANNEL, 31), (C_CHANNEL_MODE, 7)], { (tcfg [trec C_CHANNEL_CHANNEL [(C_CHANNEL_CHANNEL, 31), (C_CHANNEL_MODE, 7)], trec C_FAST_CHANNEL [(C_FAST_CHANNEL, 31), (C_FAST_PATH, 3), (C_FAST_QRESET_MODE, 3)], trec C_SWEEP_NFREQ [((⟨C_SWEEP_NFREQ.sect, C_SWEEP_NFREQ.kind, 0, 0⟩ : CRef), 31), (C_SWEEP_NFREQ, 2)]]).wrij AFE_CTRL_EN 0 1 0x8000 with afe := [{}, { sine := some { path := 3, isRef := false, till := some 0 } }] }, by decide +kernel⟩⟩

theorem wit_FanCommandsComplete :
    (∃ (n : Fin 8) (r : CfgRec) (s : State), s.host.halted = false ∧ s.fans.length = 8 ∧ s.crec C_FAN_CHANNEL n.val
      = some r ∧ (s.fan n.val).updAt + r.v C_FAN_CTRL_MS * 1000000 ≤ s.clk.el) ∧
    (∃ (n : Fin 8) (r : CfgRec) (s : State), s.host.halted = false ∧ s.fans.length = 8 ∧ s.crec C_FAN_CHANNEL n.val
      = some r) ∧
    (∃ (n : Fin 8) (r : CfgRec) (e : Nat) (s : State), s.host.halted = false ∧ s.fans.length = 8 ∧ s.crec
      C_FAN_CHANNEL n.val = some r ∧ (s.fan n.val).pronkEnd = some e ∧ (ofB32 (r.v C_FAN_MIN_RPM)).le (ofB32 (s.rdi
      FAN_SPEED_V n.val)) = true) ∧
    (∃ (n : Fin 8) (r : CfgRec) (e : Nat) (s : State), s.host.halted = false ∧ s.fans.length = 8 ∧ s.crec
      C_FAN_CHANNEL n.val = some r ∧ (s.fan n.val).pronkEnd = some e ∧ (ofB32 (r.v C_FAN_MIN_RPM)).le (ofB32 (s.rdi
      FAN_SPEED_V n.val)) = false ∧ (ofB32 (s.rdi FAN_SPEED_V n.val)).eqv FV.zero = true ∧ e ≤ s.clk.el ∧ s.rdi
      FAN_STAT_TRIES n.val < r.v C_FAN_RETRIES) ∧
    (∃ (n : Fin 8) (r : CfgRec) (e : Nat) (s : State), s.host.halted = false ∧ s.fans.length = 8 ∧ s.crec
      C_FAN_CHANNEL n.val = some r ∧ (s.fan n.val).offEnd = some e ∧ s.rdi FAN_STAT_STATE n.val = 3 ∧ e ≤ s.clk.el
      ∧ bitAt (s.rd FAN_CTRL_EN) n.val = true) ∧
    (∃ (n : Fin 8) (r : CfgRec) (e : Nat) (s : State), s.host.halted = false ∧ s.fans.length = 8 ∧ s.crec
      C_FAN_CHANNEL n.val = some r ∧ (s.fan n.val).lastEdge = some e ∧ (s.rdi FAN_STAT_STATE n.val = 2 ∨ s.rdi
      FAN_STAT_STATE n.val = 6) ∧ (ofB32 (r.v C_FAN_MIN_RPM)).le (ofB32 (s.rdi FAN_SPEED_V n.val)) = true ∧ s.rdi
      FAN_DRIVE_DRIVE n.val ≠ 0 ∧ e + max 10000000 (3 * ((s.fan n.val).gaps.getLast?.getD 0)) < s.clk.el ∧ r.v
      C_FAN_CS_CHANNEL = 0xFF) ∧
    (∃ (n : Fin 8) (r : CfgRec) (m : BitVec 8) (s : State), s.host.halted = false ∧ s.fans.length = 8 ∧ s.crec
      C_FAN_CHANNEL n.val = some r ∧ bitAt m.toNat n.val = true ∧ bitAt (s.rd FAN_CTRL_EN) n.val = true ∧ s.rdi
      FAN_STAT_STATE n.val ≠ 4 ∧ s.rdi FAN_STAT_STATE n.val ≠ 5) ∧
    (∃ (n : Fin 8) (r : CfgRec) (m : BitVec 8) (s : State), s.host.halted = false ∧ s.fans.length = 8 ∧ s.crec
      C_FAN_CHANNEL n.val = some r ∧ bitAt m.toNat n.val = true ∧ bitAt (s.rd FAN_CTRL_EN) n.val = true ∧ (s.rdi
      FAN_STAT_STATE n.val = 0 ∨ s.rdi FAN_STAT_STATE n.val = 2)) ∧
    (∃ (n : Fin 8) (r : CfgRec) (l : FanLearn) (s : State), s.host.halted = false ∧ s.fans.length = 8 ∧ s.crec
      C_FAN_CHANNEL n.val = some r ∧ (s.fan n.val).learn = some l ∧ l.till ≤ s.clk.el ∧ l.n = 0 ∧ l.vals = []) ∧
    (∃ (n : Fin 8) (r : CfgRec) (l : FanLearn) (s : State), s.host.halted = false ∧ s.fans.length = 8 ∧ s.crec
      C_FAN_CHANNEL n.val = some r ∧ (s.fan n.val).learn = some l ∧ l.till ≤ s.clk.el ∧ l.n ≠ 0 ∧ l.k = 0 ∧ l.vals
      = [] ∧ FV.zero.lt (sDiv (ofB32 l.sum) (FV.ofInt l.n)) = true) ∧
    (∃ (n : Fin 8) (r : CfgRec) (s : State), s.host.halted = false ∧ s.fans.length = 8 ∧ s.crec C_FAN_CHANNEL n.val
      = some r ∧ s.rdi FAN_STAT_STALL_LATCHED n.val = 1 ∧ (ofB32 (s.rdi FAN_SPEED_V n.val)).eqv FV.zero = false) ∧
    (∃ (n : Fin 8) (r : CfgRec) (s : State), s.host.halted = false ∧ s.fans.length = 8 ∧ s.crec C_FAN_CHANNEL n.val
      = some r ∧ s.rdi FAN_STAT_STALL_LATCHED n.val = 1 ∧ (ofB32 (s.rdi FAN_SPEED_V n.val)).eqv FV.zero = true ∧
      bitAt (s.rd FAN_CTRL_EN) n.val = true) ∧
    (∃ (n : Fin 8) (r : CfgRec) (s : State), s.host.halted = false ∧ s.fans.length = 8 ∧ s.crec C_FAN_CHANNEL n.val
      = some r ∧ s.rdi FAN_STAT_TACH_LOST n.val = 1 ∧ (ofB32 (s.rdi FAN_SPEED_V n.val)).eqv FV.zero = false) :=
  ⟨⟨7, trec C_FAN_CHANNEL [(C_FAN_CHANNEL, 7), (C_FAN_MIN_RPM, 0x42C80000)], { tcfg [trec C_FAN_CHANNEL [(C_FAN_CHANNEL, 7), (C_FAN_MIN_RPM, 0x42C80000)]] with fans := t0.fans.set 7 {  } }, by decide +kernel⟩,
   ⟨7, trec C_FAN_CHANNEL [(C_FAN_CHANNEL, 7), (C_FAN_MIN_RPM, 0x42C80000)], { tcfg [trec C_FAN_CHANNEL [(C_FAN_CHANNEL, 7), (C_FAN_MIN_RPM, 0x42C80000)]] with fans := t0.fans.set 7 {  } }, by decide +kernel⟩,
   ⟨7, trec C_FAN_CHANNEL [(C_FAN_CHANNEL, 7), (C_FAN_MIN_RPM, 0x42C80000)], 5, ({ tcfg [trec C_FAN_CHANNEL [(C_FAN_CHANNEL, 7), (C_FAN_MIN_RPM, 0x42C80000)]] with fans := t0.fans.set 7 { pronkEnd := some 5 } } : State).wri FAN_SPEED_V 7 0x42C80000, by decide +kernel⟩,
   ⟨7, trec C_FAN_CHANNEL [(C_FAN_CHANNEL, 7), (C_FAN_MIN_RPM, 0x42C80000), (C_FAN_RETRIES, 1)], 0, { tcfg [trec C_FAN_CHANNEL [(C_FAN_CHANNEL, 7), (C_FAN_MIN_RPM, 0x42C80000), (C_FAN_RETRIES, 1)]] with fans := t0.fans.set 7 { pronkEnd := some 0 } }, by decide +kernel⟩,
   ⟨7, trec C_FAN_CHANNEL [(C_FAN_CHANNEL, 7), (C_FAN_MIN_RPM, 0x42C80000)], 0, (({ tcfg [trec C_FAN_CHANNEL [(C_FAN_CHANNEL, 7), (C_FAN_MIN_RPM, 0x42C80000)]] with fans := t0.fans.set 7 { offEnd := some 0 } } : State).wri FAN_STAT_STATE 7 3).wr FAN_CTRL_EN 128, by decide +kernel⟩,
   ⟨7, trec C_FAN_CHANNEL [(C_FAN_CHANNEL, 7), (C_FAN_MIN_RPM, 0x42C80000), (C_FAN_CS_CHANNEL, 0xFF)], 0, (((tat ({ tcfg [trec C_FAN_CHANNEL [(C_FAN_CHANNEL, 7), (C_FAN_MIN_RPM, 0x42C80000), (C_FAN_CS_CHANNEL, 0xFF)]] with fans := t0.fans.set 7 { lastEdge := some 0 } }) 10000001).wri FAN_STAT_STATE 7 6).wri FAN_SPEED_V 7 0x42C80000).wri FAN_DRIVE_DRIVE 7 1, by decide +kernel⟩,
   ⟨7, trec C_FAN_CHANNEL [(C_FAN_CHANNEL, 7), (C_FAN_MIN_RPM, 0x42C80000)], 0x80, ({ tcfg [trec C_FAN_CHANNEL [(C_FAN_CHANNEL, 7), (C_FAN_MIN_RPM, 0x42C80000)]] with fans := t0.fans.set 7 {  } } : State).wr FAN_CTRL_EN 128, by decide +kernel⟩,
   ⟨7, trec C_FAN_CHANNEL [(C_FAN_CHANNEL, 7), (C_FAN_MIN_RPM, 0x42C80000)], 0x80, ({ tcfg [trec C_FAN_CHANNEL [(C_FAN_CHANNEL, 7), (C_FAN_MIN_RPM, 0x42C80000)]] with fans := t0.fans.set 7 {  } } : State).wr FAN_CTRL_EN 128, by decide +kernel⟩,
   ⟨7, trec C_FAN_CHANNEL [(C_FAN_CHANNEL, 7), (C_FAN_MIN_RPM, 0x42C80000)], ⟨0, 0, [], 0, 0⟩, { tcfg [trec C_FAN_CHANNEL [(C_FAN_CHANNEL, 7), (C_FAN_MIN_RPM, 0x42C80000)]] with fans := t0.fans.set 7 { learn := some ⟨0, 0, [], 0, 0⟩ } }, by decide +kernel⟩,
   ⟨7, trec C_FAN_CHANNEL [(C_FAN_CHANNEL, 7), (C_FAN_MIN_RPM, 0x42C80000)], ⟨0, 0, [], 0x42C80000, 1⟩, { tcfg [trec C_FAN_CHANNEL [(C_FAN_CHANNEL, 7), (C_FAN_MIN_RPM, 0x42C80000)]] with fans := t0.fans.set 7 { learn := some ⟨0, 0, [], 0x42C80000, 1⟩ } }, by decide +kernel⟩,
   ⟨7, trec C_FAN_CHANNEL [(C_FAN_CHANNEL, 7), (C_FAN_MIN_RPM, 0x42C80000)], (({ tcfg [trec C_FAN_CHANNEL [(C_FAN_CHANNEL, 7), (C_FAN_MIN_RPM, 0x42C80000)]] with fans := t0.fans.set 7 {  } } : State).wri FAN_SPEED_V 7 0x42C80000).wri FAN_STAT_STALL_LATCHED 7 1, by decide +kernel⟩,
   ⟨7, trec C_FAN_CHANNEL [(C_FAN_CHANNEL, 7), (C_FAN_MIN_RPM, 0x42C80000)], (({ tcfg [trec C_FAN_CHANNEL [(C_FAN_CHANNEL, 7), (C_FAN_MIN_RPM, 0x42C80000)]] with fans := t0.fans.set 7 {  } } : State).wr FAN_CTRL_EN 128).wri FAN_STAT_STALL_LATCHED 7 1, by decide +kernel⟩,
   ⟨7, trec C_FAN_CHANNEL [(C_FAN_CHANNEL, 7), (C_FAN_MIN_RPM, 0x42C80000)], (({ tcfg [trec C_FAN_CHANNEL [(C_FAN_CHANNEL, 7), (C_FAN_MIN_RPM, 0x42C80000)]] with fans := t0.fans.set 7 {  } } : State).wri FAN_SPEED_V 7 0x42C80000).wri FAN_STAT_TACH_LOST 7 1, by decide +kernel⟩⟩

theorem wit_ChainFrameCommandsComplete :
    (∃ (n : Fin 2) (s : State), s.host.halted = false ∧ s.links.length = 2 ∧ s.linkUp n.val = true ∧ (s.link
      n.val).lastOut + 1000 ≤ s.clk.el) ∧
    (∃ (n : Fin 2) (f : OutFrame) (l : List OutFrame) (a : Bool) (c : Bool) (s : State), s.links.length = 2 ∧
      s.dies.length = 2 ∧ (s.link n.val).down = f :: l ∧ (frameTest (s.die n.val).ref a c f.count).1 = true) ∧
    (∃ (n : Fin 2) (f : OutFrame) (l : List OutFrame) (a : Bool) (c : Bool) (s : State), s.links.length = 2 ∧
      s.dies.length = 2 ∧ (s.link n.val).down = f :: l ∧ (frameTest (s.die n.val).ref a c f.count).1 = false) ∧
    (∃ (n : Fin 2) (s : State), s.links.length = 2 ∧ s.dies.length = 2 ∧ s.linkUp n.val = true ∧ (s.die
      n.val).lastSend + 1000 ≤ s.clk.el) ∧
    (∃ (n : Fin 2) (f : InFrame) (l : List InFrame) (a : Bool) (c : Bool) (s : State), s.host.halted = false ∧
      s.links.length = 2 ∧ (s.link n.val).up = f :: l ∧ (frameTest (s.link n.val).ref a c f.echo).1 = true) ∧
    (∃ (n : Fin 2) (f : InFrame) (l : List InFrame) (s : State), s.host.halted = false ∧ s.links.length = 2 ∧
      (s.link n.val).up = f :: l) ∧
    (∃ (n : Fin 2) (f : InFrame) (l : List InFrame) (s : State), s.host.halted = false ∧ s.links.length = 2 ∧
      (s.link n.val).up = f :: l ∧ (frameTest (s.link n.val).ref true true f.echo).1 = false) :=
  ⟨⟨1, tat (t0.wri CHN_STAT_TRAINED 1 1) 1000, by decide +kernel⟩,
   ⟨1, ⟨5, false, false, false, 100, 0, [], [], none, none⟩, [], true, true, { t0 with links := [{}, { down := [⟨5, false, false, false, 100, 0, [], [], none, none⟩] }] }, by decide +kernel⟩,
   ⟨1, ⟨5, false, false, false, 100, 0, [], [], none, none⟩, [], true, false, { t0 with links := [{}, { down := [⟨5, false, false, false, 100, 0, [], [], none, none⟩] }] }, by decide +kernel⟩,
   ⟨1, tat (t0.wri CHN_STAT_TRAINED 1 1) 1000, by decide +kernel⟩,
   ⟨1, ⟨5, 0, false, []⟩, [], true, true, { t0 with links := [{}, { up := [⟨5, 0, false, []⟩] }] }, by decide +kernel⟩,
   ⟨1, ⟨5, 0, false, []⟩, [], { t0 with links := [{}, { up := [⟨5, 0, false, []⟩] }] }, by decide +kernel⟩,
   ⟨1, ⟨5, 0, false, []⟩, [], { t0 with links := [{}, { up := [⟨5, 0, false, []⟩], ref := some 5 }] }, by decide +kernel⟩⟩

theorem wit_ChainStateCommandsComplete :
    (∃ (n : Fin 2) (s : State), s.host.halted = false ∧ s.links.length = 2 ∧ s.diePresent n.val = true ∧ s.rdi
      CHN_STAT_LOST n.val = 0 ∧ (s.link n.val).lastValid + 3000 ≤ s.clk.el) ∧
    (∃ (n : Fin 2) (s : State), s.dies.length = 2 ∧ s.diePresent n.val = true ∧ (s.die n.val).safe = false ∧ (s.die
      n.val).lastFrame + (s.die n.val).timeoutMs * 1000000 ≤ s.clk.el) ∧
    (∃ (n : Fin 2) (s : State), s.host.halted = false ∧ s.links.length = 2 ∧ s.diePresent n.val = true) ∧
    (∃ (n : Fin 2) (s : State), s.host.halted = false ∧ s.links.length = 2 ∧ s.autoDue n.val = true) ∧
    (∃ (n : Fin 2) (m : BitVec 2) (s : State), s.host.halted = false ∧ s.links.length = 2 ∧ s.dies.length = 2 ∧
      s.diePresent n.val = true ∧ bitAt m.toNat n.val = true) ∧
    (∃ (n : Fin 2) (s : State), s.host.halted = false ∧ s.links.length = 2 ∧ s.diePresent n.val = true ∧ (s.link
      n.val).training = true) ∧
    (∃ (s : State), s.host.halted = false ∧ s.rd CLK_STAT_FSTEP ≠ s.rd THM_STAT_ENFORCED) :=
  ⟨⟨1, tat (t0.wri CHN_STAT_LOST 1 0) 3000, by decide +kernel⟩,
   ⟨1, tat { t0 with dies := [{}, { safe := false }] } 100000000, by decide +kernel⟩,
   ⟨1, t0, by decide +kernel⟩,
   ⟨1, tat { ((tcfg []).wri CHN_STAT_TRAINED 1 1).wri CHN_CTRL_AUTO_RESUME 1 1 |>.wr SYS_STATE_STATE 6 with links := [{}, { validSince := some 0 }], dies := [{}, { validSince := some 0 }] } 1000000, by decide +kernel⟩,
   ⟨1, 2, t0, by decide +kernel⟩,
   ⟨1, { t0 with links := [{}, { training := true }] }, by decide +kernel⟩,
   ⟨t0.wr THM_STAT_ENFORCED 3, by decide +kernel⟩⟩

theorem wit_ThermalCommandsComplete :
    (∃ (k : Fin 32) (s : State), s.host.halted = false ∧ s.sensPresent k.val = true ∧ s.groupStale (sensGroup
      k.val) = false) ∧
    (∃ (g : Fin 4) (e : Nat) (s : State), s.host.halted = false ∧ s.rdi THM_GRP_LEVEL g.val ≠ 0 ∧ s.groupStale
      g.val = false ∧ listAt (listAt s.thm.below g.val []) (s.rdi THM_GRP_LEVEL g.val - 1) none = some e ∧ e +
      s.cv1 C_POLICY_HOLD_S * 1000000000 ≤ s.clk.el) ∧
    (∃ (g : Fin 4) (e : Nat) (s : State), s.host.halted = false ∧ listAt s.thm.floorEnd g.val none = some e ∧ e ≤
      s.clk.el ∧ listAt s.thm.floorHold g.val false = false) ∧
    (∃ (s : State), s.host.halted = false ∧ s.rd THM_STAT_ENFORCED < min s.graceDone (s.rd THM_STAT_REQUESTED)) ∧
    (∃ (s : State), s.host.halted = false) :=
  ⟨⟨23, t0.wri CHN_STAT_LOST 1 0, by decide +kernel⟩,
   ⟨3, 0, tat { t0.wri THM_GRP_LEVEL 3 3 with thm := { below := List.replicate 4 [none, none, some 0] } } 100000000000000, by decide +kernel⟩,
   ⟨3, 0, { t0 with thm := { floorEnd := [none, none, none, some 0] } }, by decide +kernel⟩,
   ⟨tat { t0.wr THM_STAT_REQUESTED 3 with thm := { since := [some 0, some 0, some 0] } } 1000000000000, by decide +kernel⟩,
   ⟨t0, by decide +kernel⟩⟩

theorem wit_LoaderCommandsComplete :
    (∃ (k : BitVec 16) (s : State), s.host.halted = false ∧ s.platCause (platWord k 1) = 0) ∧
    (∃ (k : BitVec 16) (s : State), s.host.halted = false ∧ s.platCause (platWord k 2) = 0) ∧
    (∃ (k : BitVec 16) (s : State), s.host.halted = false ∧ s.platCause (platWord k 3) = 0) ∧
    (∃ (k : BitVec 16) (s : State), s.host.halted = false ∧ s.platCause (platWord k 4) = 0) ∧
    (∃ (k : BitVec 16) (s : State), s.host.halted = false ∧ s.platCause (platWord k 5) = 0) ∧
    (∃ (k : BitVec 16) (s : State), s.host.halted = false ∧ s.platCause (platWord k 6) = 0) ∧
    (∃ (k : BitVec 16) (s : State), s.host.halted = false ∧ s.platCause (platWord k 7) = 0) ∧
    (∃ (k : BitVec 16) (s : State), s.host.halted = false ∧ s.platCause (platWord k 8) = 0) ∧
    (∃ (k : BitVec 16) (s : State), s.host.halted = false ∧ s.platCause (platWord k 9) = 0) ∧
    (∃ (v : Word) (s : State), s.host.halted = false ∧ (bitsOf v.toNat 3 0 = 0 ∨ 9 < bitsOf v.toNat 3 0)) :=
  ⟨⟨0x7C1A, t0.wr SYS_STATE_STATE 6 |>.wr PLAT_SRC_ADDR 0x1000000 |>.wr PLAT_LEN_LEN 64, by decide +kernel⟩,
   ⟨0x7C1A, t0.wr SYS_STATE_STATE 6 |>.wr PLAT_SRC_ADDR 0x1000000 |>.wr PLAT_LEN_LEN 64, by decide +kernel⟩,
   ⟨0x7C1A, t0.wr SYS_STATE_STATE 6 |>.wr PLAT_SRC_ADDR 0x1000000 |>.wr PLAT_LEN_LEN 64, by decide +kernel⟩,
   ⟨0x7C1A, t0.wr SYS_STATE_STATE 6 |>.wr PLAT_SRC_ADDR 0x1000000 |>.wr PLAT_LEN_LEN 64, by decide +kernel⟩,
   ⟨0x7C1A, t0.wr SYS_STATE_STATE 6 |>.wr PLAT_SRC_ADDR 0x1000000 |>.wr PLAT_LEN_LEN 64, by decide +kernel⟩,
   ⟨0x7C1A, t0, by decide +kernel⟩,
   ⟨0x7C1A, t0, by decide +kernel⟩,
   ⟨0x7C1A, t0, by decide +kernel⟩,
   ⟨0x7C1A, t0, by decide +kernel⟩,
   ⟨10, t0, by decide +kernel⟩⟩

theorem wit_CommitAndAmendmentCommandsComplete :
    (∃ (st : Staged) (s : State), s.host.halted = false ∧ s.loader.staged = some st) ∧
    (∃ (a : Nat) (b : Nat) (r : CfgRec) (s : State), s.host.halted = false ∧ s.loader.recs.find? (fun r => r.sect
      == a && r.index == b) = some r ∧ s.loader.pendingAmends.any (fun q => q.tsect == a && q.tindex == b) = true ∧
      s.amendHeld r = false) :=
  ⟨⟨⟨[], [], [], 0, 0, 1⟩, { t0 with loader := { staged := some ⟨[], [], [], 0, 0, 1⟩ } }, by decide +kernel⟩,
   ⟨0xB0, 0, trec C_LOOP_LOOP [(C_LOOP_LOOP, 63), (C_LOOP_GROUP, 255), (C_LOOP_PERIOD, 100)], { t0 with loader := { recs := [trec C_LOOP_LOOP [(C_LOOP_LOOP, 63), (C_LOOP_GROUP, 255), (C_LOOP_PERIOD, 100)]], pendingAmends := [⟨1, 0, 0xB0, 0, []⟩] } }, by decide +kernel⟩⟩

theorem wit_ResetCommandsComplete :
    (∃ (w : Nat) (s : State), s.host.halted = false ∧ s.host.resetAt = some w ∧ w ≤ s.clk.el) ∧
    (∃ (v : Word) (s : State), s.host.halted = false ∧ v.toNat % 65536 = 0xD5A7 ∧ s.host.resetAt = none) ∧
    (∃ (m : Word) (w : Fin 32) (s : State), s.host.halted = false ∧ bitAt m.toNat w.val = true ∧ s.resettable w.val
      = true) ∧
    (∃ (w : Fin 32) (s : State), s.host.halted = false ∧ (assocGet s.host.uresetAt w.val).isSome = true) :=
  ⟨⟨0, { t0 with host := { resetAt := some 0 } }, by decide +kernel⟩,
   ⟨0xD5A7, t0, by decide +kernel⟩,
   ⟨0x80000000, 31, t0, by decide +kernel⟩,
   ⟨31, { t0 with host := { uresetAt := [(31, 0)] } }, by decide +kernel⟩⟩

theorem wit_CanBusCommandsComplete :
    (∃ (n : Fin 4) (f : CanFrame) (x : Nat) (i : Nat) (s : State), s.host.halted = false ∧ s.rdi CAN_STAT_STATE
      n.val = 1 ∧ f.fdf = false ∧ (s.canC n.val).mode = 0 ∧ s.rdi CAN_STAT_REC n.val = 0 ∧ s.canFilter n.val f =
      (x, 0) ∧ (s.ringOf n.val 0).1 + (s.ringOf n.val 0).2 ≤ 512 ∧ (List.range (s.ringOf n.val 0).2).find? (fun j
      => s.bufState ((s.ringOf n.val 0).1 + (s.rdi CAN_RING0_WP n.val - (s.ringOf n.val 0).1 + j) % (s.ringOf n.val
      0).2) == 0) = some i) ∧
    (∃ (n : Fin 4) (f : CanFrame) (s : State), s.host.halted = false ∧ s.rdi CAN_STAT_STATE n.val = 5 ∧ f.fdf =
      false ∧ s.rdi CAN_ABD_GOOD n.val < 7) ∧
    (∃ (n : Fin 4) (s : State), s.host.halted = false ∧ (s.rdi CAN_STAT_STATE n.val = 1 ∨ s.rdi CAN_STAT_STATE
      n.val = 2) ∧ (s.canC n.val).stop = false) ∧
    (∃ (n : Fin 4) (s : State), s.host.halted = false ∧ s.rdi CAN_STAT_STATE n.val = 5) ∧
    (∃ (n : Fin 4) (s : State), s.host.halted = false ∧ s.rdi CAN_STAT_STATE n.val = 6) ∧
    (∃ (n : Fin 4) (b : Nat) (s : State), s.host.halted = false ∧ s.can.ctl.length = 4 ∧ (s.rdi CAN_STAT_STATE
      n.val = 1 ∨ s.rdi CAN_STAT_STATE n.val = 2) ∧ (s.canC n.val).mode = 0 ∧ (s.canC n.val).cur = none ∧ s.bestBuf
      n.val = some b) ∧
    (∃ (n : Fin 4) (b : Nat) (s : State), s.host.halted = false ∧ (s.canC n.val).cur = some b) ∧
    (∃ (n : Fin 4) (b : Nat) (s : State), s.host.halted = false ∧ (s.canC n.val).cur = some b ∧ (s.canC
      n.val).cancel = false ∧ bitAt (s.bufWord b 1) 6 = false) ∧
    (∃ (n : Fin 4) (b : Nat) (s : State), s.host.halted = false ∧ (s.canC n.val).cur = some b ∧ (s.canC
      n.val).cancel = true) ∧
    (∃ (n : Fin 4) (s : State), s.host.halted = false ∧ (s.rdi CAN_STAT_STATE n.val = 1 ∨ s.rdi CAN_STAT_STATE
      n.val = 2) ∧ (s.canC n.val).mode = 0 ∧ s.rdi CAN_STAT_TEC n.val ≤ 255) ∧
    (∃ (n : Fin 4) (s : State), s.host.halted = false ∧ s.rdi CAN_STAT_STATE n.val = 3) ∧
    (∃ (n : Fin 4) (s : State), s.host.halted = false ∧ s.rdi CAN_STAT_STATE n.val = 4) ∧
    (∃ (n : Fin 4) (v : Word) (s : State), s.host.halted = false ∧ s.can.ctl.length = 4 ∧ s.rdi CAN_CTRL_EN n.val =
      0 ∧ v.toNat % 2 = 1 ∧ (s.canC n.val).stop = false) ∧
    (∃ (n : Fin 4) (v : Word) (s : State), s.host.halted = false ∧ s.can.ctl.length = 4 ∧ s.rdi CAN_CTRL_EN n.val =
      1 ∧ v.toNat % 2 = 0 ∧ (s.canC n.val).cur = none) ∧
    (∃ (n : Fin 4) (s : State), s.host.halted = false ∧ s.can.ctl.length = 4 ∧ s.rdi CAN_STAT_STATE n.val = 5 ∧
      (s.canC n.val).dwell + s.canV n.val C_CONTROLLER_ABD_DWELL * 1000000 ≤ s.clk.el ) :=
  ⟨⟨3, ⟨0x123, false, false, false, 0, false, false, []⟩, 0x1FF, 0, (tcfg [trec C_CONTROLLER_CTRL [(C_CONTROLLER_CTRL, 3), (C_CONTROLLER_RING0_BASE, 504), (C_CONTROLLER_RING0_LEN, 8)]]).wri CAN_STAT_STATE 3 1, by decide +kernel⟩,
   ⟨3, ⟨0x123, false, false, false, 0, false, false, []⟩, t0.wri CAN_STAT_STATE 3 5, by decide +kernel⟩,
   ⟨3, t0.wri CAN_STAT_STATE 3 2, by decide +kernel⟩,
   ⟨3, t0.wri CAN_STAT_STATE 3 5, by decide +kernel⟩,
   ⟨3, t0.wri CAN_STAT_STATE 3 6, by decide +kernel⟩,
   ⟨3, 511, ((tcfg [trec C_CONTROLLER_CTRL [(C_CONTROLLER_CTRL, 3), (C_CONTROLLER_TX_BASE, 511), (C_CONTROLLER_TX_COUNT, 1)]]).wri CAN_STAT_STATE 3 1).wri CAN_BSTAT_STATE 511 1, by decide +kernel⟩,
   ⟨3, 511, { t0 with can := { ctl := [{}, {}, {}, { cur := some 511 }] } }, by decide +kernel⟩,
   ⟨3, 511, { t0 with can := { ctl := [{}, {}, {}, { cur := some 511 }] } }, by decide +kernel⟩,
   ⟨3, 511, { t0 with can := { ctl := [{}, {}, {}, { cur := some 511, cancel := true }] } }, by decide +kernel⟩,
   ⟨3, t0.wri CAN_STAT_STATE 3 1, by decide +kernel⟩,
   ⟨3, t0.wri CAN_STAT_STATE 3 3, by decide +kernel⟩,
   ⟨3, t0.wri CAN_STAT_STATE 3 4, by decide +kernel⟩,
   ⟨3, 1, t0, by decide +kernel⟩,
   ⟨3, 0, t0.wri CAN_CTRL_EN 3 1, by decide +kernel⟩,
   ⟨3, tat (t0.wri CAN_STAT_STATE 3 5) 1000000000000, by decide +kernel⟩⟩

theorem wit_CanBufferCommandsComplete :
    (∃ (b : Fin 512) (s : State), s.host.halted = false ∧ s.bufRole b.val = 1 ∧ s.bufPending b.val = false) ∧
    (∃ (b : Fin 512) (s : State), s.host.halted = false ∧ s.bufRole b.val = 1 ∧ s.bufState b.val = 1) ∧
    (∃ (b : Fin 512) (s : State), s.host.halted = false ∧ s.can.ctl.length = 4 ∧ s.bufRole b.val = 1 ∧ s.bufState
      b.val = 2) ∧
    (∃ (b : Fin 512) (s : State), s.host.halted = false ∧ s.bufRole b.val = 1 ∧ s.bufState b.val = 1 ∧ s.atLate
      (s.rdi CAN_BSTAT_CTRL b.val) b.val = true) ∧
    (∃ (b : Fin 512) (r : CfgRec) (s : State), s.host.halted = false ∧ s.crec C_TXBUF_BUF b.val = some r ∧ r.v
      C_TXBUF_PERIOD_MS ≠ 0 ∧ r.v C_TXBUF_PHASE_MS * 1000000 ≤ s.clk.now ∧ assocGetD s.can.lastReq b.val 0 <
      (s.clk.now - r.v C_TXBUF_PHASE_MS * 1000000) / (r.v C_TXBUF_PERIOD_MS * 1000000) + 1 ∧ s.bufRole b.val = 1 ∧
      s.bufPending b.val = false) ∧
    (∃ (b : Fin 512) (s : State), s.host.halted = false ∧ 2 ≤ s.bufRole b.val ∧ s.bufState b.val = 1) ∧
    (∃ (b : Fin 512) (s : State), s.host.halted = false ∧ 2 ≤ s.bufRole b.val ∧ s.bufState b.val = 2) ∧
    (∃ (b : Fin 512) (a : Nat) (s : State), s.host.halted = false ∧ assocGet s.can.lockAt b.val = some a ∧ s.canV
      (s.rdi CAN_BSTAT_CTRL b.val) C_CONTROLLER_LOCK_TIMEOUT ≠ 0 ∧ a + s.canV (s.rdi CAN_BSTAT_CTRL b.val)
      C_CONTROLLER_LOCK_TIMEOUT * 1000 < s.clk.el ∧ 2 ≤ s.bufRole b.val ∧ s.bufState b.val = 2) :=
  ⟨⟨511, ((t0.wri CAN_BSTAT_ROLE 511 1).wri CAN_BSTAT_STATE 511 3), by decide +kernel⟩,
   ⟨511, ((t0.wri CAN_BSTAT_ROLE 511 1).wri CAN_BSTAT_STATE 511 1), by decide +kernel⟩,
   ⟨511, ((t0.wri CAN_BSTAT_ROLE 511 1).wri CAN_BSTAT_STATE 511 2), by decide +kernel⟩,
   ⟨511, tat ((((tcfg [trec C_CONTROLLER_CTRL [(C_CONTROLLER_LATE_WINDOW, 1)]]).wri CAN_BSTAT_ROLE 511 1).wri CAN_BSTAT_STATE 511 1).bufPut 511 1 128) 1001, by decide +kernel⟩,
   ⟨511, trec C_TXBUF_BUF [(C_TXBUF_BUF, 511), (C_TXBUF_PERIOD_MS, 1)], (tcfg [trec C_TXBUF_BUF [(C_TXBUF_BUF, 511), (C_TXBUF_PERIOD_MS, 1)]]).wri CAN_BSTAT_ROLE 511 1, by decide +kernel⟩,
   ⟨511, ((t0.wri CAN_BSTAT_ROLE 511 4).wri CAN_BSTAT_STATE 511 1), by decide +kernel⟩,
   ⟨511, ((t0.wri CAN_BSTAT_ROLE 511 4).wri CAN_BSTAT_STATE 511 2), by decide +kernel⟩,
   ⟨511, 0, { tat (((tcfg [trec C_CONTROLLER_CTRL [(C_CONTROLLER_LOCK_TIMEOUT, 1)]]).wri CAN_BSTAT_ROLE 511 2).wri CAN_BSTAT_STATE 511 2) 1001 with can := { lockAt := [(511, 0)] } }, by decide +kernel⟩⟩

theorem wit_EthernetCommandsComplete :
    (∃ (m : Fin 2) (e : Nat) (s : State), s.host.halted = false ∧ s.eth.length = 2 ∧ s.gateCycle m.val = some e) ∧
    (∃ (m : Fin 2) (s : State), s.host.halted = false ∧ s.eth.length = 2 ∧ s.gateCycle m.val = none ∧ (s.mac
      m.val).gOn = true ∧ (s.mac m.val).gTill ≤ s.clk.el ∧ (s.mac m.val).gIdx + 1 < (s.mac m.val).gList.length) ∧
    (∃ (m : Fin 2) (s : State), s.host.halted = false ∧ s.absentAddr (ETH_TXWR_INDEX.addr m.val 0) = false) ∧
    (∃ (m : Fin 2) (h : HFrame) (s : State), s.host.halted = false ∧ s.eth.length = 2 ∧ s.macUp m.val = true ∧
      (s.mac m.val).freeAt ≤ s.clk.el ∧ (s.mac m.val).pauseTill ≤ s.clk.el ∧ (List.range 8).reverse.findSome? (fun
      q => (s.txHead m.val q).filter (fun x => s.gateFits m.val q (s.frameNs m.val (s.txLen x)))) = some (.inr h)) ∧
    (∃ (m : Fin 2) (d : TxDesc) (s : State), s.host.halted = false ∧ s.eth.length = 2 ∧ s.macUp m.val = true ∧
      (s.mac m.val).freeAt ≤ s.clk.el ∧ (s.mac m.val).pauseTill ≤ s.clk.el ∧ (List.range 8).reverse.findSome? (fun
      q => (s.txHead m.val q).filter (fun x => s.gateFits m.val q (s.frameNs m.val (s.txLen x)))) = some (.inl d)) ∧
    (∃ (s : State), s.host.halted = false ∧ s.rd ETH_MDIO_BUSY = 0) ∧
    (∃ (s : State), s.host.halted = false ∧ s.rd ETH_MDIO_BUSY ≠ 0 ∧ s.rd ETH_MDIO_READ = 1) ∧
    (∃ (m : Fin 2) (s : State), s.host.halted = false ∧ (m.val = 0 ∨ s.is20 = false)) ∧
    (∃ (m : Fin 2) (f : List Nat) (b : List Nat) (s : State), s.host.halted = false ∧ s.eth.length = 2 ∧ f.map (fun
      x => x % 256) = b ∧ s.macUp m.val = true ∧ 60 ≤ b.length ∧ b.length ≤ 1518 ∧ beNat (slice b 12 2) = 0x8808 ∧
      beNat (slice (b.drop 14) 0 2) = 1) ∧
    (∃ (m : Fin 2) (s : State), s.host.halted = false ∧ s.macUp m.val = true) :=
  ⟨⟨1, 0, tcfg [trec C_MAC_MAC [(C_MAC_MAC, 1), (C_MAC_CYCLE_NS, 1000000)]], by decide +kernel⟩,
   ⟨1, { t0 with eth := [{}, { gOn := true, gList := [(0, 1), (0, 1)] }] }, by decide +kernel⟩,
   ⟨1, t0, by decide +kernel⟩,
   ⟨1, ⟨[], 8, 0, 0⟩, { ((tcfg [trec C_PARCEL_HMAC [(C_PARCEL_HMAC, 1)]]).wri ETH_CTRL_EN 1 1).wri ETH_STAT_LINK 1 1 with twn := { frames := [⟨[], 8, 0, 0⟩] } }, by decide +kernel⟩,
   ⟨1, ⟨0, some 0, 0, false⟩, { (t0.wri ETH_CTRL_EN 1 1).wri ETH_STAT_LINK 1 1 with eth := [{}, { tx := [⟨0, some 0, 0, false⟩] }] }, by decide +kernel⟩,
   ⟨t0, by decide +kernel⟩,
   ⟨(t0.wr ETH_MDIO_BUSY 1).wr ETH_MDIO_READ 1, by decide +kernel⟩,
   ⟨1, t0, by decide +kernel⟩,
   ⟨1, List.replicate 12 0 ++ [0x88, 0x08, 0, 1, 0, 9] ++ List.replicate 42 0, List.replicate 12 0 ++ [0x88, 0x08, 0, 1, 0, 9] ++ List.replicate 42 0, (t0.wri ETH_CTRL_EN 1 1).wri ETH_STAT_LINK 1 1, by decide +kernel⟩,
   ⟨1, (t0.wri ETH_CTRL_EN 1 1).wri ETH_STAT_LINK 1 1, by decide +kernel⟩⟩

theorem wit_TownshipCommandsComplete :
    (∃ (r : CfgRec) (s : State), s.host.halted = false ∧ s.crec1 C_PTP_MAC = some r ∧ s.macUp (r.v C_PTP_MAC) =
      true ∧ dueAt s.twn.ptp.pdAt (logNs (r.v C_PTP_PDELAY_LOG)) s.clk.el = true) ∧
    (∃ (f : TwnRx) (l : List TwnRx) (s : State), s.host.halted = false ∧ s.twn.rx = f :: l) ∧
    (∃ (s : State), s.host.halted = false ∧ (s.crec1 C_PARCEL_PARCEL).isSome = true ∧ s.cv1 C_PARCEL_ANNOUNCE ≠ 0 ∧
      s.standby = false ∧ s.twn.annSec ≠ s.sec ∧ s.twn.frames.length < 32) ∧
    (∃ (c : Fin 8) (s : State), s.host.halted = false ∧ s.twn.outs.length = 8 ∧ (s.outCh c.val).ents ≠ [] ∧
      (s.outCh c.val).since + s.cv C_HANDOFF_OUT_FLUSH_US c.val * 1000 ≤ s.clk.el ∧ s.twn.frames.length < 32) :=
  ⟨⟨trec C_PTP_MAC [(C_PTP_MAC, 1)], ((tcfg [trec C_PTP_MAC [(C_PTP_MAC, 1)]]).wri ETH_CTRL_EN 1 1).wri ETH_STAT_LINK 1 1, by decide +kernel⟩,
   ⟨⟨0, 0, 0, []⟩, [], { t0 with twn := { rx := [⟨0, 0, 0, []⟩] } }, by decide +kernel⟩,
   ⟨tat (tcfg [trec C_PARCEL_PARCEL [(C_PARCEL_ANNOUNCE, 1)]]) 1000000000, by decide +kernel⟩,
   ⟨7, tat { t0 with twn := { outs := t0.twn.outs.set 7 { ents := [[1]] } } } 1000000000000, by decide +kernel⟩⟩

theorem wit_PairCommandsComplete :
    (∃ (s : State), s.host.halted = false ∧ s.pairOn = true ∧ s.pair.hbSlot ≠ s.clk.el / 2000) ∧
    (∃ (s : State), s.host.halted = false ∧ s.pairOn = true ∧ s.primary = true ∧ s.pair.outAt + 1000000 ≤ s.clk.el) ∧
    (∃ (s : State), s.host.halted = false ∧ s.pairOn = true ∧ s.pair.aliveUs ≠ s.clk.now / 1000) ∧
    (∃ (s : State), s.host.halted = false ∧ s.pairOn = true ∧ s.pair.lastHb + 6500 ≤ s.clk.el) ∧
    (∃ (s : State), s.host.halted = false ∧ s.pairOn = true ∧ s.cv1 C_PAIRREC_ALIVE_IN ≠ 0xFF) ∧
    (∃ (e : Nat) (s : State), s.host.halted = false ∧ s.pair.listenFrom = some e ∧ s.pairOn = true ∧ s.running =
      true ∧ e + s.cv1 C_PAIRREC_WAIT_MS * 1000000 ≤ s.clk.el) ∧
    (∃ (s : State), s.host.halted = false ∧ s.pairOn = true ∧ s.primary = true ∧ s.rd PAIR_STAT_LINK = 1) ∧
    (∃ (l : List Nat) (m : List Nat) (s : State), s.host.halted = false ∧ s.pairOn = true ∧ l.map (fun x => x %
      256) = m ∧ 8 ≤ m.length ∧ leAt m 2 2 = m.length - 8 ∧ leAt m 4 4 = crc32c (m.take 4 ++ [0, 0, 0, 0] ++ m.drop
      8) ∧ leAt m 0 1 = 1) ∧
    (∃ (l : List Nat) (m : List Nat) (s : State), s.host.halted = false ∧ s.pairOn = true ∧ l.map (fun x => x %
      256) = m ∧ (m.length < 8 ∨ leAt m 2 2 ≠ m.length - 8 ∨ leAt m 4 4 ≠ crc32c (m.take 4 ++ [0, 0, 0, 0] ++
      m.drop 8))) :=
  ⟨⟨tat (tcfg [trec C_PAIRREC_MODE [(C_PAIRREC_ALIVE_IN, 1)]]) 2000, by decide +kernel⟩,
   ⟨tat ((tcfg [trec C_PAIRREC_MODE [(C_PAIRREC_ALIVE_IN, 1)]]).wr PAIR_STAT_ROLE 1) 1000000, by decide +kernel⟩,
   ⟨tat (tcfg [trec C_PAIRREC_MODE [(C_PAIRREC_ALIVE_IN, 1)]]) 1000, by decide +kernel⟩,
   ⟨tat ((tcfg [trec C_PAIRREC_MODE [(C_PAIRREC_ALIVE_IN, 1)]]).wr PAIR_STAT_ROLE 2) 6500, by decide +kernel⟩,
   ⟨(tcfg [trec C_PAIRREC_MODE [(C_PAIRREC_ALIVE_IN, 1)]]), by decide +kernel⟩,
   ⟨0, { (tcfg [trec C_PAIRREC_MODE [(C_PAIRREC_ALIVE_IN, 1)]]).wr SYS_STATE_STATE 6 with pair := { listenFrom := some 0 } }, by decide +kernel⟩,
   ⟨((tcfg [trec C_PAIRREC_MODE [(C_PAIRREC_ALIVE_IN, 1)]]).wr PAIR_STAT_ROLE 1).wr PAIR_STAT_LINK 1, by decide +kernel⟩,
   ⟨tieMsg 1 0 (List.replicate 20 0), tieMsg 1 0 (List.replicate 20 0), (tcfg [trec C_PAIRREC_MODE [(C_PAIRREC_ALIVE_IN, 1)]]), by decide +kernel⟩,
   ⟨[], [], (tcfg [trec C_PAIRREC_MODE [(C_PAIRREC_ALIVE_IN, 1)]]), by decide +kernel⟩⟩

theorem wit_StepRunsFrontCommand : ∃ (c : Instr) (rest : List Instr) (s : State), s.pending = c :: rest :=
  ⟨.pfail, [], { t0 with pending := [.pfail] }, by decide +kernel⟩

theorem wit_IdleStepPassesOneClockPeriod : ∃ (s : State), s.pending = [] :=
  ⟨t0, by decide +kernel⟩

theorem wit_AccessTypesGovernWrites :
    (∃ (a : Nat) (row : RegRow), regRow a = some row) ∧
    (∃ (row : RegRow) (f : FldRow), row.apart = true ∧ f ∈ row.fields) ∧
    (∃ (row : RegRow) (k : Nat), row.apart = true ∧ (∀ f ∈ row.fields, k < f.lo ∨ f.hi < k)) ∧
    (∃ (a : Nat) (row : RegRow) (f : FldRow), regRow a = some row ∧ f ∈ row.fields) :=
  ⟨⟨0x1F0F24, (regRow 0x1F0F24).get (by decide +kernel), by decide +kernel⟩,
   ⟨(regRow 0x30008).get (by decide +kernel), ⟨0, 0, .w1c, 0⟩, by decide +kernel⟩,
   ⟨(regRow 0x30008).get (by decide +kernel), 2, by decide +kernel⟩,
   ⟨0x30008, (regRow 0x30008).get (by decide +kernel), ⟨31, 16, .ro, 0⟩, by decide +kernel⟩⟩

theorem wit_HaltedCoreDoesNothing : ∃ (c : Instr) (s : State), s.host.halted = true ∧ c.alwaysOn = false :=
  ⟨.noOperation, { t0 with host := { halted := true } }, by decide +kernel⟩

theorem wit_ThermalHaltEndsOnlyByReset : ∃ (s : State), s.host.halted = true :=
  ⟨{ t0 with host := { halted := true } }, by decide +kernel⟩

theorem wit_EveryStepKeepsTheStoresCanonical : ∃ (s : State), s.storesWf ∧ s.queueWf :=
  ⟨t0, ⟨by decide +kernel, by decide +kernel, by decide +kernel⟩, fun _ h => nomatch h⟩

theorem wit_AbsentWritesAreIgnoredAndCounted :
    (∃ (a : Nat) (s : State), s.host.halted = false ∧ a % 4 = 0 ∧ a < 0x400000 ∧ s.absentAddr a = true) ∧
    (∃ (a : Nat) (n : Nat) (s : State), s.host.halted = false ∧ (n = 4 ∨ n = 8) ∧ a % n = 0 ∧ 0x600000 ≤ a ∧ a <
      0x700000 ∧ s.fuses.variant = 0x20) ∧
    (∃ (a : Word) (l : List Word) (s : State), s.host.halted = false ∧ l ≠ [] ∧ s.spiCheck a.toNat l.length = 0x5A
      ∧ (∀ k < l.length, s.absentAddr (a.toNat + 4 * k) = true)) ∧
    (∃ (s : State), s.host.halted = false) :=
  ⟨⟨0xE0000, { t0 with fuses := { variant := 0x20 } }, by decide +kernel⟩,
   ⟨0x6FFFF8, 8, { t0 with fuses := { variant := 0x20 } }, by decide +kernel⟩,
   ⟨0xEFFFC, [1], { t0 with fuses := { variant := 0x20 } }, by decide +kernel⟩,
   ⟨t0, by decide +kernel⟩⟩

theorem wit_MessagesFollowRisingEvents :
    (∃ (w : Fin 32) (s : State), s.host.halted = false ∧ s.winPresent w.val = true) ∧
    (∃ (w : Fin 32) (e : Fin 32) (s : State), s.host.halted = false ∧ s.winPresent w.val = true ∧ bitAt (s.rdi
      UNIT_EVT_EVT w) e = false ∧ bitAt (s.rdi UNIT_EVT_EN_EN w) e = true) ∧
    (∃ (w : Fin 32) (e : Fin 32) (s : State), (bitAt (s.rdi UNIT_EVT_EVT w) e = true ∨ bitAt (s.rdi UNIT_EVT_EN_EN
      w) e = false)) ∧
    (∃ (w : Fin 32) (v : Word) (s : State), s.host.halted = false ∧ s.winPresent w.val = true ∧ (∀ e : Fin 32,
      bitAt v.toNat e = true → bitAt (s.rdi UNIT_EVT_EN_EN w) e = true ∨ bitAt (s.rdi UNIT_EVT_EVT w) e = false)) ∧
    (∃ (w : Fin 32) (e : Fin 32) (v : Word) (s : State), s.host.halted = false ∧ s.winPresent w.val = true ∧ bitAt
      v.toNat e = true ∧ bitAt (s.rdi UNIT_EVT_EN_EN w) e = false ∧ bitAt (s.rdi UNIT_EVT_EVT w) e = true ∧ (∀ k :
      Fin 32, k ≠ e → bitAt v.toNat k = true → bitAt (s.rdi UNIT_EVT_EN_EN w) k = true ∨ bitAt (s.rdi UNIT_EVT_EVT
      w) k = false)) ∧
    (∃ (s : State), s.host.halted = false) :=
  ⟨⟨31, t0, by decide +kernel⟩,
   ⟨31, 31, (t0.wri UNIT_EVT_EN_EN 31 0x80000000), by decide +kernel⟩,
   ⟨31, 31, t0, by decide +kernel⟩,
   ⟨31, 0x80000000, t0, by decide +kernel⟩,
   ⟨31, 31, 0xFFFFFFFF, (t0.wri UNIT_EVT_EVT 31 0x80000000), by decide +kernel⟩,
   ⟨t0, by decide +kernel⟩⟩

theorem wit_AbsentWindowsStaySilent :
    (∃ (w : Fin 32) (s : State), s.winPresent w = false) ∧
    (∃ (w : Fin 32) (o : Nat) (s : State), s.host.halted = false ∧ s.winPresent w = false ∧ o % 4 = 0 ∧ o <
      0x10000) :=
  ⟨⟨31, { t0 with fuses := { variant := 0x20 } }, by decide +kernel⟩,
   ⟨31, 0xFFFC, { t0 with fuses := { variant := 0x20 } }, by decide +kernel⟩⟩

theorem wit_PowerStateIsTheDeepestTheToleranceAllows :
    (∃ (g : Fin 12) (s : State), s.groupUsed g = true) ∧
    (∃ (g : Fin 12) (s : State), s.groupUsed g = false) ∧
    (∃ (g : Fin 12) (s : State), s.groupUsed g = true ∧ s.rdi PWR_LAT_LAT g = 0) :=
  ⟨⟨9, { t0 with loader := { committed := true, recs := [⟨0xB0, 0, 0, []⟩] } }, by decide +kernel⟩,
   ⟨11, t0, by decide +kernel⟩,
   ⟨9, { t0 with loader := { committed := true, recs := [⟨0xB0, 0, 0, []⟩] } }, by decide +kernel⟩⟩

theorem wit_HspiWritesApplyInOrderOrNotAtAll :
    (∃ (s : State), s.host.halted = false) ∧
    (∃ (a : Word) (l : List Word) (s : State), s.host.halted = false ∧ s.spiCheck a.toNat l.length = 0x5A) ∧
    (∃ (a : Word) (l : List Word) (s : State), s.host.halted = false ∧ s.spiCheck a.toNat l.length ≠ 0x5A) :=
  ⟨⟨t0, by decide +kernel⟩,
   ⟨0x8, [0], t0, by decide +kernel⟩,
   ⟨0x1FFFC, [0, 0], t0, by decide +kernel⟩⟩

theorem wit_CorrectableReadsAreCorrectedNotWrittenBack :
    (∃ (a : Nat) (r : Nat) (s : State), regionOf a = some r ∧ s.usable r = true ∧ 0 < s.memFlips a ∧ s.memFlips a ≤
      2) ∧
    (∃ (a : Nat) (r : Nat) (s : State), s.host.halted = false ∧ a % 8 = 0 ∧ regionOf a = some r ∧ s.absentAddr a =
      false ∧ s.usable r = true ∧ 0 < s.memFlips a ∧ s.memFlips a ≤ 2) ∧
    (∃ (r : Fin 7) (a : Nat) (s : State), s.host.halted = false ∧ r ≠ 6 ∧ s.rdi MEM_SCRUB_EN r = 1 ∧ s.marked r =
      true ∧ s.usable r = true ∧ (r = 4 → s.is20 = false) ∧ listAt s.memu.lastScrub r 0 + s.scrubNs r ≤ s.clk.el ∧
      s.rdi MEM_POS_WORD r < regionWords r ∧ a = (regionSpan r).1 + 8 * s.rdi MEM_POS_WORD r ∧ 0 < s.memFlips a ∧
      s.memFlips a ≤ 2) :=
  ⟨⟨0x2000000, 0, { t0 with memErr := [(0x400000, 2)] }, by decide +kernel⟩,
   ⟨0x2000000, 0, { t0 with memErr := [(0x400000, 2)] }, by decide +kernel⟩,
   ⟨0, 0x2000000, ((({ t0 with memErr := [(0x400000, 2)], clk := { t0.clk with el := 1000000000000 } } : State).wri MEM_SCRUB_EN 0 1).wr MEM_REGION_INIT 1), by decide +kernel⟩⟩

theorem wit_FrameStartTrimsTheEdgeQueue :
    (∃ (n : Fin 8) (rest : List PixItem) (s : State), s.host.halted = false ∧ s.pix.trn.length = 8 ∧ (s.trn n).inq
      = .frameStart :: rest ∧ s.trnOn n = true) ∧
    (∃ (v : Word) (s : State), s.host.halted = false ∧ s.winPresent 15 = true ∧ s.pix.trn.length = 8 ∧ bitAt
      v.toNat 31 = true) ∧
    (∃ (s : State), s.host.halted = false ∧ s.winPresent 15 = true ∧ s.pix.trn.length = 8) :=
  ⟨⟨7, [], { ((tcfg [trec C_STREAM_PORT [(C_STREAM_PORT, 1), (C_STREAM_DT, 0x2A), (C_STREAM_TRANSIT, 7)]]).wri TRN_CTRL_EN 7 1).wr MEM_REGION_INIT 4 with pix := { trn := t0.pix.trn.set 7 { inq := [.frameStart], edges := [1, 2, 3] } } }, by decide +kernel⟩,
   ⟨0x80000000, t0, by decide +kernel⟩,
   ⟨t0, by decide +kernel⟩⟩

theorem wit_MemoryStoresStayInTheirWord : ∃ (a : Nat) (s : State), s.memFlips a ≤ 2 :=
  ⟨0x2000000, { t0 with memErr := [(0x400000, 2)] }, by decide +kernel⟩

end Sys2Proof.Tests
end

/-! # Settled statements on the scope: completion, canonical stores, access types, absent windows, host accesses, reset -/

namespace Sys2Proof.Machine

open Sys2Proof

/-! ## Every command answers a next state -/

/-- The outcome is a next state. -/
def Answers (o : Host.Outcome State Fault Refusal) : Prop := ∃ t : State, o = .next t

theorem Answers.ok (t : State) : Answers (Sys2Proof.Machine.ok t) := ⟨t, rfl⟩

theorem Answers.ite {a b : Host.Outcome State Fault Refusal} {c : Prop} [Decidable c] (h : Answers a) (k : Answers b) :
    Answers (if c then a else b) := by split <;> assumption

theorem Answers.powered {t : State} {o : Host.Outcome State Fault Refusal} (h : Answers o) : Answers (t.powered o) :=
  Answers.ite (Answers.ok t) h

theorem execDemandRead_answers (addr size : Nat) (s : State) : Answers (execDemandRead addr size s) := by
  refine Answers.powered (Answers.ite (Answers.ok _) ?_)
  split
  split <;> exact Answers.ok _

/-- An arm of `exec` is built from `ok` with `if`, `match` and `State.powered`, so the proof goes down along these. The
arms listed by name are those without `State.powered` at their head (the field dies, the resets, the operating time). -/
theorem exec_answers (c : Instr) (s : State) : Answers (exec c s) := by
  cases c
  all_goals dsimp only [exec, execPowerOnReset, execWarmReset, execFieldDieFrameReceive, execInboundFrameSend,
    execSilenceTimeout, execDebouncedChange, execInputRepeat, execWireBreak, execWireIntact, execOverCurrent,
    execSwitchThermalShutdown, execThermalRetry, execOpenLoad, execShortVs, execUnderVoltage, execBankRestore,
    execBankWarn, execOpenWire, execOverload, execFieldDieSupplyLoss, execOperatingTimeTick]
  all_goals try refine Answers.powered ?_
  all_goals repeat' first
    | with_reducible exact Answers.ok _
    | with_reducible refine Answers.ite ?_ ?_
    | with_reducible exact execDemandRead_answers _ _ _
    | split
    | dsimp only

/-- Every command answers a next state inside the frame of its mask. -/
theorem exec_completes (c : Instr) (s : State) : ∃ t : State, exec c s = .next t ∧ Frame (Instr.frameMask c) s t := by
  obtain ⟨t, ht⟩ := exec_answers c s
  exact ⟨t, ht, exec_frame c s t ht⟩

/-- A part outside a command's mask is the same after it. -/
theorem exec_keeps (c : Instr) (s : State) {p : Part} (h : (Instr.frameMask c).testBit p.ix = false) :
    ∃ t : State, exec c s = .next t ∧ p.same s t := by
  obtain ⟨t, ht, hf⟩ := exec_completes c s
  exact ⟨t, ht, hf.1 p h⟩

/-! ## The queue and the canonical stores -/

theorem Instr.frameMask_pending (c : Instr) : (Instr.frameMask c).testBit Part.pending.ix = false := by
  cases c <;> dsimp only [Instr.frameMask, Part.ix] <;> decide

theorem exec_keeps_canonical (c : Instr) (s : State) (h : s.storesWf) :
    ∃ t : State, exec c s = .next t ∧ t.storesWf ∧ t.pending = s.pending := by
  obtain ⟨t, ht, hf⟩ := exec_completes c s
  exact ⟨t, ht, hf.2 h, hf.1 .pending (Instr.frameMask_pending c)⟩

theorem step_of_pending_nil {s : State} (h : s.pending = []) : step s = .next s.tick := by simp only [step, h]

/-- Settles O35: the definition of a step at a queue with a front. -/
theorem stepRunsFrontCommand : Obligations.StepRunsFrontCommand := by
  unfold Obligations.StepRunsFrontCommand
  intro c rest s h
  simp only [step, h]

/-- Settles O43: the frame of an idle step, or of the front command, keeps the stores canonical and the rest of the
queue as it was. -/
theorem everyStepKeepsTheStoresCanonical : Obligations.EveryStepKeepsTheStoresCanonical := by
  unfold Obligations.EveryStepKeepsTheStoresCanonical
  intro s hs hq
  cases hp : s.pending with
  | nil =>
    have hf := State.tick_frame s
    have hpend : s.tick.pending = s.pending := hf.1 .pending (by decide)
    exact ⟨s.tick, step_of_pending_nil hp, hf.2 hs, fun d hd => hq d (hpend ▸ hd)⟩
  | cons c rest =>
    obtain ⟨t, ht, hst, hpend⟩ := exec_keeps_canonical c { s with pending := rest } hs
    refine ⟨t, (stepRunsFrontCommand c rest s hp).trans ht, hst, fun d hd => hq d ?_⟩
    rw [hpend] at hd
    rw [hp]
    exact List.mem_cons_of_mem c hd

/-! ## Protected state -/

theorem Instr.frameMask_fusesFixed (c : Instr) : (Instr.frameMask c).testBit Part.fusesFixed.ix = false := by
  cases c <;> dsimp only [Instr.frameMask, Part.ix] <;> decide

theorem Instr.frameMask_fusesFieldRows (c : Instr) :
    (Instr.frameMask c).testBit Part.fusesFieldRows.ix = false ∨ ∃ good : Bool, c = .repairdone good := by
  cases c
  case repairdone good => exact .inr ⟨good, rfl⟩
  all_goals
    left
    dsimp only [Instr.frameMask, Part.ix]
    decide

/-- The command is one of the two resets. -/
def Instr.Resets (c : Instr) : Prop :=
  (∃ (supv aon : Bool) (env : BootEnv), c = .powerOnReset supv aon env) ∨ ∃ (pin : Bool) (env : BootEnv), c = .warmReset pin env

theorem Instr.resets_powerOnReset (supv aon : Bool) (env : BootEnv) : Instr.Resets (.powerOnReset supv aon env) :=
  .inl ⟨supv, aon, env, rfl⟩

theorem Instr.resets_warmReset (pin : Bool) (env : BootEnv) : Instr.Resets (.warmReset pin env) := .inr ⟨pin, env, rfl⟩

theorem Instr.frameMask_clk (c : Instr) : (Instr.frameMask c).testBit Part.clk.ix = false ∨ c = .servoUpdate ∨ c = .step ∨
    (∃ (m : List Nat) (lat : BitVec 16), c = .tieMessage m lat) ∨ Instr.Resets c := by
  cases c
  case servoUpdate => exact .inr (.inl rfl)
  case step => exact .inr (.inr (.inl rfl))
  case tieMessage m lat => exact .inr (.inr (.inr (.inl ⟨m, lat, rfl⟩)))
  case powerOnReset supv aon env => exact .inr (.inr (.inr (.inr (Instr.resets_powerOnReset supv aon env))))
  case warmReset pin env => exact .inr (.inr (.inr (.inr (Instr.resets_warmReset pin env))))
  all_goals
    left
    dsimp only [Instr.frameMask, Part.ix]
    decide

theorem Instr.frameMask_image (c : Instr) : ((Instr.frameMask c).testBit Part.loaderCommitted.ix = false ∧
    (Instr.frameMask c).testBit Part.loaderImageRecs.ix = false) ∨ c = .commit ∨ Instr.Resets c := by
  cases c
  case commit => exact .inr (.inl rfl)
  case powerOnReset supv aon env => exact .inr (.inr (Instr.resets_powerOnReset supv aon env))
  case warmReset pin env => exact .inr (.inr (Instr.resets_warmReset pin env))
  all_goals
    left
    dsimp only [Instr.frameMask, Part.ix]
    decide

theorem Instr.frameMask_hostHalted (c : Instr) : (Instr.frameMask c).testBit Part.hostHalted.ix = false ∨
    (∃ (n : Fin 32) (raw : BitVec 16) (bad : Bool), c = .sensorSample n raw bad) ∨ Instr.Resets c := by
  cases c
  case sensorSample n raw bad => exact .inr (.inl ⟨n, raw, bad, rfl⟩)
  case powerOnReset supv aon env => exact .inr (.inr (Instr.resets_powerOnReset supv aon env))
  case warmReset pin env => exact .inr (.inr (Instr.resets_warmReset pin env))
  all_goals
    left
    dsimp only [Instr.frameMask, Part.ix]
    decide

theorem Instr.frameMask_memEpoch (c : Instr) : (Instr.frameMask c).testBit Part.memEpoch.ix = false ∨ Instr.Resets c := by
  cases c
  case powerOnReset supv aon env => exact .inr (Instr.resets_powerOnReset supv aon env)
  case warmReset pin env => exact .inr (Instr.resets_warmReset pin env)
  all_goals
    left
    dsimp only [Instr.frameMask, Part.ix]
    decide

/-- Settles O52: each part is outside the mask of every command but those named. -/
theorem protectedStateChangesOnlyByItsCommands : Obligations.ProtectedStateChangesOnlyByItsCommands := by
  unfold Obligations.ProtectedStateChangesOnlyByItsCommands
  refine ⟨fun c s => exec_keeps c s (Instr.frameMask_fusesFixed c), fun c s => ?_, fun c s => ?_, fun c s => ?_, fun c s => ?_,
    fun c s => ?_⟩
  all_goals obtain ⟨t, ht, hf⟩ := exec_completes c s
  · exact ⟨t, ht, (Instr.frameMask_fusesFieldRows c).imp_left (hf.1 .fusesFieldRows)⟩
  · exact ⟨t, ht, (Instr.frameMask_clk c).imp_left (hf.1 .clk)⟩
  · exact ⟨t, ht, (Instr.frameMask_image c).imp_left (.imp (hf.1 .loaderCommitted) (hf.1 .loaderImageRecs))⟩
  · exact ⟨t, ht, (Instr.frameMask_hostHalted c).imp_left (hf.1 .hostHalted)⟩
  · exact ⟨t, ht, (Instr.frameMask_memEpoch c).imp_left (hf.1 .memEpoch)⟩

/-! ## Fields of a register written one after another -/

/-- Two fields share no bit. -/
def FldRow.Apart (f g : FldRow) : Prop := f.hi < g.lo ∨ g.hi < f.lo

theorem FldRow.apart_symm : Std.Symm FldRow.Apart := ⟨fun _ _ => Or.symm⟩

/-- Every field of the list lies in 32 bits. -/
def FieldsIn32 (l : List FldRow) : Prop := ∀ f ∈ l, f.lo ≤ f.hi ∧ f.hi < 32

theorem RegRow.apart_iff (row : RegRow) : row.apart = true ↔ FieldsIn32 row.fields ∧ row.fields.Pairwise FldRow.Apart := by
  simp only [RegRow.apart, Bool.and_eq_true, List.all_eq_true, decide_eq_true_eq]
  rfl

/-- Each field of the list set to its value in `g`. -/
def putFields (g : FldRow → Nat) (l : List FldRow) (v : Nat) : Nat := l.foldl (fun w f => setBits w f.hi f.lo (g f)) v

theorem putFields_lt (g : FldRow → Nat) {l : List FldRow} (hl : FieldsIn32 l) {v : Nat} (hv : v < 2 ^ 32) :
    putFields g l v < 2 ^ 32 := by
  induction l generalizing v with
  | nil => exact hv
  | cons f l ih =>
    obtain ⟨hf, hl⟩ := List.forall_mem_cons.mp hl
    exact ih hl (setBits_lt v _ hf.1 hf.2 hv)

/-- Bits outside every field of the list stay. -/
theorem bitsOf_putFields_outside (g : FldRow → Nat) {l : List FldRow} (hl : FieldsIn32 l) {hi lo : Nat}
    (h : ∀ f ∈ l, hi < f.lo ∨ f.hi < lo) (v : Nat) : bitsOf (putFields g l v) hi lo = bitsOf v hi lo := by
  induction l generalizing v with
  | nil => rfl
  | cons f l ih =>
    obtain ⟨hf, hl⟩ := List.forall_mem_cons.mp hl
    obtain ⟨hd, h⟩ := List.forall_mem_cons.mp h
    calc bitsOf (putFields g l (setBits v f.hi f.lo (g f))) hi lo
        = bitsOf (setBits v f.hi f.lo (g f)) hi lo := ih hl h _
      _ = bitsOf v hi lo := hd.elim (bitsOf_setBits_below v _ hf.1) (bitsOf_setBits_above v _ hf.1)

/-- A field of the list holds its value. -/
theorem bitsOf_putFields_mem (g : FldRow → Nat) {l : List FldRow} (hl : FieldsIn32 l) (hp : l.Pairwise FldRow.Apart)
    {f : FldRow} (hf : f ∈ l) (v : Nat) : bitsOf (putFields g l v) f.hi f.lo = g f % 2 ^ (f.hi + 1 - f.lo) := by
  induction l generalizing v with
  | nil => cases hf
  | cons k l ih =>
    obtain ⟨hk, hin⟩ := List.forall_mem_cons.mp hl
    obtain ⟨hd, hap⟩ := List.pairwise_cons.mp hp
    cases hf with
    | head =>
      calc bitsOf (putFields g l (setBits v f.hi f.lo (g f))) f.hi f.lo
          = bitsOf (setBits v f.hi f.lo (g f)) f.hi f.lo := bitsOf_putFields_outside g hin hd _
        _ = g f % 2 ^ (f.hi + 1 - f.lo) := bitsOf_setBits_same v _ hk.1
    | tail _ hf => exact ih hin hap hf _

/-! ## Access types (R13, R14) -/

theorem accWrite_lt (acc : Acc) {o n w : Nat} (ho : o < 2 ^ w) (hn : n < 2 ^ w) : accWrite acc o n < 2 ^ w := by
  cases acc with
  | rw | rwh => exact hn
  | w1c => exact lt_of_le_of_lt (Nat.sub_le _ _) ho
  | w1s => exact Nat.or_lt_two_pow ho hn
  | ro | rc | wo => exact ho

theorem rowWrite_eq_putFields (row : RegRow) (old v : Nat) : rowWrite row old v =
    putFields (fun f => accWrite f.acc (bitsOf old f.hi f.lo) (bitsOf v f.hi f.lo)) row.fields old := rfl

/-- A field after a write holds what its access type says. -/
theorem bitsOf_rowWrite {row : RegRow} (hr : row.apart = true) {f : FldRow} (hf : f ∈ row.fields) (old v : Nat) :
    bitsOf (rowWrite row old v) f.hi f.lo = accWrite f.acc (bitsOf old f.hi f.lo) (bitsOf v f.hi f.lo) := by
  obtain ⟨hin, hp⟩ := row.apart_iff.mp hr
  rw [rowWrite_eq_putFields, bitsOf_putFields_mem _ hin hp hf]
  exact Nat.mod_eq_of_lt (accWrite_lt f.acc (bitsOf_lt _ _ _) (bitsOf_lt _ _ _))

/-- A bit outside every field stays at a write. -/
theorem bitAt_rowWrite_outside {row : RegRow} (hr : row.apart = true) {k : Nat} (h : ∀ f ∈ row.fields, k < f.lo ∨ f.hi < k)
    (old v : Nat) : bitAt (rowWrite row old v) k = bitAt old k := by
  rw [bitAt_eq_bitsOf, bitAt_eq_bitsOf, rowWrite_eq_putFields,
    bitsOf_putFields_outside _ (row.apart_iff.mp hr).1 h]

theorem regRows_apart : regRows.all RegRow.apart = true := by decide +kernel

theorem regRow_apart {a : Nat} {row : RegRow} (h : regRow a = some row) : row.apart = true :=
  List.all_eq_true.mp regRows_apart row (List.mem_of_find?_eq_some h)

/-- The read-clear fields of a row. -/
def RegRow.rcFields (row : RegRow) : List FldRow := row.fields.filter (fun f => f.acc = .rc)

/-- A read sets the read-clear fields of the register to 0. -/
theorem State.reg_readClear {s : State} {a : Nat} {row : RegRow} (h : regRow a = some row) :
    (s.readClear a).reg a = putFields (fun _ => 0) row.rcFields (s.reg a) := by
  obtain ⟨hin, -⟩ := row.apart_iff.mp (regRow_apart h)
  have hfold : row.fields.foldl (fun w f => if f.acc = .rc then setBits w f.hi f.lo 0 else w) (s.reg a) =
      putFields (fun _ => 0) row.rcFields (s.reg a) := by
    simp only [putFields, RegRow.rcFields, List.foldl_filter, decide_eq_true_eq]
  have hlt : putFields (fun _ => 0) row.rcFields (s.reg a) < 2 ^ 32 :=
    putFields_lt _ (fun f hf => hin f (List.mem_of_mem_filter hf)) (s.reg_lt a)
  simp only [State.readClear, h]
  split
  · rw [hfold, State.reg_setReg_same, Nat.mod_eq_of_lt hlt]
  · next hn =>
    have hnil : row.rcFields = [] := by simpa [RegRow.rcFields] using hn
    rw [hnil]
    rfl

/-- After a read the read-clear fields are 0 and the others as before. -/
theorem State.bitsOf_reg_readClear {s : State} {a : Nat} {row : RegRow} (h : regRow a = some row) {f : FldRow}
    (hf : f ∈ row.fields) :
    bitsOf ((s.readClear a).reg a) f.hi f.lo = if f.acc = .rc then 0 else bitsOf (s.reg a) f.hi f.lo := by
  obtain ⟨hin, hp⟩ := row.apart_iff.mp (regRow_apart h)
  have hin' : FieldsIn32 row.rcFields := fun g hg => hin g (List.mem_of_mem_filter hg)
  rw [State.reg_readClear h]
  split
  · next hc =>
    have hmem : f ∈ row.rcFields := List.mem_filter.mpr ⟨hf, decide_eq_true hc⟩
    rw [bitsOf_putFields_mem _ hin' (hp.filter _) hmem, Nat.zero_mod]
  · next hc =>
    refine bitsOf_putFields_outside _ hin' (fun g hg => ?_) _
    obtain ⟨hg, hgc⟩ := List.mem_filter.mp hg
    have hne : f ≠ g := fun e => hc (e ▸ of_decide_eq_true hgc)
    have hsymm := FldRow.apart_symm
    exact hp.forall hf hg hne

/-- Settles O39: a write is `putFields` of the access types' values, a read `putFields` of 0 into the RC fields. -/
theorem accessTypesGovernWrites : Obligations.AccessTypesGovernWrites := by
  unfold Obligations.AccessTypesGovernWrites
  refine ⟨fun a row h => regRow_apart h, fun row f old v hr hf => ?_,
    fun row old v k hr h => bitAt_rowWrite_outside hr h old v, fun a row f s h hf => State.bitsOf_reg_readClear h hf⟩
  rw [bitsOf_rowWrite hr hf]
  cases f.acc <;> rfl

/-! ## Sums of distinct powers of two -/

/-- The number whose bits below `n` are those that `p` selects. -/
def bitSum (p : Nat → Bool) (n : Nat) : Nat := ((List.range n).map (fun w => if p w then 2 ^ w else 0)).sum

theorem bitSum_succ (p : Nat → Bool) (n : Nat) : bitSum p (n + 1) = (if p n then 2 ^ n else 0) + bitSum p n := by
  simp [bitSum, List.range_succ, Nat.add_comm]

theorem bitSum_lt (p : Nat → Bool) (n : Nat) : bitSum p n < 2 ^ n := by
  induction n with
  | zero => exact Nat.one_pos
  | succ n ih =>
    rw [bitSum_succ, Nat.pow_succ]
    split <;> omega

theorem bitAt_eq_testBit (v i : Nat) : bitAt v i = v.testBit i := by
  rw [Nat.testBit_eq_decide_div_mod_eq]
  rfl

theorem bitAt_bitSum (p : Nat → Bool) {n k : Nat} (h : k < n) : bitAt (bitSum p n) k = p k := by
  rw [bitAt_eq_testBit]
  induction n with
  | zero => omega
  | succ n ih =>
    have htop : (bitSum p n).testBit n = false := Nat.testBit_lt_two_pow (bitSum_lt p n)
    rw [bitSum_succ]
    rcases Nat.lt_succ_iff_lt_or_eq.mp h with h | rfl
    · split
      · rw [Nat.testBit_two_pow_add_gt h, ih h]
      · rw [Nat.zero_add, ih h]
    · split
      · next hp => rw [Nat.testBit_two_pow_add_eq, htop, hp]; rfl
      · next hp => rw [Nat.zero_add, htop, Bool.eq_false_of_not_eq_true hp]

/-! ## Absent units (R3, R4, R7) -/

section Absent

variable {s : State}

/-- Bit `w` of SYS_EVT_SUM: window `w` is present and has a pending enabled event. -/
theorem State.bitAt_evtSum (s : State) {w : Nat} (h : w < 32) :
    bitAt s.evtSum w = (s.winPresent w && (s.rdi UNIT_EVT_EVT w &&& s.rdi UNIT_EVT_EN_EN w) != 0) :=
  bitAt_bitSum (fun w => s.winPresent w && (s.rdi UNIT_EVT_EVT w &&& s.rdi UNIT_EVT_EN_EN w) != 0) h

theorem State.powered_of_not_halted (h : s.host.halted = false) (o : Host.Outcome State Fault Refusal) :
    s.powered o = o := by simp [State.powered, h]

theorem State.raise_of_absent {w : Nat} (h : s.winPresent w = false) (e : Nat) : s.raise w e = s := by
  simp [State.raise, h]

/-- Every address of an absent window is absent. -/
theorem State.absentAddr_of_window {w : Nat} (hw : w < 32) (h : s.winPresent w = false) {o : Nat} (ho : o < 0x10000) :
    s.absentAddr (0x10000 * w + o) = true := by
  have hdiv : (0x10000 * w + o) / 0x10000 = w := by omega
  have hlt : 0x10000 * w + o < 0x400000 := by omega
  simp [State.absentAddr, hdiv, hlt, h]

theorem State.reserved_of_absent {a : Nat} (h : s.absentAddr a = true) : s.reserved a = false := by
  simp [State.reserved, h]

theorem accessOk_word {a : Nat} (h : a % 4 = 0) : accessOk a 4 = true := by simp [accessOk, h]

/-- A 32-bit read in the register space, of a word that is not reserved. -/
theorem execReadClear_word {a : Nat} (hp : s.host.halted = false) (h4 : a % 4 = 0) (hlt : a < 0x400000)
    (hr : s.reserved a = false) :
    execReadClear a 4 s = .next ((s.wordRead a).2.emit (.readData a ((s.wordRead a).1.getD 0))) := by
  rw [execReadClear, State.powered_of_not_halted hp, if_neg (by omega), accessOk_word h4, hr]
  rfl

theorem State.wordRead_of_absent {a : Nat} (hlt : a < 0x400000) (h : s.absentAddr a = true) :
    s.wordRead a = (some 0xAB5E0000, s) := by
  rw [State.wordRead, if_neg (by omega), h]
  rfl

/-- A 32-bit read of an absent word of the register space (R3). -/
theorem exec_readClear_absent {a : Nat} (hp : s.host.halted = false) (h4 : a % 4 = 0) (hlt : a < 0x400000)
    (h : s.absentAddr a = true) : exec (.readClear a 4) s = .next (s.emit (.readData a 0xAB5E0000)) := by
  refine (execReadClear_word hp h4 hlt (State.reserved_of_absent h)).trans ?_
  rw [State.wordRead_of_absent hlt h]
  rfl

/-- Enabling the events of an absent window reaches the ignored-write registers only. -/
theorem exec_eventEnable_absent {w : Fin 32} (h : s.winPresent w = false) (v : Word) :
    ∃ t : State, exec (.eventEnable w v) s = .next t ∧ t.out = s.out ∧ t.host = s.host := by
  have ha := State.absentAddr_of_window w.isLt h (o := 0xF04) (by decide)
  simp only [exec, execEventEnable, State.powered, ha, if_true]
  split
  · exact ⟨s, rfl, rfl, rfl⟩
  · exact ⟨_, rfl, rfl, rfl⟩

end Absent

/-- Settles O46: every address of an absent window is absent. -/
theorem absentWindowsStaySilent : Obligations.AbsentWindowsStaySilent := by
  unfold Obligations.AbsentWindowsStaySilent
  refine ⟨fun w e s h => ⟨State.raise_of_absent h e, ?_⟩, fun w v s h => exec_eventEnable_absent h v,
    fun w o s hp h h4 ho => ?_⟩
  · rw [s.bitAt_evtSum w.isLt, h]
    rfl
  · exact exec_readClear_absent hp (by omega) (by omega) (State.absentAddr_of_window w.isLt h ho)

section HostAccess

variable {s : State}

/-! ## Host accesses of registers (R4, R5, R14, R51) -/

theorem exec_registerWrite_memory {a : Nat} (hp : s.host.halted = false) (h : 0x400000 ≤ a) (n v : Nat) :
    exec (.registerWrite a n v) s = exec (.memoryWrite a n v) s := by
  simp only [exec, execRegisterWrite, execMemoryWrite, State.powered_of_not_halted hp, if_pos h]

/-- An access that the rules do not allow. -/
theorem exec_registerWrite_unsupported {a n : Nat} (hp : s.host.halted = false) (hlt : a < 0x400000)
    (h : accessOk a n = false ∨ s.reserved a = true) (v : Nat) :
    exec (.registerWrite a n v) s = .next (s.emit (.unsupported a)) := by
  have hc : (!accessOk a n || s.reserved a) = true := by
    rcases h with h | h <;> simp [h]
  simp only [exec, execRegisterWrite, State.powered_of_not_halted hp, if_neg (Nat.not_le.mpr hlt), hc, if_true]
  rfl

/-- A 32-bit write in the register space, of a word that is not reserved. -/
theorem exec_registerWrite_word {a : Nat} (hp : s.host.halted = false) (h4 : a % 4 = 0) (hlt : a < 0x400000)
    (hr : s.reserved a = false) (v : Nat) :
    exec (.registerWrite a 4 v) s = .next (s.wordWrite a (v % 2 ^ 32)) := by
  simp only [exec, execRegisterWrite, State.powered_of_not_halted hp, if_neg (Nat.not_le.mpr hlt), accessOk_word h4, hr,
    Bool.not_true, Bool.or_false, Bool.false_eq_true, if_false, if_true]
  rfl

theorem State.reserved_of_regRow {a : Nat} {row : RegRow} (hlt : a < 0x400000) (h : regRow a = some row) :
    s.reserved a = false := by simp [State.reserved, hlt, h]

theorem State.wordWrite_of_absent {a : Nat} (hlt : a < 0x400000) (h : s.absentAddr a = true) (v : Nat) :
    s.wordWrite a v = s.absentWrite a := by
  rw [State.wordWrite, if_neg (by omega), if_pos h]

/-- The ignored-write registers after a write to an absent address (R4). -/
theorem State.absentWrite_count (s : State) (a : Nat) :
    (s.absentWrite a).rd SYS_ABSENT_WR_COUNT = min (s.rd SYS_ABSENT_WR_COUNT + 1) (2 ^ 32 - 1) := by
  have hlt : min (s.rd SYS_ABSENT_WR_COUNT + 1) (2 ^ 32 - 1) < 2 ^ 32 := by omega
  calc (s.absentWrite a).rd SYS_ABSENT_WR_COUNT
      = (s.inc SYS_ABSENT_WR_COUNT 1).rd SYS_ABSENT_WR_COUNT := State.rdij_wrij_apart _ _ _ _ _ _ _ _ (by decide)
    _ = min (s.rd SYS_ABSENT_WR_COUNT + 1) (2 ^ 32 - 1) % 2 ^ 32 := State.rdij_wrij_same s _ _ _ _ (by decide) (by decide)
    _ = min (s.rd SYS_ABSENT_WR_COUNT + 1) (2 ^ 32 - 1) := Nat.mod_eq_of_lt hlt

@[inherit_doc State.absentWrite_count]
theorem State.absentWrite_addr (s : State) {a : Nat} (h : a < 2 ^ 32) : (s.absentWrite a).rd SYS_ABSENT_ADDR_ADDR = a :=
  (State.rdij_wrij_same _ _ _ _ _ (by decide) (by decide)).trans (Nat.mod_eq_of_lt h)

theorem State.winPresent_of_always {w : Nat} (h : w ∈ [0, 1, 16, 30]) (s : State) : s.winPresent w = true := by
  unfold State.winPresent
  simp only [List.mem_cons, List.not_mem_nil, or_false] at h
  rcases h with rfl | rfl | rfl | rfl <;> split <;> rfl

/-- The windows SYS, CLK, FEA and TWN hold no absent address. -/
theorem State.absentAddr_of_always {a : Nat} (h : a / 0x10000 ∈ [0, 1, 16, 30]) (s : State) : s.absentAddr a = false := by
  have hw := State.winPresent_of_always h s
  simp only [List.mem_cons, List.not_mem_nil, or_false] at h
  simp only [State.absentAddr, hw, Bool.not_true, Bool.and_false, Bool.false_or, Bool.and_eq_false_iff,
    Bool.or_eq_false_iff, decide_eq_false_iff_not]
  omega

/-- No register of the windows CLK, FEA and TWN is half of a 64-bit pair (R15). -/
theorem not_pair_of_plain_window {a : Nat} (h : a / 0x10000 ∈ [1, 16, 30]) :
    pairLows.contains a = false ∧ isHigh a = false := by
  simp only [List.mem_cons, List.not_mem_nil, or_false] at h
  simp only [isHigh, pairLows, List.contains_eq_mem, List.mem_cons, List.not_mem_nil, or_false, Bool.and_eq_false_iff,
    decide_eq_false_iff_not]
  omega

/-- A write of a register in CLK, FEA or TWN, outside the event group, goes by access type alone. -/
theorem State.regWrite_of_plain_window {a : Nat} (h : a / 0x10000 ∈ [1, 16, 30])
    (he : a % 0x10000 < 0xF00 ∨ 0x1000 ≤ a % 0x10000) (s : State) (v : Nat) : s.regWrite a v = s.regPut a v := by
  obtain ⟨hlo, hhi⟩ := not_pair_of_plain_window h
  simp only [List.mem_cons, List.not_mem_nil, or_false] at h
  rw [State.regWrite, if_neg (by omega), if_neg (by omega), hlo, hhi]
  rcases h with h | h | h <;> rw [h] <;> rfl

theorem exec_registerWrite_plain {a : Nat} {row : RegRow} (hp : s.host.halted = false) (h4 : a % 4 = 0)
    (h : a / 0x10000 ∈ [1, 16, 30]) (he : a % 0x10000 < 0xF00 ∨ 0x1000 ≤ a % 0x10000) (hr : regRow a = some row) (v : Nat) :
    exec (.registerWrite a 4 v) s = .next (s.setReg a (rowWrite row (s.reg a) (v % 2 ^ 32))) := by
  have hlt : a < 0x400000 := by
    simp only [List.mem_cons, List.not_mem_nil, or_false] at h
    omega
  have ha : s.absentAddr a = false := State.absentAddr_of_always (List.mem_cons_of_mem _ h) s
  rw [exec_registerWrite_word hp h4 hlt (State.reserved_of_regRow hlt hr), State.wordWrite,
    if_neg (by omega), ha, State.regWrite_of_plain_window h he, State.regPut, hr]
  rfl

theorem exec_registerWrite_absent {a : Nat} (hp : s.host.halted = false) (h4 : a % 4 = 0) (hlt : a < 0x400000)
    (h : s.absentAddr a = true) (v : Nat) : exec (.registerWrite a 4 v) s = .next (s.absentWrite a) := by
  rw [exec_registerWrite_word hp h4 hlt (State.reserved_of_absent h), State.wordWrite_of_absent hlt h]

theorem regRow_absentWr : regRow 0xC = some ⟨0xc, 0x4, 1, 0x0, 1, [⟨31, 0, .rc, 0x0⟩]⟩ := by decide +kernel

theorem State.rd_absentWr (s : State) : s.rd SYS_ABSENT_WR_COUNT = s.reg 0xC := by
  have hlt : s.reg 0xC / 2 ^ 0 < 2 ^ 32 := by
    rw [Nat.pow_zero, Nat.div_one]
    exact s.reg_lt 0xC
  exact (Nat.mod_eq_of_lt hlt).trans (Nat.div_one _)

/-- A read of SYS_ABSENT_WR answers the register and clears what is read-clear. -/
theorem State.regRead_absentWr (s : State) : s.regRead 0xC = (s.reg 0xC, s.readClear 0xC) := rfl

theorem State.wordRead_absentWr (s : State) : s.wordRead 0xC = (some (s.reg 0xC), s.readClear 0xC) := by
  rw [State.wordRead, if_neg (by decide), State.absentAddr_of_always (by decide), State.regRead_absentWr]
  rfl

theorem exec_readClear_absentWr (hp : s.host.halted = false) : ∃ t : State, exec (.readClear 0xC 4) s = .next t ∧
    t.out = .readData 0xC (s.rd SYS_ABSENT_WR_COUNT) :: s.out ∧ t.rd SYS_ABSENT_WR_COUNT = 0 := by
  have hr := execReadClear_word hp (a := 0xC) (by decide) (by decide) (State.reserved_of_regRow (by decide) regRow_absentWr)
  rw [State.wordRead_absentWr] at hr
  have hout : (s.readClear 0xC).out = s.out := by
    simp only [State.readClear, regRow_absentWr]
    rfl
  refine ⟨_, hr, ?_, State.bitsOf_reg_readClear (s := s) regRow_absentWr (List.mem_singleton.mpr rfl)⟩
  rw [State.rd_absentWr, State.emit, hout, Option.getD_some]

/-! ## Host accesses of memory (R501, R503) -/

theorem memAccessBad_doubleword {a r : Nat} (h8 : a % 8 = 0) (hr : regionOf a = some r) : memAccessBad a 8 = false := by
  simp [memAccessBad, h8, hr]

/-- The write of a doubleword of a usable SRAM region stores it. -/
theorem exec_memoryWrite_doubleword {a r : Nat} (hp : s.host.halted = false) (h8 : a % 8 = 0) (hr : regionOf a = some r)
    (ha : s.absentAddr a = false) (hu : s.usable r = true) (h6 : r ≠ 6) (h1 : r = 1 → s.rd STK_CTRL_EN = 0) (v : Nat) :
    exec (.memoryWrite a 8 v) s = .next (s.memPut a v) := by
  have hstk : (decide (r = 1) && s.rd STK_CTRL_EN == 1) = false := by
    by_cases e : r = 1 <;> simp [e, h1]
  simp only [exec, execMemoryWrite, State.powered_of_not_halted hp, State.hostMemWrite, memAccessBad_doubleword h8 hr, ha,
    hr, hu, h6, hstk, Bool.not_true, Bool.false_eq_true, if_false, if_true]
  rfl

/-- A host read of a doubleword of a present region is a demand read of it. -/
theorem State.hostMemRead_doubleword {a : Nat} (h8 : a % 8 = 0) (ha : s.absentAddr a = false) :
    s.hostMemRead a 8 = s.memRead a := by
  have hdiv : a / 8 * 8 = a := by omega
  rw [State.hostMemRead, ha, hdiv]
  rcases s.memRead a with ⟨_ | v, t⟩ <;> rfl

theorem State.memRead_clean {a r : Nat} (hr : regionOf a = some r) (hu : s.usable r = true) (h : s.memFlips a = 0) :
    s.memRead a = (some (s.memWord a), s) := by simp [State.memRead, hr, hu, h]

/-- The state after a demand read of an uncorrectable word (R503). -/
def State.readUncorrectable (s : State) (a r : Nat) : State :=
  ((s.inci MEM_UE_DEMAND r 1).wri MEM_UEADDR_ADDR r (a / 8 * 8)).raise 6 16

theorem State.memRead_uncorrectable {a r : Nat} (hr : regionOf a = some r) (hu : s.usable r = true) (h : 2 < s.memFlips a) :
    s.memRead a = (none, s.readUncorrectable a r) := by
  have h0 : s.memFlips a ≠ 0 := by omega
  simp [State.memRead, State.readUncorrectable, hr, hu, h0, Nat.not_le.mpr h]

theorem State.readUncorrectable_count (s : State) (a r : Nat) :
    (s.readUncorrectable a r).rdi MEM_UE_DEMAND r = min (s.rdi MEM_UE_DEMAND r + 1) (2 ^ 16 - 1) := by
  have hlt : min (s.rdi MEM_UE_DEMAND r + 1) (2 ^ 16 - 1) < 2 ^ 16 := by omega
  calc (s.readUncorrectable a r).rdi MEM_UE_DEMAND r
      = ((s.inci MEM_UE_DEMAND r 1).wri MEM_UEADDR_ADDR r (a / 8 * 8)).rdi MEM_UE_DEMAND r :=
        State.rdij_raise _ _ _ _ _ _ (by decide)
    _ = (s.inci MEM_UE_DEMAND r 1).rdi MEM_UE_DEMAND r := State.rdij_wrij_apart _ _ _ _ _ _ _ _ (by decide)
    _ = min (s.rdi MEM_UE_DEMAND r + 1) (2 ^ 16 - 1) % 2 ^ 16 := State.rdij_wrij_same s _ _ _ _ (by decide) (by decide)
    _ = min (s.rdi MEM_UE_DEMAND r + 1) (2 ^ 16 - 1) := Nat.mod_eq_of_lt hlt

theorem State.readUncorrectable_addr (s : State) {a : Nat} (r : Nat) (h8 : a % 8 = 0) (h : a < 2 ^ 32) :
    (s.readUncorrectable a r).rdi MEM_UEADDR_ADDR r = a := by
  calc (s.readUncorrectable a r).rdi MEM_UEADDR_ADDR r
      = ((s.inci MEM_UE_DEMAND r 1).wri MEM_UEADDR_ADDR r (a / 8 * 8)).rdi MEM_UEADDR_ADDR r :=
        State.rdij_raise _ _ _ _ _ _ (by decide)
    _ = a / 8 * 8 % 2 ^ 32 := State.rdij_wrij_same _ _ _ _ _ (by decide) (by decide)
    _ = a := by omega

/-- Every region lies in the 32-bit address space. -/
theorem lt_of_regionOf {a r : Nat} (h : regionOf a = some r) : a < 2 ^ 32 := by
  have hspan : ∀ k ∈ List.range 7, (regionSpan k).1 + (regionSpan k).2 < 2 ^ 32 := by decide
  have hin := List.find?_some h
  have hlt := hspan r (List.mem_of_find?_eq_some h)
  simp only [Bool.and_eq_true, decide_eq_true_eq] at hin
  omega

/-- A host read of a doubleword answers the word, or a bus error when there is none. -/
theorem exec_demandRead_doubleword {a r : Nat} (hp : s.host.halted = false) (h8 : a % 8 = 0) (hr : regionOf a = some r)
    (ha : s.absentAddr a = false) :
    exec (.demandRead a 8) s = .next ((s.memRead a).2.emit ((s.memRead a).1.elim (.busError a) (.readData a))) := by
  simp only [exec, execDemandRead, State.powered_of_not_halted hp, memAccessBad_doubleword h8 hr, Bool.false_eq_true, if_false,
    State.hostMemRead_doubleword h8 ha]
  rcases s.memRead a with ⟨_ | v, t⟩ <;> rfl

end HostAccess

/-- Settles O1: each clause is the lemma on that access. -/
theorem hostAccessesComplete : Obligations.HostAccessesComplete := by
  unfold Obligations.HostAccessesComplete
  refine ⟨fun a v row s hp h4 hw he hr => exec_registerWrite_plain hp h4 hw he hr v,
    fun a v s hp h4 hlt h => ⟨_, exec_registerWrite_absent hp h4 hlt h v, s.absentWrite_count a, s.absentWrite_addr (by omega)⟩,
    fun a n v s hp hlt h => exec_registerWrite_unsupported hp hlt h v,
    fun a n v s hp h => exec_registerWrite_memory hp h n v,
    fun a s hp h4 hlt h => exec_readClear_absent hp h4 hlt h,
    fun s hp => exec_readClear_absentWr hp,
    fun a v r s hp h8 hr ha hu h6 h1 => ⟨_, exec_memoryWrite_doubleword hp h8 hr ha hu h6 h1 v, s.memWord_memPut a v,
      s.memFlips_memPut a v⟩,
    fun a r s hp h8 hr ha hu hf => ?_, fun a r s hp h8 hr ha hu hf => ?_⟩
  · rw [exec_demandRead_doubleword hp h8 hr ha, State.memRead_clean hr hu hf]
    rfl
  · rw [exec_demandRead_doubleword hp h8 hr ha, State.memRead_uncorrectable hr hu hf]
    exact ⟨_, rfl, rfl, s.readUncorrectable_count a r, s.readUncorrectable_addr r h8 (lt_of_regionOf hr)⟩

/-! ## Reset -/

theorem State.reset_storesWf : State.reset.storesWf := by
  refine ⟨?_, rfl, rfl⟩
  decide +kernel

/-- After reset no event is pending or enabled, and every vector is 0. -/
theorem State.reset_events : ∀ w : Fin 32, State.reset.rdi UNIT_EVT_EVT w = 0 ∧ State.reset.rdi UNIT_EVT_EN_EN w = 0 ∧
    ∀ e : Fin 32, State.reset.vector w e = 0 := by decide +kernel

/-- Settles O37: the reset state is one state, whose registers are computed. -/
theorem resetLeavesTheStatedRegisters : Obligations.ResetLeavesTheStatedRegisters := by
  unfold Obligations.ResetLeavesTheStatedRegisters
  refine ⟨⟨State.reset_storesWf, fun c hc => absurd hc List.not_mem_nil, rfl⟩, ?_, State.reset_events, ?_, ?_⟩
  all_goals decide +kernel

end Sys2Proof.Machine

/-! # Settled statements on the architecture: the queue, the frames of the chain, fan, thermal and image commands, the
chain links and field dies -/

namespace Sys2Proof.Machine

open Sys2Proof

/-! ## What a mask leaves -/

/-- Settles O40: the queue is outside every command's mask. -/
theorem everyCommandCompletesAndLeavesTheQueue : Obligations.EveryCommandCompletesAndLeavesTheQueue :=
  fun c s => exec_keeps c s (Instr.frameMask_pending c)

/-- A command changes only the listed parts when the list covers its mask. -/
theorem exec_changesOnly (c : Instr) (s : State) (l : List Part) (h : Instr.frameMask c &&& maskOf l = Instr.frameMask c) :
    ∃ t : State, exec c s = .next t ∧ ChangesOnly l s t := by
  obtain ⟨t, ht, hf⟩ := exec_completes c s
  exact ⟨t, ht, hf.changesOnly l h⟩

/-- Settles O58: each clause's list covers the mask of its command. -/
theorem fanChainThermalAndImageCommandsFrame : Obligations.FanChainThermalAndImageCommandsFrame := by
  unfold Obligations.FanChainThermalAndImageCommandsFrame
  repeat' apply And.intro
  all_goals
    intros
    exact exec_changesOnly _ _ _ (by dsimp only [Instr.frameMask]; decide)

theorem testBit_maskOf_of_mem {p : Part} {l : List Part} (h : p ∈ l) : (maskOf l).testBit p.ix = true := by
  induction l with
  | nil => exact absurd h List.not_mem_nil
  | cons q l ih =>
    rw [maskOf, Nat.testBit_or, Nat.testBit_two_pow, Bool.or_eq_true, decide_eq_true_eq]
    exact (List.mem_cons.mp h).imp (fun e : p = q => congrArg Part.ix e.symm) ih

/-- A frame keeps the parts of a list apart from its mask. -/
theorem Frame.same_of_mem {m : Nat} {s t : State} (h : Frame m s t) {l : List Part} (hm : m &&& maskOf l = 0) {p : Part}
    (hp : p ∈ l) : p.same s t := by
  refine h.1 p ?_
  have hbit := congrArg (Nat.testBit · p.ix) hm
  simpa only [Nat.testBit_land, testBit_maskOf_of_mem hp, Bool.and_true, Nat.zero_testBit] using hbit

/-- The timed pins' side of the state: the stake-out engine, the timed pins, the reflex matrix, and their windows. -/
def timedPinParts : List Part := [.stk, .tpin, .rfx, .win 10, .win 11, .win 12]

theorem exec_leaves_timedPins (c : Instr) (s : State) (h : Instr.frameMask c &&& maskOf timedPinParts = 0) :
    ∃ t : State, exec c s = .next t ∧ (∀ p ∈ [Part.stk, Part.tpin, Part.rfx], p.same s t) ∧
      ∀ w ∈ [(10 : Fin 32), 11, 12], (Part.win w).same s t := by
  obtain ⟨t, ht, hf⟩ := exec_completes c s
  exact ⟨t, ht, fun p hp => hf.same_of_mem h (List.mem_append_left [Part.win 10, .win 11, .win 12] hp),
    fun w hw => hf.same_of_mem h (List.mem_append_right [Part.stk, .tpin, .rfx] (List.mem_map_of_mem hw))⟩

/-- Settles O48: the masks of these commands are apart from the timed pins' side of the state. -/
theorem silenceAndHostLossLeaveTimedPins : Obligations.SilenceAndHostLossLeaveTimedPins := by
  unfold Obligations.SilenceAndHostLossLeaveTimedPins
  repeat' apply And.intro
  all_goals
    intros
    exact exec_leaves_timedPins _ _ (by dsimp only [Instr.frameMask]; decide)

/-! ## Chain links and field dies across the updates of the state -/

section LinksAndDies

variable {s t : State} {m n : Nat}

theorem Frame.link (h : Frame m s t) (hm : m.testBit Part.links.ix = false) (n : Nat) : t.link n = s.link n :=
  congrArg (fun l : List ChainLink => listAt l n {}) (h.1 .links hm)

theorem Frame.die (h : Frame m s t) (hm : m.testBit Part.dies.ix = false) (n : Nat) : t.die n = s.die n :=
  congrArg (fun l : List FieldDie => listAt l n {}) (h.1 .dies hm)

theorem Frame.diePresent (h : Frame m s t) (hm : m.testBit Part.fusesFixed.ix = false) (n : Nat) :
    t.diePresent n = s.diePresent n := by
  have hf : t.fuses = { s.fuses with fieldRows := t.fuses.fieldRows } := h.1 .fusesFixed hm
  have hv : t.fuses.variant = s.fuses.variant := by rw [hf]
  simp only [State.diePresent, State.is20, hv]

theorem State.link_linkM_same (h : n < s.links.length) (f : ChainLink → ChainLink) : (s.linkM n f).link n = f (s.link n) :=
  listAt_listMod_same _ _ _ _ h

theorem State.link_linkM_ne {k : Nat} (h : n ≠ k) (f : ChainLink → ChainLink) : (s.linkM k f).link n = s.link n :=
  listAt_listMod_ne _ _ _ h

theorem State.die_dieM_same (h : n < s.dies.length) (f : FieldDie → FieldDie) : (s.dieM n f).die n = f (s.die n) :=
  listAt_listMod_same _ _ _ _ h

theorem State.die_dieM_ne {k : Nat} (h : n ≠ k) (f : FieldDie → FieldDie) : (s.dieM k f).die n = s.die n :=
  listAt_listMod_ne _ _ _ h

@[simp] theorem State.length_links_linkM (k : Nat) (f : ChainLink → ChainLink) :
    (s.linkM k f).links.length = s.links.length := length_listMod _ _ _

@[simp] theorem State.length_dies_dieM (k : Nat) (f : FieldDie → FieldDie) : (s.dieM k f).dies.length = s.dies.length :=
  length_listMod _ _ _

/-- Showing the switches and the analogue outputs writes registers only. -/
theorem State.swShow_foldl_dies (s : State) (d was drv : Nat) (l : List Nat) :
    (l.foldl (fun t i => t.swShow d i (bitAt was i) (bitAt drv i)) s).dies = s.dies :=
  (Frame.foldl l (Frame.rfl 0x300000000000000000001 s) fun u i => u.swShow_frame d i _ _).1 .dies (by decide)

@[inherit_doc State.swShow_foldl_dies]
theorem State.aoutShow_foldl_dies (s : State) (d : Nat) (l : List Nat) :
    (l.foldl (fun t j => (t.wrij FIO_AOUTSTAT_CODE j d (t.aoutApplied d j)).wrij FIO_AOUTSTAT_HELD j d
      (b2n (t.aoutRanked d j))) s).dies = s.dies :=
  (Frame.foldl l (Frame.rfl 0x300000000000000000001 s)
    fun u _ => ((Frame.rfl _ u).wrij (by decide)).wrij (by decide)).1 .dies (by decide)

/-- What a refresh of the outputs does to the dies: the turn-off times of the refreshed die. -/
theorem State.outRefresh_dies (s : State) (d : Nat) :
    ∃ o : FieldDie → List Nat, (s.outRefresh d).dies = listMod s.dies d (fun x => { x with offAt := o x }) :=
  ⟨_, (State.aoutShow_foldl_dies _ d _).trans (congrArg (listMod · d _) (State.swShow_foldl_dies s d _ _ _))⟩

@[simp] theorem State.length_dies_outRefresh (s : State) (d : Nat) : (s.outRefresh d).dies.length = s.dies.length := by
  obtain ⟨o, h⟩ := s.outRefresh_dies d
  rw [h, length_listMod]

/-- A refreshed die keeps everything but its turn-off times. -/
theorem State.outRefresh_die (s : State) {d : Nat} (hd : d < s.dies.length) :
    ∃ l : List Nat, (s.outRefresh d).die d = { s.die d with offAt := l } := by
  obtain ⟨o, h⟩ := s.outRefresh_dies d
  exact ⟨o (s.die d), (congrArg (fun l : List FieldDie => listAt l d {}) h).trans (listAt_listMod_same _ _ _ _ hd)⟩

theorem State.outRefresh_die_ne (s : State) {d e : Nat} (h : e ≠ d) : (s.outRefresh d).die e = s.die e := by
  obtain ⟨o, ho⟩ := s.outRefresh_dies d
  exact (congrArg (fun l : List FieldDie => listAt l e {}) ho).trans (listAt_listMod_ne _ _ _ h)

/-- A die that enters safe state holds the levels commanded, with the time of entry (R25). -/
theorem State.enterSafe_die (s : State) {d : Nat} (hd : d < s.dies.length) (h : (s.die d).safe = false) :
    ∃ l : List Nat, (s.enterSafe d).die d =
      { s.die d with safe := true, safeAt := s.clk.el, held := (s.die d).dio, offAt := l } := by
  obtain ⟨l, hl⟩ := (s.dieM d fun x => { x with safe := true, safeAt := s.clk.el, held := x.dio }).outRefresh_die
    (d := d) (by simpa using hd)
  refine ⟨l, ?_⟩
  rw [State.enterSafe, h, if_neg (by decide), hl, State.die_dieM_same hd]

theorem State.enterSafe_safe (s : State) {d : Nat} (hd : d < s.dies.length) : ((s.enterSafe d).die d).safe = true := by
  cases h : (s.die d).safe with
  | true => rw [State.enterSafe, h, if_pos rfl, h]
  | false =>
    obtain ⟨l, hl⟩ := s.enterSafe_die hd h
    rw [hl]

theorem State.enterSafe_die_ne (s : State) {d e : Nat} (h : e ≠ d) : (s.enterSafe d).die e = s.die e := by
  unfold State.enterSafe
  split
  · rfl
  · rw [State.outRefresh_die_ne _ h, State.die_dieM_ne h]

@[simp] theorem State.length_dies_enterSafe (s : State) (d : Nat) : (s.enterSafe d).dies.length = s.dies.length := by
  unfold State.enterSafe
  split <;> simp

end LinksAndDies

/-! ## The frame commands of the chain (R19 to R26) -/

section ChainFrames

variable {s : State} {n : Fin 2}

/-- The outbound frame that is due is sent with the link's count and RESUME, and the link counts on (R19, R26). -/
theorem exec_outboundFrame_due (hp : s.host.halted = false) (hl : n.val < s.links.length) (hu : s.linkUp n.val = true)
    (hdue : (s.link n.val).lastOut + 1000 ≤ s.clk.el) :
    ∃ (t : State) (f : OutFrame), exec (.outboundFrame n) s = .next t ∧
      t.link n.val = { s.link n.val with
        count := ((s.link n.val).count + 1) % 2 ^ 32, resumeNext := false, cfgNext := false,
        safeCmd := (s.link n.val).safeCmd && !(s.link n.val).resumeNext, lastOut := s.clk.el,
        down := (s.link n.val).down ++ [f] } ∧
      f.count = (s.link n.val).count ∧ f.resume = (s.link n.val).resumeNext := by
  have hlinks : (s.fioCommands n.val).2.2.links = s.links := (s.fioCommands_frame n.val).1 .links (by decide)
  have hlink := (s.fioCommands_frame n.val).link (by decide) n.val
  simp only [exec, execOutboundFrame, State.powered_of_not_halted hp, hu, Bool.not_true, Bool.false_or,
    decide_eq_true_eq, Nat.not_lt.mpr hdue, if_false]
  refine ⟨_, _, rfl, (State.link_linkM_same (hlinks.symm ▸ hl) _).trans (by rw [hlink]), rfl, rfl⟩

/-- The reference after a comma-aligned frame with a good CRC is its count (R23). -/
theorem frameTest_snd_of_aligned (r : Option Nat) (k : Nat) : (frameTest r true true k).2 = some k := by cases r <;> rfl

theorem frameTest_snd_of_good {r : Option Nat} {a c : Bool} {k : Nat} (h : (frameTest r a c k).1 = true) :
    (frameTest r a c k).2 = some k := by
  have hac : (a && c) = true := by
    by_contra hac
    unfold frameTest at h
    rw [if_neg hac] at h
    exact Bool.false_ne_true h
  obtain ⟨rfl, rfl⟩ := (Bool.and_eq_true a c).mp hac
  exact frameTest_snd_of_aligned r k

/-- Die `d` shows the outbound frame `f`, received at elapsed time `now`: its count, its commands, the reference `r`. -/
structure State.ShowsFrame (t : State) (d : Nat) (f : OutFrame) (r : Option Nat) (now : Nat) : Prop where
  present : d < t.dies.length
  ref : (t.die d).ref = r
  echo : (t.die d).echo = f.count
  lastFrame : (t.die d).lastFrame = now
  dio : (t.die d).dio = f.dio
  aout : (t.die d).aout = f.aout

namespace State.ShowsFrame

variable {t u : State} {d : Nat} {f : OutFrame} {r : Option Nat} {now : Nat}

theorem of_dies (h : t.ShowsFrame d f r now) (e : u.dies = t.dies) : u.ShowsFrame d f r now := by
  have hdie : u.die d = t.die d := congrArg (fun l : List FieldDie => listAt l d {}) e
  exact ⟨e ▸ h.present, hdie ▸ h.ref, hdie ▸ h.echo, hdie ▸ h.lastFrame, hdie ▸ h.dio, hdie ▸ h.aout⟩

theorem of_frame {m : Nat} (h : t.ShowsFrame d f r now) (k : Frame m t u) (hm : m.testBit Part.dies.ix = false) :
    u.ShowsFrame d f r now := h.of_dies (k.1 .dies hm)

/-- Entering or leaving safe state does not touch what the frame set. -/
theorem dieM_safe (h : t.ShowsFrame d f r now) (a : Bool) (b c : FieldDie → Nat) :
    (t.dieM d fun x => { x with safe := a, safeAt := b x, held := c x }).ShowsFrame d f r now := by
  have hdie := State.die_dieM_same h.present fun x => { x with safe := a, safeAt := b x, held := c x }
  exact ⟨by simpa using h.present, by rw [hdie]; exact h.ref, by rw [hdie]; exact h.echo, by rw [hdie]; exact h.lastFrame,
    by rw [hdie]; exact h.dio, by rw [hdie]; exact h.aout⟩

theorem outRefresh (h : t.ShowsFrame d f r now) : (t.outRefresh d).ShowsFrame d f r now := by
  obtain ⟨l, hdie⟩ := t.outRefresh_die h.present
  exact ⟨by simpa using h.present, by rw [hdie]; exact h.ref, by rw [hdie]; exact h.echo, by rw [hdie]; exact h.lastFrame,
    by rw [hdie]; exact h.dio, by rw [hdie]; exact h.aout⟩

end State.ShowsFrame

/-- Setting the channel directions writes registers only. -/
theorem State.dioDir_foldl_frame (s : State) (d : Nat) (l : List Nat) : Frame 0x300000000000000000001 s
    (l.foldl (fun t i => t.wrij FIO_CH_DIR i d (t.dieDio d i C_DIO_DIR)) s) :=
  Frame.foldl l (Frame.rfl _ s) fun u _ => (Frame.rfl _ u).wrij (by decide)

/-- A die that applies a valid frame shows it, and keeps its reference (R23, R26). -/
theorem State.dieApply_showsFrame (s : State) {d : Nat} (hd : d < s.dies.length) {r : Option Nat} (hr : (s.die d).ref = r)
    (f : OutFrame) : (s.dieApply d f).ShowsFrame d f r s.clk.el := by
  unfold State.dieApply
  extract_lets was halt leave s1 s2 s3
  have h1 : s1.ShowsFrame d f r s.clk.el := by
    have hdie : s1.die d = _ := State.die_dieM_same hd _
    exact ⟨by simpa [s1] using hd, by rw [hdie]; exact hr, by rw [hdie], by rw [hdie], by rw [hdie], by rw [hdie]⟩
  have h2 : s2.ShowsFrame d f r s.clk.el := by
    dsimp only [s2]
    split
    · exact h1.dieM_safe _ _ _
    · split
      · exact h1.dieM_safe false (·.safeAt) (·.held)
      · exact h1
  have h3 : s3.ShowsFrame d f r s.clk.el := by
    dsimp only [s3]
    split
    · exact (h2.of_frame (s2.dioDir_foldl_frame d _) (by decide)).of_frame (State.afeRestart_frame _ d) (by decide)
    · exact h2
  exact h3.outRefresh

/-- The link and the die after the next outbound frame was taken, with `l` behind it and the reference `r`. -/
def State.outTaken (s : State) (n : Nat) (l : List OutFrame) (r : Option Nat) : State :=
  (s.linkM n fun x => { x with down := l }).dieM n fun x => { x with ref := r }

theorem State.outTaken_link (hl : n.val < s.links.length) (l : List OutFrame) (r : Option Nat) :
    (s.outTaken n.val l r).link n.val = { s.link n.val with down := l } := State.link_linkM_same hl _

theorem State.outTaken_die (hd : n.val < s.dies.length) (l : List OutFrame) (r : Option Nat) :
    (s.outTaken n.val l r).die n.val = { s.die n.val with ref := r } := State.die_dieM_same hd _

@[simp] theorem State.length_dies_outTaken (s : State) (k : Nat) (l : List OutFrame) (r : Option Nat) :
    (s.outTaken k l r).dies.length = s.dies.length := length_listMod _ _ _

theorem exec_fieldDieFrameReceive_valid {a c : Bool} {f : OutFrame} {l : List OutFrame} (h : (s.link n.val).down = f :: l)
    (hg : (frameTest (s.die n.val).ref a c f.count).1 = true) : exec (.fieldDieFrameReceive n a c) s =
      .next ((s.outTaken n.val l (some f.count)).dieApply n.val f).fansApply := by
  simp only [exec, execFieldDieFrameReceive, h, hg, frameTest_snd_of_good hg, if_true]
  rfl

/-- A die that takes a valid frame shows it, with the frame's count as its reference (R23). -/
theorem fieldDieFrameReceive_valid {a c : Bool} {f : OutFrame} {l : List OutFrame} (hl : n.val < s.links.length)
    (hd : n.val < s.dies.length) (h : (s.link n.val).down = f :: l)
    (hg : (frameTest (s.die n.val).ref a c f.count).1 = true) :
    ∃ t : State, exec (.fieldDieFrameReceive n a c) s = .next t ∧ t.link n.val = { s.link n.val with down := l } ∧
      t.ShowsFrame n.val f (some f.count) s.clk.el := by
  have href : ((s.outTaken n.val l (some f.count)).die n.val).ref = some f.count := by rw [State.outTaken_die hd]
  have hshow := (s.outTaken n.val l (some f.count)).dieApply_showsFrame (by simpa using hd) href f
  refine ⟨_, exec_fieldDieFrameReceive_valid h hg, ?_, hshow.of_frame (State.fansApply_frame _) (by decide)⟩
  rw [(State.fansApply_frame _).link (by decide), (State.dieApply_frame _ _ _).link (by decide), State.outTaken_link hl]

theorem exec_fieldDieFrameReceive_invalid {a c : Bool} {f : OutFrame} {l : List OutFrame}
    (h : (s.link n.val).down = f :: l) (hg : (frameTest (s.die n.val).ref a c f.count).1 = false) :
    exec (.fieldDieFrameReceive n a c) s = .next ((s.outTaken n.val l (frameTest (s.die n.val).ref a c f.count).2).dieM n.val
      fun x => { x with validSince := none }) := by
  simp only [exec, execFieldDieFrameReceive, h, hg, Bool.false_eq_true, if_false]
  rfl

theorem exec_inboundFrameSend_due (hu : s.linkUp n.val = true) (hdue : (s.die n.val).lastSend + 1000 ≤ s.clk.el) :
    exec (.inboundFrameSend n) s = .next (((s.linkM n.val fun x => { x with
      up := x.up ++ [⟨(s.die n.val).echo, s.fieldCount, (s.die n.val).safe, (s.die n.val).samples⟩] }).dieM n.val
      fun x => { x with samples := [], lastSend := s.clk.el }).emit
      (.chainIn n.val (s.die n.val).echo s.fieldCount (s.die n.val).safe)) := by
  simp only [exec, execInboundFrameSend, hu, Bool.not_true, Bool.false_or, decide_eq_true_eq, Nat.not_lt.mpr hdue, if_false]
  rfl

/-- The link after the next inbound frame `f` was taken, with `l` behind it and the reference `r`. -/
def State.inTaken (s : State) (n : Nat) (l : List InFrame) (r : Option Nat) : State :=
  (s.linkM n fun x => { x with up := l }).linkM n fun x => { x with ref := r }

theorem State.inTaken_link (hn : n.val < s.links.length) (l : List InFrame) (r : Option Nat) :
    (s.inTaken n.val l r).link n.val = { s.link n.val with up := l, ref := r } := by
  rw [State.inTaken, State.link_linkM_same (by simpa using hn), State.link_linkM_same hn]

/-- A valid inbound frame but its samples (R23, R24): the link is not lost, and SAFE is the frame's. -/
def State.inValid (s : State) (n : Nat) (f : InFrame) (l : List InFrame) (r : Option Nat) (was : Bool) : State :=
  ((((s.inTaken n l r).linkM n fun x => { x with
    lastValid := s.clk.el, heard := true, validSince := some (x.validSince.getD s.clk.el), safeRep := f.safe }).wri
    CHN_STAT_LOST n 0).wri CHN_STAT_SAFE n (b2n f.safe)).raiseIf (f.safe && !was) 25 (2 + n)

theorem State.inValid_link (hn : n.val < s.links.length) (f : InFrame) (l : List InFrame) (r : Option Nat) (was : Bool) :
    (s.inValid n.val f l r was).link n.val = { s.link n.val with
      up := l, ref := r, lastValid := s.clk.el, heard := true,
      validSince := some ((s.link n.val).validSince.getD s.clk.el), safeRep := f.safe } := by
  rw [State.inValid, (State.raiseIf_frame _ _ _ _).link (by decide)]
  refine (State.link_linkM_same (s := s.inTaken n.val l r) (by simpa [State.inTaken] using hn) _).trans ?_
  rw [State.inTaken_link hn]

theorem State.inValid_lost (s : State) (k : Nat) (f : InFrame) (l : List InFrame) (r : Option Nat) (was : Bool) :
    (s.inValid k f l r was).rdi CHN_STAT_LOST k = 0 := by
  refine (State.rdij_raiseIf _ _ _ _ _ k 0 (by decide)).trans ?_
  exact (State.rdij_wrij_apart _ _ _ _ _ _ _ _ (by decide)).trans (State.rdij_wrij_same _ _ _ _ _ (by decide) (by decide))

theorem State.inValid_safe (s : State) (k : Nat) (f : InFrame) (l : List InFrame) (r : Option Nat) (was : Bool) :
    (s.inValid k f l r was).rdi CHN_STAT_SAFE k = b2n f.safe := by
  refine (State.rdij_raiseIf _ _ _ _ _ k 0 (by decide)).trans ?_
  refine (State.rdij_wrij_same _ _ _ _ _ (by decide) (by decide)).trans ?_
  cases f.safe <;> rfl

theorem exec_inboundFrame_valid {a c : Bool} {f : InFrame} {l : List InFrame} (hp : s.host.halted = false)
    (h : (s.link n.val).up = f :: l) (hg : (frameTest (s.link n.val).ref a c f.echo).1 = true) :
    ∃ t : State, exec (.inboundFrame n a c) s = .next t ∧ Frame 0x1801000000000
      (s.inValid n.val f l (frameTest (s.link n.val).ref a c f.echo).2 (s.link n.val).safeRep) t := by
  simp only [exec, execInboundFrame, State.powered_of_not_halted hp, h, hg, if_true]
  exact ⟨_, rfl, Frame.foldl _ (Frame.rfl _ _) fun u x => u.produce_frame _ _ _ _⟩

/-- An invalid inbound frame (R23), counted in `e`: its validity starts again. -/
def State.inInvalid (s : State) (n : Nat) (l : List InFrame) (r : Option Nat) (e : Fld) : State :=
  (((s.inTaken n l r).linkM n fun x => { x with validSince := none }).inci e n 1).raise 25 (4 + n)

theorem State.inInvalid_link (hn : n.val < s.links.length) (l : List InFrame) (r : Option Nat) (e : Fld) :
    (s.inInvalid n.val l r e).link n.val = { s.link n.val with up := l, ref := r, validSince := none } := by
  rw [State.inInvalid, (State.raise_frame _ _ _).link (by decide)]
  refine (State.link_linkM_same (s := s.inTaken n.val l r) (by simpa [State.inTaken] using hn) _).trans ?_
  rw [State.inTaken_link hn]

/-- A counter field grows, saturating at its width. -/
theorem State.rdi_inci_same (s : State) (f : Fld) (i k : Nat) (h : f.lo ≤ f.hi) (w : f.hi < 32) :
    (s.inci f i k).rdi f i = min (s.rdi f i + k) (2 ^ (f.hi + 1 - f.lo) - 1) := by
  have hpos : 0 < 2 ^ (f.hi + 1 - f.lo) := by positivity
  calc (s.inci f i k).rdi f i
      = min (s.rdi f i + k) (2 ^ (f.hi + 1 - f.lo) - 1) % 2 ^ (f.hi + 1 - f.lo) := State.rdij_wrij_same s f i 0 _ h w
    _ = min (s.rdi f i + k) (2 ^ (f.hi + 1 - f.lo) - 1) := Nat.mod_eq_of_lt (by omega)

theorem State.inInvalid_count (s : State) (k : Nat) (l : List InFrame) (r : Option Nat) {e : Fld}
    (he : e = CHN_ERR_CRC ∨ e = CHN_ERR_SEQ) : (s.inInvalid k l r e).rdi e k = min (s.rdi e k + 1) 65535 := by
  rcases he with rfl | rfl
  all_goals
    refine (State.rdij_raise _ _ _ _ k 0 (by decide)).trans ?_
    exact State.rdi_inci_same _ _ _ _ (by decide) (by decide)

/-- An invalid inbound frame counts as a CRC error when its comma was aligned, else as a sequence error. -/
theorem exec_inboundFrame_invalid {a c : Bool} {f : InFrame} {l : List InFrame} (hp : s.host.halted = false)
    (h : (s.link n.val).up = f :: l) (hg : (frameTest (s.link n.val).ref a c f.echo).1 = false) :
    exec (.inboundFrame n a c) s = .next (s.inInvalid n.val l (frameTest (s.link n.val).ref a c f.echo).2
      (if a && !c then CHN_ERR_CRC else CHN_ERR_SEQ)) := by
  simp only [exec, execInboundFrame, State.powered_of_not_halted hp, h, hg, Bool.false_eq_true, if_false]
  split <;> rfl

end ChainFrames

/-- Settles O24: the lemma on each frame command gives its next state, whose link and die are read off. -/
theorem chainFrameCommandsComplete : Obligations.ChainFrameCommandsComplete := by
  unfold Obligations.ChainFrameCommandsComplete
  refine ⟨fun n s hp hl hu hdue => ?_, fun n f l a c s hl hd h hg => ?_,
    fun n f l a c s hl hd h hg => ⟨_, exec_fieldDieFrameReceive_invalid h hg, ?_⟩,
    fun n s hl hd hu hdue => ⟨_, exec_inboundFrameSend_due hu hdue, ?_⟩, fun n f l a c s hp hl h hg => ?_,
    fun n f l s hp hl h => ⟨_, exec_inboundFrame_invalid hp h rfl, ?_⟩,
    fun n f l s hp hl h hg => ⟨_, exec_inboundFrame_invalid hp h hg, ?_⟩⟩
  all_goals have hn : n.val < s.links.length := by omega
  · obtain ⟨t, f, ht, hlink, hcount, hresume⟩ := exec_outboundFrame_due hp hn hu hdue
    refine ⟨t, ht, ?_⟩
    simp [hlink, hcount, hresume]
  · obtain ⟨t, ht, hlink, hshow⟩ := fieldDieFrameReceive_valid hn (by omega) h hg
    exact ⟨t, ht, by rw [hlink], hshow.ref, hshow.echo, hshow.lastFrame, hshow.dio, hshow.aout⟩
  · have hdie := State.outTaken_die (s := s) (n := n) (by omega) l (frameTest (s.die n.val).ref a c f.count).2
    rw [State.die_dieM_same (by simp; omega), hdie]
    refine ⟨?_, rfl, rfl, rfl, rfl⟩
    exact congrArg ChainLink.down (State.outTaken_link hn l (frameTest (s.die n.val).ref a c f.count).2)
  · have hlink := State.link_linkM_same hn fun x => { x with
      up := x.up ++ [⟨(s.die n.val).echo, s.fieldCount, (s.die n.val).safe, (s.die n.val).samples⟩] }
    have hdie := State.die_dieM_same (s := s) (n := n.val) (by omega) fun x => { x with samples := [], lastSend := s.clk.el }
    exact ⟨congrArg ChainLink.up hlink, congrArg FieldDie.samples hdie, congrArg FieldDie.lastSend hdie⟩
  · obtain ⟨t, ht, hf⟩ := exec_inboundFrame_valid hp h hg
    refine ⟨t, ht, ?_⟩
    rw [hf.link (by decide), hf.rdi (by decide), hf.rdi (by decide), State.inValid_link hn]
    exact ⟨rfl, rfl, State.inValid_lost .., State.inValid_safe ..⟩
  · rw [State.inInvalid_link hn]
    exact ⟨rfl, rfl, State.inInvalid_count _ _ _ _ (.inl rfl)⟩
  · rw [State.inInvalid_link hn]
    refine ⟨rfl, rfl, State.inInvalid_count _ _ _ _ (.inr rfl), frameTest_snd_of_aligned _ _⟩

end Sys2Proof.Machine

/-! ## Loss, silence, RESUME, chain reset, training and the FCLK step (R21, R24 to R26, R32, R78) -/

namespace Sys2Proof.Machine

open Sys2Proof

section ChainStates

variable {s : State} {n : Fin 2}

/-- The chain unit is present in every variant. -/
theorem State.winPresent_chain (s : State) : s.winPresent 25 = true := by
  unfold State.winPresent
  split <;> rfl

/-- Link `n` is lost (R24, R427): LOST and SAFE show, the die's sensors seen are stale, the validity starts again. -/
def State.linkIsLost (s : State) (n : Nat) : State :=
  (((s.wri CHN_STAT_LOST n 1).wri CHN_STAT_SAFE n 1).wr THM_STALE_STALE
    (s.rd THM_STALE_STALE ||| (dieSensors n &&& s.thm.seen))).linkM n fun x => { x with validSince := none }

theorem exec_linkLost_due (hp : s.host.halted = false) (hd : s.diePresent n.val = true) (h0 : s.rdi CHN_STAT_LOST n.val = 0)
    (hdue : (s.link n.val).lastValid + 3000 ≤ s.clk.el) :
    exec (.linkLost n) s = .next ((s.linkIsLost n.val).raise 25 n.val) := by
  simp only [exec, execLinkLost, State.powered_of_not_halted hp, hd, h0, hdue, beq_self_eq_true, decide_true,
    Bool.and_self, if_true]
  rfl

theorem State.linkIsLost_lost (s : State) (k : Nat) : (s.linkIsLost k).rdi CHN_STAT_LOST k = 1 := by
  calc (s.linkIsLost k).rdi CHN_STAT_LOST k
      = ((s.wri CHN_STAT_LOST k 1).wri CHN_STAT_SAFE k 1).rdi CHN_STAT_LOST k :=
        State.rdij_wrij_apart _ THM_STALE_STALE _ _ _ _ _ _ (by decide)
    _ = (s.wri CHN_STAT_LOST k 1).rdi CHN_STAT_LOST k := State.rdij_wrij_apart _ _ _ _ _ _ _ _ (by decide)
    _ = 1 := State.rdij_wrij_same _ _ _ _ _ (by decide) (by decide)

theorem State.linkIsLost_safe (s : State) (k : Nat) : (s.linkIsLost k).rdi CHN_STAT_SAFE k = 1 := by
  calc (s.linkIsLost k).rdi CHN_STAT_SAFE k
      = ((s.wri CHN_STAT_LOST k 1).wri CHN_STAT_SAFE k 1).rdi CHN_STAT_SAFE k :=
        State.rdij_wrij_apart _ THM_STALE_STALE _ _ _ _ _ _ (by decide)
    _ = 1 := State.rdij_wrij_same _ _ _ _ _ (by decide) (by decide)

theorem State.linkIsLost_link (hn : n.val < s.links.length) :
    (s.linkIsLost n.val).link n.val = { s.link n.val with validSince := none } := State.link_linkM_same hn _

theorem exec_silenceTimeout_due (hd : s.diePresent n.val = true) (hs : (s.die n.val).safe = false)
    (hdue : (s.die n.val).lastFrame + (s.die n.val).timeoutMs * 1000000 ≤ s.clk.el) : exec (.silenceTimeout n) s =
      .next ((s.enterSafe n.val).dieM n.val fun x => { x with validSince := none }).fansApply := by
  simp only [exec, execSilenceTimeout, hd, hs, hdue, Bool.not_false, decide_true, Bool.and_self, if_true]
  rfl

/-- A die silenced by its time-out is in safe state and holds its outputs (R25, R406). -/
theorem silenceTimeout_die (hn : n.val < s.dies.length) (hs : (s.die n.val).safe = false) :
    ∃ l : List Nat, (State.fansApply ((s.enterSafe n.val).dieM n.val fun x => { x with validSince := none })).die n.val =
      { s.die n.val with
        safe := true, safeAt := s.clk.el, held := (s.die n.val).dio, validSince := none, offAt := l } := by
  obtain ⟨l, hl⟩ := s.enterSafe_die hn hs
  refine ⟨l, ?_⟩
  rw [(State.fansApply_frame _).die (by decide), State.die_dieM_same (by simpa using hn), hl]

theorem exec_resume_present (hp : s.host.halted = false) (hd : s.diePresent n.val = true) :
    exec (.resume n) s = .next (s.linkM n.val fun x => { x with resumeNext := true }) := by
  simp only [exec, execResume, State.powered_of_not_halted hp, hd, if_true]
  rfl

theorem exec_autoResume_due (hp : s.host.halted = false) (hd : s.autoDue n.val = true) :
    exec (.autoResume n) s = .next (s.linkM n.val fun x => { x with resumeNext := true }) := by
  simp only [exec, execAutoResume, State.powered_of_not_halted hp, hd, if_true]
  rfl

/-! ### Chain reset -/

/-- Field die `n` and its link are in reset: safe state, in training, not trained. -/
structure State.ChainDown (s : State) (n : Nat) : Prop where
  training : (s.link n).training = true
  untrained : s.rdi CHN_STAT_TRAINED n = 0
  safe : (s.die n).safe = true

/-- The field dies are two, with a link each, and die `n` is present. -/
structure State.ChainHas (s : State) (n : Nat) : Prop where
  links : s.links.length = 2
  dies : s.dies.length = 2
  present : s.diePresent n = true

/-- The state of `State.chainReset1` on a present die before TRAINED is cleared. -/
def State.chainInReset (s : State) (k : Nat) : State :=
  ((s.enterSafe k).dieM k fun x => { x with ref := none, validSince := none, samples := [] }).linkM k fun x => { x with
    training := true, down := [], up := [], ref := none, validSince := none, resumeNext := false }

theorem State.chainReset1_eq (s : State) (k : Nat) :
    s.chainReset1 k = if s.diePresent k then (s.chainInReset k).wri CHN_STAT_TRAINED k 0 else s := by
  unfold State.chainReset1
  cases s.diePresent k <;> rfl

theorem State.enterSafe_links (s : State) (k : Nat) : (s.enterSafe k).links = s.links :=
  (s.enterSafe_frame k).1 .links (by decide)

theorem State.ChainHas.chainReset1 {k m : Nat} (h : s.ChainHas m) : (s.chainReset1 k).ChainHas m := by
  have hpresent := ((s.chainReset1_frame k).diePresent (by decide) m).trans h.present
  refine ⟨?_, ?_, hpresent⟩
  all_goals
    rw [State.chainReset1_eq]
    split
  · exact (length_listMod _ _ _).trans ((congrArg List.length (s.enterSafe_links k)).trans h.links)
  · exact h.links
  · exact (length_listMod _ _ _).trans ((s.length_dies_enterSafe k).trans h.dies)
  · exact h.dies

/-- A reset of a present die puts it in safe state and its link in training (R78). -/
theorem State.ChainHas.chainDown_chainReset1 {m : Nat} (h : s.ChainHas m) (hm : m < 2) : (s.chainReset1 m).ChainDown m := by
  have hlinks := s.enterSafe_links m
  rw [State.chainReset1_eq, h.present, if_pos rfl]
  refine ⟨?_, State.rdij_wrij_same _ _ _ _ _ (by decide) (by decide), ?_⟩
  · refine congrArg ChainLink.training (State.link_linkM_same ?_ _)
    exact hlinks.symm ▸ h.links.symm ▸ hm
  · refine (congrArg FieldDie.safe (State.die_dieM_same ?_ _)).trans (s.enterSafe_safe (h.dies.symm ▸ hm))
    rw [State.length_dies_enterSafe, h.dies]
    exact hm

/-- A reset of the other die leaves this one and its link in reset. -/
theorem State.ChainDown.chainReset1_ne {k m : Nat} (h : s.ChainDown m) (hm : m < 2) (hk : k < 2) (hkm : m ≠ k) :
    (s.chainReset1 k).ChainDown m := by
  rw [State.chainReset1_eq]
  split
  · refine ⟨?_, ?_, ?_⟩
    · refine (congrArg ChainLink.training ((State.link_linkM_ne hkm _).trans ?_)).trans h.training
      exact (s.enterSafe_frame k).link (by decide) m
    · refine (State.rdi_wri_ne _ CHN_STAT_TRAINED 0 (by decide) ?_).trans ?_
      · show k % 2 ≠ m % 2
        omega
      · exact ((s.enterSafe_frame k).rdi (by decide) m).trans h.untrained
    · refine (congrArg FieldDie.safe ((State.die_dieM_ne hkm _).trans ?_)).trans h.safe
      exact s.enterSafe_die_ne hkm
  · exact h

theorem State.ChainDown.of_frame {t : State} {k m : Nat} (h : s.ChainDown m) (hf : Frame k s t)
    (hlinks : k.testBit Part.links.ix = false) (hdies : k.testBit Part.dies.ix = false)
    (hreg : CHN_STAT_TRAINED.outside k = true) : t.ChainDown m :=
  ⟨hf.link hlinks m ▸ h.training, (hf.rdi hreg m).trans h.untrained, hf.die hdies m ▸ h.safe⟩

/-- The dies named in the mask `v` are reset, die 0 before die 1. -/
def State.chainResets (s : State) (v : Nat) : State :=
  (List.range 2).foldl (fun t k => if bitAt v k then t.chainReset1 k else t) s

theorem exec_chainReset_powered (hp : s.host.halted = false) (v : BitVec 2) :
    exec (.chainReset v) s = .next (s.chainResets v.toNat).fansApply := State.powered_of_not_halted hp _

theorem State.ChainHas.chainDown_chainResets {m v : Nat} (h : s.ChainHas m) (hm : m < 2) (hv : bitAt v m = true) :
    (s.chainResets v).ChainDown m := by
  show (State.ChainDown (if bitAt v 1 then (if bitAt v 0 then s.chainReset1 0 else s).chainReset1 1
    else if bitAt v 0 then s.chainReset1 0 else s) m)
  obtain rfl | rfl : m = 0 ∨ m = 1 := by omega
  · rw [if_pos hv]
    have hdown := h.chainDown_chainReset1 hm
    split
    · exact hdown.chainReset1_ne (by decide) (by decide) (by decide)
    · exact hdown
  · rw [if_pos hv]
    split
    · exact h.chainReset1.chainDown_chainReset1 hm
    · exact h.chainDown_chainReset1 hm

/-! ### Training and the FCLK step -/

theorem exec_linkTrainingComplete_training (hp : s.host.halted = false) (ht : (s.link n.val).training = true) :
    exec (.linkTrainingComplete n) s = .next (s.trained n.val) := by
  simp only [exec, execLinkTrainingComplete, State.powered_of_not_halted hp, ht, if_true]
  rfl

/-- The link of a present die after its training (R21, R78, R79). -/
theorem State.trained_link (hn : n.val < s.links.length) (hd : s.diePresent n.val = true) :
    (s.trained n.val).link n.val = { s.link n.val with
      training := false, count := s.clk.now / 1000 % 2 ^ 32, cfgNext := s.loader.committed, safeCmd := true,
      resumeNext := false, ref := none, down := [], up := [], trainEnd := s.clk.el } := by
  unfold State.trained
  rw [hd]
  exact State.link_linkM_same hn _

theorem State.trained_trained (s : State) (k : Nat) (hd : s.diePresent k = true) :
    (s.trained k).rdi CHN_STAT_TRAINED k = 1 := by
  unfold State.trained
  rw [hd]
  exact State.rdij_wrij_same _ _ _ _ _ (by decide) (by decide)

theorem exec_fclkStep_due (hp : s.host.halted = false) (h : s.rd CLK_STAT_FSTEP ≠ s.rd THM_STAT_ENFORCED) :
    exec .fclkStep s = .next (((s.wr CLK_STAT_FSTEP (s.rd THM_STAT_ENFORCED)).wr CLK_STAT_FBUSY 0).emit
      (.fclk (s.rd THM_STAT_ENFORCED))) := by
  simp only [exec, execFclkStep, State.powered_of_not_halted hp, h, if_false]
  rfl

/-- The step written is the one enforced: both fields have two bits (R32). -/
theorem State.fclkStep_fstep (s : State) :
    ((s.wr CLK_STAT_FSTEP (s.rd THM_STAT_ENFORCED)).wr CLK_STAT_FBUSY 0).rd CLK_STAT_FSTEP = s.rd THM_STAT_ENFORCED := by
  calc ((s.wr CLK_STAT_FSTEP (s.rd THM_STAT_ENFORCED)).wr CLK_STAT_FBUSY 0).rd CLK_STAT_FSTEP
      = (s.wr CLK_STAT_FSTEP (s.rd THM_STAT_ENFORCED)).rd CLK_STAT_FSTEP :=
        State.rdij_wrij_apart _ _ _ _ _ _ _ _ (by decide)
    _ = s.rd THM_STAT_ENFORCED % 2 ^ 2 := State.rdij_wrij_same _ _ _ _ _ (by decide) (by decide)
    _ = s.rd THM_STAT_ENFORCED := Nat.mod_eq_of_lt (State.rdij_lt s THM_STAT_ENFORCED 0 0)

end ChainStates

/-- Settles O25: each clause is the lemma on that command, with its next state's link, die and registers read off. -/
theorem chainStateCommandsComplete : Obligations.ChainStateCommandsComplete := by
  unfold Obligations.ChainStateCommandsComplete
  refine ⟨fun n s hp hl hd h0 hdue => ⟨_, exec_linkLost_due hp hd h0 hdue, ?_⟩,
    fun n s hl hd hs hdue => ⟨_, exec_silenceTimeout_due hd hs hdue, ?_⟩,
    fun n s hp hl hd => ⟨_, exec_resume_present hp hd, ?_, rfl⟩,
    fun n s hp hl hd => ⟨_, exec_autoResume_due hp hd, ?_, rfl⟩,
    fun n v s hp hl hdies hd hv => ⟨_, exec_chainReset_powered hp v, ?_⟩,
    fun n s hp hl hd ht => ⟨_, exec_linkTrainingComplete_training hp ht, ?_⟩,
    fun s hp h => ⟨_, exec_fclkStep_due hp h, s.fclkStep_fstep,
      State.rdij_wrij_same _ _ _ _ _ (by decide) (by decide)⟩⟩
  · have hf := State.raise_frame (s.linkIsLost n.val) 25 n.val
    rw [hf.rdi (by decide), hf.rdi (by decide), hf.link (by decide), State.linkIsLost_link (by omega)]
    exact ⟨s.linkIsLost_lost n.val, s.linkIsLost_safe n.val, rfl,
      State.raise_bit _ 25 n.val (State.winPresent_chain _) hp (by omega)⟩
  · obtain ⟨l, hdie⟩ := silenceTimeout_die (n := n) (by omega) hs
    rw [hdie]
    exact ⟨rfl, rfl, rfl, rfl⟩
  · exact congrArg ChainLink.resumeNext (State.link_linkM_same (by omega) _)
  · exact congrArg ChainLink.resumeNext (State.link_linkM_same (by omega) _)
  · have hdown := (State.ChainHas.mk hl hdies hd).chainDown_chainResets n.isLt hv
    have hdown' := hdown.of_frame (State.fansApply_frame _) (by decide) (by decide) (by decide)
    exact ⟨hdown'.training, hdown'.untrained, hdown'.safe⟩
  · rw [State.trained_link (by omega) hd]
    exact ⟨rfl, s.trained_trained n.val hd, rfl, rfl⟩

end Sys2Proof.Machine

/-! # Settled statements on the host and the resets: Thermal Halt, frames, power states, events, HSPI, DMA, watchdog,
resets -/

namespace Sys2Proof.Machine

open Sys2Proof

/-- Settles O54: each clause's list covers the mask of its command. -/
theorem hostPowerAndMemoryCommandsFrame : Obligations.HostPowerAndMemoryCommandsFrame := by
  unfold Obligations.HostPowerAndMemoryCommandsFrame
  repeat' apply And.intro
  all_goals
    intros
    exact exec_changesOnly _ _ _ (by dsimp only [Instr.frameMask]; decide)

/-! ## Thermal Halt (R82) -/

section ThermalHalt

variable {s t : State}

theorem State.powered_of_halted (h : s.host.halted = true) (o : Host.Outcome State Fault Refusal) :
    s.powered o = .next s := if_pos h

theorem execOperatingTimeTick_halted (h : s.host.halted = true) : execOperatingTimeTick s = .next s := by
  simp only [execOperatingTimeTick, h, Bool.not_true, Bool.false_and, Bool.false_eq_true, if_false]
  rfl

/-- Settles O41: the meaning of such a command stands under `State.powered`, but for the operating time, which tests the
halt itself. -/
theorem haltedCoreDoesNothing : Obligations.HaltedCoreDoesNothing := by
  unfold Obligations.HaltedCoreDoesNothing
  intro c s hs hc
  cases c
  case operatingTimeTick => exact execOperatingTimeTick_halted hs
  all_goals simp only [Instr.alwaysOn, Bool.true_eq_false] at hc
  all_goals exact State.powered_of_halted hs _

/-- The parts that stand while the core is in Thermal Halt. -/
def haltParts : List Part := [.hostHalted, .mem, .clk, .hostPcieUp, .loaderCommitted, .loaderRecs, .loaderImageRecs,
  .loaderStaged, .loaderReport, .loaderPendingAmends, .loaderApplied, .loaderCommitTime]

/-- The halt stands in `t` as in `s`, with the memory, the configuration, device time and the PCIe link state. -/
def State.HaltStands (s t : State) : Prop :=
  t.host.halted = true ∧ t.mem = s.mem ∧ t.loader = s.loader ∧ t.clk.now = s.clk.now ∧ t.host.pcieUp = s.host.pcieUp

theorem State.HaltStands.rfl (h : s.host.halted = true) : s.HaltStands s := ⟨h, Eq.refl _, Eq.refl _, Eq.refl _, Eq.refl _⟩

theorem Frame.haltStands {m : Nat} (h : Frame m s t) (hm : m &&& maskOf haltParts = 0) (hs : s.host.halted = true) :
    s.HaltStands t := by
  have keep : ∀ p ∈ haltParts, p.same s t := fun p hp => h.same_of_mem hm hp
  simp only [haltParts, List.forall_mem_cons] at keep
  obtain ⟨hhalt, hmem, hclk, hpcie, h1, h2, h3, h4, h5, h6, h7, h8, -⟩ := keep
  have hloader : t.loader = s.loader := by
    cases hs : s.loader
    cases ht : t.loader
    simp_all only [Part.same]
  exact ⟨hhalt.trans hs, hmem, hloader, congrArg Clock.now hclk, hpcie⟩

/-- What stays powered leaves those parts, but for the two resets. -/
theorem Instr.frameMask_alwaysOn (c : Instr) (h : c.alwaysOn = true) :
    Instr.frameMask c &&& maskOf haltParts = 0 ∨ Instr.Resets c := by
  cases c
  case powerOnReset supv aon env => exact .inr (Instr.resets_powerOnReset supv aon env)
  case warmReset pin env => exact .inr (Instr.resets_warmReset pin env)
  all_goals simp only [Instr.alwaysOn, Bool.false_eq_true] at h
  all_goals
    left
    dsimp only [Instr.frameMask]
    decide

/-- In Thermal Halt the time of a SYS_RESET key passes without effect. -/
theorem exec_warmReset_halted (h : s.host.halted = true) (env : BootEnv) : exec (.warmReset false env) s = .next s := by
  cases hr : s.host.resetAt <;> simp [exec, execWarmReset, hr, h, ok]

theorem State.tick_haltStands (h : s.host.halted = true) : s.HaltStands s.tick := by
  simp [State.HaltStands, State.tick, State.advance, h]

/-- A command in Thermal Halt leaves the halt as it stands, or it is a power-on reset or a reset by RSTn. -/
theorem exec_haltStands (c : Instr) (h : s.host.halted = true) : ∃ t : State, exec c s = .next t ∧ (s.HaltStands t ∨
    (∃ (supv aon : Bool) (env : BootEnv), c = .powerOnReset supv aon env) ∨ ∃ env : BootEnv, c = .warmReset true env) := by
  cases hon : c.alwaysOn with
  | false => exact ⟨s, haltedCoreDoesNothing c s h hon, .inl (.rfl h)⟩
  | true =>
    obtain ⟨t, ht, hf⟩ := exec_completes c s
    rcases Instr.frameMask_alwaysOn c hon with hm | hpor | ⟨pin, env, rfl⟩
    · exact ⟨t, ht, .inl (hf.haltStands hm h)⟩
    · exact ⟨t, ht, .inr (.inl hpor)⟩
    · cases pin with
      | false => exact ⟨s, exec_warmReset_halted h env, .inl (.rfl h)⟩
      | true => exact ⟨t, ht, .inr (.inr ⟨env, rfl⟩)⟩

end ThermalHalt

/-- Settles O42: the front command, or the idle cycle, leaves the halt as it stands but for the two resets. -/
theorem thermalHaltEndsOnlyByReset : Obligations.ThermalHaltEndsOnlyByReset := by
  unfold Obligations.ThermalHaltEndsOnlyByReset
  intro s hs
  cases hp : s.pending with
  | nil => exact ⟨s.tick, step_of_pending_nil hp, .inl (State.tick_haltStands hs)⟩
  | cons c rest =>
    obtain ⟨t, ht, hc⟩ := exec_haltStands (s := { s with pending := rest }) c hs
    refine ⟨t, (stepRunsFrontCommand c rest s hp).trans ht, ?_⟩
    rcases hc with hstand | ⟨supv, aon, env, rfl⟩ | ⟨env, rfl⟩
    · exact .inl hstand
    · exact .inr (.inl ⟨supv, aon, env, rest, rfl⟩)
    · exact .inr (.inr ⟨env, rest, rfl⟩)

end Sys2Proof.Machine

namespace Sys2Proof.Machine

open Sys2Proof

/-! ## Events and vectors (R62 to R64) -/

section Events

variable {s : State}

/-- The event group of a window is absent exactly when the window is. -/
theorem State.absentAddr_evtGroup (s : State) (w : Fin 32) {o : Nat} (h : 0xF00 ≤ o) (h' : o < 0x1000) :
    s.absentAddr (0x10000 * w.val + o) = !s.winPresent w.val := by
  have hdiv : (0x10000 * w.val + o) / 0x10000 = w.val := by omega
  have hlt : 0x10000 * w.val + o < 0x400000 := by omega
  have hrange : ∀ lo hi : Nat, lo / 0x10000 * 0x10000 + 0xF00 ≥ hi → lo ≤ hi →
      (decide (lo ≤ 0x10000 * w.val + o) && decide (0x10000 * w.val + o < hi)) = false := by
    intro lo hi h1 h2
    simp only [Bool.and_eq_false_iff, decide_eq_false_iff_not]
    omega
  rw [State.absentAddr, hdiv, hrange _ _ (by decide) (by decide), hrange _ _ (by decide) (by decide),
    hrange _ _ (by decide) (by decide), hrange _ _ (by decide) (by decide), decide_eq_true hlt]
  simp only [Bool.false_or, Bool.true_and, Bool.or_eq_left_iff_imp, Bool.and_eq_true, decide_eq_true_eq]
  omega

theorem exec_eventClear_present {w : Fin 32} (hp : s.host.halted = false) (hw : s.winPresent w.val = true) (m : Word) :
    exec (.eventClear w m) s = .next (s.evtClear w.val m.toNat) := by
  simp only [exec, execEventClear, State.powered_of_not_halted hp, s.absentAddr_evtGroup w (o := 0xF00) (by decide)
    (by decide), hw, Bool.not_true, Bool.false_eq_true, if_false]
  rfl

theorem exec_eventEnable_present {w : Fin 32} (hp : s.host.halted = false) (hw : s.winPresent w.val = true) (v : Word) :
    exec (.eventEnable w v) s = .next (s.evtEnable w.val v.toNat) := by
  simp only [exec, execEventEnable, State.powered_of_not_halted hp, s.absentAddr_evtGroup w (o := 0xF04) (by decide)
    (by decide), hw, Bool.not_true, Bool.false_eq_true, if_false]
  rfl

/-- A command on the events of an absent unit is an ignored write (R4). -/
theorem exec_event_absent {w : Fin 32} {v : Word} {c : Instr} (hp : s.host.halted = false)
    (hw : s.winPresent w.val = false) (hc : c = .eventClear w v ∨ c = .eventEnable w v) :
    ∃ a : Nat, exec c s = .next (s.absentWrite a) := by
  rcases hc with rfl | rfl
  · refine ⟨0x10000 * w.val + 0xF00, ?_⟩
    simp only [exec, execEventClear, State.powered_of_not_halted hp, s.absentAddr_evtGroup w (o := 0xF00) (by decide)
      (by decide), hw, Bool.not_false, if_true]
    rfl
  · refine ⟨0x10000 * w.val + 0xF04, ?_⟩
    simp only [exec, execEventEnable, State.powered_of_not_halted hp, s.absentAddr_evtGroup w (o := 0xF04) (by decide)
      (by decide), hw, Bool.not_false, if_true]
    rfl

/-- An ignored write reaches no event register. -/
theorem State.absentWrite_rdi_evtGroup (s : State) (a w : Nat) {f : Fld} (h1 : SYS_ABSENT_WR_COUNT.apart f = true)
    (h2 : SYS_ABSENT_ADDR_ADDR.apart f = true) : (s.absentWrite a).rdi f w = s.rdi f w :=
  (State.rdij_wrij_apart _ _ _ _ _ _ _ _ h2).trans (State.rdij_wrij_apart _ _ _ _ _ _ _ _ h1)

/-! ### Clearing -/

theorem State.evtClear_evt (s : State) (w m : Nat) :
    (s.evtClear w m).rdi UNIT_EVT_EVT w = s.rdi UNIT_EVT_EVT w &&& (0xFFFFFFFF ^^^ m) := by
  refine (State.rdij_wrij_same _ _ _ _ _ (by decide) (by decide)).trans (Nat.mod_eq_of_lt ?_)
  exact lt_of_le_of_lt Nat.and_le_left (State.rdij_lt s UNIT_EVT_EVT w 0)

theorem State.evtClear_en (s : State) (w m : Nat) : (s.evtClear w m).rdi UNIT_EVT_EN_EN w = s.rdi UNIT_EVT_EN_EN w :=
  State.rdij_wrij_apart _ _ _ _ _ _ _ _ (by decide)

/-- The bits of a word without those of a mask. -/
theorem bitAt_land_compl (a m : Nat) {k : Nat} (h : k < 32) :
    bitAt (a &&& (0xFFFFFFFF ^^^ m)) k = (bitAt a k && !bitAt m k) := by
  have hones : Nat.testBit 0xFFFFFFFF k = true := by
    rw [show 0xFFFFFFFF = 2 ^ 32 - 1 from rfl, Nat.testBit_two_pow_sub_one, decide_eq_true h]
  rw [bitAt_eq_testBit, bitAt_eq_testBit, bitAt_eq_testBit, Nat.testBit_and, Nat.testBit_xor, hones, Bool.true_xor]

/-! ### Messages -/

theorem State.msix_of_masked {v : Nat} (h : bitAt s.host.msixMask v = true) :
    s.msix v = { s with host := { s.host with msixPba := setBit s.host.msixPba v true } } := if_pos h

theorem State.msix_of_unmasked {v : Nat} (h : bitAt s.host.msixMask v = false) :
    s.msix v = s.emit (.msix v (assocGetD s.host.msixTable v (0, 0)).1 (assocGetD s.host.msixTable v (0, 0)).2) := by
  simp only [State.msix, h, Bool.false_eq_true, if_false]

/-- A message touches no register. -/
@[simp] theorem State.msix_regs (s : State) (v : Nat) : (s.msix v).regs = s.regs := by
  unfold State.msix
  split <;> rfl

theorem State.foldl_msix_regs (l : List Nat) (s : State) : (l.foldl State.msix s).regs = s.regs := by
  induction l generalizing s with
  | nil => rfl
  | cons v l ih => rw [List.foldl_cons, ih, State.msix_regs]

theorem State.reg_congr {t : State} (h : t.regs = s.regs) (a : Nat) : t.reg a = s.reg a :=
  congrArg (fun m => (cellGet regReset m a).toNat) h

theorem State.rdij_congr {t : State} (h : t.regs = s.regs) (f : Fld) (i j : Nat) : t.rdij f i j = s.rdij f i j :=
  congrArg (bitsOf · f.hi f.lo) (State.reg_congr h _)

/-- Whether a message is sent or held does not depend on the registers. -/
theorem State.msix_setReg (s : State) (a x v : Nat) : (s.setReg a x).msix v = (s.msix v).setReg a x := by
  unfold State.msix
  rw [State.setReg_host]
  split <;> rfl

theorem State.msix_wri (s : State) (f : Fld) (i x v : Nat) : ((s.wri f i x).msix v).out = (s.msix v).out ∧
    ((s.wri f i x).msix v).host = (s.msix v).host := by
  rw [State.wri, State.wrij, State.msix_setReg]
  exact ⟨rfl, rfl⟩

/-! ### An event that occurs -/

theorem State.raise_evt_bits (s : State) {w e k : Nat} (hw : s.winPresent w = true) (hp : s.host.halted = false)
    (he : e < 32) : bitAt ((s.raise w e).rdi UNIT_EVT_EVT w) k = (decide (k = e) || bitAt (s.rdi UNIT_EVT_EVT w) k) := by
  obtain ⟨t, ht, hevt⟩ := s.raise_evt w e hw hp
  have hlt : s.rdi UNIT_EVT_EVT w < 2 ^ 32 := State.rdij_lt s UNIT_EVT_EVT w 0
  rw [ht, hevt, Nat.mod_eq_of_lt (setBit_lt _ _ he hlt)]
  by_cases hk : k = e
  · rw [hk, bitAt_setBit_same, decide_eq_true rfl, Bool.true_or]
  · rw [bitAt_setBit_ne _ _ hk, decide_eq_false hk, Bool.false_or]

/-- An event whose bit rises while it is enabled sends one message. -/
theorem State.raise_of_rising {w e : Nat} (hp : s.host.halted = false) (hw : s.winPresent w = true)
    (hevt : bitAt (s.rdi UNIT_EVT_EVT w) e = false) (hen : bitAt (s.rdi UNIT_EVT_EN_EN w) e = true) :
    s.raise w e = (s.wri UNIT_EVT_EVT w (setBit (s.rdi UNIT_EVT_EVT w) e true)).msix (s.vector w e) := by
  simp [State.raise, hp, hw, hevt, hen]

/-- An event that was pending, or is not enabled, sends none. -/
theorem State.raise_of_not_rising {w e : Nat}
    (h : bitAt (s.rdi UNIT_EVT_EVT w) e = true ∨ bitAt (s.rdi UNIT_EVT_EN_EN w) e = false) :
    (s.raise w e).out = s.out ∧ (s.raise w e).host = s.host := by
  have hr : (!bitAt (s.rdi UNIT_EVT_EVT w) e && bitAt (s.rdi UNIT_EVT_EN_EN w) e) = false := by
    rcases h with h | h <;> simp [h]
  simp only [State.raise, hr, Bool.false_eq_true, if_false]
  split <;> exact ⟨rfl, rfl⟩

/-! ### Enabling -/

/-- The events whose enable rises at a write of `v` while they are pending. -/
def State.enRising (s : State) (w v : Nat) : List Nat :=
  (List.range 32).filter fun e => bitAt v e && !bitAt (s.rdi UNIT_EVT_EN_EN w) e && bitAt (s.rdi UNIT_EVT_EVT w) e

theorem State.evtEnable_eq (s : State) (w v : Nat) : s.evtEnable w v =
    ((s.enRising w v).map fun e => (s.wri UNIT_EVT_EN_EN w v).vector w e).dedup.foldl State.msix
      (s.wri UNIT_EVT_EN_EN w v) := rfl

theorem State.evtEnable_regs (s : State) (w v : Nat) : (s.evtEnable w v).regs = (s.wri UNIT_EVT_EN_EN w v).regs := by
  rw [State.evtEnable_eq, State.foldl_msix_regs]

theorem State.evtEnable_en (s : State) (w : Nat) {v : Nat} (hv : v < 2 ^ 32) :
    (s.evtEnable w v).rdi UNIT_EVT_EN_EN w = v :=
  calc (s.evtEnable w v).rdi UNIT_EVT_EN_EN w
      = (s.wri UNIT_EVT_EN_EN w v).rdi UNIT_EVT_EN_EN w := State.rdij_congr (s.evtEnable_regs w v) _ w 0
    _ = v % 2 ^ 32 := State.rdij_wrij_same _ _ _ _ _ (by decide) (by decide)
    _ = v := Nat.mod_eq_of_lt hv

theorem State.evtEnable_evt (s : State) (w v : Nat) :
    (s.evtEnable w v).rdi UNIT_EVT_EVT w = s.rdi UNIT_EVT_EVT w :=
  (State.rdij_congr (s.evtEnable_regs w v) _ w 0).trans (State.rdij_wrij_apart _ _ _ _ _ _ _ _ (by decide))

/-- The enables are no vector register. -/
theorem State.vector_wri_en (s : State) (w v i e : Nat) :
    (s.wri UNIT_EVT_EN_EN w v).vector i e = s.vector i e := by
  have hne : UNIT_EVT_VEC_VEC0.addr (e / 4) i ≠ UNIT_EVT_EN_EN.addr w 0 := by
    simp only [Fld.addr, UNIT_EVT_VEC_VEC0, UNIT_EVT_EN_EN]
    omega
  simp only [State.vector, State.wri, State.reg_wrij_ne _ _ _ _ _ _ hne]

theorem State.evtEnable_of_none_rising {w v : Nat} (h : s.enRising w v = []) :
    s.evtEnable w v = s.wri UNIT_EVT_EN_EN w v := by
  rw [State.evtEnable_eq, h]
  rfl

theorem State.evtEnable_of_one_rising {w v e : Nat} (h : s.enRising w v = [e]) :
    s.evtEnable w v = (s.wri UNIT_EVT_EN_EN w v).msix (s.vector w e) := by
  rw [State.evtEnable_eq, h, List.map_singleton, s.vector_wri_en w v w e]
  rfl

theorem State.enRising_eq_nil {w v : Nat} (h : ∀ e : Fin 32, bitAt v e = true →
    bitAt (s.rdi UNIT_EVT_EN_EN w) e = true ∨ bitAt (s.rdi UNIT_EVT_EVT w) e = false) : s.enRising w v = [] := by
  refine List.filter_eq_nil_iff.mpr fun e he hrise => ?_
  simp only [Bool.and_eq_true, Bool.not_eq_true'] at hrise
  obtain ⟨⟨hv, hen⟩, hevt⟩ := hrise
  rcases h ⟨e, List.mem_range.mp he⟩ hv with hon | hoff
  · exact Bool.false_ne_true (hen.symm.trans hon)
  · exact Bool.false_ne_true (hoff.symm.trans hevt)

theorem State.enRising_eq_singleton {w v : Nat} {e : Fin 32} (hv : bitAt v e = true)
    (hen : bitAt (s.rdi UNIT_EVT_EN_EN w) e = false) (hevt : bitAt (s.rdi UNIT_EVT_EVT w) e = true)
    (h : ∀ k : Fin 32, k ≠ e → bitAt v k = true →
      bitAt (s.rdi UNIT_EVT_EN_EN w) k = true ∨ bitAt (s.rdi UNIT_EVT_EVT w) k = false) : s.enRising w v = [e.val] := by
  have hpred : ∀ k ∈ List.range 32, (bitAt v k && !bitAt (s.rdi UNIT_EVT_EN_EN w) k && bitAt (s.rdi UNIT_EVT_EVT w) k) =
      (k == e.val) := by
    intro k hk
    by_cases hke : k = e.val
    · simp [hke, hv, hen, hevt]
    · rw [beq_eq_false_iff_ne.mpr hke]
      have hk' := h ⟨k, List.mem_range.mp hk⟩ fun c => hke (congrArg Fin.val c)
      by_cases hvk : bitAt v k = true
      · rcases hk' hvk with hon | hoff
        · simp [hon]
        · simp [hoff]
      · simp [hvk]
  rw [State.enRising, List.filter_congr hpred, List.filter_beq,
    List.count_eq_one_of_mem List.nodup_range (List.mem_range.mpr e.isLt)]
  rfl

/-! ### Unmasking -/

/-- The table entry of vector `v` written, its mask and pending bits cleared. -/
def State.unmasked (s : State) (v addr data : Nat) : State :=
  { s with host := { s.host with
    msixTable := assocPut s.host.msixTable v (addr, data), msixMask := setBit s.host.msixMask v false,
    msixPba := setBit s.host.msixPba v false } }

theorem State.unmasked_msix (s : State) (v addr data : Nat) :
    (s.unmasked v addr data).msix v = (s.unmasked v addr data).emit (.msix v addr data) := by
  have hentry : assocGetD (s.unmasked v addr data).host.msixTable v (0, 0) = (addr, data) :=
    congrArg (Option.getD · (0, 0)) (assocGet_assocPut_same _ _ _)
  rw [State.msix_of_unmasked (bitAt_setBit_same _ _ _), hentry]

theorem exec_vectorUnmask (hp : s.host.halted = false) (v : Fin 64) (a : BitVec 64) (d : Word) :
    exec (.vectorUnmask v a d) s = .next (if bitAt s.host.msixPba v then
      (s.unmasked v a.toNat d.toNat).emit (.msix v a.toNat d.toNat) else s.unmasked v a.toNat d.toNat) := by
  rw [← State.unmasked_msix]
  exact State.powered_of_not_halted hp _

/-- What unmasking leaves: the host port of `State.unmasked`, and the message held. -/
theorem exec_vectorUnmask_effect (hp : s.host.halted = false) (v : Fin 64) (a : BitVec 64) (d : Word) :
    ∃ t : State, exec (.vectorUnmask v a d) s = .next t ∧ t.host = (s.unmasked v a.toNat d.toNat).host ∧
      t.out = (if bitAt s.host.msixPba v then [.msix v a.toNat d.toNat] else []) ++ s.out := by
  refine ⟨_, exec_vectorUnmask hp v a d, ?_⟩
  split <;> exact ⟨rfl, rfl⟩

end Events

/-- Settles O45: the lemmas on `State.raise`, `State.msix` and `State.evtEnable`, clause by clause. -/
theorem messagesFollowRisingEvents : Obligations.MessagesFollowRisingEvents := by
  unfold Obligations.MessagesFollowRisingEvents
  refine ⟨fun w e s hp hw k => ?_, fun w e s hp hw hevt hen => ?_, fun w e s h => State.raise_of_not_rising h,
    fun v s => ⟨fun h => ?_, fun h => ?_⟩, fun w v s hp hw h => ?_, fun w e v s hp hw hv hen hevt h => ?_,
    fun w m s hp hw => ?_, fun v a d s hp => ?_, fun n s => s.bitAt_evtSum n.isLt⟩
  · rw [s.raise_evt_bits hw hp e.isLt]
    simp only [Fin.ext_iff]
  · rw [State.raise_of_rising hp hw hevt hen]
    exact s.msix_wri _ _ _ _
  · rw [State.msix_of_masked h]
    refine ⟨rfl, fun k => ?_⟩
    by_cases hk : k = v
    · simp [hk]
    · have hne : k.val ≠ v.val := fun c => hk (Fin.ext c)
      simp [bitAt_setBit_ne _ _ hne, hk]
  · rw [State.msix_of_unmasked h]
    exact ⟨rfl, _, _, rfl⟩
  · refine ⟨_, exec_eventEnable_present hp hw v, s.evtEnable_en w.val v.isLt, ?_⟩
    rw [State.evtEnable_of_none_rising (State.enRising_eq_nil h)]
    exact ⟨rfl, rfl⟩
  · refine ⟨_, exec_eventEnable_present hp hw v, s.evtEnable_en w.val v.isLt, ?_⟩
    rw [State.evtEnable_of_one_rising (State.enRising_eq_singleton hv hen hevt h)]
    exact s.msix_wri _ _ _ _
  · refine ⟨_, exec_eventClear_present hp hw m, rfl, rfl, fun k => ?_⟩
    rw [State.evtClear_evt, bitAt_land_compl _ _ k.isLt]
  · obtain ⟨t, ht, hhost, hout⟩ := exec_vectorUnmask_effect hp v a d
    refine ⟨t, ht, ?_, ?_, hout⟩
    · rw [hhost]
      exact bitAt_setBit_same _ _ _
    · rw [hhost]
      exact bitAt_setBit_same _ _ _

/-! ## DMA channels and the PCIe link reset (R52, R67, R71) -/

section DmaChannels

variable {s t : State} {m n k : Nat}

theorem Frame.dmaCh (h : Frame m s t) (hm : m.testBit Part.hostDma.ix = false) (n : Nat) : t.dmaCh n = s.dmaCh n :=
  congrArg (fun l : List DmaCh => listAt l n {}) (h.1 .hostDma hm)

theorem State.dmaCh_dmaM_same (h : n < s.host.dma.length) (f : DmaCh → DmaCh) : (s.dmaM n f).dmaCh n = f (s.dmaCh n) :=
  listAt_listMod_same _ _ _ _ h

theorem State.dmaCh_dmaM_ne (h : n ≠ k) (f : DmaCh → DmaCh) : (s.dmaM k f).dmaCh n = s.dmaCh n :=
  listAt_listMod_ne _ _ _ h

/-- A channel that the list lacks reads as one with nothing posted. -/
theorem State.dmaCh_of_le (h : s.host.dma.length ≤ n) : s.dmaCh n = {} := by
  rw [State.dmaCh, listAt, List.getElem?_eq_none h]
  rfl

@[simp] theorem State.length_dma_dmaM (n : Nat) (f : DmaCh → DmaCh) :
    (s.dmaM n f).host.dma.length = s.host.dma.length := length_listMod _ _ _

/-- The queue of channel `n` emptied, its descriptors keeping OWN. -/
def State.dmaEmptied (s : State) (n : Nat) : State :=
  (s.dmaM n fun c => { c with posted := [], cont := false }).dmaStall n

theorem State.dmaEmptied_frame (s : State) (n : Nat) : Frame 0x20000001080000000010401 s (s.dmaEmptied n) :=
  ((s.dmaM_frame n _).mono (by decide)).trans ((State.dmaStall_frame _ n).mono (by decide))

theorem State.dmaEmptied_posted_same (s : State) (n : Nat) : ((s.dmaEmptied n).dmaCh n).posted = [] := by
  rw [State.dmaEmptied, (State.dmaStall_frame _ n).dmaCh (by decide)]
  rcases Nat.lt_or_ge n s.host.dma.length with h | h
  · rw [State.dmaCh_dmaM_same h]
  · rw [State.dmaCh_of_le (by simpa using h)]

theorem State.dmaEmptied_posted_ne (s : State) (h : n ≠ k) : (s.dmaEmptied k).dmaCh n = s.dmaCh n := by
  rw [State.dmaEmptied, (State.dmaStall_frame _ k).dmaCh (by decide), State.dmaCh_dmaM_ne h]

/-- After the channels below `m` were emptied they hold nothing. -/
theorem State.foldl_dmaEmptied_posted (s : State) (m : Nat) :
    ∀ n < m, (((List.range m).foldl State.dmaEmptied s).dmaCh n).posted = [] := by
  induction m with
  | zero => exact fun n hn => absurd hn (Nat.not_lt_zero n)
  | succ m ih =>
    intro n hn
    rw [List.range_succ, List.foldl_append, List.foldl_cons, List.foldl_nil]
    by_cases hm : n = m
    · rw [hm]
      exact State.dmaEmptied_posted_same _ m
    · rw [State.dmaEmptied_posted_ne _ hm]
      exact ih n (by omega)

/-- The MSI-X table empty and masked, and the link as the reset leaves it. -/
def State.linkReset (s : State) (cause : Nat) (up : Bool) : State :=
  { s with host := { s.host with
    msixTable := [], msixMask := 0xFFFFFFFFFFFFFFFF, msixPba := 0,
    pcieUp := if cause = 2 then s.host.pcieUp else up } }

theorem exec_pcieLinkReset (hp : s.host.halted = false) (c : Fin 3) (up : Bool) : exec (.pcieLinkReset c up) s =
    .next (((List.range 8).foldl State.dmaEmptied (s.linkReset c.val up)).raiseIf (c.val != 2) 3 19) :=
  State.powered_of_not_halted hp _

theorem State.linkReset_frame (s : State) (c : Nat) (up : Bool) : Frame 0x20000001080000000010401 (s.linkReset c up)
    (((List.range 8).foldl State.dmaEmptied (s.linkReset c up)).raiseIf (c != 2) 3 19) :=
  (Frame.foldl _ (Frame.rfl _ _) fun u n => u.dmaEmptied_frame n).trans ((State.raiseIf_frame _ _ _ _).mono (by decide))

end DmaChannels

/-- Settles O2: the lemmas on the events, on unmasking and on the emptied channels. -/
theorem eventAndVectorCommandsComplete : Obligations.EventAndVectorCommandsComplete := by
  unfold Obligations.EventAndVectorCommandsComplete
  refine ⟨fun w m s hp hw => ⟨_, exec_eventClear_present hp hw m, s.evtClear_evt w.val m.toNat,
      s.evtClear_en w.val m.toNat⟩,
    fun w v s hp hw => ⟨_, exec_eventEnable_present hp hw v, s.evtEnable_en w.val v.isLt, s.evtEnable_evt w.val v.toNat⟩,
    fun w v c s hp hw hc => ?_, fun v a d s hp => ?_, fun c up s hp => ⟨_, exec_pcieLinkReset hp c up, ?_⟩⟩
  · obtain ⟨a, ha⟩ := exec_event_absent hp hw hc
    exact ⟨_, ha, s.absentWrite_count a, s.absentWrite_rdi_evtGroup a _ (by decide) (by decide),
      s.absentWrite_rdi_evtGroup a _ (by decide) (by decide)⟩
  · obtain ⟨t, ht, hhost, hout⟩ := exec_vectorUnmask_effect hp v a d
    refine ⟨t, ht, ?_, ?_, ?_, ?_⟩
    · rw [hhost]
      exact assocGet_assocPut_same _ _ _
    · rw [hhost]
      exact bitAt_setBit_same _ _ _
    · rw [hhost]
      exact bitAt_setBit_same _ _ _
    · rw [hout]
      split <;> rfl
  · have hf := s.linkReset_frame c.val up
    refine ⟨hf.1 .hostMsixTable (by decide), hf.1 .hostMsixMask (by decide), hf.1 .hostPcieUp (by decide), fun n => ?_⟩
    rw [(State.raiseIf_frame _ _ _ _).dmaCh (by decide)]
    exact State.foldl_dmaEmptied_posted _ 8 n.val n.isLt

end Sys2Proof.Machine

namespace Sys2Proof.Machine

open Sys2Proof

/-! ## HSPI (R54 to R58) -/

section Hspi

variable {s : State}

/-- A counter field grows by one or stays at its largest value. -/
theorem State.rd_inc_same (s : State) (f : Fld) (k : Nat) (h : f.lo ≤ f.hi) (w : f.hi < 32) :
    (s.inc f k).rd f = min (s.rd f + k) (2 ^ (f.hi + 1 - f.lo) - 1) := s.rdi_inci_same f 0 k h w

theorem State.spiError_count (s : State) (c : Nat) :
    (s.spiError c).rd HST_SPI_ERR_COUNT = min (s.rd HST_SPI_ERR_COUNT + 1) 0xFFFF :=
  calc (s.spiError c).rd HST_SPI_ERR_COUNT
      = ((s.inc HST_SPI_ERR_COUNT 1).wr HST_SPI_ERR_LAST c).rd HST_SPI_ERR_COUNT :=
        State.rdij_raise _ _ _ _ _ _ (by decide)
    _ = (s.inc HST_SPI_ERR_COUNT 1).rd HST_SPI_ERR_COUNT := State.rdij_wrij_apart _ _ _ _ _ _ _ _ (by decide)
    _ = min (s.rd HST_SPI_ERR_COUNT + 1) 0xFFFF := State.rd_inc_same _ _ _ (by decide) (by decide)

theorem State.spiError_last (s : State) {c : Nat} (h : c < 256) : (s.spiError c).rd HST_SPI_ERR_LAST = c :=
  calc (s.spiError c).rd HST_SPI_ERR_LAST
      = ((s.inc HST_SPI_ERR_COUNT 1).wr HST_SPI_ERR_LAST c).rd HST_SPI_ERR_LAST :=
        State.rdij_raise _ _ _ _ _ _ (by decide)
    _ = c % 2 ^ 8 := State.rdij_wrij_same _ _ _ _ _ (by decide) (by decide)
    _ = c := Nat.mod_eq_of_lt h

theorem State.spiCheck_lt (s : State) (a n : Nat) : s.spiCheck a n < 256 := by
  unfold State.spiCheck
  split_ifs <;> decide

/-- A burst that is not turned away lies in the register space or in memory (R57). -/
theorem State.spiCheck_span {a n : Nat} (h : s.spiCheck a n = 0x5A) :
    a + 4 * n ≤ 0x400000 ∨ 0x400000 ≤ a := by
  have hpage : (a + 4 * n - 1) / 65536 = a / 65536 := by
    by_contra hne
    unfold State.spiCheck at h
    rw [if_pos hne] at h
    split at h <;> exact absurd h (by decide)
  omega

/-! ### Writes -/

/-- The status of the last write noted. -/
def State.spiWrote (s : State) (c : Nat) : State := { s with host := { s.host with lastWrite := c } }

theorem State.spiWrote_frame (s : State) (c : Nat) : Frame 0x1000 s (s.spiWrote c) :=
  Frame.put_host_lastWrite _ (by decide) (Frame.rfl _ _)

theorem exec_writeWords_cut (hp : s.host.halted = false) (a : Word) (l : List Word) :
    exec (.writeWords a l true) s = .next s := State.powered_of_not_halted hp _

theorem exec_writeWords_accepted {a : Word} {l : List Word} (hp : s.host.halted = false)
    (h : s.spiCheck a.toNat l.length = 0x5A) :
    exec (.writeWords a l false) s = .next ((s.spiWrites a.toNat (l.map (·.toNat))).spiWrote 0x5A) := by
  simp only [exec, execWriteWords, State.powered_of_not_halted hp, h, if_true, Bool.false_eq_true, if_false]
  rfl

theorem exec_writeWords_refused {a : Word} {l : List Word} (hp : s.host.halted = false)
    (h : s.spiCheck a.toNat l.length ≠ 0x5A) : exec (.writeWords a l false) s =
      .next ((s.spiError (s.spiCheck a.toNat l.length)).spiWrote (s.spiCheck a.toNat l.length)) := by
  simp only [exec, execWriteWords, State.powered_of_not_halted hp, h, if_false, Bool.false_eq_true]
  rfl

/-- What a refused write shows: the count, the status twice, and nothing of the rest. -/
theorem State.spiWrote_spiError (s : State) {c : Nat} (h : c < 256) :
    ((s.spiError c).spiWrote c).rd HST_SPI_ERR_COUNT = min (s.rd HST_SPI_ERR_COUNT + 1) 0xFFFF ∧
    ((s.spiError c).spiWrote c).rd HST_SPI_ERR_LAST = c ∧
    Frame 0x20000001080000000001401 s ((s.spiError c).spiWrote c) :=
  ⟨s.spiError_count c, s.spiError_last h,
    ((s.spiError_frame c).mono (by decide)).trans ((State.spiWrote_frame _ c).mono (by decide))⟩

/-- The words of a burst from number `k` on, as writes one after another. -/
theorem State.spiWrites_eq_foldl (a : Nat) (l : List Word) (k : Nat) (s : State) :
    s.spiWrites (a + 4 * k) (l.map (·.toNat)) =
      (l.zipIdx k).foldl (fun u p => u.wordWrite (a + 4 * p.2) p.1.toNat) s := by
  induction l generalizing s k with
  | nil => rfl
  | cons v l ih =>
    rw [List.map_cons, List.zipIdx_cons, List.foldl_cons, ← ih, State.spiWrites, Nat.mod_eq_of_lt v.isLt]
    rfl

/-! ### Reads -/

theorem State.spiRead_lastRead (s : State) (c : Nat) : (s.spiRead c).host.lastRead = c := by
  unfold State.spiRead
  split
  · rfl
  · exact (State.spiError_frame _ c).1 .hostLastRead (by decide)

/-- The status of a read that failed is counted and kept (R58). -/
theorem State.spiRead_failed (s : State) {c : Nat} (h : c ≠ 0x5A) (hc : c < 256) :
    (s.spiRead c).rd HST_SPI_ERR_COUNT = min (s.rd HST_SPI_ERR_COUNT + 1) 0xFFFF ∧
    (s.spiRead c).rd HST_SPI_ERR_LAST = c := by
  unfold State.spiRead
  rw [if_neg h]
  exact ⟨State.spiError_count _ c, State.spiError_last _ hc⟩

/-- The answer of a read that times out or is turned away. -/
def State.spiTurned (s : State) (a n : Nat) (late : Bool) : Out :=
  .hspi (if late then [0xE4] else 0xA5 :: List.replicate (4 * n) 0xFF ++ [s.spiCheck a n])

/-- A read that times out, or whose words are turned away, answers its status alone (R57). -/
theorem exec_readWords_turned {a : Word} {n : Fin 64} {late : Bool} (hp : s.host.halted = false)
    (h : late = true ∨ s.spiCheck a.toNat (n.val + 1) ≠ 0x5A) : exec (.readWords a n late) s =
      .next ((s.emit (s.spiTurned a.toNat (n.val + 1) late)).spiRead
        (if late then 0xE4 else s.spiCheck a.toNat (n.val + 1))) := by
  cases late with
  | true => exact State.powered_of_not_halted hp _
  | false =>
    have hc : s.spiCheck a.toNat (n.val + 1) ≠ 0x5A := h.resolve_left Bool.false_ne_true
    simp only [exec, execReadWords, State.powered_of_not_halted hp, Bool.false_eq_true, if_false]
    exact if_pos hc

/-- What a read that was turned away shows. -/
theorem exec_readWords_turned_status {a : Word} {n : Fin 64} {late : Bool} (hp : s.host.halted = false)
    (h : late = true ∨ s.spiCheck a.toNat (n.val + 1) ≠ 0x5A) : ∃ t : State, exec (.readWords a n late) s = .next t ∧
      t.host.lastRead = (if late then 0xE4 else s.spiCheck a.toNat (n.val + 1)) ∧
      t.rd HST_SPI_ERR_COUNT = min (s.rd HST_SPI_ERR_COUNT + 1) 0xFFFF ∧ t.rd HST_SPI_ERR_LAST = t.host.lastRead := by
  have hne : (if late then 0xE4 else s.spiCheck a.toNat (n.val + 1)) ≠ 0x5A := by
    cases late with
    | true =>
      rw [if_pos rfl]
      decide
    | false => exact h.resolve_left Bool.false_ne_true
  have hlt : (if late then 0xE4 else s.spiCheck a.toNat (n.val + 1)) < 256 := by
    cases late with
    | true =>
      rw [if_pos rfl]
      decide
    | false => exact s.spiCheck_lt _ _
  obtain ⟨hcount, hlast⟩ := (s.emit (s.spiTurned a.toNat (n.val + 1) late)).spiRead_failed hne hlt
  refine ⟨_, exec_readWords_turned hp h, State.spiRead_lastRead _ _, hcount, ?_⟩
  rw [hlast, State.spiRead_lastRead]

/-- The status of a read whose words came: 0xE1 when one was uncorrectable. -/
def spiStatus (l : List (Option Nat)) : Nat := if l.any (·.isNone) then 0xE1 else 0x5A

theorem exec_readWords_accepted {a : Word} {n : Fin 64} (hp : s.host.halted = false)
    (h : s.spiCheck a.toNat (n.val + 1) = 0x5A) : exec (.readWords a n false) s =
      .next (((s.spiReads a.toNat (n.val + 1)).2.emit (.hspi (0xA5 :: (s.spiReads a.toNat (n.val + 1)).1.flatMap
        (fun v => leBytes 4 (v.getD 0xFFFFFFFF)) ++ [spiStatus (s.spiReads a.toNat (n.val + 1)).1]))).spiRead
        (spiStatus (s.spiReads a.toNat (n.val + 1)).1)) := by
  simp only [exec, execReadWords, State.powered_of_not_halted hp, h, Bool.false_eq_true, if_false, ne_eq, not_true_eq_false]
  rfl

/-- Every word of a burst in the register space comes. -/
theorem State.spiReads_of_registers (n : Nat) (s : State) (a : Nat) (h : a + 4 * n ≤ 0x400000) :
    (s.spiReads a n).1.any (·.isNone) = false := by
  induction n generalizing s a with
  | zero => rfl
  | succ n ih =>
    have hword : ((s.wordRead a).1.isNone) = false := by
      rw [State.wordRead, if_neg (by omega)]
      split <;> rfl
    rw [State.spiReads, List.any_cons, hword, ih _ (a + 4) (by omega)]
    rfl

/-- A burst in memory reaches the registers of the memory unit alone. -/
theorem State.spiReads_of_memory (n : Nat) (s : State) (a : Nat) (h : 0x400000 ≤ a) :
    Frame 0x20000008080000000000401 s (s.spiReads a n).2 := by
  induction n generalizing s a with
  | zero => exact Frame.rfl _ s
  | succ n ih =>
    have hword : Frame 0x20000008080000000000401 s (s.wordRead a).2 := by
      rw [State.wordRead, if_pos h]
      exact s.hostMemRead_frame a 4
    exact hword.trans (ih _ (a + 4) (by omega))

/-- A burst with an uncorrectable word lies in memory, and leaves the error count to its status. -/
theorem State.spiReads_count_of_uncorrectable {a n : Nat} (h : s.spiCheck a n = 0x5A)
    (hbad : (s.spiReads a n).1.any (·.isNone) = true) :
    (s.spiReads a n).2.rd HST_SPI_ERR_COUNT = s.rd HST_SPI_ERR_COUNT := by
  rcases State.spiCheck_span h with hreg | hmem
  · exact absurd (s.spiReads_of_registers n a hreg) (by rw [hbad]; decide)
  · exact (s.spiReads_of_memory n a hmem).rd (by decide)

/-- Any status of a read but 0x5A is counted and kept. -/
theorem exec_readWords_status (hp : s.host.halted = false) (a : Word) (n : Fin 64) (late : Bool) :
    ∃ t : State, exec (.readWords a n late) s = .next t ∧ (t.host.lastRead ≠ 0x5A →
      t.rd HST_SPI_ERR_COUNT = min (s.rd HST_SPI_ERR_COUNT + 1) 0xFFFF ∧ t.rd HST_SPI_ERR_LAST = t.host.lastRead) := by
  by_cases h : late = true ∨ s.spiCheck a.toNat (n.val + 1) ≠ 0x5A
  · obtain ⟨t, ht, -, hcount, hlast⟩ := exec_readWords_turned_status hp h
    exact ⟨t, ht, fun _ => ⟨hcount, hlast⟩⟩
  · rw [not_or, Bool.not_eq_true, not_not] at h
    obtain ⟨rfl, hc⟩ := h
    refine ⟨_, exec_readWords_accepted hp hc, ?_⟩
    rw [State.spiRead_lastRead]
    intro hne
    have hbad : (s.spiReads a.toNat (n.val + 1)).1.any (·.isNone) = true := by
      by_contra hgood
      exact hne (if_neg hgood)
    rw [show spiStatus (s.spiReads a.toNat (n.val + 1)).1 = 0xE1 from if_pos hbad] at hne ⊢
    obtain ⟨hcount, hlast⟩ := State.spiRead_failed _ hne (by decide)
    refine ⟨hcount.trans ?_, hlast⟩
    rw [← State.spiReads_count_of_uncorrectable hc hbad]
    rfl

theorem exec_unknownCommand_undefined {c : BitVec 8} (hp : s.host.halted = false) (h : spiKnown c.toNat = false) :
    exec (.unknownCommand c) s = .next ((s.inc HST_SPI_ERR_COUNT 1).raise 3 18) := by
  simp only [exec, execUnknownCommand, State.powered_of_not_halted hp, h, Bool.false_eq_true, if_false]
  rfl

end Hspi

/-- Settles O49: the words of a burst one after another, and the status of one that is turned away. -/
theorem hspiWritesApplyInOrderOrNotAtAll : Obligations.HspiWritesApplyInOrderOrNotAtAll := by
  unfold Obligations.HspiWritesApplyInOrderOrNotAtAll
  refine ⟨fun a l s hp => exec_writeWords_cut hp a l, fun a l s hp h => ⟨_, exec_writeWords_accepted hp h, rfl, ?_⟩,
    fun a l s hp h => ⟨_, exec_writeWords_refused hp h, ?_⟩, fun a n late s hp => exec_readWords_status hp a n late⟩
  · rw [← State.spiWrites_eq_foldl]
    exact (State.spiWrote_frame _ _).changesOnly _ (by decide)
  · obtain ⟨hcount, hlast, hf⟩ := s.spiWrote_spiError (s.spiCheck_lt a.toNat l.length)
    exact ⟨hcount, hlast, rfl, hf.changesOnly _ (by decide)⟩

/-- Settles O3: the lemma on each transaction. -/
theorem hspiTransactionsComplete : Obligations.HspiTransactionsComplete := by
  unfold Obligations.HspiTransactionsComplete
  refine ⟨fun a n s hp h hgood => ⟨_, exec_readWords_accepted hp h, ?_⟩,
    fun a n late s hp h => exec_readWords_turned_status hp h, fun a l s hp => exec_writeWords_cut hp a l,
    fun a l s hp h => ⟨_, exec_writeWords_refused hp h, rfl, ?_⟩,
    fun a l s hp h => ⟨_, exec_writeWords_accepted hp h, rfl, rfl, rfl⟩,
    fun s hp => State.powered_of_not_halted hp _, fun s hp => State.powered_of_not_halted hp _,
    fun c s hp h => ⟨_, exec_unknownCommand_undefined hp h, ?_, ?_⟩⟩
  · rw [show spiStatus (s.spiReads a.toNat (n.val + 1)).1 = 0x5A from if_neg (by rw [hgood]; decide)]
    exact ⟨State.spiRead_lastRead _ _, rfl⟩
  · obtain ⟨hcount, hlast, hf⟩ := s.spiWrote_spiError (s.spiCheck_lt a.toNat l.length)
    exact ⟨hcount, hlast, hf.1 .mem (by decide)⟩
  · exact (State.rdij_raise _ _ _ _ _ _ (by decide)).trans (State.rd_inc_same _ _ _ (by decide) (by decide))
  · exact (State.rdij_raise _ _ _ _ _ _ (by decide)).trans (State.rdij_wrij_apart _ _ _ _ _ _ _ _ (by decide))

end Sys2Proof.Machine

namespace Sys2Proof.Machine

open Sys2Proof

/-! ## Host DMA (R65 to R68, R575) -/

section Descriptors

variable {s : State} {n d : Nat}

/-! ### Posting -/

/-- HST_DMA_STATn shows the number of descriptors posted. -/
theorem State.dmaM_queued (s : State) (n : Nat) (f : DmaCh → DmaCh) :
    (s.dmaM n f).rdi HST_DMA_STAT_QUEUED n = ((s.dmaM n f).dmaCh n).posted.length % 512 :=
  State.rdij_wrij_same _ _ _ _ _ (by decide) (by decide)

/-- The state after an accepted post of descriptor `d`. -/
def State.dmaPosted (s : State) (n d : Nat) : State :=
  (s.dmaM n fun c => { c with posted := c.posted ++ [d] }).wri HST_DMA_STAT_STALLED n 0

theorem exec_dmaPost_accepted {n : Fin 8} {v : Word} (hp : s.host.halted = false) (hv : v.toNat < 256)
    (h : s.postBad n.val v.toNat = false) : exec (.dmaPost n v) s = .next (s.dmaPosted n.val v.toNat) := by
  have hd : v.toNat % 256 = v.toNat := Nat.mod_eq_of_lt hv
  simp only [exec, execDmaPost, State.powered_of_not_halted hp, State.dmaPost, hd, h, Bool.or_false, decide_eq_true_eq,
    Nat.not_lt.mpr (Nat.le_of_lt_succ hv), if_false]
  rfl

theorem State.dmaPosted_posted (hn : n < s.host.dma.length) (d : Nat) :
    ((s.dmaPosted n d).dmaCh n).posted = (s.dmaCh n).posted ++ [d] :=
  congrArg DmaCh.posted (State.dmaCh_dmaM_same hn fun c => { c with posted := c.posted ++ [d] })

theorem State.dmaPosted_stalled (s : State) (n d : Nat) : (s.dmaPosted n d).rdi HST_DMA_STAT_STALLED n = 0 :=
  State.rdij_wrij_same _ _ _ _ _ (by decide) (by decide)

theorem State.dmaPosted_queued (hn : n < s.host.dma.length) (d : Nat) :
    (s.dmaPosted n d).rdi HST_DMA_STAT_QUEUED n = ((s.dmaCh n).posted.length + 1) % 512 := by
  refine (State.rdij_wrij_apart _ _ _ _ _ _ _ _ (by decide)).trans ((State.dmaM_queued _ _ _).trans ?_)
  rw [State.dmaCh_dmaM_same hn, List.length_append]
  rfl

/-- The state after a rejected post of descriptor `d` (R68). -/
def State.dmaRejected (s : State) (d : Nat) : State := ((s.inc HST_DMA_ERR_COUNT 1).wr HST_DMA_ERR_LAST d).raise 3 17

theorem exec_dmaPost_rejected {n : Fin 8} {v : Word} (hp : s.host.halted = false)
    (h : 255 < v.toNat ∨ s.postBad n.val v.toNat = true) :
    exec (.dmaPost n v) s = .next (s.dmaRejected (v.toNat % 256)) := by
  have hbad : (decide (255 < v.toNat) || s.postBad n.val (v.toNat % 256)) = true := by
    rw [Bool.or_eq_true, decide_eq_true_eq]
    rcases Nat.lt_or_ge 255 v.toNat with hv | hv
    · exact .inl hv
    · rw [Nat.mod_eq_of_lt (Nat.lt_succ_of_le hv)]
      exact h
  simp only [exec, execDmaPost, State.powered_of_not_halted hp, State.dmaPost, hbad, if_true]
  rfl

theorem State.dmaRejected_count (s : State) (d : Nat) :
    (s.dmaRejected d).rd HST_DMA_ERR_COUNT = min (s.rd HST_DMA_ERR_COUNT + 1) (2 ^ 24 - 1) := by
  refine (State.rdij_raise _ _ _ _ _ _ (by decide)).trans ?_
  exact (State.rdij_wrij_apart _ _ _ _ _ _ _ _ (by decide)).trans (State.rd_inc_same _ _ _ (by decide) (by decide))

theorem State.dmaRejected_last (s : State) {d : Nat} (h : d < 256) : (s.dmaRejected d).rd HST_DMA_ERR_LAST = d := by
  refine (State.rdij_raise _ _ _ _ _ _ (by decide)).trans ?_
  exact (State.rdij_wrij_same _ _ _ _ _ (by decide) (by decide)).trans (Nat.mod_eq_of_lt h)

theorem State.dmaRejected_dma (s : State) (d : Nat) : (s.dmaRejected d).host.dma = s.host.dma :=
  (State.raise_frame _ 3 17).1 .hostDma (by decide)

/-! ### Outputs that an operation leaves standing -/

theorem State.msix_out_suffix (s : State) (v : Nat) : s.out <:+ (s.msix v).out := by
  unfold State.msix
  split
  · exact List.suffix_rfl
  · exact List.suffix_cons _ _

theorem State.raise_out_suffix (s : State) (w e : Nat) : s.out <:+ (s.raise w e).out := by
  unfold State.raise
  dsimp only
  split
  · split
    · exact State.msix_out_suffix (s.wri UNIT_EVT_EVT w (setBit (s.rdi UNIT_EVT_EVT w) e true)) _
    · exact List.suffix_rfl
  · exact List.suffix_rfl

theorem State.raiseIf_out_suffix (s : State) (c : Bool) (w e : Nat) : s.out <:+ (s.raiseIf c w e).out := by
  unfold State.raiseIf
  split
  · exact s.raise_out_suffix w e
  · exact List.suffix_rfl

theorem State.dmaStall_out_suffix (s : State) (n : Nat) : s.out <:+ (s.dmaStall n).out := by
  unfold State.dmaStall
  split
  · exact State.raise_out_suffix ((s.wri HST_DMA_STAT_STALLED n 1).inci HST_DMA_STALL_COUNT n 1) 3 (8 + n)
  · exact List.suffix_rfl

/-! ### The write-back of a descriptor -/

theorem descWord_window (d w : Nat) : descWord d w / 0x10000 = 3 ∧ isEvt (descWord d w) = false := by
  have hoff : 0x8000 ≤ descWord d w % 0x10000 ∧ descWord d w / 0x10000 = 3 := by
    unfold descWord
    omega
  refine ⟨hoff.2, ?_⟩
  simp only [isEvt, Bool.and_eq_false_iff, decide_eq_false_iff_not]
  omega

/-- The descriptors stand across an operation that leaves the HST window. -/
theorem Frame.descWord {m : Nat} {t : State} (h : Frame m s t) (hm : m.testBit (Part.win 3).ix = false) (d w : Nat) :
    t.reg (descWord d w) = s.reg (descWord d w) := by
  obtain ⟨hwin, hevt⟩ := descWord_window d w
  exact h.1 (.win 3) hm _ hwin hevt

/-- The control word written back: OWN cleared, ERR and DONE_LEN set. -/
def descControl (ctl len : Nat) (err : Bool) : Nat := setBits (setBit (setBit ctl 31 false) 27 err) 23 0 len

theorem bitAt_setBits_above (v x : Nat) {hi lo i : Nat} (h : lo ≤ hi) (hi' : hi < i) :
    bitAt (setBits v hi lo x) i = bitAt v i := by
  rw [bitAt_eq_bitsOf, bitAt_eq_bitsOf, bitsOf_setBits_above _ _ h hi']

theorem descControl_own (ctl len : Nat) (err : Bool) : bitAt (descControl ctl len err) 31 = false := by
  rw [descControl, bitAt_setBits_above _ _ (by decide) (by decide), bitAt_setBit_ne _ _ (by decide), bitAt_setBit_same]

theorem descControl_err (ctl len : Nat) (err : Bool) : bitAt (descControl ctl len err) 27 = err := by
  rw [descControl, bitAt_setBits_above _ _ (by decide) (by decide), bitAt_setBit_same]

theorem descControl_lt {ctl : Nat} (h : ctl < 2 ^ 32) (len : Nat) (err : Bool) : descControl ctl len err < 2 ^ 32 :=
  setBits_lt _ _ (by decide) (by decide) (setBit_lt _ _ (by decide) (setBit_lt _ _ (by decide) h))

/-- The control word written and the descriptor off its channel, before the events. -/
def State.descBack (s : State) (n d len : Nat) (err : Bool) : State :=
  (s.setReg (descWord d 4) (descControl (s.reg (descWord d 4)) len err)).dmaM n fun c => { c with posted := c.posted.drop 1 }

theorem State.descDone_eq (s : State) (n d len : Nat) (err : Bool) : s.descDone n d len err =
    ((s.descBack n d len err).raiseIf (bitAt (s.reg (descWord d 4)) 30) 3 n).raiseIf err 3 17 := rfl

theorem State.descDone_events (s : State) (n d len : Nat) (err : Bool) :
    Frame 0x20000000080000000000401 (s.descBack n d len err) (s.descDone n d len err) :=
  (State.raiseIf_frame _ _ _ _).trans (State.raiseIf_frame _ _ _ _)

theorem State.descDone_control (s : State) (n d len : Nat) (err : Bool) :
    (s.descDone n d len err).reg (descWord d 4) = descControl (s.reg (descWord d 4)) len err := by
  have hne : descWord d 4 ≠ HST_DMA_STAT_QUEUED.addr n 0 := by
    simp only [descWord, Fld.addr, HST_DMA_STAT_QUEUED]
    omega
  rw [(s.descDone_events n d len err).descWord (by decide)]
  refine (State.reg_wrij_ne _ _ _ _ _ _ hne).trans ((State.reg_setReg_same _ _ _).trans ?_)
  exact Nat.mod_eq_of_lt (descControl_lt (s.reg_lt _) len err)

theorem State.descDone_posted (hn : n < s.host.dma.length) (d len : Nat) (err : Bool) :
    ((s.descDone n d len err).dmaCh n).posted = (s.dmaCh n).posted.drop 1 := by
  rw [(s.descDone_events n d len err).dmaCh (by decide)]
  exact congrArg DmaCh.posted (State.dmaCh_dmaM_same (s := s.setReg _ _) hn _)

theorem State.descDone_out_suffix (s : State) (n d len : Nat) (err : Bool) : s.out <:+ (s.descDone n d len err).out :=
  (State.raiseIf_out_suffix (s.descBack n d len err) _ 3 n).trans (State.raiseIf_out_suffix _ err 3 17)

/-! ### Channel 7 -/

/-- The address in the host's memory that a descriptor names. -/
def State.descHost (s : State) (d : Nat) : Nat := s.reg (descWord d 0) + s.reg (descWord d 1) * 2 ^ 32

/-- The length that a descriptor names. -/
def State.descLen (s : State) (d : Nat) : Nat := bitsOf (s.reg (descWord d 3)) 23 0

/-- The state after `m` bytes moved on channel 7, before the write-back; what was read goes to the host. -/
def State.dmaMoved (s : State) (d m : Nat) (data : List Nat) : State :=
  if bitsOf (s.reg (descWord d 4)) 29 28 = 0 then
    (s.dmaMove d m data).2.2.emit (.dma 7 (s.descHost d) (s.dmaMove d m data).1)
  else (s.dmaMove d m data).2.2

theorem State.dmaMoved_frame (s : State) (d m : Nat) (data : List Nat) :
    Frame 0x20000208280000000000407 s (s.dmaMoved d m data) :=
  Frame.ite ((State.emit_frame _ _).comp (by decide) (s.dmaMove_frame d m data)) (s.dmaMove_frame d m data)

/-- The bytes that move on channel 7: up to a fault of the host address, at most the descriptor's length. -/
def State.dmaAmount (s : State) (d : Nat) (moved : Option Nat) : Nat := min (moved.getD (s.descLen d)) (s.descLen d)

theorem exec_descriptorComplete_seven {l : List Nat} (hp : s.host.halted = false) (h : (s.dmaCh 7).posted = d :: l)
    (data : List Nat) (moved : Option Nat) : exec (.descriptorComplete 7 data moved) s =
      .next ((s.dmaMoved d (s.dmaAmount d moved) data).descDone 7 d (s.dmaAmount d moved)
        ((s.dmaMove d (s.dmaAmount d moved) data).2.1 || moved.isSome)) := by
  have h' : (s.dmaCh (7 : Fin 8).val).posted = d :: l := h
  simp only [exec, execDescriptorComplete, State.powered_of_not_halted hp, h']
  rfl

/-! ### Channels that write records -/

/-- What follows a write of a record on a channel other than 5 leaves the HST window and the channels. -/
theorem State.dmaAfter_frame_of_ne_five (s : State) (h : n ≠ 5) : Frame 0x20010010080004000000401 s (s.dmaAfter n) := by
  unfold State.dmaAfter
  dsimp only
  split
  · exact (s.yShow_frame).mono (by decide)
  · exact Frame.ite ((State.raise_frame _ 26 4).comp (by decide) ((s.gnsM_frame _).mono (by decide))) (Frame.rfl _ s)
  · exact Frame.ite ((State.raise_frame _ 7 6).comp (by decide) ((Frame.rfl _ s).wr (by decide))) (Frame.rfl _ s)
  · exact absurd rfl h
  · exact Frame.rfl _ s

theorem State.dmaAfter_out_suffix (s : State) (h : n ≠ 5) : s.out <:+ (s.dmaAfter n).out := by
  unfold State.dmaAfter
  dsimp only
  split
  · exact List.suffix_rfl
  · split
    · exact State.raise_out_suffix (s.gnsM fun g => { g with snapDma := false }) 26 4
    · exact List.suffix_rfl
  · split
    · exact State.raise_out_suffix (s.wr REC_STAT_DUMPING 0) 7 6
    · exact List.suffix_rfl
  · exact absurd rfl h
  · exact List.suffix_rfl

/-- Packing records into a descriptor takes no descriptor. -/
theorem packDesc_posted (len : Nat) (c : DmaCh) : (packDesc len c).2.posted = c.posted := by
  unfold packDesc
  split
  · rfl
  · split
    · rfl
    · split <;> rfl

/-- The records of channel `n` packed into descriptor `d`, and their bytes sent to the host. -/
def State.recordSent (s : State) (n d : Nat) : State :=
  (s.dmaM n fun _ => (packDesc (s.descLen d) (s.dmaCh n)).2).emit
    (.dma n (s.descHost d) (packDesc (s.descLen d) (s.dmaCh n)).1)

theorem State.recordSent_posted (hn : n < s.host.dma.length) (d : Nat) :
    ((s.recordSent n d).dmaCh n).posted = (s.dmaCh n).posted :=
  (congrArg DmaCh.posted (State.dmaCh_dmaM_same hn _)).trans (packDesc_posted _ _)

/-- The state after the record of channel `n` was written whole into descriptor `d`. -/
def State.recordWritten (s : State) (n d : Nat) : State :=
  (((s.recordSent n d).descDone n d (packDesc (s.descLen d) (s.dmaCh n)).1.length false).dmaAfter n).dmaStall n

theorem exec_descriptorComplete_record {n : Fin 8} {l : List Nat} (hp : s.host.halted = false) (hn : n.val ≠ 7)
    (h : (s.dmaCh n.val).posted = d :: l) (hr : (s.dmaCh n.val).ready ≠ []) (data : List Nat) :
    exec (.descriptorComplete n data none) s = .next (s.recordWritten n.val d) := by
  have hready : (s.dmaCh n.val).ready.isEmpty = false := by simpa using hr
  simp only [exec, execDescriptorComplete, State.powered_of_not_halted hp, h, if_neg hn, hready, Bool.false_eq_true, if_false,
    Option.getD_none, Nat.min_self, List.take_length, Option.isSome_none]
  rfl

/-- What follows the write-back leaves the HST window but for a stall. -/
theorem State.recordWritten_frame (s : State) (h : n ≠ 5) (d : Nat) : Frame 0x20010011080004000000401
    ((s.recordSent n d).descDone n d (packDesc (s.descLen d) (s.dmaCh n)).1.length false) (s.recordWritten n d) :=
  ((State.dmaAfter_frame_of_ne_five _ h).mono (by decide)).trans ((State.dmaStall_frame _ n).mono (by decide))

/-- A stall writes no descriptor. -/
theorem State.dmaStall_descWord (s : State) (n d w : Nat) : (s.dmaStall n).reg (descWord d w) = s.reg (descWord d w) := by
  have h1 : descWord d w ≠ HST_DMA_STAT_STALLED.addr n 0 := by
    simp only [descWord, Fld.addr, HST_DMA_STAT_STALLED]
    omega
  have h2 : descWord d w ≠ HST_DMA_STALL_COUNT.addr n 0 := by
    simp only [descWord, Fld.addr, HST_DMA_STALL_COUNT]
    omega
  unfold State.dmaStall
  split
  · rw [(State.raise_frame _ _ _).descWord (by decide)]
    exact (State.reg_wrij_ne _ _ _ _ _ _ h2).trans (State.reg_wrij_ne _ _ _ _ _ _ h1)
  · rfl

theorem State.recordWritten_own (s : State) (h : n ≠ 5) (d : Nat) :
    bitAt ((s.recordWritten n d).reg (descWord d 4)) 31 = false := by
  rw [State.recordWritten, State.dmaStall_descWord, (State.dmaAfter_frame_of_ne_five _ h).descWord (by decide),
    State.descDone_control, descControl_own]

theorem State.recordWritten_posted (hn : n < s.host.dma.length) (h : n ≠ 5) (d : Nat) :
    ((s.recordWritten n d).dmaCh n).posted = (s.dmaCh n).posted.drop 1 := by
  rw [(s.recordWritten_frame h d).dmaCh (by decide), State.descDone_posted, State.recordSent_posted hn]
  simpa [State.recordSent] using hn

theorem State.recordWritten_out (s : State) (h : n ≠ 5) (d : Nat) :
    .dma n (s.descHost d) (packDesc (s.descLen d) (s.dmaCh n)).1 ∈ (s.recordWritten n d).out := by
  have hsent : .dma n (s.descHost d) (packDesc (s.descLen d) (s.dmaCh n)).1 ∈ (s.recordSent n d).out :=
    List.mem_cons_self ..
  exact (((State.descDone_out_suffix _ _ _ _ _).trans (State.dmaAfter_out_suffix _ h)).trans
    (State.dmaStall_out_suffix _ n)).subset hsent

/-- With no descriptor and no record nothing happens. -/
theorem exec_descriptorComplete_idle {n : Fin 8} (hp : s.host.halted = false) (h : (s.dmaCh n.val).posted = [])
    (hr : (s.dmaCh n.val).ready = []) (data : List Nat) (moved : Option Nat) :
    exec (.descriptorComplete n data moved) s = .next s := by
  simp only [exec, execDescriptorComplete, State.powered_of_not_halted hp, h]
  rw [State.dmaStall, hr, if_neg (by simp)]
  rfl

end Descriptors

/-- Settles O4: the lemmas on a post, on the write-back of a descriptor and on the record sent. -/
theorem dmaCommandsComplete : Obligations.DmaCommandsComplete := by
  unfold Obligations.DmaCommandsComplete
  refine ⟨fun n v s hp hv h h8 => ⟨_, exec_dmaPost_accepted hp hv h, ?_⟩,
    fun n v s hp h => ⟨_, exec_dmaPost_rejected hp h, s.dmaRejected_count _, s.dmaRejected_last (Nat.mod_lt _ (by decide)),
      s.dmaRejected_dma _⟩,
    fun d l data moved s hp h h8 => ⟨_, exec_descriptorComplete_seven hp h data moved, ?_⟩,
    fun n d l data s hp h7 h5 h hr h8 => ⟨_, exec_descriptorComplete_record hp (by omega) h hr data, ?_⟩,
    fun n data moved s hp h hr => exec_descriptorComplete_idle hp h hr data moved⟩
  · have hn : n.val < s.host.dma.length := by omega
    exact ⟨State.dmaPosted_posted hn _, s.dmaPosted_stalled _ _, State.dmaPosted_queued hn _⟩
  · have hf := s.dmaMoved_frame d (s.dmaAmount d moved) data
    have hdma : (s.dmaMoved d (s.dmaAmount d moved) data).host.dma = s.host.dma := hf.1 .hostDma (by decide)
    rw [State.descDone_control, descControl_own, descControl_err, State.descDone_posted (by rw [hdma]; omega),
      hf.dmaCh (by decide), h]
    exact ⟨rfl, Bool.or_comm _ _, rfl⟩
  · have hn : n.val < s.host.dma.length := by omega
    exact ⟨s.recordWritten_own h5 d, by rw [State.recordWritten_posted hn h5, h]; rfl, s.recordWritten_out h5 d⟩

end Sys2Proof.Machine

namespace Sys2Proof.Machine

open Sys2Proof

/-! ## Watchdog (R69, R70) -/

section Watchdog

variable {s : State}

theorem exec_kick_good {v : Word} (hp : s.host.halted = false) (hv : v.toNat = 0x5A3C) :
    exec (.kick v) s = .next s.wdKick := by
  simp only [exec, execKick, State.powered_of_not_halted hp, State.kick, hv, if_true]
  rfl

theorem exec_kick_bad {v : Word} (hp : s.host.halted = false) (hv : v.toNat ≠ 0x5A3C) :
    exec (.kick v) s = .next (s.inc HST_LOST_BADKEY 1) := by
  simp only [exec, execKick, State.powered_of_not_halted hp, State.kick, hv, if_false]
  rfl

theorem State.wdKick_kicked (s : State) : s.wdKick.rd HST_LOST_KICKED = 1 :=
  State.rdij_wrij_same s _ _ _ _ (by decide) (by decide)

/-- A kick leaves every field beside KICKED. -/
theorem State.wdKick_rd (s : State) {f : Fld} (h : HST_LOST_KICKED.apart f = true) : s.wdKick.rd f = s.rd f :=
  State.rdij_wrij_apart s _ _ _ _ _ _ _ h

theorem exec_watchdogPeriodWrite_armed {v : Word} (hp : s.host.halted = false) (hv : v.toNat % 65536 ≠ 0) :
    exec (.watchdogPeriodWrite v) s = .next (s.wr HST_WD_PERIOD (min (v.toNat % 65536) 60000)).wdKick := by
  have hne : min (v.toNat % 65536) 60000 ≠ 0 := by omega
  simp only [exec, execWatchdogPeriodWrite, State.powered_of_not_halted hp, State.wdPeriod, hne, if_false]
  rfl

theorem exec_watchdogPeriodWrite_zero {v : Word} (hp : s.host.halted = false) (hv : v.toNat % 65536 = 0) :
    exec (.watchdogPeriodWrite v) s = .next (s.wr HST_WD_PERIOD 0) := by
  have hzero : min (v.toNat % 65536) 60000 = 0 := by omega
  simp only [exec, execWatchdogPeriodWrite, State.powered_of_not_halted hp, State.wdPeriod, hzero, if_true]
  rfl

theorem State.wrPeriod_period (s : State) {p : Nat} (h : p < 2 ^ 16) : (s.wr HST_WD_PERIOD p).rd HST_WD_PERIOD = p :=
  (State.rdij_wrij_same s _ _ _ _ (by decide) (by decide)).trans (Nat.mod_eq_of_lt h)

/-- The field outputs as the host-lost state takes them, when it was not in force before. -/
def State.lostEntered (s : State) : State := if s.hostLost then s else s.fioLost

/-- HST_LOST at the expiry of the period: LOST set, KICKED cleared, counted. -/
def State.lostCounted (s : State) : State :=
  ((s.lostEntered.wr HST_LOST_LOST 1).wr HST_LOST_KICKED 0).inc HST_LOST_EXPIRED 1

/-- The state at the expiry of the period, before the event and the fans. -/
def State.expired (s : State) : State :=
  { s.lostCounted with host := { s.lostCounted.host with wdStart := s.host.wdStart + s.rd HST_WD_PERIOD * 1000000 } }

theorem exec_watchdogExpiry_due (hp : s.host.halted = false) (h0 : s.rd HST_WD_PERIOD ≠ 0)
    (h : s.host.wdStart + s.rd HST_WD_PERIOD * 1000000 ≤ s.clk.el) :
    exec .watchdogExpiry s = .next (s.expired.raise 3 16).fansApply := by
  have hdue : s.wdDue = true := by simp [State.wdDue, h0, h]
  simp only [exec, execWatchdogExpiry, State.powered_of_not_halted hp, hdue, if_true]
  rfl

/-- The event and the fans leave the HST registers and the start of the period. -/
theorem State.raise_fansApply_frame (s : State) (w e : Nat) :
    Frame 0x20000040080000002000401 s (s.raise w e).fansApply :=
  (State.fansApply_frame _).comp (by decide) ((s.raise_frame w e).mono (by decide))

theorem State.expired_regs (s : State) : s.expired.regs = s.lostCounted.regs := by rw [State.expired]

theorem State.expired_rd (s : State) (f : Fld) : s.expired.rd f = s.lostCounted.rd f :=
  State.rdij_congr s.expired_regs f 0 0

theorem State.lostCounted_lost (s : State) : s.lostCounted.rd HST_LOST_LOST = 1 :=
  calc s.lostCounted.rd HST_LOST_LOST
      = ((s.lostEntered.wr HST_LOST_LOST 1).wr HST_LOST_KICKED 0).rd HST_LOST_LOST :=
        State.rdij_wrij_apart _ _ _ _ _ _ _ _ (by decide)
    _ = (s.lostEntered.wr HST_LOST_LOST 1).rd HST_LOST_LOST := State.rdij_wrij_apart _ _ _ _ _ _ _ _ (by decide)
    _ = 1 := State.rdij_wrij_same _ _ _ _ _ (by decide) (by decide)

theorem State.lostCounted_kicked (s : State) : s.lostCounted.rd HST_LOST_KICKED = 0 :=
  calc s.lostCounted.rd HST_LOST_KICKED
      = ((s.lostEntered.wr HST_LOST_LOST 1).wr HST_LOST_KICKED 0).rd HST_LOST_KICKED :=
        State.rdij_wrij_apart _ _ _ _ _ _ _ _ (by decide)
    _ = 0 := State.rdij_wrij_same _ _ _ _ _ (by decide) (by decide)

theorem State.lostEntered_expired (s : State) : s.lostEntered.rd HST_LOST_EXPIRED = s.rd HST_LOST_EXPIRED := by
  unfold State.lostEntered
  split
  · rfl
  · exact s.fioLost_frame.rd (by decide)

theorem State.lostCounted_expired (s : State) :
    s.lostCounted.rd HST_LOST_EXPIRED = min (s.rd HST_LOST_EXPIRED + 1) (2 ^ 16 - 1) := by
  have hold : ((s.lostEntered.wr HST_LOST_LOST 1).wr HST_LOST_KICKED 0).rd HST_LOST_EXPIRED = s.rd HST_LOST_EXPIRED :=
    calc ((s.lostEntered.wr HST_LOST_LOST 1).wr HST_LOST_KICKED 0).rd HST_LOST_EXPIRED
        = (s.lostEntered.wr HST_LOST_LOST 1).rd HST_LOST_EXPIRED := State.rdij_wrij_apart _ _ _ _ _ _ _ _ (by decide)
      _ = s.lostEntered.rd HST_LOST_EXPIRED := State.rdij_wrij_apart _ _ _ _ _ _ _ _ (by decide)
      _ = s.rd HST_LOST_EXPIRED := s.lostEntered_expired
  rw [← hold]
  exact State.rd_inc_same _ _ _ (by decide) (by decide)

theorem exec_hostLostClear_kicked {v : Word} (hp : s.host.halted = false) (hv : bitAt v.toNat 0 = true)
    (hk : s.rd HST_LOST_KICKED = 1) : exec (.hostLostClear v) s = .next (s.wr HST_LOST_LOST 0).fansApply := by
  simp only [exec, execHostLostClear, State.powered_of_not_halted hp, State.lostClear, hv, hk, beq_self_eq_true,
    Bool.and_self, if_true]
  rfl

theorem exec_hostLostClear_idle {v : Word} (hp : s.host.halted = false)
    (h : bitAt v.toNat 0 = false ∨ s.rd HST_LOST_KICKED ≠ 1) : exec (.hostLostClear v) s = .next s := by
  have hc : (bitAt v.toNat 0 && s.rd HST_LOST_KICKED == 1) = false := by
    rcases h with h | h <;> simp [h]
  simp only [exec, execHostLostClear, State.powered_of_not_halted hp, State.lostClear, hc, Bool.false_eq_true, if_false]
  rfl

end Watchdog

/-- Settles O5: the lemma on each command, with HST_LOST and HST_WD read off. -/
theorem watchdogCommandsComplete : Obligations.WatchdogCommandsComplete := by
  unfold Obligations.WatchdogCommandsComplete
  refine ⟨fun v s hp hv => ⟨_, exec_kick_good hp hv, s.wdKick_kicked, rfl, s.wdKick_rd (by decide)⟩,
    fun v s hp hv => ⟨_, exec_kick_bad hp hv, State.rd_inc_same _ _ _ (by decide) (by decide),
      State.rdij_wrij_apart _ _ _ _ _ _ _ _ (by decide), rfl⟩,
    fun v s hp hv => ⟨_, exec_watchdogPeriodWrite_armed hp hv, ?_, State.wdKick_kicked _, rfl⟩,
    fun v s hp hv => ⟨_, exec_watchdogPeriodWrite_zero hp hv, s.wrPeriod_period (by decide),
      State.rdij_wrij_apart _ _ _ _ _ _ _ _ (by decide)⟩,
    fun s hp h0 h => ⟨_, exec_watchdogExpiry_due hp h0 h, ?_⟩,
    fun v s hp hv hk => ⟨_, exec_hostLostClear_kicked hp hv hk, ?_⟩,
    fun v s hp h => exec_hostLostClear_idle hp h⟩
  · exact (State.wdKick_rd _ (by decide)).trans (s.wrPeriod_period (by omega))
  · have hf := s.expired.raise_fansApply_frame 3 16
    rw [hf.rd (by decide), hf.rd (by decide), hf.rd (by decide), s.expired_rd, s.expired_rd, s.expired_rd]
    exact ⟨s.lostCounted_lost, s.lostCounted_kicked, s.lostCounted_expired, hf.1 .hostWdStart (by decide)⟩
  · have hf := State.fansApply_frame (s.wr HST_LOST_LOST 0)
    rw [hf.rd (by decide), hf.rd (by decide)]
    exact ⟨State.rdij_wrij_same _ _ _ _ _ (by decide) (by decide),
      (State.rdij_wrij_apart _ _ _ _ _ _ _ _ (by decide)).trans hk⟩

end Sys2Proof.Machine

namespace Sys2Proof.Machine

open Sys2Proof

/-! ## Power states (R72, R73, R576) -/

section PowerStates

variable {s : State}

/-- The state that a wake time of each depth allows is the deepest whose wake time the tolerance covers. -/
theorem le_stateFor_iff {k lat : Nat} (h : k ≤ 3) : k ≤ stateFor lat ↔ listAt [0, 1, 50, 5000] k 0 ≤ lat := by
  unfold stateFor
  obtain rfl | rfl | rfl | rfl : k = 0 ∨ k = 1 ∨ k = 2 ∨ k = 3 := by omega
  all_goals
    simp only [listAt, List.getElem?_cons_zero, List.getElem?_cons_succ, Option.getD_some]
    split_ifs <;> omega

theorem State.groupState_of_used {g : Nat} (h : s.groupUsed g = true) :
    s.groupState g = min (s.groupDeepest g) (stateFor (s.rdi PWR_LAT_LAT g)) := if_pos h

theorem State.groupState_of_unused {g : Nat} (h : s.groupUsed g = false) : s.groupState g = 3 :=
  if_neg (by rw [h]; decide)

theorem stateFor_le (lat : Nat) : stateFor lat ≤ 3 := by
  unfold stateFor
  split_ifs <;> decide

end PowerStates

/-- Settles O47: the chosen state is the lesser of the deepest allowed and the deepest that the tolerance covers. -/
theorem powerStateIsTheDeepestTheToleranceAllows : Obligations.PowerStateIsTheDeepestTheToleranceAllows := by
  unfold Obligations.PowerStateIsTheDeepestTheToleranceAllows
  refine ⟨fun g s hu => ?_, fun g s hu => State.groupState_of_unused hu, fun g s hu h0 => ?_⟩
  · rw [State.groupState_of_used hu]
    have hwake : min (s.groupDeepest g) (stateFor (s.rdi PWR_LAT_LAT g)) ≤ stateFor (s.rdi PWR_LAT_LAT g) :=
      Nat.min_le_right _ _
    exact ⟨Nat.min_le_left _ _, (le_stateFor_iff (hwake.trans (stateFor_le _))).mp hwake,
      fun k hk h3 hlat => Nat.le_min.mpr ⟨hk, (le_stateFor_iff h3).mpr hlat⟩⟩
  · rw [State.groupState_of_used hu, h0]
    exact Nat.min_zero _

section PowerCommands

variable {s : State} {g : Fin 12}

theorem exec_pwrLatWrite (hp : s.host.halted = false) (g : Fin 12) (v : Word) :
    exec (.pwrLatWrite g v) s = .next (s.wri PWR_LAT_LAT g v.toNat).pwrShow := State.powered_of_not_halted hp _

/-- PWR_STATE is no tolerance. -/
theorem State.pwrShow_lat (s : State) (g : Fin 12) : s.pwrShow.rdi PWR_LAT_LAT g = s.rdi PWR_LAT_LAT g := by
  have hne : PWR_LAT_LAT.addr g 0 ≠ 0x40040 := by
    simp only [Fld.addr, PWR_LAT_LAT]
    omega
  exact congrArg (bitsOf · 31 0) (State.reg_setReg_ne s _ hne)

theorem State.wriLat_lat (s : State) (g : Fin 12) (v : Word) : (s.wri PWR_LAT_LAT g v.toNat).rdi PWR_LAT_LAT g = v.toNat :=
  (State.rdij_wrij_same s _ _ _ _ (by decide) (by decide)).trans (Nat.mod_eq_of_lt v.isLt)

/-- A group with no work enters its chosen state (R72); what its unit loses then is not on the list of groups asleep. -/
theorem exec_enterPowerState_idle (hp : s.host.halted = false) (hk : s.groupState g.val ≠ 0)
    (ha : assocGet s.host.asleep g.val = none) (hw : assocGet s.host.wake g.val = none) :
    ∃ t : State, exec (.enterPowerState g) s = .next t ∧
      t.host.asleep = assocPut s.host.asleep g.val (s.groupState g.val) := by
  have hc : (decide (s.groupState g.val = 0) || assocGetD s.host.asleep g.val 0 == s.groupState g.val ||
      (assocGet s.host.wake g.val).isSome) = false := by
    simp [hk, assocGetD, ha, hw, Ne.symm hk]
  simp only [exec, execEnterPowerState, State.powered_of_not_halted hp, hc, Bool.false_eq_true, if_false]
  split
  · exact ⟨_, rfl, (State.pixReset_frame _).1 .hostAsleep (by decide)⟩
  · split
    · exact ⟨_, rfl, (State.gnsReset_frame _).1 .hostAsleep (by decide)⟩
    · exact ⟨_, rfl, rfl⟩

theorem exec_groupWake_asleep (hp : s.host.halted = false) (ha : (assocGet s.host.asleep g.val).isSome = true)
    (hw : assocGet s.host.wake g.val = none) : exec (.groupWake g) s =
      .next { s with host := { s.host with wake := assocPut s.host.wake g.val s.clk.el } } := by
  simp only [exec, execGroupWake, State.powered_of_not_halted hp, ha, hw, Option.isNone_none, Bool.and_self, if_true]
  rfl

/-- Group `g` off the lists of groups asleep and waking. -/
def State.woken (s : State) (g : Nat) : State :=
  { s with host := { s.host with wake := assocDel s.host.wake g, asleep := assocDel s.host.asleep g } }

/-- Channel `c` starts to settle when it is of the woken path of group `g` (R320). -/
def State.settleWoken (g : Nat) (t : State) (c : Nat) : State :=
  if t.diePresent (c / 16) && t.chanEn (c / 16) (c % 16) &&
    (precisionMode (t.chanV (c / 16) (c % 16) C_CHANNEL_MODE) == (g == 7)) then t.settleStart (c / 16) (c % 16)
  else t

theorem State.settleWoken_frame (g : Nat) (t : State) (c : Nat) : Frame 0xc0000000400000000001 t (t.settleWoken g c) :=
  Frame.ite (t.settleStart_frame _ _) (Frame.rfl _ t)

/-- A wake that completes takes the group off both lists; channels that settle touch neither. -/
theorem exec_wakeComplete_waking (hp : s.host.halted = false) (hw : (assocGet s.host.wake g.val).isSome = true) :
    ∃ t : State, exec (.wakeComplete g) s = .next t ∧ Frame 0xc0000000400000000001 (s.woken g.val) t := by
  simp only [exec, execWakeComplete, State.powered_of_not_halted hp, hw, if_true]
  split
  · exact ⟨(List.range 32).foldl (State.settleWoken g.val) (s.woken g.val), rfl,
      Frame.foldl _ (Frame.rfl _ _) (State.settleWoken_frame g.val)⟩
  · exact ⟨_, rfl, Frame.rfl _ _⟩

end PowerCommands

/-- Settles O6: the lemma on each command, with the lists of groups asleep and waking read off. -/
theorem powerCommandsComplete : Obligations.PowerCommandsComplete := by
  unfold Obligations.PowerCommandsComplete
  refine ⟨fun g v s hp => ⟨_, exec_pwrLatWrite hp g v, (State.pwrShow_lat _ g).trans (s.wriLat_lat g v)⟩,
    fun g s hp hk ha hw => ?_,
    fun g s hp ha hw => ⟨_, exec_groupWake_asleep hp ha hw, assocGet_assocPut_same _ _ _, rfl⟩,
    fun g s hp hw => ?_⟩
  · obtain ⟨t, ht, hasleep⟩ := exec_enterPowerState_idle hp hk ha hw
    exact ⟨t, ht, hasleep ▸ assocGet_assocPut_same _ _ _⟩
  · obtain ⟨t, ht, hf⟩ := exec_wakeComplete_waking hp hw
    have hwake : t.host.wake = assocDel s.host.wake g.val := hf.1 .hostWake (by decide)
    have hasleep : t.host.asleep = assocDel s.host.asleep g.val := hf.1 .hostAsleep (by decide)
    exact ⟨t, ht, hwake ▸ assocGet_assocDel_same _ _, hasleep ▸ assocGet_assocDel_same _ _⟩

end Sys2Proof.Machine

namespace Sys2Proof.Machine

open Sys2Proof

/-! ## Writes of command registers (R13, R14, R62, R63) -/

section CommandRegisters

variable {s : State} {a : Nat}

/-- Two commands of the core agree when they agree outside Thermal Halt. -/
theorem exec_eq_of_running {c d : Instr} (hc : c.alwaysOn = false) (hd : d.alwaysOn = false)
    (h : s.host.halted = false → exec c s = exec d s) : exec c s = exec d s := by
  cases hs : s.host.halted with
  | false => exact h hs
  | true => rw [haltedCoreDoesNothing c s hs hc, haltedCoreDoesNothing d s hs hd]

/-- A register of SYS, HST, PWR or MEM outside the event group that is no half of a 64-bit pair. -/
def plainCommand (a : Nat) : Bool :=
  [0, 3, 4, 6].contains (a / 0x10000) && a % 4 == 0 && decide (a % 0x10000 < 0xF00) && (regRow a).isSome &&
    !pairLows.contains a && !isHigh a

/-- The windows SYS, HST, PWR and MEM hold no absent address. -/
theorem State.absentAddr_of_core (s : State) (h : a / 0x10000 ∈ [0, 3, 4, 6]) : s.absentAddr a = false := by
  have hw : s.winPresent (a / 0x10000) = true := by
    unfold State.winPresent
    simp only [List.mem_cons, List.not_mem_nil, or_false] at h
    rcases h with h | h | h | h <;> rw [h] <;> split <;> rfl
  simp only [List.mem_cons, List.not_mem_nil, or_false] at h
  simp only [State.absentAddr, hw, Bool.not_true, Bool.and_false, Bool.false_or, Bool.and_eq_false_iff,
    Bool.or_eq_false_iff, decide_eq_false_iff_not]
  omega

/-- A register outside the event group that is no half of a pair goes to its unit. -/
theorem State.regWrite_of_unpaired (s : State) (hoff : a % 0x10000 < 0xF00) (hlow : pairLows.contains a = false)
    (hhigh : isHigh a = false) (v : Nat) : s.regWrite a v = s.unitWrite (a / 0x10000) a v := by
  rw [State.regWrite, if_neg (by omega), if_neg (by omega), hlow, hhigh]
  rfl

/-- A 32-bit write of such a register is what its unit does with the word. -/
theorem exec_registerWrite_plainCommand (hp : s.host.halted = false) (h : plainCommand a = true) (v : Nat) :
    exec (.registerWrite a 4 v) s = .next (s.unitWrite (a / 0x10000) a (v % 2 ^ 32)) := by
  simp only [plainCommand, Bool.and_eq_true, Bool.not_eq_true', beq_iff_eq, decide_eq_true_eq, List.contains_iff_mem] at h
  obtain ⟨⟨⟨⟨⟨hw, h4⟩, hoff⟩, hrow⟩, hlow⟩, hhigh⟩ := h
  have hlt : a < 0x400000 := by
    simp only [List.mem_cons, List.not_mem_nil, or_false] at hw
    omega
  obtain ⟨row, hr⟩ := Option.isSome_iff_exists.mp hrow
  rw [exec_registerWrite_word hp h4 hlt (State.reserved_of_regRow hlt hr), State.wordWrite, if_neg (by omega),
    s.absentAddr_of_core hw, s.regWrite_of_unpaired hoff hlow hhigh]
  rfl

/-- The address of register `n` of a row from `base` is found at place `n`. -/
theorem inst_at (base : Nat) {stride count n : Nat} (hs : 0 < stride) (hn : n < count) :
    inst base stride count (base + stride * n) = some n := by
  simp [inst, Nat.mul_div_cancel_left n hs, hn]

/-- A write that its register's unit answers as the command does. -/
theorem exec_registerWrite_eq_command {c : Instr} {t : State} (v : Nat) (h : plainCommand a = true) (hc : c.alwaysOn = false)
    (hexec : exec c s = s.powered (.next t)) (hunit : s.unitWrite (a / 0x10000) a (v % 2 ^ 32) = t) :
    exec (.registerWrite a 4 v) s = exec c s :=
  exec_eq_of_running rfl hc fun hp => by
    rw [exec_registerWrite_plainCommand hp h v, hexec, State.powered_of_not_halted hp, hunit]

theorem exec_registerWrite_dmaPost (n : Fin 8) (v : Nat) (s : State) :
    exec (.registerWrite (0x30100 + 4 * n.val) 4 v) s = exec (.dmaPost n (BitVec.ofNat 32 v)) s := by
  have hplain : ∀ m : Fin 8, plainCommand (0x30100 + 4 * m.val) = true := by decide +kernel
  have hwin : (0x30100 + 4 * n.val) / 0x10000 = 3 := by omega
  have hunit : s.unitWrite 3 (0x30100 + 4 * n.val) (v % 2 ^ 32) = s.dmaPost n.val (v % 2 ^ 32) := by
    show s.wrHst _ _ = _
    rw [State.wrHst, if_neg (by omega), if_neg (by omega), if_neg (by omega), inst_at 0x30100 (by decide) n.isLt]
  exact exec_registerWrite_eq_command v (hplain n) rfl rfl (hwin ▸ hunit)

theorem exec_registerWrite_pwrLat (g : Fin 12) (v : Nat) (s : State) :
    exec (.registerWrite (0x40000 + 4 * g.val) 4 v) s = exec (.pwrLatWrite g (BitVec.ofNat 32 v)) s := by
  have hplain : ∀ m : Fin 12, plainCommand (0x40000 + 4 * m.val) = true := by decide +kernel
  have hwin : (0x40000 + 4 * g.val) / 0x10000 = 4 := by omega
  have hg : Fin.ofNat 12 g.val = g := Fin.ext (Nat.mod_eq_of_lt g.isLt)
  have hv : BitVec.ofNat 32 (v % 2 ^ 32) = BitVec.ofNat 32 v := BitVec.eq_of_toNat_eq (Nat.mod_mod v (2 ^ 32))
  refine exec_eq_of_running rfl rfl fun hp => ?_
  have hexec := exec_pwrLatWrite hp g (BitVec.ofNat 32 v)
  have hunit : s.unitWrite 4 (0x40000 + 4 * g.val) (v % 2 ^ 32) =
      nextOr s (exec (.pwrLatWrite g (BitVec.ofNat 32 v)) s) := by
    rw [State.unitWrite, inst_at 0x40000 (by decide) g.isLt]
    show nextOr s (execPwrLatWrite (Fin.ofNat 12 g.val) (BitVec.ofNat 32 (v % 2 ^ 32)) s) = _
    rw [hg, hv]
    rfl
  rw [exec_registerWrite_plainCommand hp (hplain g) v, hwin, hunit, hexec]
  rfl

/-- The event registers of a window stand in the map at an aligned offset. -/
theorem regRow_evtGroup (w : Fin 32) : (regRow (0x10000 * w.val + 0xF00)).isSome = true ∧
    (regRow (0x10000 * w.val + 0xF04)).isSome = true := by
  have hall : ∀ k : Fin 32, (regRow (0x10000 * k.val + 0xF00)).isSome = true ∧
    (regRow (0x10000 * k.val + 0xF04)).isSome = true := by decide +kernel
  exact hall w

/-- A 32-bit write in an event group: ignored when the unit is absent, else the unit's. -/
theorem exec_registerWrite_evtGroup (hp : s.host.halted = false) (w : Fin 32) {o : Nat} (ho : 0xF00 ≤ o) (ho' : o < 0x1000)
    (h4 : o % 4 = 0) (hr : (regRow (0x10000 * w.val + o)).isSome = true) (v : Nat) :
    exec (.registerWrite (0x10000 * w.val + o) 4 v) s = .next (if s.absentAddr (0x10000 * w.val + o) then
      s.absentWrite (0x10000 * w.val + o) else s.regWrite (0x10000 * w.val + o) (v % 2 ^ 32)) := by
  obtain ⟨row, hrow⟩ := Option.isSome_iff_exists.mp hr
  have hlt : 0x10000 * w.val + o < 0x400000 := by omega
  rw [exec_registerWrite_word hp (by omega) hlt (State.reserved_of_regRow hlt hrow), State.wordWrite, if_neg (by omega)]

theorem State.regWrite_evt (s : State) (w : Fin 32) (v : Nat) : s.regWrite (0x10000 * w.val + 0xF00) v = s.evtClear w.val v := by
  have hw : (0x10000 * w.val + 0xF00) / 0x10000 = w.val := by omega
  rw [State.regWrite, if_pos (by omega), hw]

theorem State.regWrite_evtEn (s : State) (w : Fin 32) (v : Nat) :
    s.regWrite (0x10000 * w.val + 0xF04) v = s.evtEnable w.val v := by
  have hw : (0x10000 * w.val + 0xF04) / 0x10000 = w.val := by omega
  rw [State.regWrite, if_neg (by omega), if_pos (by omega), hw]

theorem exec_registerWrite_evt (w : Fin 32) (v : Nat) (s : State) :
    exec (.registerWrite (0x10000 * w.val + 0xF00) 4 v) s = exec (.eventClear w (BitVec.ofNat 32 v)) s := by
  refine exec_eq_of_running rfl rfl fun hp => ?_
  rw [exec_registerWrite_evtGroup hp w (by decide) (by decide) (by decide) (regRow_evtGroup w).1, s.regWrite_evt]
  exact (State.powered_of_not_halted hp _).symm

theorem exec_registerWrite_evtEn (w : Fin 32) (v : Nat) (s : State) :
    exec (.registerWrite (0x10000 * w.val + 0xF04) 4 v) s = exec (.eventEnable w (BitVec.ofNat 32 v)) s := by
  refine exec_eq_of_running rfl rfl fun hp => ?_
  rw [exec_registerWrite_evtGroup hp w (by decide) (by decide) (by decide) (regRow_evtGroup w).2, s.regWrite_evtEn]
  exact (State.powered_of_not_halted hp _).symm

end CommandRegisters

/-- Settles O38: each register's unit does with the word what the command does. -/
theorem registerWriteIsItsCommand : Obligations.RegisterWriteIsItsCommand := by
  unfold Obligations.RegisterWriteIsItsCommand
  refine ⟨fun v s => exec_registerWrite_eq_command v ?_ rfl rfl rfl, fun v s => exec_registerWrite_eq_command v ?_ rfl rfl rfl,
    fun v s => exec_registerWrite_eq_command v ?_ rfl rfl rfl, exec_registerWrite_dmaPost, exec_registerWrite_pwrLat,
    fun v s => exec_registerWrite_eq_command v ?_ rfl rfl rfl, fun v s => exec_registerWrite_eq_command v ?_ rfl rfl rfl,
    fun v s => exec_registerWrite_eq_command v ?_ rfl rfl rfl, fun v s => exec_registerWrite_eq_command v ?_ rfl rfl rfl,
    fun v s => exec_registerWrite_eq_command v ?_ rfl rfl rfl, exec_registerWrite_evt, exec_registerWrite_evtEn⟩
  all_goals decide +kernel

end Sys2Proof.Machine

namespace Sys2Proof.Machine

open Sys2Proof

/-! ## Power-on and warm resets (R76, R79, R395) -/

section CoreResets

variable {s t : State} {m : Nat}

/-- The fuses are their fixed part and the field repair rows. -/
theorem State.fuses_of_same (h : Part.fusesFixed.same s t) (h' : Part.fusesFieldRows.same s t) : t.fuses = s.fuses := by
  have hfixed : t.fuses = { s.fuses with fieldRows := t.fuses.fieldRows } := h
  have hrows : t.fuses.fieldRows = s.fuses.fieldRows := h'
  rw [hfixed, hrows]

/-- What start-up leaves as the reset of the core left it. -/
def bootParts : List Part := [.hostHalted, .hostResetAt, .loaderCommitted, .memEpoch, .fusesFixed, .fusesFieldRows, .dies,
  .pending]

/-- What a reset of the core says of the state after it: the halt over, no reset due, no configuration, the SRAM
contents new after a power-on reset (`por`), and the fuses, the field dies and the queue as they were. -/
structure State.CoreReset (s : State) (por : Bool) (t : State) : Prop where
  halted : t.host.halted = false
  resetAt : t.host.resetAt = none
  committed : t.loader.committed = false
  memEpoch : t.memEpoch = if por then s.memEpoch + 1 else s.memEpoch
  fuses : t.fuses = s.fuses
  dies : t.dies = s.dies
  pending : t.pending = s.pending

theorem State.coreReset_of_frame {por : Bool} (h : Frame m (s.nvCut.coreReset por) t) (hm : m &&& maskOf bootParts = 0) :
    s.CoreReset por t := by
  have keep : ∀ p ∈ bootParts, p.same (s.nvCut.coreReset por) t := fun p hp => h.same_of_mem hm hp
  simp only [bootParts, List.forall_mem_cons] at keep
  obtain ⟨hhalt, hreset, hcommit, hepoch, hfixed, hrows, hdies, hpend, -⟩ := keep
  have hcut := s.nvCut_frame
  have hepoch0 : s.nvCut.memEpoch = s.memEpoch := hcut.1 .memEpoch (by decide)
  have hdies0 : s.nvCut.dies = s.dies := hcut.1 .dies (by decide)
  have hpend0 : s.nvCut.pending = s.pending := hcut.1 .pending (by decide)
  have hfuses0 := State.fuses_of_same (hcut.1 .fusesFixed (by decide)) (hcut.1 .fusesFieldRows (by decide))
  refine ⟨hhalt, hreset, hcommit, ?_, (State.fuses_of_same hfixed hrows).trans hfuses0, hdies.trans hdies0,
    hpend.trans hpend0⟩
  rw [← hepoch0]
  exact hepoch

/-- The core after a power-on reset, before its cause is noted: the repair rows burnt in come into effect, and the
real-time counter starts again when the always-on domain had lost power. -/
def State.coldCore (s : State) (aon : Bool) : State :=
  let u := s.nvCut.memu.newRows.foldl State.freshRow (s.nvCut.coreReset true)
  { u with clk := { u.clk with rtc := if aon then 0 else u.clk.rtc } }

theorem State.coldCore_frame (s : State) (aon : Bool) : Frame 0x8000000000000097 (s.nvCut.coreReset true) (s.coldCore aon) := by
  have hrows := Frame.foldl s.nvCut.memu.newRows (Frame.rfl 0x8000000000000017 (s.nvCut.coreReset true)) State.freshRow_frame
  exact Frame.put_clk _ (by decide) (hrows.mono (by decide))

/-- The cause noted and the power cycle counted: what start-up begins with. -/
def State.coldCounted (s : State) (supv aon : Bool) : State :=
  let u := (s.coldCore aon).cause (if supv then 2 else 1) aon s.host.halted
  if aon then u else u.inc REC_PCYCLE_VALUE 1

theorem State.coldCounted_frame (s : State) (supv aon : Bool) :
    Frame 0x18200000000000097 (s.nvCut.coreReset true) (s.coldCounted supv aon) := by
  have hcause := (State.cause_frame (s.coldCore aon) (if supv then 2 else 1) aon s.host.halted).comp
    (m := 0x18200000000000097) (by decide) ((s.coldCore_frame aon).mono (by decide))
  exact Frame.ite hcause (hcause.inc (by decide))

theorem exec_powerOnReset_coreReset (supv aon : Bool) (env : BootEnv) (s : State) :
    ∃ t : State, exec (.powerOnReset supv aon env) s = .next t ∧ s.CoreReset true t :=
  ⟨(s.coldCounted supv aon).startUp true aon env, rfl, State.coreReset_of_frame (m := 0x200001dc68031a180000c97)
    ((State.startUp_frame _ true aon env).comp (by decide) ((s.coldCounted_frame supv aon).mono (by decide))) (by decide)⟩

/-- A warm reset that happens: by RSTn, or when the time of the key has come. -/
theorem exec_warmReset_coreReset (pin : Bool) (env : BootEnv) (s : State) (h : pin = true ∨
    (s.host.halted = false ∧ ∃ w : Nat, s.host.resetAt = some w ∧ w ≤ s.clk.el)) :
    ∃ t : State, exec (.warmReset pin env) s = .next t ∧ s.CoreReset false t := by
  have hexec : exec (.warmReset pin env) s = .next
      ((((s.nvCut).coreReset false).cause (if pin then 3 else 4) false s.host.halted).startUp false false env) := by
    rcases h with rfl | ⟨hp, w, hw, hle⟩
    · simp only [exec, execWarmReset, Bool.true_or, if_true]
      rfl
    · simp only [exec, execWarmReset, hp, hw, hle, Bool.not_false, Bool.true_and, decide_true, Bool.or_true, if_true]
      rfl
  refine ⟨_, hexec, State.coreReset_of_frame (m := 0x200001dc68031a180000c87) ?_ (by decide)⟩
  exact (State.startUp_frame _ false false env).comp (by decide) ((State.cause_frame _ _ _ _).mono (by decide))

theorem exec_sysReset_key {v : Word} (hp : s.host.halted = false) (hv : v.toNat % 65536 = 0xD5A7)
    (hr : s.host.resetAt = none) : exec (.sysReset v) s =
      .next { s with host := { s.host with resetAt := some (s.clk.el + 1000) } } := by
  simp only [exec, execSysReset, State.powered_of_not_halted hp, State.sysReset, hv, hr, if_true, Option.getD_none]
  rfl

end CoreResets

/-! ## Unit resets (R77) -/

section UnitResets

variable {s t : State} {m w k el : Nat}

theorem Frame.resettable (h : Frame m s t) (hm : m.testBit Part.fusesFixed.ix = false) (w : Nat) :
    t.resettable w = s.resettable w := by
  have hf : t.fuses = { s.fuses with fieldRows := t.fuses.fieldRows } := h.1 .fusesFixed hm
  have hv : t.fuses.variant = s.fuses.variant := by rw [hf]
  simp only [State.resettable, State.winPresent, hv]

/-- The reset of the unit of window `w`, started at elapsed time `el`, runs. -/
def State.ResetRuns (t : State) (w el : Nat) : Prop :=
  bitAt (t.rd SYS_URESET_UNIT) w = true ∧ assocGet t.host.uresetAt w = some el

/-- The unit at its committed image, its amendments discarded. -/
def State.unitCleared (s : State) (w : Nat) : State := (s.discardUnit fun r => recUnit r == w).unitApply w

theorem State.unitCleared_frame (s : State) (w : Nat) : Frame 0x3ebffffd4ffffc72f810407 s (s.unitCleared w) :=
  (State.unitApply_frame _ w).comp (by decide) ((s.discardUnit_frame _).mono (by decide))

/-- The bit of SYS_URESET set, and the time of the start noted. -/
def State.uresetNoted (t : State) (bits w el : Nat) : State :=
  { t.wr SYS_URESET_UNIT (setBit bits w true) with
    host := { t.host with uresetAt := assocPut t.host.uresetAt w el } }

theorem State.unitReset_eq (h : s.resettable w = true) : s.unitReset w =
    ((s.unitCleared w).uresetNoted (s.rd SYS_URESET_UNIT) w s.clk.el).padRefresh := by
  rw [State.unitReset, h, if_pos rfl]
  rfl

theorem State.resettable_lt (h : s.resettable w = true) : w < 32 := by
  simp only [State.resettable, Bool.and_eq_true, decide_eq_true_eq] at h
  exact h.1.1.2

/-- SYS_URESET and the times of the starts after the reset of a unit has started. -/
theorem State.unitReset_marks (h : s.resettable w = true) :
    (s.unitReset w).rd SYS_URESET_UNIT = setBit (s.rd SYS_URESET_UNIT) w true ∧
    (s.unitReset w).host.uresetAt = assocPut s.host.uresetAt w s.clk.el := by
  have hlt : s.rd SYS_URESET_UNIT < 2 ^ 32 := State.rdij_lt s SYS_URESET_UNIT 0 0
  have hpads := State.padRefresh_frame ((s.unitCleared w).uresetNoted (s.rd SYS_URESET_UNIT) w s.clk.el)
  have hold : (s.unitCleared w).host.uresetAt = s.host.uresetAt := (s.unitCleared_frame w).1 .hostUresetAt (by decide)
  rw [State.unitReset_eq h]
  refine ⟨(hpads.rd (by decide)).trans ((State.rdij_wrij_same _ _ _ _ _ (by decide) (by decide)).trans ?_), ?_⟩
  · exact Nat.mod_eq_of_lt (setBit_lt _ _ (State.resettable_lt h) hlt)
  · rw [← hold]
    exact hpads.1 .hostUresetAt (by decide)

theorem State.unitReset_runs (h : s.resettable w = true) : (s.unitReset w).ResetRuns w s.clk.el := by
  obtain ⟨hbit, hat⟩ := State.unitReset_marks h
  rw [State.ResetRuns, hbit, hat]
  exact ⟨bitAt_setBit_same _ _ _, assocGet_assocPut_same _ _ _⟩

/-- A reset that runs goes on when that of another unit starts. -/
theorem State.ResetRuns.unitReset_ne (h : s.ResetRuns w el) (hk : w ≠ k) : (s.unitReset k).ResetRuns w el := by
  cases hr : s.resettable k with
  | false =>
    rw [State.unitReset, hr]
    exact h
  | true =>
    obtain ⟨hbit, hat⟩ := State.unitReset_marks hr
    rw [State.ResetRuns, hbit, hat, bitAt_setBit_ne _ _ hk, assocGet_assocPut_ne _ _ hk]
    exact h

/-- The resets of the units below `n` that `mask` names. -/
def State.unitResetsBelow (s : State) (mask n : Nat) : State :=
  (List.range n).foldl (fun t w => if bitAt mask w then t.unitReset w else t) s

theorem State.unitResetsBelow_frame (s : State) (mask n : Nat) :
    Frame 0x3ebffffd6ffffc72fa10407 s (s.unitResetsBelow mask n) :=
  Frame.foldl _ (Frame.rfl _ s) fun u w => Frame.ite (u.unitReset_frame w) (Frame.rfl _ u)

theorem State.unitResetsBelow_succ (s : State) (mask n : Nat) : s.unitResetsBelow mask (n + 1) =
    if bitAt mask n then (s.unitResetsBelow mask n).unitReset n else s.unitResetsBelow mask n := by
  rw [State.unitResetsBelow, List.range_succ, List.foldl_append]
  rfl

theorem State.unitResetsBelow_runs (hr : s.resettable w = true) {mask : Nat} (hb : bitAt mask w = true) (n : Nat) (h : w < n) :
    (s.unitResetsBelow mask n).ResetRuns w s.clk.el := by
  induction n with
  | zero => exact absurd h (Nat.not_lt_zero w)
  | succ n ih =>
    have hf := s.unitResetsBelow_frame mask n
    rw [State.unitResetsBelow_succ]
    rcases Nat.lt_succ_iff_lt_or_eq.mp h with hlt | rfl
    · split
      · exact (ih hlt).unitReset_ne (Nat.ne_of_lt hlt)
      · exact ih hlt
    · have hclk : (s.unitResetsBelow mask w).clk = s.clk := hf.1 .clk (by decide)
      rw [if_pos hb, ← hclk]
      exact State.unitReset_runs ((hf.resettable (by decide) w).trans hr)

theorem exec_unitReset (hp : s.host.halted = false) (m : Word) :
    exec (.unitReset m) s = .next (s.unitResetsBelow m.toNat 32) := State.powered_of_not_halted hp _

/-- A unit reset that completes (R77): its bit reads 0 and its start is forgotten. -/
theorem exec_unitResetComplete_running {w : Fin 32} (hp : s.host.halted = false)
    (h : (assocGet s.host.uresetAt w.val).isSome = true) : ∃ t : State, exec (.unitResetComplete w) s = .next t ∧
      t.rd SYS_URESET_UNIT = setBit (s.rd SYS_URESET_UNIT) w.val false ∧
      t.host.uresetAt = assocDel s.host.uresetAt w.val := by
  have hlt : s.rd SYS_URESET_UNIT < 2 ^ 32 := State.rdij_lt s SYS_URESET_UNIT 0 0
  simp only [exec, execUnitResetComplete, State.powered_of_not_halted hp, h, if_true]
  refine ⟨_, rfl, ((State.padRefresh_frame _).rd (by decide)).trans
    ((State.rdij_wrij_same _ _ _ _ _ (by decide) (by decide)).trans (Nat.mod_eq_of_lt (setBit_lt _ _ w.isLt hlt))),
    (State.padRefresh_frame _).1 .hostUresetAt (by decide)⟩

end UnitResets

/-- Settles O29: what the reset of the core leaves to start-up, and the marks of the unit resets. -/
theorem resetCommandsComplete : Obligations.ResetCommandsComplete := by
  unfold Obligations.ResetCommandsComplete
  refine ⟨fun p a e s => ?_, fun e s => ?_, fun e w s hp hw hle => ?_,
    fun v s hp hv hr => ⟨_, exec_sysReset_key hp hv hr, rfl, rfl⟩,
    fun m w s hp hb hr => ⟨_, exec_unitReset hp m, State.unitResetsBelow_runs hr hb 32 w.isLt⟩,
    fun w s hp h => ?_⟩
  · obtain ⟨t, ht, h⟩ := exec_powerOnReset_coreReset p a e s
    exact ⟨t, ht, h.halted, h.committed, h.memEpoch, h.fuses, h.dies, h.pending⟩
  · obtain ⟨t, ht, h⟩ := exec_warmReset_coreReset true e s (.inl rfl)
    exact ⟨t, ht, h.halted, h.committed, h.memEpoch, h.fuses, h.dies, h.pending⟩
  · obtain ⟨t, ht, h⟩ := exec_warmReset_coreReset false e s (.inr ⟨hp, w, hw, hle⟩)
    exact ⟨t, ht, h.resetAt, h.committed, h.memEpoch⟩
  · obtain ⟨t, ht, hbit, hat⟩ := exec_unitResetComplete_running hp h
    refine ⟨t, ht, ?_, hat ▸ assocGet_assocDel_same _ _⟩
    rw [hbit]
    exact bitAt_setBit_same _ _ _

end Sys2Proof.Machine

namespace Sys2Proof.Machine

open Sys2Proof

/-! ## Registers that a command can change -/

section KeepsRegs

variable {l : List Nat} {s t u : State} {a v : Nat}

/-- From `s` to `t` every register outside the event groups keeps its value but those at the addresses of `l`. -/
def KeepsRegs (l : List Nat) (s t : State) : Prop := ∀ b : Nat, isEvt b = false → b ∉ l → t.reg b = s.reg b

namespace KeepsRegs

theorem rfl (l : List Nat) (s : State) : KeepsRegs l s s := fun _ _ _ => Eq.refl _

theorem of_regs (h : KeepsRegs l s t) (e : u.regs = t.regs) : KeepsRegs l s u :=
  fun b he hb => (State.reg_congr e b).trans (h b he hb)

theorem setReg (h : KeepsRegs l s t) (ha : a ∈ l) : KeepsRegs l s (t.setReg a v) :=
  fun b he hb => (State.reg_setReg_ne t v fun e : b = a => hb (e.symm ▸ ha)).trans (h b he hb)

theorem of_keeps (h : KeepsRegs l s t) (k : KeepsRegs [] t u) : KeepsRegs l s u :=
  fun b he hb => (k b he List.not_mem_nil).trans (h b he hb)

theorem ite {c : Prop} [Decidable c] (h : KeepsRegs l s t) (k : KeepsRegs l s u) :
    KeepsRegs l s (if c then t else u) := by split <;> assumption

theorem foldl {α : Type} {f : State → α → State} (r : List α) (k : ∀ w x, KeepsRegs l w (f w x)) (s : State) :
    KeepsRegs l s (r.foldl f s) := by
  induction r generalizing s with
  | nil => exact rfl l s
  | cons x r ih => exact fun b he hb => (ih (f s x) b he hb).trans (k s x b he hb)

end KeepsRegs

theorem isEvt_evt (w : Nat) : isEvt (UNIT_EVT_EVT.addr w 0) = true := by
  have hoff : UNIT_EVT_EVT.addr w 0 % 0x10000 = 0xF00 := by
    simp only [Fld.addr, UNIT_EVT_EVT]
    omega
  rw [isEvt, hoff]
  rfl

/-- An event writes its unit's event register alone. -/
theorem State.raise_keepsRegs (s : State) (w e : Nat) : KeepsRegs [] s (s.raise w e) := by
  have hevt : ∀ x, KeepsRegs [] s (s.wri UNIT_EVT_EVT w x) := fun x b he _ =>
    State.reg_wrij_ne s _ _ _ _ _ fun hb => Bool.false_ne_true (he.symm.trans (hb ▸ isEvt_evt w))
  unfold State.raise
  dsimp only
  split
  · split
    · exact (hevt _).of_regs (State.msix_regs _ _)
    · exact hevt _
  · exact KeepsRegs.rfl _ s

theorem KeepsRegs.raise (h : KeepsRegs l s t) (w e : Nat) : KeepsRegs l s (t.raise w e) :=
  h.of_keeps (t.raise_keepsRegs w e)

theorem KeepsRegs.raiseIf (h : KeepsRegs l s t) (c : Bool) (w e : Nat) : KeepsRegs l s (t.raiseIf c w e) :=
  (h.raise w e).ite h

/-- An element that a unit produces touches no register. -/
theorem KeepsRegs.produce (h : KeepsRegs l s t) (ep val fmt tag : Nat) : KeepsRegs l s (t.produce ep val fmt tag) :=
  h.of_regs ((t.produce_frame ep val fmt tag).1 .regs (by decide))

/-- The outcome is a next state that keeps the registers but those of `l`. -/
def AnswersKeeping (l : List Nat) (s : State) (o : Host.Outcome State Fault Refusal) : Prop :=
  ∃ t : State, o = .next t ∧ KeepsRegs l s t

namespace AnswersKeeping

variable {o p : Host.Outcome State Fault Refusal}

theorem ok (h : KeepsRegs l s t) : AnswersKeeping l s (Sys2Proof.Machine.ok t) := ⟨t, Eq.refl _, h⟩

theorem same : AnswersKeeping l s (Sys2Proof.Machine.ok s) := ok (KeepsRegs.rfl l s)

theorem ite {c : Prop} [Decidable c] (h : AnswersKeeping l s o) (k : AnswersKeeping l s p) :
    AnswersKeeping l s (if c then o else p) := by split <;> assumption

theorem powered (h : AnswersKeeping l s o) : AnswersKeeping l s (s.powered o) := ite same h

theorem but_one (h : AnswersKeeping [a] s o) :
    ∃ t : State, o = .next t ∧ ∀ b : Nat, isEvt b = false → b ≠ a → t.reg b = s.reg b := by
  obtain ⟨t, ht, hk⟩ := h
  exact ⟨t, ht, fun b he ha => hk b he (List.mem_singleton.not.mpr ha)⟩

theorem but_two {a' : Nat} (h : AnswersKeeping [a, a'] s o) :
    ∃ t : State, o = .next t ∧ ∀ b : Nat, isEvt b = false → b ≠ a → b ≠ a' → t.reg b = s.reg b := by
  obtain ⟨t, ht, hk⟩ := h
  exact ⟨t, ht, fun b he ha ha' => hk b he fun hb => (List.mem_cons.mp hb).elim ha fun h => ha' (List.mem_singleton.mp h)⟩

end AnswersKeeping

end KeepsRegs

section SimpleCommands

variable (s : State)

/-! ### Field dies and chain -/

theorem execBankWarn_keeps (bank : Fin 6) (volt : Nat) : AnswersKeeping
    [FIO_VBANK_VOLT.addr (bank.val % 3) (bank.val / 3), FIO_VBANK_WARN.addr (bank.val % 3) (bank.val / 3)] s
    (execBankWarn bank volt s) := by
  have hvolt : KeepsRegs [FIO_VBANK_VOLT.addr (bank.val % 3) (bank.val / 3), FIO_VBANK_WARN.addr (bank.val % 3) (bank.val / 3)]
      s (s.wrij FIO_VBANK_VOLT (bank.val % 3) (bank.val / 3) volt) := (KeepsRegs.rfl _ s).setReg List.mem_cons_self
  refine .ite .same (.ite (.ok ?_) (.ite (.ok ?_) (.ok hvolt)))
  · exact KeepsRegs.raiseIf (hvolt.setReg (List.mem_cons_of_mem _ List.mem_cons_self)) _ _ _
  · exact hvolt.setReg (List.mem_cons_of_mem _ List.mem_cons_self)

theorem execWireIntact_keeps (ch : Fin 48) (current : Nat) : AnswersKeeping
    [FIO_CH_CURRENT.addr (ch.val % 24) (ch.val / 24), FIO_CH_WB.addr (ch.val % 24) (ch.val / 24)] s
    (execWireIntact ch current s) := by
  have hcur : KeepsRegs [FIO_CH_CURRENT.addr (ch.val % 24) (ch.val / 24), FIO_CH_WB.addr (ch.val % 24) (ch.val / 24)] s
      (s.wrij FIO_CH_CURRENT (ch.val % 24) (ch.val / 24) current) := (KeepsRegs.rfl _ s).setReg List.mem_cons_self
  exact .ite .same (.ite (.ok (hcur.setReg (List.mem_cons_of_mem _ List.mem_cons_self))) (.ok hcur))

theorem execRefOkChange_keeps (die : Fin 2) (good : Bool) :
    AnswersKeeping [AFE_STAT_REF_OK.addr 0 die] s (execRefOkChange die good s) :=
  .powered (.ite (.ok (KeepsRegs.raiseIf ((KeepsRegs.rfl _ s).setReg List.mem_cons_self) _ _ _)) .same)

theorem execLinkTrainingComplete_keeps (link : Fin 2) :
    AnswersKeeping [CHN_STAT_TRAINED.addr link 0] s (execLinkTrainingComplete link s) := by
  refine .powered (.ite (.ok (.ite (.rfl _ s) ?_)) .same)
  exact KeepsRegs.setReg ((KeepsRegs.rfl _ s).of_regs rfl) List.mem_cons_self

theorem execFclkStep_keeps : AnswersKeeping [CLK_STAT_FSTEP.addr 0 0] s (execFclkStep s) := by
  refine .powered (.ite .same (.ok (KeepsRegs.of_regs ?_ (State.emit_regs _ _))))
  exact ((KeepsRegs.rfl _ s).setReg List.mem_cons_self).setReg List.mem_cons_self

/-! ### CAN and MDIO -/

theorem execRecover_keeps (ctrl : Fin 4) : AnswersKeeping [CAN_STAT_STATE.addr ctrl 0] s (execRecover ctrl s) :=
  .powered (.ite (.ok ((KeepsRegs.rfl _ s).setReg List.mem_cons_self)) .same)

theorem execBusIntegrationComplete_keeps (ctrl : Fin 4) :
    AnswersKeeping [CAN_STAT_STATE.addr ctrl 0] s (execBusIntegrationComplete ctrl s) := by
  have hstate : ∀ v, KeepsRegs [CAN_STAT_STATE.addr ctrl 0] s (s.wri CAN_STAT_STATE ctrl v) :=
    fun v => (KeepsRegs.rfl _ s).setReg List.mem_cons_self
  exact .powered (.ite .same (.ite (.ok ((hstate _).of_regs rfl)) (.ok (hstate _))))

theorem execMdioTransaction_keeps (value : Word) :
    AnswersKeeping [ETH_MDIO_BUSY.addr 0 0] s (execMdioTransaction value s) := by
  refine .powered (.ok (.ite (.rfl _ s) (KeepsRegs.of_regs ?_ (State.emit_regs _ _))))
  exact (KeepsRegs.rfl _ s).setReg List.mem_cons_self

theorem execMdioComplete_keeps (data : BitVec 16) : AnswersKeeping [ETH_MDIO_BUSY.addr 0 0] s (execMdioComplete data s) := by
  have hbusy : KeepsRegs [ETH_MDIO_BUSY.addr 0 0] s (s.wr ETH_MDIO_BUSY 0) := (KeepsRegs.rfl _ s).setReg List.mem_cons_self
  exact .powered (.ite .same (.ite (.ok (hbusy.setReg List.mem_cons_self)) (.ok hbusy)))

/-! ### GNSS, fixes and time -/

theorem execFixInjCommit_keeps : AnswersKeeping [FIX_INJ_ERR_COUNT.addr 0 0] s (execFixInjCommit s) := by
  refine .powered (.ite .same (.ite (.ok ((KeepsRegs.rfl _ s).of_regs rfl)) (.ok (KeepsRegs.raise ?_ _ _))))
  exact ((KeepsRegs.rfl _ s).setReg List.mem_cons_self).setReg List.mem_cons_self

theorem execSpoofHoldEnd_keeps : AnswersKeeping [TIME_DATUM_SPOOF.addr 0 0] s (execSpoofHoldEnd s) :=
  .powered (.ite (.ok (KeepsRegs.of_regs ((KeepsRegs.rfl _ s).setReg List.mem_cons_self) rfl)) .same)

theorem execSpoofSuspectClear_keeps (ch : Fin 96) :
    AnswersKeeping [GNS_CH_SPOOF.addr ch 0] s (execSpoofSuspectClear ch s) :=
  .powered (.ite (.ok ((KeepsRegs.rfl _ s).setReg List.mem_cons_self)) .same)

theorem execCandidateExpiry_keeps :
    AnswersKeeping [GNS_STAT_TRACKED.addr 0 0, GNS_STAT_WAITING.addr 0 0] s (execCandidateExpiry s) :=
  .powered (.ok ((KeepsRegs.setReg ((KeepsRegs.rfl _ s).of_regs rfl) List.mem_cons_self).setReg List.mem_cons_self))

/-! ### Objects, rates and actuation -/

theorem execSubWindowEnd_keeps (station : Fin 16) :
    AnswersKeeping [CLS_RATE_RATE.addr station 0] s (execSubWindowEnd station s) := by
  refine .powered ?_
  dsimp only
  split
  · refine .ite .same (.ok (KeepsRegs.produce ?_ _ _ _ _))
    exact KeepsRegs.setReg ((KeepsRegs.rfl _ s).of_regs rfl) List.mem_cons_self
  · exact .same

theorem execLossGroupEmit_keeps (group : Fin 4) :
    AnswersKeeping [MSR_GRATE_V.addr group 0] s (execLossGroupEmit group s) := by
  refine .powered ?_
  dsimp only
  split
  · refine .ite .same (.ok (KeepsRegs.produce ?_ _ _ _ _))
    exact KeepsRegs.setReg ((KeepsRegs.rfl _ s).of_regs rfl) List.mem_cons_self
  · exact .same

theorem execVllost_keeps (link : Fin 4) : AnswersKeeping [VL_STAT_LOST.addr link 0] s (execVllost link s) :=
  .powered (.ite (.ok (KeepsRegs.raise ((KeepsRegs.rfl _ s).setReg List.mem_cons_self) _ _)) .same)

theorem execStkHGo_keeps : AnswersKeeping [STK_H_STAT_SEQ.addr 0 0] s (execStkHGo s) :=
  .powered (.ok (KeepsRegs.of_regs ((KeepsRegs.rfl _ s).setReg List.mem_cons_self) rfl))

theorem execQuarantineRelease_keeps (slot : Fin 524288) :
    AnswersKeeping [TAL_STAT_LIVE.addr 0 0, TAL_STAT_FULL.addr 0 0] s (execQuarantineRelease slot s) := by
  refine .powered ?_
  split
  · refine .ite (.ok (KeepsRegs.raiseIf ?_ _ _ _)) .same
    exact (KeepsRegs.setReg ((KeepsRegs.rfl _ s).of_regs rfl) List.mem_cons_self).setReg List.mem_cons_self
  · exact .same

/-! ### Memory and recorder -/

theorem execLeak_keeps (region : Fin 7) : AnswersKeeping [MEM_LEVEL_LEVEL.addr region 0] s (execLeak region s) :=
  .powered (.ite (.ok (KeepsRegs.setReg ((KeepsRegs.rfl _ s).of_regs rfl) List.mem_cons_self)) .same)

theorem State.mark_keepsRegs (r : Nat) : KeepsRegs [MEM_REGION_INIT.addr 0 0] s (s.mark r) :=
  .ite ((KeepsRegs.rfl _ s).setReg List.mem_cons_self) (.rfl _ s)

theorem execMemInit_keeps (value : Word) : AnswersKeeping [MEM_REGION_INIT.addr 0 0] s (execMemInit value s) :=
  .powered (.ok (KeepsRegs.foldl _ (fun w r => .ite (w.mark_keepsRegs r) (.rfl _ w)) s))

theorem State.nvStart_regs : s.nvStart.regs = s.regs := s.nvStart_frame.1 .regs (by decide)

theorem execNvCommand_keeps (value : Word) :
    AnswersKeeping [MEM_NV_STAT_BUSY.addr 0 0, MEM_NV_STAT_RESULT.addr 0 0] s (execNvCommand value s) := by
  have hstat : ∀ f v, f.addr 0 0 = MEM_NV_STAT_BUSY.addr 0 0 →
      KeepsRegs [MEM_NV_STAT_BUSY.addr 0 0, MEM_NV_STAT_RESULT.addr 0 0] s (s.wr f v) :=
    fun f v hf => (KeepsRegs.rfl _ s).setReg (hf ▸ List.mem_cons_self)
  exact .powered (.ok (.ite (.rfl _ s) (.ite (hstat _ _ rfl) (.ite (hstat _ _ rfl) (.ite (hstat _ _ rfl)
    (.ite (hstat _ _ rfl) ((KeepsRegs.of_regs (hstat _ _ rfl) rfl).of_regs (State.nvStart_regs _))))))))

theorem execRepair_keeps (value : Word) :
    AnswersKeeping [MEM_REPAIR_STAT_BUSY.addr 0 0, MEM_REPAIR_STAT_RESULT.addr 0 0] s (execRepair value s) := by
  have hstat : ∀ f v, f.addr 0 0 = MEM_REPAIR_STAT_BUSY.addr 0 0 →
      KeepsRegs [MEM_REPAIR_STAT_BUSY.addr 0 0, MEM_REPAIR_STAT_RESULT.addr 0 0] s (s.wr f v) :=
    fun f v hf => (KeepsRegs.rfl _ s).setReg (hf ▸ List.mem_cons_self)
  refine .powered (.ok (.ite (.rfl _ s) (.ite (hstat _ _ rfl) ?_)))
  split
  · exact .ite (hstat _ _ rfl) (.ite (hstat _ _ rfl) (.ite (hstat _ _ rfl) (KeepsRegs.of_regs (hstat _ _ rfl) rfl)))
  · exact hstat _ _ rfl

theorem execOperatingTimeTick_keeps : AnswersKeeping [REC_OPTIME_VALUE.addr 0 0] s (execOperatingTimeTick s) :=
  .ite (.ok (KeepsRegs.of_regs ((KeepsRegs.rfl _ s).setReg List.mem_cons_self) rfl)) .same

theorem execWindowRead_keeps : AnswersKeeping [REC_CURSOR_POS.addr 0 0] s (execWindowRead s) :=
  .powered (.ok (KeepsRegs.setReg ((KeepsRegs.rfl _ s).of_regs (State.emit_regs _ _)) List.mem_cons_self))

/-! ### Host and power -/

theorem execKick_keeps (value : Word) : AnswersKeeping [HST_LOST_KICKED.addr 0 0] s (execKick value s) := by
  refine .powered (.ok (.ite ?_ ((KeepsRegs.rfl _ s).setReg List.mem_cons_self)))
  exact KeepsRegs.of_regs ((KeepsRegs.rfl _ s).setReg List.mem_cons_self) rfl

theorem execWatchdogPeriodWrite_keeps (value : Word) :
    AnswersKeeping [HST_WD_PERIOD.addr 0 0, HST_LOST_KICKED.addr 0 0] s (execWatchdogPeriodWrite value s) := by
  have hperiod : ∀ v, KeepsRegs [HST_WD_PERIOD.addr 0 0, HST_LOST_KICKED.addr 0 0] s (s.wr HST_WD_PERIOD v) :=
    fun v => (KeepsRegs.rfl _ s).setReg List.mem_cons_self
  refine .powered (.ok (.ite (hperiod _) ?_))
  exact KeepsRegs.of_regs ((hperiod _).setReg (List.mem_cons_of_mem _ List.mem_cons_self)) rfl

theorem execUnknownCommand_keeps (command : BitVec 8) :
    AnswersKeeping [HST_SPI_ERR_COUNT.addr 0 0] s (execUnknownCommand command s) :=
  .powered (.ite .same (.ok (KeepsRegs.raise ((KeepsRegs.rfl _ s).setReg List.mem_cons_self) _ _)))

theorem execDmaPost_keeps (ch : Fin 8) (value : Word) :
    AnswersKeeping [HST_DMA_STAT_QUEUED.addr ch 0, HST_DMA_ERR_COUNT.addr 0 0] s (execDmaPost ch value s) := by
  have herr : HST_DMA_ERR_COUNT.addr 0 0 ∈ [HST_DMA_STAT_QUEUED.addr ch 0, HST_DMA_ERR_COUNT.addr 0 0] :=
    List.mem_cons_of_mem _ List.mem_cons_self
  refine .powered (.ok (.ite (KeepsRegs.raise (((KeepsRegs.rfl _ s).setReg herr).setReg herr) _ _) ?_))
  exact (KeepsRegs.setReg ((KeepsRegs.rfl _ s).of_regs rfl) List.mem_cons_self).setReg List.mem_cons_self

theorem execPwrLatWrite_keeps (group : Fin 12) (value : Word) :
    AnswersKeeping [PWR_LAT_LAT.addr group 0, 0x40040] s (execPwrLatWrite group value s) :=
  .powered (.ok (((KeepsRegs.rfl _ s).setReg List.mem_cons_self).setReg (List.mem_cons_of_mem _ List.mem_cons_self)))

end SimpleCommands

/-- Settles O60: the lemma on each command gives the registers that it can write. -/
theorem registerFramesOfSimpleCommands : Obligations.RegisterFramesOfSimpleCommands := by
  unfold Obligations.RegisterFramesOfSimpleCommands
  exact ⟨fun bank volt s => (execBankWarn_keeps s bank volt).but_two,
    fun ch current s => (execWireIntact_keeps s ch current).but_two,
    fun die good s => (execRefOkChange_keeps s die good).but_one,
    fun link s => (execLinkTrainingComplete_keeps s link).but_one,
    fun s => (execFclkStep_keeps s).but_one, fun ctrl s => (execRecover_keeps s ctrl).but_one,
    fun ctrl s => (execBusIntegrationComplete_keeps s ctrl).but_one,
    fun value s => (execMdioTransaction_keeps s value).but_one, fun data s => (execMdioComplete_keeps s data).but_one,
    fun s => (execFixInjCommit_keeps s).but_one, fun s => (execSpoofHoldEnd_keeps s).but_one,
    fun ch s => (execSpoofSuspectClear_keeps s ch).but_one, fun s => (execCandidateExpiry_keeps s).but_two,
    fun station s => (execSubWindowEnd_keeps s station).but_one, fun group s => (execLossGroupEmit_keeps s group).but_one,
    fun link s => (execVllost_keeps s link).but_one, fun s => (execStkHGo_keeps s).but_one,
    fun region s => (execLeak_keeps s region).but_one, fun value s => (execMemInit_keeps s value).but_one,
    fun value s => (execNvCommand_keeps s value).but_two, fun value s => (execRepair_keeps s value).but_two,
    fun s => (execOperatingTimeTick_keeps s).but_one, fun s => (execWindowRead_keeps s).but_one,
    fun value s => (execKick_keeps s value).but_one, fun value s => (execWatchdogPeriodWrite_keeps s value).but_two,
    fun command s => (execUnknownCommand_keeps s command).but_one, fun ch value s => (execDmaPost_keeps s ch value).but_two,
    fun group value s => (execPwrLatWrite_keeps s group value).but_two,
    fun slot s => (execQuarantineRelease_keeps s slot).but_two⟩

end Sys2Proof.Machine

namespace Sys2Proof.Machine

open Sys2Proof

/-! ## The loader's registers across its operations (R102 to R107) -/

section LoaderRegisters

variable {s t : State} {l : List Nat}

theorem State.rd_wr_same (s : State) (f : Fld) (v : Nat) (h : f.lo ≤ f.hi) (w : f.hi < 32) :
    (s.wr f v).rd f = v % 2 ^ (f.hi + 1 - f.lo) := State.rdij_wrij_same s f 0 0 v h w

theorem State.rd_wr_apart (s : State) {f g : Fld} (v : Nat) (h : f.apart g = true) : (s.wr f v).rd g = s.rd g :=
  State.rdij_wrij_apart s f g 0 0 0 0 v h

theorem State.rd_raise (s : State) (w e : Nat) {f : Fld} (h : f.outside 0x20000000080000000000401 = true) :
    (s.raise w e).rd f = s.rd f := State.rdij_raise s w e f 0 0 h

/-- A field of a register that is kept reads as before. -/
theorem KeepsRegs.rd (h : KeepsRegs l s t) {f : Fld} (hf : isEvt (f.addr 0 0) = false ∧ f.addr 0 0 ∉ l) :
    t.rd f = s.rd f := by
  obtain ⟨hevt, hmem⟩ := hf
  rw [State.rd, State.rd, State.rdij, State.rdij, h _ hevt hmem]

/-- The loader is present in every variant. -/
theorem State.winPresent_loader (s : State) : s.winPresent 5 = true := by
  unfold State.winPresent
  split <;> rfl

/-- The registers of the report: PLAT_REPORT_COUNT and PLAT_SUM. -/
def reportRegs : List Nat := [PLAT_REPORT_COUNT_COUNT.addr 0 0, PLAT_SUM_INFO.addr 0 0]

theorem KeepsRegs.sumReason (h : KeepsRegs reportRegs s t) (reason : Nat) :
    KeepsRegs reportRegs s (t.sumReason reason) := by
  have hsum : ∀ v, KeepsRegs reportRegs s (t.setReg (PLAT_SUM_INFO.addr 0 0) v) :=
    fun v => h.setReg (List.mem_cons_of_mem _ List.mem_cons_self)
  exact .ite (hsum _) (.ite (hsum _) (.ite (hsum _) (hsum _)))

theorem State.reportOne_keepsRegs (s : State) (e : RepEntry) : KeepsRegs reportRegs s (s.reportOne e) := by
  have hcount : KeepsRegs reportRegs s (s.inc PLAT_REPORT_COUNT_COUNT 1) :=
    (KeepsRegs.rfl _ s).setReg List.mem_cons_self
  have hsum := hcount.sumReason e.reason
  unfold State.reportOne
  dsimp only
  refine KeepsRegs.raiseIf ?_ _ 5 2
  split <;> exact hsum

theorem State.reportAll_keepsRegs (s : State) (es : List RepEntry) : KeepsRegs reportRegs s (s.reportAll es) :=
  KeepsRegs.foldl es State.reportOne_keepsRegs s

theorem State.rejectImage_keepsRegs (s : State) (seq reason : Nat) :
    KeepsRegs reportRegs s (s.rejectImage seq reason) := (s.reportOne_keepsRegs _).raise 5 1

theorem State.platDone_keepsRegs (s : State) (r : Nat) : KeepsRegs [PLAT_STAT_RESULT.addr 0 0] s (s.platDone r) := by
  have hstat : ∀ {u : State} (v : Nat), KeepsRegs [PLAT_STAT_RESULT.addr 0 0] s u →
      KeepsRegs [PLAT_STAT_RESULT.addr 0 0] s (u.setReg (PLAT_STAT_RESULT.addr 0 0) v) :=
    fun v h => h.setReg List.mem_cons_self
  exact (hstat _ (hstat _ (hstat _ (KeepsRegs.rfl _ s)))).raise 5 0

theorem State.queueAmends_keepsRegs (s : State) (am : List Amend) :
    KeepsRegs [PLAT_AMEND_STAT_PENDING.addr 0 0] s (s.queueAmends am) :=
  KeepsRegs.setReg ((KeepsRegs.rfl _ s).of_regs rfl) List.mem_cons_self

theorem State.slotOk_keepsRegs (s : State) (x : Nat) (good : Bool) :
    KeepsRegs [PLAT_BOOT_SLOT.addr 0 0] s (s.slotOk x good) := by
  have hboot : ∀ v, KeepsRegs [PLAT_BOOT_SLOT.addr 0 0] s (s.setReg (PLAT_BOOT_SLOT.addr 0 0) v) :=
    fun v => (KeepsRegs.rfl _ s).setReg List.mem_cons_self
  exact .ite (hboot _) (hboot _)

/-- The pointer's three copies are read, then PLAT_BOOT alone is written. -/
theorem State.readPointer_keepsRegs (s : State) : KeepsRegs [PLAT_BOOT_SLOT.addr 0 0]
    (((s.memRead (ptrAddr 0)).2.memRead (ptrAddr 1)).2.memRead (ptrAddr 2)).2 s.readPointer.2 :=
  have hboot {u v : State} (x : Nat) (h : KeepsRegs [PLAT_BOOT_SLOT.addr 0 0] u v) :
      KeepsRegs [PLAT_BOOT_SLOT.addr 0 0] u (v.setReg (PLAT_BOOT_SLOT.addr 0 0) x) := h.setReg List.mem_cons_self
  hboot _ (hboot _ (hboot _ (hboot _ (KeepsRegs.rfl _ _))))

/-- After the end of a command BUSY reads 0. -/
theorem State.platDone_busy (s : State) (r : Nat) : (s.platDone r).rd PLAT_STAT_BUSY = 0 :=
  calc (s.platDone r).rd PLAT_STAT_BUSY
      = (((s.wr PLAT_STAT_RESULT r).wr PLAT_STAT_BUSY 0).wr PLAT_STAT_PHASE 0).rd PLAT_STAT_BUSY :=
        State.rd_raise _ 5 0 (by decide)
    _ = ((s.wr PLAT_STAT_RESULT r).wr PLAT_STAT_BUSY 0).rd PLAT_STAT_BUSY := State.rd_wr_apart _ _ (by decide)
    _ = 0 := State.rd_wr_same _ _ _ (by decide) (by decide)

theorem State.platDone_result (s : State) {r : Nat} (h : r < 16) : (s.platDone r).rd PLAT_STAT_RESULT = r :=
  calc (s.platDone r).rd PLAT_STAT_RESULT
      = (((s.wr PLAT_STAT_RESULT r).wr PLAT_STAT_BUSY 0).wr PLAT_STAT_PHASE 0).rd PLAT_STAT_RESULT :=
        State.rd_raise _ 5 0 (by decide)
    _ = ((s.wr PLAT_STAT_RESULT r).wr PLAT_STAT_BUSY 0).rd PLAT_STAT_RESULT := State.rd_wr_apart _ _ (by decide)
    _ = (s.wr PLAT_STAT_RESULT r).rd PLAT_STAT_RESULT := State.rd_wr_apart _ _ (by decide)
    _ = r := (State.rd_wr_same _ _ _ (by decide) (by decide)).trans (Nat.mod_eq_of_lt h)

end LoaderRegisters

/-! ## A loader command under way, and its end (R102 to R104) -/

/-- A loader command with sequence number `q` is carried out: the core is powered and SEQ_LAST reads `q`. -/
structure State.InCommand (t : State) (q : Nat) : Prop where
  powered : t.host.halted = false
  seq : t.rd PLAT_SEQ_LAST = q

/-- The loader command with sequence number `q` has ended with RESULT `r`, BUSY 0 and DONE. -/
structure State.Ended (t : State) (q r : Nat) : Prop where
  seq : t.rd PLAT_SEQ_LAST = q
  result : t.rd PLAT_STAT_RESULT = r
  busy : t.rd PLAT_STAT_BUSY = 0
  done : bitAt (t.rdi UNIT_EVT_EVT 5) 0 = true

namespace State.InCommand

variable {s t : State} {m q r : Nat}

theorem of_frame (h : s.InCommand q) (hf : Frame m s t) (hm : m.testBit Part.hostHalted.ix = false)
    (hseq : PLAT_SEQ_LAST.outside m = true) : t.InCommand q :=
  ⟨(hf.1 .hostHalted hm).trans h.powered, (hf.rd hseq).trans h.seq⟩

theorem of_keeps {l : List Nat} (h : s.InCommand q) (hf : Frame m s t) (hm : m.testBit Part.hostHalted.ix = false)
    (hk : KeepsRegs l s t) (hl : isEvt (PLAT_SEQ_LAST.addr 0 0) = false ∧ PLAT_SEQ_LAST.addr 0 0 ∉ l) : t.InCommand q :=
  ⟨(hf.1 .hostHalted hm).trans h.powered, (hk.rd hl).trans h.seq⟩

theorem wr (h : s.InCommand q) {f : Fld} (hf : f.apart PLAT_SEQ_LAST = true) (v : Nat) : (s.wr f v).InCommand q :=
  ⟨h.powered, (s.rd_wr_apart v hf).trans h.seq⟩

theorem reportAll (h : s.InCommand q) (es : List RepEntry) : (s.reportAll es).InCommand q :=
  h.of_keeps (s.reportAll_frame es) (by decide) (s.reportAll_keepsRegs es) (by decide)

theorem rejectImage (h : s.InCommand q) (seq reason : Nat) : (s.rejectImage seq reason).InCommand q :=
  h.of_keeps (s.rejectImage_frame seq reason) (by decide) (s.rejectImage_keepsRegs seq reason) (by decide)

theorem queueAmends (h : s.InCommand q) (am : List Amend) : (s.queueAmends am).InCommand q :=
  h.of_keeps (s.queueAmends_frame am) (by decide) (s.queueAmends_keepsRegs am) (by decide)

theorem runFills (h : s.InCommand q) (fills : List MemFill) : (s.runFills fills).InCommand q :=
  h.of_frame (s.runFills_frame fills) (by decide) (by decide)

theorem parseHost (h : s.InCommand q) : s.parseHost.2.InCommand q :=
  h.of_frame s.parseHost_frame (by decide) (by decide)

theorem parseSlot (h : s.InCommand q) (x : Nat) : (s.parseSlot x).2.InCommand q := by
  have hparse : (s.parseAt (slotBase x) 0x400000).2.InCommand q :=
    h.of_frame (s.parseAt_frame _ _) (by decide) (by decide)
  exact hparse.of_keeps (State.slotOk_frame _ x _) (by decide) (State.slotOk_keepsRegs _ x _) (by decide)

theorem nvPut (h : s.InCommand q) (a v : Nat) : (s.nvPut a v).InCommand q :=
  h.of_frame (s.nvPut_frame a v) (by decide) (by decide)

theorem nvPuts (h : s.InCommand q) (a : Nat) (ws : List Nat) : (s.nvPuts a ws).InCommand q :=
  h.of_frame (s.nvPuts_frame ws a) (by decide) (by decide)

theorem memRead (h : s.InCommand q) (a : Nat) : (s.memRead a).2.InCommand q :=
  h.of_frame (s.memRead_frame a) (by decide) (by decide)

theorem readPointer (h : s.InCommand q) : s.readPointer.2.InCommand q := by
  have hreads := ((h.memRead (ptrAddr 0)).memRead (ptrAddr 1)).memRead (ptrAddr 2)
  exact ⟨(s.readPointer_frame.1 .hostHalted (by decide)).trans h.powered,
    (s.readPointer_keepsRegs.rd (by decide)).trans hreads.seq⟩

theorem platDone (h : s.InCommand q) (hr : r < 16) : (s.platDone r).Ended q r :=
  ⟨((s.platDone_keepsRegs r).rd (by decide)).trans h.seq, s.platDone_result hr, s.platDone_busy r,
    State.raise_bit _ 5 0 (State.winPresent_loader _) h.powered (by decide)⟩

/-- A command that ends with its image rejected as a whole. -/
theorem rejected (h : s.InCommand q) (why : Nat) (hr : r < 16) : ((s.rejectImage q why).platDone r).Ended q r :=
  (h.rejectImage q why).platDone hr

end State.InCommand

/-! ## The commands by the outcome of the parse -/

section LoaderCommands

variable {s u : State} {q x why : Nat} {p : Parsed}

/-- A parse rejects the image or gives its parts, and the command goes on. -/
theorem State.InCommand.outcome {r : (Nat ⊕ Parsed) × State} (h : r.2.InCommand q) :
    (∃ (why : Nat) (u : State), r = (.inl why, u) ∧ u.InCommand q) ∨
    ∃ (p : Parsed) (u : State), r = (.inr p, u) ∧ u.InCommand q := by
  obtain ⟨why | p, u⟩ := r
  · exact .inl ⟨why, u, rfl, h⟩
  · exact .inr ⟨p, u, rfl, h⟩

theorem State.platLoad_rejected (h : s.parseHost = (.inl why, u)) :
    s.platLoad q = (u.rejectImage q why).platDone 3 := by rw [State.platLoad, h]

/-- A configuration waits for COMMIT, with BUSY 1 and PHASE 3. -/
def State.staging (s : State) (st : Staged) : State :=
  (({ s with loader := { s.loader with staged := some st } } : State).wr PLAT_STAT_BUSY 1).wr PLAT_STAT_PHASE 3

theorem State.platLoad_parsed (h : s.parseHost = (.inr p, u)) :
    s.platLoad q = (u.reportAll (u.checkFull q 3 p).2).staging (u.checkFull q 3 p).1 := by
  rw [State.platLoad, h]
  rfl

theorem State.staging_busy (s : State) (st : Staged) : (s.staging st).rd PLAT_STAT_BUSY = 1 :=
  (State.rd_wr_apart _ _ (by decide)).trans (State.rd_wr_same _ _ _ (by decide) (by decide))

theorem State.InCommand.staging (h : s.InCommand q) (st : Staged) : (s.staging st).InCommand q := by
  have hstaged : State.InCommand { s with loader := { s.loader with staged := some st } } q := ⟨h.powered, h.seq⟩
  exact (hstaged.wr (by decide) 1).wr (by decide) 3

/-- LOAD (R92, R100): an image that parses is staged with BUSY 1, another ends it with result 3. -/
theorem State.InCommand.platLoad (h : s.InCommand q) : (s.platLoad q).rd PLAT_SEQ_LAST = q ∧
    (s.parseHost.1.isRight = true →
      (s.platLoad q).rd PLAT_STAT_BUSY = 1 ∧ (s.platLoad q).loader.staged.isSome = true) ∧
    (s.parseHost.1.isRight = false → (s.platLoad q).Ended q 3) := by
  obtain ⟨why, u, hr, hu⟩ | ⟨p, u, hr, hu⟩ := h.parseHost.outcome
  · rw [State.platLoad_rejected hr, hr]
    have hend := hu.rejected why (r := 3) (by decide)
    exact ⟨hend.seq, fun hright => absurd hright Bool.false_ne_true, fun _ => hend⟩
  · rw [State.platLoad_parsed hr, hr]
    exact ⟨((hu.reportAll _).staging _).seq, fun _ => ⟨State.staging_busy _ _, rfl⟩,
      fun hleft => absurd hleft.symm Bool.false_ne_true⟩

theorem State.platAmend_rejected (h : s.parseHost = (.inl why, u)) :
    s.platAmend q = (u.rejectImage q why).platDone 3 := by rw [State.platAmend, h]

/-- The entries of an AMEND reported, its fills run and its amendments queued. -/
def State.amended (s : State) (c : List MemFill × List Amend × List RepEntry) : State :=
  ((s.reportAll c.2.2).runFills c.1).queueAmends c.2.1

theorem State.platAmend_parsed (h : s.parseHost = (.inr p, u)) : s.platAmend q =
    (u.amended (u.checkAmendLoad q p)).platDone (u.amended (u.checkAmendLoad q p)).acceptedResult := by
  rw [State.platAmend, h]
  rfl

theorem State.acceptedResult_lt (s : State) : s.acceptedResult < 16 := by
  unfold State.acceptedResult
  split <;> decide

/-- The end of a command leaves the report, so the result can be told from it. -/
theorem State.acceptedResult_platDone (s : State) (r : Nat) : (s.platDone r).acceptedResult = s.acceptedResult := by
  rw [State.acceptedResult, State.acceptedResult, (s.platDone_keepsRegs r).rd (by decide)]

/-- AMEND (R108): result 1 or 2 by the report, or 3 for a rejected image. -/
theorem State.InCommand.platAmend (h : s.InCommand q) : (s.platAmend q).Ended q
    (if s.parseHost.1.isRight = true then (s.platAmend q).acceptedResult else 3) := by
  obtain ⟨why, u, hr, hu⟩ | ⟨p, u, hr, hu⟩ := h.parseHost.outcome
  · rw [State.platAmend_rejected hr, hr]
    exact hu.rejected why (by decide)
  · rw [State.platAmend_parsed hr, hr, State.acceptedResult_platDone]
    exact (((hu.reportAll _).runFills _).queueAmends _).platDone (State.acceptedResult_lt _)

theorem State.platCheck_rejected (h : s.parseHost = (.inl why, u)) :
    s.platCheck q = (u.rejectImage q why).platDone 3 := by rw [State.platCheck, h]

theorem State.platCheck_parsed (h : s.parseHost = (.inr p, u)) :
    s.platCheck q = (u.reportAll (u.checkFull q 3 p).2).platDone 4 := by rw [State.platCheck, h]

/-- CHECK (R101): result 4, or 3 for a rejected image. -/
theorem State.InCommand.platCheck (h : s.InCommand q) :
    (s.platCheck q).Ended q (if s.parseHost.1.isRight = true then 4 else 3) := by
  obtain ⟨why, u, hr, hu⟩ | ⟨p, u, hr, hu⟩ := h.parseHost.outcome
  · rw [State.platCheck_rejected hr, hr]
    exact hu.rejected why (by decide)
  · rw [State.platCheck_parsed hr, hr]
    exact (hu.reportAll _).platDone (by decide)

theorem State.platVerify_rejected (h : s.parseSlot x = (.inl why, u)) :
    s.platVerify q x = (u.rejectImage q why).platDone 6 := by rw [State.platVerify, h]

theorem State.platVerify_parsed (h : s.parseSlot x = (.inr p, u)) : s.platVerify q x = u.platDone 5 := by
  rw [State.platVerify, h]

/-- VERIFY (R101): result 5 when the slot parses, else 6. -/
theorem State.InCommand.platVerify (h : s.InCommand q) (x : Nat) :
    (s.platVerify q x).Ended q (if (s.parseSlot x).1.isRight = true then 5 else 6) := by
  obtain ⟨why, u, hr, hu⟩ | ⟨p, u, hr, hu⟩ := (h.parseSlot x).outcome
  · rw [State.platVerify_rejected hr, hr]
    exact hu.rejected why (by decide)
  · rw [State.platVerify_parsed hr, hr]
    exact hu.platDone (by decide)

/-- After the parse of its slot, VERIFY leaves PLAT_BOOT. -/
theorem State.platVerify_boot (s : State) (q x : Nat) {f : Fld} (hf : f.addr 0 0 = PLAT_BOOT_SLOT.addr 0 0) :
    (s.platVerify q x).rd f = (s.parseSlot x).2.rd f := by
  have hreport : isEvt (f.addr 0 0) = false ∧ f.addr 0 0 ∉ reportRegs := by rw [hf]; decide
  have hstat : isEvt (f.addr 0 0) = false ∧ f.addr 0 0 ∉ [PLAT_STAT_RESULT.addr 0 0] := by rw [hf]; decide
  cases hr : s.parseSlot x with
  | mk r u =>
    cases r with
    | inl why =>
      rw [State.platVerify_rejected hr]
      exact ((State.platDone_keepsRegs _ 6).rd hstat).trans ((u.rejectImage_keepsRegs q why).rd hreport)
    | inr p =>
      rw [State.platVerify_parsed hr]
      exact (u.platDone_keepsRegs 5).rd hstat

theorem b2n_mod_two (b : Bool) : b2n b % 2 = b2n b := by cases b <;> rfl

/-- The field of PLAT_BOOT that says whether slot `x` is good. -/
def okField (x : Nat) : Fld := if x = 0 then PLAT_BOOT_A_OK else PLAT_BOOT_B_OK

theorem okField_addr (x : Nat) : (okField x).addr 0 0 = PLAT_BOOT_SLOT.addr 0 0 := by
  unfold okField
  split <;> rfl

theorem State.slotOk_okField (s : State) (x : Nat) (good : Bool) : (s.slotOk x good).rd (okField x) = b2n good := by
  unfold State.slotOk okField
  split <;> exact (State.rd_wr_same _ _ _ (by decide) (by decide)).trans (b2n_mod_two good)

/-- VERIFY sets A_OK or B_OK by the outcome of the parse. -/
theorem State.platVerify_okField (s : State) (q x : Nat) :
    (s.platVerify q x).rd (okField x) = b2n (s.parseSlot x).1.isRight :=
  (s.platVerify_boot q x (okField_addr x)).trans (State.slotOk_okField _ x _)

theorem State.platProgram_rejected (h : s.parseHost = (.inl why, u)) :
    s.platProgram q x = (u.rejectImage q why).platDone 6 := by rw [State.platProgram, h]

/-- The image written into slot `x`: the header word as zero, the words after it, then the header word (R116). -/
def State.slotWritten (s : State) (x : Nat) (ws : List Nat) : State :=
  ((s.nvPut (slotBase x) 0).nvPuts (slotBase x + 8) (ws.drop 1)).nvPut (slotBase x) (ws.headD 0)

theorem State.platProgram_parsed (h : s.parseHost = (.inr p, u)) :
    s.platProgram q x = (u.slotWritten x (dwordsOf p.bytes)).platVerify q x := by
  rw [State.platProgram, h]
  rfl

/-- PROGRAM (R116): result 5 or 6 by what the slot reads back, 6 for a rejected image. -/
theorem State.InCommand.platProgram (h : s.InCommand q) (x : Nat) : (s.platProgram q x).rd PLAT_SEQ_LAST = q ∧
    (s.parseHost.1.isRight = true →
      (s.platProgram q x).rd PLAT_STAT_RESULT = 5 ∨ (s.platProgram q x).rd PLAT_STAT_RESULT = 6) ∧
    (s.parseHost.1.isRight = false → (s.platProgram q x).rd PLAT_STAT_RESULT = 6) ∧
    (s.platProgram q x).rd PLAT_STAT_BUSY = 0 ∧ bitAt ((s.platProgram q x).rdi UNIT_EVT_EVT 5) 0 = true := by
  obtain ⟨why, u, hr, hu⟩ | ⟨p, u, hr, hu⟩ := h.parseHost.outcome
  · rw [State.platProgram_rejected hr, hr]
    have hend := hu.rejected why (r := 6) (by decide)
    exact ⟨hend.seq, fun _ => .inr hend.result, fun _ => hend.result, hend.busy, hend.done⟩
  · rw [State.platProgram_parsed hr, hr]
    have hwritten : (u.slotWritten x (dwordsOf p.bytes)).InCommand q := ((hu.nvPut _ _).nvPuts _ _).nvPut _ _
    have hend := hwritten.platVerify x
    refine ⟨hend.seq, fun _ => ?_, fun hleft => absurd hleft.symm Bool.false_ne_true, hend.busy, hend.done⟩
    rw [hend.result]
    exact ite_eq_or_eq _ _ _

theorem State.platBoot_rejected (h : s.parseSlot x = (.inl why, u)) :
    s.platBoot q x = (u.rejectImage q why).platDone 6 := by rw [State.platBoot, h]

/-- The three copies of the boot pointer rewritten to `w`. -/
def State.pointerPut (s : State) (w : Nat) : State :=
  ((s.nvPut (ptrAddr 0) w).nvPut (ptrAddr 1) w).nvPut (ptrAddr 2) w

/-- The boot pointer moved to slot `x` with the next generation, and PLAT_BOOT with it (R117). -/
def State.bootMoved (s : State) (x : Nat) : State :=
  ((((s.readPointer.2.pointerPut (ptrWord x (s.readPointer.1 + 1))).wr PLAT_BOOT_SLOT x).wr PLAT_BOOT_GEN
    (s.readPointer.1 + 1)).wr PLAT_BOOT_ODD 0).wr PLAT_BOOT_SPLIT 0

theorem State.platBoot_parsed (h : s.parseSlot x = (.inr p, u)) : s.platBoot q x = (u.bootMoved x).platDone 5 := by
  rw [State.platBoot, h]
  rfl

theorem State.InCommand.bootMoved (h : s.InCommand q) (x : Nat) : (s.bootMoved x).InCommand q := by
  have hput : (s.readPointer.2.pointerPut (ptrWord x (s.readPointer.1 + 1))).InCommand q :=
    ((h.readPointer.nvPut _ _).nvPut _ _).nvPut _ _
  exact (((hput.wr (by decide) _).wr (by decide) _).wr (by decide) _).wr (by decide) _

/-- PLAT_BOOT names the slot booted, in three copies that agree. -/
def State.BootsFrom (t : State) (x : Nat) : Prop :=
  t.rd PLAT_BOOT_SLOT = x % 2 ∧ t.rd PLAT_BOOT_ODD = 0 ∧ t.rd PLAT_BOOT_SPLIT = 0

theorem State.bootMoved_bootsFrom (s : State) (x : Nat) : (s.bootMoved x).BootsFrom x := by
  refine ⟨?_, ?_, State.rd_wr_same _ _ _ (by decide) (by decide)⟩
  · rw [State.bootMoved, State.rd_wr_apart _ _ (by decide), State.rd_wr_apart _ _ (by decide),
      State.rd_wr_apart _ _ (by decide)]
    exact State.rd_wr_same _ _ _ (by decide) (by decide)
  · exact (State.rd_wr_apart _ _ (by decide)).trans (State.rd_wr_same _ _ _ (by decide) (by decide))

theorem State.BootsFrom.platDone (h : s.BootsFrom x) (r : Nat) : (s.platDone r).BootsFrom x := by
  obtain ⟨hslot, hodd, hsplit⟩ := h
  have hk := s.platDone_keepsRegs r
  exact ⟨(hk.rd (by decide)).trans hslot, (hk.rd (by decide)).trans hodd, (hk.rd (by decide)).trans hsplit⟩

/-- BOOT (R117): result 5 and the pointer at the slot when it parses, else 6. -/
theorem State.InCommand.platBoot (h : s.InCommand q) (x : Nat) : (s.platBoot q x).rd PLAT_SEQ_LAST = q ∧
    ((s.parseSlot x).1.isRight = true → (s.platBoot q x).rd PLAT_STAT_RESULT = 5 ∧ (s.platBoot q x).BootsFrom x) ∧
    ((s.parseSlot x).1.isRight = false → (s.platBoot q x).rd PLAT_STAT_RESULT = 6) ∧
    (s.platBoot q x).rd PLAT_STAT_BUSY = 0 ∧ bitAt ((s.platBoot q x).rdi UNIT_EVT_EVT 5) 0 = true := by
  obtain ⟨why, u, hr, hu⟩ | ⟨p, u, hr, hu⟩ := (h.parseSlot x).outcome
  · rw [State.platBoot_rejected hr, hr]
    have hend := hu.rejected why (r := 6) (by decide)
    exact ⟨hend.seq, fun hright => absurd hright Bool.false_ne_true, fun _ => hend.result, hend.busy, hend.done⟩
  · rw [State.platBoot_parsed hr, hr]
    have hend := (hu.bootMoved x).platDone (r := 5) (by decide)
    exact ⟨hend.seq, fun _ => ⟨hend.result, (u.bootMoved_bootsFrom x).platDone 5⟩,
      fun hleft => absurd hleft.symm Bool.false_ne_true, hend.busy, hend.done⟩

end LoaderCommands

/-! ## Accepted and refused commands (R102) -/

section LoaderAcceptance

variable {s : State} {k : BitVec 16} {op v : Nat}

/-- What the operation `op` does under the sequence number `q`. -/
def State.platRun (s : State) (q op : Nat) : State :=
  match op with
  | 1 => s.platLoad q
  | 2 => s.platAmend q
  | 3 => s.platCheck q
  | 4 => s.platProgram q 0
  | 5 => s.platProgram q 1
  | 6 => s.platBoot q 0
  | 7 => s.platBoot q 1
  | 8 => s.platVerify q 0
  | _ => s.platVerify q 1

theorem State.platCommand_accepted (h : s.platCause v = 0) :
    s.platCommand v = s.platAccept.2.platRun s.platAccept.1 (bitsOf v 3 0) := by
  rw [State.platCommand, h]
  rfl

theorem State.platCommand_refused (h : s.platCause v ≠ 0) : s.platCommand v = s.platRefuse (s.platCause v) := by
  rw [State.platCommand]
  exact if_pos h

theorem bitsOf_platWord (k : BitVec 16) (h : op < 16) : bitsOf (platWord k op) 3 0 = op := by
  simp only [bitsOf, platWord]
  omega

/-- The command of an operation that no cause refuses runs the operation from the accepted state. -/
theorem State.powered_platCommand (hp : s.host.halted = false) (hop : op < 16) (hc : s.platCause (platWord k op) = 0) :
    s.powered (ok (s.platCommand (platWord k op))) = .next (s.platAccept.2.platRun s.platAccept.1 op) := by
  rw [State.powered_of_not_halted hp, State.platCommand_accepted hc, bitsOf_platWord k hop]
  rfl

/-- An accepted command takes the next sequence number. -/
theorem State.platAccept_inCommand (hp : s.host.halted = false) :
    s.platAccept.2.InCommand ((s.rd PLAT_SEQ_LAST + 1) % 65536) :=
  ⟨hp, (State.rd_wr_same _ _ _ (by decide) (by decide)).trans (Nat.mod_mod _ _)⟩

theorem State.platCause_undefined (s : State) (h : bitsOf v 3 0 = 0 ∨ 9 < bitsOf v 3 0) : s.platCause v ≠ 0 := by
  have h5 : (decide (bitsOf v 3 0 = 0) || decide (9 < bitsOf v 3 0)) = true := by simpa using h
  simp only [State.platCause, h5, if_true]
  split_ifs <;> decide

theorem exec_opUndefined_refused (hp : s.host.halted = false) {v : Word}
    (h : bitsOf v.toNat 3 0 = 0 ∨ 9 < bitsOf v.toNat 3 0) :
    exec (.opUndefined v) s = .next (s.platRefuse (s.platCause v.toNat)) := by
  have h5 : (decide (bitsOf v.toNat 3 0 = 0) || decide (9 < bitsOf v.toNat 3 0)) = true := by simpa using h
  simp only [exec, execOpUndefined, State.powered_of_not_halted hp, h5, if_true,
    State.platCommand_refused (s.platCause_undefined h)]
  rfl

theorem State.platRefuse_count (s : State) (c : Nat) :
    (s.platRefuse c).rd PLAT_CMDERR_COUNT = min (s.rd PLAT_CMDERR_COUNT + 1) (2 ^ 24 - 1) :=
  calc (s.platRefuse c).rd PLAT_CMDERR_COUNT
      = ((s.inc PLAT_CMDERR_COUNT 1).wr PLAT_CMDERR_LAST c).rd PLAT_CMDERR_COUNT := State.rd_raise _ 5 6 (by decide)
    _ = (s.inc PLAT_CMDERR_COUNT 1).rd PLAT_CMDERR_COUNT := State.rd_wr_apart _ _ (by decide)
    _ = min (s.rd PLAT_CMDERR_COUNT + 1) (2 ^ 24 - 1) := State.rd_inc_same _ _ _ (by decide) (by decide)

theorem State.platRefuse_event (hp : s.host.halted = false) (c : Nat) :
    bitAt ((s.platRefuse c).rdi UNIT_EVT_EVT 5) 6 = true :=
  State.raise_bit _ 5 6 (State.winPresent_loader _) hp (by decide)

/-- CHECK stages nothing. -/
theorem State.platCheck_staged (s : State) (q : Nat) : (s.platAccept.2.platCheck q).loader.staged = s.loader.staged :=
  (State.platCheck_frame _ q).1 .loaderStaged (by decide)

end LoaderAcceptance

/-- Settles O27: the accepted state is in its command, and the lemma on each operation says how the command ends. -/
theorem loaderCommandsComplete : Obligations.LoaderCommandsComplete := by
  unfold Obligations.LoaderCommandsComplete
  refine ⟨fun k s hp hc => ⟨_, State.powered_platCommand hp (by decide) hc, ?_⟩,
    fun k s hp hc => ⟨_, State.powered_platCommand hp (by decide) hc, ?_⟩,
    fun k s hp hc => ⟨_, State.powered_platCommand hp (by decide) hc, ?_⟩,
    fun k s hp hc => ⟨_, State.powered_platCommand hp (by decide) hc, ?_⟩,
    fun k s hp hc => ⟨_, State.powered_platCommand hp (by decide) hc, ?_⟩,
    fun k s hp hc => ⟨_, State.powered_platCommand hp (by decide) hc, ?_⟩,
    fun k s hp hc => ⟨_, State.powered_platCommand hp (by decide) hc, ?_⟩,
    fun k s hp hc => ⟨_, State.powered_platCommand hp (by decide) hc, ?_⟩,
    fun k s hp hc => ⟨_, State.powered_platCommand hp (by decide) hc, ?_⟩,
    fun v s hp h => ⟨_, exec_opUndefined_refused hp h, s.platRefuse_count _, State.platRefuse_event hp _⟩⟩
  · obtain ⟨hseq, hright, hleft⟩ := (State.platAccept_inCommand hp).platLoad
    exact ⟨hseq, hright, fun h => ⟨(hleft h).result, (hleft h).busy, (hleft h).done⟩⟩
  · have hend := (State.platAccept_inCommand hp).platAmend
    exact ⟨hend.seq, fun h => ⟨hend.result.trans (if_pos h), hend.busy, hend.done⟩,
      fun h => ⟨hend.result.trans (if_neg (Bool.eq_false_iff.mp h)), hend.busy, hend.done⟩⟩
  · have hend := (State.platAccept_inCommand hp).platCheck
    exact ⟨hend.seq, fun h => ⟨hend.result.trans (if_pos h), hend.busy, hend.done⟩,
      fun h => ⟨hend.result.trans (if_neg (Bool.eq_false_iff.mp h)), hend.busy, hend.done⟩, s.platCheck_staged _⟩
  · exact (State.platAccept_inCommand hp).platProgram 0
  · exact (State.platAccept_inCommand hp).platProgram 1
  · exact (State.platAccept_inCommand hp).platBoot 0
  · exact (State.platAccept_inCommand hp).platBoot 1
  · have hend := (State.platAccept_inCommand hp).platVerify 0
    exact ⟨hend.seq, hend.result, State.platVerify_okField _ _ 0, hend.busy, hend.done⟩
  · have hend := (State.platAccept_inCommand hp).platVerify 1
    exact ⟨hend.seq, hend.result, State.platVerify_okField _ _ 1, hend.busy, hend.done⟩

end Sys2Proof.Machine

namespace Sys2Proof.Machine

open Sys2Proof

/-! ## Commit (R98, R99, R113) -/

section Commit

variable {s t : State} {m : Nat} {st : Staged}

/-- The running configuration comes to its end: its pending amendments are discarded with a report (R111). -/
def State.amendsDropped (s : State) : State :=
  let u : State := { s with loader := { s.loader with pendingAmends := [] } }
  (((u.discardReport 0x2B s.loader.pendingAmends).pendingShow).wr SYS_STATE_STATE 4).wr PLAT_STAT_PHASE 4

/-- The device changed over to the staged configuration, its units and field dies configured (R99). -/
def State.changedOver (s : State) (st : Staged) : State :=
  ((s.amendsDropped.commitEnd.swapIn st).commitUnits).commitDies s.running

/-- The fills run and the regions still without contents reported (R98, R113). -/
def State.filled (s : State) (st : Staged) : State :=
  let u := (((s.changedOver st).wr SYS_STATE_STATE 5).wr PLAT_STAT_PHASE 5).runFills st.fills
  u.reportAll (u.notInit (s.rd PLAT_SEQ_LAST))

/-- The image's own amendments queued and the device in Run. -/
def State.imageRuns (s : State) (st : Staged) : State :=
  (((s.filled st).queueAmends st.amends).wr SYS_STATE_STATE 6).jamLearn

/-- The power states, the fans and the pads follow the configuration. -/
def State.imageShown (s : State) : State := (s.pwrShow.fansApply).padRefresh

theorem exec_commit_staged (hp : s.host.halted = false) (hst : s.loader.staged = some st) : exec .commit s =
    .next ((s.imageRuns st).platDone (s.imageRuns st).acceptedResult).imageShown := by
  simp only [exec, execCommit, State.powered_of_not_halted hp, hst, ok, State.imageShown, State.imageRuns, State.filled,
    State.changedOver, State.amendsDropped]

theorem State.imageShown_frame (s : State) : Frame 0x200001c2080300000000401 s s.imageShown :=
  (State.padRefresh_frame _).comp (by decide)
    ((State.fansApply_frame _).comp (by decide) (s.pwrShow_frame.mono (by decide)))

/-- The configuration of `st` is the running one and nothing is staged. -/
structure State.HoldsImage (t : State) (st : Staged) : Prop where
  committed : t.loader.committed = true
  staged : t.loader.staged = none
  recs : t.loader.recs = st.recs
  imageId : t.rd PLAT_IMAGEID_ID = st.imageId % 2 ^ 32

namespace State.HoldsImage

theorem of_frame (h : s.HoldsImage st) (hf : Frame m s t)
    (hm : m &&& maskOf [.loaderCommitted, .loaderStaged, .loaderRecs] = 0)
    (hid : t.rd PLAT_IMAGEID_ID = s.rd PLAT_IMAGEID_ID) : t.HoldsImage st := by
  have keep : ∀ p ∈ [Part.loaderCommitted, .loaderStaged, .loaderRecs], p.same s t := fun p hp => hf.same_of_mem hm hp
  simp only [List.forall_mem_cons] at keep
  obtain ⟨hcommitted, hstaged, hrecs, -⟩ := keep
  exact ⟨hcommitted.trans h.committed, hstaged.trans h.staged, hrecs.trans h.recs, hid.trans h.imageId⟩

theorem wr (h : s.HoldsImage st) {f : Fld} (hf : f.apart PLAT_IMAGEID_ID = true) (v : Nat) :
    (s.wr f v).HoldsImage st := ⟨h.committed, h.staged, h.recs, (s.rd_wr_apart v hf).trans h.imageId⟩

end State.HoldsImage

theorem State.swapIn_holdsImage (s : State) (st : Staged) : (s.swapIn st).HoldsImage st := by
  have hid : ∀ u : State, u.loader.committed = true → u.loader.staged = none → u.loader.recs = st.recs →
      (u.wr PLAT_IMAGEID_ID st.imageId).HoldsImage st :=
    fun u hcommitted hstaged hrecs => ⟨hcommitted, hstaged, hrecs, State.rd_wr_same u _ _ (by decide) (by decide)⟩
  have hrest : ∀ (u : State) (a b : Nat), u.HoldsImage st →
      (((u.wr PLAT_SEQ_COMMITTED a).wr PLAT_STAT_SOURCE b).wr PLAT_AMEND_STAT_APPLIED 0).HoldsImage st :=
    fun u a b h => ((h.wr (by decide) a).wr (by decide) b).wr (by decide) 0
  unfold State.swapIn
  dsimp only
  split
  · exact (hrest _ _ _ (hid _ rfl rfl rfl)).wr (by decide) 0
  · exact hrest _ _ _ (hid _ rfl rfl rfl)

theorem State.changedOver_holdsImage (s : State) (st : Staged) : (s.changedOver st).HoldsImage st := by
  have hunits := State.commitUnits_frame (s.amendsDropped.commitEnd.swapIn st)
  have hdies := State.commitDies_frame (s.amendsDropped.commitEnd.swapIn st).commitUnits s.running
  exact ((State.swapIn_holdsImage _ st).of_frame hunits (by decide) (hunits.rd (by decide))).of_frame hdies (by decide)
    (hdies.rd (by decide))

theorem State.filled_holdsImage (s : State) (st : Staged) : (s.filled st).HoldsImage st := by
  have hphase := ((s.changedOver_holdsImage st).wr (f := SYS_STATE_STATE) (by decide) 5).wr (f := PLAT_STAT_PHASE)
    (by decide) 5
  have hfills := State.runFills_frame (((s.changedOver st).wr SYS_STATE_STATE 5).wr PLAT_STAT_PHASE 5) st.fills
  exact (hphase.of_frame hfills (by decide) (hfills.rd (by decide))).of_frame (State.reportAll_frame _ _) (by decide)
    ((State.reportAll_keepsRegs _ _).rd (by decide))

theorem State.imageRuns_holdsImage (s : State) (st : Staged) : (s.imageRuns st).HoldsImage st := by
  have hqueued := (s.filled_holdsImage st).of_frame (State.queueAmends_frame _ st.amends) (by decide)
    ((State.queueAmends_keepsRegs _ _).rd (by decide))
  have hjam := State.jamLearn_frame (((s.filled st).queueAmends st.amends).wr SYS_STATE_STATE 6)
  exact (hqueued.wr (by decide) 6).of_frame hjam (by decide) (hjam.rd (by decide))

/-- The end of the command and what follows the configuration keep the image. -/
theorem State.HoldsImage.ends (h : s.HoldsImage st) (r : Nat) : (s.platDone r).imageShown.HoldsImage st := by
  have hshown := (s.platDone r).imageShown_frame
  exact (h.of_frame (s.platDone_frame r) (by decide) ((s.platDone_keepsRegs r).rd (by decide))).of_frame hshown
    (by decide) (hshown.rd (by decide))

/-- Once its amendments are dropped, the change over to the image may change everything but the queue of amendments. -/
theorem State.filled_frame (s : State) (st : Staged) : Frame 0x3fffffffffffffdffffffff
    { s with loader := { s.loader with pendingAmends := [] } } (s.filled st) := by
  have hdropped : Frame 0x3fffffffffffffdffffffff { s with loader := { s.loader with pendingAmends := [] } }
      s.amendsDropped :=
    (((State.pendingShow_frame _).comp (by decide) ((State.discardReport_frame _ _ _).mono (by decide))).wr
      (by decide)).wr (by decide)
  have hover : Frame 0x3fffffffffffffdffffffff { s with loader := { s.loader with pendingAmends := [] } }
      (s.changedOver st) :=
    (State.commitDies_frame _ _).comp (by decide) ((State.commitUnits_frame _).comp (by decide)
      ((State.swapIn_frame _ st).comp (by decide) ((State.commitEnd_frame _).comp (by decide) hdropped)))
  exact (State.reportAll_frame _ _).comp (by decide)
    ((State.runFills_frame _ _).comp (by decide) ((hover.wr (by decide)).wr (by decide)))

/-- The queue holds the image's own amendments alone. -/
theorem State.queued_pendingAmends (s : State) (st : Staged) :
    ((s.filled st).queueAmends st.amends).loader.pendingAmends = st.amends := by
  have hempty : (s.filled st).loader.pendingAmends = [] := (s.filled_frame st).1 .loaderPendingAmends (by decide)
  show (s.filled st).loader.pendingAmends ++ st.amends = st.amends
  rw [hempty, List.nil_append]

/-- What follows the queueing of the amendments leaves them. -/
theorem State.imageRuns_ends_pendingAmends (s : State) (st : Staged) (r : Nat) :
    ((s.imageRuns st).platDone r).imageShown.loader.pendingAmends = st.amends := by
  have hjam := State.jamLearn_frame (((s.filled st).queueAmends st.amends).wr SYS_STATE_STATE 6)
  have hdone := (s.imageRuns st).platDone_frame r
  calc ((s.imageRuns st).platDone r).imageShown.loader.pendingAmends
      = ((s.imageRuns st).platDone r).loader.pendingAmends :=
        (State.imageShown_frame _).1 .loaderPendingAmends (by decide)
    _ = (s.imageRuns st).loader.pendingAmends := hdone.1 .loaderPendingAmends (by decide)
    _ = ((s.filled st).queueAmends st.amends).loader.pendingAmends := hjam.1 .loaderPendingAmends (by decide)
    _ = st.amends := s.queued_pendingAmends st

/-- The device is in Run when the commit ends. -/
theorem State.imageRuns_ends_state (s : State) (st : Staged) (r : Nat) :
    ((s.imageRuns st).platDone r).imageShown.rd SYS_STATE_STATE = 6 := by
  have hjam := State.jamLearn_frame (((s.filled st).queueAmends st.amends).wr SYS_STATE_STATE 6)
  calc ((s.imageRuns st).platDone r).imageShown.rd SYS_STATE_STATE
      = ((s.imageRuns st).platDone r).rd SYS_STATE_STATE := (State.imageShown_frame _).rd (by decide)
    _ = (s.imageRuns st).rd SYS_STATE_STATE := (State.platDone_keepsRegs _ r).rd (by decide)
    _ = (((s.filled st).queueAmends st.amends).wr SYS_STATE_STATE 6).rd SYS_STATE_STATE := hjam.rd (by decide)
    _ = 6 := State.rd_wr_same _ _ _ (by decide) (by decide)

theorem State.imageShown_busy (s : State) (r : Nat) : (s.platDone r).imageShown.rd PLAT_STAT_BUSY = 0 :=
  ((State.imageShown_frame _).rd (by decide)).trans (s.platDone_busy r)

end Commit

/-! ## Amendments at their boundary (R108 to R110) -/

section AmendmentApply

variable {s : State} {a b : Nat} {old : CfgRec}

/-- Amendment `q` is of the record of section `a` with index `b`. -/
def Amend.isOf (a b : Nat) (q : Amend) : Bool := q.tsect == a && q.tindex == b

/-- The pending amendments of the record. -/
def State.amendsDue (s : State) (a b : Nat) : List Amend := s.loader.pendingAmends.filter (Amend.isOf a b)

/-- The record `old` with the values of its due amendments, in queue order. -/
def State.amendedRec (s : State) (a b : Nat) (old : CfgRec) : CfgRec :=
  { old with vals := ((s.amendsDue a b).flatMap (·.sets)).foldl (fun v p => listSet v p.1 p.2) old.vals }

/-- The due amendments leave the queue together, count as applied, and their values stand in the record. -/
def State.amendsTaken (s : State) (a b : Nat) (old : CfgRec) : State :=
  { s with loader := { s.loader with
    pendingAmends := s.loader.pendingAmends.filter (fun q => !Amend.isOf a b q)
    applied := s.loader.applied ++ s.amendsDue a b
    recs := s.loader.recs.map (fun q => if q.sect == a && q.index == b then s.amendedRec a b old else q) } }

/-- The amendments taken and in force in the unit. -/
def State.amendsInForce (s : State) (a b : Nat) (old : CfgRec) : State :=
  (((s.amendsTaken a b old).pendingShow).inc PLAT_AMEND_STAT_APPLIED (s.amendsDue a b).length).amendEffect old
    (s.amendedRec a b old) ((s.amendsDue a b).flatMap (·.sets))

theorem exec_amendmentApply_due (hp : s.host.halted = false)
    (hfind : s.loader.recs.find? (fun r => r.sect == a && r.index == b) = some old)
    (hdue : s.loader.pendingAmends.any (Amend.isOf a b) = true) (hheld : s.amendHeld old = false) :
    ∃ ended : Bool, exec (.amendmentApply a b) s = .next ((s.amendsInForce a b old).raiseIf ended 5 3) := by
  obtain ⟨q, hq, hof⟩ := List.any_eq_true.mp hdue
  have hsome : (s.loader.pendingAmends.filter fun q => q.tsect == a && q.tindex == b).isEmpty = false :=
    List.isEmpty_eq_false_iff_exists_mem.mpr ⟨q, List.mem_filter.mpr ⟨hq, hof⟩⟩
  simp only [exec, execAmendmentApply, State.powered_of_not_halted hp, hfind, hsome, hheld, Bool.or_self,
    Bool.false_eq_true, if_false]
  exact ⟨_, rfl⟩

/-- What amended values do beside standing in the record, and the event, leave the queue and the applied. -/
theorem State.amendsInForce_frame (s : State) (a b : Nat) (old : CfgRec) (ended : Bool) :
    Frame 0x2effd7d68d7fd4004800401 (s.amendsTaken a b old) ((s.amendsInForce a b old).raiseIf ended 5 3) :=
  (State.raiseIf_frame _ ended 5 3).comp (by decide) ((State.amendEffect_frame _ old _ _).comp (by decide)
    (((State.pendingShow_frame _).mono (by decide)).inc (by decide)))

end AmendmentApply

/-- Settles O28: what the change over leaves to the end of the commit, and the lemma on the amendments taken. -/
theorem commitAndAmendmentCommandsComplete : Obligations.CommitAndAmendmentCommandsComplete := by
  unfold Obligations.CommitAndAmendmentCommandsComplete
  refine ⟨fun st s hp hst => ⟨_, exec_commit_staged hp hst, ?_⟩, fun a b r s hp hfind hdue hheld => ?_⟩
  · have himage := (s.imageRuns_holdsImage st).ends (s.imageRuns st).acceptedResult
    exact ⟨himage.committed, himage.staged, himage.recs, s.imageRuns_ends_pendingAmends st _,
      s.imageRuns_ends_state st _, State.imageShown_busy _ _, himage.imageId⟩
  · obtain ⟨ended, hexec⟩ := exec_amendmentApply_due hp hfind hdue hheld
    have hf := s.amendsInForce_frame a b r ended
    exact ⟨_, hexec, hf.1 .loaderPendingAmends (by decide), hf.1 .loaderApplied (by decide)⟩

end Sys2Proof.Machine

/-! # Settled statements on time and GNSS: the frames of these commands, the time base, the tracking commands -/

namespace Sys2Proof.Machine

open Sys2Proof

/-- Settles O55: each clause's list covers the mask of its command. -/
theorem timeGnssAndPixelCommandsFrame : Obligations.TimeGnssAndPixelCommandsFrame := by
  unfold Obligations.TimeGnssAndPixelCommandsFrame
  repeat' apply And.intro
  all_goals
    intros
    exact exec_changesOnly _ _ _ (by dsimp only [Instr.frameMask]; decide)

/-! ## The time base (R122 to R130, R147) -/

section TimeBase

variable {s : State}

theorem listAt_listSet_same {α : Type} {l : List α} {i : Nat} (h : i < l.length) (v d : α) :
    listAt (listSet l i v) i d = v := by
  induction l generalizing i with
  | nil => exact absurd h (Nat.not_lt_zero i)
  | cons x l ih =>
    cases i with
    | zero => rfl
    | succ n => exact ih (Nat.lt_of_succ_lt_succ h)

theorem listAt_of_le {α : Type} {l : List α} {i : Nat} (h : l.length ≤ i) (d : α) : listAt l i d = d := by
  rw [listAt, List.getElem?_eq_none h, Option.getD_none]

theorem State.rd_raiseIf (s : State) (c : Bool) (w e : Nat) {f : Fld} (h : f.outside 0x20000000080000000000401 = true) :
    (s.raiseIf c w e).rd f = s.rd f := State.rdij_raiseIf s c w e f 0 0 h

/-- The time base is present in every variant. -/
theorem State.winPresent_time (s : State) : s.winPresent 2 = true := by
  unfold State.winPresent
  split <;> rfl

/-! ### Holdover -/

/-- A rate that is set reaches TIME_RATE and the events alone. -/
theorem State.setAdj_rd (s : State) (a : Int) {f : Fld} (h : TIME_RATE_ADJ.apart f = true)
    (ho : f.outside 0x20000000080000000000401 = true) : (s.setAdj a).rd f = s.rd f :=
  (State.rd_raiseIf _ _ _ _ ho).trans (s.rd_wr_apart _ h)

theorem State.setActive_active (s : State) {a : Nat} (h : a < 16) : (s.setActive a).rd TIME_DATUM_ACTIVE = a := by
  unfold State.setActive
  split
  · assumption
  · calc ((s.wr TIME_DATUM_ACTIVE a).raise 2 7).rd TIME_DATUM_ACTIVE
        = (s.wr TIME_DATUM_ACTIVE a).rd TIME_DATUM_ACTIVE := State.rd_raise _ _ _ (by decide)
      _ = a % 2 ^ 4 := s.rd_wr_same _ _ (by decide) (by decide)
      _ = a := Nat.mod_eq_of_lt h

/-- The active source reaches its field of TIME_DATUM and the events alone. -/
theorem State.setActive_rd (s : State) (a : Nat) {f : Fld} (h : TIME_DATUM_ACTIVE.apart f = true)
    (ho : f.outside 0x20000000080000000000401 = true) : (s.setActive a).rd f = s.rd f := by
  unfold State.setActive
  split
  · rfl
  · exact (State.rd_raise _ _ _ ho).trans (s.rd_wr_apart _ h)

/-- The servo's second begins: sources that have been silent too long are no longer usable. -/
def State.servoBegun (s : State) : State := s.timeM fun t => { t with
  servoSec := s.sec
  srcs := t.srcs.map fun d =>
    if d.last + s.cv1 C_TIMEBASE_LOST_TIME * 1000000000 ≤ s.clk.el then { d with usable := false, since := none } else d }

/-- Holdover begins: the entry and its uncertainty are kept, and STATE is 2. -/
def State.holdBegun (s : State) : State :=
  (((s.wr TIME_DATUM_SLEWING 0).wr TIME_DATUM_STEP_WAIT 0).timeM fun t => { t with
    holdAt := s.clk.el, uEntry := s.rd TIME_UNC_NS }).wr TIME_DATUM_STATE 2

/-- Holdover with no active source, at the frequency last estimated (R125). -/
def State.heldOver (s : State) : State := ((s.holdBegun.setActive 0).raise 2 5).setAdj s.time.freq

theorem State.servoNone_of_locked (h : s.rd TIME_DATUM_STATE = 1) : s.servoNone = s.heldOver := by
  simp only [State.servoNone, h, one_ne_zero, if_false, if_true]
  rfl

theorem State.bestDatum_of_forced (h : s.rd TIME_CTRL_FORCE_HOLD = 1) : s.bestDatum = 0 := if_pos h

theorem State.holdBegun_slewing (s : State) : s.holdBegun.rd TIME_DATUM_SLEWING = 0 := by
  refine (State.rd_wr_apart _ _ (by decide)).trans ?_
  exact (State.rd_wr_apart _ _ (by decide)).trans (State.rd_wr_same _ _ _ (by decide) (by decide))

theorem State.heldOver_rd (s : State) {f : Fld} (h : TIME_DATUM_ACTIVE.apart f = true) (hr : TIME_RATE_ADJ.apart f = true)
    (ho : f.outside 0x20000000080000000000401 = true) : s.heldOver.rd f = s.holdBegun.rd f :=
  (State.setAdj_rd _ _ hr ho).trans ((State.rd_raise _ _ _ ho).trans (State.setActive_rd _ _ h ho))

theorem State.heldOver_state (s : State) : s.heldOver.rd TIME_DATUM_STATE = 2 :=
  (s.heldOver_rd (by decide) (by decide) (by decide)).trans (State.rd_wr_same _ _ _ (by decide) (by decide))

theorem State.heldOver_active (s : State) : s.heldOver.rd TIME_DATUM_ACTIVE = 0 :=
  (State.setAdj_rd _ _ (by decide) (by decide)).trans
    ((State.rd_raise _ _ _ (by decide)).trans (State.setActive_active _ (by decide)))

/-- The registers and events of holdover leave what its beginning noted. -/
theorem State.heldOver_time (s : State) : s.heldOver.time = s.holdBegun.time := by
  have hf : Frame 0x20000000880000000000401 s.holdBegun s.heldOver :=
    (State.setAdj_frame _ _).comp (by decide) ((State.raise_frame _ _ _).comp (by decide) (State.setActive_frame _ _))
  exact hf.1 .time (by decide)

theorem exec_servoUpdate_forced (hp : s.host.halted = false) (hsec : s.time.servoSec ≠ s.sec) (hsb : s.standby = false)
    (hforce : s.rd TIME_CTRL_FORCE_HOLD = 1) (hst : s.rd TIME_DATUM_STATE = 1) :
    ∃ c : Nat, exec .servoUpdate s = .next (s.servoBegun.heldOver.wr TIME_DATUM_CANDIDATE c) := by
  have hbest : s.servoBegun.bestDatum = 0 := State.bestDatum_of_forced hforce
  have hnone : s.servoBegun.servoNone = s.servoBegun.heldOver := State.servoNone_of_locked hst
  have hstate : ∀ c, (s.servoBegun.heldOver.wr TIME_DATUM_CANDIDATE c).rd TIME_DATUM_STATE = 2 := fun c =>
    (State.rd_wr_apart _ _ (by decide)).trans s.servoBegun.heldOver_state
  refine ⟨s.servoBegun.heldOver.candidate 0, ?_⟩
  simp only [State.servoBegun] at hbest hnone hstate
  simp only [exec, execServoUpdate, State.powered_of_not_halted hp, if_neg hsec, hsb, Bool.false_eq_true, if_false, hbest,
    if_true, hnone, hstate, OfNat.ofNat_ne_one]
  rfl

/-! ### Steps of device time -/

theorem exec_step_due {d : Int} (hp : s.host.halted = false) (hd : s.time.step = some d) (hsec : s.time.stepSec ≠ s.sec) :
    exec .step s = .next (s.stepAll d) := by
  have hdue : s.stepDue = some d := by rw [State.stepDue, if_neg hsec, hd]
  simp only [exec, execStep, State.powered_of_not_halted hp, hdue]
  rfl

/-- What follows a step in the other units leaves the time base. -/
theorem State.stepAll_frame_timeStep (s : State) (d : Int) : Frame 0x200c02080a5cc4000000407 (s.timeStep d) (s.stepAll d) := by
  have hobjects : Frame 0x200c02080a5cc4000000407 (s.timeStep d) ((((s.timeStep d).stkStep d).talStep d).pairStep d) :=
    (State.pairStep_frame _ d).comp (by decide) ((State.talStep_frame _ d).comp (by decide)
      ((State.stkStep_frame _ d).mono (by decide)))
  exact Frame.put_can _ (by decide) (Frame.put_gns _ (by decide) ((State.msrStep_frame _).comp (by decide)
    ((State.sigStep_frame _).comp (by decide) ((State.afeStep_frame _ d).comp (by decide) hobjects))))

/-- The step is taken before STEP_NOW clears and the event is raised. -/
theorem State.timeStep_clk (s : State) (d : Int) :
    (s.timeStep d).clk = { s.clk with now := ((s.clk.now : Int) + d).toNat % 2 ^ 64 } :=
  (State.raise_frame _ 2 4).1 .clk (by decide)

theorem State.timeStep_step (s : State) (d : Int) : (s.timeStep d).time.step = none :=
  congrArg TimeUnit.step ((State.raise_frame _ 2 4).1 .time (by decide))

theorem State.timeStep_stepNow (s : State) (d : Int) : (s.timeStep d).rd TIME_CTRL_STEP_NOW = 0 :=
  (State.rd_raise _ 2 4 (by decide)).trans (State.rd_wr_same _ _ _ (by decide) (by decide))

/-! ### Host data, HPIN edges, pulses and the spoofing bar -/

/-- The low word of a host datum: held, or as the register has it. -/
def State.hrefLow (s : State) : Nat := assocGetD s.host.heldLo 0x20028 (s.rd TIME_HREF_LO_HREF)

/-- The host datum is measured against the edge captured at device time `tt`, within the tolerance `tol` (R124). -/
def State.hrefMeasured (s : State) (hi tt tol : Nat) : State :=
  (((s.free 3).2.wr TIME_HREF_LO_HREF s.hrefLow).wr TIME_HREF_HI_HREF hi).datumMeas 3
    ((tt : Int) - ((s.hrefLow + hi * 2 ^ 32 : Nat) : Int)) tol

theorem exec_timeHrefWrite_matched {tt e : Nat} (hp : s.host.halted = false) (hpin : s.time.hpin = some (tt, e))
    (hnew : s.clk.el ≤ e + 1000000000) (hi : Word) :
    exec (.timeHrefWrite hi) s = .next (s.hrefMeasured hi.toNat tt (s.free 3).1) := by
  simp only [exec, execTimeHrefWrite, State.powered_of_not_halted hp, hpin, if_pos hnew]
  rfl

theorem exec_timeHrefWrite_unmatched (hp : s.host.halted = false)
    (hold : ∀ tt e, s.time.hpin = some (tt, e) → e + 1000000000 < s.clk.el) (hi : Word) :
    exec (.timeHrefWrite hi) s = .next (s.inc TIME_DATUM_HREF_ERR 1) := by
  simp only [exec, execTimeHrefWrite, State.powered_of_not_halted hp]
  split
  · next tt e hpin =>
    rw [if_neg (Nat.not_le.mpr (hold tt e hpin))]
    rfl
  · rfl

theorem State.datumMeas_off {c : Nat} (h : c - 1 < s.time.srcs.length) (off : Int) (tol : Nat) :
    ((s.datumMeas c off tol).datum c).off = some off :=
  congrArg Datum.off (listAt_listMod_same s.time.srcs (c - 1) _ {} h)

theorem State.hrefMeasured_high (s : State) {hi : Nat} (h : hi < 2 ^ 32) (tt tol : Nat) :
    (s.hrefMeasured hi tt tol).rd TIME_HREF_HI_HREF = hi := by
  refine ((State.datumMeas_frame _ _ _ _).rd (by decide)).trans ?_
  exact (State.rd_wr_same _ _ _ (by decide) (by decide)).trans (Nat.mod_eq_of_lt h)

theorem exec_hpinEdge_used (hp : s.host.halted = false) (h : s.cv1 C_TIMEBASE_HPIN ≠ 0xFF) :
    exec .hpinEdge s = .next (s.timeM fun t => { t with hpin := some (s.clk.now, s.clk.el) }) := by
  simp only [exec, execHpinEdge, State.powered_of_not_halted hp, if_neg h]
  rfl

/-- Generator `g` has the second, edge and end of pulse `p`. -/
def State.ppsSet (s : State) (g : Nat) (p : Pps) : State := s.timeM fun t => { t with pps := listSet t.pps g p }

theorem State.ppsSet_pps {g : Nat} (h : g < s.time.pps.length) (p : Pps) : listAt (s.ppsSet g p).time.pps g {} = p :=
  listAt_listSet_same h p {}

/-- The pulse that begins now in generator `g` of record `r` (R129, R130). -/
def State.ppsRisen (s : State) (g : Nat) (r : CfgRec) : State :=
  ((s.ppsSet g ⟨s.sec, some s.clk.el, some (s.clk.el + s.ppsWidth r)⟩).sendEdge (r.v C_PPS_PIN) s.clk.now).padRefresh

theorem State.ppsRisen_frame (s : State) (g : Nat) (r : CfgRec) : Frame 0x20001180080320000000401
    (s.ppsSet g ⟨s.sec, some s.clk.el, some (s.clk.el + s.ppsWidth r)⟩) (s.ppsRisen g r) :=
  (State.padRefresh_frame _).comp (by decide) ((State.sendEdge_frame _ _ _).mono (by decide))

theorem exec_ppsEdge_first {g : Fin 4} {r : CfgRec} (hp : s.host.halted = false)
    (hrec : s.crec C_PPS_INDEX g.val = some r) (hsec : (listAt s.time.pps g.val {}).sec ≠ s.sec)
    (hrise : (listAt s.time.pps g.val {}).rise = none) :
    exec (.ppsEdge g) s = .next ((s.ppsRisen g.val r).raise 2 g.val) := by
  simp only [exec, execPpsEdge, State.powered_of_not_halted hp, hrec, hrise, hsec, decide_false]
  rfl

theorem exec_ppsPulseEnd_due {g : Fin 4} {e : Nat} (hp : s.host.halted = false)
    (hfall : (listAt s.time.pps g.val {}).fall = some e) (hdue : e ≤ s.clk.el) :
    exec (.ppsPulseEnd g) s =
      .next (s.ppsSet g.val { listAt s.time.pps g.val {} with fall := none }).padRefresh := by
  simp only [exec, execPpsPulseEnd, State.powered_of_not_halted hp, hfall, if_pos hdue]
  rfl

/-- A generator whose pulse runs is one of the list. -/
theorem State.pps_lt_of_fall {g e : Nat} (h : (listAt s.time.pps g {}).fall = some e) : g < s.time.pps.length := by
  by_contra hge
  rw [listAt_of_le (Nat.not_lt.mp hge)] at h
  cases h

theorem exec_spoofHoldEnd_due (hp : s.host.halted = false) (h1 : s.rd TIME_DATUM_SPOOF = 1)
    (hdue : s.time.spoofUntil ≤ s.clk.el) :
    exec .spoofHoldEnd s = .next ((s.wr TIME_DATUM_SPOOF 0).timeM fun t => { t with
      srcs := listMod t.srcs 0 fun d => { d with usable := false, since := none } }) := by
  simp only [exec, execSpoofHoldEnd, State.powered_of_not_halted hp, h1, hdue, decide_true, Bool.and_true]
  rfl

end TimeBase

/-- Settles O7: each clause is the lemma on that command; the units that follow a step or an edge leave the time base. -/
theorem timeCommandsComplete : Obligations.TimeCommandsComplete := by
  unfold Obligations.TimeCommandsComplete
  refine ⟨fun s hp hsec hsb hforce hst => ?_, fun d s hp hd hsec => ⟨_, exec_step_due hp hd hsec, ?_⟩,
    fun hi tt e s hp hpin hnew hlen => ⟨_, exec_timeHrefWrite_matched hp hpin hnew hi, s.hrefMeasured_high hi.isLt tt _, ?_⟩,
    fun hi s hp hold => ⟨_, exec_timeHrefWrite_unmatched hp hold hi, s.rd_inc_same _ 1 (by decide) (by decide), rfl⟩,
    fun s hp h => ⟨_, exec_hpinEdge_used hp h, rfl, rfl⟩,
    fun g r s hp hrec hsec hrise hlen => ⟨_, exec_ppsEdge_first hp hrec hsec hrise, ?_⟩,
    fun g e s hp hfall hdue => ⟨_, exec_ppsPulseEnd_due hp hfall hdue, ?_⟩,
    fun s hp h1 hdue => ⟨_, exec_spoofHoldEnd_due hp h1 hdue, State.rd_wr_same s _ _ (by decide) (by decide), rfl⟩⟩
  · obtain ⟨c, hexec⟩ := exec_servoUpdate_forced hp hsec hsb hforce hst
    have htime : (s.servoBegun.heldOver.wr TIME_DATUM_CANDIDATE c).time = s.servoBegun.holdBegun.time :=
      s.servoBegun.heldOver_time
    refine ⟨_, hexec, ?_, ?_, ?_, congrArg TimeUnit.servoSec htime, congrArg TimeUnit.holdAt htime,
      congrArg TimeUnit.uEntry htime⟩
    all_goals refine (State.rd_wr_apart _ _ (by decide)).trans ?_
    · exact State.heldOver_state _
    · exact State.heldOver_active _
    · exact (State.heldOver_rd _ (by decide) (by decide) (by decide)).trans (State.holdBegun_slewing _)
  · have hf := s.stepAll_frame_timeStep d
    have hclk : (s.stepAll d).clk = (s.timeStep d).clk := hf.1 .clk (by decide)
    have htime : (s.stepAll d).time = (s.timeStep d).time := hf.1 .time (by decide)
    rw [hclk, htime, hf.rd (by decide), State.timeStep_clk]
    exact ⟨rfl, rfl, s.timeStep_step d, s.timeStep_stepNow d⟩
  · exact State.datumMeas_off (hlen.symm ▸ (by decide : 3 - 1 < 3)) _ _
  · have hf := s.ppsRisen_frame g.val r
    have htime : ((s.ppsRisen g.val r).raise 2 g.val).time = (s.ppsSet g.val _).time :=
      ((State.raise_frame _ 2 g.val).1 .time (by decide)).trans (hf.1 .time (by decide))
    have hon : (s.ppsRisen g.val r).host.halted = false := (hf.1 .hostHalted (by decide)).trans hp
    rw [htime]
    exact ⟨State.ppsSet_pps (hlen.symm ▸ g.isLt) _, State.raise_bit _ _ _ (State.winPresent_time _) hon (by omega)⟩
  · have htime := (State.padRefresh_frame (s.ppsSet g.val { listAt s.time.pps g.val {} with fall := none })).1 .time
      (by decide)
    have hpps := State.ppsSet_pps (State.pps_lt_of_fall hfall) { listAt s.time.pps g.val {} with fall := none }
    simp only [Part.same] at htime
    rw [htime, hpps]
    exact ⟨rfl, rfl⟩

end Sys2Proof.Machine

namespace Sys2Proof.Machine

open Sys2Proof

/-! ## Satellite navigation (R131, R136 to R146) -/

section GnssTracking

variable {s : State}

/-! ### What the recurring tasks go by -/

/-- The bin of the search, the time of the last jamming indicator and the last tracking epoch. -/
def State.gnsPace (s : State) : Nat × Nat × Nat := (s.gns.acqBin, s.gns.jamAt, s.gns.epochMs)

theorem Frame.gnsPace {m : Nat} {s t : State} (h : Frame m s t) (hm : m.testBit Part.gns.ix = false) :
    t.gnsPace = s.gnsPace := by
  have hgns : t.gns = s.gns := h.1 .gns hm
  rw [State.gnsPace, State.gnsPace, hgns]

theorem foldl_keeps {α β : Type} {f : State → α → State} {g : State → β} (k : ∀ u x, g (f u x) = g u) (l : List α)
    (s : State) : g (l.foldl f s) = g s := by
  induction l generalizing s with
  | nil => rfl
  | cons x l ih => exact (ih (f s x)).trans (k s x)

theorem State.chanAssign_pace (s : State) (c : Nat) (k : GnsCand) : (s.chanAssign c k).gnsPace = s.gnsPace := rfl

theorem State.gnsCounts_pace (s : State) : s.gnsCounts.gnsPace = s.gnsPace := rfl

theorem State.chanDrop_pace (s : State) (c : Nat) : (s.chanDrop c).gnsPace = s.gnsPace := by
  unfold State.chanDrop
  dsimp only
  split <;> rfl

theorem State.chanEpoch_pace (s : State) (o : ChanObs) : (s.chanEpoch o).gnsPace = s.gnsPace := by
  unfold State.chanEpoch
  dsimp only
  split
  · rfl
  · split <;> rfl

theorem State.tone_pace (s : State) (b k level : Nat) : (s.tone b k level).gnsPace = s.gnsPace := by
  unfold State.tone
  extract_lets f l s1
  have hnoted : s1.gnsPace = s.gnsPace := by
    dsimp only [s1]
    split <;> rfl
  split <;> exact hnoted

theorem State.confirmed_pace (s : State) (k : GnsCand) : (s.confirmed k).gnsPace = s.gnsPace := by
  unfold State.confirmed
  dsimp only
  split
  · rfl
  · split
    · rfl
    · exact (State.raiseIf_frame _ _ _ _).gnsPace (by decide)

/-! ### Acquisition (R136, R137) -/

/-- A hypothesis above the threshold that is confirmed, selected and not barred becomes a signal. -/
def State.hypoTaken (s : State) (h : Hypo) : State :=
  if h.confirmed && (ofB32 (s.cv1 C_TRACK_ACQ_THR)).lt (ofB32 h.power) && s.signalOn h.signal &&
      !s.gnsBarred h.signal h.svid then
    s.confirmed ⟨h.signal, h.system, h.svid, h.cn0, h.elev, s.clk.el⟩
  else s

theorem State.hypoTaken_pace (s : State) (h : Hypo) : (s.hypoTaken h).gnsPace = s.gnsPace := by
  unfold State.hypoTaken
  split
  · exact State.confirmed_pace _ _
  · rfl

theorem exec_acquisitionPass_live (hp : s.host.halted = false) (hl : s.gnsLive = true) (l : List Hypo) :
    exec (.acquisitionPass l) s = .next ((l.foldl State.hypoTaken s).gnsM fun g => { g with
      acqBin := (g.acqBin + 1) % s.acqBins }) := by
  simp only [exec, execAcquisitionPass, State.powered_of_not_halted hp, hl, if_true]
  rfl

theorem State.confirmed_of_free {k : GnsCand} {c : Nat} (hnew : (List.range 96).any (fun d => !s.chanFree d &&
    s.rdi GNS_CH_SIGNAL d == k.signal && s.rdi GNS_CH_SVID d == k.svid) = false)
    (hfree : (List.range 96).find? (fun d => s.chanFree d) = some c) : s.confirmed k = (s.chanAssign c k).gnsCounts := by
  simp only [State.confirmed, hnew, hfree, Bool.false_eq_true, if_false]

/-- The counts of channels and candidates touch no channel register. -/
theorem State.gnsCounts_rdi (s : State) {f : Fld} (ht : GNS_STAT_TRACKED.apart f = true)
    (hw : GNS_STAT_WAITING.apart f = true) (i : Nat) : s.gnsCounts.rdi f i = s.rdi f i :=
  (State.rdij_wrij_apart _ _ _ _ _ _ _ _ hw).trans (State.rdij_wrij_apart _ _ _ _ _ _ _ _ ht)

theorem State.gnsM_rdij (s : State) (g : GnsUnit → GnsUnit) (f : Fld) (i j : Nat) :
    (s.gnsM g).rdij f i j = s.rdij f i j :=
  State.rdij_congr (show (s.gnsM g).regs = s.regs from rfl) f i j

/-- The register of a channel that is handed to a signal. -/
theorem State.chanAssign_channel (s : State) (c : Nat) (k : GnsCand) :
    (s.chanAssign c k).rdi GNS_CH_STATE c = 1 ∧ (s.chanAssign c k).rdi GNS_CH_SIGNAL c = k.signal % 8 ∧
      (s.chanAssign c k).rdi GNS_CH_SVID c = k.svid % 256 ∧ (s.chanAssign c k).rdi GNS_CH_SPOOF c = 0 := by
  have hclear : (s.setReg (GNS_CH_STATE.addr c 0) 0).rdij GNS_CH_SPOOF c 0 = 0 :=
    congrArg (bitsOf · 29 29) (State.reg_setReg_same s (GNS_CH_STATE.addr c 0) 0)
  refine ⟨?_, ?_, ?_, ?_⟩
  all_goals simp (disch := decide) only [State.chanAssign, State.rdi, State.wri, State.gnsM_rdij, State.rdij_wrij_apart]
  · exact State.rdij_wrij_same _ _ _ _ _ (by decide) (by decide)
  · exact State.rdij_wrij_same _ _ _ _ _ (by decide) (by decide)
  · exact State.rdij_wrij_same _ _ _ _ _ (by decide) (by decide)
  · exact hclear

theorem exec_acquisitionPass_confirmed {h : Hypo} {c : Nat} (hp : s.host.halted = false) (hl : s.gnsLive = true)
    (hc : h.confirmed = true) (hthr : (ofB32 (s.cv1 C_TRACK_ACQ_THR)).lt (ofB32 h.power) = true)
    (hon : s.signalOn h.signal = true) (hbar : s.gnsBarred h.signal h.svid = false)
    (hnew : (List.range 96).any (fun d => !s.chanFree d && s.rdi GNS_CH_SIGNAL d == h.signal &&
      s.rdi GNS_CH_SVID d == h.svid) = false)
    (hfree : (List.range 96).find? (fun d => s.chanFree d) = some c) :
    exec (.acquisitionPass [h]) s =
      .next ((s.chanAssign c ⟨h.signal, h.system, h.svid, h.cn0, h.elev, s.clk.el⟩).gnsCounts.gnsM fun g => { g with
        acqBin := (g.acqBin + 1) % s.acqBins }) := by
  have htaken : s.hypoTaken h = (s.chanAssign c ⟨h.signal, h.system, h.svid, h.cn0, h.elev, s.clk.el⟩).gnsCounts := by
    simp only [State.hypoTaken, hc, hthr, hon, hbar, Bool.not_false, Bool.and_self, if_true]
    exact State.confirmed_of_free hnew hfree
  rw [exec_acquisitionPass_live hp hl, List.foldl_cons, List.foldl_nil, htaken]

/-! ### Candidates, bars, suspicions and notches (R141, R142, R145, R146) -/

theorem exec_candidateExpiry (hp : s.host.halted = false) : exec .candidateExpiry s =
    .next (s.gnsM fun g => { g with
      cands := g.cands.filter fun k => decide (s.clk.el < k.seen + 10000000000) }).gnsCounts := by
  simp only [exec, execCandidateExpiry, State.powered_of_not_halted hp]
  rfl

theorem exec_reacquisitionBarEnd (hp : s.host.halted = false) : exec .reacquisitionBarEnd s =
    .next (s.gnsM fun g => { g with bars := g.bars.filter fun b => decide (s.clk.el < b.2.2) }) := by
  simp only [exec, execReacquisitionBarEnd, State.powered_of_not_halted hp]
  rfl

theorem exec_spoofSuspectClear_due {c : Fin 96} (hp : s.host.halted = false) (h1 : s.rdi GNS_CH_SPOOF c.val = 1)
    (hdue : (listAt s.gns.chans c.val {}).suspectAt + 60000000000 ≤ s.clk.el) :
    exec (.spoofSuspectClear c) s = .next (s.wri GNS_CH_SPOOF c.val 0) := by
  simp only [exec, execSpoofSuspectClear, State.powered_of_not_halted hp, h1, hdue, decide_true, Bool.and_true]
  rfl

theorem exec_notchRelease_quiet {b : Fin 2} {k : Fin 4} (hp : s.host.halted = false)
    (h : listAt s.gns.notchAt (4 * b.val + k.val) 0 + 1000000000 ≤ s.clk.el) :
    exec (.notchRelease b k) s = .next (s.notchSet b.val k.val false) := by
  simp only [exec, execNotchRelease, State.powered_of_not_halted hp, if_pos h]
  rfl

/-- The notches of band `b`. -/
def notchField (b : Nat) : Fld := if b = 0 then GNS_NOTCH_A else GNS_NOTCH_B

theorem notchField_cases (b : Nat) : notchField b = GNS_NOTCH_A ∨ notchField b = GNS_NOTCH_B := by
  unfold notchField
  split
  · exact .inl rfl
  · exact .inr rfl

/-- The status of a notch is what was set. -/
theorem State.notchSet_bit (s : State) (b : Nat) {k : Nat} (hk : k < 4) (on : Bool) :
    bitAt ((s.notchSet b k on).rd (notchField b)) k = on := by
  have hnotch : ∀ f : Fld, f = GNS_NOTCH_A ∨ f = GNS_NOTCH_B → ∀ n : Nat,
      bitAt (((s.wr f (setBit (s.rd f) k on)).wr (if b = 0 then GNS_STAT_NOTCH_A else GNS_STAT_NOTCH_B) n).rd f) k = on := by
    intro f hf n
    have hwidth : f.lo ≤ f.hi ∧ f.hi < 32 ∧ f.hi + 1 - f.lo = 4 := by rcases hf with rfl | rfl <;> decide
    obtain ⟨hlo, hhi, h4⟩ := hwidth
    have hlt : setBit (s.rd f) k on < 2 ^ (f.hi + 1 - f.lo) := setBit_lt _ on (h4.symm ▸ hk) (s.rdij_lt f 0 0)
    have hapart : (if b = 0 then GNS_STAT_NOTCH_A else GNS_STAT_NOTCH_B).apart f = true := by
      rcases hf with rfl | rfl <;> split <;> decide
    rw [State.rd_wr_apart _ _ hapart, State.rd_wr_same _ _ _ hlo hhi, Nat.mod_eq_of_lt hlt, bitAt_setBit_same]
  exact hnotch (notchField b) (notchField_cases b) _

/-! ### The tracking epoch (R131, R139 to R142) -/

/-- The epoch of this millisecond begins: the gain of each port is taken. -/
def State.epochBegun (s : State) : State :=
  (List.range 2).foldl (fun t b =>
    if t.has C_GPORT_PORT b && t.cv C_GPORT_AGC_PIN b != 0xFF then
      (t.free 4).2.gnsM fun g => { g with agc := listSet g.agc b (t.free 4).1 }
    else t) (s.gnsM fun g => { g with epochMs := s.clk.now / 1000000 })

/-- Channels are tracked or freed, and decoded messages stored. -/
def State.epochTracked (s : State) (o : EpochObs) : State :=
  o.nav.foldl State.navStore
    ((List.range 96).foldl (fun t c => if t.chanTimedOut c then t.chanDrop c else t) (o.chans.foldl State.chanEpoch s))

/-- A decoded UTC set goes into TIME_UTC. -/
def State.utcTaken (s : State) : Option (Nat × Nat) → State
  | some (x, y) => ((s.wr TIME_UTC_OFFSET x).wr TIME_UTC_LEAP y).wr TIME_UTC_VALID 1
  | none => s

/-- The notches follow the tones, or stay open while they are not enabled. -/
def State.tonesTaken (s : State) (l : List (Nat × Nat × Nat)) : State :=
  if s.cv1 C_TRACK_NOTCH_EN = 1 then
    l.foldl (fun t n => if n.1 < 2 && n.2.1 < 4 then t.tone n.1 n.2.1 n.2.2 else t) s
  else (((s.wr GNS_NOTCH_A 0).wr GNS_NOTCH_B 0).wr GNS_STAT_NOTCH_A 0).wr GNS_STAT_NOTCH_B 0

theorem exec_trackingEpoch_new (hp : s.host.halted = false) (hl : s.gnsLive = true)
    (hms : s.gns.epochMs ≠ s.clk.now / 1000000) (o : EpochObs) : exec (.trackingEpoch o) s =
      .next (((s.epochBegun.epochTracked o).utcTaken o.utc).tonesTaken o.tones).gnsCounts := by
  have hgo : (!s.gnsLive || s.gns.epochMs == s.clk.now / 1000000) = false := by simp [hl, hms]
  simp only [exec, execTrackingEpoch, State.powered_of_not_halted hp, hgo, Bool.false_eq_true, if_false]
  rfl

theorem State.epochBegun_epochMs (s : State) : s.epochBegun.gns.epochMs = s.clk.now / 1000000 := by
  refine foldl_keeps (g := fun u : State => u.gns.epochMs) (fun u b => ?_) _ _
  split <;> rfl

theorem State.epochTracked_pace (s : State) (o : EpochObs) : (s.epochTracked o).gnsPace = s.gnsPace := by
  have hfreed : ∀ (u : State) (c : Nat), (if u.chanTimedOut c then u.chanDrop c else u).gnsPace = u.gnsPace := by
    intro u c
    split
    · exact u.chanDrop_pace c
    · rfl
  calc (s.epochTracked o).gnsPace
      = ((List.range 96).foldl (fun t c => if t.chanTimedOut c then t.chanDrop c else t)
          (o.chans.foldl State.chanEpoch s)).gnsPace :=
        foldl_keeps (fun u m => (u.navStore_frame m).gnsPace (by decide)) _ _
    _ = (o.chans.foldl State.chanEpoch s).gnsPace := foldl_keeps hfreed _ _
    _ = s.gnsPace := foldl_keeps State.chanEpoch_pace _ _

theorem State.utcTaken_pace (s : State) (u : Option (Nat × Nat)) : (s.utcTaken u).gnsPace = s.gnsPace := by
  cases u <;> rfl

theorem State.utcTaken_utc (s : State) (x y : Nat) : (s.utcTaken (some (x, y))).rd TIME_UTC_OFFSET = x % 256 ∧
    (s.utcTaken (some (x, y))).rd TIME_UTC_LEAP = y % 4 ∧ (s.utcTaken (some (x, y))).rd TIME_UTC_VALID = 1 := by
  refine ⟨?_, ?_, State.rd_wr_same _ _ _ (by decide) (by decide)⟩
  · refine (State.rd_wr_apart _ _ (by decide)).trans ((State.rd_wr_apart _ _ (by decide)).trans ?_)
    exact State.rd_wr_same _ _ _ (by decide) (by decide)
  · exact (State.rd_wr_apart _ _ (by decide)).trans (State.rd_wr_same _ _ _ (by decide) (by decide))

theorem State.tonesTaken_pace (s : State) (l : List (Nat × Nat × Nat)) : (s.tonesTaken l).gnsPace = s.gnsPace := by
  unfold State.tonesTaken
  split
  · refine foldl_keeps (fun u n => ?_) _ _
    split
    · exact u.tone_pace _ _ _
    · rfl
  · rfl

theorem State.tonesTaken_frame (s : State) (l : List (Nat × Nat × Nat)) :
    Frame 0x800000000004000000001 s (s.tonesTaken l) := by
  refine Frame.ite (Frame.foldl l (Frame.rfl _ s) fun u n => Frame.ite (u.tone_frame _ _ _) (Frame.rfl _ u)) ?_
  exact ((((Frame.rfl _ s).wr (by decide)).wr (by decide)).wr (by decide)).wr (by decide)

theorem State.epoch_epochMs (s : State) (o : EpochObs) :
    ((((s.epochBegun.epochTracked o).utcTaken o.utc).tonesTaken o.tones).gnsCounts).gns.epochMs =
      s.clk.now / 1000000 := by
  have hpace : ((((s.epochBegun.epochTracked o).utcTaken o.utc).tonesTaken o.tones).gnsCounts).gnsPace =
      s.epochBegun.gnsPace :=
    (State.tonesTaken_pace _ _).trans ((State.utcTaken_pace _ _).trans (State.epochTracked_pace _ o))
  exact (congrArg (fun p => p.2.2) hpace).trans s.epochBegun_epochMs

/-! ### The jamming indicator (R143) -/

/-- The indicator of a band that has a port. -/
def State.jamPort (l : List (Nat × Nat)) (s : State) (b : Nat) : State :=
  if s.has C_GPORT_PORT b then s.jamBand b (listAt l b (0, 0)).1 (listAt l b (0, 0)).2 else s

theorem exec_jammingIndicator_due (hp : s.host.halted = false) (hl : s.gnsLive = true)
    (hdue : s.gns.jamAt + 100000000 ≤ s.clk.el) (l : List (Nat × Nat)) : exec (.jammingIndicator l) s =
      .next ((List.range (min 2 l.length)).foldl (State.jamPort l) (s.gnsM fun g => { g with jamAt := s.clk.el })) := by
  simp only [exec, execJammingIndicator, State.powered_of_not_halted hp, hl, hdue, decide_true, Bool.and_self, if_true]
  rfl

/-- The indicator of a band leaves the recurring tasks and the count of channels. -/
theorem State.jamBand_keeps (s : State) (b floor gain : Nat) : (s.jamBand b floor gain).gnsPace = s.gnsPace ∧
    (s.jamBand b floor gain).rd GNS_STAT_TRACKED = s.rd GNS_STAT_TRACKED := by
  unfold State.jamBand
  extract_lets learning s1 q ji f thr
  obtain ⟨hpace, hcount⟩ : s1.gnsPace = s.gnsPace ∧ s1.rd GNS_STAT_TRACKED = s.rd GNS_STAT_TRACKED := by
    dsimp only [s1]
    split <;> exact ⟨rfl, rfl⟩
  have hapart : f.apart GNS_STAT_TRACKED = true := by
    dsimp only [f]
    split <;> decide
  have hrd : (s1.wr f ji).rd GNS_STAT_TRACKED = s1.rd GNS_STAT_TRACKED := State.rd_wr_apart _ _ hapart
  exact ⟨((State.raiseIf_frame _ _ _ _).gnsPace (by decide)).trans hpace,
    ((State.raiseIf_frame _ _ _ _).rd (by decide)).trans (hrd.trans hcount)⟩

theorem State.jamPort_keeps (l : List (Nat × Nat)) (s : State) (b : Nat) : (s.jamPort l b).gnsPace = s.gnsPace ∧
    (s.jamPort l b).rd GNS_STAT_TRACKED = s.rd GNS_STAT_TRACKED := by
  unfold State.jamPort
  split
  · exact s.jamBand_keeps _ _ _
  · exact ⟨rfl, rfl⟩

end GnssTracking

/-- Settles O8: each clause is the lemma on that command; what the others' work keeps is read off. -/
theorem gnssTrackingCommandsComplete : Obligations.GnssTrackingCommandsComplete := by
  unfold Obligations.GnssTrackingCommandsComplete
  refine ⟨fun l s hp hl => ⟨_, exec_acquisitionPass_live hp hl l, ?_⟩,
    fun h c s hp hl hc hthr hon hbar hnew hfree =>
      ⟨_, exec_acquisitionPass_confirmed hp hl hc hthr hon hbar hnew hfree, ?_⟩,
    fun s hp => ⟨_, exec_candidateExpiry hp, rfl⟩,
    fun b k s hp h => ⟨_, exec_notchRelease_quiet hp h, s.notchSet_bit b.val k.isLt false⟩,
    fun o s hp hl hms => ⟨_, exec_trackingEpoch_new hp hl hms o, s.epoch_epochMs o, fun x y hutc => ?_⟩,
    fun l s hp hl hdue => ⟨_, exec_jammingIndicator_due hp hl hdue l, ?_, ?_⟩,
    fun c s hp h1 hdue => ⟨_, exec_spoofSuspectClear_due hp h1 hdue, ?_, ?_⟩,
    fun s hp => ⟨_, exec_reacquisitionBarEnd hp, rfl, rfl⟩⟩
  · have hpace := foldl_keeps State.hypoTaken_pace l s
    exact congrArg (fun p => (p.1 + 1) % s.acqBins) hpace
  · obtain ⟨hstate, hsignal, hsvid, hspoof⟩ :=
      s.chanAssign_channel c ⟨h.signal, h.system, h.svid, h.cn0, h.elev, s.clk.el⟩
    simp only [State.rdi, State.gnsM_rdij] at hstate hsignal hsvid hspoof ⊢
    exact ⟨(State.gnsCounts_rdi _ (by decide) (by decide) c).trans hstate,
      (State.gnsCounts_rdi _ (by decide) (by decide) c).trans hsignal,
      (State.gnsCounts_rdi _ (by decide) (by decide) c).trans hsvid,
      (State.gnsCounts_rdi _ (by decide) (by decide) c).trans hspoof⟩
  · obtain ⟨hoffset, hleap, hvalid⟩ := (s.epochBegun.epochTracked o).utcTaken_utc x y
    have hf := (State.gnsCounts_frame _).comp (by decide)
      (((s.epochBegun.epochTracked o).utcTaken (some (x, y))).tonesTaken_frame o.tones)
    rw [hutc, hf.rd (by decide), hf.rd (by decide), hf.rd (by decide)]
    exact ⟨hoffset, hleap, hvalid⟩
  · exact congrArg (fun p => p.2.1) (foldl_keeps (fun u b => (u.jamPort_keeps l b).1) _ _)
  · exact foldl_keeps (g := fun u : State => u.rd GNS_STAT_TRACKED) (fun u b => (u.jamPort_keeps l b).2) _ _
  · exact State.rdij_wrij_same _ _ _ _ _ (by decide) (by decide)
  · exact State.rdij_wrij_apart _ _ _ _ _ _ _ _ (by decide)

end Sys2Proof.Machine

/-! # Settled statements on the pixel ports and transits -/

namespace Sys2Proof.Machine

open Sys2Proof

/-! ## What changes a transit, a port or a field of theirs -/

section TransitRules

variable {α : Type} {s t : State}

/-- What a transit holds outside a frame's mask stays. -/
theorem Frame.trn {m : Nat} (h : Frame m s t) (hm : m.testBit Part.pix.ix = false) (n : Nat) : t.trn n = s.trn n := by
  have hpix : t.pix = s.pix := h.1 .pix hm
  rw [State.trn, State.trn, hpix]

theorem State.trn_trnM_same (s : State) {n : Nat} (f : Transit → Transit) (h : n < s.pix.trn.length) :
    (s.trnM n f).trn n = f (s.trn n) := listAt_listMod_same s.pix.trn n f {} h

theorem State.trn_trnM_of_le (s : State) {n : Nat} (f : Transit → Transit) (h : s.pix.trn.length ≤ n) :
    (s.trnM n f).trn n = {} := listAt_of_le ((length_listMod s.pix.trn n f).trans_le h) {}

/-- Part `g` of a transit after a change that leaves this part of an empty transit as it is, so that the transit need
not be known to exist. -/
theorem State.trnM_part (s : State) (n : Nat) (f : Transit → Transit) (g : Transit → α) (h : g (f {}) = g {}) :
    g ((s.trnM n f).trn n) = g (f (s.trn n)) := by
  rcases Nat.lt_or_ge n s.pix.trn.length with hn | hn
  · rw [State.trn_trnM_same s f hn]
  · rw [State.trn_trnM_of_le s f hn, State.trn, listAt_of_le hn, h]

theorem State.trnM_keeps (s : State) (n : Nat) {f : Transit → Transit} {g : Transit → α} (h : ∀ x, g (f x) = g x) :
    g ((s.trnM n f).trn n) = g (s.trn n) := (s.trnM_part n f g (h _)).trans (h _)

/-- A change of a transit writes its shown counts and no other field. -/
theorem State.rdij_trnM (s : State) (n : Nat) (f : Transit → Transit) {g : Fld} (ho : TRN_STAT_OPEN.apart g = true)
    (hq : TRN_STAT_TRGQ.apart g = true) (i j : Nat) : (s.trnM n f).rdij g i j = s.rdij g i j :=
  (State.rdij_wrij_apart _ _ _ _ _ _ _ _ hq).trans (State.rdij_wrij_apart _ _ _ _ _ _ _ _ ho)

theorem State.trnOn_trnM (s : State) (n : Nat) (f : Transit → Transit) (k : Nat) : (s.trnM n f).trnOn k = s.trnOn k := by
  have hen : (s.trnM n f).rdi TRN_CTRL_EN k = s.rdi TRN_CTRL_EN k := s.rdij_trnM n f (by decide) (by decide) k 0
  have hmark : (s.trnM n f).rd MEM_REGION_INIT = s.rd MEM_REGION_INIT := s.rdij_trnM n f (by decide) (by decide) 0 0
  rw [State.trnOn, State.trnOn, State.marked, State.marked, hen, hmark]
  rfl

theorem State.trn_wri (s : State) (f : Fld) (i v n : Nat) : (s.wri f i v).trn n = s.trn n := rfl

/-- A transit with an edge time on its way exists. -/
theorem State.trn_lt_of_edgeIn {n : Nat} {e : Nat × Int} {l : List (Nat × Int)} (h : (s.trn n).edgeIn = e :: l) :
    n < s.pix.trn.length := by
  by_contra hn
  rw [State.trn, listAt_of_le (Nat.le_of_not_lt hn)] at h
  exact List.cons_ne_nil _ _ h.symm

/-! ### Losses and trigger faults (R194) -/

/-- A counter that grows by `k`, with event `e` of window `w` when it grows at all. -/
def State.countUp (s : State) (f : Fld) (i k w e : Nat) : State := if k = 0 then s else (s.inci f i k).raise w e

theorem State.trnLoss_eq_countUp (s : State) (f : Fld) (n k : Nat) : s.trnLoss f n k = s.countUp f n k 15 n := rfl

theorem State.trnTrg_eq_countUp (s : State) (f : Fld) (n k : Nat) : s.trnTrg f n k = s.countUp f n k 15 (8 + n) := rfl

theorem State.trn_countUp (s : State) (f : Fld) (i k w e n : Nat) : (s.countUp f i k w e).trn n = s.trn n := by
  unfold State.countUp
  split
  · rfl
  · exact (State.raise_frame (s.inci f i k) w e).trn (by decide) n

/-- The counter saturates at its width, and stays for 0. -/
theorem State.rdi_countUp_same (s : State) {f : Fld} (i k w e : Nat) (h : f.lo ≤ f.hi) (h32 : f.hi < 32)
    (ho : f.outside 0x20000000080000000000401 = true) :
    (s.countUp f i k w e).rdi f i = min (s.rdi f i + k) (2 ^ (f.hi + 1 - f.lo) - 1) := by
  unfold State.countUp
  split
  · next hk =>
    have hlt : s.rdi f i < 2 ^ (f.hi + 1 - f.lo) := s.rdij_lt f i 0
    omega
  · exact (State.rdij_raise _ _ _ _ _ _ ho).trans (s.rdi_inci_same f i k h h32)

theorem State.rdij_countUp (s : State) {f g : Fld} (i k w e : Nat) (h : f.apart g = true)
    (ho : g.outside 0x20000000080000000000401 = true) (a b : Nat) : (s.countUp f i k w e).rdij g a b = s.rdij g a b := by
  unfold State.countUp
  split
  · rfl
  · exact (State.rdij_raise _ _ _ _ _ _ ho).trans (State.rdij_wrij_apart _ _ _ _ _ _ _ _ h)

theorem State.trn_trnLoss (s : State) (f : Fld) (n k i : Nat) : (s.trnLoss f n k).trn i = s.trn i :=
  s.trn_countUp f n k 15 n i

theorem State.trn_trnTrg (s : State) (f : Fld) (n k i : Nat) : (s.trnTrg f n k).trn i = s.trn i :=
  s.trn_countUp f n k 15 (8 + n) i

end TransitRules

/-! ## Frame Starts, Frame Ends and the edge-time queue (R166, R170, R171) -/

section Alignment

variable {α : Type} {s : State} {n : Fin 8}

theorem Transit.dropLine_inq (x : Transit) : x.dropLine.inq = x.inq := by
  unfold Transit.dropLine
  dsimp only
  split <;> rfl

theorem Transit.dropLine_edges (x : Transit) : x.dropLine.edges = x.edges := by
  unfold Transit.dropLine
  dsimp only
  split <;> rfl

theorem State.popItem_inq {i : PixItem} {l : List PixItem} {k : Nat} (h : (s.trn k).inq = i :: l) :
    ((s.popItem k).trn k).inq = l := by
  refine (s.trnM_part k _ Transit.inq rfl).trans ?_
  rw [h]
  rfl

theorem State.popItem_edges (s : State) (k : Nat) : ((s.popItem k).trn k).edges = (s.trn k).edges :=
  s.trnM_keeps k (g := Transit.edges) fun _ => rfl

/-- A dropped scan line leaves what `Transit.dropLine` leaves. -/
theorem State.bandErr_keeps (s : State) (k : Nat) {g : Transit → α} (h : ∀ x, g x.dropLine = g x) :
    g ((s.bandErr k).trn k) = g (s.trn k) := by
  unfold State.bandErr
  dsimp only
  split
  · rfl
  · rw [State.trn_trnLoss]
    exact s.trnM_keeps k h

theorem State.bandErr_slip (s : State) (k : Nat) : (s.bandErr k).rdi TRN_TRG_SLIP k = s.rdi TRN_TRG_SLIP k := by
  unfold State.bandErr
  dsimp only
  split
  · rfl
  · exact (State.rdij_countUp _ _ _ _ _ (by decide) (by decide) _ _).trans (s.rdij_trnM k _ (by decide) (by decide) k 0)

/-- The edge times that a Frame Start discards. -/
def State.slipOf (s : State) (k : Nat) : Nat := (s.trn k).edges.length - s.cv C_STREAM_TRG_LAG k

/-- A transit at a Frame Start: no scan line in progress, and the edge-time queue trimmed. -/
def Transit.realigned (slip : Nat) (x : Transit) : Transit :=
  ({ x with pos := 0, started := false, doomed := false, edges := x.edges.drop slip } : Transit).settled

/-- The state after the Frame Start at the head of an enabled transit's input. -/
def State.frameStarted (s : State) (k : Nat) : State :=
  ((((s.popItem k).bandErr k).trnM k (Transit.realigned (s.slipOf k))).wri TRN_STAT_ALIGNED k 1).trnTrg TRN_TRG_SLIP k
    (s.slipOf k)

theorem State.bandErr_popItem_edges (s : State) (k : Nat) :
    (((s.popItem k).bandErr k).trn k).edges = (s.trn k).edges :=
  ((s.popItem k).bandErr_keeps k Transit.dropLine_edges).trans (s.popItem_edges k)

theorem exec_frameStart_on {l : List PixItem} (hp : s.host.halted = false) (h : (s.trn n.val).inq = .frameStart :: l)
    (hon : s.trnOn n.val = true) : exec (.frameStart n) s = .next (s.frameStarted n.val) := by
  have hpop : (s.popItem n.val).trnOn n.val = true := (s.trnOn_trnM n.val _ n.val).trans hon
  simp only [exec, execFrameStart, State.powered_of_not_halted hp, h, hpop, Bool.not_true, Bool.false_eq_true, if_false,
    State.bandErr_popItem_edges]
  rfl

/-- A part of the transit that realignment changes in itself alone. -/
theorem State.frameStarted_part (s : State) (k : Nat) (g : Transit → α) (h : g (Transit.realigned (s.slipOf k) {}) = g {}) :
    g ((s.frameStarted k).trn k) = g (Transit.realigned (s.slipOf k) (((s.popItem k).bandErr k).trn k)) := by
  rw [State.frameStarted, State.trn_trnTrg, State.trn_wri]
  exact State.trnM_part _ k _ g h

theorem State.frameStarted_edges (s : State) (k : Nat) :
    ((s.frameStarted k).trn k).edges = (s.trn k).edges.drop (s.slipOf k) :=
  (s.frameStarted_part k Transit.edges List.drop_nil).trans
    (congrArg (List.drop (s.slipOf k)) (s.bandErr_popItem_edges k))

theorem State.frameStarted_inq {l : List PixItem} {k : Nat} (h : (s.trn k).inq = .frameStart :: l) :
    ((s.frameStarted k).trn k).inq = l :=
  calc ((s.frameStarted k).trn k).inq
      = (((s.popItem k).bandErr k).trn k).inq := s.frameStarted_part k Transit.inq rfl
    _ = ((s.popItem k).trn k).inq := (s.popItem k).bandErr_keeps k Transit.dropLine_inq
    _ = l := State.popItem_inq h

theorem State.frameStarted_pos (s : State) (k : Nat) : ((s.frameStarted k).trn k).pos = 0 :=
  s.frameStarted_part k Transit.pos rfl

theorem State.frameStarted_aligned (s : State) (k : Nat) : (s.frameStarted k).rdi TRN_STAT_ALIGNED k = 1 :=
  (State.rdij_countUp _ _ _ _ _ (by decide) (by decide) _ _).trans
    (State.rdij_wrij_same _ _ _ _ _ (by decide) (by decide))

theorem State.frameStarted_slip (s : State) (k : Nat) :
    (s.frameStarted k).rdi TRN_TRG_SLIP k = min (s.rdi TRN_TRG_SLIP k + s.slipOf k) 0xFFF := by
  have hslip : ((((s.popItem k).bandErr k).trnM k (Transit.realigned (s.slipOf k))).wri TRN_STAT_ALIGNED k 1).rdi
      TRN_TRG_SLIP k = s.rdi TRN_TRG_SLIP k :=
    calc _ = (((s.popItem k).bandErr k).trnM k (Transit.realigned (s.slipOf k))).rdi TRN_TRG_SLIP k :=
          State.rdij_wrij_apart _ _ _ _ _ _ _ _ (by decide)
      _ = ((s.popItem k).bandErr k).rdi TRN_TRG_SLIP k := State.rdij_trnM _ _ _ (by decide) (by decide) _ _
      _ = (s.popItem k).rdi TRN_TRG_SLIP k := State.bandErr_slip _ _
      _ = s.rdi TRN_TRG_SLIP k := State.rdij_trnM _ _ _ (by decide) (by decide) _ _
  rw [State.frameStarted, State.trnTrg_eq_countUp,
    State.rdi_countUp_same _ _ _ _ _ (by decide) (by decide) (by decide), hslip]
  rfl

/-- The state after the Frame End at the head of a transit's input. -/
def State.frameEnded (s : State) (k : Nat) : State :=
  if (s.popItem k).trnOn k && (s.popItem k).rdi TRN_STAT_ALIGNED k == 1 then (s.popItem k).bandErr k else s.popItem k

theorem exec_frameEnd_head {l : List PixItem} (hp : s.host.halted = false) (h : (s.trn n.val).inq = .frameEnd :: l) :
    exec (.frameEnd n) s = .next (s.frameEnded n.val) := by
  simp only [exec, execFrameEnd, State.powered_of_not_halted hp, h, State.frameEnded]
  split <;> rfl

theorem State.frameEnded_inq {l : List PixItem} {k : Nat} (h : (s.trn k).inq = .frameEnd :: l) :
    ((s.frameEnded k).trn k).inq = l := by
  have hpop : ((s.popItem k).trn k).inq = l := State.popItem_inq h
  unfold State.frameEnded
  split
  · exact ((s.popItem k).bandErr_keeps k Transit.dropLine_inq).trans hpop
  · exact hpop

theorem State.resync_edges (s : State) (k : Nat) : ((s.resync k).trn k).edges = [] :=
  s.trnM_part k _ Transit.edges rfl

theorem State.resync_keeps (s : State) (k : Nat) {g : Transit → α} (h : ∀ x, g { x with edges := [] } = g x) :
    g ((s.resync k).trn k) = g (s.trn k) := s.trnM_keeps k h

theorem exec_resync_present (hp : s.host.halted = false) (hw : s.winPresent 15 = true) :
    exec (.resync n) s = .next (s.resync n.val) := by
  simp only [exec, execResync, State.powered_of_not_halted hp, hw, if_true]
  rfl

/-- A transit that takes the edge time `e`, with `l` left on the way; a full queue discards its oldest. -/
def Transit.edgeTaken (e : Nat × Int) (l : List (Nat × Int)) (x : Transit) : Transit :=
  { x with edgeIn := l, edges := (if 16 ≤ x.edges.length then x.edges.drop 1 else x.edges) ++ [e] }

theorem exec_edgeTime_head {e : Nat × Int} {l : List (Nat × Int)} (hp : s.host.halted = false)
    (h : (s.trn n.val).edgeIn = e :: l) : ∃ t : State, exec (.edgeTime n) s = .next t ∧
      t.trn n.val = Transit.edgeTaken e l (s.trn n.val) := by
  simp only [exec, execEdgeTime, State.powered_of_not_halted hp, h]
  refine ⟨_, rfl, ?_⟩
  rw [State.trn_trnTrg, State.trn_trnM_same s _ (State.trn_lt_of_edgeIn h)]
  simp only [Transit.edgeTaken, decide_eq_true_eq]

/-! ### TRN_CTRLn -/

theorem exec_transitEnWrite_present (hp : s.host.halted = false) (hw : s.winPresent 15 = true) (v : Word) :
    exec (.transitEnWrite n v) s = .next (s.trnCtrl n.val v.toNat) := by
  simp only [exec, execTransitEnWrite, State.powered_of_not_halted hp, hw, if_true]
  rfl

theorem State.trnStop_edges (s : State) (k : Nat) : ((s.trnStop k).trn k).edges = (s.trn k).edges := by
  rw [State.trnStop, State.trn_trnLoss, State.trn_wri]
  exact s.trnM_keeps k (g := Transit.edges) fun _ => rfl

theorem State.rdij_trnStop (s : State) (k : Nat) {g : Fld} (hl : TRN_LOSS_OBJDROP.apart g = true)
    (ha : TRN_STAT_ALIGNED.apart g = true) (ho : TRN_STAT_OPEN.apart g = true) (hq : TRN_STAT_TRGQ.apart g = true)
    (he : g.outside 0x20000000080000000000401 = true) (i j : Nat) : (s.trnStop k).rdij g i j = s.rdij g i j :=
  (State.rdij_countUp _ _ _ _ _ hl he i j).trans
    ((State.rdij_wrij_apart _ _ _ _ _ _ _ _ ha).trans (s.rdij_trnM k _ ho hq i j))

/-- A written value with RESYNC set empties the edge-time queue (R171). -/
theorem State.trnCtrl_edges (s : State) (k : Nat) {v : Nat} (h : bitAt v 31 = true) :
    ((s.trnCtrl k v).trn k).edges = [] := by
  simp only [State.trnCtrl, h, if_true]
  split
  · rw [State.trnStop_edges, State.trn_wri, State.trn_wri]
    exact s.resync_edges k
  · rw [State.trn_wri, State.trn_wri]
    exact s.resync_edges k

theorem State.trnCtrl_en (s : State) (k v : Nat) : (s.trnCtrl k v).rdi TRN_CTRL_EN k = v % 2 := by
  have hen : ∀ u : State, (u.wri TRN_CTRL_EN k (v % 2)).rdi TRN_CTRL_EN k = v % 2 := fun u =>
    (State.rdij_wrij_same u _ _ _ _ (by decide) (by decide)).trans (Nat.mod_mod v 2)
  unfold State.trnCtrl
  dsimp only
  split
  · exact (State.rdij_trnStop _ k (by decide) (by decide) (by decide) (by decide) (by decide) _ _).trans (hen _)
  · exact hen _

theorem State.trnCtrl_bank (s : State) (k v : Nat) : (s.trnCtrl k v).rdi TRN_CTRL_BANK k = bitsOf v 1 1 := by
  have hbank : ∀ u : State, ((u.wri TRN_CTRL_BANK k (bitsOf v 1 1)).wri TRN_CTRL_EN k (v % 2)).rdi TRN_CTRL_BANK k =
      bitsOf v 1 1 := fun u =>
    calc _ = (u.wri TRN_CTRL_BANK k (bitsOf v 1 1)).rdi TRN_CTRL_BANK k :=
          State.rdij_wrij_apart _ _ _ _ _ _ _ _ (by decide)
      _ = bitsOf v 1 1 % 2 := State.rdij_wrij_same u _ _ _ _ (by decide) (by decide)
      _ = bitsOf v 1 1 := Nat.mod_mod _ 2
  unfold State.trnCtrl
  dsimp only
  split
  · exact (State.rdij_trnStop _ k (by decide) (by decide) (by decide) (by decide) (by decide) _ _).trans (hbank _)
  · exact hbank _

end Alignment

/-- Settles O51: what a Frame Start leaves of the edge-time queue and adds to SLIP, and the two ways to empty it. -/
theorem frameStartTrimsTheEdgeQueue : Obligations.FrameStartTrimsTheEdgeQueue := by
  unfold Obligations.FrameStartTrimsTheEdgeQueue
  exact ⟨fun n l s hp _ h hon =>
      ⟨_, exec_frameStart_on hp h hon, s.frameStarted_edges n.val, s.frameStarted_slip n.val⟩,
    fun n v s hp hw _ hv => ⟨_, exec_transitEnWrite_present hp hw v, s.trnCtrl_edges n.val hv⟩,
    fun n s hp hw _ => ⟨_, exec_resync_present hp hw, s.resync_edges n.val⟩⟩

/-! ## Ports and packets (R162 to R165) -/

section Ports

variable {s : State} {n : Fin 2}

/-- The port's status after a packet on it. -/
def State.packetSeen (s : State) (k : Nat) (p : CsiPacket) : State :=
  (s.wri PIX_STAT_CLK_HS k (s.cv C_PORT_CLK_CONT k)).wri PIX_STAT_SKEW_DONE k
    (if p.skew then 1 else s.rdi PIX_STAT_SKEW_DONE k)

theorem State.rdij_packetSeen (s : State) (k : Nat) (p : CsiPacket) {g : Fld} (hc : PIX_STAT_CLK_HS.apart g = true)
    (hs : PIX_STAT_SKEW_DONE.apart g = true) (i j : Nat) : (s.packetSeen k p).rdij g i j = s.rdij g i j :=
  (State.rdij_wrij_apart _ _ _ _ _ _ _ _ hs).trans (State.rdij_wrij_apart _ _ _ _ _ _ _ _ hc)

theorem exec_packet_sot {p : CsiPacket} (hp : s.host.halted = false) (hw : s.winPresent 14 = true)
    (hen : s.rdi PIX_CTRL_EN n.val = 1) (hsot : p.sot = true) :
    exec (.packet n p) s = .next ((s.packetSeen n.val p).pixErr PIX_ERR_SOT n.val) := by
  simp only [exec, execPacket, State.powered_of_not_halted hp, hw, hen, hsot, Bool.not_true, Bool.false_or, if_true]
  rfl

theorem exec_packet_usable {p : CsiPacket} (hp : s.host.halted = false) (hw : s.winPresent 14 = true)
    (hen : s.rdi PIX_CTRL_EN n.val = 1) (hsot : p.sot = false) (hecc : p.ecc = 0) (hvcx : p.vcx = false) :
    exec (.packet n p) s = .next ((s.packetSeen n.val p).pixPacket n.val p) := by
  simp only [exec, execPacket, State.powered_of_not_halted hp, hw, hen, hsot, hecc, hvcx, Bool.not_true, Bool.false_or,
    Bool.false_eq_true, if_false]
  rfl

/-- A broken start of transmission is counted, saturating (R164). -/
theorem State.pixErr_sot (s : State) (k : Nat) :
    (s.pixErr PIX_ERR_SOT k).rdi PIX_ERR_SOT k = min (s.rdi PIX_ERR_SOT k + 1) 255 :=
  (State.rdij_raise _ _ _ _ _ _ (by decide)).trans (s.rdi_inci_same PIX_ERR_SOT k 1 (by decide) (by decide))

/-- A long packet that passes counts a line, and its samples go to the transit bound to its channel. -/
def State.linePassed (s : State) (k : Nat) (p : CsiPacket) (t : Nat) : State :=
  ((s.wrapi PIX_LINES_COUNT k 1).portM k fun q => { q with lastLong := s.clk.el, idled := false }).toTransit t
    (.band (unpackRaw p.dt p.payload))

theorem State.pixPacket_line {k : Nat} {p : CsiPacket} {r : CfgRec} (hb : s.boundTo k p.vc = some r)
    (hdt : p.dt = r.v C_STREAM_DT) (hlong : 0x10 ≤ p.dt) (hemb : p.dt ≠ 0x12) (hcrc : p.crcOk = true) :
    s.pixPacket k p = s.linePassed k p (r.v C_STREAM_TRANSIT) := by
  have h0 : p.dt ≠ 0 := by omega
  have h1 : p.dt ≠ 1 := by omega
  have hdata : (decide (p.dt < 0x10) || decide (p.dt = 0x12)) = false := by
    rw [decide_eq_false (Nat.not_lt.mpr hlong), decide_eq_false hemb, Bool.false_or]
  simp only [State.pixPacket, if_neg h0, hb, if_neg h1, hdata, Bool.false_eq_true, if_false, if_pos hdt, hcrc, if_true]
  rfl

theorem State.toTransit_inq (s : State) {t : Nat} (i : PixItem) (h : t < s.pix.trn.length) :
    ((s.toTransit t i).trn t).inq = (s.trn t).inq ++ [i] := congrArg Transit.inq (s.trn_trnM_same _ h)

theorem State.trn_wrapi (s : State) (f : Fld) (i m n : Nat) : (s.wrapi f i m).trn n = s.trn n := rfl

theorem State.trn_portM (s : State) (k : Nat) (f : PixPort → PixPort) (n : Nat) : (s.portM k f).trn n = s.trn n := rfl

theorem State.rdij_portM (s : State) (k : Nat) (f : PixPort → PixPort) (g : Fld) (i j : Nat) :
    (s.portM k f).rdij g i j = s.rdij g i j := rfl

theorem State.linePassed_lines (s : State) (k : Nat) (p : CsiPacket) (t : Nat) :
    (s.linePassed k p t).rdi PIX_LINES_COUNT k = (s.rdi PIX_LINES_COUNT k + 1) % 2 ^ 32 :=
  calc (s.linePassed k p t).rdi PIX_LINES_COUNT k
      = ((s.wrapi PIX_LINES_COUNT k 1).portM k fun q => { q with lastLong := s.clk.el, idled := false }).rdi
          PIX_LINES_COUNT k := State.rdij_trnM _ _ _ (by decide) (by decide) _ _
    _ = (s.wrapi PIX_LINES_COUNT k 1).rdi PIX_LINES_COUNT k := State.rdij_portM _ _ _ _ _ _
    _ = (s.rdi PIX_LINES_COUNT k + 1) % 2 ^ 32 := State.rdij_wrij_same s _ _ _ _ (by decide) (by decide)

theorem State.linePassed_inq (s : State) (k : Nat) (p : CsiPacket) {t : Nat} (h : t < s.pix.trn.length) :
    ((s.linePassed k p t).trn t).inq = (s.trn t).inq ++ [.band (unpackRaw p.dt p.payload)] := by
  rw [State.linePassed, State.toTransit_inq _ _ (by exact h), State.trn_portM, State.trn_wrapi]

theorem exec_portEnable_present (hp : s.host.halted = false) (hw : s.winPresent 14 = true) (e : Bool) :
    exec (.portEnable n e) s = .next (s.portEnable n.val (b2n e)) := by
  simp only [exec, execPortEnable, State.powered_of_not_halted hp, hw, if_true]
  rfl

theorem State.portEnable_en (s : State) (k : Nat) (e : Bool) : (s.portEnable k (b2n e)).rdi PIX_CTRL_EN k = b2n e := by
  have hen : ∀ v : Bool, (s.wri PIX_CTRL_EN k (b2n v)).rdi PIX_CTRL_EN k = b2n v := fun v =>
    (State.rdij_wrij_same s _ _ _ _ (by decide) (by decide)).trans (by cases v <;> rfl)
  unfold State.portEnable
  split
  · next h =>
    have he : b2n e = 1 := of_decide_eq_true (Bool.and_eq_true_iff.mp h).1
    rw [he]
    refine (State.rdij_portM _ _ _ _ _ _).trans ?_
    refine (State.rdij_wrij_apart _ _ _ _ _ _ _ _ (by decide)).trans ?_
    exact (State.rdij_wrij_apart _ _ _ _ _ _ _ _ (by decide)).trans (hen true)
  · exact hen e

/-- The state after a port has been silent for its time. -/
def State.portIdled (s : State) (k : Nat) : State := (s.portM k fun q => { q with idled := true }).raise 14 (2 + k)

theorem exec_idle_due (hp : s.host.halted = false) (hw : s.winPresent 14 = true) (hen : s.rdi PIX_CTRL_EN n.val = 1)
    (hi : (listAt s.pix.ports n.val {}).idled = false) (hd : (listAt s.pix.ports n.val {}).lastLong + 100000000 ≤ s.clk.el) :
    exec (.idle n) s = .next (s.portIdled n.val) := by
  simp only [exec, execIdle, State.powered_of_not_halted hp, hw, hen, hi, hd, decide_true, beq_self_eq_true, Bool.not_false,
    Bool.and_self, if_true]
  rfl

theorem State.portIdled_idled (s : State) {k : Nat} (h : k < s.pix.ports.length) :
    (listAt (s.portIdled k).pix.ports k {}).idled = true := by
  have hpix := (State.raise_frame (s.portM k fun q => { q with idled := true }) 14 (2 + k)).1 .pix (by decide)
  simp only [Part.same] at hpix
  rw [State.portIdled, hpix]
  exact congrArg PixPort.idled (listAt_listMod_same _ _ _ _ h)

end Ports

/-! ## Band lines and processed lines (R166 to R170, R188 to R193) -/

section Lines

variable {s : State} {n : Fin 8}

theorem State.lineStart_inq (s : State) (k : Nat) : ((s.lineStart k).trn k).inq = (s.trn k).inq := by
  unfold State.lineStart
  extract_lets x off est factor skip bank held full slot kind s1
  split
  rw [State.trn_trnLoss]
  refine Eq.trans (State.trnM_keeps s1 k (g := Transit.inq) fun _ => ?_) ?_
  · rfl
  rw [State.trn_wri, State.trn_wri, State.trn_trnTrg]

theorem State.lineEnd_inq (s : State) (k : Nat) : ((s.lineEnd k).trn k).inq = (s.trn k).inq := by
  refine State.trnM_keeps s k (g := Transit.inq) fun x => ?_
  dsimp only
  split <;> split <;> rfl

theorem State.nextPos_inq (s : State) (k : Nat) : ((s.nextPos k).trn k).inq = (s.trn k).inq := by
  have hpos : ∀ u : State, ((u.trnM k fun x => { x with pos := x.pos + 1 }).trn k).inq = (u.trn k).inq := fun u =>
    u.trnM_keeps k (g := Transit.inq) fun _ => rfl
  unfold State.nextPos
  dsimp only
  split
  · exact (State.lineEnd_inq _ k).trans (hpos s)
  · exact hpos s

theorem State.dropLine_inq (s : State) (k : Nat) : ((s.trnM k Transit.dropLine).trn k).inq = (s.trn k).inq :=
  s.trnM_keeps k Transit.dropLine_inq

theorem State.storeBand_inq (s : State) (k slot b : Nat) (px : List Nat) :
    ((s.storeBand k slot b px).trn k).inq = (s.trn k).inq :=
  congrArg Transit.inq ((s.storeBand_frame k slot b px).trn (by decide) k)

/-- A band line that is placed takes nothing further from the input. -/
theorem State.bandLine_inq (s : State) (k : Nat) (px : List Nat) : ((s.bandLine k px).trn k).inq = (s.trn k).inq := by
  unfold State.bandLine
  extract_lets w s1 x0 s' s2 x b s3
  have h1 : (s1.trn k).inq = (s.trn k).inq := congrArg Transit.inq (s.trn_trnLoss _ _ _ _)
  have hstart : (s'.trn k).inq = (s.trn k).inq := (s1.lineStart_inq k).trans h1
  have h2 : (s2.trn k).inq = (s.trn k).inq := by
    dsimp only [s2]
    split
    · exact h1
    · split
      · rw [State.trn_trnLoss]
        exact (s'.dropLine_inq k).trans hstart
      · exact hstart
  have h3 : (s3.trn k).inq = (s2.trn k).inq := by
    dsimp only [s3]
    split
    · split
      · refine Eq.trans (State.trnM_keeps _ k (g := Transit.inq) fun _ => ?_) (s2.storeBand_inq k _ _ _)
        rfl
      · rfl
    · rfl
  exact (s3.nextPos_inq k).trans (h3.trans h2)

theorem exec_bandLine_unaligned {px : List Nat} {l : List PixItem} (hp : s.host.halted = false)
    (h : (s.trn n.val).inq = .band px :: l) (hon : s.trnOn n.val = true) (ha : s.rdi TRN_STAT_ALIGNED n.val = 0) :
    exec (.bandLine n) s = .next ((s.popItem n.val).trnLoss TRN_LOSS_BANDERR n.val 1) := by
  have hpop : (s.popItem n.val).trnOn n.val = true := (s.trnOn_trnM n.val _ n.val).trans hon
  have hal : (s.popItem n.val).rdi TRN_STAT_ALIGNED n.val = 0 := (s.rdij_trnM _ _ (by decide) (by decide) _ _).trans ha
  simp only [exec, execBandLine, State.powered_of_not_halted hp, h, hpop, hal, Bool.not_true, Bool.false_eq_true, if_false,
    beq_self_eq_true, if_true]
  rfl

theorem exec_bandLine_aligned {px : List Nat} {l : List PixItem} (hp : s.host.halted = false)
    (h : (s.trn n.val).inq = .band px :: l) (hon : s.trnOn n.val = true) (ha : s.rdi TRN_STAT_ALIGNED n.val = 1) :
    exec (.bandLine n) s = .next ((s.popItem n.val).bandLine n.val px) := by
  have hpop : (s.popItem n.val).trnOn n.val = true := (s.trnOn_trnM n.val _ n.val).trans hon
  have hal : (s.popItem n.val).rdi TRN_STAT_ALIGNED n.val = 1 := (s.rdij_trnM _ _ (by decide) (by decide) _ _).trans ha
  simp only [exec, execBandLine, State.powered_of_not_halted hp, h, hpop, hal, Bool.not_true, Bool.false_eq_true, if_false]
  rfl

theorem State.popItem_bandErr_count (s : State) (k : Nat) :
    ((s.popItem k).trnLoss TRN_LOSS_BANDERR k 1).rdi TRN_LOSS_BANDERR k = min (s.rdi TRN_LOSS_BANDERR k + 1) 255 := by
  have hpop : (s.popItem k).rdi TRN_LOSS_BANDERR k = s.rdi TRN_LOSS_BANDERR k :=
    s.rdij_trnM k _ (by decide) (by decide) k 0
  rw [State.trnLoss_eq_countUp, State.rdi_countUp_same _ _ _ _ _ (by decide) (by decide) (by decide), hpop]
  rfl

/-! ### Snapshots (R191, R193) -/

theorem exec_pixelSnapshotGo_present (hp : s.host.halted = false) (hw : s.winPresent 15 = true) (v : Word) :
    exec (.pixelSnapshotGo n v) s = .next (s.snapGo n.val v.toNat) := by
  simp only [exec, execPixelSnapshotGo, State.powered_of_not_halted hp, hw, if_true]
  rfl

/-- An idle TRN_SNAPn takes the written request. -/
theorem State.snapGo_idle {k v : Nat} (hgo : s.rdi TRN_SNAP_GO k = 0) (hv : bitAt v 31 = true) :
    (s.snapGo k v).rdi TRN_SNAP_GO k = 1 ∧ (s.snapGo k v).rdi TRN_SNAP_COUNT k = max 1 (bitsOf v 7 0) ∧
      (s.snapGo k v).rdi TRN_SNAP_BANDMASK k = bitsOf v 27 24 := by
  have hcount : max 1 (bitsOf v 7 0) < 2 ^ 8 := max_lt (by decide) (bitsOf_lt v 7 0)
  have hmask : bitsOf v 27 24 < 2 ^ 4 := bitsOf_lt v 27 24
  have hrun : (s.rdij TRN_SNAP_GO k 0 == 1) = false := beq_eq_false_iff_ne.mpr fun h => zero_ne_one (hgo.symm.trans h)
  simp (disch := decide) only [State.snapGo, State.rdi, hrun, hv, Bool.false_eq_true, if_false, if_true, State.rdij_trnM,
    State.wri, State.rdij_wrij_apart]
  refine ⟨?_, ?_, ?_⟩
  · exact State.rdij_wrij_same _ _ _ _ _ (by decide) (by decide)
  · exact (State.rdij_wrij_same _ _ _ _ _ (by decide) (by decide)).trans (Nat.mod_eq_of_lt hcount)
  · exact (State.rdij_wrij_same _ _ _ _ _ (by decide) (by decide)).trans (Nat.mod_eq_of_lt hmask)

theorem State.trnM_line (s : State) (k : Nat) (f : Transit → Transit) (i : Nat) :
    (s.trnM k f).rdi TRN_LINE_LINE i = s.rdi TRN_LINE_LINE i := s.rdij_trnM k f (by decide) (by decide) i 0

theorem State.rdij_staged (s : State) (l : List (Nat × List Nat)) (g : Fld) (i j : Nat) :
    State.rdij { s with pix := { s.pix with stage := l } } g i j = s.rdij g i j := rfl

/-- A record handed to the DMA channel leaves TRN_LINEn. -/
theorem State.snapHand_line (s : State) (i : Nat) : s.snapHand.rdi TRN_LINE_LINE i = s.rdi TRN_LINE_LINE i := by
  have hready : ∀ (u : State) (rec : List Nat), (u.dmaReady 5 rec).rdi TRN_LINE_LINE i = u.rdi TRN_LINE_LINE i :=
    fun u rec => (u.dmaReady_frame 5 rec).rdi (by decide) i
  unfold State.snapHand
  split
  · split
    · dsimp only
      split
      · refine (State.rdij_raise _ _ _ _ _ _ (by decide)).trans ?_
        refine (State.rdij_wrij_apart _ _ _ _ _ _ _ _ (by decide)).trans ?_
        exact (State.trnM_line _ _ _ i).trans ((hready _ _).trans (State.rdij_staged _ _ _ i 0))
      · exact (State.trnM_line _ _ _ i).trans ((hready _ _).trans (State.rdij_staged _ _ _ i 0))
    · rfl
  · rfl

theorem State.snapLine_line (s : State) (k : Nat) (l : TLine) (bands : List BandPx) (bad : Bool) (i : Nat) :
    (s.snapLine k l bands bad).rdi TRN_LINE_LINE i = s.rdi TRN_LINE_LINE i := by
  unfold State.snapLine
  dsimp only
  split
  · split
    · exact (State.rdij_wrij_apart _ _ _ _ _ _ _ _ (by decide)).trans (s.trnM_line _ _ i)
    · exact (State.snapHand_line _ i).trans ((State.rdij_staged _ _ _ i 0).trans (s.trnM_line _ _ i))
  · rfl

/-- The oldest scan line, processed in state `u`: its number is shown, then it may be captured. -/
theorem exec_scanLineProcessed_due {x : TLine} {l : List TLine} (hp : s.host.halted = false)
    (h : (s.trn n.val).lines = x :: l) (hon : s.trnOn n.val = true) (hk : x.kind = 0) (hf : x.full = true)
    (hr : x.ready ≤ s.clk.el) : ∃ (u : State) (f : Transit → Transit) (bands : List BandPx) (bad : Bool),
      exec (.scanLineProcessed n) s =
        .next (((u.wri TRN_LINE_LINE n.val x.num).trnM n.val f).snapLine n.val x bands bad) := by
  simp only [exec, execScanLineProcessed, State.powered_of_not_halted hp, h, hon, hk, hf, hr, beq_self_eq_true, decide_true,
    Bool.and_self, if_true]
  exact ⟨_, _, _, _, rfl⟩

end Lines

/-- Settles O12: each clause is the lemma on that command; the field or queue it names is read off the next state. -/
theorem pixelAndTransitCommandsComplete : Obligations.PixelAndTransitCommandsComplete := by
  unfold Obligations.PixelAndTransitCommandsComplete
  refine ⟨fun n p s hp hw hen hsot => ⟨_, exec_packet_sot hp hw hen hsot, ?_, ?_⟩,
    fun n p r s hp hw hen hsot hecc hvcx hb hdt hlong hemb hcrc ht =>
      ⟨_, exec_packet_usable hp hw hen hsot hecc hvcx, ?_⟩,
    fun n e s hp hw => ⟨_, exec_portEnable_present hp hw e, s.portEnable_en n.val e⟩,
    fun n s hp hw hen hlen hi hd => ⟨_, exec_idle_due hp hw hen hi hd, s.portIdled_idled (hlen.symm ▸ n.isLt),
      State.raise_bit (s.portM n.val _) 14 _ hw hp (by omega)⟩,
    fun n l s hp h hon => ⟨_, exec_frameStart_on hp h hon, State.frameStarted_inq h, s.frameStarted_pos n.val,
      s.frameStarted_aligned n.val⟩,
    fun n l s hp h => ⟨_, exec_frameEnd_head hp h, State.frameEnded_inq h⟩,
    fun n px l s hp h hon ha => ⟨_, exec_bandLine_unaligned hp h hon ha, ?_, s.popItem_bandErr_count n.val⟩,
    fun n px l s hp h hon ha => ⟨_, exec_bandLine_aligned hp h hon ha,
      ((s.popItem n.val).bandLine_inq n.val px).trans (State.popItem_inq h)⟩,
    fun n e l s hp h => ?_,
    fun n s hp hw => ⟨_, exec_resync_present hp hw, s.resync_edges n.val,
      s.resync_keeps n.val (g := Transit.inq) fun _ => rfl, s.resync_keeps n.val (g := Transit.lines) fun _ => rfl⟩,
    fun n v s hp hw => ⟨_, exec_transitEnWrite_present hp hw v, s.trnCtrl_en n.val _, s.trnCtrl_bank n.val _⟩,
    fun n v s hp hw hgo hv => ⟨_, exec_pixelSnapshotGo_present hp hw v, State.snapGo_idle hgo hv⟩,
    fun n x l s hp h hon hk hf hr => ?_⟩
  · rw [State.pixErr_sot, State.rdi, State.rdij_packetSeen _ _ _ (by decide) (by decide)]
    rfl
  · exact State.raise_bit ((s.packetSeen n.val p).inci PIX_ERR_SOT n.val 1) 14 n.val hw hp (by omega)
  · rw [State.pixPacket_line (s := s.packetSeen n.val p) hb hdt hlong hemb hcrc]
    refine ⟨?_, State.linePassed_inq _ _ _ ht⟩
    rw [State.linePassed_lines, State.rdi, State.rdij_packetSeen _ _ _ (by decide) (by decide)]
    rfl
  · rw [State.trn_trnLoss]
    exact State.popItem_inq h
  · obtain ⟨t, ht, htrn⟩ := exec_edgeTime_head hp h
    exact ⟨t, ht, congrArg Transit.edgeIn htrn, congrArg Transit.edges htrn⟩
  · obtain ⟨u, f, bands, bad, ht⟩ := exec_scanLineProcessed_due hp h hon hk hf hr
    refine ⟨_, ht, ?_⟩
    refine (State.snapLine_line _ _ _ _ _ _).trans ((State.trnM_line _ _ _ _).trans ?_)
    exact State.rdij_wrij_same u _ _ _ _ (by decide) (by decide)

end Sys2Proof.Machine

/-! # Settled statements on the tally, the stake-out, the timed pins and the reflex: the frames of these commands -/

namespace Sys2Proof.Machine

open Sys2Proof

/-- Settles O56: each clause's list covers the mask of its command. -/
theorem objectAndActuationCommandsFrame : Obligations.ObjectAndActuationCommandsFrame := by
  unfold Obligations.ObjectAndActuationCommandsFrame
  repeat' apply And.intro
  all_goals
    intros
    exact exec_changesOnly _ _ _ (by dsimp only [Instr.frameMask]; decide)

end Sys2Proof.Machine

/-! # Settled statements on the stake-out and the reflex: pads and pins, the stake-out engine, the valve links -/

namespace Sys2Proof.Machine

open Sys2Proof

/-! ## Pins, pads and the matrix across their operations (R272 to R277, R288, R289) -/

section PinRules

variable {α : Type} {s t : State}

/-- What a pin holds outside a frame's mask stays. -/
theorem Frame.pin {m : Nat} (h : Frame m s t) (hm : m.testBit Part.tpin.ix = false) (p : Nat) : t.pin p = s.pin p := by
  have htpin : t.tpin = s.tpin := h.1 .tpin hm
  rw [State.pin, State.pin, htpin]

theorem State.pin_pinM_same (s : State) {p : Nat} (f : TPin → TPin) (h : p < s.tpin.pins.length) :
    (s.pinM p f).pin p = f (s.pin p) := listAt_listMod_same s.tpin.pins p f {} h

theorem State.pin_pinM_ne (s : State) {p q : Nat} (f : TPin → TPin) (h : p ≠ q) : (s.pinM q f).pin p = s.pin p :=
  listAt_listMod_ne s.tpin.pins f {} h

/-- Part `g` of an item changed in place, by a change that leaves this part of the default as it is, so that the item need
not be known to exist. -/
theorem listAt_listMod_part {β : Type} (l : List β) (i : Nat) (f : β → β) (d : β) (g : β → α)
    (h : g (f d) = g d) : g (listAt (listMod l i f) i d) = g (f (listAt l i d)) := by
  rcases Nat.lt_or_ge i l.length with hi | hi
  · rw [listAt_listMod_same l i f d hi]
  · rw [listAt_of_le ((length_listMod l i f).trans_le hi), listAt_of_le hi, h]

theorem State.pinM_part (s : State) (p : Nat) (f : TPin → TPin) (g : TPin → α) (h : g (f {}) = g {}) :
    g ((s.pinM p f).pin p) = g (f (s.pin p)) := listAt_listMod_part s.tpin.pins p f {} g h

theorem State.pinM_keeps (s : State) (q : Nat) {f : TPin → TPin} {g : TPin → α} (h : ∀ x, g (f x) = g x) (p : Nat) :
    g ((s.pinM q f).pin p) = g (s.pin p) := by
  by_cases hpq : p = q
  · subst hpq
    exact (s.pinM_part p f g (h _)).trans (h _)
  · rw [s.pin_pinM_ne f hpq]

/-- Driving the pads changes a pin's driven level alone. -/
theorem State.padDrive_pin (s : State) {g : TPin → α} (h : ∀ x v, g { x with drv := v } = g x) (p : Nat) :
    g (s.padDrive.pin p) = g (s.pin p) := by
  refine foldl_keeps (g := fun u => g (u.pin p)) (fun u q => ?_) _ s
  dsimp only
  split
  · rfl
  · split <;> exact u.pinM_keeps q (fun x => h x _) p

theorem State.rfxStep_flags (s : State) (i k : Nat) : (s.rfxStep i k).rfx.flags = s.rfx.flags := by
  have hlatch : ∀ b, (s.latchPut k b).rfx = s.rfx := fun b => (s.latchPut_frame k b).1 .rfx (by decide)
  have hraise : ∀ (u : State) c e, (u.raiseIf c 10 e).rfx = u.rfx := fun u c e =>
    (u.raiseIf_frame c 10 e).1 .rfx (by decide)
  unfold State.rfxStep
  split
  · rfl
  · next r _ =>
    extract_lets f held s1 raw was now r1 s2 r2 s3
    have hs1 : s1.rfx = s.rfx := by
      dsimp only [s1]
      split
      · exact hlatch _
      · rfl
    have hs2 : s2.rfx.flags = s.rfx.flags := (congrArg RfxUnit.flags hs1 : s1.rfx.flags = s.rfx.flags)
    split
    · exact (congrArg RfxUnit.flags (hraise (s3.wrapi RFX_CNT_COUNT k 1) _ _)).trans hs2
    · exact hs2

/-- What driving the pads and evaluating the outputs keep, settling keeps. -/
theorem State.settle_keeps {g : State → α} (hd : ∀ u : State, g u.padDrive = g u)
    (hr : ∀ (u : State) (i k : Nat), g (u.rfxStep i k) = g u) (n : Nat) (s : State) : g (State.settle n s) = g s := by
  induction n generalizing s with
  | zero => rfl
  | succ n ih =>
    have hround : ∀ (i : Nat) (l : List Nat), g (l.foldl (fun u k => u.rfxStep i k) s.padDrive) = g s := fun i l =>
      (foldl_keeps (fun u k => hr u i k) l s.padDrive).trans (hd s)
    unfold State.settle
    dsimp only
    split
    · exact hround _ _
    · exact (ih _).trans (hround _ _)

theorem State.rfxShow_pin (s : State) (p : Nat) : s.rfxShow.pin p = s.pin p := rfl

theorem State.rfxShow_rfx (s : State) : s.rfxShow.rfx = s.rfx := rfl

/-- TPIN_IN0 shows the pads. -/
theorem State.rfxShow_level (s : State) : s.rfxShow.rd TPIN_IN0_LEVEL = s.rfxShow.padBits % 2 ^ 32 := by
  have hpads : s.rfxShow.padBits = s.padBits := rfl
  rw [hpads]
  iterate 6 refine (State.rd_wr_apart _ _ (by decide)).trans ?_
  exact State.rd_wr_same _ _ _ (by decide) (by decide)

/-- RFX_IN2 shows the fabric flags. -/
theorem State.rfxShow_flags (s : State) : s.rfxShow.rd RFX_IN2_IN = s.rfxShow.rfx.flags % 2 ^ 32 := by
  rw [State.rfxShow_rfx]
  iterate 2 refine (State.rd_wr_apart _ _ (by decide)).trans ?_
  exact State.rd_wr_same _ _ _ (by decide) (by decide)

/-- When pads and matrix have settled, a pin differs in its driven level alone. -/
theorem State.padRefresh_pin (s : State) {g : TPin → α} (h : ∀ x v, g { x with drv := v } = g x) (p : Nat) :
    g (s.padRefresh.pin p) = g (s.pin p) := by
  rw [State.padRefresh, State.rfxShow_pin]
  exact State.settle_keeps (g := fun u => g (u.pin p)) (fun u => u.padDrive_pin h p)
    (fun u i k => congrArg g ((u.rfxStep_frame i k).pin (by decide) p)) 128 s

theorem State.padRefresh_flags (s : State) : s.padRefresh.rfx.flags = s.rfx.flags := by
  rw [State.padRefresh, State.rfxShow_rfx]
  exact State.settle_keeps (g := fun u => u.rfx.flags)
    (fun u => congrArg RfxUnit.flags (u.padDrive_frame.1 .rfx (by decide))) State.rfxStep_flags 128 s

theorem State.padRefresh_level (s : State) : s.padRefresh.rd TPIN_IN0_LEVEL = s.padRefresh.padBits % 2 ^ 32 :=
  State.rfxShow_level _

theorem State.padRefresh_flagsShown (s : State) : s.padRefresh.rd RFX_IN2_IN = s.padRefresh.rfx.flags % 2 ^ 32 :=
  State.rfxShow_flags _

end PinRules

/-! ## Timed pins and reflex matrix (R273, R274, R276, R288, R289) -/

section PinCommands

variable {s : State}

/-- The levels of a pin that an input change sets. -/
def TPin.levels (x : TPin) : Bool × Bool := (x.ext, x.seen)

theorem State.tsqPush_pin (s : State) (p : Nat) (rise : Bool) (t q : Nat) : (s.tsqPush p rise t).pin q = s.pin q := by
  have hframe : ∀ {u v : State}, Frame 0x20000100080000000000401 u v → u.pin q = s.pin q → v.pin q = s.pin q :=
    fun hf hu => (hf.pin (by decide) q).trans hu
  unfold State.tsqPush
  dsimp only
  split
  · exact hframe ((State.raise_frame _ _ _).comp (by decide) (Frame.inc (by decide) (Frame.rfl _ _))) rfl
  · exact hframe ((State.raiseIf_frame _ _ _ _).comp (by decide) ((State.tsqShow_frame _).mono (by decide))) rfl

/-- A timestamped edge goes to the queue, the gates and the encoders, and leaves the levels. -/
theorem State.pinEdge_levels (s : State) (p : Nat) (rise both : Bool) (t q : Nat) :
    ((s.pinEdge p rise both t).pin q).levels = (s.pin q).levels := by
  unfold State.pinEdge
  extract_lets m sel counted s1
  have hs1 : (s1.pin q).levels = (s.pin q).levels := by
    have hcounted : (counted.pin q).levels = (s.pin q).levels := by
      refine s.pinM_keeps p ?_ q
      exact fun _ => rfl
    dsimp only [s1]
    split
    · split
      · rw [State.tsqPush_pin]
        exact hcounted
      · exact hcounted
    · rfl
  split
  · split
    · rw [s1.runt_frame.pin (by decide)]
      exact hs1
    · refine Eq.trans ?_ hs1
      refine s1.pinM_keeps _ ?_ q
      exact fun _ => rfl
  · exact hs1

/-- A level that lasts passes the glitch filter; what follows of the edge leaves the levels. -/
theorem exec_pinInputEdge_passed {p : Fin 64} {v : Bool} {w : Nat} {b : Bool} (hp : s.host.halted = false)
    (hv : (s.pin p.val).seen ≠ v) (hw : max 4 (s.cv C_PIN_GLITCH p.val) ≤ w) (hlen : s.tpin.pins.length = 64) :
    ∃ u : State, exec (.pinInputEdge p v w b) s = .next u.padRefresh ∧ (u.pin p.val).levels = (v, v) := by
  let s1 := s.pinM p.val fun x => { x with ext := v, seen := v }
  have hs1 : (s1.pin p.val).levels = (v, v) := congrArg TPin.levels (s.pin_pinM_same _ (hlen.symm ▸ p.isLt))
  have hsent : ∀ (u : State) time, ((u.sendEdge p.val time).pin p.val) = u.pin p.val := fun u time =>
    (u.sendEdge_frame p.val time).pin (by decide) p.val
  simp only [exec, execPinInputEdge, State.powered_of_not_halted hp, beq_eq_false_iff_ne.mpr hv,
    if_neg (Nat.not_lt.mpr hw), Bool.false_eq_true, if_false]
  split
  · exact ⟨s1, rfl, hs1⟩
  · refine ⟨_, rfl, ?_⟩
    split
    · rw [hsent, State.pinEdge_levels]
      exact hs1
    · rw [State.pinEdge_levels]
      exact hs1

theorem exec_pinInputEdge_runt {p : Fin 64} {v : Bool} {w : Nat} {b : Bool} (hp : s.host.halted = false)
    (hv : (s.pin p.val).seen ≠ v) (hw : w < max 4 (s.cv C_PIN_GLITCH p.val)) :
    exec (.pinInputEdge p v w b) s = .next s.runt := by
  simp only [exec, execPinInputEdge, State.powered_of_not_halted hp, beq_eq_false_iff_ne.mpr hv, if_pos hw,
    Bool.false_eq_true, if_false]
  rfl

theorem State.runt_count (s : State) : s.runt.rd TPIN_RUNT_COUNT = min (s.rd TPIN_RUNT_COUNT + 1) (2 ^ 32 - 1) :=
  (State.rd_raise _ _ _ (by decide)).trans (s.rd_inc_same _ _ (by decide) (by decide))

/-- The endpoint of an element has one. -/
theorem State.produce_elem (s : State) (ep val fmt tag : Nat) : ((s.produce ep val fmt tag).elem ep).isSome = true := by
  have hkept : ((s.produce ep val fmt tag)).trav = assocPut s.trav ep ⟨val % 2 ^ 32, tag % 2 ^ 48, fmt⟩ :=
    (State.carry_frame _ _ _).1 .trav (by decide)
  rw [State.elem, hkept, assocGet_assocPut_same]
  rfl

/-- A gate that has lasted half its time ends: the count starts again, and the element is of the pin's mode. -/
theorem exec_gateEnd_due {p : Fin 64} {r : CfgRec} (hp : s.host.halted = false) (hr : s.crec C_PIN_PIN p.val = some r)
    (hm1 : 1 ≤ r.v C_PIN_MODE) (hm3 : r.v C_PIN_MODE ≤ 3)
    (hdue : (s.pin p.val).gateEl + r.v C_PIN_GATE_US * 1000 / 2 + (s.clk.now - s.clk.now / (r.v C_PIN_GATE_US * 1000) *
      (r.v C_PIN_GATE_US * 1000)) ≤ s.clk.el) :
    ∃ (f : TPin → TPin) (val fmt tag : Nat), (∀ x, (f x).n = 0) ∧
      exec (.gateEnd p) s = .next ((s.pinM p.val f).produce (288 + p.val) val fmt tag) := by
  have hmode : (decide (r.v C_PIN_MODE = 0) || decide (4 ≤ r.v C_PIN_MODE)) = false := by
    rw [decide_eq_false (by omega), decide_eq_false (by omega)]
    rfl
  have helapsed : ¬ s.clk.el - (s.clk.now - s.clk.now / (r.v C_PIN_GATE_US * 1000) * (r.v C_PIN_GATE_US * 1000)) <
      (s.pin p.val).gateEl + r.v C_PIN_GATE_US * 1000 / 2 := by omega
  simp only [exec, execGateEnd, State.powered_of_not_halted hp, hr, hmode, Bool.false_or, decide_eq_true_eq,
    if_neg helapsed]
  split <;> exact ⟨_, _, _, _, fun _ => rfl, rfl⟩

/-- The period instant at or before now of a PWM pin. -/
def State.pulseInstant (s : State) (r : CfgRec) : Nat :=
  (s.clk.now - r.v C_PIN_PHASE) / r.v C_PIN_PERIOD * r.v C_PIN_PERIOD + r.v C_PIN_PHASE

/-- A pulse begins at the period instant, with the HIGH of now. -/
def State.pulseBegun (s : State) (p : Nat) (r : CfgRec) : State := s.pinM p fun x => { x with
  pStart := some (s.pulseInstant r : Int), pStartEl := s.clk.el - (s.clk.now - s.pulseInstant r), high := s.pwmHigh r,
  pulse := decide (0 < s.pwmHigh r) }

/-- The part of a pin that the begin of a pulse sets. -/
def TPin.pulsing (x : TPin) : Option Int × Nat × Bool := (x.pStart, x.high, x.pulse)

theorem exec_pwmPulseStart_first {p : Fin 64} {r : CfgRec} (hp : s.host.halted = false)
    (hr : s.crec C_PIN_PIN p.val = some r) (hm : r.v C_PIN_MODE = 5) (hph : r.v C_PIN_PHASE ≤ s.clk.now)
    (hfirst : (s.pin p.val).pStart = none) : exec (.pwmPulseStart p) s = .next (if 0 < s.pwmHigh r then
      (s.pulseBegun p.val r).sendEdge p.val (s.pulseInstant r) else s.pulseBegun p.val r).padRefresh := by
  simp only [exec, execPwmPulseStart, State.powered_of_not_halted hp, hr, hm, bne_self_eq_false, Bool.false_or,
    decide_eq_true_eq, if_neg (Nat.not_lt.mpr hph), hfirst, Option.isSome_none, Bool.false_and, Bool.false_eq_true, if_false]
  rfl

theorem State.pulseBegun_sent_pulsing (s : State) {p : Nat} (r : CfgRec) (h : p < s.tpin.pins.length) :
    ((if 0 < s.pwmHigh r then (s.pulseBegun p r).sendEdge p (s.pulseInstant r) else s.pulseBegun p r).padRefresh.pin
      p).pulsing = (some (s.pulseInstant r : Int), s.pwmHigh r, decide (0 < s.pwmHigh r)) := by
  have hbegun : ((s.pulseBegun p r).pin p).pulsing =
      (some (s.pulseInstant r : Int), s.pwmHigh r, decide (0 < s.pwmHigh r)) :=
    congrArg TPin.pulsing (s.pin_pinM_same _ h)
  refine (State.padRefresh_pin _ (g := TPin.pulsing) (fun _ _ => rfl) p).trans ?_
  split
  · rw [(State.sendEdge_frame _ _ _).pin (by decide)]
    exact hbegun
  · exact hbegun

theorem exec_pwmPulseEnd_due {p : Fin 64} (hp : s.host.halted = false) (hm : s.cv C_PIN_MODE p.val = 5)
    (hpulse : (s.pin p.val).pulse = true) (hh : (s.pin p.val).high < s.cv C_PIN_PERIOD p.val)
    (hdue : (s.pin p.val).pStartEl + (s.pin p.val).high ≤ s.clk.el) :
    exec (.pwmPulseEnd p) s = .next (s.pinM p.val fun x => { x with pulse := false }).padRefresh := by
  simp only [exec, execPwmPulseEnd, State.powered_of_not_halted hp, hm, hpulse, hh, hdue, decide_true, Bool.and_self,
    if_true]
  rfl

theorem exec_timestampQueueRead (hp : s.host.halted = false) : exec .timestampQueueRead s =
    .next (s.emit (.readData 0xB0024 (s.rd TPIN_TSQ_HI_ENTRY))).tsqPop := by
  simp only [exec, execTimestampQueueRead, State.powered_of_not_halted hp]
  rfl

theorem exec_reflexInputChange (hp : s.host.halted = false) (p : Fin 64) (v : Bool) : exec (.reflexInputChange p v) s =
    .next (s.pinM p.val fun x => { x with ext := v }).padRefresh := by
  simp only [exec, execReflexInputChange, State.powered_of_not_halted hp]
  rfl

/-- Fabric flag `f` follows its source. -/
def State.flagTaken (s : State) (f : Nat) : State :=
  { s with rfx := { s.rfx with flags := setBit s.rfx.flags f (s.flagNow f) } }

theorem exec_fabricFlagChange (hp : s.host.halted = false) (f : Fin 16) : exec (.fabricFlagChange f) s =
    .next (s.flagTaken f.val).padRefresh := by
  simp only [exec, execFabricFlagChange, State.powered_of_not_halted hp]
  rfl

theorem exec_stretchEnd_due {k : Fin 64} (hp : s.host.halted = false) (hk : s.rfxOut k.val = true)
    (hdue : listAt s.rfx.stretch k.val 0 ≤ s.clk.el) : exec (.stretchEnd k) s = .next s.padRefresh := by
  simp only [exec, execStretchEnd, State.powered_of_not_halted hp, hk, hdue, decide_true, Bool.and_self, if_true]
  rfl

theorem exec_latchReset (hp : s.host.halted = false) (i : Fin 2) (m : Word) :
    exec (.latchReset i m) s = .next (s.latchClear i.val m.toNat) := by
  simp only [exec, execLatchReset, State.powered_of_not_halted hp]
  rfl

end PinCommands

/-- Settles O17: each clause is the lemma on that command; what the settling of pads and matrix leaves is read off. -/
theorem timedPinAndReflexCommandsComplete : Obligations.TimedPinAndReflexCommandsComplete := by
  unfold Obligations.TimedPinAndReflexCommandsComplete
  refine ⟨fun p v w b s hp hv hw hlen => ?_,
    fun p v w b s hp hv hw => ⟨_, exec_pinInputEdge_runt hp hv hw, s.runt_count, s.runt_frame.1 .tpin (by decide)⟩,
    fun p r s hp hr hm1 hm3 hdue => ?_,
    fun p r s hp hr hm hph hfirst hlen => ⟨_, exec_pwmPulseStart_first hp hr hm hph hfirst, ?_⟩,
    fun p s hp hm hpulse hh hdue => ⟨_, exec_pwmPulseEnd_due hp hm hpulse hh hdue, ?_⟩,
    fun s hp => ⟨_, exec_timestampQueueRead hp, rfl, rfl⟩,
    fun p v s hp hlen => ⟨_, exec_reflexInputChange hp p v, ?_, State.padRefresh_level _⟩,
    fun f s hp => ⟨_, exec_fabricFlagChange hp f, ?_, State.padRefresh_flagsShown _⟩,
    fun k s hp hk hdue => exec_stretchEnd_due hp hk hdue,
    fun m s hp => exec_latchReset hp 0 m, fun m s hp => exec_latchReset hp 1 m⟩
  · obtain ⟨u, hu, hlevels⟩ := exec_pinInputEdge_passed (b := b) hp hv hw hlen
    have hsettled : (u.padRefresh.pin p.val).levels = (v, v) := (u.padRefresh_pin (fun _ _ => rfl) p.val).trans hlevels
    rw [TPin.levels, Prod.mk.injEq] at hsettled
    exact ⟨_, hu, hsettled⟩
  · obtain ⟨f, val, fmt, tag, hzero, ht⟩ := exec_gateEnd_due hp hr hm1 hm3 hdue
    refine ⟨_, ht, ?_, State.produce_elem _ _ _ _ _⟩
    rw [(State.produce_frame _ _ _ _ _).pin (by decide)]
    exact (s.pinM_part p.val f TPin.n (hzero _)).trans (hzero _)
  · have hpulsing := s.pulseBegun_sent_pulsing r (hlen.symm ▸ p.isLt : p.val < s.tpin.pins.length)
    rw [TPin.pulsing, Prod.mk.injEq, Prod.mk.injEq] at hpulsing
    exact hpulsing
  · exact (State.padRefresh_pin _ (fun _ _ => rfl) p.val).trans (s.pinM_part p.val _ TPin.pulse rfl)
  · refine (State.padRefresh_pin _ (g := TPin.ext) (fun _ _ => rfl) p.val).trans ?_
    exact congrArg TPin.ext (s.pin_pinM_same _ (hlen.symm ▸ p.isLt))
  · rw [State.padRefresh_flags]
    exact bitAt_setBit_same _ _ _

end Sys2Proof.Machine

namespace Sys2Proof.Machine

open Sys2Proof

/-! ## The stake-out engine across its operations (R262 to R269, R296) -/

section StakeRules

variable {s t : State} {m : Nat}

/-- The tally's requests, and the host's with the turn of the sources: what the intake takes requests from and by. -/
def State.intakeQueues (s : State) : List StakeReq × List StakeReq × Nat × Bool :=
  (s.tally.fifo, s.stk.host, s.stk.turn, s.stk.lastTally)

theorem Frame.intakeQueues (h : Frame m s t) (ht : m.testBit Part.tally.ix = false) (hs : m.testBit Part.stk.ix = false) :
    t.intakeQueues = s.intakeQueues := by
  have htally : t.tally = s.tally := h.1 .tally ht
  have hstk : t.stk = s.stk := h.1 .stk hs
  rw [State.intakeQueues, State.intakeQueues, htally, hstk]

theorem State.raise_intakeQueues (s : State) (w e : Nat) : (s.raise w e).intakeQueues = s.intakeQueues :=
  (s.raise_frame w e).intakeQueues (by decide) (by decide)

theorem State.hostResult_intakeQueues (s : State) (v : Nat) : (s.hostResult v).intakeQueues = s.intakeQueues :=
  (s.hostResult_frame v).intakeQueues (by decide) (by decide)

theorem State.report_intakeQueues (s : State) (r : StakeReq) (result host : Nat) :
    (s.report r result host).intakeQueues = s.intakeQueues := by
  unfold State.report
  split
  · rfl
  · split
    · exact s.hostResult_intakeQueues host
    · rfl

/-- A refused or late stake: an event and a report. -/
theorem State.refusal_intakeQueues (s : State) (w e : Nat) (r : StakeReq) (result host : Nat) :
    ((s.raise w e).report r result host).intakeQueues = s.intakeQueues :=
  (State.report_intakeQueues _ _ _ _).trans (s.raise_intakeQueues w e)

theorem State.stkAccept_intakeQueues (s : State) (e : Nat) (r : StakeReq) :
    (s.stkAccept e r).intakeQueues = s.intakeQueues := by
  unfold State.stkAccept
  extract_lets k s1 s2 n s3
  have hs3 : s3.intakeQueues = s.intakeQueues := (State.memPuts_frame _ _ _).intakeQueues (by decide) (by decide)
  refine ((State.tieSend_frame _ _ _ _).intakeQueues (by decide) (by decide)).trans ?_
  refine ((State.stkShow_frame _).intakeQueues (by decide) (by decide)).trans ?_
  split
  · exact (s3.hostResult_intakeQueues 1).trans hs3
  · exact hs3

/-- A request at the intake is refused, discarded or accepted; the requests that wait are not touched. -/
theorem State.stkIntake_intakeQueues (s : State) (q : StakeReq) (mirrored : Bool) :
    (s.stkIntake q mirrored).intakeQueues = s.intakeQueues := by
  unfold State.stkIntake
  extract_lets par r
  split
  · -- EN, the region or the target
    exact State.refusal_intakeQueues _ _ _ _ _ _
  split
  · -- too far ahead
    exact State.refusal_intakeQueues _ _ _ _ _ _
  split
  · -- too late
    exact State.refusal_intakeQueues _ _ _ _ _ _
  split
  · exact s.stkAccept_intakeQueues _ _
  split
  · -- full, for a mirrored stake
    exact State.raise_intakeQueues _ _ _
  · -- full
    exact State.refusal_intakeQueues _ _ _ _ _ _

/-- The calendar and the instant of the next fetch. -/
def State.calendar (s : State) : List StkEnt × Nat := (s.stk.cal, s.stk.nextFetch)

theorem Frame.calendar (h : Frame m s t) (hm : m.testBit Part.stk.ix = false) : t.calendar = s.calendar := by
  have hstk : t.stk = s.stk := h.1 .stk hm
  rw [State.calendar, State.calendar, hstk]

theorem State.executed_calendar (s : State) (p : StakeReq × Bool) : (s.executed p).calendar = s.calendar :=
  (s.executed_frame p).calendar (by decide)

/-- A fetched stake changes its target's runs, and not the calendar. -/
theorem State.execute_calendar (s : State) (c : StkEnt) : (s.execute c).calendar = s.calendar := by
  unfold State.execute
  extract_lets st t x minW gap time last fixed lastOff blocked early first late tardy s1 at_ live stop joins
  split
  · exact (s.lateDiscard_frame _).calendar (by decide)
  have hs1 : s1.calendar = s.calendar := by
    dsimp only [s1]
    split
    · exact (State.raise_frame _ _ _).calendar (by decide)
    · rfl
  split
  · split
    · exact hs1
    · exact (s1.executed_calendar _).trans hs1
  split
  · split
    · exact (State.executed_calendar _ _).trans hs1
    · exact hs1
  · exact hs1

theorem Frame.target (h : Frame m s t) (hm : m.testBit Part.stk.ix = false) (c : Nat) : t.target c = s.target c := by
  have hstk : t.stk = s.stk := h.1 .stk hm
  rw [State.target, State.target, hstk]

theorem State.target_targetM_same (s : State) (c : Nat) (f : Target → Target) :
    (s.targetM c f).target c = f (s.target c) := by
  have hput : assocGet (s.targetM c f).stk.targets c = some (f (s.target c)) := assocGet_assocPut_same _ _ _
  rw [State.target, assocGetD, hput, Option.getD_some]

/-- The reports of placed edges and the settling of the pads leave the targets. -/
theorem State.placed_target (s : State) (l : List (StakeReq × Bool)) (c : Nat) :
    ((s.executedAll l).padRefresh).target c = s.target c :=
  ((State.padRefresh_frame _).target (by decide) c).trans ((s.executedAll_frame l).target (by decide) c)

/-! ### Flushes -/

/-- The registers that the reports of flushed stakes and STK_STAT write. -/
def flushRegs : List Nat := [STK_FLUSH_COUNT.addr 0 0, STK_H_STAT_RESULT.addr 0 0, STK_STAT_PENDING.addr 0 0]

theorem State.report_keepsRegs (s : State) (r : StakeReq) (result host : Nat) :
    KeepsRegs flushRegs s (s.report r result host) := by
  unfold State.report State.hostResult
  refine .ite ((KeepsRegs.rfl _ s).of_regs rfl) (.ite (.ite (KeepsRegs.rfl _ s) ?_) (KeepsRegs.rfl _ s))
  exact KeepsRegs.raise (KeepsRegs.setReg (KeepsRegs.rfl _ s) (by decide)) _ _

theorem State.flushOne_keepsRegs (s : State) (r : StakeReq) : KeepsRegs flushRegs s (s.flushOne r) := by
  intro a hevt ha
  refine ((State.report_keepsRegs (s.inc STK_FLUSH_COUNT 1) r 1 9) a hevt ha).trans ?_
  exact KeepsRegs.setReg (KeepsRegs.rfl flushRegs s) (by decide) a hevt ha

theorem State.stkShow_keepsRegs (s : State) : KeepsRegs flushRegs s s.stkShow :=
  KeepsRegs.setReg (KeepsRegs.setReg (KeepsRegs.setReg (KeepsRegs.rfl _ s) (by decide)) (by decide)) (by decide)

/-- A flush writes no other register of the stake-out unit. -/
theorem State.stkFlush_rdij (s : State) (p : Nat → Bool) (f : Fld) (i j : Nat) (hw : f.addr i j / 0x10000 = 12)
    (hevt : isEvt (f.addr i j) = false) (hmem : f.addr i j ∉ flushRegs) : (s.stkFlush p).rdij f i j = s.rdij f i j := by
  unfold State.stkFlush
  extract_lets ents runs lost clear s1
  have hpads : ∀ u : State, u.padRefresh.reg (f.addr i j) = u.reg (f.addr i j) := fun u =>
    u.padRefresh_frame.reg (by rw [hw]; decide) (by rw [hw]; decide) hevt
  have hlost : KeepsRegs flushRegs s1 (lost.foldl (fun s r => s.flushOne r) s1) :=
    KeepsRegs.foldl lost (fun u r => u.flushOne_keepsRegs r) s1
  rw [State.rdij, State.rdij, hpads, State.stkShow_keepsRegs _ _ hevt hmem, hlost _ hevt hmem]
  rfl

/-- A flush leaves in the calendar the stakes of the other targets. -/
theorem State.stkFlush_cal (s : State) (p : Nat → Bool) :
    (s.stkFlush p).stk.cal = s.stk.cal.filter fun c => !p c.st.target := by
  unfold State.stkFlush
  extract_lets ents runs lost clear s1
  have hflushed : Frame 0x20000200080040000000401 s1 (lost.foldl (fun s r => s.flushOne r) s1) :=
    Frame.foldl lost (Frame.rfl _ s1) fun u r => u.flushOne_frame r
  have hshown : ((lost.foldl (fun s r => s.flushOne r) s1).stkShow).padRefresh.stk = s1.stk :=
    (State.padRefresh_frame _).1 .stk (by decide) |>.trans (hflushed.1 .stk (by decide))
  exact congrArg StkUnit.cal hshown

theorem State.stkFlushAll_cal (s : State) : s.stkFlushAll.stk.cal = [] := by
  unfold State.stkFlushAll
  extract_lets s1
  rw [s1.stkFlush_cal]
  exact List.filter_eq_nil_iff.mpr fun _ _ => by decide

/-- The close words of a flush go to the links, which hold no register. -/
theorem State.stkFlushAll_rdij (s : State) (f : Fld) (i j : Nat) (hw : f.addr i j / 0x10000 = 12)
    (hevt : isEvt (f.addr i j) = false) (hmem : f.addr i j ∉ flushRegs) : s.stkFlushAll.rdij f i j = s.rdij f i j := by
  unfold State.stkFlushAll
  extract_lets s1
  rw [s1.stkFlush_rdij _ f i j hw hevt hmem]
  refine foldl_keeps (g := fun u => u.rdij f i j) (fun u l => ?_) _ s
  split <;> rfl

end StakeRules

/-! ## The commands of the stake-out engine (R262, R265 to R269, R271, R296) -/

section StakeCommands

variable {s : State}

/-- The intake serves the tally's FIFO. -/
def State.tallyServed (s : State) (l : List StakeReq) : State :=
  (s.talM fun t => { t with fifo := l }).stkM fun u => { u with lastTally := true }

theorem exec_stakeIntake_tally {r : StakeReq} {l : List StakeReq} (hp : s.host.halted = false)
    (hsrc : s.stkSource = some 0) (hl : s.tally.fifo = r :: l) (hsb : s.standby = false) :
    exec .stakeIntake s = .next ((s.tallyServed l).stkIntake r false) := by
  simp only [exec, execStakeIntake, State.powered_of_not_halted hp, hsrc, hl, hsb, Bool.false_eq_true, if_false]
  rfl

/-- The intake serves the host's requests, and the turn passes on. -/
def State.hostServed (s : State) (l : List StakeReq) : State :=
  s.stkM fun u => { u with host := l, turn := 0, lastTally := false }

theorem exec_stakeIntake_host {r : StakeReq} {l : List StakeReq} (hp : s.host.halted = false)
    (hsrc : s.stkSource = some 3) (hl : s.stk.host = r :: l) :
    exec .stakeIntake s = .next ((s.hostServed l).stkIntake r false) := by
  simp only [exec, execStakeIntake, State.powered_of_not_halted hp, hsrc, OfNat.ofNat_ne_one, if_false,
    (by decide : ¬ 3 = 2), hl]
  rfl

/-- Entry `c` leaves the calendar, and the next fetch comes at half nanosecond `next`. -/
def State.entryTaken (s : State) (c : StkEnt) (next : Nat) : State :=
  (s.stkM fun u => { u with cal := u.cal.filter (fun d => d.entry != c.entry), nextFetch := next }).stkShow

theorem State.entryTaken_calendar (s : State) (c : StkEnt) (next : Nat) : (s.entryTaken c next).calendar =
    (s.stk.cal.filter (fun d => d.entry != c.entry), next) := rfl

/-- An uncorrectable entry is withheld, another is executed; the calendar stays as the fetch left it. -/
theorem exec_fetch_due {c : StkEnt} (hp : s.host.halted = false) (hc : earliestEnt s.stk.cal = some c)
    (ht : c.st.time ≤ (s.clk.now : Int) + 64000) (hn : s.stk.nextFetch ≤ 2 * s.clk.el) :
    ∃ t : State, exec .fetch s = .next t ∧
      t.calendar = (s.stk.cal.filter (fun d => d.entry != c.entry), 2 * s.clk.el + 125) := by
  have hread : (s.memReads (stkAddr c.entry) 2).2.stk = s.stk := (State.memReads_frame 2 s _).1 .stk (by decide)
  change ∃ t : State, execFetch s = .next t ∧ _
  unfold execFetch
  rw [State.powered_of_not_halted hp]
  split
  · next hnone => exact absurd (hc.symm.trans hnone) (Option.some_ne_none c)
  next d hd =>
    obtain rfl : c = d := Option.some.inj (hc.symm.trans hd)
    rw [if_pos (by simp only [ht, hn, decide_true, Bool.and_self])]
    generalize s.memReads (stkAddr c.entry) 2 = read at hread ⊢
    obtain ⟨l, u⟩ := read
    rw [← hread, ← u.entryTaken_calendar]
    dsimp only
    rw [← State.entryTaken]
    generalize u.entryTaken c (2 * s.clk.el + 125) = v
    split
    · refine ⟨_, rfl, ((State.report_frame _ _ _ _).calendar (by decide)).trans ?_⟩
      refine ((State.raise_frame _ _ _).calendar (by decide)).trans ?_
      rw [State.calendar, State.calendar, State.inc_stk]
      rfl
    · exact ⟨_, rfl, v.execute_calendar c⟩

/-- Run `r` of target `c`, with its off edge committed when it is due. -/
def State.runCommitted (s : State) (c : Nat) (r : Run) : Run :=
  if s.offCommitted c r then { r with commit := true, stop := r.off (s.minW c) } else r

theorem exec_offEdgeCommit_due {p : Fin 64} (hp : s.host.halted = false)
    (hdue : (s.target p.val).runs.any (fun r => !r.commit && s.offCommitted p.val r) = true) :
    exec (.offEdgeCommit p) s =
      .next (s.targetM p.val fun x => { x with runs := x.runs.map (s.runCommitted p.val) }) := by
  simp only [exec, execOffEdgeCommit, State.powered_of_not_halted hp, hdue, if_true]
  rfl

/-- The on edge of the first run of target `c` is placed. -/
def State.onPlaced (s : State) (c : Nat) (r : Run) (l : List Run) : State := s.targetM c fun x => { x with
  runs := { r with placed := true, reps := [] } :: l, active := true, changed := s.clk.el }

theorem exec_timedPinEdge_on {p : Fin 64} {r : Run} {l : List Run} (hp : s.host.halted = false)
    (hr : (s.target p.val).runs = r :: l) (hnew : r.placed = false) (hon : r.on ≤ (s.clk.now : Int)) :
    exec (.timedPinEdge p) s = .next (((s.onPlaced p.val r l).executedAll r.reps).padRefresh) := by
  simp only [exec, execTimedPinEdge, State.powered_of_not_halted hp, hr, hnew, Bool.not_false, hon, if_true]
  rfl

/-- The off edge of the first run of target `c` is placed at `e`, and the run is over. -/
def State.offPlaced (s : State) (c : Nat) (l : List Run) (e : Int) : State := s.targetM c fun x => { x with
  runs := l, active := false, lastOff := some e, changed := s.clk.el }

theorem exec_timedPinEdge_off {p : Fin 64} {r : Run} {l : List Run} {e : Int} (hp : s.host.halted = false)
    (hr : (s.target p.val).runs = r :: l) (hplaced : r.placed = true) (hoff : r.off (s.minW p.val) = some e)
    (he : e ≤ (s.clk.now : Int)) :
    exec (.timedPinEdge p) s = .next (((s.offPlaced p.val l e).executedAll r.offReps).padRefresh) := by
  simp only [exec, execTimedPinEdge, State.powered_of_not_halted hp, hr, hplaced, Bool.not_true, Bool.false_eq_true,
    hoff, he, if_true, if_false]
  rfl

/-- The number of the newest template instant whose submission time has come. -/
def State.templateInstant (s : State) (r : CfgRec) : Nat :=
  (s.clk.now + r.v C_TEMPLATE_LEAD - r.v C_TEMPLATE_PHASE) / (r.v C_TEMPLATE_PERIOD * 1000)

theorem State.tmplIx_of_le {r : CfgRec} (h : r.v C_TEMPLATE_PHASE ≤ s.clk.now + r.v C_TEMPLATE_LEAD) :
    s.tmplIx r = some (s.templateInstant r) := if_neg (Nat.not_lt.mpr h)

/-- Template `i` submits stake `q` for instant `k`. -/
def State.templateQueued (s : State) (i k : Nat) (q : StakeReq) : State :=
  s.stkM fun u => { u with tmplK := listSet u.tmplK i (some k), tmpl := u.tmpl ++ [q] }

theorem exec_templateSubmit_due {i : Fin 16} {r : CfgRec} {w : Nat} (hp : s.host.halted = false)
    (hr : s.crec C_TEMPLATE_INDEX i.val = some r) (hph : r.v C_TEMPLATE_PHASE ≤ s.clk.now + r.v C_TEMPLATE_LEAD)
    (hnew : listAt s.stk.tmplK i.val none ≠ some (s.templateInstant r))
    (hw : templateWidth r (assocGet s.sinks (2 * 256 + i.val)) = some w) :
    ∃ q : StakeReq, q.width = w ∧ q.target = r.v C_TEMPLATE_TARGET ∧
      exec (.templateSubmit i) s = .next (s.templateQueued i.val (s.templateInstant r) q) := by
  simp only [exec, execTemplateSubmit, State.powered_of_not_halted hp, hr, State.tmplIx_of_le hph, if_neg hnew, hw]
  exact ⟨_, rfl, rfl, rfl⟩

theorem exec_stkHGo (hp : s.host.halted = false) : exec .stkHGo s = .next s.stkHostGo := by
  simp only [exec, execStkHGo, State.powered_of_not_halted hp]
  rfl

/-- The host's stake is the last of those that wait, with the time and the target of STK_H. -/
theorem State.stkHostGo_host (s : State) : ∃ q : StakeReq, s.stkHostGo.stk.host = s.stk.host ++ [q] ∧
    q.time = (s.rd64 STK_H_TIME_LO_TIME STK_H_TIME_HI_TIME : Int) ∧ q.target = s.rd STK_H_TGT_TARGET :=
  ⟨_, rfl, rfl, rfl⟩

theorem State.stkHostGo_seq (s : State) : s.stkHostGo.rd STK_H_STAT_SEQ = (s.rd STK_H_STAT_SEQ + 1) % 2 ^ 16 :=
  s.rd_wr_same STK_H_STAT_SEQ _ (by decide) (by decide)

theorem exec_engineDisable (hp : s.host.halted = false) :
    exec .engineDisable s = .next (s.wr STK_CTRL_EN 0).stkFlushAll := by
  simp only [exec, execEngineDisable, State.powered_of_not_halted hp]
  rfl

theorem State.stkFlushAll_disabled_en (s : State) : (s.wr STK_CTRL_EN 0).stkFlushAll.rd STK_CTRL_EN = 0 :=
  (State.stkFlushAll_rdij _ STK_CTRL_EN 0 0 (by decide) (by decide) (by decide)).trans
    (s.rd_wr_same STK_CTRL_EN 0 (by decide) (by decide))

end StakeCommands

/-- Settles O15: each clause is the lemma on that command; the queue, the calendar or the target it names is read off. -/
theorem stakeOutCommandsComplete : Obligations.StakeOutCommandsComplete := by
  unfold Obligations.StakeOutCommandsComplete
  refine ⟨fun r l s hp hsrc hl hsb => ⟨_, exec_stakeIntake_tally hp hsrc hl hsb, ?_⟩,
    fun r l s hp hsrc hl => ⟨_, exec_stakeIntake_host hp hsrc hl, ?_⟩,
    fun c s hp hc ht hn => ?_,
    fun p s hp hdue => ⟨_, exec_offEdgeCommit_due hp hdue, ?_, rfl⟩,
    fun p r l s hp hr hnew hon => ⟨_, exec_timedPinEdge_on hp hr hnew hon, ?_⟩,
    fun p r l e s hp hr hplaced hoff he => ⟨_, exec_timedPinEdge_off hp hr hplaced hoff he, ?_⟩,
    fun i r w s hp hr hph hlen hnew hw => ?_,
    fun s hp => ⟨_, exec_stkHGo hp, s.stkHostGo_seq, ?_⟩,
    fun s hp => ⟨_, exec_engineDisable hp, s.stkFlushAll_disabled_en, State.stkFlushAll_cal _⟩⟩
  · have hq := (s.tallyServed l).stkIntake_intakeQueues r false
    simp only [State.intakeQueues, Prod.mk.injEq] at hq
    obtain ⟨hfifo, -, -, hlast⟩ := hq
    exact ⟨hfifo, hlast⟩
  · have hq := (s.hostServed l).stkIntake_intakeQueues r false
    simp only [State.intakeQueues, Prod.mk.injEq] at hq
    obtain ⟨-, hhost, hturn, hlast⟩ := hq
    exact ⟨hhost, hturn, hlast⟩
  · obtain ⟨t, hexec, hcal⟩ := exec_fetch_due hp hc ht hn
    rw [State.calendar, Prod.mk.injEq] at hcal
    exact ⟨t, hexec, hcal⟩
  · rw [s.target_targetM_same]
    rfl
  · rw [State.placed_target, State.onPlaced, s.target_targetM_same]
    exact ⟨rfl, rfl, rfl⟩
  · rw [State.placed_target, State.offPlaced, s.target_targetM_same]
    exact ⟨rfl, rfl, rfl⟩
  · obtain ⟨q, hwidth, htarget, ht⟩ := exec_templateSubmit_due hp hr hph hnew hw
    refine ⟨_, ht, listAt_listSet_same (hlen.symm ▸ i.isLt) _ _, ?_, ?_⟩
    · rw [← hwidth]
      exact List.map_append
    · rw [← htarget]
      exact List.map_append
  · obtain ⟨q, hq, htime, htarget⟩ := s.stkHostGo_host
    rw [hq, List.map_append, List.map_append, ← htime, ← htarget]
    exact ⟨rfl, rfl⟩

end Sys2Proof.Machine

namespace Sys2Proof.Machine

open Sys2Proof

/-! ## Valve links (R278 to R286) -/

section ValveLinks

variable {s : State} {l : Fin 4}

/-- The stake-out unit, whose window holds the valve links, is present in every variant. -/
theorem State.winPresent_stakeOut (s : State) : s.winPresent 12 = true := by
  unfold State.winPresent
  split <;> rfl

theorem State.vlinkM_rdij (s : State) (k : Nat) (f : VLink → VLink) (g : Fld) (i j : Nat) :
    (s.vlinkM k f).rdij g i j = s.rdij g i j := rfl

/-! ### Frames -/

/-- The number of the last frame of link `k`. -/
def State.lastFrame (s : State) (k : Nat) : Option Nat := (listAt s.stk.links k {}).last

theorem State.lastFrame_congr {t : State} (h : t.stk.links = s.stk.links) (k : Nat) : t.lastFrame k = s.lastFrame k := by
  rw [State.lastFrame, State.lastFrame, h]

theorem State.vlinkM_lastFrame (s : State) (k : Nat) {f : VLink → VLink} (h : ∀ x, (f x).last = x.last) :
    (s.vlinkM k f).lastFrame k = s.lastFrame k :=
  (listAt_listMod_part s.stk.links k f {} VLink.last (h _)).trans (h _)

/-- A placed edge changes its target, and no link. -/
theorem State.placeEdge_links (s : State) (e : VEdge) : (s.placeEdge e).stk.links = s.stk.links := by
  have hreported : ∀ (u : State) p, (u.executedAll p).stk = u.stk := fun u p => (u.executedAll_frame p).1 .stk (by decide)
  unfold State.placeEdge
  split
  · rfl
  · dsimp only
    split
    · rw [hreported]
      rfl
    · rw [hreported]
      rfl

theorem State.placeEdges_lastFrame (s : State) (l : List VEdge) (k : Nat) :
    (l.foldl (fun s e => s.placeEdge e) s).lastFrame k = s.lastFrame k :=
  foldl_keeps (g := fun u => u.lastFrame k) (fun u e => State.lastFrame_congr (u.placeEdge_links e) k) l s

/-- Link `k` has had its frame of microsecond `n`. -/
def State.frameNoted (s : State) (k n : Nat) : State := s.vlinkM k fun x => { x with last := some n }

theorem State.frameNoted_lastFrame (s : State) {k : Nat} (n : Nat) (h : k < s.stk.links.length) :
    (s.frameNoted k n).lastFrame k = some n := congrArg VLink.last (listAt_listMod_same s.stk.links k _ {} h)

/-- The frame of this microsecond: close words while the link is inhibited, else the words due; then it is sent. -/
theorem exec_valveLinkFrame_due (hp : s.host.halted = false) (hhas : s.has C_VLINK_LINK l.val = true)
    (hen : s.rdi VL_CTRL_EN l.val = 1) (hnew : s.lastFrame l.val ≠ some (s.clk.now / 1000)) (hsb : s.standby = false) :
    ∃ (u : State) (words : List Nat), exec (.valveLinkFrame l) s = .next (u.emit (.valveFrame l.val (s.clk.now / 1000)
      (s.clk.now / 1000 * 1000 + 100 - s.cv C_VLINK_CABLE_NS l.val) words)) ∧
      u.lastFrame l.val = (s.frameNoted l.val (s.clk.now / 1000)).lastFrame l.val := by
  have hnew' : ((listAt s.stk.links l.val {}).last == some (s.clk.now / 1000)) = false := beq_eq_false_iff_ne.mpr hnew
  simp only [exec, execValveLinkFrame, State.powered_of_not_halted hp, hhas, hen, hnew', hsb, Bool.not_true, one_ne_zero,
    decide_false, Bool.or_self, Bool.false_eq_true, if_false]
  rw [← State.frameNoted]
  generalize s.frameNoted l.val (s.clk.now / 1000) = s0
  split
  · refine ⟨_, _, rfl, ?_⟩
    rw [State.placeEdges_lastFrame]
    exact s0.vlinkM_lastFrame l.val fun _ => rfl
  · refine ⟨_, _, rfl, ?_⟩
    have hspill : ∀ (u : State) f k w e, ((u.inci f l.val k).raise w e).lastFrame l.val = u.lastFrame l.val :=
      fun u f k w e => State.lastFrame_congr (congrArg StkUnit.links ((State.raise_frame _ w e).1 .stk (by decide))) _
    split
    · rw [hspill, State.placeEdges_lastFrame]
      exact s0.vlinkM_lastFrame l.val fun _ => rfl
    · rw [State.placeEdges_lastFrame]
      exact s0.vlinkM_lastFrame l.val fun _ => rfl

/-! ### Return frames -/

theorem exec_returnFrame_bad {b : List Nat} (hp : s.host.halted = false) (h : leAt b 13 2 ≠ crc16ccitt (slice b 0 13)) :
    exec (.returnFrame l b) s = .next (s.inci VL_ERR_CRC l.val 1) := by
  simp only [exec, execReturnFrame, State.powered_of_not_halted hp, bne_iff_ne.mpr h, if_true]
  rfl

/-- The registers of link `k` take the contents of a return frame. -/
def State.returnShown (s : State) (k : Nat) (b : List Nat) : State :=
  (((((((s.wri VL_STAT_STATUS k (leAt b 4 1)).wri VL_STAT_AGE k 0).wri VL_STAT_FAULT k (bitsOf (leAt b 4 1) 3 3)).wri
    VL_STAT_LOST k 0).inci VL_ERR_REMOTE k (leAt b 3 1)).wri VL_FAULT_OUTSTANDING k (leAt b 7 2)).wri VL_ENV_SUPPLY k
    (leAt b 9 2)).wri VL_ENV_TEMP k (leAt b 11 2)

/-- A fault that the frame reports goes to the fault map and VL_FAULT, and to no other field. -/
theorem exec_returnFrame_good {b : List Nat} (hp : s.host.halted = false) (h : leAt b 13 2 = crc16ccitt (slice b 0 13)) :
    ∃ t : State, exec (.returnFrame l b) s = .next t ∧ ∀ f : Fld, f.outside 0x20000000080000000000401 = true →
      STK_VFMAP_FAULT.apart f = true → VL_FAULT_CODE.apart f = true → VL_FAULT_VALVE.apart f = true →
      t.rdi f l.val = (s.returnShown l.val b).rdi f l.val := by
  have hcrc : (leAt b 13 2 != crc16ccitt (slice b 0 13)) = false := bne_eq_false_iff_eq.mpr h
  simp only [exec, execReturnFrame, State.powered_of_not_halted hp, hcrc, Bool.false_eq_true, if_false]
  rw [← State.returnShown]
  generalize s.returnShown l.val b = u
  split
  · exact ⟨_, rfl, fun f _ _ _ _ => u.vlinkM_rdij l.val _ f l.val 0⟩
  · refine ⟨_, rfl, fun f ho hmap hcode hvalve => ?_⟩
    refine (State.rdij_raise _ _ _ f _ 0 ho).trans ?_
    refine (State.rdij_wrij_apart _ _ _ _ _ _ _ _ hvalve).trans ?_
    refine (State.rdij_wrij_apart _ _ _ _ _ _ _ _ hcode).trans ?_
    refine (State.rdij_wrij_apart _ _ _ _ _ _ _ _ hmap).trans ?_
    exact u.vlinkM_rdij l.val _ f l.val 0

theorem State.returnShown_temp (s : State) (k : Nat) (b : List Nat) :
    (s.returnShown k b).rdi VL_ENV_TEMP k = leAt b 11 2 % 65536 :=
  State.rdij_wrij_same _ VL_ENV_TEMP k 0 _ (by decide) (by decide)

theorem State.returnShown_lost (s : State) (k : Nat) (b : List Nat) : (s.returnShown k b).rdi VL_STAT_LOST k = 0 := by
  iterate 4 refine (State.rdij_wrij_apart _ _ _ _ _ _ _ _ (by decide)).trans ?_
  exact State.rdij_wrij_same _ VL_STAT_LOST k 0 0 (by decide) (by decide)

theorem State.returnShown_status (s : State) (k : Nat) (b : List Nat) :
    (s.returnShown k b).rdi VL_STAT_STATUS k = leAt b 4 1 % 256 := by
  iterate 7 refine (State.rdij_wrij_apart _ _ _ _ _ _ _ _ (by decide)).trans ?_
  exact State.rdij_wrij_same _ VL_STAT_STATUS k 0 _ (by decide) (by decide)

theorem exec_vllost_due (hp : s.host.halted = false) (hhas : s.has C_VLINK_LINK l.val = true)
    (hlost : s.rdi VL_STAT_LOST l.val = 0)
    (hdue : (listAt s.stk.links l.val {}).lastRet + 1000 * s.cv C_VLINK_RET_TIMEOUT l.val ≤ s.clk.el) :
    exec (.vllost l) s = .next ((s.wri VL_STAT_LOST l.val 1).raise 12 (8 + l.val)) := by
  simp only [exec, execVllost, State.powered_of_not_halted hp, hhas, hlost, hdue, beq_self_eq_true, decide_true,
    Bool.and_self, if_true]
  rfl

/-! ### Enables -/

theorem exec_vlEnableWrite (hp : s.host.halted = false) (l : Fin 4) (e : Bool) :
    exec (.vlEnableWrite l e) s = .next (s.vlEnable l.val e) := by
  simp only [exec, execVlEnableWrite, State.powered_of_not_halted hp]
  rfl

theorem State.vlShow_rdij (s : State) {f : Fld} (h : VL_STAT_SENDING.apart f = true) (i j : Nat) :
    s.vlShow.rdij f i j = s.rdij f i j :=
  foldl_keeps (g := fun u => u.rdij f i j) (fun _ _ => State.rdij_wrij_apart _ _ _ _ _ _ _ _ h) _ s

/-- The enable is written and SENDING follows. -/
theorem State.vlShow_wri_en (s : State) (k v : Nat) : (s.wri VL_CTRL_EN k v).vlShow.rdi VL_CTRL_EN k = v % 2 :=
  (State.vlShow_rdij _ (by decide) k 0).trans (State.rdij_wrij_same s VL_CTRL_EN k 0 v (by decide) (by decide))

/-- Starting, stopping with its flush, and a write of the value that stands. -/
theorem State.vlEnable_en (s : State) (l : Fin 4) (e : Bool) : (s.vlEnable l.val e).rdi VL_CTRL_EN l.val = b2n e := by
  have hlt : s.rdi VL_CTRL_EN l.val < 2 := s.rdij_lt VL_CTRL_EN l.val 0
  have haddr : ∀ l : Fin 4, VL_CTRL_EN.addr l.val 0 / 0x10000 = 12 ∧ isEvt (VL_CTRL_EN.addr l.val 0) = false ∧
      VL_CTRL_EN.addr l.val 0 ∉ flushRegs := by decide
  obtain ⟨hw, hevt, hmem⟩ := haddr l
  unfold State.vlEnable
  dsimp only
  split
  · next hsame =>
    cases e with
    | true => simpa [b2n] using hsame
    | false =>
      have hne : s.rdi VL_CTRL_EN l.val ≠ 1 := by simpa using hsame
      have hzero : s.rdi VL_CTRL_EN l.val = 0 := by omega
      exact hzero
  · cases e with
    | true =>
      rw [if_pos rfl]
      exact (State.vlinkM_rdij _ _ _ _ _ _).trans (s.vlShow_wri_en l.val 1)
    | false =>
      rw [if_neg Bool.false_ne_true]
      refine (State.stkFlush_rdij _ _ VL_CTRL_EN l.val 0 hw hevt hmem).trans ?_
      exact (State.vlinkM_rdij _ _ _ _ _ _).trans (s.vlShow_wri_en l.val 0)

end ValveLinks

/-- Settles O16: each clause is the lemma on that command, with the link and its registers read off. -/
theorem valveLinkCommandsComplete : Obligations.ValveLinkCommandsComplete := by
  unfold Obligations.ValveLinkCommandsComplete
  refine ⟨fun l s hp hhas hen hlen hnew hsb => ?_,
    fun l b s hp h => ⟨_, exec_returnFrame_bad hp h, s.rdi_inci_same VL_ERR_CRC l.val 1 (by decide) (by decide), rfl⟩,
    fun l b s hp h => ?_,
    fun l s hp hhas hlost hdue => ⟨_, exec_vllost_due hp hhas hlost hdue, ?_,
      State.raise_bit (s.wri VL_STAT_LOST l.val 1) 12 _ s.winPresent_stakeOut hp (by omega)⟩,
    fun l e s hp => ⟨_, exec_vlEnableWrite hp l e, s.vlEnable_en l e⟩⟩
  · obtain ⟨u, words, ht, hlast⟩ := exec_valveLinkFrame_due hp hhas hen hnew hsb
    exact ⟨_, ht, hlast.trans (s.frameNoted_lastFrame _ (hlen.symm ▸ l.isLt)), words, rfl⟩
  · obtain ⟨t, ht, hshown⟩ := exec_returnFrame_good (l := l) hp h
    refine ⟨t, ht, ?_, ?_, ?_⟩
    · rw [hshown VL_STAT_STATUS (by decide) (by decide) (by decide) (by decide), State.returnShown_status]
    · rw [hshown VL_STAT_LOST (by decide) (by decide) (by decide) (by decide), State.returnShown_lost]
    · rw [hshown VL_ENV_TEMP (by decide) (by decide) (by decide) (by decide), State.returnShown_temp]
  · refine (State.rdij_raise _ _ _ VL_STAT_LOST l.val 0 (by decide)).trans ?_
    exact State.rdij_wrij_same s VL_STAT_LOST l.val 0 1 (by decide) (by decide)

end Sys2Proof.Machine

/-! # Settled statements on the sensor front end: the frames of the signal, field and sensor commands, the fast paths and
sweeps, the precision channels -/

namespace Sys2Proof.Machine

open Sys2Proof

/-- Settles O57: each clause's list covers the mask of its command. -/
theorem signalFieldAndSensorCommandsFrame : Obligations.SignalFieldAndSensorCommandsFrame := by
  unfold Obligations.SignalFieldAndSensorCommandsFrame
  repeat' apply And.intro
  all_goals
    intros
    exact exec_changesOnly _ _ _ (by dsimp only [Instr.frameMask]; decide)

/-! ## The state of a front end across its operations (R302, R312, R320) -/

section FrontEnd

variable {α : Type} {s t : State} {d : Nat}

theorem State.afeD_congr (h : t.afe = s.afe) (e : Nat) : t.afeD e = s.afeD e :=
  congrArg (fun l : List AfeDie => listAt l e {}) h

/-- The front end of a die stays outside a frame's mask. -/
theorem Frame.afeD {m : Nat} (h : Frame m s t) (hm : m.testBit Part.afe.ix = false) (e : Nat) : t.afeD e = s.afeD e :=
  State.afeD_congr (h.1 .afe hm) e

theorem State.afeD_afeM_same (s : State) (f : AfeDie → AfeDie) (hd : d < s.afe.length) :
    (s.afeM d f).afeD d = f (s.afeD d) := listAt_listMod_same s.afe d f {} hd

/-- Part `g` of every item stays when an item is changed in place by a change that leaves this part. -/
theorem listAt_listMod_keeps {β : Type} (l : List β) (k : Nat) {f : β → β} (v : β) {g : β → α} (h : ∀ x, g (f x) = g x)
    (i : Nat) : g (listAt (listMod l k f) i v) = g (listAt l i v) := by
  by_cases hik : i = k
  · subst hik
    exact (listAt_listMod_part l i f v g (h v)).trans (h _)
  · rw [listAt_listMod_ne l f v hik]

/-- A change that leaves part `g` of every front end alone. -/
theorem State.afeM_keeps (s : State) (d : Nat) {f : AfeDie → AfeDie} {g : AfeDie → α} (h : ∀ x, g (f x) = g x)
    (e : Nat) : g ((s.afeM d f).afeD e) = g (s.afeD e) := listAt_listMod_keeps s.afe d {} h e

theorem State.length_afe_afeM (s : State) (e : Nat) (f : AfeDie → AfeDie) : (s.afeM e f).afe.length = s.afe.length :=
  length_listMod _ _ _

/-- An event leaves a field outside the event groups as it was. -/
theorem State.rdij_raise_of_not_evt (s : State) (w e : Nat) {f : Fld} {i j : Nat} (h : isEvt (f.addr i j) = false) :
    (s.raise w e).rdij f i j = s.rdij f i j :=
  congrArg (bitsOf · f.hi f.lo) (s.raise_keepsRegs w e _ h List.not_mem_nil)

@[inherit_doc State.rdij_raise_of_not_evt]
theorem State.rdij_raiseIf_of_not_evt (s : State) (c : Bool) (w e : Nat) {f : Fld} {i j : Nat}
    (h : isEvt (f.addr i j) = false) : (s.raiseIf c w e).rdij f i j = s.rdij f i j := by
  unfold State.raiseIf
  split
  · exact s.rdij_raise_of_not_evt w e h
  · rfl

/-! ### Fast paths -/

theorem State.path_congr (h : t.afeD d = s.afeD d) (j : Nat) : t.path d j = s.path d j :=
  congrArg (fun x : AfeDie => listAt x.paths j {}) h

theorem State.path_wrij (s : State) (f : Fld) (i k v j : Nat) : (s.wrij f i k v).path d j = s.path d j := rfl

/-- Path `j` of die `d` is one of the state's. -/
structure State.HasPath (s : State) (d j : Nat) : Prop where
  die : d < s.afe.length
  path : j < (s.afeD d).paths.length

theorem State.HasPath.of_afe {j : Nat} (h : s.HasPath d j) (e : t.afe = s.afe) : t.HasPath d j :=
  ⟨e ▸ h.die, (State.afeD_congr e d).symm ▸ h.path⟩

theorem State.path_pathM_same {j : Nat} (h : s.HasPath d j) (f : AfePath → AfePath) :
    (s.pathM d j f).path d j = f (s.path d j) := by
  rw [State.path, State.pathM, s.afeD_afeM_same _ h.die]
  exact listAt_listMod_same _ j f {} h.path

theorem State.path_pathM_ne (s : State) (f : AfePath → AfePath) {j k : Nat} (h : j ≠ k) :
    (s.pathM d k f).path d j = s.path d j :=
  s.afeM_keeps d (g := fun x => listAt x.paths j {}) (fun _ => listAt_listMod_ne _ f {} h) d

theorem State.path_sine (s : State) {j : Nat} (o : Option SineRun) :
    (s.afeM d fun x => { x with sine := o }).path d j = s.path d j :=
  s.afeM_keeps d (f := fun x => { x with sine := o }) (g := fun x => listAt x.paths j {}) (fun _ => rfl) d

theorem State.length_paths_pathM (s : State) (k : Nat) (f : AfePath → AfePath) :
    ((s.pathM d k f).afeD d).paths.length = (s.afeD d).paths.length :=
  s.afeM_keeps d (g := fun x => x.paths.length) (fun _ => length_listMod _ _ _) d

theorem State.HasPath.pathM {j : Nat} (h : s.HasPath d j) (k : Nat) (g : AfePath → AfePath) :
    (s.pathM d k g).HasPath d j :=
  ⟨(s.length_afe_afeM d _).symm ▸ h.die, (s.length_paths_pathM k g).symm ▸ h.path⟩

/-! ### Settling -/

theorem State.settling_wrij (s : State) {i : Nat} (hi : i < 16) (b : Bool) :
    (s.wrij AFE_STAT_SETTLING 0 d (setBit (s.rdij AFE_STAT_SETTLING 0 d) i b)).settling d i = b := by
  have hlt := setBit_lt _ b hi (s.rdij_lt AFE_STAT_SETTLING 0 d)
  rw [State.settling, State.rdij_wrij_same _ _ _ _ _ (by decide) (by decide)]
  exact (congrArg (bitAt · i) (Nat.mod_eq_of_lt hlt)).trans (bitAt_setBit_same _ i b)

theorem State.settleStart_settling (s : State) {i : Nat} (hi : i < 16) : (s.settleStart d i).settling d i = true :=
  (s.afeChM d i _).settling_wrij hi true

/-- Settling changes the channels of a front end alone. -/
theorem State.settleStart_keeps (s : State) (d i : Nat) {g : AfeDie → α} (h : ∀ x c, g { x with chans := c } = g x)
    (e : Nat) : g ((s.settleStart d i).afeD e) = g (s.afeD e) := s.afeM_keeps d (fun x => h x _) e

theorem State.settleStart_path (s : State) (i j : Nat) : (s.settleStart d i).path d j = s.path d j :=
  s.settleStart_keeps d i (g := fun x => listAt x.paths j {}) (fun _ _ => rfl) d

end FrontEnd

section FastPathCommands

variable {s : State} {d : Fin 2} {j : Fin 4}

/-! ## Fast samples and charge resets (R312, R318, R319) -/

theorem exec_fastSample_taken {hi lo : BitVec 16} {i : Nat} {f r : CfgRec} (hp : s.host.halted = false)
    (hpath : s.HasPath d.val j.val) (hc : s.pathChan d.val j.val = some (i, f, r)) (hm : r.v C_CHANNEL_MODE ≠ 7)
    (hdue : (s.path d.val j.val).lastAt + 500 ≤ s.clk.el) (hd : s.diePresent d.val = true) :
    ∃ t : State, exec (.fastSample d j hi lo) s = .next t ∧ (t.path d.val j.val).lastAt = s.clk.el ∧
      (t.path d.val j.val).lo = lo.toInt.natAbs ∧ (t.path d.val j.val).n =
        if f.v C_FAST_DECIM ≤ (s.path d.val j.val).n + 1 then 0 else (s.path d.val j.val).n + 1 := by
  have hkeep : ∀ (u : State) val flags stamp, (u.afeSample d.val i val flags stamp).path d.val j.val = u.path d.val j.val :=
    fun u val flags stamp => State.path_congr ((u.afeSample_frame d.val i val flags stamp).afeD (by decide) _) _
  have hset : ∀ m g, ((s.wrij AFE_GMATCH_M j.val d.val m).pathM d.val j.val g).path d.val j.val = g (s.path d.val j.val) :=
    fun m g => State.path_pathM_same (hpath.of_afe (State.wrij_afe s _ _ _ _)) g
  simp only [exec, execFastSample, State.powered_of_not_halted hp, hc, hm, hd, decide_eq_true_eq, Nat.not_lt.mpr hdue,
    decide_false, Bool.not_true, Bool.or_self, Bool.false_eq_true, if_false]
  split
  · refine ⟨_, rfl, ?_⟩
    rw [hkeep, hset]
    exact ⟨rfl, rfl, rfl⟩
  · refine ⟨_, rfl, ?_⟩
    rw [hset]
    exact ⟨rfl, rfl, rfl⟩

theorem State.pathChan_eq_some {d j i : Nat} {f r : CfgRec} (h : s.pathChan d j = some (i, f, r)) :
    s.fastRec d j = some f ∧ i = f.v C_FAST_CHANNEL % 16 := by
  unfold State.pathChan at h
  split at h
  · cases h
  · next g hg =>
    dsimp only at h
    split at h
    · split at h
      · cases h
        exact ⟨hg, rfl⟩
      · cases h
    · cases h

theorem State.pathChan_lt {d j i : Nat} {f r : CfgRec} (h : s.pathChan d j = some (i, f, r)) : i < 16 := by
  obtain ⟨-, rfl⟩ := State.pathChan_eq_some h
  exact Nat.mod_lt _ (by decide)

/-- The duration of a reset of charge amplifier `j` (R312). -/
def State.resetNs (s : State) (d j : Nat) : Nat := ((s.fastRec d j).map (·.v C_FAST_QRESET_NS)).getD C_FAST_QRESET_NS.dflt

theorem State.resetNs_of_pathChan {d j i : Nat} {f r : CfgRec} (h : s.pathChan d j = some (i, f, r)) :
    s.resetNs d j = f.v C_FAST_QRESET_NS := by
  obtain ⟨hf, -⟩ := State.pathChan_eq_some h
  rw [State.resetNs, hf]
  rfl

/-- A reset of charge amplifier `j` has started, counted once. -/
def State.resetBegun (s : State) (d j : Nat) : State := (s.incij AFE_QRESET_ALL j d 1).pathM d j fun x => { x with
  rst := some (s.clk.el, s.clk.el + s.resetNs d j), above := none }

/-- A reset above the threshold has started (R312): counted as such as well, with its event. -/
def State.thresholdBegun (s : State) (d j : Nat) : State :=
  ((s.resetBegun d j).incij AFE_QRESET_THRESHOLD j d 1).raise (21 + d) 7

/-- A reset that starts at one time starts once. -/
theorem State.qStart_eq (s : State) (d j : Nat) (thr : Bool) : s.qStart d j thr =
    if (s.path d j).rst.any (·.1 == s.clk.el) then s
    else if thr then s.thresholdBegun d j else s.resetBegun d j := by
  unfold State.qStart State.thresholdBegun State.resetBegun State.resetNs
  cases (s.path d j).rst <;> cases s.fastRec d j <;> rfl

theorem State.qStart_of_idle {d j : Nat} (h : (s.path d j).rst = none) (thr : Bool) : s.qStart d j thr =
    if thr then s.thresholdBegun d j else s.resetBegun d j := by
  rw [State.qStart_eq, h]
  rfl

theorem State.resetBegun_path {d j : Nat} (h : s.HasPath d j) : (s.resetBegun d j).path d j = { s.path d j with
    rst := some (s.clk.el, s.clk.el + s.resetNs d j), above := none } :=
  State.path_pathM_same (h.of_afe (State.incij_afe s _ _ _ _)) _

/-- A counter field grows, saturating at its width. -/
theorem State.rdij_incij_same (s : State) (f : Fld) (i j k : Nat) (h : f.lo ≤ f.hi) (w : f.hi < 32) :
    (s.incij f i j k).rdij f i j = min (s.rdij f i j + k) (2 ^ (f.hi + 1 - f.lo) - 1) := by
  have hpos : 0 < 2 ^ (f.hi + 1 - f.lo) := by positivity
  have hlt : min (s.rdij f i j + k) (2 ^ (f.hi + 1 - f.lo) - 1) < 2 ^ (f.hi + 1 - f.lo) := by omega
  exact (State.rdij_wrij_same s f i j _ h w).trans (Nat.mod_eq_of_lt hlt)

theorem State.resetBegun_all (s : State) (d j : Nat) :
    (s.resetBegun d j).rdij AFE_QRESET_ALL j d = min (s.rdij AFE_QRESET_ALL j d + 1) 65535 :=
  s.rdij_incij_same AFE_QRESET_ALL j d 1 (by decide) (by decide)

theorem State.thresholdBegun_path (s : State) (d j : Nat) :
    (s.thresholdBegun d j).path d j = (s.resetBegun d j).path d j :=
  State.path_congr ((State.raise_frame _ _ _).afeD (by decide) d) j

theorem State.thresholdBegun_count (s : State) (d : Fin 2) (j : Fin 4) :
    (s.thresholdBegun d.val j.val).rdij AFE_QRESET_THRESHOLD j.val d.val =
      min (s.rdij AFE_QRESET_THRESHOLD j.val d.val + 1) 65535 := by
  have hevt : ∀ (d : Fin 2) (j : Fin 4), isEvt (AFE_QRESET_THRESHOLD.addr j.val d.val) = false := by decide
  have happart : (s.resetBegun d.val j.val).rdij AFE_QRESET_THRESHOLD j.val d.val = s.rdij AFE_QRESET_THRESHOLD j.val d.val :=
    State.rdij_wrij_apart s AFE_QRESET_ALL _ _ _ _ _ _ (by decide)
  rw [State.thresholdBegun, State.rdij_raise_of_not_evt _ _ _ (hevt d j),
    State.rdij_incij_same _ _ _ _ _ (by decide) (by decide), happart]
  rfl

/-- The periodic reset of path `j` is due, and begins. -/
theorem exec_periodicChargeReset_due {i : Nat} {f r : CfgRec} (hp : s.host.halted = false) (hpath : s.HasPath d.val j.val)
    (hc : s.pathChan d.val j.val = some (i, f, r)) (hm : r.v C_CHANNEL_MODE = 6)
    (hper : bitAt (f.v C_FAST_QRESET_MODE) 0 = true)
    (hdue : (s.path d.val j.val).perAt + f.v C_FAST_QRESET_PERIOD * 1000000 ≤ s.clk.el)
    (hlo : 20 * (s.path d.val j.val).lo ≤ 32768) (hidle : (s.path d.val j.val).rst = none) :
    exec (.periodicChargeReset d j) s = .next ((s.pathM d.val j.val fun x => { x with
      perAt := (s.path d.val j.val).perAt + f.v C_FAST_QRESET_PERIOD * 1000000 }).resetBegun d.val j.val) := by
  have hidle' : ((s.pathM d.val j.val fun x => { x with
      perAt := (s.path d.val j.val).perAt + f.v C_FAST_QRESET_PERIOD * 1000000 }).path d.val j.val).rst = none :=
    (congrArg AfePath.rst (State.path_pathM_same hpath _)).trans hidle
  simp only [exec, execPeriodicChargeReset, State.powered_of_not_halted hp, hc, hm, hper,
    Nat.not_lt.mpr hdue, Nat.not_lt.mpr hlo, decide_false, bne_self_eq_false, Bool.not_true, Bool.or_self,
    Bool.false_eq_true, if_false]
  rw [State.qStart_of_idle hidle', if_neg Bool.false_ne_true]
  rfl

theorem exec_thresholdChargeReset_due {i e : Nat} {f r : CfgRec} (hp : s.host.halted = false)
    (hc : s.pathChan d.val j.val = some (i, f, r)) (hm : r.v C_CHANNEL_MODE = 6)
    (hthr : bitAt (f.v C_FAST_QRESET_MODE) 1 = true) (ha : (s.path d.val j.val).above = some e)
    (hdue : e + f.v C_FAST_QRESET_DWELL * 1000 ≤ s.clk.el) (hidle : (s.path d.val j.val).rst = none) :
    exec (.thresholdChargeReset d j) s = .next (s.thresholdBegun d.val j.val) := by
  simp only [exec, execThresholdChargeReset, State.powered_of_not_halted hp, hc, ha, hm, hthr, decide_eq_true hdue,
    beq_self_eq_true, Bool.and_self, if_true]
  rw [State.qStart_of_idle hidle, if_pos rfl]
  rfl

theorem exec_chargeResetEnd_due {x y : Nat} (hp : s.host.halted = false) (hr : (s.path d.val j.val).rst = some (x, y))
    (hy : y ≤ s.clk.el) : exec (.chargeResetEnd d j) s =
      .next (s.pathM d.val j.val fun x => { x with rst := none, openAt := some s.clk.el }) := by
  simp only [exec, execChargeResetEnd, State.powered_of_not_halted hp, hr, if_pos hy]
  rfl

/-! ### Resets on command -/

/-- What a reset of path `j` goes by is the same in `u` as in `s`. -/
structure State.SamePath (u s : State) (d j : Nat) : Prop where
  has : u.HasPath d j
  path : u.path d j = s.path d j
  count : u.rdij AFE_QRESET_ALL j d = s.rdij AFE_QRESET_ALL j d
  clk : u.clk = s.clk
  cfg : u.fastRec d j = s.fastRec d j

/-- The reset counters of a die's paths are different registers. -/
theorem qresetAll_addr_ne {j k : Nat} (hj : j < 4) (hk : k < 4) (h : k ≠ j) (d : Nat) :
    AFE_QRESET_ALL.addr j d ≠ AFE_QRESET_ALL.addr k d := by
  simp only [Fld.addr, AFE_QRESET_ALL]
  omega

theorem State.resetBegun_path_other {d j k : Nat} (h : k ≠ j) : (s.resetBegun d k).path d j = s.path d j :=
  State.path_pathM_ne (s.incij AFE_QRESET_ALL k d 1) _ h.symm

theorem State.resetBegun_all_other {d j k : Nat} (hj : j < 4) (hk : k < 4) (h : k ≠ j) :
    (s.resetBegun d k).rdij AFE_QRESET_ALL j d = s.rdij AFE_QRESET_ALL j d :=
  State.rdij_wrij_ne s _ _ _ _ _ _ _ (qresetAll_addr_ne hj hk h d)

/-- Path `k` is reset when bit `k` of `m` is set (R312). -/
def State.resetAsked (d m : Nat) (s : State) (k : Nat) : State := if bitAt m k then s.qStart d k false else s

theorem State.HasPath.resetBegun {d j : Nat} (h : s.HasPath d j) (k : Nat) : (s.resetBegun d k).HasPath d j :=
  (h.of_afe (State.incij_afe s _ _ _ _)).pathM k _

/-- A reset of another path. -/
theorem State.SamePath.resetAsked {u : State} {d j k : Nat} (h : u.SamePath s d j) (hj : j < 4) (hk : k < 4)
    (hne : k ≠ j) (m : Nat) : (u.resetAsked d m k).SamePath s d j := by
  rw [State.resetAsked, State.qStart_eq]
  split
  · split
    · exact h
    · exact ⟨h.has.resetBegun k, (State.resetBegun_path_other hne).trans h.path,
        (State.resetBegun_all_other hj hk hne).trans h.count, h.clk, h.cfg⟩
  · exact h

theorem State.SamePath.resetBegun {u : State} {d j : Nat} (h : u.SamePath s d j) (hs : s.HasPath d j) :
    (u.resetBegun d j).SamePath (s.resetBegun d j) d j := by
  refine ⟨h.has.resetBegun j, ?_, ?_, h.clk, h.cfg⟩
  · rw [State.resetBegun_path h.has, State.resetBegun_path hs, h.path, h.clk, State.resetNs, State.resetNs, h.cfg]
  · rw [State.resetBegun_all, State.resetBegun_all, h.count]

/-- A fold over distinct items meets item `x` once: `P` up to it, `Q` from it on. -/
theorem foldl_meets {α β : Type} {f : β → α → β} {P Q : β → Prop} {l : List α} {x : α} (hn : l.Nodup) (hx : x ∈ l)
    (before : ∀ u, ∀ y ∈ l, y ≠ x → P u → P (f u y)) (meets : ∀ u, P u → Q (f u x))
    (after : ∀ u, ∀ y ∈ l, y ≠ x → Q u → Q (f u y)) {s : β} (h : P s) : Q (l.foldl f s) := by
  induction l generalizing s with
  | nil => exact absurd hx List.not_mem_nil
  | cons z l ih =>
    obtain ⟨hz, hn⟩ := List.nodup_cons.mp hn
    by_cases hxz : x = z
    · subst hxz
      exact List.foldlRecOn l f (meets s h) fun u hu y hy =>
        after u y (List.mem_cons_of_mem _ hy) (fun e => hz (e ▸ hy)) hu
    · exact ih hn (List.mem_of_ne_of_mem hxz hx) (fun u y hy => before u y (List.mem_cons_of_mem _ hy))
        (fun u y hy => after u y (List.mem_cons_of_mem _ hy)) (before s z List.mem_cons_self (Ne.symm hxz) h)

theorem exec_qreset_present {m : BitVec 4} (hp : s.host.halted = false) (hd : s.diePresent d.val = true) :
    exec (.qreset d m) s = .next ((List.range 4).foldl (State.resetAsked d.val m.toNat) s) := by
  simp only [exec, execQreset, State.powered_of_not_halted hp, hd, if_true]
  rfl

/-- A reset that is asked for starts, and the other paths' resets leave it. -/
theorem State.foldl_resetAsked {d j m : Nat} (hj : j < 4) (hpath : s.HasPath d j) (hm : bitAt m j = true)
    (hidle : (s.path d j).rst = none) :
    ((List.range 4).foldl (State.resetAsked d m) s).SamePath (s.resetBegun d j) d j := by
  have other : ∀ (v u : State), ∀ k ∈ List.range 4, k ≠ j → u.SamePath v d j → (u.resetAsked d m k).SamePath v d j :=
    fun v u k hk hne hu => hu.resetAsked hj (List.mem_range.mp hk) hne m
  have starts : ∀ u : State, u.SamePath s d j → (u.resetAsked d m j).SamePath (s.resetBegun d j) d j := by
    intro u hu
    rw [State.resetAsked, if_pos hm, State.qStart_of_idle (hu.path ▸ hidle), if_neg Bool.false_ne_true]
    exact hu.resetBegun hpath
  exact foldl_meets (P := (State.SamePath · s d j)) (Q := (State.SamePath · (s.resetBegun d j) d j)) List.nodup_range
    (List.mem_range.mpr hj) (other s) starts (other _) ⟨hpath, rfl, rfl, rfl, rfl⟩

/-! ## Moisture sweeps (R310, R311) -/

/-- Does a sweep of path `j` run? -/
def State.sweepRuns (s : State) (d j : Nat) : Bool :=
  match (s.afeD d).sine with
  | some run => run.path == j
  | none => false

/-- A sweep of path `k` is asked for by bit `k` of `m` (R310). -/
def State.sweepAsked (d m : Nat) (s : State) (k : Nat) : State :=
  match s.pathChan d k with
  | some (_, _, r) =>
    if bitAt m k && r.v C_CHANNEL_MODE == 7 && !s.sweepRuns d k then s.pathM d k fun x => { x with wait := true } else s
  | none => s

theorem exec_sweep {m : BitVec 4} (hp : s.host.halted = false) :
    exec (.sweep d m) s = .next (((List.range 4).foldl (State.sweepAsked d.val m.toNat) s).sineNext d.val) :=
  State.powered_of_not_halted hp _

/-- A sweep of path `j` can be asked for: its moisture channel is on, and the sine generator is idle. -/
structure State.SweepReady (s : State) (d j i : Nat) (f r : CfgRec) : Prop where
  has : s.HasPath d j
  chan : s.pathChan d j = some (i, f, r)
  idle : (s.afeD d).sine = none

theorem State.sine_pathM (s : State) (d k : Nat) (g : AfePath → AfePath) :
    ((s.pathM d k g).afeD d).sine = (s.afeD d).sine :=
  s.afeM_keeps d (f := fun x => { x with paths := listMod x.paths k g }) (g := AfeDie.sine) (fun _ => rfl) d

theorem State.SweepReady.sweepAsked {d j i : Nat} {f r : CfgRec} (h : s.SweepReady d j i f r) (m k : Nat) :
    (s.sweepAsked d m k).SweepReady d j i f r := by
  unfold State.sweepAsked
  split
  · split
    · exact ⟨h.has.pathM k _, h.chan, (s.sine_pathM d k _).trans h.idle⟩
    · exact h
  · exact h

theorem State.SweepReady.wait {d j i : Nat} {f r : CfgRec} (h : s.SweepReady d j i f r) {m : Nat}
    (hb : bitAt m j = true) (hm : r.v C_CHANNEL_MODE = 7) : ((s.sweepAsked d m j).path d j).wait = true := by
  simp only [State.sweepAsked, State.sweepRuns, h.chan, h.idle, hb, hm, beq_self_eq_true, Bool.not_false, Bool.and_self,
    if_true]
  exact congrArg AfePath.wait (State.path_pathM_same h.has _)

theorem State.sweepAsked_path_other {d j k : Nat} (h : k ≠ j) (m : Nat) : (s.sweepAsked d m k).path d j = s.path d j := by
  unfold State.sweepAsked
  split
  · split
    · exact s.path_pathM_ne _ h.symm
    · rfl
  · rfl

/-- The next sweep of an idle sine generator leaves what the paths hold. -/
theorem State.sineNext_path (s : State) (d j : Nat) : (s.sineNext d).path d j = s.path d j := by
  unfold State.sineNext
  split
  · rfl
  · dsimp only
    split
    · rfl
    · split
      · rfl
      · rw [State.path_wrij, State.path_wrij, State.settleStart_path, State.path_sine]

theorem State.foldl_sweepAsked_wait {d j i m : Nat} {f r : CfgRec} (hj : j < 4) (h : s.SweepReady d j i f r)
    (hb : bitAt m j = true) (hm : r.v C_CHANNEL_MODE = 7) :
    (((List.range 4).foldl (State.sweepAsked d m) s).path d j).wait = true :=
  foldl_meets (P := (State.SweepReady · d j i f r)) (Q := fun u => (u.path d j).wait = true) List.nodup_range
    (List.mem_range.mpr hj) (fun _ k _ _ hu => hu.sweepAsked m k) (fun _ hu => hu.wait hb hm)
    (fun u k _ hne hu => by rwa [u.sweepAsked_path_other hne]) h

/-- The sine generator goes on to the next frequency of its sweep (R311). -/
theorem exec_dwellEnd_next {z v : Nat × Nat} {o : Bool} {q : SineRun} {i e : Nat} {f r : CfgRec}
    (hp : s.host.halted = false) (hq : (s.afeD d.val).sine = some q) (hc : s.pathChan d.val q.path = some (i, f, r))
    (ht : q.till = some e) (he : e ≤ s.clk.el) (hk : q.k + 1 < s.cv C_SWEEP_NFREQ (16 * d.val + i)) :
    ∃ n : SineRun, n.k = q.k + 1 ∧ n.till = none ∧ exec (.dwellEnd d z v o) s =
      .next ((s.afeM d.val fun x => { x with sine := some n }).settleStart d.val i) := by
  simp only [exec, execDwellEnd, State.powered_of_not_halted hp, hq, hc, ht, Nat.not_lt.mpr he, if_false, if_pos hk]
  exact ⟨_, rfl, rfl, rfl⟩

end FastPathCommands

/-- Settles O22: each clause is the lemma on that command; the path, the counter or the sweep it names is read off. -/
theorem fastPathAndSweepCommandsComplete : Obligations.FastPathAndSweepCommandsComplete := by
  unfold Obligations.FastPathAndSweepCommandsComplete
  have hasPath : ∀ {s : State} {d : Fin 2} {j : Fin 4}, s.afe.length = 2 → (s.afeD d.val).paths.length = 4 →
      s.HasPath d.val j.val := fun hl hn => ⟨hl.symm ▸ Fin.isLt _, hn.symm ▸ Fin.isLt _⟩
  refine ⟨fun d j hi lo i f r s hp hl hn hc hm hdue hd => exec_fastSample_taken hp (hasPath hl hn) hc hm hdue hd,
    fun d j i f r s hp hl hn hc hm hper hdue hlo hidle =>
      ⟨_, exec_periodicChargeReset_due hp (hasPath hl hn) hc hm hper hdue hlo hidle, ?_⟩,
    fun d j i e f r s hp hl hn hc hm hthr ha hdue hidle =>
      ⟨_, exec_thresholdChargeReset_due hp hc hm hthr ha hdue hidle, ?_⟩,
    fun d j m s hp hl hn hd hm hidle => ⟨_, exec_qreset_present hp hd, ?_⟩,
    fun d j x y s hp hl hn hr hy => ⟨_, exec_chargeResetEnd_due hp hr hy, ?_⟩,
    fun d j m i f r s hp hl hn hb hc hm hidle => ⟨_, exec_sweep hp, ?_⟩,
    fun d z v o q i e f r s hp hl hq hc ht he hk => ?_⟩
  · have hpath := hasPath (d := d) (j := j) hl hn
    rw [State.resetBegun_path (hpath.pathM _ _), State.path_pathM_same hpath _,
      State.resetNs_of_pathChan (s := s.pathM d.val j.val _) hc]
    exact ⟨rfl, rfl, State.resetBegun_all _ _ _⟩
  · have hpath := hasPath (d := d) (j := j) hl hn
    rw [State.thresholdBegun_path, State.resetBegun_path hpath, State.resetNs_of_pathChan hc]
    exact ⟨rfl, rfl, s.thresholdBegun_count d j⟩
  · have hpath := hasPath (d := d) (j := j) hl hn
    have hsame := State.foldl_resetAsked (m := m.toNat) j.isLt hpath hm hidle
    rw [hsame.path, hsame.count, State.resetBegun_path hpath]
    exact ⟨rfl, State.resetBegun_all _ _ _⟩
  · have hpath := hasPath (d := d) (j := j) hl hn
    rw [State.path_pathM_same hpath _]
    exact ⟨rfl, rfl, rfl⟩
  · rw [State.sineNext_path]
    exact State.foldl_sweepAsked_wait j.isLt ⟨hasPath hl hn, hc, hidle⟩ hb hm
  · obtain ⟨n, hnk, hnt, hexec⟩ := exec_dwellEnd_next (z := z) (v := v) (o := o) hp hq hc ht he hk
    have hsine := (State.settleStart_keeps _ d.val i (g := AfeDie.sine) (fun _ _ => rfl) d.val).trans
      (congrArg AfeDie.sine (s.afeD_afeM_same (fun x => { x with sine := some n }) (hl.symm ▸ d.isLt)))
    refine ⟨_, hexec, ?_, ?_, State.settleStart_settling _ (State.pathChan_lt hc)⟩
    · rw [hsine, ← hnk]
      rfl
    · rw [hsine, ← hnt]
      rfl

end Sys2Proof.Machine

namespace Sys2Proof.Machine

open Sys2Proof

section PrecisionChannels

variable {α : Type} {s t : State} {d : Nat}

/-! ## Channels and precision ADCs across the operations of the scan sequencer (R314 to R317) -/

theorem State.afeChM_keeps (s : State) (d k : Nat) {f : AfeChan → AfeChan} {g : AfeChan → α} (h : ∀ x, g (f x) = g x)
    (i : Nat) : g ((s.afeChM d k f).afeCh d i) = g (s.afeCh d i) :=
  s.afeM_keeps d (f := fun x => { x with chans := listMod x.chans k f }) (g := fun x => g (listAt x.chans i {}))
    (fun x => listAt_listMod_keeps x.chans k {} h i) d

theorem State.adcM_keeps (s : State) (d k : Nat) {f : AfeAdc → AfeAdc} {g : AfeAdc → α} (h : ∀ x, g (f x) = g x)
    (a : Nat) : g ((s.adcM d k f).adc d a) = g (s.adc d a) :=
  s.afeM_keeps d (f := fun x => { x with adcs := listMod x.adcs k f }) (g := fun x => g (listAt x.adcs a {}))
    (fun x => listAt_listMod_keeps x.adcs k {} h a) d

/-- Precision ADC `a` of die `d` is one of the state's. -/
structure State.HasAdc (s : State) (d a : Nat) : Prop where
  die : d < s.afe.length
  adc : a < (s.afeD d).adcs.length

theorem State.adc_adcM_same {a : Nat} (h : s.HasAdc d a) (f : AfeAdc → AfeAdc) :
    (s.adcM d a f).adc d a = f (s.adc d a) := by
  rw [State.adc, State.adcM, s.afeD_afeM_same _ h.die]
  exact listAt_listMod_same _ a f {} h.adc

theorem State.adc_adcM_ne (s : State) {a k : Nat} (f : AfeAdc → AfeAdc) (h : a ≠ k) :
    (s.adcM d k f).adc d a = s.adc d a :=
  s.afeM_keeps d (f := fun x => { x with adcs := listMod x.adcs k f }) (g := fun x => listAt x.adcs a {})
    (fun x => listAt_listMod_ne x.adcs f {} h) d

theorem State.HasAdc.adcM {a : Nat} (h : s.HasAdc d a) (k : Nat) (f : AfeAdc → AfeAdc) : (s.adcM d k f).HasAdc d a := by
  have hlen : ((s.adcM d k f).afeD d).adcs.length = (s.afeD d).adcs.length :=
    s.afeM_keeps d (f := fun x => { x with adcs := listMod x.adcs k f }) (g := fun x => x.adcs.length)
      (fun x => length_listMod x.adcs k f) d
  exact ⟨(s.length_afe_afeM d _).symm ▸ h.die, hlen.symm ▸ h.adc⟩

theorem State.adc_congr (h : t.afeD d = s.afeD d) (a : Nat) : t.adc d a = s.adc d a :=
  congrArg (fun x : AfeDie => listAt x.adcs a {}) h

theorem State.settleStart_adc (s : State) (i a : Nat) : (s.settleStart d i).adc d a = s.adc d a :=
  s.settleStart_keeps d i (g := fun x => listAt x.adcs a {}) (fun _ _ => rfl) d

/-- The due instants of channel `i` and the calibration of ADC `a`: what the scan of the channels leaves alone. -/
def State.afePlan (s : State) (d i a : Nat) : (Bool × Nat) × Bool × Option Nat × Nat :=
  (((s.afeCh d i).due, (s.afeCh d i).dueIx), (s.adc d a).calWait, (s.adc d a).calTill, (s.adc d a).calAt)

theorem Frame.afePlan {m : Nat} (h : Frame m s t) (hm : m.testBit Part.afe.ix = false) (i a : Nat) :
    t.afePlan d i a = s.afePlan d i a := by
  have hd := h.afeD hm d
  rw [State.afePlan, State.afePlan, State.adc_congr hd, State.afeCh, State.afeCh, hd]

theorem State.afeChM_afePlan (s : State) (k : Nat) {f : AfeChan → AfeChan}
    (h : ∀ x, ((f x).due, (f x).dueIx) = (x.due, x.dueIx)) (i a : Nat) :
    (s.afeChM d k f).afePlan d i a = s.afePlan d i a := by
  have hadc : (s.afeChM d k f).adc d a = s.adc d a :=
    s.afeM_keeps d (f := fun x => { x with chans := listMod x.chans k f }) (g := fun x => listAt x.adcs a {})
      (fun _ => rfl) d
  rw [State.afePlan, State.afePlan, hadc, s.afeChM_keeps d k (g := fun x => (x.due, x.dueIx)) h]

theorem State.adcM_afePlan (s : State) (k : Nat) {f : AfeAdc → AfeAdc}
    (h : ∀ x, ((f x).calWait, (f x).calTill, (f x).calAt) = (x.calWait, x.calTill, x.calAt)) (i a : Nat) :
    (s.adcM d k f).afePlan d i a = s.afePlan d i a := by
  have hch : (s.adcM d k f).afeCh d i = s.afeCh d i :=
    s.afeM_keeps d (f := fun x => { x with adcs := listMod x.adcs k f }) (g := fun x => listAt x.chans i {})
      (fun _ => rfl) d
  rw [State.afePlan, State.afePlan, hch, s.adcM_keeps d k (g := fun x => (x.calWait, x.calTill, x.calAt)) h]

theorem State.wrij_afePlan (s : State) (f : Fld) (k l v i a : Nat) :
    (s.wrij f k l v).afePlan d i a = s.afePlan d i a := rfl

theorem State.adcM_run_afePlan (s : State) (k : Nat) (v : AfeAdc → Option AdcRun) (i a : Nat) :
    (s.adcM d k fun x => { x with run := v x }).afePlan d i a = s.afePlan d i a :=
  s.adcM_afePlan k (f := fun x => { x with run := v x }) (fun _ => rfl) i a

theorem State.settleStart_afePlan (s : State) (k i a : Nat) : (s.settleStart d k).afePlan d i a = s.afePlan d i a :=
  s.afeChM_afePlan k (f := fun x => { x with settleTill := s.clk.el + s.chanV d k C_CHANNEL_SETTLE * 1000 })
    (fun _ => rfl) i a

theorem State.convStart_afePlan (s : State) (b k i a : Nat) : (s.convStart d b k).afePlan d i a = s.afePlan d i a := by
  rw [State.convStart, State.adcM_run_afePlan]
  split
  · rfl
  · rw [State.wrij_afePlan]
    exact s.afeChM_afePlan k (f := fun x => { x with gain := s.gainWanted d k, chg := true }) (fun _ => rfl) i a

theorem State.visit_afePlan (s : State) (b k : Nat) (r : CfgRec) (i a : Nat) :
    (s.visit d b k r).afePlan d i a = s.afePlan d i a := by
  have hoff := fun u : State => (u.srcOff_frame d r).afePlan (d := d) (by decide) i a
  have hon := fun u : State => (u.srcOn_frame d r 0).afePlan (d := d) (by decide) i a
  unfold State.visit
  dsimp only
  split
  · rw [State.adcM_run_afePlan, hoff, State.wrij_afePlan]
  · split
    · rw [State.convStart_afePlan, State.adcM_run_afePlan, State.settleStart_afePlan, hon, State.wrij_afePlan]
    · rw [State.adcM_run_afePlan, State.settleStart_afePlan, hon, State.wrij_afePlan]

theorem State.adcNext_afePlan (s : State) (b i a : Nat) : (s.adcNext d b).afePlan d i a = s.afePlan d i a := by
  unfold State.adcNext
  dsimp only
  split
  · rfl
  · split
    · rfl
    · split
      · exact s.visit_afePlan b _ _ i a
      · rfl

/-! ### Frames that leave the events -/

theorem State.visit_afeFrame (s : State) (d b k : Nat) (r : CfgRec) : Frame 0xc0000000400000000001 s (s.visit d b k r) := by
  have hch : Frame 0xc0000000400000000001 s (s.wrij (if b = 0 then AFE_STAT_ADC0_CH else AFE_STAT_ADC1_CH) 0 d k) :=
    (Frame.rfl _ s).wrij (Fld.okIn_ite (by decide) (by decide))
  unfold State.visit
  dsimp only
  split
  · exact (State.adcM_frame _ d b _).comp (by decide) ((State.srcOff_frame _ d r).comp (by decide) hch)
  · have hset := (State.settleStart_frame _ d k).comp (by decide) ((State.srcOn_frame _ d r 0).comp (by decide) hch)
    split
    · exact (State.convStart_frame _ d b k).comp (by decide) ((State.adcM_frame _ d b _).comp (by decide) hset)
    · exact (State.adcM_frame _ d b _).comp (by decide) hset

/-- The next visit of an ADC raises no event. -/
theorem State.adcNext_afeFrame (s : State) (d b : Nat) : Frame 0xc0000000400000000001 s (s.adcNext d b) := by
  unfold State.adcNext
  dsimp only
  split
  · exact Frame.rfl _ s
  · split
    · exact Frame.rfl _ s
    · split
      · exact s.visit_afeFrame d b _ _
      · exact Frame.rfl _ s

theorem State.adcNext_evt (s : State) (d b w : Nat) : (s.adcNext d b).rdi UNIT_EVT_EVT w = s.rdi UNIT_EVT_EVT w :=
  congrArg (bitsOf · _ _) ((s.adcNext_afeFrame d b).1 .evts (by decide) _ (isEvt_evt w))

end PrecisionChannels

section PrecisionCommands

variable {s t : State}

/-! ## Due instants and settling (R310, R314, R320) -/

/-- A due instant marks its channel (R314); what its ADC then begins leaves the mark. -/
theorem channelDue_marks {ch : Fin 32} (hp : s.host.halted = false) (hdie : ch.val / 16 < s.afe.length)
    (hchan : ch.val % 16 < (s.afeD (ch.val / 16)).chans.length) (hd : s.diePresent (ch.val / 16) = true)
    (hen : s.chanEn (ch.val / 16) (ch.val % 16) = true)
    (hm : precisionMode (s.chanV (ch.val / 16) (ch.val % 16) C_CHANNEL_MODE) = true)
    (hi : s.chanV (ch.val / 16) (ch.val % 16) C_CHANNEL_INTERVAL ≠ 0)
    (hix : (s.afeCh (ch.val / 16) (ch.val % 16)).dueIx <
      s.clk.now / (s.chanV (ch.val / 16) (ch.val % 16) C_CHANNEL_INTERVAL * 1000000)) :
    ∃ t : State, exec (.channelDue ch) s = .next t ∧ (t.afeCh (ch.val / 16) (ch.val % 16)).due = true ∧
      (t.afeCh (ch.val / 16) (ch.val % 16)).dueIx =
        s.clk.now / (s.chanV (ch.val / 16) (ch.val % 16) C_CHANNEL_INTERVAL * 1000000) := by
  generalize hD : ch.val / 16 = d at *
  generalize hI : ch.val % 16 = i at *
  have ht : s.chanV d i C_CHANNEL_INTERVAL * 1000000 ≠ 0 := by omega
  have hn : s.clk.now / (s.chanV d i C_CHANNEL_INTERVAL * 1000000) - (s.afeCh d i).dueIx ≠ 0 := by omega
  have hmark : ∀ n k, ((s.afeChM d i fun x => { x with due := true, dueIx := n }).scanLate d i k).afeCh d i =
      { s.afeCh d i with due := true, dueIx := n } := by
    intro n k
    rw [State.afeCh, (State.scanLate_frame _ d i k).afeD (by decide), State.afeChM, s.afeD_afeM_same _ hdie]
    exact listAt_listMod_same _ i _ {} hchan
  have hplan := fun (u : State) b => u.adcNext_afePlan (d := d) b i 0
  simp only [State.afePlan, Prod.mk.injEq] at hplan
  simp only [exec, execChannelDue, State.powered_of_not_halted hp, hD, hI, hd, hen, hm, if_neg ht, beq_false_of_ne hn,
    Bool.not_true, Bool.or_self, Bool.and_false, Bool.false_eq_true, if_false, if_true]
  refine ⟨_, rfl, ?_, ?_⟩
  · rw [(hplan _ _).1.1, hmark]
  · rw [(hplan _ _).1.2, hmark]

/-- Does ADC `a` wait for the settling of channel `i`? -/
def State.awaitsSettling (s : State) (d i a : Nat) : Bool :=
  match (s.adc d a).run with
  | some run => run.ch == i && run.stage == .settle
  | none => false

/-- A conversion that waits for the settling of channel `i` starts (R320). -/
def State.settledConv (d i : Nat) (s : State) (a : Nat) : State :=
  if s.awaitsSettling d i a then s.convStart d a i else s

theorem State.settledConv_settling (s : State) (d i a : Nat) : (s.settledConv d i a).settling d i = s.settling d i := by
  have hconv : (s.convStart d a i).settling d i = s.settling d i := by
    unfold State.convStart
    dsimp only
    split
    · rfl
    · exact congrArg (bitAt · i) (State.rdij_wrij_apart _ AFE_CHSTAT_GAIN _ _ _ _ _ _ (by decide))
  unfold State.settledConv
  split
  · exact hconv
  · rfl

theorem State.dwellStart_regs (s : State) (d i : Nat) : (s.dwellStart d i).regs = s.regs := by
  unfold State.dwellStart
  split
  · rfl
  · split
    · dsimp only
      split <;> rfl
    · rfl

/-- The settling bit of a channel clears when its counter has run out (R320). -/
theorem settlingExpiry_clears {ch : Fin 32} (hp : s.host.halted = false)
    (hset : s.settling (ch.val / 16) (ch.val % 16) = true)
    (hdue : (s.afeCh (ch.val / 16) (ch.val % 16)).settleTill ≤ s.clk.el) :
    ∃ t : State, exec (.settlingExpiry ch) s = .next t ∧ t.settling (ch.val / 16) (ch.val % 16) = false := by
  have hi : ch.val % 16 < 16 := Nat.mod_lt _ (by decide)
  generalize hD : ch.val / 16 = d at *
  generalize hI : ch.val % 16 = i at *
  refine ⟨((List.range 2).foldl (State.settledConv d i) (s.wrij AFE_STAT_SETTLING 0 d
    (setBit (s.rdij AFE_STAT_SETTLING 0 d) i false))).dwellStart d i, ?_, ?_⟩
  · simp only [exec, execSettlingExpiry, State.powered_of_not_halted hp, hD, hI, hset, Nat.not_lt.mpr hdue, decide_false,
      Bool.not_true, Bool.or_self, Bool.false_eq_true, if_false]
    rfl
  · rw [State.settling, State.rdij_congr (State.dwellStart_regs _ d i)]
    exact (foldl_keeps (g := fun u => u.settling d i) (fun u a => u.settledConv_settling d i a) _ _).trans
      (s.settling_wrij hi false)

/-! ## Conversions and cable positions (R303, R305, R309) -/

theorem State.HasAdc.of_afe {d a : Nat} (h : s.HasAdc d a) (e : t.afe = s.afe) : t.HasAdc d a :=
  ⟨e ▸ h.die, (State.afeD_congr e d).symm ▸ h.adc⟩

theorem isEvt_srcCompliance (k d : Nat) : isEvt (AFE_SRC_COMPLIANCE.addr k d) = false := by
  have haddr : AFE_SRC_COMPLIANCE.addr k d = 0x150240 + 4 * (k % 8) + 0x10000 * (d % 2) := rfl
  rw [haddr]
  simp only [isEvt, Bool.and_eq_false_iff, decide_eq_false_iff_not]
  omega

theorem State.foldl_wrij_rdij {f : Fld} {d k v : Nat} (hf : f.lo ≤ f.hi) (hw : f.hi < 32) {l : List Nat}
    (h : k ∈ l ∨ s.rdij f k d = v % 2 ^ (f.hi + 1 - f.lo)) :
    (l.foldl (fun t k => t.wrij f k d v) s).rdij f k d = v % 2 ^ (f.hi + 1 - f.lo) := by
  induction l generalizing s with
  | nil => exact h.resolve_left List.not_mem_nil
  | cons x l ih =>
    refine ih ?_
    have hsame := s.rdij_wrij_same f x d v hf hw
    by_cases haddr : f.addr k d = f.addr x d
    · right
      rw [State.rdij, haddr]
      exact hsame
    · refine h.imp (fun hk => (List.mem_cons.mp hk).resolve_left fun e => haddr (e ▸ rfl)) fun hr => ?_
      exact (s.rdij_wrij_ne f f x d k d v haddr).trans hr

/-- The compliance of the sources of a measurement is shown, with the event when it was met (R303). -/
def State.complied (s : State) (d : Nat) (r : CfgRec) (comply : Bool) : State :=
  ((chanSources r).foldl (fun t k => t.wrij AFE_SRC_COMPLIANCE k d (b2n comply)) s).raiseIf
    (comply && !(chanSources r).isEmpty) (21 + d) 3

theorem State.complied_compliance (s : State) (d : Nat) {r : CfgRec} (comply : Bool) {k : Nat} (hk : k ∈ chanSources r) :
    (s.complied d r comply).rdij AFE_SRC_COMPLIANCE k d = b2n comply := by
  rw [State.complied, State.rdij_raiseIf_of_not_evt _ _ _ _ (isEvt_srcCompliance k d),
    State.foldl_wrij_rdij (by decide) (by decide) (.inl hk)]
  cases comply <;> rfl

theorem State.complied_afe (s : State) (d : Nat) (r : CfgRec) (comply : Bool) : (s.complied d r comply).afe = s.afe := by
  refine ((State.raiseIf_frame _ _ _ _).1 .afe (by decide)).trans (foldl_keeps (g := State.afe) (fun u k => ?_) _ s)
  rfl

theorem State.srcOn_compliance (s : State) (d : Nat) (r : CfgRec) (n k : Nat) :
    (s.srcOn d r n).rdij AFE_SRC_COMPLIANCE k d = s.rdij AFE_SRC_COMPLIANCE k d :=
  foldl_keeps (g := fun u => u.rdij AFE_SRC_COMPLIANCE k d) (fun _ _ =>
    (State.rdij_wrij_apart _ AFE_SRC_PIN _ _ _ _ _ _ (by decide)).trans
      (State.rdij_wrij_apart _ AFE_SRC_ON _ _ _ _ _ _ (by decide))) _ s

/-- The sources of a measurement are on and its channel settles: the ADC is left with its visit. -/
theorem State.srcOn_settleStart_adc (s : State) (d : Nat) (r : CfgRec) (n i a : Nat) :
    ((s.srcOn d r n).settleStart d i).adc d a = s.adc d a :=
  (State.settleStart_adc _ i a).trans (State.adc_congr ((s.srcOn_frame d r n).afeD (by decide) d) a)

/-- A conversion of a measurement with more phases is kept, and the next phase settles (R305). -/
theorem precisionResult_nextPhase {d a : Fin 2} {c : BitVec 24} {ref : Nat} {comply : Bool} {run : AdcRun} {r : CfgRec}
    (hp : s.host.halted = false) (hadc : s.HasAdc d.val a.val) (hrun : (s.adc d.val a.val).run = some run)
    (hr : s.chanRec d.val run.ch = some r) (hst : run.stage = .conv) (hdue : run.till ≤ s.clk.el)
    (hmore : run.got.length + 1 < phaseCount r) (hm : r.v C_CHANNEL_MODE ≠ 8) :
    ∃ t : State, exec (.precisionResult d a c ref comply) s = .next t ∧
      (t.adc d.val a.val).run.map (·.got) =
        some (run.got ++ [toB32 (adcReading r (s.afeCh d.val run.ch).gain c.toInt)]) ∧
      (t.adc d.val a.val).run.map (·.stage) = some .settle ∧
      ∀ k ∈ chanSources r, t.rdij AFE_SRC_COMPLIANCE k d.val = b2n comply := by
  have hset : ∀ f, ((s.complied d.val r comply).adcM d.val a.val f).adc d.val a.val =
      f ((s.complied d.val r comply).adc d.val a.val) :=
    State.adc_adcM_same (hadc.of_afe (s.complied_afe d.val r comply))
  simp only [exec, execPrecisionResult, State.powered_of_not_halted hp, hrun, hr, hst, decide_eq_true hdue,
    beq_self_eq_true, Bool.and_self, if_true, State.convNext, List.length_append, List.length_singleton, if_pos hmore,
    if_neg hm]
  refine ⟨_, rfl, ?_, ?_, fun k hk => ?_⟩
  · rw [State.srcOn_settleStart_adc, ← State.complied, hset]
    rfl
  · rw [State.srcOn_settleStart_adc, ← State.complied, hset]
    rfl
  · refine (State.rdij_wrij_apart _ AFE_STAT_SETTLING _ _ _ _ _ _ (by decide)).trans ?_
    refine (State.srcOn_compliance _ _ _ _ _).trans ?_
    exact s.complied_compliance d.val comply hk

theorem State.stageDone_lt {d i a : Nat} {g : AdcStage} {run : AdcRun} (h : s.stageDone d i g = some (a, run)) : a < 2 := by
  obtain ⟨b, hb, h⟩ := List.exists_of_findSome?_eq_some h
  split at h
  · split at h
    · cases h
      exact List.mem_range.mp hb
    · cases h
  · cases h

/-- An excited cable position settles (R309). -/
theorem State.cableExcite_settles {d i a : Nat} {run : AdcRun} {r : CfgRec} (hadc : s.HasAdc d a) (hi : i < 16)
    (hr : s.chanRec d i = some r) : ((s.cableExcite d i a run).adc d a).run = some { run with stage := .settle } ∧
      (s.cableExcite d i a run).settling d i = true := by
  rw [State.cableExcite, hr]
  refine ⟨?_, State.settleStart_settling _ hi⟩
  dsimp only
  rw [State.settleStart_adc, State.adc_adcM_same (hadc.of_afe ((s.srcOn_frame d r 0).1 .afe (by decide)))]

/-- The end of the off time of a cable scan excites its first position (R309). -/
theorem cableResetEnd_excites {ch : Fin 32} {a : Nat} {run : AdcRun} {r : CfgRec} (hp : s.host.halted = false)
    (hdie : ch.val / 16 < s.afe.length) (hadcs : (s.afeD (ch.val / 16)).adcs.length = 2)
    (h : s.stageDone (ch.val / 16) (ch.val % 16) .reset = some (a, run))
    (hr : s.chanRec (ch.val / 16) (ch.val % 16) = some r) : ∃ t : State, exec (.cableResetEnd ch) s = .next t ∧
      (t.adc (ch.val / 16) a).run = some { run with stage := .settle } ∧
      t.settling (ch.val / 16) (ch.val % 16) = true := by
  have hadc : s.HasAdc (ch.val / 16) a := ⟨hdie, hadcs.symm ▸ State.stageDone_lt h⟩
  simp only [exec, execCableResetEnd, State.powered_of_not_halted hp, h]
  exact ⟨_, rfl, State.cableExcite_settles hadc (Nat.mod_lt _ (by decide)) hr⟩

/-- The end of a step pulse excites the next cable position (R309). -/
theorem stepPulseEnd_excites {ch : Fin 32} {a : Nat} {run : AdcRun} {r : CfgRec} (hp : s.host.halted = false)
    (hdie : ch.val / 16 < s.afe.length) (hadcs : (s.afeD (ch.val / 16)).adcs.length = 2)
    (h : s.stageDone (ch.val / 16) (ch.val % 16) .pulse = some (a, run))
    (hr : s.chanRec (ch.val / 16) (ch.val % 16) = some r) : ∃ t : State, exec (.stepPulseEnd ch) s = .next t ∧
      (t.adc (ch.val / 16) a).run = some { run with stage := .settle } ∧
      t.settling (ch.val / 16) (ch.val % 16) = true := by
  have hadc : s.HasAdc (ch.val / 16) a := ⟨hdie, hadcs.symm ▸ State.stageDone_lt h⟩
  simp only [exec, execStepPulseEnd, State.powered_of_not_halted hp, h]
  exact ⟨_, rfl, State.cableExcite_settles hadc (Nat.mod_lt _ (by decide)) hr⟩

/-! ## Calibration and the reference (R316, R329) -/

theorem Frame.winPresent {m : Nat} (h : Frame m s t) (hm : m.testBit Part.fusesFixed.ix = false) (w : Nat) :
    t.winPresent w = s.winPresent w := by
  have hf : t.fuses = { s.fuses with fieldRows := t.fuses.fieldRows } := h.1 .fusesFixed hm
  have hv : t.fuses.variant = s.fuses.variant := by rw [hf]
  simp only [State.winPresent, hv]

theorem State.adc_calBusy (s : State) (d a : Nat) : (s.calBusy d).adc d a = s.adc d a := rfl

/-- The calibration of ADC `a` is over, its result not yet judged. -/
def State.calEnded (s : State) (d a : Nat) : State :=
  (s.adcM d a fun y => { y with calTill := none, calAt := s.clk.el }).calBusy d

/-- The result `res` of the calibration of ADC `a` is taken or refused, with its event. -/
def State.calJudged (s : State) (d a : Nat) (res : CalReading) : State :=
  if s.calGood d a res then ((s.calEnded d a).calTake d a res).raise (21 + d) 4 else (s.calEnded d a).raise (21 + d) 5

theorem exec_calibration_over {d a : Fin 2} {res : CalReading} {e : Nat} (hp : s.host.halted = false)
    (hd : s.diePresent d.val = true) (hc : (s.adc d.val a.val).calTill = some e) (he : e ≤ s.clk.el) :
    exec (.calibration d a res) s = .next ((s.calJudged d.val a.val res).adcNext d.val a.val) := by
  simp only [exec, execCalibration, State.powered_of_not_halted hp, hd, hc, Nat.not_lt.mpr he, Bool.not_true,
    Bool.false_eq_true, if_false]
  rfl

theorem State.pathM_afePlan (s : State) (d j : Nat) (f : AfePath → AfePath) (i a : Nat) :
    (s.pathM d j f).afePlan d i a = s.afePlan d i a :=
  s.afeM_keeps d (f := fun x => { x with paths := listMod x.paths j f }) (g := fun x => (((listAt x.chans i {}).due,
    (listAt x.chans i {}).dueIx), (listAt x.adcs a {}).calWait, (listAt x.adcs a {}).calTill, (listAt x.adcs a {}).calAt))
    (fun _ => rfl) d

/-- The result of a calibration leaves its ADC's calibration as it is. -/
theorem State.calTake_afePlan (s : State) (d b : Nat) (res : CalReading) (i a : Nat) :
    (s.calTake d b res).afePlan d i a = s.afePlan d i a := by
  unfold State.calTake
  refine (foldl_keeps (g := fun u => u.afePlan d i a) (fun u j => ?_) _ _).trans
    (foldl_keeps (g := fun u => u.afePlan d i a) (fun u k => ?_) _ _)
  · split
    · dsimp only
      split
      · rw [State.wrij_afePlan, State.pathM_afePlan]
      · rw [State.pathM_afePlan]
    · rfl
  · rfl

theorem State.calJudged_afePlan (s : State) (d b : Nat) (res : CalReading) (i a : Nat) :
    (s.calJudged d b res).afePlan d i a = (s.calEnded d b).afePlan d i a := by
  unfold State.calJudged
  split
  · rw [(State.raise_frame _ _ _).afePlan (by decide), State.calTake_afePlan]
  · rw [(State.raise_frame _ _ _).afePlan (by decide)]

/-- In a unit that is present, the event of the outcome is pending. -/
theorem State.calJudged_evt (hp : s.host.halted = false) {d : Nat} (hw : s.winPresent (21 + d) = true) (a : Nat)
    (res : CalReading) : bitAt ((s.calJudged d a res).rdi UNIT_EVT_EVT (21 + d)) (if s.calGood d a res then 4 else 5) =
      true := by
  have htake := State.calTake_frame (s.calEnded d a) d a res
  unfold State.calJudged
  split
  · exact State.raise_bit _ _ _ ((htake.winPresent (by decide) _).trans hw) ((htake.1 .hostHalted (by decide)).trans hp)
      (by decide)
  · exact State.raise_bit _ _ _ hw hp (by decide)

/-- A calibration that is over leaves its ADC, and tells its outcome (R316). -/
theorem calibration_over {d a : Fin 2} {res : CalReading} {e : Nat} (hp : s.host.halted = false)
    (hadc : s.HasAdc d.val a.val) (hd : s.diePresent d.val = true) (hw : s.winPresent (21 + d.val) = true)
    (hc : (s.adc d.val a.val).calTill = some e) (he : e ≤ s.clk.el) :
    ∃ t : State, exec (.calibration d a res) s = .next t ∧ (t.adc d.val a.val).calTill = none ∧
      (t.adc d.val a.val).calAt = s.clk.el ∧
      bitAt (t.rdi UNIT_EVT_EVT (21 + d.val)) (if s.calGood d.val a.val res then 4 else 5) = true := by
  have hplan : ((s.calJudged d.val a.val res).adcNext d.val a.val).afePlan d.val 0 a.val =
      (s.calEnded d.val a.val).afePlan d.val 0 a.val :=
    (State.adcNext_afePlan _ _ _ _).trans (State.calJudged_afePlan _ _ _ _ _ _)
  have hended : (s.calEnded d.val a.val).adc d.val a.val = { s.adc d.val a.val with calTill := none, calAt := s.clk.el } :=
    State.adc_adcM_same hadc _
  simp only [State.afePlan, hended, Prod.mk.injEq] at hplan
  obtain ⟨-, -, htill, hat⟩ := hplan
  refine ⟨_, exec_calibration_over hp hd hc he, htill, hat, ?_⟩
  rw [State.adcNext_evt]
  exact State.calJudged_evt hp hw _ _

/-- An idle ADC asked to calibrate starts the phases, 3 ms for each of its sources and two more (R316). -/
theorem calibration_begins {d a : Fin 2} {res : CalReading} (hp : s.host.halted = false) (hadc : s.HasAdc d.val a.val)
    (hd : s.diePresent d.val = true) (hc : (s.adc d.val a.val).calTill = none)
    (hwait : (s.adc d.val a.val).calWait = true) (hrun : (s.adc d.val a.val).run = none) :
    ∃ t : State, exec (.calibration d a res) s = .next t ∧
      (t.adc d.val a.val).calTill = some (s.clk.el + (2 + (s.adcSources d.val a.val).length) * 3000000) ∧
      (t.adc d.val a.val).calWait = false ∧ t.rdij AFE_STAT_CAL_BUSY 0 d.val = 1 := by
  have hset := State.adc_adcM_same hadc fun y => { y with
    run := none, calWait := false, calTill := some (s.clk.el + (2 + (s.adcSources d.val a.val).length) * 3000000) }
  simp only [exec, execCalibration, State.powered_of_not_halted hp, hd, hc, hwait, hrun, Bool.not_true, Bool.true_or,
    Bool.false_eq_true, if_false, if_true]
  refine ⟨_, rfl, ?_, ?_, ?_⟩
  · rw [State.adc_calBusy, hset]
  · rw [State.adc_calBusy, hset]
  · refine (State.rdij_wrij_same _ AFE_STAT_CAL_BUSY _ _ _ (by decide) (by decide)).trans ?_
    have ha : a.val = 0 ∨ a.val = 1 := by omega
    rcases ha with ha | ha
    all_goals
      rw [ha] at hset
      simp only [ha, hset, Option.isSome_some, Bool.true_or, Bool.or_true]
      rfl

/-- CAL asks both ADCs (R316), and writes no register. -/
theorem cal_asks {d a : Fin 2} (hp : s.host.halted = false) (hadc : s.HasAdc d.val a.val) (hd : s.diePresent d.val = true) :
    ∃ t : State, exec (.cal d) s = .next t ∧ (t.adc d.val a.val).calWait = true ∧ t.regs = s.regs := by
  simp only [exec, execCal, State.powered_of_not_halted hp, hd, if_true]
  refine ⟨_, rfl, ?_, rfl⟩
  exact foldl_meets (P := (State.HasAdc · d.val a.val)) (Q := fun u => (u.adc d.val a.val).calWait = true)
    List.nodup_range (List.mem_range.mpr a.isLt) (fun u k _ _ hu => hu.adcM k _) (fun u hu => by rw [u.adc_adcM_same hu])
    (fun u k _ hne hu => by rwa [u.adc_adcM_ne _ hne.symm]) hadc

theorem exec_refOkChange_present {d : Fin 2} (hp : s.host.halted = false) (hd : s.diePresent d.val = true) (good : Bool) :
    exec (.refOkChange d good) s = .next ((s.wrij AFE_STAT_REF_OK 0 d.val (b2n good)).raiseIf
      (!good && s.rdij AFE_STAT_REF_OK 0 d.val == 1) (21 + d.val) 6) := by
  simp only [exec, execRefOkChange, State.powered_of_not_halted hp, hd, if_true]
  rfl

/-- REF_OK follows the reference, and in a unit that is present its loss is an event (R329). -/
theorem refOkChange_follows {d : Fin 2} (hp : s.host.halted = false) (hd : s.diePresent d.val = true)
    (hw : s.winPresent (21 + d.val) = true) (good : Bool) :
    ∃ t : State, exec (.refOkChange d good) s = .next t ∧ t.rdij AFE_STAT_REF_OK 0 d.val = b2n good ∧
      (good = false → s.rdij AFE_STAT_REF_OK 0 d.val = 1 → bitAt (t.rdi UNIT_EVT_EVT (21 + d.val)) 6 = true) := by
  have hevt : ∀ d : Fin 2, isEvt (AFE_STAT_REF_OK.addr 0 d.val) = false := by decide
  have hok : (s.wrij AFE_STAT_REF_OK 0 d.val (b2n good)).rdij AFE_STAT_REF_OK 0 d.val = b2n good := by
    rw [State.rdij_wrij_same _ _ _ _ _ (by decide) (by decide)]
    cases good <;> rfl
  refine ⟨_, exec_refOkChange_present hp hd good, ?_, fun hlost hwas => ?_⟩
  · rw [State.rdij_raiseIf_of_not_evt _ _ _ _ (hevt d), hok]
  · have hf : Frame 0xc0000000000000000001 s (s.wrij AFE_STAT_REF_OK 0 d.val (b2n good)) :=
      (Frame.rfl _ s).wrij (by decide)
    rw [State.raiseIf, if_pos (by rw [hlost, hwas]; rfl)]
    exact State.raise_bit _ _ _ ((hf.winPresent (by decide) _).trans hw) hp (by decide)

/-- In the variants of R1 the front end of a die that is present has its window. -/
theorem State.winPresent_frontEnd {d : Fin 2} (hd : s.diePresent d.val = true)
    (hv : s.fuses.variant = 0x20 ∨ s.fuses.variant = 0x30 ∨ s.fuses.variant = 0x40) : s.winPresent (21 + d.val) = true := by
  have hcases : d = 0 ∨ d = 1 := by omega
  rcases hcases with rfl | rfl
  all_goals rcases hv with hv | hv | hv <;> simp [State.winPresent, State.diePresent, State.is20, hv] at hd ⊢

/-- The reset state of a device whose variant code is none of R1's, with the reference of die 1 good: die 1 counts as
present, and its front end's window does not. -/
def undefinedVariant : State := State.wrij { State.reset with fuses := { variant := 0 } } AFE_STAT_REF_OK 0 1 1

/-- There the loss of the reference of die 1 raises no event. -/
theorem undefinedVariant_refLost : exec (.refOkChange 1 false) undefinedVariant =
    .next (undefinedVariant.wrij AFE_STAT_REF_OK 0 1 0) := by
  have habsent : (undefinedVariant.wrij AFE_STAT_REF_OK 0 1 0).winPresent 22 = false := by decide
  have hwas : undefinedVariant.rdij AFE_STAT_REF_OK 0 ((1 : Fin 2) : Nat) = 1 := by decide
  rw [exec_refOkChange_present (d := 1) rfl rfl, State.raiseIf, if_pos (by rw [hwas]; rfl)]
  exact congrArg Host.Outcome.next (State.raise_of_absent habsent 6)

end PrecisionCommands

/-- Refutes O21, on a variant code that no device has: die 1 counts as present under every code but the DV-9620's, the
window of its front end under those of the DV-9630 and DV-9640 alone, and the statement does not bound the code. There
the lost reference sets no bit. Under the codes of R1 the two clauses that ask for an event hold: `calibration_over` and
`refOkChange_follows` with `State.winPresent_frontEnd`. -/
theorem not_precisionChannelCommandsComplete : ¬ Obligations.PrecisionChannelCommandsComplete := by
  unfold Obligations.PrecisionChannelCommandsComplete
  intro h
  obtain ⟨-, -, -, -, -, -, -, -, hlost⟩ := h
  obtain ⟨t, ht, -, hevt⟩ := hlost 1 false undefinedVariant rfl rfl
  have hno : bitAt ((undefinedVariant.wrij AFE_STAT_REF_OK 0 1 0).rdi UNIT_EVT_EVT 22) 6 = false := by decide
  have hstate : t = undefinedVariant.wrij AFE_STAT_REF_OK 0 1 0 := by
    rw [undefinedVariant_refLost] at ht
    exact (Host.Outcome.next.inj ht).symm
  have hbit : bitAt (t.rdi UNIT_EVT_EVT 22) 6 = true := hevt rfl (by decide)
  rw [hstate, hno] at hbit
  exact Bool.false_ne_true hbit

end Sys2Proof.Machine

/-! # Settled statements on field I/O and the fans -/

namespace Sys2Proof.Machine

open Sys2Proof

/-! ## Which fields an operation writes

Where a `Frame` names the windows that an operation can change, `WritesOnly` names the fields. -/

section Writes

variable {α : Type} {s t u : State} {l k : List Fld} {f g : Fld}

/-- The last offset of a field in its windows. -/
def Fld.offEnd (f : Fld) : Nat := f.base % 0x10000 + f.stride * (f.count - 1)

/-- Every register of the field lies below the event group of its window, at the same offsets in each. -/
def Fld.plain (f : Fld) : Bool := decide (0 < f.count ∧ f.stride2 % 0x10000 = 0 ∧ f.offEnd < 0xF00)

theorem Fld.offset_of_plain (h : f.plain = true) (i j : Nat) :
    f.base % 0x10000 ≤ f.addr i j % 0x10000 ∧ f.addr i j % 0x10000 ≤ f.offEnd ∧ f.offEnd < 0xF00 := by
  obtain ⟨hcount, hstride, hend⟩ := of_decide_eq_true h
  obtain ⟨c, hc⟩ := Nat.dvd_of_mod_eq_zero hstride
  have hin : f.stride * (i % f.count) ≤ f.stride * (f.count - 1) :=
    Nat.mul_le_mul_left _ (Nat.le_sub_one_of_lt (Nat.mod_lt i hcount))
  have haddr : f.addr i j = f.base + f.stride * (i % f.count) + 0x10000 * (c * (j % f.count2)) := by
    rw [Fld.addr, hc, Nat.mul_assoc]
  rw [haddr]
  unfold Fld.offEnd at hend ⊢
  omega

theorem Fld.not_evt_of_plain (h : f.plain = true) (i j : Nat) : isEvt (f.addr i j) = false := by
  obtain ⟨-, hle, hlt⟩ := Fld.offset_of_plain h i j
  simp only [isEvt, Bool.and_eq_false_iff, decide_eq_false_iff_not]
  omega

/-- No write of `f` touches `g`: apart as `Fld.apart` says, or at other offsets in their windows. -/
def Fld.clearOf (g f : Fld) : Bool :=
  f.apart g || (f.plain && g.plain && decide (f.offEnd < g.base % 0x10000 ∨ g.offEnd < f.base % 0x10000))

theorem State.rdij_wrij_clear (s : State) (h : g.clearOf f = true) (i j a b v : Nat) :
    (s.wrij f i j v).rdij g a b = s.rdij g a b := by
  rcases Bool.or_eq_true_iff.mp h with h | h
  · exact s.rdij_wrij_apart f g i j a b v h
  · simp only [Bool.and_eq_true, decide_eq_true_eq] at h
    obtain ⟨⟨hf, hg⟩, hoff⟩ := h
    refine s.rdij_wrij_ne f g i j a b v fun e => ?_
    obtain ⟨hf1, hf2, -⟩ := Fld.offset_of_plain hf i j
    obtain ⟨hg1, hg2, -⟩ := Fld.offset_of_plain hg a b
    omega

/-- No write of a field of `l`, and no event, touches `g`. -/
def Fld.clearOfAll (g : Fld) (l : List Fld) : Bool := g.plain && l.all g.clearOf

/-- From `s` to `t` the registers below the event groups change in the fields of `l` alone. -/
def WritesOnly (l : List Fld) (s t : State) : Prop :=
  ∀ g : Fld, g.clearOfAll l = true → ∀ i j, t.rdij g i j = s.rdij g i j

namespace WritesOnly

theorem rdij (h : WritesOnly l s t) (hg : g.clearOfAll l = true) (i j : Nat) : t.rdij g i j = s.rdij g i j := h g hg i j

theorem rdi (h : WritesOnly l s t) (hg : g.clearOfAll l = true) (i : Nat) : t.rdi g i = s.rdi g i := h g hg i 0

theorem rd (h : WritesOnly l s t) (hg : g.clearOfAll l = true) : t.rd g = s.rd g := h g hg 0 0

theorem rfl (l : List Fld) (s : State) : WritesOnly l s s := fun _ _ _ _ => Eq.refl _

theorem trans (h : WritesOnly l s t) (h' : WritesOnly l t u) : WritesOnly l s u :=
  fun g hg i j => (h' g hg i j).trans (h g hg i j)

theorem mono (h : WritesOnly k s t) (hk : k ⊆ l) : WritesOnly l s t := by
  intro g hg
  obtain ⟨hplain, hall⟩ := Bool.and_eq_true_iff.mp hg
  exact h g (Bool.and_eq_true_iff.mpr ⟨hplain, List.all_eq_true.mpr fun f hf => List.all_eq_true.mp hall f (hk hf)⟩)

/-- An operation after another, with a shorter list. -/
theorem comp (h : WritesOnly l s t) (h' : WritesOnly k t u) (hk : k ⊆ l) : WritesOnly l s u := h.trans (h'.mono hk)

theorem of_regs (h : WritesOnly l s t) (e : u.regs = t.regs) : WritesOnly l s u :=
  fun g hg i j => (State.rdij_congr e g i j).trans (h g hg i j)

theorem wrij (h : WritesOnly l s t) (hf : f ∈ l) (i j v : Nat) : WritesOnly l s (t.wrij f i j v) := by
  intro g hg a b
  have hclear : g.clearOf f = true := List.all_eq_true.mp (Bool.and_eq_true_iff.mp hg).2 f hf
  exact (t.rdij_wrij_clear hclear i j a b v).trans (h g hg a b)

theorem raise (h : WritesOnly l s t) (w e : Nat) : WritesOnly l s (t.raise w e) :=
  fun g hg i j => (t.rdij_raise_of_not_evt w e (Fld.not_evt_of_plain (Bool.and_eq_true_iff.mp hg).1 i j)).trans (h g hg i j)

theorem raiseIf (h : WritesOnly l s t) (c : Bool) (w e : Nat) : WritesOnly l s (t.raiseIf c w e) := by
  unfold State.raiseIf
  split
  · exact h.raise w e
  · exact h

theorem ite {c : Prop} [Decidable c] (h : WritesOnly l s t) (h' : WritesOnly l s u) :
    WritesOnly l s (if c then t else u) := by split <;> assumption

theorem foldl {f : State → α → State} (r : List α) (h : WritesOnly l s t) (hf : ∀ v x, WritesOnly l v (f v x)) :
    WritesOnly l s (r.foldl f t) := by
  induction r generalizing t with
  | nil => exact h
  | cons x r ih => exact ih (h.trans (hf t x))

end WritesOnly

/-- The events stay outside a frame's mask. -/
theorem Frame.evt {m : Nat} (h : Frame m s t) (hm : m.testBit Part.evts.ix = false) (w : Nat) :
    t.rdi UNIT_EVT_EVT w = s.rdi UNIT_EVT_EVT w := congrArg (bitsOf · _ _) (h.1 .evts hm _ (isEvt_evt w))

end Writes

/-! ## Operations of the field dies (R396 to R413) -/

section FieldIo

variable {s t : State} {d i : Nat}

/-! ### Fields with a bit per channel -/

/-- The field has a bit for each of a die's 24 channels. -/
def Fld.perChannel (f : Fld) : Bool := f.lo == 0 && f.hi == 23

theorem State.rdij_wrij_perChannel (s : State) {f : Fld} (hf : f.perChannel = true) (k d : Nat) {v : Nat} (hv : v < 2 ^ 24) :
    (s.wrij f k d v).rdij f k d = v := by
  obtain ⟨hlo, hhi⟩ := Bool.and_eq_true_iff.mp hf
  have hlo : f.lo = 0 := eq_of_beq hlo
  have hhi : f.hi = 23 := eq_of_beq hhi
  rw [s.rdij_wrij_same f k d v (by omega) (by omega), hlo, hhi]
  exact Nat.mod_eq_of_lt hv

theorem State.rdij_lt_of_perChannel (s : State) {f : Fld} (hf : f.perChannel = true) (k d : Nat) : s.rdij f k d < 2 ^ 24 := by
  obtain ⟨hlo, hhi⟩ := Bool.and_eq_true_iff.mp hf
  have hlt := s.rdij_lt f k d
  rwa [eq_of_beq hlo, eq_of_beq hhi] at hlt

/-- Channel `i`'s bit reads what was written. -/
theorem State.bitAt_wrij_setBit (s : State) {f : Fld} (hf : f.perChannel = true) (d : Nat) (hi : i < 24) (b : Bool) :
    bitAt ((s.wrij f 0 d (setBit (s.rdij f 0 d) i b)).rdij f 0 d) i = b := by
  rw [s.rdij_wrij_perChannel hf 0 d (setBit_lt _ b hi (s.rdij_lt_of_perChannel hf 0 d)), bitAt_setBit_same]

/-- A flag reads what was written. -/
theorem State.rdij_wrij_flag (s : State) {f : Fld} (hf : f.lo = f.hi ∧ f.hi < 32) (k d : Nat) {v : Nat} (hv : v < 2) :
    (s.wrij f k d v).rdij f k d = v := by
  rw [s.rdij_wrij_same f k d v hf.1.le hf.2, hf.1, Nat.add_sub_cancel_left]
  exact Nat.mod_eq_of_lt hv

/-! ### The configuration that a die holds -/

theorem State.dieDio_congr (h : t.dies = s.dies) (d i : Nat) (c : CRef) : t.dieDio d i c = s.dieDio d i c := by
  unfold State.dieDio State.die
  rw [h]

/-! ### Refreshing the outputs (R399, R402, R404, R409, R412) -/

/-- The fields that follow from what a die has been told and what its protections allow. -/
def outFlds : List Fld := [FIO_CH_OL, FIO_CH_PARTNER, FIO_PARTNER_STATE, FIO_DRV_STATE, FIO_STAT_SAFE, FIO_STAT_HOSTLOST,
  FIO_AOUTSTAT_CODE, FIO_AOUTSTAT_HELD]

theorem State.swShow_writes (s : State) (d i : Nat) (was on : Bool) : WritesOnly outFlds s (s.swShow d i was on) := by
  have hopen : WritesOnly outFlds s (if was != on then s.wrij FIO_CH_OL i d 0 else s) :=
    ((WritesOnly.rfl _ s).wrij (by decide) _ _ _).ite (WritesOnly.rfl _ s)
  exact ((hopen.wrij (by decide) _ _ _).wrij (by decide) _ _ _).ite hopen

/-- The analogue outputs of die `d` show their codes and ranks, one after another. -/
theorem State.aoutShow_writes (s : State) (d : Nat) (l : List Nat) :
    WritesOnly [FIO_AOUTSTAT_CODE, FIO_AOUTSTAT_HELD] s (l.foldl (fun t j =>
      (t.wrij FIO_AOUTSTAT_CODE j d (t.aoutApplied d j)).wrij FIO_AOUTSTAT_HELD j d (b2n (t.aoutRanked d j))) s) :=
  (WritesOnly.rfl _ s).foldl l fun u j =>
    ((WritesOnly.rfl _ u).wrij (by decide) j d _).wrij (by decide) j d _

theorem State.outRefresh_writes (s : State) (d : Nat) : WritesOnly outFlds s (s.outRefresh d) := by
  refine WritesOnly.comp ?_ (State.aoutShow_writes _ d _) (by decide)
  refine WritesOnly.wrij (WritesOnly.wrij (WritesOnly.wrij ?_ (by decide) _ _ _) (by decide) _ _ _) (by decide) _ _ _
  exact ((WritesOnly.rfl _ s).foldl _ fun u i => u.swShow_writes d i _ _).of_regs rfl

/-- The switches shown are those that are on (R399). -/
theorem State.outRefresh_drv (s : State) (d : Nat) : (s.outRefresh d).rdij FIO_DRV_STATE 0 d = bitSum (s.dioOn d) 24 := by
  refine ((State.aoutShow_writes _ d _).rdij (by decide) 0 d).trans ?_
  rw [State.rdij_wrij_clear _ (by decide), State.rdij_wrij_clear _ (by decide)]
  exact State.rdij_wrij_perChannel _ (by decide) 0 d (bitSum_lt _ 24)

/-- A protection holds its output off. -/
theorem State.outRefresh_off (s : State) (hi : i < 24) (h : s.dioBlocked d i = true) :
    bitAt ((s.outRefresh d).rdij FIO_DRV_STATE 0 d) i = false := by
  rw [s.outRefresh_drv d, bitAt_bitSum _ hi, State.dioOn, h, Bool.not_true, Bool.and_false, Bool.false_and]

theorem State.dioBlocked_of_overCurrent (hl : bitAt (s.rdij FIO_F_OC_CH 0 d) i = true)
    (ht : s.dieDio d i C_DIO_OC_TIME ≠ 0) : s.dioBlocked d i = true := by
  simp [State.dioBlocked, hl, ht]

theorem State.dioBlocked_of_hot (h : s.rdij FIO_CH_TH_OFF i d = 1) : s.dioBlocked d i = true := by
  simp [State.dioBlocked, h]

/-! ### Latching a cause (R408, R413) -/

/-- The cause registers of a die. -/
def causeFlds : List Fld := [FIO_F_OC_CH, FIO_F_TH_CH, FIO_F_SVS_CH, FIO_F_OL_CH, FIO_F_WB_CH, FIO_F_UV_CH]

theorem State.fioFault_writes (s : State) (d : Nat) : WritesOnly [FIO_STAT_FAULT] s (s.fioFault d) :=
  ((WritesOnly.rfl _ s).wrij (by decide) 0 d _).raiseIf _ _ _

/-- A latched cause shows in FAULT. -/
theorem State.fioFault_fault (s : State) {f : Fld} (hf : f ∈ causeFlds) (h : s.rdij f 0 d ≠ 0) :
    (s.fioFault d).rdij FIO_STAT_FAULT 0 d = 1 := by
  have hany : causeFlds.any (fun f => s.rdij f 0 d != 0) = true := List.any_eq_true.mpr ⟨f, hf, bne_iff_ne.mpr h⟩
  unfold causeFlds at hany
  unfold State.fioFault
  rw [hany, Bool.true_or, State.rdij_raiseIf_of_not_evt _ _ _ _ (Fld.not_evt_of_plain (by decide) 0 d)]
  exact s.rdij_wrij_flag (by decide) 0 d (by decide)

theorem State.fioLatch_writes (s : State) (f : Fld) (d i e : Nat) :
    WritesOnly [f, FIO_STAT_FAULT] s (s.fioLatch f d i e) :=
  (((WritesOnly.rfl _ s).wrij List.mem_cons_self 0 d _).raiseIf _ _ _).comp (State.fioFault_writes _ d) (by simp)

/-- A cause that is latched shows at its channel and in FAULT. -/
theorem State.fioLatch_latched (s : State) {f : Fld} (hf : f ∈ causeFlds) (d e : Nat) (hi : i < 24) :
    bitAt ((s.fioLatch f d i e).rdij f 0 d) i = true ∧ (s.fioLatch f d i e).rdij FIO_STAT_FAULT 0 d = 1 := by
  have hall : ∀ f ∈ causeFlds, f.perChannel = true ∧ f.clearOfAll [FIO_STAT_FAULT] = true := by decide
  obtain ⟨hper, hclear⟩ := hall f hf
  have hset : bitAt (((s.wrij f 0 d (setBit (s.rdij f 0 d) i true)).raiseIf (!bitAt (s.rdij f 0 d) i) (23 + d) e).rdij
      f 0 d) i = true := by
    rw [State.rdij_raiseIf_of_not_evt _ _ _ _ (Fld.not_evt_of_plain (Bool.and_eq_true_iff.mp hclear).1 0 d)]
    exact s.bitAt_wrij_setBit hper d hi true
  refine ⟨?_, State.fioFault_fault _ hf fun h0 => ?_⟩
  · rw [State.fioLatch, (State.fioFault_writes _ d).rdij hclear]
    exact hset
  · rw [h0, bitAt_eq_testBit, Nat.zero_testBit] at hset
    exact Bool.false_ne_true hset

theorem State.fioLatch_dies (s : State) {f : Fld} (hf : f ∈ causeFlds) (d i e : Nat) : (s.fioLatch f d i e).dies = s.dies := by
  have hall : ∀ f ∈ causeFlds, f.okIn 0x20300000080000000000401 = true := by decide
  exact (Frame.fioLatch (hall f hf) (by decide) (Frame.rfl _ s)).1 .dies (by decide)

/-! ### The debounced state (R397) -/

theorem State.sample_regs (s : State) (d ep val fmt stamp : Nat) : (s.sample d ep val fmt stamp).regs = s.regs :=
  (s.sample_frame d ep val fmt stamp).1 .regs (by decide)

theorem State.dioState_writes (s : State) (d i : Nat) (on : Bool) (stamp : Nat) :
    WritesOnly [FIO_IN_STATE] s (s.dioState d i on stamp) :=
  ((WritesOnly.rfl _ s).wrij (by decide) 0 d _).of_regs (State.sample_regs _ _ _ _ _ _)

theorem State.dioState_state (s : State) (d : Nat) (on : Bool) (stamp : Nat) : (s.dioState d i on stamp).rdij FIO_IN_STATE 0 d =
    (s.wrij FIO_IN_STATE 0 d (setBit (s.rdij FIO_IN_STATE 0 d) i on)).rdij FIO_IN_STATE 0 d :=
  State.rdij_congr (State.sample_regs _ _ _ _ _ _) _ 0 d

theorem State.dioState_bit (s : State) (d : Nat) (hi : i < 24) (on : Bool) (stamp : Nat) :
    bitAt ((s.dioState d i on stamp).rdij FIO_IN_STATE 0 d) i = on := by
  rw [s.dioState_state d on stamp]
  exact s.bitAt_wrij_setBit (by decide) d hi on

end FieldIo

end Sys2Proof.Machine

namespace Sys2Proof.Machine

open Sys2Proof

section DigitalCommands

variable {s t : State} {ch : Fin 48}

/-! ## Inputs (R397, R398) -/

/-- The pin of channel `i` of die `d` is seen at a level: one that reads on has its wire whole, an output that reads off
no partner (R397, R398, R404). -/
def State.pinSeen (s : State) (d i : Nat) (level : Bool) : State :=
  let s1 := s.wrij FIO_PIN_STATE 0 d (setBit (s.rdij FIO_PIN_STATE 0 d) i level)
  if level then s1.wrij FIO_CH_WB i d 0 else if s.dioOut d i then s1.partnerGone d i else s1

theorem exec_debouncedChange_present (hd : s.diePresent (ch.val / 24) = true) (v : Bool) (h : Nat) :
    exec (.debouncedChange ch v h) s = .next
      (if s.dieDio (ch.val / 24) (ch.val % 24) C_DIO_DEBOUNCE ≤ h &&
          bitAt (s.rdij FIO_IN_STATE 0 (ch.val / 24)) (ch.val % 24) != v then
        (s.pinSeen (ch.val / 24) (ch.val % 24) v).dioState (ch.val / 24) (ch.val % 24) v
          (s.fieldCount + 2 ^ 32 - h * 100 % 2 ^ 32)
      else s.pinSeen (ch.val / 24) (ch.val % 24) v) := by
  simp only [exec, execDebouncedChange, hd, Bool.not_true, Bool.false_eq_true, if_false]
  split <;> rfl

theorem State.pinSeen_writes (s : State) (d i : Nat) (level : Bool) :
    WritesOnly [FIO_PIN_STATE, FIO_CH_WB, FIO_CH_PARTNER, FIO_PARTNER_STATE] s (s.pinSeen d i level) := by
  have hpin := fun v => (WritesOnly.rfl [FIO_PIN_STATE, FIO_CH_WB, FIO_CH_PARTNER, FIO_PARTNER_STATE] s).wrij
    (f := FIO_PIN_STATE) (by decide) 0 d v
  exact ((hpin _).wrij (by decide) i d 0).ite
    ((((hpin _).wrij (by decide) i d 0).wrij (by decide) 0 d _).ite (hpin _))

theorem State.pinSeen_pin (s : State) (d : Nat) {i : Nat} (hi : i < 24) (level : Bool) :
    bitAt ((s.pinSeen d i level).rdij FIO_PIN_STATE 0 d) i = level := by
  have hset := s.bitAt_wrij_setBit (f := FIO_PIN_STATE) (by decide) d hi level
  unfold State.pinSeen State.partnerGone
  dsimp only
  split
  · rw [State.rdij_wrij_clear _ (by decide), hset]
  · split
    · rw [State.rdij_wrij_clear _ (by decide), State.rdij_wrij_clear _ (by decide), hset]
    · exact hset

/-- A level seen sets the pin; one that held for DEBOUNCE the input too (R397). -/
theorem debouncedChange_sets (hd : s.diePresent (ch.val / 24) = true) (v : Bool) (h : Nat) :
    ∃ t : State, exec (.debouncedChange ch v h) s = .next t ∧
      bitAt (t.rdij FIO_PIN_STATE 0 (ch.val / 24)) (ch.val % 24) = v ∧
      (s.dieDio (ch.val / 24) (ch.val % 24) C_DIO_DEBOUNCE ≤ h →
        bitAt (t.rdij FIO_IN_STATE 0 (ch.val / 24)) (ch.val % 24) = v) := by
  have hi : ch.val % 24 < 24 := Nat.mod_lt _ (by decide)
  refine ⟨_, exec_debouncedChange_present hd v h, ?_⟩
  split
  · exact ⟨by rw [(State.dioState_writes _ _ _ _ _).rdij (by decide), s.pinSeen_pin _ hi],
      fun _ => State.dioState_bit _ _ hi v _⟩
  · next hsame =>
    refine ⟨s.pinSeen_pin _ hi v, fun hheld => ?_⟩
    rw [(s.pinSeen_writes _ _ v).rdij (by decide)]
    simpa [hheld] using hsame

theorem exec_inputRepeat_due (hd : s.diePresent (ch.val / 24) = true)
    (hdue : listAt (s.die (ch.val / 24)).repAt (ch.val % 24) 0 + 100000000 ≤ s.clk.el) :
    exec (.inputRepeat ch) s = .next (s.dioState (ch.val / 24) (ch.val % 24)
      (bitAt (s.rdij FIO_IN_STATE 0 (ch.val / 24)) (ch.val % 24)) s.fieldCount) := by
  simp only [exec, execInputRepeat, hd, decide_eq_true hdue, Bool.and_self, if_true]
  rfl

/-- A sample sent leaves the times of the reports. -/
theorem State.sample_repAt (s : State) (d ep val fmt stamp e : Nat) :
    ((s.sample d ep val fmt stamp).die e).repAt = (s.die e).repAt := by
  unfold State.sample
  split
  · rfl
  · refine listAt_listMod_keeps s.dies d {} (g := FieldDie.repAt) (fun x => ?_) e
    rfl

theorem State.dioState_repAt (s : State) {d i : Nat} (hd : d < s.dies.length) (hi : i < (s.die d).repAt.length) (on : Bool)
    (stamp : Nat) : listAt ((s.dioState d i on stamp).die d).repAt i 0 = s.clk.el := by
  unfold State.dioState
  rw [State.sample_repAt, State.die_dieM_same (s := s.wrij FIO_IN_STATE 0 d _) hd]
  exact listAt_listSet_same hi _ 0

/-- Setting a bit to what it is. -/
theorem setBit_bitAt (v i : Nat) : setBit v i (bitAt v i) = v := by
  refine Nat.eq_of_testBit_eq fun j => ?_
  rw [← bitAt_eq_testBit, ← bitAt_eq_testBit]
  by_cases h : j = i
  · rw [h, bitAt_setBit_same]
  · rw [bitAt_setBit_ne _ _ h]

/-- A repeat sends the state as it is (R397). -/
theorem State.dioState_same (s : State) (d i stamp : Nat) :
    (s.dioState d i (bitAt (s.rdij FIO_IN_STATE 0 d) i) stamp).rdij FIO_IN_STATE 0 d = s.rdij FIO_IN_STATE 0 d := by
  rw [State.dioState_state, setBit_bitAt]
  exact s.rdij_wrij_perChannel (by decide) 0 d (s.rdij_lt_of_perChannel (by decide) 0 d)

/-- The wire of channel `i` is broken (R398). -/
def State.wireBroken (s : State) (d i c : Nat) : State :=
  ((s.wrij FIO_CH_CURRENT i d c).wrij FIO_CH_WB i d 1).fioLatch FIO_F_WB_CH d i 5

theorem exec_wireBreak_broken {c : Nat} (hd : s.diePresent (ch.val / 24) = true) (hc : c < 20)
    (hen : s.dieDio (ch.val / 24) (ch.val % 24) C_DIO_WB_EN = 1) (hout : s.dioOut (ch.val / 24) (ch.val % 24) = false)
    (hlow : s.bankLow (ch.val / 24) (ch.val % 24) = false) :
    exec (.wireBreak ch c) s = .next (if bitAt (s.rdij FIO_IN_STATE 0 (ch.val / 24)) (ch.val % 24) then
      (s.wireBroken (ch.val / 24) (ch.val % 24) c).dioState (ch.val / 24) (ch.val % 24) false s.fieldCount
      else s.wireBroken (ch.val / 24) (ch.val % 24) c) := by
  simp only [exec, execWireBreak, hd, decide_eq_true hc, hen, hout, hlow, beq_self_eq_true, Bool.not_false, Bool.and_self,
    if_true]
  split <;> rfl

theorem State.wireBroken_writes (s : State) (d i c : Nat) :
    WritesOnly [FIO_CH_CURRENT, FIO_CH_WB, FIO_F_WB_CH, FIO_STAT_FAULT] s (s.wireBroken d i c) :=
  (((WritesOnly.rfl _ s).wrij (by decide) i d c).wrij (by decide) i d 1).comp (State.fioLatch_writes _ _ d i 5) (by decide)

theorem State.wireBroken_wb (s : State) (d i c : Nat) : (s.wireBroken d i c).rdij FIO_CH_WB i d = 1 := by
  rw [State.wireBroken, (State.fioLatch_writes _ _ d i 5).rdij (by decide)]
  exact State.rdij_wrij_flag _ (by decide) i d (by decide)

/-- A broken wire shows in WB and its cause, and its input reads 0 (R397, R398). -/
theorem wireBreak_shows {c : Nat} (hd : s.diePresent (ch.val / 24) = true) (hc : c < 20)
    (hen : s.dieDio (ch.val / 24) (ch.val % 24) C_DIO_WB_EN = 1) (hout : s.dioOut (ch.val / 24) (ch.val % 24) = false)
    (hlow : s.bankLow (ch.val / 24) (ch.val % 24) = false) :
    ∃ t : State, exec (.wireBreak ch c) s = .next t ∧ t.rdij FIO_CH_WB (ch.val % 24) (ch.val / 24) = 1 ∧
      bitAt (t.rdij FIO_F_WB_CH 0 (ch.val / 24)) (ch.val % 24) = true ∧
      bitAt (t.rdij FIO_IN_STATE 0 (ch.val / 24)) (ch.val % 24) = false := by
  have hi : ch.val % 24 < 24 := Nat.mod_lt _ (by decide)
  have hlatch : bitAt ((s.wireBroken (ch.val / 24) (ch.val % 24) c).rdij FIO_F_WB_CH 0 (ch.val / 24)) (ch.val % 24) = true :=
    (State.fioLatch_latched _ (by decide) _ 5 hi).1
  refine ⟨_, exec_wireBreak_broken hd hc hen hout hlow, ?_⟩
  split
  · have hw := State.dioState_writes (s.wireBroken (ch.val / 24) (ch.val % 24) c) (ch.val / 24) (ch.val % 24) false s.fieldCount
    exact ⟨(hw.rdij (by decide) _ _).trans (s.wireBroken_wb _ _ c), by rw [hw.rdij (by decide), hlatch],
      State.dioState_bit _ _ hi false _⟩
  · next hoff =>
    refine ⟨s.wireBroken_wb _ _ c, hlatch, ?_⟩
    rw [(s.wireBroken_writes _ _ c).rdij (by decide)]
    exact Bool.eq_false_of_not_eq_true hoff

theorem exec_wireIntact_whole {c : Nat} (hd : s.diePresent (ch.val / 24) = true) (hlo : 30 ≤ c) (hhi : c ≤ 150)
    (hen : s.dieDio (ch.val / 24) (ch.val % 24) C_DIO_WB_EN = 1)
    (hlow : s.bankLow (ch.val / 24) (ch.val % 24) = false) : exec (.wireIntact ch c) s =
      .next ((s.wrij FIO_CH_CURRENT (ch.val % 24) (ch.val / 24) c).wrij FIO_CH_WB (ch.val % 24) (ch.val / 24) 0) := by
  simp only [exec, execWireIntact, hd, decide_eq_true hlo, decide_eq_true hhi, hen, hlow, beq_self_eq_true, Bool.not_true,
    Bool.not_false, Bool.and_self, Bool.false_eq_true, if_false, if_true]
  rfl

/-! ## Protections (R400 to R404) -/

/-- Channel `i` of die `d` trips on an over-current (R400). -/
def State.overCurrentOff (s : State) (d i : Nat) : State :=
  ((s.wrij FIO_CH_LIMITING i d 0).fioLatch FIO_F_OC_CH d i 1).outRefresh d

theorem exec_overCurrent_due (hd : s.diePresent (ch.val / 24) = true) (hon : s.dioOn (ch.val / 24) (ch.val % 24) = true)
    (ht : s.dieDio (ch.val / 24) (ch.val % 24) C_DIO_OC_TIME ≠ 0) :
    exec (.overCurrent ch) s = .next (s.overCurrentOff (ch.val / 24) (ch.val % 24)) := by
  simp only [exec, execOverCurrent, hd, hon, bne_iff_ne.mpr ht, Bool.and_self, if_true]
  rfl

theorem State.overCurrentOff_shows (s : State) {d i : Nat} (hi : i < 24) (ht : s.dieDio d i C_DIO_OC_TIME ≠ 0) :
    bitAt ((s.overCurrentOff d i).rdij FIO_F_OC_CH 0 d) i = true ∧ (s.overCurrentOff d i).rdij FIO_CH_LIMITING i d = 0 ∧
      bitAt ((s.overCurrentOff d i).rdij FIO_DRV_STATE 0 d) i = false ∧
      (s.overCurrentOff d i).rdij FIO_STAT_FAULT 0 d = 1 := by
  have hw := State.outRefresh_writes ((s.wrij FIO_CH_LIMITING i d 0).fioLatch FIO_F_OC_CH d i 1) d
  obtain ⟨hbit, hfault⟩ := (s.wrij FIO_CH_LIMITING i d 0).fioLatch_latched (f := FIO_F_OC_CH) (by decide) d 1 hi
  have hdies := (s.wrij FIO_CH_LIMITING i d 0).fioLatch_dies (f := FIO_F_OC_CH) (by decide) d i 1
  have hlim : ((s.wrij FIO_CH_LIMITING i d 0).fioLatch FIO_F_OC_CH d i 1).rdij FIO_CH_LIMITING i d = 0 := by
    rw [(State.fioLatch_writes _ _ d i 1).rdij (by decide)]
    exact s.rdij_wrij_flag (by decide) i d (by decide)
  refine ⟨(congrArg (bitAt · i) (hw.rdij (by decide) 0 d)).trans hbit, (hw.rdij (by decide) i d).trans hlim,
    State.outRefresh_off _ hi (State.dioBlocked_of_overCurrent hbit ?_), (hw.rdij (by decide) 0 d).trans hfault⟩
  rwa [State.dieDio_congr hdies]

/-- The switch of channel `i` of die `d` shuts down at 170 °C (R401). -/
def State.shutDown (s : State) (d i : Nat) : State :=
  ((s.wrij FIO_CH_TH_OFF i d 1).fioLatch FIO_F_TH_CH d i 2).outRefresh d

theorem exec_switchThermalShutdown_output (hd : s.diePresent (ch.val / 24) = true)
    (hout : s.dioOut (ch.val / 24) (ch.val % 24) = true) :
    exec (.switchThermalShutdown ch) s = .next (s.shutDown (ch.val / 24) (ch.val % 24)) := by
  simp only [exec, execSwitchThermalShutdown, hd, hout, Bool.and_self, if_true]
  rfl

theorem State.shutDown_shows (s : State) {d i : Nat} (hi : i < 24) :
    (s.shutDown d i).rdij FIO_CH_TH_OFF i d = 1 ∧ bitAt ((s.shutDown d i).rdij FIO_F_TH_CH 0 d) i = true ∧
      bitAt ((s.shutDown d i).rdij FIO_DRV_STATE 0 d) i = false := by
  have hw := State.outRefresh_writes ((s.wrij FIO_CH_TH_OFF i d 1).fioLatch FIO_F_TH_CH d i 2) d
  have hbit := ((s.wrij FIO_CH_TH_OFF i d 1).fioLatch_latched (f := FIO_F_TH_CH) (by decide) d 2 hi).1
  have hhot : ((s.wrij FIO_CH_TH_OFF i d 1).fioLatch FIO_F_TH_CH d i 2).rdij FIO_CH_TH_OFF i d = 1 := by
    rw [(State.fioLatch_writes _ _ d i 2).rdij (by decide)]
    exact s.rdij_wrij_flag (by decide) i d (by decide)
  exact ⟨(hw.rdij (by decide) i d).trans hhot, (congrArg (bitAt · i) (hw.rdij (by decide) 0 d)).trans hbit,
    State.outRefresh_off _ hi (State.dioBlocked_of_hot hhot)⟩

/-- The switch of channel `i` of die `d` is tried again (R401). -/
def State.retried (s : State) (d i : Nat) : State :=
  (s.incij FIO_RETRY_COUNT i d 1).dieM d fun x => { x with tries := listMod x.tries i fun n => satAdd 8 n 1 }

theorem State.retried_writes (s : State) (d i : Nat) : WritesOnly [FIO_RETRY_COUNT] s (s.retried d i) :=
  ((WritesOnly.rfl _ s).wrij (f := FIO_RETRY_COUNT) (by decide) i d _).of_regs rfl

/-- The shutdown of channel `i` of die `d` is over; a switch that is on then has been tried again (R401). -/
def State.cooled (s : State) (d i : Nat) : State :=
  let s1 := s.wrij FIO_CH_TH_OFF i d 0
  if s1.dioOn d i then (s1.retried d i).outRefresh d else s1.outRefresh d

theorem exec_thermalRetry_off (hd : s.diePresent (ch.val / 24) = true)
    (hoff : s.rdij FIO_CH_TH_OFF (ch.val % 24) (ch.val / 24) = 1) :
    exec (.thermalRetry ch) s = .next (s.cooled (ch.val / 24) (ch.val % 24)) := by
  simp only [exec, execThermalRetry, State.cooled, hd, hoff, beq_self_eq_true, Bool.and_self, if_true]
  split <;> rfl

theorem State.cooled_off (s : State) (d i : Nat) : (s.cooled d i).rdij FIO_CH_TH_OFF i d = 0 := by
  have hw : WritesOnly (FIO_RETRY_COUNT :: outFlds) (s.wrij FIO_CH_TH_OFF i d 0) (s.cooled d i) :=
    (((State.retried_writes _ d i).mono (by simp)).comp (State.outRefresh_writes _ d) (by simp)).ite
      ((State.outRefresh_writes _ d).mono (by simp))
  rw [hw.rdij (by decide)]
  exact s.rdij_wrij_flag (by decide) i d (by decide)

theorem exec_openLoad_on {c : Nat} (hd : s.diePresent (ch.val / 24) = true)
    (hout : s.dioOut (ch.val / 24) (ch.val % 24) = true) (hon : s.dioOn (ch.val / 24) (ch.val % 24) = true)
    (hen : s.dieDio (ch.val / 24) (ch.val % 24) C_DIO_OL_ON_EN = 1)
    (hc : c < s.dieDio (ch.val / 24) (ch.val % 24) C_DIO_OL_ON_MA) : exec (.openLoad ch c) s =
      .next (((s.wrij FIO_CH_CURRENT (ch.val % 24) (ch.val / 24) (min c 4095)).wrij FIO_CH_OL (ch.val % 24) (ch.val / 24)
        1).fioLatch FIO_F_OL_CH (ch.val / 24) (ch.val % 24) 4) := by
  simp only [exec, execOpenLoad, hd, hout, hon, hen, decide_eq_true hc, beq_self_eq_true, Bool.not_true, Bool.and_self,
    Bool.or_self, Bool.true_or, Bool.false_eq_true, if_false, if_true]
  rfl

/-- An open load shows at its channel and latches its cause (R402). -/
theorem openLoad_latches {c : Nat} (hd : s.diePresent (ch.val / 24) = true)
    (hout : s.dioOut (ch.val / 24) (ch.val % 24) = true) (hon : s.dioOn (ch.val / 24) (ch.val % 24) = true)
    (hen : s.dieDio (ch.val / 24) (ch.val % 24) C_DIO_OL_ON_EN = 1)
    (hc : c < s.dieDio (ch.val / 24) (ch.val % 24) C_DIO_OL_ON_MA) :
    ∃ t : State, exec (.openLoad ch c) s = .next t ∧ t.rdij FIO_CH_OL (ch.val % 24) (ch.val / 24) = 1 ∧
      bitAt (t.rdij FIO_F_OL_CH 0 (ch.val / 24)) (ch.val % 24) = true := by
  refine ⟨_, exec_openLoad_on hd hout hon hen hc, ?_, (State.fioLatch_latched _ (by decide) _ 4 (Nat.mod_lt _ (by decide))).1⟩
  rw [(State.fioLatch_writes _ _ _ _ 4).rdij (by decide)]
  exact State.rdij_wrij_flag _ (by decide) _ _ (by decide)

theorem exec_shortVs_due (hd : s.diePresent (ch.val / 24) = true) (hout : s.dioOut (ch.val / 24) (ch.val % 24) = true)
    (hoff : s.dioOn (ch.val / 24) (ch.val % 24) = false)
    (hdrive : s.dieDio (ch.val / 24) (ch.val % 24) C_DIO_PARTNER_DRIVE = 0)
    (hdue : listAt (s.die (ch.val / 24)).offAt (ch.val % 24) 0 + 600000 ≤ s.clk.el) : exec (.shortVs ch) s =
      .next ((s.fioLatch FIO_F_SVS_CH (ch.val / 24) (ch.val % 24) 3).outRefresh (ch.val / 24)) := by
  simp only [exec, execShortVs, hd, hout, hoff, hdrive, Nat.zero_ne_one, Bool.not_false, Bool.and_self, if_true, if_false,
    if_pos hdue]
  rfl

/-- A short to the supply latches its cause (R403). -/
theorem shortVs_latches (hd : s.diePresent (ch.val / 24) = true) (hout : s.dioOut (ch.val / 24) (ch.val % 24) = true)
    (hoff : s.dioOn (ch.val / 24) (ch.val % 24) = false)
    (hdrive : s.dieDio (ch.val / 24) (ch.val % 24) C_DIO_PARTNER_DRIVE = 0)
    (hdue : listAt (s.die (ch.val / 24)).offAt (ch.val % 24) 0 + 600000 ≤ s.clk.el) :
    ∃ t : State, exec (.shortVs ch) s = .next t ∧ bitAt (t.rdij FIO_F_SVS_CH 0 (ch.val / 24)) (ch.val % 24) = true ∧
      t.rdij FIO_STAT_FAULT 0 (ch.val / 24) = 1 := by
  refine ⟨_, exec_shortVs_due hd hout hoff hdrive hdue, ?_⟩
  have hw := State.outRefresh_writes (s.fioLatch FIO_F_SVS_CH (ch.val / 24) (ch.val % 24) 3) (ch.val / 24)
  rw [hw.rdij (by decide), hw.rdij (by decide)]
  exact s.fioLatch_latched (by decide) _ 3 (Nat.mod_lt _ (by decide))

/-- The partner of channel `i` drives its pin (R404). -/
def State.partnerDrives (s : State) (d i : Nat) : State :=
  (s.wrij FIO_CH_PARTNER i d 1).wrij FIO_PARTNER_STATE 0 d (setBit (s.rdij FIO_PARTNER_STATE 0 d) i true)

theorem exec_shortVs_partner (hd : s.diePresent (ch.val / 24) = true) (hout : s.dioOut (ch.val / 24) (ch.val % 24) = true)
    (hoff : s.dioOn (ch.val / 24) (ch.val % 24) = false)
    (hdrive : s.dieDio (ch.val / 24) (ch.val % 24) C_DIO_PARTNER_DRIVE = 1) :
    exec (.shortVs ch) s = .next (s.partnerDrives (ch.val / 24) (ch.val % 24)) := by
  simp only [exec, execShortVs, hd, hout, hoff, hdrive, Bool.not_false, Bool.and_self, if_true]
  rfl

theorem State.partnerDrives_writes (s : State) (d i : Nat) :
    WritesOnly [FIO_CH_PARTNER, FIO_PARTNER_STATE] s (s.partnerDrives d i) :=
  ((WritesOnly.rfl _ s).wrij (by decide) i d 1).wrij (by decide) 0 d _

theorem State.partnerDrives_partner (s : State) (d i : Nat) : (s.partnerDrives d i).rdij FIO_CH_PARTNER i d = 1 := by
  rw [State.partnerDrives, State.rdij_wrij_clear _ (by decide)]
  exact s.rdij_wrij_flag (by decide) i d (by decide)

theorem State.partnerDrives_state (s : State) (d : Nat) {i : Nat} (hi : i < 24) :
    bitAt ((s.partnerDrives d i).rdij FIO_PARTNER_STATE 0 d) i = true := by
  have hset := (s.wrij FIO_CH_PARTNER i d 1).bitAt_wrij_setBit (f := FIO_PARTNER_STATE) (by decide) d hi true
  rwa [State.rdij_wrij_clear (f := FIO_CH_PARTNER) s (by decide)] at hset

/-! ## Commands at the core (R405, R408) -/

/-- The clearing of F_OC: it loses the bits written as 1 (R400, R408). -/
theorem State.causeClear_overCurrent_eq (s : State) (d v : Nat) : s.causeClear d 0 v =
    ((s.wrij FIO_F_OC_CH 0 d (bitSum (fun i => bitAt (s.rdij FIO_F_OC_CH 0 d) i && !bitAt v i) 24)).fioFault d).outRefresh d := by
  have hfld : causeFld 0 = FIO_F_OC_CH := rfl
  have hzero : ((0 : Nat) == 2) = false := rfl
  simp only [State.causeClear, hfld, hzero, Bool.false_and, Bool.or_false, Nat.zero_ne_one, if_false, bitSum]

theorem State.causeClear_overCurrent_bit (s : State) (d v : Nat) {i : Nat} (hi : i < 24) :
    bitAt ((s.causeClear d 0 v).rdij FIO_F_OC_CH 0 d) i = (bitAt (s.rdij FIO_F_OC_CH 0 d) i && !bitAt v i) := by
  rw [s.causeClear_overCurrent_eq d v, (State.outRefresh_writes _ d).rdij (by decide),
    (State.fioFault_writes _ d).rdij (by decide), s.rdij_wrij_perChannel (by decide) 0 d (bitSum_lt _ 24), bitAt_bitSum _ hi]

theorem exec_faultClear_present {d : Fin 2} (hp : s.host.halted = false) (hw : s.winPresent (23 + d.val) = true)
    (k : Fin 6) (v : Word) : exec (.faultClear d k v) s = .next (s.causeClear d.val k.val v.toNat) := by
  simp only [exec, execFaultClear, State.powered_of_not_halted hp, hw, if_true]
  rfl

/-- The on time of the period that begins, of a channel whose last period had `last` (R405). -/
def State.tpOnNs (s : State) (c last : Nat) (r : CfgRec) : Nat :=
  match s.dioFrac c 1 with
  | some (some f) => 1000 * (FV.mul f64 f (FV.ofInt (r.v C_DIO_TP_PERIOD * 1000000 / 1000 : Nat))).roundI.toNat
  | some none => last
  | none => if r.v C_DIO_INIT = 1 then r.v C_DIO_TP_PERIOD * 1000000 else 0

theorem exec_timeProportioningPeriod_begins {r : CfgRec} (hp : s.host.halted = false)
    (hr : s.crec C_DIO_CHANNEL ch.val = some r) (hdir : r.v C_DIO_DIR = 1) (hsrc : r.v C_DIO_SOURCE = 1)
    (hmode : r.v C_DIO_OUT_MODE = 1)
    (hk : (listAt (listAt s.fio (ch.val / 24) {}).tp (ch.val % 24) (0, 0)).1 ≠ s.clk.now / (r.v C_DIO_TP_PERIOD * 1000000)) :
    exec (.timeProportioningPeriod ch) s = .next (s.fioM (ch.val / 24) fun x => { x with
      tp := listSet x.tp (ch.val % 24) (s.clk.now / (r.v C_DIO_TP_PERIOD * 1000000),
        s.tpOnNs ch.val (listAt (listAt s.fio (ch.val / 24) {}).tp (ch.val % 24) (0, 0)).2 r) }) := by
  simp only [exec, execTimeProportioningPeriod, State.powered_of_not_halted hp, hr, hdir, hsrc, hmode,
    beq_false_of_ne hk, bne_self_eq_false, Bool.or_self, Bool.false_eq_true, if_false]
  rfl

theorem State.fioM_tp (s : State) {d i : Nat} (hd : d < s.fio.length) (hi : i < (listAt s.fio d {}).tp.length) (p : Nat × Nat) :
    listAt (listAt (s.fioM d fun x => { x with tp := listSet x.tp i p }).fio d {}).tp i (0, 0) = p := by
  rw [State.fioM, listAt_listMod_same _ _ _ _ hd]
  exact listAt_listSet_same hi p _

end DigitalCommands

/-- Settles O19: each clause is the lemma on that command. The registers change at the event on the die (row 31 of the
assumption log), and a 1 written to F_OC clears its bit whether or not the condition stands. -/
theorem digitalFieldCommandsComplete : Obligations.DigitalFieldCommandsComplete := by
  unfold Obligations.DigitalFieldCommandsComplete
  have hchan : ∀ ch : Fin 48, ch.val / 24 < 2 ∧ ch.val % 24 < 24 := fun ch => by omega
  refine ⟨fun ch v h s hd => ?_,
    fun ch s hd hlen hrep hdue => ⟨_, exec_inputRepeat_due hd hdue, s.dioState_repAt (hlen.symm ▸ (hchan ch).1)
      (hrep.symm ▸ (hchan ch).2) _ _, s.dioState_same _ _ _⟩,
    fun ch c s hd hc hen hout hlow => wireBreak_shows hd hc hen hout hlow,
    fun ch c s hd hlo hhi hen hlow => ⟨_, exec_wireIntact_whole hd hlo hhi hen hlow,
      State.rdij_wrij_flag _ (by decide) _ _ (by decide), ?_⟩,
    fun ch s hd hon ht => ⟨_, exec_overCurrent_due hd hon ht, s.overCurrentOff_shows (hchan ch).2 ht⟩,
    fun ch s hd hout => ⟨_, exec_switchThermalShutdown_output hd hout, s.shutDown_shows (hchan ch).2⟩,
    fun ch s hd hoff => ⟨_, exec_thermalRetry_off hd hoff, s.cooled_off _ _⟩,
    fun ch c s hd hout hon hen hc => openLoad_latches hd hout hon hen hc,
    fun ch s hd hout hoff hdrive hdue => shortVs_latches hd hout hoff hdrive hdue,
    fun ch s hd hout hoff hdrive => ⟨_, exec_shortVs_partner hd hout hoff hdrive, s.partnerDrives_partner _ _,
      s.partnerDrives_state _ (hchan ch).2, (s.partnerDrives_writes _ _).rdij (by decide) _ _⟩,
    fun d v i s hp hw => ⟨_, exec_faultClear_present hp hw 0 v, s.causeClear_overCurrent_bit _ _ i.isLt⟩,
    fun ch r s hp hr hdir hsrc hmode hlen htp hk => ⟨_, exec_timeProportioningPeriod_begins hp hr hdir hsrc hmode hk, ?_, rfl⟩⟩
  · obtain ⟨t, ht, hpin, hin⟩ := debouncedChange_sets hd v h
    exact ⟨t, ht, hpin, fun hheld => hin hheld.1⟩
  · rw [State.rdij_wrij_clear _ (by decide), State.rdij_wrij_same _ _ _ _ _ (by decide) (by decide)]
    exact Nat.mod_eq_of_lt (by simp only [FIO_CH_CURRENT]; omega)
  · rw [s.fioM_tp (hlen.symm ▸ (hchan ch).1) (htp.symm ▸ (hchan ch).2)]

end Sys2Proof.Machine

namespace Sys2Proof.Machine

open Sys2Proof

/-! ## A bank that is restored (R407) -/

section BankRestore

variable {s : State}

/-- In Thermal Halt the core raises no event (R82). -/
theorem State.raise_of_halted (h : s.host.halted = true) (w e : Nat) : s.raise w e = s := by
  simp [State.raise, h]

/-- Bank `b` of die `d` reads `v`, and is no longer tripped: none of its channels has a low supply (R407). -/
def State.bankUp (s : State) (d b v : Nat) : State :=
  (bankChans b).foldl (fun t i => t.wrij FIO_CH_SUPPLY_LOW i d 0) ((s.wrij FIO_VBANK_VOLT b d v).wrij FIO_VBANK_UV b d 0)

theorem exec_bankRestore_tripped {b : Fin 6} {v : Nat} (hd : s.diePresent (b.val / 3) = true) (hv : 1600 < v)
    (huv : s.rdij FIO_VBANK_UV (b.val % 3) (b.val / 3) = 1) : exec (.bankRestore b v) s =
      .next (((s.bankUp (b.val / 3) (b.val % 3) v).raise (23 + b.val / 3) 8).outRefresh (b.val / 3)) := by
  simp only [exec, execBankRestore, hd, huv, decide_eq_true hv, beq_self_eq_true, Bool.not_true, Bool.and_self,
    Bool.false_eq_true, if_false, if_true]
  rfl

theorem State.bankUp_frame (s : State) (d b v : Nat) : Frame 0x300000000000000000001 s (s.bankUp d b v) :=
  Frame.foldl _ (((Frame.rfl _ s).wrij (by decide)).wrij (by decide)) fun u _ => (Frame.rfl _ u).wrij (by decide)

theorem State.bankUp_uv (s : State) (d b v : Nat) : (s.bankUp d b v).rdij FIO_VBANK_UV b d = 0 :=
  (foldl_keeps (g := fun u => u.rdij FIO_VBANK_UV b d) (fun u _ => u.rdij_wrij_clear (by decide) _ _ _ _ _) _ _).trans
    (State.rdij_wrij_flag _ (by decide) b d (by decide))

/-- A bank above 16 V is restored, with its event when the core runs and its unit is present (R407). -/
theorem bankRestore_restores {b : Fin 6} {v : Nat} (hp : s.host.halted = false)
    (hw : s.winPresent (23 + b.val / 3) = true) (hd : s.diePresent (b.val / 3) = true) (hv : 1600 < v)
    (huv : s.rdij FIO_VBANK_UV (b.val % 3) (b.val / 3) = 1) :
    ∃ t : State, exec (.bankRestore b v) s = .next t ∧ t.rdij FIO_VBANK_UV (b.val % 3) (b.val / 3) = 0 ∧
      bitAt (t.rdi UNIT_EVT_EVT (23 + b.val / 3)) 8 = true := by
  refine ⟨_, exec_bankRestore_tripped hd hv huv, ?_, ?_⟩
  · refine ((State.outRefresh_writes _ _).rdij (by decide) _ _).trans ?_
    exact (((WritesOnly.rfl [] _).raise _ 8).rdij (by decide) _ _).trans (s.bankUp_uv _ _ v)
  · have hf := s.bankUp_frame (b.val / 3) (b.val % 3) v
    rw [(State.outRefresh_frame _ _).evt (by decide)]
    exact State.raise_bit _ _ _ ((hf.winPresent (by decide) _).trans hw) ((hf.1 .hostHalted (by decide)).trans hp) (by decide)

/-- In a halted core the event is not raised. -/
theorem bankRestore_evt_of_halted {b : Fin 6} {v : Nat} (h : s.host.halted = true) (hd : s.diePresent (b.val / 3) = true)
    (hv : 1600 < v) (huv : s.rdij FIO_VBANK_UV (b.val % 3) (b.val / 3) = 1) {t : State}
    (ht : exec (.bankRestore b v) s = .next t) (w : Nat) : t.rdi UNIT_EVT_EVT w = s.rdi UNIT_EVT_EVT w := by
  have hf := s.bankUp_frame (b.val / 3) (b.val % 3) v
  have hstate := Host.Outcome.next.inj ((exec_bankRestore_tripped hd hv huv).symm.trans ht)
  rw [← hstate, (State.outRefresh_frame _ _).evt (by decide),
    State.raise_of_halted ((hf.1 .hostHalted (by decide)).trans h), hf.evt (by decide)]

/-- A device in Thermal Halt with bank 0 of die 0 tripped. -/
def haltedTrip : State := State.wrij { State.reset with host := { halted := true } } FIO_VBANK_UV 0 0 1

end BankRestore

/-- Refutes O20, on a halted core: it asks for the event of a restored bank (its second clause) whether or not the core runs,
and in Thermal Halt the core raises none (R82). With the core running and the unit's window present that clause holds:
`bankRestore_restores`. -/
theorem not_bankAndAnalogueFieldCommandsComplete : ¬ Obligations.BankAndAnalogueFieldCommandsComplete := by
  unfold Obligations.BankAndAnalogueFieldCommandsComplete
  intro h
  obtain ⟨-, hrestore, -⟩ := h
  obtain ⟨t, ht, -, hevt⟩ := hrestore 0 1601 haltedTrip rfl (by decide) (by decide)
  have hno : bitAt (haltedTrip.rdi UNIT_EVT_EVT 23) 8 = false := by decide
  have hkeep : t.rdi UNIT_EVT_EVT 23 = haltedTrip.rdi UNIT_EVT_EVT 23 :=
    bankRestore_evt_of_halted rfl rfl (by decide) (by decide) ht 23
  have hbit : bitAt (t.rdi UNIT_EVT_EVT 23) 8 = true := hevt
  rw [hkeep, hno] at hbit
  exact Bool.false_ne_true hbit

end Sys2Proof.Machine

namespace Sys2Proof.Machine

open Sys2Proof

/-! ## Operations of the fans (R418 to R425) -/

section Fans

variable {α : Type} {s t : State} {n k : Nat}

/-- The fan unit is present in every variant. -/
theorem State.winPresent_fans (s : State) : s.winPresent 9 = true := by
  unfold State.winPresent
  split <;> rfl

theorem State.fan_congr (h : t.fans = s.fans) (k : Nat) : t.fan k = s.fan k :=
  congrArg (fun l : List FanUnit => listAt l k {}) h

theorem Frame.fan {m : Nat} (h : Frame m s t) (hm : m.testBit Part.fans.ix = false) (k : Nat) : t.fan k = s.fan k :=
  State.fan_congr (h.1 .fans hm) k

theorem State.fan_fanM_same (h : n < s.fans.length) (f : FanUnit → FanUnit) : (s.fanM n f).fan n = f (s.fan n) :=
  listAt_listMod_same _ _ _ _ h

theorem State.fan_fanM_ne (s : State) (h : n ≠ k) (f : FanUnit → FanUnit) : (s.fanM k f).fan n = s.fan n :=
  listAt_listMod_ne _ _ _ h

/-- A change that leaves part `g` of every fan alone. -/
theorem State.fanM_keeps (s : State) (k : Nat) {f : FanUnit → FanUnit} {g : FanUnit → α} (h : ∀ x, g (f x) = g x)
    (n : Nat) : g ((s.fanM k f).fan n) = g (s.fan n) := listAt_listMod_keeps s.fans k {} h n

@[simp] theorem State.length_fans_fanM (s : State) (k : Nat) (f : FanUnit → FanUnit) :
    (s.fanM k f).fans.length = s.fans.length := length_listMod _ _ _

theorem State.raise_fans (s : State) (w e : Nat) : (s.raise w e).fans = s.fans := (s.raise_frame w e).1 .fans (by decide)

/-! ### The drive, and a pronk that starts (R419, R422) -/

/-- The fields of a fan that starts or runs. -/
def fanFlds : List Fld := [FAN_STAT_STATE, FAN_DRIVE_DRIVE, FAN_DRIVE_SRC]

theorem State.fanApply_writes (s : State) (n : Nat) : WritesOnly [FAN_DRIVE_DRIVE, FAN_DRIVE_SRC] s (s.fanApply n) :=
  ((WritesOnly.rfl _ s).wrij (by decide) n 0 _).wrij (by decide) n 0 _

theorem State.fanApply_fans (s : State) (n : Nat) : (s.fanApply n).fans = s.fans := rfl

/-- The state of a fan reads what was written. -/
theorem State.wri_fanState (s : State) (n : Nat) {v : Nat} (hv : v < 8) :
    (s.wri FAN_STAT_STATE n v).rdi FAN_STAT_STATE n = v :=
  (s.rdij_wrij_same _ n 0 v (by decide) (by decide)).trans (Nat.mod_eq_of_lt hv)

theorem State.fanApply_state (s : State) (n k : Nat) : (s.fanApply n).rdi FAN_STAT_STATE k = s.rdi FAN_STAT_STATE k :=
  (s.fanApply_writes n).rdi (by decide) k

theorem State.fanRunState_lt (s : State) (n : Nat) : s.fanRunState n < 8 := by
  unfold State.fanRunState
  split <;> decide

/-- STATE of a channel whose start has begun. -/
def State.fanStartState (s : State) (n : Nat) (r : CfgRec) : Nat := if r.v C_FAN_PRONK_EN = 1 then 1 else s.fanRunState n

theorem State.fanStartState_lt (s : State) (n : Nat) (r : CfgRec) : s.fanStartState n r < 8 := by
  unfold State.fanStartState
  split
  · decide
  · exact s.fanRunState_lt n

theorem State.pronkStart_of_enabled (h : bitAt (s.rd FAN_CTRL_EN) n = true) (r : CfgRec) : s.pronkStart n r =
    ((s.fanM n fun f => { f with pronkEnd := some (s.clk.el + r.v C_FAN_PRONK_MS * 1000000), offEnd := none }).wri
      FAN_STAT_STATE n (s.fanStartState n r)).fanApply n := by
  simp only [State.pronkStart, h, if_true, State.fanStartState, beq_iff_eq]

theorem State.pronkStart_writes (s : State) (n : Nat) (r : CfgRec) : WritesOnly fanFlds s (s.pronkStart n r) := by
  have hstate := fun (f : FanUnit → FanUnit) v => ((WritesOnly.rfl fanFlds s).of_regs (u := s.fanM n f) rfl).wrij
    (f := FAN_STAT_STATE) (by decide) n 0 v
  exact ((hstate _ _).comp (State.fanApply_writes _ n) (by decide)).ite ((hstate _ _).comp (State.fanApply_writes _ n) (by decide))

theorem State.pronkStart_state (h : bitAt (s.rd FAN_CTRL_EN) n = true) (r : CfgRec) :
    (s.pronkStart n r).rdi FAN_STAT_STATE n = s.fanStartState n r := by
  rw [State.pronkStart_of_enabled h, State.fanApply_state]
  exact State.wri_fanState _ n (s.fanStartState_lt n r)

theorem State.pronkStart_fan (h : bitAt (s.rd FAN_CTRL_EN) n = true) (hn : n < s.fans.length) (r : CfgRec) :
    (s.pronkStart n r).fan n =
      { s.fan n with pronkEnd := some (s.clk.el + r.v C_FAN_PRONK_MS * 1000000), offEnd := none } := by
  rw [State.pronkStart_of_enabled h]
  exact State.fan_fanM_same hn _

theorem State.pronkStart_keeps (s : State) (k : Nat) (r : CfgRec) {g : FanUnit → α}
    (h : ∀ x p o, g { x with pronkEnd := p, offEnd := o } = g x) (n : Nat) : g ((s.pronkStart k r).fan n) = g (s.fan n) := by
  unfold State.pronkStart
  dsimp only
  split <;> exact s.fanM_keeps k (fun x => h x _ _) n

/-! ### A channel that goes on (R421, R424) -/

theorem State.fanResume_writes (s : State) (n : Nat) : WritesOnly fanFlds s (s.fanResume n) := by
  refine WritesOnly.comp (WritesOnly.wrij ?_ (by decide) n 0 _) (State.fanApply_writes _ n) (by decide)
  exact (WritesOnly.rfl fanFlds s).of_regs rfl

theorem State.fanResume_state (s : State) (n : Nat) : (s.fanResume n).rdi FAN_STAT_STATE n = s.fanRunState n :=
  (State.fanApply_state _ n n).trans (State.wri_fanState _ n (s.fanRunState_lt n))

theorem State.fanResume_fan (hn : n < s.fans.length) : (s.fanResume n).fan n = { s.fan n with
    i := toB32 (s.fanPct n), ctrl := toB32 (s.fanPct n), spr := s.rdi FAN_SPEED_V n, pronkEnd := none, offEnd := none } :=
  State.fan_fanM_same hn _

/-! ### Learning that fails (R425) -/

theorem State.learnFail_writes (s : State) (n : Nat) : WritesOnly [] s (s.learnFail n) := by
  unfold State.learnFail
  split
  · exact ((WritesOnly.rfl [] s).of_regs (u := s.fanM n _) rfl).raise 9 26
  · exact WritesOnly.rfl [] s

theorem State.learnFail_length (s : State) (n : Nat) : (s.learnFail n).fans.length = s.fans.length := by
  unfold State.learnFail
  split
  · rw [State.raise_fans, State.length_fans_fanM]
  · rfl

theorem State.learnFail_of_learning {l : FanLearn} (h : (s.fan n).learn = some l) : s.learnFail n =
    (s.fanM n fun f => { f with learn := none }).raise 9 26 := by
  simp only [State.learnFail, h]

end Fans

section FanCommands

variable {s : State} {n : Fin 8} {r : CfgRec}

/-! ## The speed loop and the tachometer (R418, R421) -/

theorem State.fanAge_updAt (s : State) (k : Nat) (r : CfgRec) (n : Nat) : ((s.fanAge k r).fan n).updAt = (s.fan n).updAt := by
  have hnear : ∀ v, ((s.fanM k fun f => { f with nearSince := v }).fan n).updAt = (s.fan n).updAt := by
    intro v
    refine s.fanM_keeps k (g := FanUnit.updAt) (fun x => ?_) n
    rfl
  unfold State.fanAge
  dsimp only
  split
  · exact hnear _
  · split
    · split
      · rw [(State.raiseIf_frame _ _ _ _).fan (by decide)]
        exact hnear _
      · split <;> exact hnear _
    · exact hnear _

/-- A start, or the state that follows the channel's own request, leaves the time of the update. -/
theorem State.fanStarts_updAt (s : State) (k : Nat) (r : CfgRec) (rise : Bool) (c : Prop) [Decidable c] (v : Nat) :
    ((if rise then s.pronkStart k r else if c then s.wri FAN_STAT_STATE k v else s).fan k).updAt = (s.fan k).updAt := by
  split
  · exact s.pronkStart_keeps k r (g := FanUnit.updAt) (fun _ _ _ => rfl) k
  · split <;> rfl

/-- The drive, and outside manual mode its copy in FAN_MAN, leave the time of the update. -/
theorem State.fanDriven_updAt (s : State) (k v : Nat) (c : Prop) [Decidable c] :
    ((if c then (s.fanApply k).wri FAN_MAN_DRIVE k v else s.fanApply k).fan k).updAt = (s.fan k).updAt := by
  split <;> rfl

theorem State.fanOwn_updAt (s : State) (k : Nat) (own : Bool) :
    ((s.fanM k fun f => { f with ownWas := own }).fan k).updAt = (s.fan k).updAt := by
  refine s.fanM_keeps k (g := FanUnit.updAt) (fun x => ?_) k
  rfl

/-- A period ends with an update (R421); what follows in it leaves its time. -/
theorem fanUpdate_updates (hp : s.host.halted = false) (hn : n.val < s.fans.length)
    (hr : s.crec C_FAN_CHANNEL n.val = some r)
    (hdue : (s.fan n.val).updAt + r.v C_FAN_CTRL_MS * 1000000 ≤ s.clk.el) :
    ∃ t : State, exec (.fanUpdate n) s = .next t ∧ (t.fan n.val).updAt = s.clk.el := by
  simp only [exec, execFanUpdate, State.powered_of_not_halted hp, hr, if_neg (Nat.not_lt.mpr hdue)]
  refine ⟨_, rfl, ?_⟩
  rw [State.fanAge_updAt, State.fanDriven_updAt, State.fanStarts_updAt, State.fanOwn_updAt]
  have hfans : ∀ (c : Prop) [Decidable c], (if c then s.wri FAN_SPEED_V n.val 0 else s).fans = s.fans := by
    intro c _
    split <;> rfl
  exact (congrArg FanUnit.updAt (State.fan_fanM_same (by rwa [hfans]) _)).trans rfl

/-- An edge is kept on the 10 ns grid, whatever speed it makes (R418). -/
theorem tachEdge_kept (hp : s.host.halted = false) (hn : n.val < s.fans.length)
    (hr : s.crec C_FAN_CHANNEL n.val = some r) :
    ∃ t : State, exec (.tachEdge n) s = .next t ∧ (t.fan n.val).lastEdge = some (s.clk.el / 10 * 10) := by
  have hedge : ∀ l, ((s.fanM n.val fun f => { f with lastEdge := some (s.clk.el / 10 * 10), gaps := l }).fan n.val).lastEdge =
      some (s.clk.el / 10 * 10) := fun l => congrArg FanUnit.lastEdge (State.fan_fanM_same hn _)
  simp only [exec, execTachEdge, State.powered_of_not_halted hp, hr]
  repeat' split
  all_goals exact ⟨_, rfl, hedge _⟩

/-! ## The end of a pronk and of a stall's off time (R422, R423) -/

theorem exec_pronkEnd_fast {e : Nat} (hp : s.host.halted = false) (hr : s.crec C_FAN_CHANNEL n.val = some r)
    (he : (s.fan n.val).pronkEnd = some e)
    (hv : (ofB32 (r.v C_FAN_MIN_RPM)).le (ofB32 (s.rdi FAN_SPEED_V n.val)) = true) :
    exec (.pronkEnd n) s = .next (s.fanResume n.val) := by
  simp only [exec, execPronkEnd, State.powered_of_not_halted hp, hr, he, hv, if_true]
  rfl

theorem exec_pronkEnd_stalled {e : Nat} (hp : s.host.halted = false) (hr : s.crec C_FAN_CHANNEL n.val = some r)
    (he : (s.fan n.val).pronkEnd = some e)
    (hv : (ofB32 (r.v C_FAN_MIN_RPM)).le (ofB32 (s.rdi FAN_SPEED_V n.val)) = false)
    (h0 : (ofB32 (s.rdi FAN_SPEED_V n.val)).eqv FV.zero = true) (hdue : e ≤ s.clk.el) :
    exec (.pronkEnd n) s = .next (s.failedStart n.val r) := by
  simp only [exec, execPronkEnd, State.powered_of_not_halted hp, hr, he, hv, h0, if_pos hdue, Bool.false_eq_true, if_false,
    if_true]
  rfl

/-- A start of channel `n` has failed and is counted; what the channel does next is still open (R423). -/
def State.startCounted (s : State) (n : Nat) : State :=
  (((s.learnFail n).inci FAN_STALLCNT_COUNT n 1).raise 9 n).fanM n fun f => { f with pronkEnd := none }

theorem State.startCounted_writes (s : State) (n : Nat) : WritesOnly [FAN_STALLCNT_COUNT] s (s.startCounted n) :=
  (((((s.learnFail_writes n).mono (by decide)).wrij (f := FAN_STALLCNT_COUNT) (by decide) n 0 _).raise 9 n).of_regs rfl)

theorem State.startCounted_count (s : State) (n : Nat) : (s.startCounted n).rdi FAN_STALLCNT_COUNT n =
    min (s.rdi FAN_STALLCNT_COUNT n + 1) (2 ^ 32 - 1) := by
  have hsame : (s.learnFail n).rdi FAN_STALLCNT_COUNT n = s.rdi FAN_STALLCNT_COUNT n :=
    (s.learnFail_writes n).rdi (by decide) n
  have hraise : (s.startCounted n).rdi FAN_STALLCNT_COUNT n =
      ((s.learnFail n).inci FAN_STALLCNT_COUNT n 1).rdi FAN_STALLCNT_COUNT n :=
    ((WritesOnly.rfl [] _).raise 9 n).rdi (by decide) n
  rw [hraise, State.rdi_inci_same _ _ _ _ (by decide) (by decide), hsame]
  rfl

theorem State.startCounted_length (s : State) (n : Nat) : (s.startCounted n).fans.length = s.fans.length := by
  rw [State.startCounted, State.length_fans_fanM, State.raise_fans]
  exact s.learnFail_length n

/-- Channel `n` is off for OFF_MS before the next try (R423). -/
def State.stalledOff (s : State) (n : Nat) (r : CfgRec) : State :=
  (((s.startCounted n).wri FAN_STAT_STATE n 3).fanM n fun f => { f with
    offEnd := some (s.clk.el + r.v C_FAN_OFF_MS * 1000000) }).fanApply n

theorem State.failedStart_of_tries {n : Nat} (h : s.rdi FAN_STAT_TRIES n < r.v C_FAN_RETRIES) :
    s.failedStart n r = s.stalledOff n r := by
  have htries : (s.startCounted n).rdi FAN_STAT_TRIES n = s.rdi FAN_STAT_TRIES n :=
    (s.startCounted_writes n).rdi (by decide) n
  exact if_pos (htries.symm ▸ h)

theorem State.stalledOff_state (s : State) (n : Nat) (r : CfgRec) : (s.stalledOff n r).rdi FAN_STAT_STATE n = 3 :=
  (State.fanApply_state _ n n).trans (State.wri_fanState _ n (by decide))

theorem State.stalledOff_count (s : State) (n : Nat) (r : CfgRec) : (s.stalledOff n r).rdi FAN_STALLCNT_COUNT n =
    min (s.rdi FAN_STALLCNT_COUNT n + 1) (2 ^ 32 - 1) := by
  have hoff : ∀ f, (((s.startCounted n).wri FAN_STAT_STATE n 3).fanM n f).rdi FAN_STALLCNT_COUNT n =
      (s.startCounted n).rdi FAN_STALLCNT_COUNT n := fun _ => State.rdij_wrij_clear _ (by decide) n 0 n 0 3
  rw [State.stalledOff, (State.fanApply_writes _ n).rdi (by decide), hoff, s.startCounted_count n]

theorem State.stalledOff_offEnd {n : Nat} (hn : n < s.fans.length) :
    ((s.stalledOff n r).fan n).offEnd = some (s.clk.el + r.v C_FAN_OFF_MS * 1000000) := by
  have hcount : n < ((s.startCounted n).wri FAN_STAT_STATE n 3).fans.length := (s.startCounted_length n).symm ▸ hn
  rw [State.stalledOff, State.fan_congr (State.fanApply_fans _ n), State.fan_fanM_same hcount]

/-- The off time of a stall ends in a new try (R423). -/
theorem exec_stallOffEnd_due {e : Nat} (hp : s.host.halted = false) (hr : s.crec C_FAN_CHANNEL n.val = some r)
    (he : (s.fan n.val).offEnd = some e) (hst : s.rdi FAN_STAT_STATE n.val = 3) (hdue : e ≤ s.clk.el) :
    exec (.stallOffEnd n) s = .next ((s.inci FAN_STAT_TRIES n.val 1).pronkStart n.val r) := by
  simp only [exec, execStallOffEnd, State.powered_of_not_halted hp, hr, he, hst, decide_eq_true hdue]
  rfl

/-! ## A lost tachometer (R424) -/

theorem exec_tachLost_due {e : Nat} (hp : s.host.halted = false) (hr : s.crec C_FAN_CHANNEL n.val = some r)
    (he : (s.fan n.val).lastEdge = some e) (hst : s.rdi FAN_STAT_STATE n.val = 2 ∨ s.rdi FAN_STAT_STATE n.val = 6)
    (hv : (ofB32 (r.v C_FAN_MIN_RPM)).le (ofB32 (s.rdi FAN_SPEED_V n.val)) = true)
    (hdrive : s.rdi FAN_DRIVE_DRIVE n.val ≠ 0)
    (hdue : e + max 10000000 (3 * ((s.fan n.val).gaps.getLast?.getD 0)) < s.clk.el)
    (hcs : r.v C_FAN_CS_CHANNEL = 0xFF) : exec (.tachLost n) s = .next (s.tachLost n.val) := by
  have hruns : (s.rdi FAN_STAT_STATE n.val == 2 || s.rdi FAN_STAT_STATE n.val == 6) = true := by
    simpa only [Bool.or_eq_true, beq_iff_eq] using hst
  simp only [exec, execTachLost, State.powered_of_not_halted hp, hr, he, hruns, hv, bne_iff_ne.mpr hdrive,
    decide_eq_true hdue, hcs, Bool.and_self, if_true]
  rfl

theorem State.tachLost_shows (hp : s.host.halted = false) (n : Fin 8) : (s.tachLost n.val).rdi FAN_STAT_TACH_LOST n.val = 1 ∧
    (s.tachLost n.val).rdi FAN_STAT_STATE n.val = 5 ∧ bitAt ((s.tachLost n.val).rdi UNIT_EVT_EVT 9) (16 + n.val) = true := by
  unfold State.tachLost
  generalize hu : (s.learnFail n.val).fanM n.val (fun f => { f with pronkEnd := none }) = u
  have hraise := (WritesOnly.rfl [] ((u.wri FAN_STAT_TACH_LOST n.val 1).wri FAN_STAT_STATE n.val 5)).raise 9 (16 + n.val)
  have hhalt : u.host.halted = false := by
    have hf : Frame 0x20000000080000004000401 s u := hu ▸ (State.fanM_frame _ _ _).comp (by decide) (s.learnFail_frame n.val)
    exact (hf.1 .hostHalted (by decide)).trans hp
  have hlost : ((u.wri FAN_STAT_TACH_LOST n.val 1).wri FAN_STAT_STATE n.val 5).rdi FAN_STAT_TACH_LOST n.val = 1 :=
    (State.rdij_wrij_clear _ (by decide) _ _ _ _ _).trans (u.rdij_wrij_flag (by decide) n.val 0 (by decide))
  refine ⟨?_, ?_, ?_⟩
  · rw [(State.fanApply_writes _ n.val).rdi (by decide), hraise.rdi (by decide), hlost]
  · rw [State.fanApply_state, hraise.rdi (by decide), State.wri_fanState _ _ (by decide)]
  · rw [(State.fanApply_frame _ n.val).evt (by decide)]
    exact State.raise_bit _ 9 _ (State.winPresent_fans _) hhalt (by omega)

/-! ## PRONK and LEARN (R422, R425) -/

/-- Channel `n` and what its start goes by are the same in `u` as in `s`. -/
structure State.SameFan (u s : State) (n : Nat) : Prop where
  fan : u.fan n = s.fan n
  state : u.rdi FAN_STAT_STATE n = s.rdi FAN_STAT_STATE n
  en : u.rd FAN_CTRL_EN = s.rd FAN_CTRL_EN
  clk : u.clk = s.clk
  loader : u.loader = s.loader
  len : u.fans.length = s.fans.length

theorem State.SameFan.crec {u : State} {m : Nat} (h : u.SameFan s m) (c : CRef) (k : Nat) : u.crec c k = s.crec c k := by
  rw [State.crec, State.crec, h.loader]

/-- The state of another channel stays. -/
theorem State.wri_fanState_ne (s : State) {m k : Nat} (hm : m < 8) (hk : k < 8) (hne : k ≠ m) (v : Nat) :
    (s.wri FAN_STAT_STATE k v).rdi FAN_STAT_STATE m = s.rdi FAN_STAT_STATE m :=
  s.rdi_wri_ne FAN_STAT_STATE v (by decide) (by simp only [FAN_STAT_STATE]; omega)

/-- A change of channel `k`, with a state and the drive that follows, leaves channel `m`. -/
theorem State.SameFan.change_ne {u : State} {m k : Nat} (h : u.SameFan s m) (hm : m < 8) (hk : k < 8) (hne : k ≠ m)
    (f : FanUnit → FanUnit) (v : Nat) : (((u.fanM k f).wri FAN_STAT_STATE k v).fanApply k).SameFan s m := by
  have hen : ((u.fanM k f).wri FAN_STAT_STATE k v).rd FAN_CTRL_EN = u.rd FAN_CTRL_EN :=
    State.rdij_wrij_clear (u.fanM k f) (by decide) k 0 0 0 v
  exact ⟨(u.fan_fanM_ne hne.symm f).trans h.fan,
    ((State.fanApply_state _ k m).trans (State.wri_fanState_ne (u.fanM k f) hm hk hne v)).trans h.state,
    (((State.fanApply_writes _ k).rd (by decide)).trans hen).trans h.en, h.clk, h.loader,
    (u.length_fans_fanM k f).trans h.len⟩

/-- The same change of channel `m`, with a state and the drive that follows, in both. -/
theorem State.SameFan.change {u : State} {m : Nat} (h : u.SameFan s m) (hm : m < s.fans.length) {f g : FanUnit → FanUnit}
    (hf : f (s.fan m) = g (s.fan m)) {v w : Nat} (hv : v = w) : (((u.fanM m f).wri FAN_STAT_STATE m v).fanApply m).SameFan
      (((s.fanM m g).wri FAN_STAT_STATE m w).fanApply m) m := by
  have hen : ∀ (t : State) (e : FanUnit → FanUnit) (z : Nat),
      (((t.fanM m e).wri FAN_STAT_STATE m z).fanApply m).rd FAN_CTRL_EN = t.rd FAN_CTRL_EN := fun t e z =>
    ((State.fanApply_writes _ m).rd (by decide)).trans (State.rdij_wrij_clear (t.fanM m e) (by decide) m 0 0 0 z)
  have hstate : ∀ t : State, ((t.wri FAN_STAT_STATE m w).fanApply m).rdi FAN_STAT_STATE m = w % 8 := fun t =>
    (State.fanApply_state _ m m).trans (t.rdij_wrij_same FAN_STAT_STATE m 0 w (by decide) (by decide))
  have hfan : ∀ (t : State) (e : FanUnit → FanUnit) (z : Nat), m < t.fans.length →
      (((t.fanM m e).wri FAN_STAT_STATE m z).fanApply m).fan m = e (t.fan m) := fun t e z ht => State.fan_fanM_same ht e
  subst hv
  refine ⟨?_, (hstate _).trans (hstate _).symm, ?_, h.clk, h.loader, ?_⟩
  · rw [hfan u f v (h.len.symm ▸ hm), hfan s g v hm, h.fan, hf]
  · rw [hen, hen, h.en]
  · exact (u.length_fans_fanM m f).trans (h.len.trans (s.length_fans_fanM m g).symm)

theorem State.SameFan.pronkStart_ne {u : State} {m k : Nat} (h : u.SameFan s m) (hm : m < 8) (hk : k < 8) (hne : k ≠ m)
    (q : CfgRec) : (u.pronkStart k q).SameFan s m := by
  unfold State.pronkStart
  split <;> exact h.change_ne hm hk hne _ _

/-- Channel `k` is pronked when bit `k` of `m` is set and it runs (R422). -/
def State.pronkAsked (m : Nat) (s : State) (k : Nat) : State :=
  match s.crec C_FAN_CHANNEL k with
  | some r =>
    if bitAt m k && bitAt (s.rd FAN_CTRL_EN) k && s.rdi FAN_STAT_STATE k != 4 && s.rdi FAN_STAT_STATE k != 5 then
      s.pronkStart k r
    else s
  | none => s

theorem exec_pronk {m : BitVec 8} (hp : s.host.halted = false) :
    exec (.pronk m) s = .next ((List.range 8).foldl (State.pronkAsked m.toNat) s) :=
  State.powered_of_not_halted hp _

theorem State.SameFan.pronkAsked_ne {u : State} {i k : Nat} (h : u.SameFan s i) (hi : i < 8) (hk : k < 8) (hne : k ≠ i)
    (m : Nat) : (u.pronkAsked m k).SameFan s i := by
  unfold State.pronkAsked
  split
  · split
    · exact h.pronkStart_ne hi hk hne _
    · exact h
  · exact h

/-- The pronk of an enabled channel starts it, and the others' leave it (R422). -/
theorem State.foldl_pronkAsked {m i : Nat} (hi : i < 8) (hn : i < s.fans.length) (hr : s.crec C_FAN_CHANNEL i = some r)
    (hm : bitAt m i = true) (hen : bitAt (s.rd FAN_CTRL_EN) i = true) (h4 : s.rdi FAN_STAT_STATE i ≠ 4)
    (h5 : s.rdi FAN_STAT_STATE i ≠ 5) : ((List.range 8).foldl (State.pronkAsked m) s).SameFan (s.pronkStart i r) i := by
  have other : ∀ (v u : State), ∀ k ∈ List.range 8, k ≠ i → u.SameFan v i → (u.pronkAsked m k).SameFan v i :=
    fun v u k hk hne hu => hu.pronkAsked_ne hi (List.mem_range.mp hk) hne m
  have starts : ∀ u : State, u.SameFan s i → (u.pronkAsked m i).SameFan (s.pronkStart i r) i := by
    intro u hu
    have henu : bitAt (u.rd FAN_CTRL_EN) i = true := hu.en.symm ▸ hen
    have hask : u.pronkAsked m i = u.pronkStart i r := by
      simp only [State.pronkAsked, hu.crec, hr, hm, henu, hu.state, bne_iff_ne.mpr h4, bne_iff_ne.mpr h5, Bool.and_self,
        if_true]
    rw [hask, State.pronkStart_of_enabled henu, State.pronkStart_of_enabled hen, hu.clk]
    exact hu.change hn rfl (by rw [State.fanStartState, State.fanStartState, State.fanRunState, State.fanRunState, hu.fan])
  exact foldl_meets (P := (State.SameFan · s i)) (Q := (State.SameFan · (s.pronkStart i r) i)) List.nodup_range
    (List.mem_range.mpr hi) (other s) starts (other _) ⟨rfl, rfl, rfl, rfl, rfl, rfl⟩

/-- The baseline learning of channel `n` starts with its first hold (R425). -/
def State.learnStart (s : State) (n : Nat) (r : CfgRec) : State :=
  ((s.fanM n fun f => { f with
    learn := some ⟨0, s.clk.el + r.v C_FAN_LEARN_S * 1000000000, [], 0, 0⟩ }).wri FAN_STAT_STATE n 6).fanApply n

theorem State.learnStart_state (s : State) (n : Nat) (r : CfgRec) : (s.learnStart n r).rdi FAN_STAT_STATE n = 6 :=
  (State.fanApply_state _ n n).trans (State.wri_fanState _ n (by decide))

theorem State.learnStart_learn {n : Nat} (hn : n < s.fans.length) : ((s.learnStart n r).fan n).learn =
    some ⟨0, s.clk.el + r.v C_FAN_LEARN_S * 1000000000, [], 0, 0⟩ := by
  rw [State.learnStart, State.fan_congr (State.fanApply_fans _ n)]
  exact congrArg FanUnit.learn (State.fan_fanM_same hn _)

/-- Channel `k` learns when bit `k` of `m` is set and it is off or runs (R425). -/
def State.learnAsked (m : Nat) (s : State) (k : Nat) : State :=
  match s.crec C_FAN_CHANNEL k with
  | some r =>
    if bitAt m k && bitAt (s.rd FAN_CTRL_EN) k && (s.rdi FAN_STAT_STATE k == 0 || s.rdi FAN_STAT_STATE k == 2) then
      s.learnStart k r
    else s
  | none => s

theorem exec_learn {m : BitVec 8} (hp : s.host.halted = false) :
    exec (.learn m) s = .next ((List.range 8).foldl (State.learnAsked m.toNat) s) :=
  State.powered_of_not_halted hp _

theorem State.SameFan.learnAsked_ne {u : State} {i k : Nat} (h : u.SameFan s i) (hi : i < 8) (hk : k < 8) (hne : k ≠ i)
    (m : Nat) : (u.learnAsked m k).SameFan s i := by
  unfold State.learnAsked
  split
  · split
    · exact h.change_ne hi hk hne _ _
    · exact h
  · exact h

/-- The learning of an enabled channel starts, and the others' leaves it (R425). -/
theorem State.foldl_learnAsked {m i : Nat} (hi : i < 8) (hn : i < s.fans.length) (hr : s.crec C_FAN_CHANNEL i = some r)
    (hm : bitAt m i = true) (hen : bitAt (s.rd FAN_CTRL_EN) i = true)
    (hst : s.rdi FAN_STAT_STATE i = 0 ∨ s.rdi FAN_STAT_STATE i = 2) :
    ((List.range 8).foldl (State.learnAsked m) s).SameFan (s.learnStart i r) i := by
  have hrest : (s.rdi FAN_STAT_STATE i == 0 || s.rdi FAN_STAT_STATE i == 2) = true := by
    simpa only [Bool.or_eq_true, beq_iff_eq] using hst
  have other : ∀ (v u : State), ∀ k ∈ List.range 8, k ≠ i → u.SameFan v i → (u.learnAsked m k).SameFan v i :=
    fun v u k hk hne hu => hu.learnAsked_ne hi (List.mem_range.mp hk) hne m
  have starts : ∀ u : State, u.SameFan s i → (u.learnAsked m i).SameFan (s.learnStart i r) i := by
    intro u hu
    have hask : u.learnAsked m i = u.learnStart i r := by
      simp only [State.learnAsked, hu.crec, hr, hm, hu.en, hen, hu.state, hrest, Bool.and_self, if_true]
    rw [hask, State.learnStart, State.learnStart, hu.clk]
    exact hu.change hn rfl rfl
  exact foldl_meets (P := (State.SameFan · s i)) (Q := (State.SameFan · (s.learnStart i r) i)) List.nodup_range
    (List.mem_range.mpr hi) (other s) starts (other _) ⟨rfl, rfl, rfl, rfl, rfl, rfl⟩

/-! ## The holds of the learning (R425) -/

theorem exec_learnHoldEnd_failed {l : FanLearn} (hp : s.host.halted = false) (hr : s.crec C_FAN_CHANNEL n.val = some r)
    (hl : (s.fan n.val).learn = some l) (hdue : l.till ≤ s.clk.el) (h0 : l.n = 0) (hvals : l.vals = []) :
    exec (.learnHoldEnd n) s = .next ((s.learnFail n.val).fanResume n.val) := by
  have hno : FV.zero.lt FV.zero = false := rfl
  simp only [exec, execLearnHoldEnd, State.powered_of_not_halted hp, hr, hl, if_neg (Nat.not_lt.mpr hdue), h0, hvals,
    List.getLast?_nil, if_true, hno, Bool.not_false]
  rfl

/-- A hold that failed ends the learning with its event, and the channel runs (R425). -/
theorem State.learnFailed_runs {n : Nat} {l : FanLearn} (hp : s.host.halted = false) (hn : n < s.fans.length)
    (hl : (s.fan n).learn = some l) : (((s.learnFail n).fanResume n).fan n).learn = none ∧
      ((s.learnFail n).fanResume n).rdi FAN_STAT_STATE n = 2 ∧
      bitAt (((s.learnFail n).fanResume n).rdi UNIT_EVT_EVT 9) 26 = true := by
  have hlen : n < (s.learnFail n).fans.length := (s.learnFail_length n).symm ▸ hn
  have hnone : ((s.learnFail n).fan n).learn = none := by
    rw [State.learnFail_of_learning hl, State.fan_congr (State.raise_fans _ 9 26), State.fan_fanM_same hn]
  refine ⟨?_, ?_, ?_⟩
  · rw [State.fanResume_fan hlen, hnone]
  · rw [State.fanResume_state, State.fanRunState, hnone]
    rfl
  · rw [(State.fanResume_frame _ n).evt (by decide), State.learnFail_of_learning hl]
    exact State.raise_bit _ 9 26 (State.winPresent_fans _) hp (by decide)

/-- The mean of the first hold is kept, and the second hold begins (R425). -/
theorem exec_learnHoldEnd_first {l : FanLearn} (hp : s.host.halted = false) (hr : s.crec C_FAN_CHANNEL n.val = some r)
    (hl : (s.fan n.val).learn = some l) (hdue : l.till ≤ s.clk.el) (h0 : l.n ≠ 0) (hk : l.k = 0) (hvals : l.vals = [])
    (hrise : FV.zero.lt (sDiv (ofB32 l.sum) (FV.ofInt l.n)) = true) : exec (.learnHoldEnd n) s =
      .next ((s.fanM n.val fun f => { f with learn := some ⟨1, s.clk.el + r.v C_FAN_LEARN_S * 1000000000,
        [toB32 (sDiv (ofB32 l.sum) (FV.ofInt l.n))], 0, 0⟩ }).fanApply n.val) := by
  simp only [exec, execLearnHoldEnd, State.powered_of_not_halted hp, hr, hl, if_neg (Nat.not_lt.mpr hdue), if_neg h0, hk,
    hvals, List.getLast?_nil, hrise, Bool.not_true, Bool.false_eq_true, if_false, Nat.zero_lt_succ, if_true, List.nil_append,
    Nat.zero_add]
  rfl

/-! ## Clearing a latched stall and a lost tachometer (R422, R423, R424) -/

theorem exec_stallLatchedClear_turning (hp : s.host.halted = false) (hr : s.crec C_FAN_CHANNEL n.val = some r)
    (hl : s.rdi FAN_STAT_STALL_LATCHED n.val = 1) (hv : (ofB32 (s.rdi FAN_SPEED_V n.val)).eqv FV.zero = false) :
    exec (.stallLatchedClear n) s = .next ((s.wri FAN_STAT_STALL_LATCHED n.val 0).fanResume n.val) := by
  simp only [exec, execStallLatchedClear, State.powered_of_not_halted hp, hr, hl, hv, if_true, Bool.false_eq_true, if_false]
  rfl

theorem exec_stallLatchedClear_still (hp : s.host.halted = false) (hr : s.crec C_FAN_CHANNEL n.val = some r)
    (hl : s.rdi FAN_STAT_STALL_LATCHED n.val = 1) (hv : (ofB32 (s.rdi FAN_SPEED_V n.val)).eqv FV.zero = true) :
    exec (.stallLatchedClear n) s = .next ((s.wri FAN_STAT_STALL_LATCHED n.val 0).pronkStart n.val r) := by
  simp only [exec, execStallLatchedClear, State.powered_of_not_halted hp, hr, hl, hv, if_true]
  rfl

theorem exec_tachLostClear_turning (hp : s.host.halted = false) (hr : s.crec C_FAN_CHANNEL n.val = some r)
    (hl : s.rdi FAN_STAT_TACH_LOST n.val = 1) (hv : (ofB32 (s.rdi FAN_SPEED_V n.val)).eqv FV.zero = false) :
    exec (.tachLostClear n) s = .next ((s.wri FAN_STAT_TACH_LOST n.val 0).fanResume n.val) := by
  simp only [exec, execTachLostClear, State.powered_of_not_halted hp, hr, hl, hv, if_true, Bool.false_eq_true, if_false]
  rfl

/-- A latch that is cleared stays so while the channel goes on. -/
theorem State.fanResume_cleared (s : State) {f : Fld} (hf : f = FAN_STAT_STALL_LATCHED ∨ f = FAN_STAT_TACH_LOST) (n : Nat) :
    ((s.wri f n 0).fanResume n).rdi f n = 0 := by
  have hclear : f.clearOfAll fanFlds = true ∧ f.lo = f.hi ∧ f.hi < 32 := by rcases hf with rfl | rfl <;> decide
  rw [(State.fanResume_writes _ n).rdi hclear.1]
  exact s.rdij_wrij_flag hclear.2 n 0 (by decide)

end FanCommands

/-- Settles O23: each clause is the lemma on that command. STATE 2 is also the watch of a start without a pronk, as row 32 of
the assumption log has it. -/
theorem fanCommandsComplete : Obligations.FanCommandsComplete := by
  unfold Obligations.FanCommandsComplete
  have hchan : ∀ {s : State} {n : Fin 8}, s.fans.length = 8 → n.val < s.fans.length := fun h => h.symm ▸ Fin.isLt _
  have henabled : ∀ {s : State} {n : Fin 8} {f : Fld} (v : Nat), FAN_CTRL_EN.clearOf f = true →
      bitAt (s.rd FAN_CTRL_EN) n.val = true → bitAt ((s.wri f n.val v).rd FAN_CTRL_EN) n.val = true :=
    fun v hf h => by rwa [State.rd, State.wri, State.rdij_wrij_clear _ hf]
  refine ⟨fun n r s hp hlen hr hdue => fanUpdate_updates hp (hchan hlen) hr hdue,
    fun n r s hp hlen hr => tachEdge_kept hp (hchan hlen) hr,
    fun n r e s hp hlen hr he hv => ⟨_, exec_pronkEnd_fast hp hr he hv, s.fanResume_state n.val, ?_⟩,
    fun n r e s hp hlen hr he hv h0 hdue htries => ⟨_, exec_pronkEnd_stalled hp hr he hv h0 hdue, ?_⟩,
    fun n r e s hp hlen hr he hst hdue hen => ⟨_, exec_stallOffEnd_due hp hr he hst hdue, ?_⟩,
    fun n r e s hp hlen hr he hst hv hdrive hdue hcs =>
      ⟨_, exec_tachLost_due hp hr he hst hv hdrive hdue hcs, State.tachLost_shows hp n⟩,
    fun n r m s hp hlen hr hm hen h4 h5 => ⟨_, exec_pronk hp, ?_⟩,
    fun n r m s hp hlen hr hm hen hst => ⟨_, exec_learn hp, ?_⟩,
    fun n r l s hp hlen hr hl hdue h0 hvals =>
      ⟨_, exec_learnHoldEnd_failed hp hr hl hdue h0 hvals, State.learnFailed_runs hp (hchan hlen) hl⟩,
    fun n r l s hp hlen hr hl hdue h0 hk hvals hrise => ⟨_, exec_learnHoldEnd_first hp hr hl hdue h0 hk hvals hrise, ?_⟩,
    fun n r s hp hlen hr hl hv => ⟨_, exec_stallLatchedClear_turning hp hr hl hv, State.fanResume_cleared _ (.inl rfl) _,
      State.fanResume_state _ _⟩,
    fun n r s hp hlen hr hl hv hen => ⟨_, exec_stallLatchedClear_still hp hr hl hv, ?_⟩,
    fun n r s hp hlen hr hl hv => ⟨_, exec_tachLostClear_turning hp hr hl hv, State.fanResume_cleared _ (.inr rfl) _,
      State.fanResume_state _ _⟩⟩
  · rw [State.fanResume_fan (hchan hlen)]
  · rw [State.failedStart_of_tries htries]
    exact ⟨s.stalledOff_state _ _, State.stalledOff_offEnd (hchan hlen), s.stalledOff_count _ _⟩
  · have hen' : bitAt ((s.inci FAN_STAT_TRIES n.val 1).rd FAN_CTRL_EN) n.val = true :=
      henabled (f := FAN_STAT_TRIES) _ (by decide) hen
    refine ⟨State.pronkStart_state hen' r, ?_⟩
    rw [State.pronkStart_fan hen' (hchan hlen)]
    exact ⟨rfl, rfl⟩
  · have hsame := State.foldl_pronkAsked n.isLt (hchan hlen) hr hm hen h4 h5
    rw [hsame.state, hsame.fan, State.pronkStart_state hen, State.pronkStart_fan hen (hchan hlen)]
    exact ⟨rfl, rfl⟩
  · have hsame := State.foldl_learnAsked n.isLt (hchan hlen) hr hm hen hst
    rw [hsame.state, hsame.fan, State.learnStart_learn (hchan hlen)]
    exact ⟨s.learnStart_state _ _, rfl, rfl⟩
  · rw [State.fan_congr (State.fanApply_fans _ _), State.fan_fanM_same (hchan hlen)]
    exact ⟨rfl, rfl⟩
  · have hen' := henabled (f := FAN_STAT_STALL_LATCHED) 0 (by decide) hen
    refine ⟨?_, ?_⟩
    · rw [(State.pronkStart_writes _ _ r).rdi (by decide)]
      exact s.rdij_wrij_flag (by decide) n.val 0 (by decide)
    · rw [State.pronkStart_fan hen' (hchan hlen)]
      rfl

end Sys2Proof.Machine

namespace Sys2Proof.Machine

open Sys2Proof

/-! # Settled statements on the thermal unit (R427 to R432)

## What its operations write -/

section Thermal

variable {s : State} {k : Nat}

/-- The thermal unit is present in every variant. -/
theorem State.winPresent_thermal (s : State) : s.winPresent 8 = true := by
  unfold State.winPresent
  split <;> rfl

theorem ucode_lt (w : Nat) (i : Int) : ucode w i < 2 ^ w := by
  have hpos : (0 : Int) < (2 ^ w : Nat) := by positivity
  have hlt := Int.emod_lt_of_pos i hpos
  have hnonneg := Int.emod_nonneg i hpos.ne'
  unfold ucode
  omega

theorem WritesOnly.thmM {l : List Fld} {t : State} (h : WritesOnly l s t) (f : ThmUnit → ThmUnit) :
    WritesOnly l s (t.thmM f) := h.of_regs (Eq.refl _)

/-! ## Levels requested and enforced (R431) -/

theorem State.enforce_of_ne (h : s.rd THM_STAT_ENFORCED ≠ k) : s.enforce k =
    ((s.wr THM_STAT_ENFORCED k).wr CLK_STAT_FBUSY (b2n (decide (k ≠ s.rd CLK_STAT_FSTEP)))).raise 8 2 := if_neg h

theorem State.enforce_writes (s : State) (k : Nat) : WritesOnly [THM_STAT_ENFORCED, CLK_STAT_FBUSY] s (s.enforce k) :=
  (WritesOnly.rfl _ s).ite ((((WritesOnly.rfl _ s).wrij (by decide) 0 0 _).wrij (by decide) 0 0 _).raise 8 2)

/-- The level that is enforced reads in THM_STAT, whether or not it changed. -/
theorem State.enforce_enforced (s : State) (hk : k < 4) : (s.enforce k).rd THM_STAT_ENFORCED = k := by
  by_cases h : s.rd THM_STAT_ENFORCED = k
  · rw [State.enforce, if_pos h, h]
  · rw [State.enforce_of_ne h]
    have hstep : WritesOnly [CLK_STAT_FBUSY] (s.wr THM_STAT_ENFORCED k) (((s.wr THM_STAT_ENFORCED k).wr CLK_STAT_FBUSY
        (b2n (decide (k ≠ s.rd CLK_STAT_FSTEP)))).raise 8 2) :=
      ((WritesOnly.rfl _ _).wrij (by decide) 0 0 _).raise 8 2
    calc _ = (s.wr THM_STAT_ENFORCED k).rd THM_STAT_ENFORCED := hstep.rd (by decide)
      _ = k % 4 := s.rdij_wrij_same _ 0 0 k (by decide) (by decide)
      _ = k := Nat.mod_eq_of_lt hk

/-- A level that changes raises THROTTLE. -/
theorem State.enforce_throttle (hp : s.host.halted = false) (h : s.rd THM_STAT_ENFORCED ≠ k) :
    bitAt ((s.enforce k).rdi UNIT_EVT_EVT 8) 2 = true := by
  rw [State.enforce_of_ne h]
  exact State.raise_bit _ _ _ (State.winPresent_thermal _) hp (by decide)

/-- The fields that follow from what is requested. -/
def requestFlds : List Fld := [THM_STAT_REQUESTED, THM_STAT_ENFORCED, THM_STAT_GRACE, CLK_STAT_FBUSY]

theorem State.requestUpdate_writes (s : State) : WritesOnly requestFlds s s.requestUpdate := by
  have hreq : WritesOnly requestFlds s (s.wr THM_STAT_REQUESTED s.levelReq) :=
    (WritesOnly.rfl _ s).wrij (by decide) 0 0 _
  refine WritesOnly.ite ?_ (WritesOnly.ite ?_ hreq)
  · exact ((hreq.thmM _).wrij (by decide) 0 0 _).raise 8 1
  · exact (((hreq.thmM _).comp (State.enforce_writes _ _) (by decide)).ite (hreq.thmM _)).wrij (by decide) 0 0 _

theorem State.enforce_thm (s : State) (k : Nat) : (s.enforce k).thm = s.thm := (s.enforce_frame k).1 .thm (by decide)

/-- A change of what is requested leaves the ends of the floors. -/
theorem State.requestUpdate_floorEnd (s : State) : s.requestUpdate.thm.floorEnd = s.thm.floorEnd := by
  unfold State.requestUpdate
  dsimp only
  split
  · rw [(State.raise_frame _ _ _).1 .thm (by decide)]
    rfl
  · split
    · rw [State.wr_thm]
      split
      · rw [State.enforce_thm]
        rfl
      · rfl
    · rfl

/-! ## Values and judgement of a group (R428, R429) -/

/-- The fields that show a group's values. -/
def valueFlds : List Fld := [THM_TEMP_EFF, THM_GRP_MAX, THM_GRP_FAILS]

theorem State.groupValues_writes (s : State) (g : Nat) : WritesOnly valueFlds s (s.groupValues g) := by
  refine WritesOnly.thmM (WritesOnly.wrij (WritesOnly.wrij ?_ (by decide) g 0 _) (by decide) g 0 _) _
  exact (WritesOnly.rfl _ s).foldl _ fun u i => ((WritesOnly.rfl _ u).wrij (by decide) i 0 _).ite (WritesOnly.rfl _ u)

/-- The fields that a group's judgement sets. -/
def judgeFlds : List Fld := THM_GRP_WARN :: THM_GRP_LEVEL :: THM_STAT_WARN :: requestFlds

theorem State.groupJudge_writes (s : State) (g : Nat) : WritesOnly judgeFlds s (s.groupJudge g) := by
  refine WritesOnly.comp (WritesOnly.wrij (WritesOnly.thmM (WritesOnly.wrij ?_ (by decide) g 0 _) _) (by decide) 0 0 _)
    (State.requestUpdate_writes _) (by decide)
  have hwarn : ∀ v, WritesOnly judgeFlds s (s.wri THM_GRP_WARN g v) := (WritesOnly.rfl _ s).wrij (by decide) g 0
  exact WritesOnly.ite ((hwarn 1).raiseIf _ 8 0) (WritesOnly.ite (hwarn 0) (WritesOnly.rfl _ s))

theorem State.sensFail_writes (s : State) (k : Nat) : WritesOnly [THM_SENSFAIL_FAILED, THM_GRP_FLOOR] s (s.sensFail k) := by
  refine WritesOnly.ite (WritesOnly.rfl _ s) (WritesOnly.raiseIf (WritesOnly.wrij ?_ (by decide) _ 0 _) _ 8 4)
  have hfail : WritesOnly [THM_SENSFAIL_FAILED, THM_GRP_FLOOR] s
      ((s.wr THM_SENSFAIL_FAILED (setBit (s.rd THM_SENSFAIL_FAILED) k true)).raise 8 3) :=
    ((WritesOnly.rfl _ s).wrij (by decide) 0 0 _).raise 8 3
  exact WritesOnly.ite (WritesOnly.thmM (WritesOnly.ite (hfail.thmM _) hfail) _) (WritesOnly.ite (hfail.thmM _) hfail)

/-- The end of a floor, or its hold, touches nothing but the floor and what follows from the request. -/
theorem State.floorDrop_writes (s : State) (g : Nat) : WritesOnly (THM_GRP_FLOOR :: requestFlds) s (s.floorDrop g) := by
  have hsame := WritesOnly.rfl (THM_GRP_FLOOR :: requestFlds) s
  exact hsame.ite ((hsame.thmM _).ite
    ((((hsame.thmM _).thmM _).wrij (by decide) g 0 0).comp (State.requestUpdate_writes _) (by decide)))

end Thermal

section ThermalCommands

variable {s : State} {k : Fin 32} {g : Fin 4} {e : Nat}

/-! ## A sample of a sensor (R427 to R429) -/

/-- Sensor `k` reads `v`, and is no longer stale. -/
def State.sampleRead (s : State) (k : Nat) (v : Int) : State :=
  ((s.wri THM_TEMP_RAW k (ucode 16 v)).wr THM_STALE_STALE (setBit (s.rd THM_STALE_STALE) k false)).thmM fun u =>
    { u with seen := setBit u.seen k true }

/-- Sensor `k` is judged on its sample `v`: it fails out of range, or on its third disagreement in a row. -/
def State.sampleVetted (s : State) (k : Nat) (v : Int) (bad : Bool) : State :=
  let run := if s.disagrees k v then listAt s.thm.disRun k 0 + 1 else 0
  let t := s.thmM fun u => { u with disRun := listSet u.disRun k run }
  if (bad || decide (v < -960) || decide (3200 < v)) || decide (3 ≤ run) then t.sensFail k else t

theorem exec_sensorSample_present {raw : BitVec 16} {bad : Bool} {v : Int} (hp : s.host.halted = false)
    (hk : s.sensPresent k.val = true) (hg : s.groupStale (sensGroup k.val) = false)
    (hv : v = satS 16 (sint 16 raw.toNat + sint 16 (s.cv C_SENSOR_OFFSET k.val))) :
    exec (.sensorSample k raw bad) s = .next (((((s.sampleRead k.val v).sampleVetted k.val v bad).groupValues
      (sensGroup k.val)).groupJudge (sensGroup k.val)).shutJudge (sensGroup k.val) k.val) := by
  subst hv
  simp only [exec, execSensorSample, State.powered_of_not_halted hp, hk, hg, Bool.not_true, Bool.or_self,
    Bool.false_eq_true, if_false]
  rfl

theorem State.sampleVetted_writes (s : State) (k : Nat) (v : Int) (bad : Bool) :
    WritesOnly [THM_SENSFAIL_FAILED, THM_GRP_FLOOR] s (s.sampleVetted k v bad) :=
  (((WritesOnly.rfl _ s).thmM _).trans (State.sensFail_writes _ k)).ite ((WritesOnly.rfl _ s).thmM _)

/-- What follows a sample leaves every field that the judgements and the shutdown do not set. -/
theorem State.sampleJudged_rdij (s : State) (k : Nat) (v : Int) (bad : Bool) (g : Nat) {f : Fld}
    (hf : f.clearOfAll (THM_SENSFAIL_FAILED :: THM_GRP_FLOOR :: (valueFlds ++ judgeFlds)) = true)
    (ho : f.outside 0x203001dc080318089c00c07 = true) (i j : Nat) :
    ((((s.sampleVetted k v bad).groupValues g).groupJudge g).shutJudge g k).rdij f i j = s.rdij f i j := by
  have hvet : WritesOnly (THM_SENSFAIL_FAILED :: THM_GRP_FLOOR :: (valueFlds ++ judgeFlds)) s (s.sampleVetted k v bad) :=
    (s.sampleVetted_writes k v bad).mono (by decide)
  calc _ = (((s.sampleVetted k v bad).groupValues g).groupJudge g).rdij f i j := (State.shutJudge_frame _ g k).rdij ho i j
    _ = s.rdij f i j := ((hvet.comp (State.groupValues_writes _ g) (by decide)).comp (State.groupJudge_writes _ g)
      (by decide)).rdij hf i j

theorem State.sampleRead_raw (s : State) (k : Nat) (v : Int) : (s.sampleRead k v).rdi THM_TEMP_RAW k = ucode 16 v := by
  calc _ = (s.wri THM_TEMP_RAW k (ucode 16 v)).rdi THM_TEMP_RAW k := State.rdij_wrij_clear _ (by decide) 0 0 k 0 _
    _ = ucode 16 v % 2 ^ 16 := s.rdij_wrij_same _ k 0 _ (by decide) (by decide)
    _ = ucode 16 v := Nat.mod_eq_of_lt (ucode_lt 16 v)

theorem State.sampleRead_stale (s : State) (k : Fin 32) (v : Int) :
    bitAt ((s.sampleRead k.val v).rd THM_STALE_STALE) k.val = false := by
  have hread : (s.sampleRead k.val v).rd THM_STALE_STALE = setBit (s.rd THM_STALE_STALE) k.val false % 2 ^ 32 :=
    State.rdij_wrij_same _ THM_STALE_STALE 0 0 _ (by decide) (by decide)
  have hlt : setBit (s.rd THM_STALE_STALE) k.val false < 2 ^ 32 :=
    setBit_lt _ false k.isLt (s.rdij_lt THM_STALE_STALE 0 0)
  rw [hread, Nat.mod_eq_of_lt hlt, bitAt_setBit_same]

/-! ## Holds and floors that end (R429, R430) -/

theorem exec_holdExpiry_due (hp : s.host.halted = false) (hlevel : s.rdi THM_GRP_LEVEL g.val ≠ 0)
    (hg : s.groupStale g.val = false)
    (he : listAt (listAt s.thm.below g.val []) (s.rdi THM_GRP_LEVEL g.val - 1) none = some e)
    (hdue : e + s.cv1 C_POLICY_HOLD_S * 1000000000 ≤ s.clk.el) : exec (.holdExpiry g) s =
      .next (s.wri THM_GRP_LEVEL g.val (s.rdi THM_GRP_LEVEL g.val - 1)).requestUpdate := by
  simp only [exec, execHoldExpiry, State.powered_of_not_halted hp, decide_eq_false hlevel, hg, Bool.or_self,
    Bool.false_eq_true, if_false, he, if_pos hdue]
  rfl

/-- The level of a group reads what was written, whatever request follows from it. -/
theorem State.requestUpdate_wri_level (s : State) (g : Nat) {v : Nat} (hv : v < 4) :
    (s.wri THM_GRP_LEVEL g v).requestUpdate.rdi THM_GRP_LEVEL g = v := by
  calc _ = (s.wri THM_GRP_LEVEL g v).rdi THM_GRP_LEVEL g := (State.requestUpdate_writes _).rdi (by decide) g
    _ = v % 4 := s.rdij_wrij_same _ g 0 v (by decide) (by decide)
    _ = v := Nat.mod_eq_of_lt hv

/-- The floor of group `g` is dropped. -/
def State.floorEnded (s : State) (g : Nat) : State :=
  (s.thmM fun u => { u with floorHold := listSet u.floorHold g false, floorEnd := listSet u.floorEnd g none }).wri
    THM_GRP_FLOOR g 0

theorem exec_floorExpiry_due (hp : s.host.halted = false) (he : listAt s.thm.floorEnd g.val none = some e)
    (hdue : e ≤ s.clk.el) (hhold : listAt s.thm.floorHold g.val false = false) :
    exec (.floorExpiry g) s = .next (s.floorEnded g.val).requestUpdate := by
  have hdrop : s.floorDrop g.val = (s.floorEnded g.val).requestUpdate := by
    simp only [State.floorDrop, hhold, Bool.false_and, State.thmM, he, Nat.not_lt.mpr hdue, decide_false,
      Bool.false_eq_true, if_false]
    rfl
  simp only [exec, execFloorExpiry, State.powered_of_not_halted hp, he, if_pos hdue, hdrop]
  rfl

theorem State.floorEnded_floor (s : State) (g : Nat) : (s.floorEnded g).requestUpdate.rdi THM_GRP_FLOOR g = 0 :=
  ((State.requestUpdate_writes _).rdi (by decide) g).trans (State.rdij_wrij_same _ _ g 0 0 (by decide) (by decide))

theorem State.floorEnded_floorEnd (he : listAt s.thm.floorEnd g.val none = some e) :
    listAt (s.floorEnded g.val).requestUpdate.thm.floorEnd g.val none = none := by
  have hlen : g.val < s.thm.floorEnd.length := by
    by_contra h
    rw [listAt_of_le (Nat.not_lt.mp h)] at he
    cases he
  rw [State.requestUpdate_floorEnd]
  exact listAt_listSet_same hlen none none

/-! ## The end of the grace, and ACCEPT (R431) -/

/-- Level `k` is enforced at the end of its grace; a higher request keeps GRACE. -/
def State.graceEnded (s : State) (k : Nat) : State :=
  (s.enforce k).wr THM_STAT_GRACE (b2n (decide (k < (s.enforce k).rd THM_STAT_REQUESTED)))

theorem exec_graceEnd_due (hp : s.host.halted = false)
    (h : s.rd THM_STAT_ENFORCED < min s.graceDone (s.rd THM_STAT_REQUESTED)) :
    exec .graceEnd s = .next (s.graceEnded (min s.graceDone (s.rd THM_STAT_REQUESTED))) := by
  simp only [exec, execGraceEnd, State.powered_of_not_halted hp, if_pos h]
  rfl

theorem exec_accept (hp : s.host.halted = false) :
    exec .accept s = .next ((s.enforce (s.rd THM_STAT_REQUESTED)).wr THM_STAT_GRACE 0) := State.powered_of_not_halted hp _

/-- GRACE is apart from the level that is enforced. -/
theorem State.wr_grace_enforced (s : State) {k : Nat} (hk : k < 4) (v : Nat) :
    ((s.enforce k).wr THM_STAT_GRACE v).rd THM_STAT_ENFORCED = k :=
  (State.rdij_wrij_clear _ (by decide) 0 0 0 0 v).trans (s.enforce_enforced hk)

/-! ## Failures cleared (R428, R430) -/

/-- The failures in `m` are cleared, and their sensors have not disagreed yet. -/
def State.failsCleared (s : State) (m : Nat) : State :=
  (s.wr THM_SENSFAIL_FAILED (s.rd THM_SENSFAIL_FAILED &&& (0xFFFFFFFF ^^^ m))).thmM fun u =>
    { u with disRun := (List.range 32).map fun k => if bitAt m k then 0 else listAt u.disRun k 0 }

/-- Group `g` is judged afresh; a floor that failures held ends when none is left. -/
def State.regrouped (s : State) (g : Nat) : State :=
  if listAt (s.groupValues g).thm.floorHold g false then (s.groupValues g).floorDrop g else s.groupValues g

theorem exec_sensfailClear (hp : s.host.halted = false) (v : Word) :
    exec (.sensfailClear v) s = .next ((List.range 4).foldl State.regrouped (s.failsCleared v.toNat)) :=
  State.powered_of_not_halted hp _

theorem State.regrouped_writes (s : State) (g : Nat) :
    WritesOnly (THM_GRP_FLOOR :: (valueFlds ++ requestFlds)) s (s.regrouped g) := by
  have hvalues := (s.groupValues_writes g).mono (l := THM_GRP_FLOOR :: (valueFlds ++ requestFlds)) (by decide)
  exact WritesOnly.ite (hvalues.comp (State.floorDrop_writes _ g) (by decide)) hvalues

theorem State.failsCleared_failed (s : State) (m : Nat) :
    (s.failsCleared m).rd THM_SENSFAIL_FAILED = s.rd THM_SENSFAIL_FAILED &&& (0xFFFFFFFF ^^^ m) := by
  have hlt : s.rd THM_SENSFAIL_FAILED &&& (0xFFFFFFFF ^^^ m) < 2 ^ 32 :=
    Nat.lt_of_le_of_lt Nat.and_le_left (s.rdij_lt THM_SENSFAIL_FAILED 0 0)
  exact (s.rdij_wrij_same _ 0 0 _ (by decide) (by decide)).trans (Nat.mod_eq_of_lt hlt)

end ThermalCommands

/-- Settles O26: each clause is the lemma on that command; the register it names is read off the next state. -/
theorem thermalCommandsComplete : Obligations.ThermalCommandsComplete := by
  unfold Obligations.ThermalCommandsComplete
  have hrequested : ∀ s : State, s.rd THM_STAT_REQUESTED < 4 := fun s => s.rdij_lt THM_STAT_REQUESTED 0 0
  refine ⟨fun k raw b s hp hk hg => ⟨_, exec_sensorSample_present hp hk hg rfl, ?_, ?_⟩,
    fun g e s hp hlevel hg he hdue => ⟨_, exec_holdExpiry_due hp hlevel hg he hdue, s.requestUpdate_wri_level g.val ?_⟩,
    fun g e s hp he hdue hhold => ⟨_, exec_floorExpiry_due hp he hdue hhold, s.floorEnded_floor g.val,
      State.floorEnded_floorEnd he⟩,
    fun s hp hdue => ⟨_, exec_graceEnd_due hp hdue,
      s.wr_grace_enforced (Nat.lt_of_le_of_lt (Nat.min_le_right _ _) (hrequested s)) _, ?_⟩,
    fun s hp => ⟨_, exec_accept hp, s.wr_grace_enforced (hrequested s) 0, State.rdij_wrij_flag _ (by decide) 0 0 (by decide)⟩,
    fun v s hp => ⟨_, exec_sensfailClear hp v, ?_⟩⟩
  · exact (State.sampleJudged_rdij _ _ _ _ _ (by decide) (by decide) k.val 0).trans (s.sampleRead_raw k.val _)
  · rw [State.rd, State.sampleJudged_rdij _ _ _ _ _ (by decide) (by decide)]
    exact s.sampleRead_stale k _
  · exact Nat.lt_of_le_of_lt (Nat.sub_le _ 1) (s.rdij_lt THM_GRP_LEVEL g.val 0)
  · rw [State.rdi, State.graceEnded, State.wr, State.rdij_wrij_apart _ _ _ _ _ _ _ _ (by decide)]
    exact State.enforce_throttle hp hdue.ne
  · have hgroups := (WritesOnly.rfl _ (s.failsCleared v.toNat)).foldl (List.range 4) State.regrouped_writes
    exact (hgroups.rd (by decide)).trans (s.failsCleared_failed v.toNat)

end Sys2Proof.Machine

/-! # Settled statements on the memories: the frames of the network and pair commands, corrections, stores, scrubbing, the
NV controller, field repair -/

namespace Sys2Proof.Machine

open Sys2Proof

/-- Settles O59: each clause's list covers the mask of its command. -/
theorem networkAndPairCommandsFrame : Obligations.NetworkAndPairCommandsFrame := by
  unfold Obligations.NetworkAndPairCommandsFrame
  repeat' apply And.intro
  all_goals
    intros
    exact exec_changesOnly _ _ _ (by dsimp only [Instr.frameMask]; decide)

/-! ## Words of memory and their bytes (R501) -/

section MemoryWords

variable {s t : State} {a b r : Nat}

/-- What memory holds is outside the mask of the operation. -/
theorem Frame.memByte {m : Nat} (h : Frame m s t) (hm : m.testBit Part.mem.ix = false)
    (he : m.testBit Part.memEpoch.ix = false) (b : Nat) : t.memByte b = s.memByte b := by
  have hmem : t.mem = s.mem := h.1 .mem hm
  have hep : t.memEpoch = s.memEpoch := h.1 .memEpoch he
  rw [State.memByte, State.memByte, hmem, hep]

theorem State.memWord_eq_memByte (s : State) (a : Nat) :
    s.memWord a = leNat ((List.range 8).map fun k => (s.memByte (a + k)).toNat) := rfl

theorem State.memWord_congr (h : ∀ b, t.memByte b = s.memByte b) (a : Nat) : t.memWord a = s.memWord a := by
  simp only [State.memWord_eq_memByte, h]

/-- Byte `k` of the number that little-endian bytes spell. -/
theorem leNat_div_mod (n : Nat) : ∀ (f : Nat → Byte) (k : Nat), k < n →
    leNat ((List.range n).map fun i => (f i).toNat) / 256 ^ k % 256 = (f k).toNat := by
  induction n with
  | zero => intro f k h; exact absurd h (Nat.not_lt_zero k)
  | succ n ih =>
    intro f k h
    have hlow : (f 0).toNat < 256 := (f 0).isLt
    have hcons : leNat ((List.range (n + 1)).map fun i => (f i).toNat) =
        (f 0).toNat + 256 * leNat ((List.range n).map fun i => (f (i + 1)).toNat) := by
      rw [List.range_succ_eq_map, List.map_cons, List.map_map, leNat, Nat.mod_eq_of_lt hlow]
      rfl
    rw [hcons]
    cases k with
    | zero => omega
    | succ k =>
      rw [Nat.pow_succ', ← Nat.div_div_eq_div_mul, Nat.add_mul_div_left _ _ (by decide), Nat.div_eq_of_lt hlow, Nat.zero_add]
      exact ih (fun i => f (i + 1)) k (Nat.lt_of_succ_lt_succ h)

theorem State.memWord_byte (s : State) (a : Nat) {k : Nat} (h : k < 8) :
    BitVec.ofNat 8 (s.memWord a / 256 ^ k) = s.memByte (a + k) := by
  apply BitVec.eq_of_toNat_eq
  rw [BitVec.toNat_ofNat, s.memWord_eq_memByte]
  exact leNat_div_mod 8 (fun k => s.memByte (a + k)) k h

/-- A byte of a word after the word is stored. -/
theorem State.memByte_memPut (s : State) (a v : Nat) {k : Nat} (h : k < 8) :
    (s.memPut a v).memByte (a + k) = BitVec.ofNat 8 (v / 256 ^ k) := by
  obtain ⟨hmem, -, hep⟩ := State.memPut_stores s a v
  rw [State.memByte, hmem, hep, cellGet_putBytes _ _ _ _ _ _ h]

/-- A word whose stored bytes are the ones it had leaves every byte as it was. -/
theorem State.memByte_memPut_same (s : State) (a b : Nat) : (s.memPut a (s.memWord a)).memByte b = s.memByte b := by
  by_cases h : b < a ∨ a + 8 ≤ b
  · exact s.memByte_memPut_ne a _ h
  · obtain ⟨k, rfl⟩ : ∃ k, b = a + k := ⟨b - a, by omega⟩
    rw [s.memByte_memPut a _ (by omega), s.memWord_byte a (by omega)]

theorem State.memFlips_word (s : State) (a : Nat) : s.memFlips (a / 8 * 8) = s.memFlips a := by
  rw [State.memFlips, State.memFlips, Nat.mul_div_cancel _ (by decide)]

/-- The regions begin and end at whole words. -/
theorem regionOf_word (a : Nat) : regionOf (a / 8 * 8) = regionOf a := by
  have hspan : ∀ k ∈ List.range 7, (regionSpan k).1 % 8 = 0 ∧ (regionSpan k).2 % 8 = 0 := by decide
  refine List.find?_congr fun k hk => ?_
  obtain ⟨hbase, hsize⟩ := hspan k hk
  rw [decide_eq_decide.mpr (by omega : (regionSpan k).1 ≤ a / 8 * 8 ↔ (regionSpan k).1 ≤ a),
    decide_eq_decide.mpr
      (by omega : a / 8 * 8 < (regionSpan k).1 + (regionSpan k).2 ↔ a < (regionSpan k).1 + (regionSpan k).2)]

/-! ## Corrections (R502, R504) -/

theorem State.memRead_correctable (hr : regionOf a = some r) (hu : s.usable r = true) (h0 : 0 < s.memFlips a)
    (h2 : s.memFlips a ≤ 2) : s.memRead a = (some (s.memWord a), s.memCorrect r) := by
  simp [State.memRead, hr, hu, h0.ne', h2]

theorem State.memCorrect_writes (s : State) (r : Nat) : WritesOnly [MEM_CE_COUNT, MEM_LEVEL_LEVEL] s (s.memCorrect r) := by
  have hcount : WritesOnly [MEM_CE_COUNT, MEM_LEVEL_LEVEL] s (s.inci MEM_CE_COUNT r 1) := (WritesOnly.rfl _ s).wrij (by decide) _ _ _
  exact .ite ((hcount.wrij (by decide) _ _ _).raise _ _) (hcount.wrij (by decide) _ _ _)

theorem State.memCorrect_count (s : State) (r : Nat) :
    (s.memCorrect r).rdi MEM_CE_COUNT r = min (s.rdi MEM_CE_COUNT r + 1) 0xFFFFFFFF := by
  have hcount : (s.inci MEM_CE_COUNT r 1).rdi MEM_CE_COUNT r = min (s.rdi MEM_CE_COUNT r + 1) 0xFFFFFFFF :=
    s.rdi_inci_same MEM_CE_COUNT r 1 (by decide) (by decide)
  have hlevel : ∀ v, ((s.inci MEM_CE_COUNT r 1).wri MEM_LEVEL_LEVEL r v).rdi MEM_CE_COUNT r =
      min (s.rdi MEM_CE_COUNT r + 1) 0xFFFFFFFF :=
    fun v => (State.rdij_wrij_apart _ MEM_LEVEL_LEVEL MEM_CE_COUNT r 0 r 0 v (by decide)).trans hcount
  unfold State.memCorrect
  dsimp only
  split
  · exact (State.rdij_raise _ _ _ _ _ _ (by decide)).trans (hlevel _)
  · exact hlevel _

theorem State.memCorrect_level (s : State) (r : Nat) : (s.memCorrect r).rdi MEM_LEVEL_LEVEL r =
    if s.rdi MEM_LEVEL_LEVEL r = s.rdi MEM_BUCKET_SIZE r then 0 else (s.rdi MEM_LEVEL_LEVEL r + 1) % 65536 := by
  have hkeep : ∀ f : Fld, MEM_CE_COUNT.apart f = true → (s.inci MEM_CE_COUNT r 1).rdi f r = s.rdi f r :=
    fun f hf => State.rdij_wrij_apart s MEM_CE_COUNT f r 0 r 0 _ hf
  have hlevel : ∀ v, ((s.inci MEM_CE_COUNT r 1).wri MEM_LEVEL_LEVEL r v).rdi MEM_LEVEL_LEVEL r = v % 65536 :=
    fun v => State.rdij_wrij_same _ MEM_LEVEL_LEVEL r 0 v (by decide) (by decide)
  unfold State.memCorrect
  dsimp only
  rw [hkeep MEM_LEVEL_LEVEL (by decide), hkeep MEM_BUCKET_SIZE (by decide)]
  split
  · exact (State.rdij_raise _ _ _ _ _ _ (by decide)).trans (hlevel 0)
  · exact hlevel _

/-- A correction changes no memory and no flipped bit. -/
theorem State.memCorrect_keeps (s : State) (r : Nat) : (s.memCorrect r).mem = s.mem ∧ (s.memCorrect r).memErr = s.memErr :=
  ⟨(s.memCorrect_frame r).1 .mem (by decide), (s.memCorrect_frame r).1 .memErr (by decide)⟩

/-! ## Host writes (R501) -/

/-- A command of the core answers its own next state, or the state as it stands in Thermal Halt. -/
theorem State.powered_ok (s t : State) : s.powered (ok t) = .next (if s.host.halted = true then s else t) := by
  unfold State.powered
  split <;> rfl

theorem State.memRead_memByte (s : State) (a b : Nat) : (s.memRead a).2.memByte b = s.memByte b :=
  (s.memRead_frame a).memByte (by decide) (by decide) b

/-- A 32-bit write stores the whole word that holds its address, after a read of it. -/
theorem State.memMerge_stores (s : State) (a v : Nat) :
    ∃ (u : State) (x : Nat), s.memMerge a v = u.memPut (a / 8 * 8) x ∧ ∀ b, u.memByte b = s.memByte b := by
  have hread : ∀ b, (if (s.memRead (a / 8 * 8)).1.isNone then (s.memRead (a / 8 * 8)).2.inc MEM_MERGE_COUNT 1
      else (s.memRead (a / 8 * 8)).2).memByte b = s.memByte b := by
    intro b
    split <;> exact s.memRead_memByte _ b
  by_cases h : a % 8 < 4
  · exact ⟨_, _, if_pos h, hread⟩
  · exact ⟨_, _, if_neg h, hread⟩

/-- The word that a 32-bit write makes of the old one: the other half stays. -/
def mergedWord (a o v : Nat) : Nat :=
  if a % 8 < 4 then o / 2 ^ 32 * 2 ^ 32 + v % 2 ^ 32 else o % 2 ^ 32 + v % 2 ^ 32 * 2 ^ 32

theorem State.memMerge_readable {o : Nat} (h : s.memRead (a / 8 * 8) = (some o, t)) (v : Nat) :
    s.memMerge a v = t.memPut (a / 8 * 8) (mergedWord a o v) := by
  simp only [State.memMerge, h, Option.isNone_some, Option.getD_some, Bool.false_eq_true, if_false, mergedWord]
  split <;> rfl

/-- The bytes of the other half of the word. -/
theorem mergedWord_byte (a o v : Nat) {k : Nat} (hk : k < 8) (h : a % 8 < 4 ↔ 4 ≤ k) :
    BitVec.ofNat 8 (mergedWord a o v / 256 ^ k) = BitVec.ofNat 8 (o / 256 ^ k) := by
  apply BitVec.eq_of_toNat_eq
  simp only [BitVec.toNat_ofNat, mergedWord, h]
  split <;> interval_cases k <;> omega

theorem State.memRead_of_le_two (hr : regionOf a = some r) (hu : s.usable r = true) (h : s.memFlips a ≤ 2) :
    ∃ u : State, s.memRead a = (some (s.memWord a), u) := by
  rcases Nat.eq_zero_or_pos (s.memFlips a) with h0 | h0
  · exact ⟨s, State.memRead_clean hr hu h0⟩
  · exact ⟨_, State.memRead_correctable hr hu h0 h⟩

/-- A 32-bit write of a readable word leaves every byte outside its own four. -/
theorem State.memMerge_memByte (hr : regionOf a = some r) (hu : s.usable r = true) (h4 : a % 4 = 0) (h2 : s.memFlips a ≤ 2)
    (v : Nat) (hb : b < a ∨ a + 4 ≤ b) : (s.memMerge a v).memByte b = s.memByte b := by
  obtain ⟨u, hread⟩ := State.memRead_of_le_two ((regionOf_word a).trans hr) hu (s.memFlips_word a ▸ h2)
  have hu : ∀ c, u.memByte c = s.memByte c := fun c => by
    rw [← s.memRead_memByte (a / 8 * 8) c, hread]
  rw [State.memMerge_readable hread]
  by_cases hout : b < a / 8 * 8 ∨ a / 8 * 8 + 8 ≤ b
  · rw [u.memByte_memPut_ne _ _ hout, hu]
  · obtain ⟨k, rfl⟩ : ∃ k, b = a / 8 * 8 + k := ⟨b - a / 8 * 8, by omega⟩
    rw [u.memByte_memPut _ _ (by omega), mergedWord_byte a _ v (by omega) (by omega), s.memWord_byte _ (by omega)]

/-- What a host write of memory does: no byte changes, a doubleword is stored, or half a word is merged. -/
theorem State.hostMemWrite_cases (s : State) (a n v : Nat) : (∀ b, (s.hostMemWrite a n v).memByte b = s.memByte b) ∨
    (n = 8 ∧ a % 8 = 0 ∧ s.hostMemWrite a n v = s.memPut a v) ∨
    (a % 4 = 0 ∧ (∃ r, regionOf a = some r ∧ s.usable r = true) ∧ n ≠ 8 ∧ s.hostMemWrite a n v = s.memMerge a v) := by
  have hsize : memAccessBad a n = false → (n = 4 ∧ a % 4 = 0) ∨ (n = 8 ∧ a % 8 = 0) := by
    simp only [memAccessBad, Bool.or_eq_false_iff, Bool.not_eq_false', Bool.or_eq_true, Bool.and_eq_true, beq_iff_eq]
    exact And.left
  unfold State.hostMemWrite
  split
  · exact .inl fun b => rfl
  next hbad =>
  have hok := hsize (Bool.eq_false_of_not_eq_true hbad)
  split
  · exact .inl fun b => rfl
  split
  · exact .inl fun b => rfl
  next r hr =>
  split
  · exact .inl fun b => (State.raise_frame _ 6 20).memByte (by decide) (by decide) b
  split
  · exact .inl fun b => rfl
  next hu =>
  split
  · exact .inl fun b => rfl
  split
  · next h8 => exact .inr (.inl ⟨h8, by omega, rfl⟩)
  · next h8 => exact .inr (.inr ⟨by omega, ⟨r, hr, by simpa using hu⟩, h8, rfl⟩)

/-- A host write changes no byte outside the word that holds its address. -/
theorem State.hostMemWrite_memByte (s : State) (a n v : Nat) (hb : b < a / 8 * 8 ∨ a / 8 * 8 + 8 ≤ b) :
    (s.hostMemWrite a n v).memByte b = s.memByte b := by
  rcases s.hostMemWrite_cases a n v with h | ⟨-, h8, h⟩ | ⟨-, -, -, h⟩
  · exact h b
  · rw [h, s.memByte_memPut_ne a v (by omega)]
  · obtain ⟨u, x, hmerge, hu⟩ := s.memMerge_stores a v
    rw [h, hmerge, u.memByte_memPut_ne _ _ hb, hu]

theorem State.hostMemWrite_memByte_half (h2 : s.memFlips a ≤ 2) (v : Nat) (hb : b < a ∨ a + 4 ≤ b) :
    (s.hostMemWrite a 4 v).memByte b = s.memByte b := by
  rcases s.hostMemWrite_cases a 4 v with h | ⟨h, -, -⟩ | ⟨h4, ⟨r, hr, hu⟩, -, h⟩
  · exact h b
  · exact absurd h (by decide)
  · rw [h, State.memMerge_memByte hr hu h4 h2 v hb]

end MemoryWords

/-! ## Scrubbing (R509 to R513) -/

section Scrubbing

variable {s t : State} {r : Nat}

/-- The whole register of a field. -/
def Fld.whole (f : Fld) : Fld := { f with hi := 31, lo := 0 }

theorem State.setReg_eq_wrij (s : State) (f : Fld) (i j v : Nat) :
    s.setReg (f.addr i j) v = s.wrij f.whole i j v := by
  have hold : s.reg (f.addr i j) / 2 ^ 32 = 0 := Nat.div_eq_of_lt (s.reg_lt _)
  have hword : setBits (s.reg (f.addr i j)) 31 0 v = v % 2 ^ 32 := by
    rw [setBits_parts _ _ (by decide), hold]
    omega
  have haddr : f.whole.addr i j = f.addr i j := rfl
  rw [State.wrij, haddr, State.setReg, State.setReg]
  refine congrArg (fun x => { s with regs := cellPut regReset s.regs (f.addr i j) x }) (BitVec.eq_of_toNat_eq ?_)
  rw [BitVec.toNat_ofNat, BitVec.toNat_ofNat]
  exact (Nat.mod_mod v (2 ^ 32)).symm.trans (congrArg (· % 2 ^ 32) hword.symm)

theorem WritesOnly.setReg {l : List Fld} {f : Fld} (h : WritesOnly l s t) (hf : f.whole ∈ l) (i j v : Nat) :
    WritesOnly l s (t.setReg (f.addr i j) v) := by
  rw [t.setReg_eq_wrij]
  exact h.wrij hf i j v

/-- The fields of the quarantine (R511). -/
def quarFlds : List Fld := [MEM_Q_VALID.whole, MEM_Q_VALID, MEM_Q_WORD, MEM_QSTAT_COUNT, MEM_QSTAT_OVF]

theorem State.quarDel_writes (s : State) (r w : Nat) : WritesOnly quarFlds s (s.quarDel r w) := by
  unfold State.quarDel
  split
  · exact ((WritesOnly.rfl _ s).setReg (by decide) _ _ _).wrij (by decide) _ _ _
  · exact WritesOnly.rfl _ s

theorem State.memPut_writes (s : State) (a v : Nat) : WritesOnly quarFlds s (s.memPut a v) := by
  have hstored : WritesOnly quarFlds s { s with
      mem := putBytes (memByte0 s.memEpoch) s.mem a v 8
      memErr := cellPut (memFlips0 s.memEpoch) s.memErr (a / 8) 0 } := (WritesOnly.rfl _ s).of_regs (Eq.refl _)
  unfold State.memPut
  dsimp only
  split
  · exact hstored.trans (State.quarDel_writes _ _ _)
  · exact hstored

/-- The fields that a scrub read can write beside the place of the scrubber. -/
def scrubFlds : List Fld := [MEM_CE_COUNT, MEM_LEVEL_LEVEL, MEM_UE_SCRUB, MEM_UEADDR_ADDR] ++ quarFlds

theorem State.scrubFix_writes (s : State) (r w : Nat) : WritesOnly scrubFlds s (s.scrubFix r w) := by
  have hcorrect : WritesOnly scrubFlds s (s.memCorrect r) := (s.memCorrect_writes r).mono (by decide)
  refine .ite (.ite hcorrect ?_) (hcorrect.comp (State.memPut_writes _ _ _) (by decide))
  exact hcorrect.of_regs (State.nvStart_regs _)

theorem State.scrubBad_writes (s : State) (r w : Nat) : WritesOnly scrubFlds s (s.scrubBad r w) := by
  have hfound : WritesOnly scrubFlds s
      (((s.inci MEM_UE_SCRUB r 1).wri MEM_UEADDR_ADDR r ((regionSpan r).1 + 8 * w)).raise 6 (8 + r)) :=
    (((WritesOnly.rfl _ s).wrij (by decide) _ _ _).wrij (by decide) _ _ _).raise _ _
  unfold State.scrubBad
  dsimp only
  split
  · exact WritesOnly.rfl _ s
  split
  · exact ((hfound.wrij (by decide) _ _ _).wrij (by decide) _ _ _).wrij (by decide) _ _ _
  · exact (hfound.wrij (by decide) _ _ _).raise _ _

/-- The scrub read of the word at the scrubber's place (R510, R511). -/
def State.scrubTaken (s : State) (r : Nat) : State :=
  if s.memFlips ((regionSpan r).1 + 8 * s.rdi MEM_POS_WORD r) = 0 then s
  else if s.memFlips ((regionSpan r).1 + 8 * s.rdi MEM_POS_WORD r) ≤ 2 then s.scrubFix r (s.rdi MEM_POS_WORD r)
  else s.scrubBad r (s.rdi MEM_POS_WORD r)

/-- The scrubber moves on from word `w` (R509). -/
def State.scrubMoved (s : State) (r w : Nat) : State :=
  if w + 1 < regionWords r then s.wri MEM_POS_WORD r (w + 1) else (s.wri MEM_POS_WORD r 0).wrapi MEM_PASS_COUNT r 1

/-- Region `r` is read now. -/
def State.scrubBegun (s : State) (r : Nat) : State :=
  { s with memu := { s.memu with lastScrub := listSet s.memu.lastScrub r s.clk.el } }

/-- A whole scrub read. -/
def State.scrubbed (s : State) (r : Nat) : State := ((s.scrubBegun r).scrubTaken r).scrubMoved r (s.rdi MEM_POS_WORD r)

/-- A scrub read is due (R509). -/
def State.scrubDue (s : State) (r : Nat) : Bool :=
  s.rdi MEM_SCRUB_EN r == 1 && s.marked r && s.usable r && !(r == 4 && s.is20) &&
    decide (listAt s.memu.lastScrub r 0 + s.scrubNs r ≤ s.clk.el)

theorem execScrubRead_eq (k : Fin 7) (s : State) : execScrubRead k s =
    s.powered (ok (if s.scrubDue k.val = true then s.scrubbed k.val else s)) := by
  calc execScrubRead k s = s.powered (if s.scrubDue k.val = true then
          if s.rdi MEM_POS_WORD k.val + 1 < regionWords k.val then ok _ else ok _ else ok s) := rfl
    _ = _ := by
      rw [← apply_ite ok, ← apply_ite ok]
      rfl

theorem exec_scrubRead_due {k : Fin 7} (hp : s.host.halted = false) (hen : s.rdi MEM_SCRUB_EN k.val = 1)
    (hm : s.marked k.val = true) (hu : s.usable k.val = true) (h20 : k.val = 4 → s.is20 = false)
    (hdue : listAt s.memu.lastScrub k.val 0 + s.scrubNs k.val ≤ s.clk.el) :
    exec (.scrubRead k) s = .next (s.scrubbed k.val) := by
  have hpresent : (k.val == 4 && s.is20) = false := by
    by_cases h : k.val = 4 <;> simp [h, h20]
  have h : s.scrubDue k.val = true := by simp [State.scrubDue, hen, hm, hu, hpresent, hdue]
  exact (execScrubRead_eq k s).trans (by rw [State.powered_ok, hp, if_neg (by decide), if_pos h])

theorem State.scrubTaken_writes (s : State) (r : Nat) : WritesOnly scrubFlds s (s.scrubTaken r) :=
  (WritesOnly.rfl _ s).ite ((s.scrubFix_writes r _).ite (s.scrubBad_writes r _))

/-- A scrub read changes no data byte: what it writes back is the word as stored. -/
theorem State.scrubFix_memByte (s : State) (r w b : Nat) : (s.scrubFix r w).memByte b = s.memByte b := by
  have hcorrect : ∀ c, (s.memCorrect r).memByte c = s.memByte c := (s.memCorrect_frame r).memByte (by decide) (by decide)
  unfold State.scrubFix
  dsimp only
  split
  · split
    · exact hcorrect b
    · exact ((State.nvStart_frame _).memByte (by decide) (by decide) b).trans (hcorrect b)
  · rw [State.memByte_memPut_same, hcorrect]

theorem State.scrubTaken_memByte (s : State) (r b : Nat) : (s.scrubTaken r).memByte b = s.memByte b := by
  unfold State.scrubTaken
  split
  · rfl
  split
  · exact s.scrubFix_memByte r _ b
  · exact (s.scrubBad_frame r _).memByte (by decide) (by decide) b

theorem State.scrubMoved_frame (s : State) (r w : Nat) : Frame 0x8000000000000001 s (s.scrubMoved r w) :=
  .ite ((Frame.rfl _ s).wri (by decide)) (((Frame.rfl _ s).wri (by decide)).wrapi (by decide))

theorem State.scrubbed_memByte (s : State) (r b : Nat) : (s.scrubbed r).memByte b = s.memByte b :=
  ((State.scrubMoved_frame _ r _).memByte (by decide) (by decide) b).trans ((s.scrubBegun r).scrubTaken_memByte r b)

/-- The scrubber writes a word with a correctable error back, in an SRAM region at once (R510). -/
theorem State.scrubbed_flips (h6 : r ≠ 6) (h0 : 0 < s.memFlips ((regionSpan r).1 + 8 * s.rdi MEM_POS_WORD r))
    (h2 : s.memFlips ((regionSpan r).1 + 8 * s.rdi MEM_POS_WORD r) ≤ 2) :
    (s.scrubbed r).memFlips ((regionSpan r).1 + 8 * s.rdi MEM_POS_WORD r) = 0 := by
  have htaken : (s.scrubBegun r).scrubTaken r = (s.scrubBegun r).scrubFix r (s.rdi MEM_POS_WORD r) :=
    (if_neg h0.ne').trans (if_pos h2)
  have hfix : ∀ (u : State) (w : Nat), (u.scrubFix r w).memFlips ((regionSpan r).1 + 8 * w) = 0 := by
    intro u w
    rw [State.scrubFix, if_neg h6, State.memFlips_memPut]
  have hmoved := State.scrubMoved_frame ((s.scrubBegun r).scrubTaken r) r (s.rdi MEM_POS_WORD r)
  have herr : (s.scrubbed r).memErr = ((s.scrubBegun r).scrubTaken r).memErr := hmoved.1 .memErr (by decide)
  have hep : (s.scrubbed r).memEpoch = ((s.scrubBegun r).scrubTaken r).memEpoch := hmoved.1 .memEpoch (by decide)
  rw [State.memFlips, herr, hep, htaken]
  exact hfix _ _

/-- A region has fewer words than the place of its scrubber can count. -/
theorem regionWords_lt (k : Fin 7) : regionWords k.val < 2 ^ 23 := by
  have h : ∀ k : Fin 7, regionWords k.val < 2 ^ 23 := by decide
  exact h k

theorem State.scrubbed_pos {k : Fin 7} (h : s.rdi MEM_POS_WORD k.val + 1 < regionWords k.val) :
    (s.scrubbed k.val).rdi MEM_POS_WORD k.val = s.rdi MEM_POS_WORD k.val + 1 := by
  rw [State.scrubbed, State.scrubMoved, if_pos h]
  exact (State.rdij_wrij_same _ MEM_POS_WORD _ 0 _ (by decide) (by decide)).trans
    (Nat.mod_eq_of_lt (h.trans (regionWords_lt k)))

/-- After the last word the scrubber starts again, and the pass is counted. -/
theorem State.scrubbed_wrap (h : regionWords r ≤ s.rdi MEM_POS_WORD r + 1) : (s.scrubbed r).rdi MEM_POS_WORD r = 0 ∧
    (s.scrubbed r).rdi MEM_PASS_COUNT r = (s.rdi MEM_PASS_COUNT r + 1) % 2 ^ 32 := by
  have hpass : ∀ v, (((s.scrubBegun r).scrubTaken r).wri MEM_POS_WORD r v).rdi MEM_PASS_COUNT r = s.rdi MEM_PASS_COUNT r :=
    fun v => (State.rdij_wrij_apart _ MEM_POS_WORD MEM_PASS_COUNT r 0 r 0 v (by decide)).trans
      (((s.scrubBegun r).scrubTaken_writes r).rdi (by decide) r)
  rw [State.scrubbed, State.scrubMoved, if_neg (Nat.not_lt.mpr h)]
  constructor
  · exact (State.rdij_wrij_apart _ MEM_PASS_COUNT MEM_POS_WORD r 0 r 0 _ (by decide)).trans
      (State.rdij_wrij_same _ MEM_POS_WORD r 0 0 (by decide) (by decide))
  · refine (State.rdij_wrij_same _ MEM_PASS_COUNT r 0 _ (by decide) (by decide)).trans ?_
    exact congrArg (fun x => (x + 1) % 2 ^ 32) (hpass 0)

end Scrubbing

/-- Settles O50: the lemmas on a correctable read, on the host's read of it and on the scrubber's. -/
theorem correctableReadsAreCorrectedNotWrittenBack : Obligations.CorrectableReadsAreCorrectedNotWrittenBack := by
  unfold Obligations.CorrectableReadsAreCorrectedNotWrittenBack
  refine ⟨fun a r s hr hu h0 h2 => ⟨_, State.memRead_correctable hr hu h0 h2, (s.memCorrect_keeps r).1, (s.memCorrect_keeps r).2,
      s.memCorrect_count r, s.memCorrect_level r⟩,
    fun a r s hp h8 hr ha hu h0 h2 => ?_, fun k a s hp h6 hen hm hu h20 hdue hw ha h0 h2 => ?_⟩
  · rw [exec_demandRead_doubleword hp h8 hr ha, State.memRead_correctable hr hu h0 h2]
    exact ⟨_, rfl, rfl, s.memCorrect_keeps r⟩
  · subst ha
    exact ⟨_, exec_scrubRead_due hp hen hm hu (fun h => h20 (Fin.ext h)) hdue,
      State.scrubbed_flips (fun h => h6 (Fin.ext h)) h0 h2, State.memWord_congr (s.scrubbed_memByte k.val) _⟩

/-! ## The NV controller (R517, R518) -/

section NvController

variable {s : State} {q : NvReq}

theorem State.nvStart_of_busy (h : s.memu.nvCur.isSome = true) : s.nvStart = s := by
  unfold State.nvStart
  split
  · next hnone _ => rw [hnone] at h; cases h
  · rfl

theorem State.nvStart_of_none_waiting (h : s.memu.nvq = []) : s.nvStart = s := by
  unfold State.nvStart
  split
  · next hbest => rw [h] at hbest; cases hbest
  · rfl

/-- The word in progress goes into the MRAM. -/
def State.nvStored (s : State) (q : NvReq) : State := if s.usable 6 then s.memPut q.addr q.data else s

/-- The controller drops the word written, and the waiting scrub write-backs of it. -/
def State.nvReleased (s : State) (q : NvReq) : State :=
  State.emit { s with memu := { s.memu with
    nvCur := none, nvq := s.memu.nvq.filter (fun x => !(x.prio == 6 && x.addr == q.addr)) } } (.nvWord q.addr)

/-- The end of a word that the host has asked for. -/
def State.nvAnswered (s : State) : State := ((s.wr MEM_NV_STAT_BUSY 0).wr MEM_NV_STAT_RESULT 1).raise 6 18

theorem State.nvWrite_eq (s : State) (q : NvReq) : s.nvWrite q =
    if q.prio = 5 then ((s.nvStored q).nvReleased q).nvAnswered else (s.nvStored q).nvReleased q := rfl

theorem State.nvAnswered_frame (s : State) : Frame 0x20000008080000000000401 s s.nvAnswered :=
  (State.raise_frame _ 6 18).comp (by decide) (((Frame.rfl _ s).wr (by decide)).wr (by decide))

theorem State.nvWrite_memByte (s : State) (q : NvReq) {b : Nat} (hb : b < q.addr ∨ q.addr + 8 ≤ b) :
    (s.nvWrite q).memByte b = s.memByte b := by
  have hstored : ((s.nvStored q).nvReleased q).memByte b = s.memByte b := by
    change (s.nvStored q).memByte b = s.memByte b
    unfold State.nvStored
    split
    · exact s.memByte_memPut_ne _ _ hb
    · rfl
  rw [State.nvWrite_eq]
  split
  · exact ((State.nvAnswered_frame _).memByte (by decide) (by decide) b).trans hstored
  · exact hstored

theorem execNvWordComplete_memByte (s : State) : ∃ t : State, execNvWordComplete s = .next t ∧
    ∀ b, (∀ q : NvReq, s.memu.nvCur = some q → b < q.addr ∨ q.addr + 8 ≤ b) → t.memByte b = s.memByte b := by
  have hstart : ∀ (u : State) (b : Nat), u.nvStart.memByte b = u.memByte b :=
    fun u b => u.nvStart_frame.memByte (by decide) (by decide) b
  unfold execNvWordComplete State.powered
  split
  · exact ⟨s, rfl, fun b _ => rfl⟩
  split
  · exact ⟨_, rfl, fun b _ => hstart s b⟩
  · next q hq => exact ⟨_, rfl, fun b hb => (hstart _ b).trans (s.nvWrite_memByte q (hb q hq))⟩

/-- Settles O53: what each command stores, and that a scrub read writes a word back as it was. -/
theorem memoryStoresStayInTheirWord : Obligations.MemoryStoresStayInTheirWord := by
  unfold Obligations.MemoryStoresStayInTheirWord
  refine ⟨fun a n v s => ⟨_, State.powered_ok s _, fun b hb => ?_⟩, fun a v s h2 => ⟨_, State.powered_ok s _, fun b hb => ?_⟩,
    execNvWordComplete_memByte, fun k s => ⟨_, (execScrubRead_eq k s).trans (State.powered_ok s _), fun b => ?_⟩⟩
  · split
    · rfl
    · exact s.hostMemWrite_memByte a n v hb
  · split
    · rfl
    · exact State.hostMemWrite_memByte_half h2 v hb
  · split
    · rfl
    split
    · exact s.scrubbed_memByte k.val b
    · rfl

theorem State.winPresent_memory (s : State) : s.winPresent 6 = true := by
  unfold State.winPresent
  split <;> rfl

/-- The word that the host's registers ask for (R518). -/
def State.nvAsked (s : State) : NvReq :=
  ⟨5, 0x4000000 + s.rd MEM_NV_ADDR_ADDR, s.rd64 MEM_NV_DATA_LO_DATA MEM_NV_DATA_HI_DATA⟩

theorem State.nvCommand_accepted {v : Nat} (hgo : bitAt v 0 = true) (hkey : bitsOf v 31 16 = 0x4E56)
    (hb : s.rd MEM_NV_STAT_BUSY = 0) (h8 : s.rd MEM_NV_ADDR_ADDR % 8 = 0) (hin : inHostArea (s.rd MEM_NV_ADDR_ADDR) = true)
    (hu : s.usable 6 = true) (hcur : s.memu.nvCur.isSome = true) :
    s.nvCommand v = (s.wr MEM_NV_STAT_BUSY 1).nvRequest s.nvAsked := by
  have hbusy : s.rd MEM_NV_STAT_BUSY ≠ 1 := by omega
  simp only [State.nvCommand, hgo, hkey, hbusy, h8, hin, hu, Bool.not_true, Bool.false_eq_true, if_false, ne_eq,
    not_true_eq_false, BEq.rfl, Bool.and_self]
  exact State.nvStart_of_busy hcur

theorem State.nvCommand_wrong_key {v : Nat} (hgo : bitAt v 0 = true) (hb : s.rd MEM_NV_STAT_BUSY = 0)
    (hkey : bitsOf v 31 16 ≠ 0x4E56) : s.nvCommand v = s.wr MEM_NV_STAT_RESULT 3 := by
  have hbusy : s.rd MEM_NV_STAT_BUSY ≠ 1 := by omega
  simp only [State.nvCommand, hgo, Bool.not_true, Bool.false_eq_true, if_false, if_neg hbusy, if_pos hkey]

theorem State.nvAnswered_shows (s : State) : s.nvAnswered.rd MEM_NV_STAT_BUSY = 0 ∧ s.nvAnswered.rd MEM_NV_STAT_RESULT = 1 := by
  constructor
  · exact (State.rdij_raise _ 6 18 _ 0 0 (by decide)).trans ((State.rdij_wrij_apart _ _ _ _ _ _ _ _ (by decide)).trans
      (State.rdij_wrij_flag _ (by decide) 0 0 (by decide)))
  · exact (State.rdij_raise _ 6 18 _ 0 0 (by decide)).trans (State.rdij_wrij_same _ _ 0 0 _ (by decide) (by decide))

theorem State.nvStored_memu (s : State) (q : NvReq) : (s.nvStored q).memu = s.memu := by
  unfold State.nvStored
  split
  · exact (s.memPut_frame _ _).1 .memu (by decide)
  · rfl

/-- The last waiting word ends: the controller is idle. -/
theorem exec_nvWordComplete_last (hp : s.host.halted = false) (hcur : s.memu.nvCur = some q) (hq : s.memu.nvq = [])
    (h5 : q.prio = 5) : exec .nvWordComplete s = .next ((s.nvStored q).nvReleased q).nvAnswered ∧
      (((s.nvStored q).nvReleased q).nvAnswered).memu.nvCur = none := by
  have hmemu : (((s.nvStored q).nvReleased q).nvAnswered).memu = ((s.nvStored q).nvReleased q).memu :=
    (State.nvAnswered_frame _).1 .memu (by decide)
  have hwait : (((s.nvStored q).nvReleased q).nvAnswered).memu.nvq = [] := by
    rw [hmemu]
    change (s.nvStored q).memu.nvq.filter _ = []
    rw [s.nvStored_memu, hq, List.filter_nil]
  refine ⟨?_, by rw [hmemu]; rfl⟩
  have hwrite : s.nvWrite q = ((s.nvStored q).nvReleased q).nvAnswered := (s.nvWrite_eq q).trans (if_pos h5)
  simp only [exec, execNvWordComplete, State.powered_of_not_halted hp, hcur, hwrite]
  exact congrArg Host.Outcome.next (State.nvStart_of_none_waiting hwait)

theorem State.nvAnswered_out (s : State) (q : NvReq) : .nvWord q.addr ∈ (s.nvReleased q).nvAnswered.out :=
  (State.raise_out_suffix _ 6 18).subset List.mem_cons_self

end NvController

/-! ## The leaky bucket and the marks (R504, R506) -/

section BucketAndMarks

variable {s : State} {r : Nat}

/-- The level of region `r` falls by 1. -/
def State.leaked (s : State) (r : Nat) : State :=
  State.wri { s with memu := { s.memu with lastLeak := listSet s.memu.lastLeak r s.clk.now } } MEM_LEVEL_LEVEL r
    (s.rdi MEM_LEVEL_LEVEL r - 1)

theorem exec_leak_due {k : Fin 7} (hp : s.host.halted = false) (h : periodPassed (listAt s.memu.lastLeak k.val 0) s.clk.now
    (2 ^ s.rdi MEM_BUCKET_LEAK_K k.val * 1000) = true) : exec (.leak k) s = .next (s.leaked k.val) :=
  (State.powered_of_not_halted hp _).trans (if_pos h)

theorem State.leaked_level (s : State) (r : Nat) : (s.leaked r).rdi MEM_LEVEL_LEVEL r = s.rdi MEM_LEVEL_LEVEL r - 1 :=
  (State.rdij_wrij_same _ MEM_LEVEL_LEVEL r 0 _ (by decide) (by decide)).trans
    (Nat.mod_eq_of_lt (Nat.lt_of_le_of_lt (Nat.sub_le _ 1) (s.rdij_lt MEM_LEVEL_LEVEL r 0)))

theorem State.leaked_count (s : State) (r : Nat) : (s.leaked r).rdi MEM_CE_COUNT r = s.rdi MEM_CE_COUNT r :=
  State.rdij_wrij_apart _ MEM_LEVEL_LEVEL MEM_CE_COUNT r 0 r 0 _ (by decide)

/-- Region `r` can be marked: it is an SRAM region, usable and present. -/
def State.Markable (s : State) (r : Nat) : Prop := r < 6 ∧ s.usable r = true ∧ (r = 4 → s.is20 = false)

theorem State.usable_mark (s : State) (k r : Nat) : (s.mark k).usable r = s.usable r := by
  unfold State.mark
  split
  · exact congrArg (fun v => !bitAt v r) (State.rdij_wrij_apart s _ MEM_REGION_UNUSABLE 0 0 0 0 _ (by decide))
  · rfl

theorem State.is20_mark (s : State) (k : Nat) : (s.mark k).is20 = s.is20 := by
  unfold State.mark
  split <;> rfl

theorem State.Markable.mark (h : s.Markable r) (k : Nat) : (s.mark k).Markable r := by
  obtain ⟨hr, hu, h20⟩ := h
  exact ⟨hr, (s.usable_mark k r).trans hu, fun h => (s.is20_mark k).trans (h20 h)⟩

/-- The marks after region `k` is marked. -/
theorem State.marked_wr_init (s : State) {k : Nat} (hk : k < 6) (r : Nat) :
    (s.wr MEM_REGION_INIT (setBit (s.rd MEM_REGION_INIT) k true)).marked r =
      (r == 6 || bitAt (setBit (s.rd MEM_REGION_INIT) k true) r) := by
  have hlt : setBit (s.rd MEM_REGION_INIT) k true < 2 ^ 7 :=
    setBit_lt _ true (by omega) (s.rdij_lt MEM_REGION_INIT 0 0)
  have hrd : (s.wr MEM_REGION_INIT (setBit (s.rd MEM_REGION_INIT) k true)).rd MEM_REGION_INIT =
      setBit (s.rd MEM_REGION_INIT) k true :=
    (s.rdij_wrij_same MEM_REGION_INIT 0 0 _ (by decide) (by decide)).trans (Nat.mod_eq_of_lt hlt)
  rw [State.marked, hrd]

theorem State.marked_mark_of_marked (h : s.marked r = true) (k : Nat) : (s.mark k).marked r = true := by
  unfold State.mark
  split
  · next hk =>
    simp only [Bool.and_eq_true, decide_eq_true_eq] at hk
    rw [s.marked_wr_init hk.1.1]
    by_cases e : r = k
    · rw [e, bitAt_setBit_same, Bool.or_true]
    · rw [bitAt_setBit_ne _ _ e]
      exact h
  · exact h

theorem State.marked_mark (h : s.Markable r) : (s.mark r).marked r = true := by
  obtain ⟨hr, hu, h20⟩ := h
  have hpresent : (r == 4 && s.is20) = false := by
    by_cases h : r = 4 <;> simp [h, h20]
  have hk : (decide (r < 6) && s.usable r && !(r == 4 && s.is20)) = true := by simp [hr, hu, hpresent]
  rw [State.mark, if_pos hk, s.marked_wr_init hr, bitAt_setBit_same, Bool.or_true]

/-- Marking one region after another: a region of the list that can be marked is marked in the end. -/
theorem State.foldl_mark_marked (m : Nat) (hm : bitAt m r = true) : ∀ (l : List Nat) (s : State), s.Markable r →
    s.marked r = true ∨ r ∈ l → (l.foldl (fun t k => if bitAt m k then t.mark k else t) s).marked r = true := by
  intro l
  induction l with
  | nil => exact fun s _ h => h.resolve_right List.not_mem_nil
  | cons k l ih =>
    intro s hs h
    have hkeep : (if bitAt m k then s.mark k else s).Markable r := by
      split
      · exact hs.mark k
      · exact hs
    refine ih _ hkeep ?_
    dsimp only
    rcases h with h | h
    · left
      split
      · exact State.marked_mark_of_marked h k
      · exact h
    · rcases List.mem_cons.mp h with rfl | h
      · rw [if_pos hm]
        exact .inl (State.marked_mark hs)
      · exact .inr h

theorem State.marks_marked {m : Nat} (h : s.Markable r) (hm : bitAt m r = true) : (s.marks m).marked r = true :=
  State.foldl_mark_marked m hm (List.range 6) s h (.inr (List.mem_range.mpr h.1))

end BucketAndMarks

/-! ## Field repair (R522) -/

section Repair

variable {s : State}

/-- The burn of a row of memory `m` begins. -/
def State.burning (s : State) (m : Nat) : State :=
  { s.wr MEM_REPAIR_STAT_BUSY 1 with
    memu := { s.memu with burn := some m, burnRow := s.rd MEM_REPAIR_ADDR_ADDR / 128 * 128 } }

theorem State.repairCommand_accepted {v r m : Nat} (hgo : bitAt v 0 = true) (hkey : bitsOf v 31 16 = 0xF5E1)
    (hb : s.rd MEM_REPAIR_STAT_BUSY = 0) (hr : regionOf (s.rd MEM_REPAIR_ADDR_ADDR) = some r)
    (hm : macroOf (s.rd MEM_REPAIR_ADDR_ADDR) = some m) (hu : s.usable r = true) (h20 : r = 4 → s.is20 = false)
    (hrows : assocGetD s.fuses.fieldRows m 0 < 2) (hwarn : s.thermalWarn = false) : s.repairCommand v = s.burning m := by
  have hpresent : (r == 4 && s.is20) = false := by
    by_cases h : r = 4 <;> simp [h, h20]
  simp only [State.repairCommand, hgo, hb, hkey, hr, hm, hu, hpresent, hwarn, Nat.not_le.mpr hrows, Bool.not_true,
    Bool.false_eq_true, if_false, ne_eq, not_true_eq_false, decide_false, zero_ne_one, Bool.or_self]
  rfl

/-- The burn of memory `m` has ended. -/
def State.burnt (s : State) (m : Nat) (good : Bool) : State :=
  { s with
    memu := { s.memu with
      burn := none
      newRows := if good && regionOf s.memu.burnRow == some 6 then s.memu.newRows ++ [s.memu.burnRow] else s.memu.newRows }
    fuses := { s.fuses with fieldRows := assocPut s.fuses.fieldRows m (assocGetD s.fuses.fieldRows m 0 + 1) } }

/-- The end of a repair is shown. -/
def State.repairShown (s : State) (good : Bool) : State :=
  ((s.wr MEM_REPAIR_STAT_BUSY 0).wr MEM_REPAIR_STAT_RESULT (if good then 1 else 5)).raise 6 19

theorem exec_repairdone_burning {m : Nat} (hp : s.host.halted = false) (h : s.memu.burn = some m) (good : Bool) :
    exec (.repairdone good) s = .next ((s.burnt m good).repairShown good) := by
  simp only [exec, execRepairdone, State.powered_of_not_halted hp, h]
  rfl

theorem State.repairShown_frame (s : State) (good : Bool) : Frame 0x20000008080000000000401 s (s.repairShown good) :=
  (State.raise_frame _ 6 19).comp (by decide) (((Frame.rfl _ s).wr (by decide)).wr (by decide))

theorem State.repairShown_shows (s : State) (good : Bool) : (s.repairShown good).rd MEM_REPAIR_STAT_BUSY = 0 ∧
    (s.repairShown good).rd MEM_REPAIR_STAT_RESULT = if good then 1 else 5 := by
  constructor
  · exact (State.rdij_raise _ 6 19 _ 0 0 (by decide)).trans ((State.rdij_wrij_apart _ _ _ _ _ _ _ _ (by decide)).trans
      (State.rdij_wrij_flag _ (by decide) 0 0 (by decide)))
  · refine (State.rdij_raise _ 6 19 _ 0 0 (by decide)).trans
      ((State.rdij_wrij_same _ _ 0 0 _ (by decide) (by decide)).trans ?_)
    cases good <;> rfl

theorem State.repairShown_rows (s : State) (good : Bool) : (s.repairShown good).fuses.fieldRows = s.fuses.fieldRows :=
  (s.repairShown_frame good).1 .fusesFieldRows (by decide)

theorem State.repairShown_burn (s : State) (good : Bool) : (s.repairShown good).memu = s.memu :=
  (s.repairShown_frame good).1 .memu (by decide)

end Repair

/-- Settles O10: each clause is the lemma on that command; the register or the request it names is read off. -/
theorem memoryUnitCommandsComplete : Obligations.MemoryUnitCommandsComplete := by
  unfold Obligations.MemoryUnitCommandsComplete
  refine ⟨fun k s hp hen hm hu h20 hdue hw => ⟨_, exec_scrubRead_due hp hen hm hu h20 hdue, State.scrubbed_pos hw⟩,
    fun k s hp hen hm hu h20 hdue hw => ⟨_, exec_scrubRead_due hp hen hm hu h20 hdue, State.scrubbed_wrap hw⟩,
    fun k s hp h => ⟨_, exec_leak_due hp h, s.leaked_level k.val, s.leaked_count k.val⟩,
    fun v k s hp hv hu h20 => ⟨_, State.powered_of_not_halted hp _, State.marks_marked ⟨k.isLt, hu, h20⟩ hv⟩,
    fun v s hp hgo hkey hb h8 hin hu hcur => ⟨_, State.powered_of_not_halted hp _, ?_⟩,
    fun v s hp hgo hb hkey => ⟨_, State.powered_of_not_halted hp _, ?_⟩,
    fun q s hp hcur hq hu h5 => ?_,
    fun v r m s hp hgo hkey hb hr hm hu h20 hrows hwarn => ⟨_, State.powered_of_not_halted hp _, ?_⟩,
    fun good m s hp h => ⟨_, exec_repairdone_burning hp h good, ?_⟩⟩
  · rw [State.nvCommand_accepted hgo hkey hb h8 hin hu hcur]
    exact ⟨State.rdij_wrij_flag s (by decide) 0 0 (by decide), rfl⟩
  · rw [State.nvCommand_wrong_key hgo hb hkey]
    exact ⟨State.rdij_wrij_same s _ 0 0 _ (by decide) (by decide), rfl⟩
  · obtain ⟨ht, hidle⟩ := exec_nvWordComplete_last hp hcur hq h5
    obtain ⟨hbusy, hresult⟩ := ((s.nvStored q).nvReleased q).nvAnswered_shows
    exact ⟨_, ht, hidle, hbusy, hresult, (s.nvStored q).nvAnswered_out q⟩
  · rw [State.repairCommand_accepted hgo hkey hb hr hm hu h20 hrows hwarn]
    exact ⟨State.rdij_wrij_flag s (by decide) 0 0 (by decide), rfl⟩
  · obtain ⟨hbusy, hresult⟩ := (s.burnt m good).repairShown_shows good
    refine ⟨?_, hbusy, hresult, ?_, State.raise_bit _ 6 19 (State.winPresent_memory _) hp (by decide)⟩
    · rw [State.repairShown_burn]
      rfl
    · rw [State.repairShown_rows]
      exact assocGet_assocPut_same _ _ _

end Sys2Proof.Machine

/-! # Settled statements on the recorder -/

namespace Sys2Proof.Machine

open Sys2Proof

section Recorder

variable {s : State}

/-! ## Samples and operating time (R525, R528) -/

/-- The sample of the second that ends in `s` is taken in `u`. -/
def State.sampleNoted (u s : State) : State := { u with spoor := { u.spoor with
  lastSample := s.clk.el
  lastSampleDtime := s.clk.now
  prevObj := s.rd64 TAL_OBJ_LO_COUNT TAL_OBJ_HI_COUNT
  prevExec := s.rd64 STK_EXEC_LO_COUNT STK_EXEC_HI_COUNT } }

theorem exec_seriesSample_due (hp : s.host.halted = false) (hen : s.rd REC_CTRL_EN = 1)
    (hdue : s.spoor.lastSample + 1000000000 ≤ s.clk.el) (v : Nat) :
    ∃ u : State, exec (.seriesSample v) s = .next (u.sampleNoted s).recSeq2 := by
  have h : (s.rd REC_CTRL_EN == 1 && decide (s.spoor.lastSample + secNs ≤ s.clk.el)) = true := by
    rw [hen, decide_eq_true (show s.spoor.lastSample + secNs ≤ s.clk.el from hdue)]
    rfl
  exact ⟨_, (State.powered_of_not_halted hp _).trans (if_pos h)⟩

/-- One tick of the operating time. -/
def State.ticked (s : State) : State :=
  { s.wr REC_OPTIME_VALUE (s.rd REC_OPTIME_VALUE + 1) with
    spoor := { s.spoor with optimeEl := s.spoor.optimeEl + 36 * secNs } }

theorem exec_operatingTimeTick_due (hp : s.host.halted = false) (hdue : s.spoor.optimeEl + 36000000000 ≤ s.clk.el) :
    exec .operatingTimeTick s = .next s.ticked := by
  have h : (!s.host.halted && decide (s.spoor.optimeEl + 36 * secNs ≤ s.clk.el)) = true := by
    rw [hp, decide_eq_true (show s.spoor.optimeEl + 36 * secNs ≤ s.clk.el from hdue)]
    rfl
  exact if_pos h

/-! ## Flushes that begin (R530, R531, R533) -/

/-- What a flush that begins leaves in the recorder's own state. -/
theorem State.flushGo_spoor (s : State) (code k : Nat) : ∃ (b : List Nat) (l : List (Nat × Nat)),
    (s.flushGo code k).spoor = { s.spoor with flush := some ⟨code, k, b⟩, history := l, reloadedFlag := false, seriesFlag := false } :=
  ⟨_, _, (State.nvStart_frame _).1 .spoor (by decide)⟩

theorem State.flushGo_flushing (s : State) (code k : Nat) : (s.flushGo code k).rd REC_STAT_FLUSHING = 1 := by
  unfold State.flushGo
  exact (State.rdij_congr (State.nvStart_regs _) _ 0 0).trans (State.rdij_wrij_flag _ (by decide) 0 0 (by decide))

/-- A flush that may start does. -/
theorem State.flushAsk_idle {code : Nat} (hd : s.rd REC_STAT_DEGRADED = 0) (hf : s.spoor.flush = none)
    (ho : s.flushOver code = false) : s.flushAsk code = s.flushGo code s.spoor.nextSlot := by
  have hok : s.rd REC_STAT_DEGRADED ≠ 1 := by omega
  simp only [State.flushAsk, if_neg hok, hf, ho, Bool.false_eq_true, if_false]

/-- A flush of `code` in the next slot is in progress, and the rest of the recorder's times is as in `s`. -/
structure State.FlushBegun (t s : State) (code : Nat) : Prop where
  code_eq : t.spoor.flush.map (·.code) = some code
  slot_eq : t.spoor.flush.map (·.slot) = some s.spoor.nextSlot
  flushing : t.rd REC_STAT_FLUSHING = 1
  lastPeriodic : t.spoor.lastPeriodic = s.spoor.lastPeriodic
  pfailHigh : t.spoor.pfailHigh = s.spoor.pfailHigh

theorem State.flushAsk_begins {code : Nat} (hd : s.rd REC_STAT_DEGRADED = 0) (hf : s.spoor.flush = none)
    (ho : s.flushOver code = false) : (s.flushAsk code).FlushBegun s code := by
  obtain ⟨b, l, h⟩ := s.flushGo_spoor code s.spoor.nextSlot
  rw [State.flushAsk_idle hd hf ho]
  refine ⟨?_, ?_, s.flushGo_flushing code _, ?_, ?_⟩ <;> rw [h] <;> rfl

/-- The periodic flush is counted from now. -/
def State.periodicNoted (s : State) : State := { s with spoor := { s.spoor with lastPeriodic := s.clk.el } }

theorem exec_periodicFlush_due (hp : s.host.halted = false) (hen : s.rd REC_CTRL_EN = 1)
    (hdue : s.spoor.lastPeriodic + s.cv1 C_RECORDER_FLUSH_S * 1000000000 ≤ s.clk.el) :
    exec .periodicFlush s = .next (s.periodicNoted.flushAsk 1) := by
  have h : (s.rd REC_CTRL_EN == 1 &&
      decide (s.spoor.lastPeriodic + s.cv1 C_RECORDER_FLUSH_S * secNs ≤ s.clk.el)) = true := by
    rw [hen, decide_eq_true (show s.spoor.lastPeriodic + s.cv1 C_RECORDER_FLUSH_S * secNs ≤ s.clk.el from hdue)]
    rfl
  exact (State.powered_of_not_halted hp _).trans (if_pos h)

/-- The PFAIL pin is low. -/
def State.pfailLow (s : State) : State := { s with spoor := { s.spoor with pfailHigh := false } }

theorem exec_pfail_high (hp : s.host.halted = false) (hh : s.spoor.pfailHigh = true)
    (hdue : s.spoor.pfailSince + 1000000000 ≤ s.clk.el) : exec .pfail s = .next (s.pfailLow.flushAsk 2) := by
  have h : (s.spoor.pfailHigh && decide (s.spoor.pfailSince + secNs ≤ s.clk.el)) = true := by
    rw [hh, decide_eq_true (show s.spoor.pfailSince + secNs ≤ s.clk.el from hdue)]
    rfl
  exact (State.powered_of_not_halted hp _).trans (if_pos h)

theorem exec_pfailRise_low (hp : s.host.halted = false) (h : s.spoor.pfailHigh = false) : exec .pfailRise s =
    .next { s with spoor := { s.spoor with pfailHigh := true, pfailSince := s.clk.el } } := by
  simp only [exec, execPfailRise, State.powered_of_not_halted hp, h, Bool.false_eq_true, if_false]
  rfl

/-! ## The end of a flush (R531, R539) -/

/-- No flush is in progress. -/
def State.NoFlush (s : State) : Prop := s.spoor.flush = none ∧ s.rd REC_STAT_FLUSHING = 0

theorem State.memPuts_writes (l : List Nat) : ∀ (s : State) (a : Nat), WritesOnly quarFlds s (s.memPuts a l) := by
  induction l with
  | nil => exact fun s _ => WritesOnly.rfl _ s
  | cons v l ih => exact fun s a => (s.memPut_writes a v).trans (ih _ _)

/-- The fields that a record's read-back can write. -/
def readBackFlds : List Fld := [REC_RING_RING, REC_RSEQ_RSEQ, REC_SUPPRESS_PERIODIC, REC_SUPPRESS_PFAIL, REC_SUPPRESS_HOST,
  REC_STAT_BADSLOT, REC_STAT_DEGRADED, REC_STAT_DCAUSE, REC_BENCH_VALID, REC_BENCH_STATUS, REC_BENCH_DCAUSE,
  REC_BENCH_LAST_CAUSE] ++ quarFlds

theorem State.benchWrite_writes (s : State) (status dcause last dtime : Nat) :
    WritesOnly readBackFlds s (s.benchWrite status dcause last dtime) := by
  have hcopies : ∀ ws, WritesOnly readBackFlds s ((List.range 3).foldl (fun t c => t.memPuts (benchAddr c) ws) s) :=
    fun ws => (WritesOnly.rfl _ s).foldl _ fun u c => (State.memPuts_writes ws u _).mono (by decide)
  exact (WritesOnly.rfl _ s).ite (((((hcopies _).wrij (by decide) _ _ _).wrij (by decide) _ _ _).wrij (by decide) _ _ _).wrij
    (by decide) _ _ _)

theorem State.recDegrade_writes (s : State) (cause : Nat) : WritesOnly readBackFlds s (s.recDegrade cause) :=
  ((((WritesOnly.rfl _ s).wrij (by decide) _ _ _).wrij (by decide) _ _ _).raise 7 3).trans (State.benchWrite_writes _ _ _ _ _)

/-- The record `l` is the newest one (R544). -/
def State.newestNoted (s : State) (next : Nat) (l : List Nat) : State := { s with spoor := { s.spoor with
  badRun := 0
  nextSlot := next
  newestRseq := some (leAt l 4 4)
  newestDtime := leAt l 8 8
  newestCode := leAt l 0 2
  newestPcycle := leAt l 20 4 } }

theorem State.recGood_eq (s : State) (f : Flush) (next : Nat) (l : List Nat) : s.recGood f next l =
    ((((s.newestNoted next l).wr REC_RING_RING f.slot).wr REC_RSEQ_RSEQ (leAt l 4 4)).raise 7 0).raiseIf (f.code == 2) 7 1 :=
  rfl

theorem State.recGood_writes (s : State) (f : Flush) (next : Nat) (l : List Nat) :
    WritesOnly readBackFlds s (s.recGood f next l) := by
  have hnoted : WritesOnly readBackFlds s (s.newestNoted next l) := (WritesOnly.rfl _ s).of_regs rfl
  rw [State.recGood_eq]
  exact (((hnoted.wrij (by decide) _ _ _).wrij (by decide) _ _ _).raise 7 0).raiseIf _ 7 1

theorem State.flushBack_writes (s : State) (f : Flush) : WritesOnly readBackFlds s (s.flushBack f) := by
  unfold State.flushBack
  exact WritesOnly.of_regs ((((WritesOnly.rfl _ s).wrij (by decide) _ _ _).wrij (by decide) _ _ _).wrij (by decide) _ _ _)
    (Eq.refl _)

/-- A bad slot is counted (R539). -/
def State.badCounted (s : State) (next : Nat) : State :=
  (State.inc { s with spoor := { s.spoor with badRun := s.spoor.badRun + 1, nextSlot := next } } REC_STAT_BADSLOT 1).raise 7 7

theorem State.recBad_eq (s : State) (next : Nat) : s.recBad next =
    if 2 ≤ (s.badCounted next).spoor.badRun then (s.badCounted next).recDegrade 2 else s.badCounted next := rfl

theorem State.recBad_writes (s : State) (next : Nat) : WritesOnly readBackFlds s (s.recBad next) := by
  have hbad : WritesOnly readBackFlds s (s.badCounted next) := by
    refine WritesOnly.raise (WritesOnly.wrij ?_ (by decide) _ _ _) 7 7
    exact (WritesOnly.rfl _ s).of_regs rfl
  rw [State.recBad_eq]
  exact (hbad.trans (State.recDegrade_writes _ 2)).ite hbad

/-- The flush in progress is the recorder's own state. -/
theorem Frame.flush {t : State} {m : Nat} (h : Frame m s t) (hm : m.testBit Part.spoor.ix = false) :
    t.spoor.flush = s.spoor.flush := congrArg RecUnit.flush (h.1 .spoor hm)

theorem State.recGood_flush (s : State) (f : Flush) (next : Nat) (l : List Nat) :
    (s.recGood f next l).spoor.flush = s.spoor.flush := by
  rw [State.recGood_eq, (State.raiseIf_frame _ _ 7 1).flush (by decide), (State.raise_frame _ 7 0).flush (by decide)]
  rfl

theorem State.flushBack_flush (s : State) (f : Flush) : (s.flushBack f).spoor.flush = s.spoor.flush := rfl

theorem State.recBad_flush (s : State) (next : Nat) : (s.recBad next).spoor.flush = s.spoor.flush := by
  have hbad : (s.badCounted next).spoor.flush = s.spoor.flush := (State.raise_frame _ 7 7).flush (by decide)
  rw [State.recBad_eq]
  split
  · exact ((State.recDegrade_frame _ 2).flush (by decide)).trans hbad
  · exact hbad

/-- An operation that writes only what a read-back does leaves no flush in progress. -/
theorem State.NoFlush.of_readBack {t : State} (h : s.NoFlush) (hf : t.spoor.flush = s.spoor.flush)
    (hw : WritesOnly readBackFlds s t) : t.NoFlush := ⟨hf.trans h.1, (hw.rd (by decide)).trans h.2⟩

theorem State.NoFlush.recGood (h : s.NoFlush) (f : Flush) (next : Nat) (l : List Nat) : (s.recGood f next l).NoFlush :=
  h.of_readBack (s.recGood_flush f next l) (s.recGood_writes f next l)

theorem State.NoFlush.recBad (h : s.NoFlush) (f : Flush) (next : Nat) : ((s.flushBack f).recBad next).NoFlush :=
  (h.of_readBack (s.flushBack_flush f) (s.flushBack_writes f)).of_readBack (State.recBad_flush _ _) (State.recBad_writes _ _)

theorem State.flushEnd_over (s : State) (f : Flush) : (s.flushEnd f).NoFlush := by
  have hread : ∀ u : State, u.spoor.flush = none → ∀ a n,
      ((u.wr REC_STAT_FLUSHING 0).memBytes a n).2.NoFlush := by
    intro u hu a n
    have hf := State.memBytes_frame (u.wr REC_STAT_FLUSHING 0) a n
    exact ⟨(hf.flush (by decide)).trans hu,
      (hf.rd (by decide)).trans (State.rdij_wrij_flag u (by decide) 0 0 (by decide))⟩
  have h := hread { s with spoor := { s.spoor with flush := none } } rfl (ringAddr f.slot) 0x630
  unfold State.flushEnd
  dsimp only
  split
  · split
    · exact h.recGood _ _ _
    · exact h.recBad _ _
  · exact h.recBad _ _

theorem exec_flushComplete_written {f : Flush} (hp : s.host.halted = false) (hf : s.spoor.flush = some f)
    (hw : s.recWordsLeft = false) : exec .flushComplete s = .next (s.flushEnd f) := by
  simp only [exec, execFlushComplete, State.powered_of_not_halted hp, hf, hw, Bool.false_eq_true, if_false]
  rfl

/-! ## The window, the dump, CLEAR (R540, R542) -/

theorem objSize_le (k : Nat) : objSize k ≤ 2048 := by
  unfold objSize
  split
  · decide
  split
  · decide
  split <;> decide

theorem State.recAdvance_cursor (s : State) : s.recAdvance.rd REC_CURSOR_POS =
    if s.rd REC_CURSOR_POS / 256 * 256 + 256 < objSize (s.rd REC_SRC_KIND) then s.rd REC_CURSOR_POS / 256 * 256 + 256 else 0 := by
  refine (State.rdij_wrij_same s REC_CURSOR_POS 0 0 _ (by decide) (by decide)).trans (Nat.mod_eq_of_lt ?_)
  split
  · next h => exact lt_of_lt_of_le h (objSize_le _)
  · decide

theorem State.dumpSend_dumping (s : State) (l : List (List Nat)) : (s.dumpSend l).rd REC_STAT_DUMPING = 1 := by
  have hsent := (Frame.foldl l (Frame.rfl 0x20000001080000000010401 (s.wr REC_STAT_DUMPING 1)) fun u r => u.dmaReady_frame 4 r).trans
    (State.dmaReady_frame _ 4 (s.wr REC_STAT_DUMPING 1).liveStore)
  exact (hsent.rd (by decide)).trans (State.rdij_wrij_flag s (by decide) 0 0 (by decide))

theorem exec_dump_idle (hp : s.host.halted = false) (h : s.rd REC_STAT_DUMPING = 0) :
    ∃ (u : State) (l : List (List Nat)), exec .dump s = .next (u.dumpSend l) := by
  have hidle : s.rd REC_STAT_DUMPING ≠ 1 := by omega
  exact ⟨_, _, (State.powered_of_not_halted hp _).trans (if_neg hidle)⟩

/-- The store is cleared. -/
def State.recCleared (s : State) : State := (s.storeEmpty.wr REC_MISSED_COUNT 0).recSeq2

theorem exec_clear_keyed {k : BitVec 16} (hp : s.host.halted = false) (h : k.toNat = 0x5C0F) :
    exec (.clear k) s = .next s.recCleared := (State.powered_of_not_halted hp _).trans (if_pos h)

theorem State.recCleared_shows (s : State) : s.recCleared.rd REC_MISSED_COUNT = 0 ∧
    s.recCleared.rd REC_SEQ_SEQ = (s.rd REC_SEQ_SEQ + 2) % 2 ^ 32 := by
  have hseq : (s.storeEmpty.wr REC_MISSED_COUNT 0).rd REC_SEQ_SEQ = s.rd REC_SEQ_SEQ :=
    State.rdij_wrij_apart _ REC_MISSED_COUNT REC_SEQ_SEQ 0 0 0 0 0 (by decide)
  constructor
  · exact (State.rdij_wrij_apart _ REC_SEQ_SEQ REC_MISSED_COUNT 0 0 0 0 _ (by decide)).trans
      (State.rdij_wrij_same _ _ 0 0 _ (by decide) (by decide))
  · rw [State.recCleared, State.recSeq2, hseq]
    exact State.rdij_wrij_same _ REC_SEQ_SEQ 0 0 _ (by decide) (by decide)

end Recorder

/-- Settles O11: each clause is the lemma on that command; the register or the flush it names is read off. -/
theorem recorderCommandsComplete : Obligations.RecorderCommandsComplete := by
  unfold Obligations.RecorderCommandsComplete
  refine ⟨fun v s hp hen hdue => ?_, fun s hp hdue => ⟨_, exec_operatingTimeTick_due hp hdue, ?_, rfl⟩,
    fun s hp hen hdue hd hf ho => ⟨_, exec_periodicFlush_due hp hen hdue, ?_⟩,
    fun s hp hh hdue hd hf ho => ⟨_, exec_pfail_high hp hh hdue, ?_⟩,
    fun s hp h => ⟨_, exec_pfailRise_low hp h, rfl, rfl, rfl⟩,
    fun s hp hd hf ho => ⟨_, State.powered_of_not_halted hp _, ?_⟩,
    fun f s hp hf hw => ⟨_, exec_flushComplete_written hp hf hw, s.flushEnd_over f⟩,
    fun s hp => ⟨_, State.powered_of_not_halted hp _, rfl, State.recAdvance_cursor _⟩,
    fun s hp h => ?_, fun k s hp h => ⟨_, exec_clear_keyed hp h, rfl, s.recCleared_shows⟩,
    fun k s hp h => (State.powered_of_not_halted hp _).trans (if_neg h)⟩
  · obtain ⟨u, hu⟩ := exec_seriesSample_due hp hen hdue v
    exact ⟨_, hu, rfl, rfl⟩
  · exact State.rdij_wrij_same s REC_OPTIME_VALUE 0 0 _ (by decide) (by decide)
  · have h := State.flushAsk_begins (s := s.periodicNoted) (code := 1) hd hf ho
    exact ⟨h.lastPeriodic, h.code_eq, h.flushing⟩
  · have h := State.flushAsk_begins (s := s.pfailLow) (code := 2) hd hf ho
    exact ⟨h.pfailHigh, h.code_eq, h.flushing⟩
  · have h := State.flushAsk_begins (s := s) (code := 4) hd hf ho
    exact ⟨h.code_eq, h.slot_eq, h.flushing⟩
  · obtain ⟨u, l, hu⟩ := exec_dump_idle hp h
    exact ⟨_, hu, u.dumpSend_dumping l⟩

end Sys2Proof.Machine

/-! # Settled statements on the CAN buffers -/

namespace Sys2Proof.Machine

open Sys2Proof

section CanBuffers

variable {s t u : State} {l : List Fld} {f : Fld} {b : Nat}

/-! ## Fields that an operation sets, event groups apart -/

/-- From `s` to `t` the fields of `l` alone are set: a field apart from all of them keeps its value. -/
def SetsOnly (l : List Fld) (s t : State) : Prop :=
  ∀ g : Fld, l.all (fun f => f.apart g) = true → ∀ i j, t.rdij g i j = s.rdij g i j

theorem SetsOnly.rfl (l : List Fld) (s : State) : SetsOnly l s s := fun _ _ _ _ => Eq.refl _

theorem SetsOnly.wrij (h : SetsOnly l s t) (hf : f ∈ l) (i j v : Nat) : SetsOnly l s (t.wrij f i j v) :=
  fun g hg a b => (t.rdij_wrij_apart f g i j a b v (List.all_eq_true.mp hg f hf)).trans (h g hg a b)

/-! ## A buffer takes a state (R447, R449) -/

/-- The maps and counts that follow the states of the buffers. -/
def bufMapFlds : List Fld := [CAN_PEND_MAP, CAN_FULL_MAP, CAN_LOCK_MAP, CAN_RING0_FULL, CAN_RING1_FULL]

theorem State.bufSet_sets (s : State) (b st : Nat) : SetsOnly bufMapFlds (s.wri CAN_BSTAT_STATE b st) (s.bufSet b st) := by
  have hset := SetsOnly.rfl bufMapFlds (s.wri CAN_BSTAT_STATE b st)
  have hmaps : SetsOnly bufMapFlds (s.wri CAN_BSTAT_STATE b st)
      (((s.wri CAN_BSTAT_STATE b st).bufMap CAN_FULL_MAP b (st != 0)).bufMap CAN_LOCK_MAP b (st == 2)) :=
    (hset.wrij (by decide) _ _ _).wrij (by decide) _ _ _
  unfold State.bufSet
  dsimp only
  split
  · exact hset.wrij (by decide) _ _ _
  split
  · exact hmaps.wrij (by decide) _ _ _
  split
  · exact hmaps.wrij (by decide) _ _ _
  · exact hmaps

theorem State.bufState_bufSet (s : State) (b : Nat) {st : Nat} (h : st < 8) : (s.bufSet b st).bufState b = st :=
  (s.bufSet_sets b st CAN_BSTAT_STATE (by decide) b 0).trans
    ((State.rdij_wrij_same _ CAN_BSTAT_STATE b 0 st (by decide) (by decide)).trans (Nat.mod_eq_of_lt h))

/-- A field apart from the states and what follows them. -/
theorem State.rdij_bufSet (s : State) (b st : Nat) (h : (CAN_BSTAT_STATE :: bufMapFlds).all (fun g => g.apart f) = true) (i j : Nat) :
    (s.bufSet b st).rdij f i j = s.rdij f i j := by
  obtain ⟨hstate, hmaps⟩ := Bool.and_eq_true_iff.mp h
  exact (s.bufSet_sets b st f hmaps i j).trans (State.rdij_wrij_apart _ _ _ _ _ _ _ _ hstate)

/-! ## Transmit buffers (R451 to R456) -/

theorem State.txRequest_state (s : State) (b : Nat) : (s.txRequest b).bufState b = 1 := State.bufState_bufSet _ b (by decide)

theorem State.txRequest_result (s : State) (b : Nat) : (s.txRequest b).rdi CAN_BSTAT_RESULT b = 0 := by
  calc (s.txRequest b).rdi CAN_BSTAT_RESULT b
      = ((s.wri CAN_BSTAT_RESULT b 0).wri CAN_BSTAT_CANCEL_LATE b 0).rdi CAN_BSTAT_RESULT b :=
        State.rdij_bufSet _ b 1 (by decide) b 0
    _ = (s.wri CAN_BSTAT_RESULT b 0).rdi CAN_BSTAT_RESULT b := State.rdij_wrij_apart _ _ _ _ _ _ _ _ (by decide)
    _ = 0 := State.rdij_wrij_same s CAN_BSTAT_RESULT b 0 0 (by decide) (by decide)

theorem State.bufResult_state (s : State) (b res : Nat) : (s.bufResult b res).bufState b = 3 :=
  calc (s.bufResult b res).bufState b
      = ((s.bufSet b 3).wri CAN_BSTAT_RESULT b res).bufState b := State.rdij_raiseIf _ _ _ _ CAN_BSTAT_STATE b 0 (by decide)
    _ = (s.bufSet b 3).bufState b := State.rdij_wrij_apart _ _ _ _ _ _ _ _ (by decide)
    _ = 3 := s.bufState_bufSet b (by decide)

theorem State.bufResult_result (s : State) (b : Nat) {res : Nat} (h : res < 16) : (s.bufResult b res).rdi CAN_BSTAT_RESULT b = res :=
  (State.rdij_raiseIf _ _ _ _ CAN_BSTAT_RESULT b 0 (by decide)).trans
    ((State.rdij_wrij_same _ CAN_BSTAT_RESULT b 0 res (by decide) (by decide)).trans (Nat.mod_eq_of_lt h))

variable {k : Fin 512}

theorem exec_canTxgo_idle (hp : s.host.halted = false) (hrole : s.bufRole k.val = 1) (hidle : s.bufPending k.val = false) :
    exec (.canTxgo k) s = .next (s.txRequest k.val) := by
  simp only [exec, execCanTxgo, State.powered_of_not_halted hp, hrole, hidle, bne_self_eq_false, Bool.or_self,
    Bool.false_eq_true, if_false]
  rfl

theorem exec_canTxcancel_pending (hp : s.host.halted = false) (hrole : s.bufRole k.val = 1) (hst : s.bufState k.val = 1) :
    exec (.canTxcancel k) s = .next (s.bufResult k.val 2) := by
  simp only [exec, execCanTxcancel, State.powered_of_not_halted hp, hrole, State.bufPending, hst, bne_self_eq_false, BEq.rfl,
    Bool.true_or, Bool.not_true, Bool.or_self, Bool.false_eq_true, if_false, OfNat.one_ne_ofNat]
  rfl

/-- A cancel of the frame on the bus is kept by its controller (R455). -/
def State.cancelKept (s : State) (b : Nat) : State := s.canM (s.rdi CAN_BSTAT_CTRL b) fun x => { x with cancel := true }

theorem exec_canTxcancel_onBus (hp : s.host.halted = false) (hrole : s.bufRole k.val = 1) (hst : s.bufState k.val = 2) :
    exec (.canTxcancel k) s = .next (s.cancelKept k.val) := by
  simp only [exec, execCanTxcancel, State.powered_of_not_halted hp, hrole, State.bufPending, hst, bne_self_eq_false, BEq.rfl,
    Bool.or_true, Bool.not_true, Bool.or_self, Bool.false_eq_true, if_false, if_true]
  rfl

theorem State.cancelKept_cancel (h4 : s.can.ctl.length = 4) (b : Nat) :
    ((s.cancelKept b).canC (s.rdi CAN_BSTAT_CTRL b)).cancel = true := by
  have hlt : s.rdi CAN_BSTAT_CTRL b < s.can.ctl.length := by
    rw [h4]
    exact s.rdij_lt CAN_BSTAT_CTRL b 0
  have hctl : (s.cancelKept b).canC (s.rdi CAN_BSTAT_CTRL b) = { s.canC (s.rdi CAN_BSTAT_CTRL b) with cancel := true } :=
    listAt_listMod_same _ _ _ _ hlt
  rw [hctl]

theorem exec_atMissed_late (hp : s.host.halted = false) (hrole : s.bufRole k.val = 1) (hst : s.bufState k.val = 1)
    (hlate : s.atLate (s.rdi CAN_BSTAT_CTRL k.val) k.val = true) : exec (.atMissed k) s = .next (s.bufResult k.val 4) := by
  simp only [exec, execAtMissed, State.powered_of_not_halted hp, hrole, hst, hlate, BEq.rfl, Bool.and_self, if_true]
  rfl

/-- A record that is found by its key has it in its first field. -/
theorem State.crec_key {c : CRef} {key : Nat} {r : CfgRec} (h : s.crec c key = some r) : listAt r.vals 0 0 = key := by
  have hfound := List.find?_some h
  simp only [Bool.and_eq_true, beq_iff_eq] at hfound
  exact hfound.2

theorem exec_periodicRequest_due {r : CfgRec} (hp : s.host.halted = false) (hr : s.crec C_TXBUF_BUF k.val = some r)
    (hdue : assocGetD s.can.lastReq k.val 0 < s.periodIx r) (hrole : s.bufRole k.val = 1) (hidle : s.bufPending k.val = false) :
    exec (.periodicRequest k) s = .next ((s.periodFrom r).txRequest k.val) := by
  simp only [exec, execPeriodicRequest, State.powered_of_not_halted hp, hr, Nat.not_le.mpr hdue, hrole, hidle,
    bne_self_eq_false, Bool.false_eq_true, if_false]
  rfl

theorem State.periodIx_reached {r : CfgRec} (h0 : r.v C_TXBUF_PERIOD_MS ≠ 0) (hph : r.v C_TXBUF_PHASE_MS * 1000000 ≤ s.clk.now) :
    s.periodIx r = (s.clk.now - r.v C_TXBUF_PHASE_MS * 1000000) / (r.v C_TXBUF_PERIOD_MS * 1000000) + 1 := by
  have hp : r.v C_TXBUF_PERIOD_MS * 1000000 ≠ 0 := by omega
  simp [State.periodIx, hp, Nat.not_lt.mpr hph]

theorem State.periodFrom_lastReq {r : CfgRec} (hr : s.crec C_TXBUF_BUF b = some r) :
    assocGetD ((s.periodFrom r).txRequest b).can.lastReq b 0 = s.periodIx r := by
  have hcan : ((s.periodFrom r).txRequest b).can = (s.periodFrom r).can := (State.txRequest_frame _ b).1 .can (by decide)
  have hkey : r.v C_TXBUF_BUF = b := State.crec_key hr
  rw [hcan, State.periodFrom, hkey, assocGetD, assocGet_assocPut_same, Option.getD_some]

/-! ## Receive buffers and their locks (R450) -/

/-- Buffer `b` takes state `st`, and the locks are those of `l`. -/
def State.bufLocks (s : State) (b st : Nat) (l : List (Nat × Nat)) : State :=
  { s.bufSet b st with can := { s.can with lockAt := l } }

theorem State.bufLocks_state (s : State) (b : Nat) {st : Nat} (h : st < 8) (l : List (Nat × Nat)) :
    (s.bufLocks b st l).bufState b = st := s.bufState_bufSet b h

theorem State.bufLock_full (hrole : 2 ≤ s.bufRole b) (hst : s.bufState b = 1) :
    s.bufLock b = s.bufLocks b 2 (assocPut s.can.lockAt b s.clk.el) := by
  simp only [State.bufLock, hrole, hst, decide_true, Bool.and_self, if_true]
  rfl

theorem State.bufRelease_locked (hrole : 2 ≤ s.bufRole b) (hst : s.bufState b = 2) :
    s.bufRelease b = s.bufLocks b 0 (assocDel s.can.lockAt b) := by
  simp only [State.bufRelease, hrole, hst, decide_true, Bool.and_self, if_true]
  rfl

theorem State.bufUnlock_locked (hrole : 2 ≤ s.bufRole b) (hst : s.bufState b = 2) :
    s.bufUnlock b = s.bufLocks b 1 (assocDel s.can.lockAt b) := by
  simp only [State.bufUnlock, hrole, hst, decide_true, Bool.and_self, if_true]
  rfl

theorem exec_lockTimeout_over {a : Nat} (hp : s.host.halted = false) (ha : assocGet s.can.lockAt k.val = some a)
    (h0 : s.canV (s.rdi CAN_BSTAT_CTRL k.val) C_CONTROLLER_LOCK_TIMEOUT ≠ 0)
    (hover : a + s.canV (s.rdi CAN_BSTAT_CTRL k.val) C_CONTROLLER_LOCK_TIMEOUT * 1000 < s.clk.el) :
    exec (.lockTimeout k) s = .next ((s.bufUnlock k.val).inc CAN_LOCKTO_COUNT 1) := by
  have hn : s.canV (s.rdi CAN_BSTAT_CTRL k.val) C_CONTROLLER_LOCK_TIMEOUT * 1000 ≠ 0 := by omega
  simp only [exec, execLockTimeout, State.powered_of_not_halted hp, ha, bne_iff_ne.mpr hn, hover, decide_true, Bool.and_self, if_true]
  rfl

/-- What a lock that timed out leaves: a full buffer, one more on the count, no lock. -/
theorem State.lockTimedOut_shows (s : State) (b : Nat) (l : List (Nat × Nat)) :
    ((s.bufLocks b 1 l).inc CAN_LOCKTO_COUNT 1).bufState b = 1 ∧
    ((s.bufLocks b 1 l).inc CAN_LOCKTO_COUNT 1).rd CAN_LOCKTO_COUNT = min (s.rd CAN_LOCKTO_COUNT + 1) (2 ^ 32 - 1) := by
  have hcount : (s.bufLocks b 1 l).rd CAN_LOCKTO_COUNT = s.rd CAN_LOCKTO_COUNT := s.rdij_bufSet b 1 (by decide) 0 0
  constructor
  · exact (State.rdij_wrij_apart _ CAN_LOCKTO_COUNT CAN_BSTAT_STATE 0 0 b 0 _ (by decide)).trans
      (s.bufLocks_state b (by decide) l)
  · rw [← hcount]
    exact (s.bufLocks b 1 l).rd_inc_same CAN_LOCKTO_COUNT 1 (by decide) (by decide)

end CanBuffers

/-- Settles O31: each clause is the lemma on that command; the buffer, the lock or the count it names is read off. -/
theorem canBufferCommandsComplete : Obligations.CanBufferCommandsComplete := by
  unfold Obligations.CanBufferCommandsComplete
  refine ⟨fun k s hp hrole hidle => ⟨_, exec_canTxgo_idle hp hrole hidle, s.txRequest_state k.val, s.txRequest_result k.val⟩,
    fun k s hp hrole hst => ⟨_, exec_canTxcancel_pending hp hrole hst, s.bufResult_state k.val 2,
      s.bufResult_result k.val (by decide)⟩,
    fun k s hp h4 hrole hst => ⟨_, exec_canTxcancel_onBus hp hrole hst, State.cancelKept_cancel h4 k.val, rfl⟩,
    fun k s hp hrole hst hlate => ⟨_, exec_atMissed_late hp hrole hst hlate, s.bufResult_state k.val 4,
      s.bufResult_result k.val (by decide)⟩,
    fun k r s hp hr h0 hph hdue hrole hidle => ?_,
    fun k s hp hrole hst => ⟨_, State.powered_of_not_halted hp _, ?_⟩,
    fun k s hp hrole hst => ⟨_, State.powered_of_not_halted hp _, ?_⟩,
    fun k s hp hrole hst => ⟨_, State.powered_of_not_halted hp _, ?_⟩,
    fun k a s hp ha h0 hover hrole hst => ⟨_, exec_lockTimeout_over hp ha h0 hover, ?_⟩⟩
  · rw [← State.periodIx_reached h0 hph] at hdue ⊢
    exact ⟨_, exec_periodicRequest_due hp hr hdue hrole hidle, State.txRequest_state _ k.val, State.periodFrom_lastReq hr⟩
  · rw [State.bufLock_full hrole hst]
    exact ⟨s.bufLocks_state k.val (by decide) (assocPut s.can.lockAt k.val s.clk.el), assocGet_assocPut_same _ _ _, rfl⟩
  · rw [State.bufRelease_locked hrole hst]
    exact ⟨s.bufLocks_state k.val (by decide) (assocDel s.can.lockAt k.val), assocGet_assocDel_same _ _⟩
  · rw [State.bufUnlock_locked hrole hst]
    exact ⟨s.bufLocks_state k.val (by decide) (assocDel s.can.lockAt k.val), assocGet_assocDel_same _ _⟩
  · rw [State.bufUnlock_locked hrole hst]
    obtain ⟨hstate, hcount⟩ := s.lockTimedOut_shows k.val (assocDel s.can.lockAt k.val)
    exact ⟨hstate, hcount, assocGet_assocDel_same _ _⟩

end Sys2Proof.Machine

/-! # Settled statements on the Ethernet MACs -/

namespace Sys2Proof.Machine

open Sys2Proof

section Ethernet

variable {s t : State} {m : Fin 2} {v : Nat}

/-! ## A MAC of the state -/

theorem State.mac_macM_same (s : State) {k : Nat} (f : EthMac → EthMac) (h : k < s.eth.length) :
    (s.macM k f).mac k = f (s.mac k) := listAt_listMod_same s.eth k f {} h

/-- Part `g` of MAC `k` when the change makes the same of the default MAC's part. -/
theorem State.mac_macM_part {β : Type} (s : State) (k : Nat) (f : EthMac → EthMac) (g : EthMac → β) (h : g (f {}) = g {}) :
    g ((s.macM k f).mac k) = g (f (s.mac k)) := listAt_listMod_part s.eth k f {} g h

theorem Frame.mac {n : Nat} (h : Frame n s t) (hn : n.testBit Part.eth.ix = false) (k : Nat) : t.mac k = s.mac k :=
  congrArg (fun l : List EthMac => listAt l k {}) (h.1 .eth hn)

theorem mac_lt (h : s.eth.length = 2) (m : Fin 2) : m.val < s.eth.length := by
  rw [h]
  exact m.isLt

theorem State.winPresent_ethernet (s : State) : s.winPresent 29 = true := by
  unfold State.winPresent
  split <;> rfl

/-! ## Gates (R475) -/

/-- The gate cycle that starts at `e` with the committed list. -/
def State.gateStarted (s : State) (m e : Nat) : State :=
  s.macM m fun x => { x with
    gOn := true, gStart := e, gSum := s.time.stepSum, gList := s.gateList m, gIdx := 0,
    gTill := e + (listAt (s.gateList m) 0 (0, 0)).2 }

theorem exec_gateControlInterval_cycle {e : Nat} (hp : s.host.halted = false) (h : s.gateCycle m.val = some e) :
    exec (.gateControlInterval m) s = .next (s.gateStarted m.val e) := by
  simp only [exec, execGateControlInterval, State.powered_of_not_halted hp, h]
  rfl

/-- The next interval of the gate list is in force. -/
def State.gateNext (s : State) (m : Nat) : State :=
  s.macM m fun x => { x with gIdx := x.gIdx + 1, gTill := x.gTill + (listAt x.gList (x.gIdx + 1) (0, 0)).2 }

theorem exec_gateControlInterval_interval (hp : s.host.halted = false) (h : s.gateCycle m.val = none)
    (hon : (s.mac m.val).gOn = true) (htill : (s.mac m.val).gTill ≤ s.clk.el)
    (hix : (s.mac m.val).gIdx + 1 < (s.mac m.val).gList.length) :
    exec (.gateControlInterval m) s = .next (s.gateNext m.val) := by
  simp only [exec, execGateControlInterval, State.powered_of_not_halted hp, h, hon, htill, hix, decide_true, Bool.and_self,
    if_true]
  rfl

/-! ## Transmit (R472, R480) -/

/-- After the write index nothing of the registers of the MACs changes at a post. -/
theorem State.ethPost_fetches (s : State) (m v : Nat) :
    Frame 0x20000008088000000000401 (s.wri ETH_TXWR_INDEX m (v % 4096 % max 1 (s.cv C_MAC_TX_COUNT m))) (s.ethPost m v) := by
  refine Frame.ite (.rfl _ _) (Frame.foldl _ (.rfl _ _) fun t k => ?_)
  exact Frame.comp (State.macM_frame _ _ _) (by decide) (Frame.comp (t.memRead_frame _) (by decide) (.rfl _ _))

theorem State.ethPost_txwr (s : State) (m v : Nat) :
    (s.ethPost m v).rdi ETH_TXWR_INDEX m = v % 4096 % max 1 (s.cv C_MAC_TX_COUNT m) := by
  have hlt : v % 4096 % max 1 (s.cv C_MAC_TX_COUNT m) < 2 ^ 12 :=
    (Nat.mod_le _ _).trans_lt (Nat.mod_lt v (by decide))
  calc (s.ethPost m v).rdi ETH_TXWR_INDEX m
      = (s.wri ETH_TXWR_INDEX m (v % 4096 % max 1 (s.cv C_MAC_TX_COUNT m))).rdi ETH_TXWR_INDEX m :=
        (s.ethPost_fetches m v).rdi (by decide) m
    _ = v % 4096 % max 1 (s.cv C_MAC_TX_COUNT m) :=
        (State.rdij_wrij_same s ETH_TXWR_INDEX m 0 _ (by decide) (by decide)).trans (Nat.mod_eq_of_lt hlt)

/-- What of queue `q` may start now. -/
def State.txFit (s : State) (m q : Nat) : Option (TxDesc ⊕ HFrame) :=
  (s.txHead m q).filter fun x => s.gateFits m q (s.frameNs m (s.txLen x))

/-- What may start is sent: a descriptor's frame or the oldest handoff frame. -/
def State.txStart (s : State) (m : Nat) : TxDesc ⊕ HFrame → State :=
  Sum.elim (s.txDescriptor m) (s.txHand m)

theorem exec_transmitComplete_start {x : TxDesc ⊕ HFrame} (hp : s.host.halted = false) (hup : s.macUp m.val = true)
    (hfree : (s.mac m.val).freeAt ≤ s.clk.el) (hpause : (s.mac m.val).pauseTill ≤ s.clk.el)
    (hx : (List.range 8).reverse.findSome? (s.txFit m.val) = some x) :
    exec (.transmitComplete m) s = .next (s.txStart m.val x) := by
  have hfit : ∀ fit, fit = s.txFit m.val → (List.range 8).reverse.findSome? fit = some x := fun fit h => h ▸ hx
  simp only [exec, execTransmitComplete, State.powered_of_not_halted hp, hup, Nat.not_lt.mpr hfree, Nat.not_lt.mpr hpause,
    decide_false, Bool.not_true, Bool.or_self, Bool.false_eq_true, if_false]
  rw [hfit _ (funext fun q => ?_)]
  · cases x <;> rfl
  · unfold State.txFit
    cases s.txHead m.val q with
    | none => rfl
    | some y => simp only [Option.filter]

theorem State.ethSend_freeAt (s : State) {k : Nat} (b : List Nat) (h : k < s.eth.length) :
    ((s.ethSend k b).mac k).freeAt = s.clk.el + s.frameNs k (max 60 b.length) + 12 * s.byteNs k := by
  have hlen : (b ++ List.replicate (60 - b.length) 0).length = max 60 b.length := by
    rw [List.length_append, List.length_replicate]
    omega
  rw [← hlen]
  exact congrArg EthMac.freeAt (s.mac_macM_same _ h)

/-- The oldest handoff frame is on the line, not yet counted or copied. -/
def State.handSent (s : State) (m : Nat) (h : HFrame) : State :=
  (s.twnM fun t => { t with frames := t.frames.drop 1 }).ethSend m (s.handBytes h)

/-- Counting and copying the frame leaves the MACs and the township unit alone (R480, R484). -/
theorem State.txHand_counts (s : State) (m : Nat) (h : HFrame) :
    Frame 0x28000001080000000010401 (s.handSent m h) (s.txHand m h) := by
  refine Frame.ite (Frame.comp (State.mirrorCopy_frame _ _ _ _) (by decide) ?_) (.rfl _ _)
  exact Frame.wrapi (by decide) (.rfl _ _)

theorem State.txHand_frames (s : State) (m : Nat) (h : HFrame) : (s.txHand m h).twn.frames = s.twn.frames.drop 1 :=
  congrArg TwnUnit.frames ((s.txHand_counts m h).1 .twn (by decide))

theorem State.txHand_freeAt (s : State) {k : Nat} (h : HFrame) (hk : k < s.eth.length) :
    ((s.txHand k h).mac k).freeAt = s.clk.el + s.frameNs k (max 60 (s.handBytes h).length) + 12 * s.byteNs k := by
  rw [(s.txHand_counts k h).mac (by decide)]
  exact State.ethSend_freeAt _ _ hk

/-- Passing the descriptors that are done leaves no other than there were. -/
theorem State.mem_tx_of_txDone (s : State) (k : Nat) {x : TxDesc} (hx : x ∈ ((s.txDone k).mac k).tx) : x ∈ (s.mac k).tx := by
  rcases Nat.lt_or_ge k s.eth.length with hk | hk
  · have hleft : ((s.txDone k).mac k).tx = (s.mac k).tx.dropWhile fun d => d.done :=
      congrArg EthMac.tx (s.mac_macM_same _ hk)
    rw [hleft] at hx
    exact (List.dropWhile_sublist _).subset hx
  · have hnone : (s.txDone k).mac k = s.mac k :=
      (listAt_of_le ((length_listMod _ _ _).trans_le hk) {}).trans (listAt_of_le hk {}).symm
    rwa [hnone] at hx

theorem State.txMark_done (s : State) (k i : Nat) : ∀ x ∈ ((s.txMark k i).mac k).tx, x.idx = i → x.done = true := by
  intro x hx hi
  have hmarked := State.mem_tx_of_txDone _ k hx
  rw [s.mac_macM_part k _ EthMac.tx rfl] at hmarked
  obtain ⟨d, -, rfl⟩ := List.mem_map.mp hmarked
  by_cases hd : d.idx = i
  · rw [if_pos hd]
  · rw [if_neg hd] at hi
    exact absurd hi hd

theorem State.txDescriptor_done (s : State) (k : Nat) (d : TxDesc) :
    ∀ x ∈ ((s.txDescriptor k d).mac k).tx, x.idx = d.idx → x.done = true := by
  unfold State.txDescriptor
  dsimp only
  split
  · exact State.txMark_done _ _ _
  split
  · exact State.txMark_done _ _ _
  split
  · exact State.txMark_done _ _ _
  · exact State.txMark_done _ _ _

/-! ## PHY management and the link (R470, R494) -/

theorem State.mdioWrite_idle (h : s.rd ETH_MDIO_BUSY = 0) (v : Nat) : s.mdioWrite v =
    (s.setReg (ETH_MDIO_BUSY.addr 0 0) (2 ^ 31 + bitsOf v 30 20 * 2 ^ 20 + bitsOf v 15 0)).emit
      (.mdio (bitAt v 30) (bitsOf v 29 25) (bitsOf v 24 20) (bitsOf v 15 0)) := by
  unfold State.mdioWrite
  rw [h]
  rfl

theorem State.mdioWrite_busy (h : s.rd ETH_MDIO_BUSY = 0) (v : Nat) : (s.mdioWrite v).rd ETH_MDIO_BUSY = 1 := by
  have hhi : bitsOf v 30 20 < 2 ^ 11 := bitsOf_lt _ _ _
  have hlo : bitsOf v 15 0 < 2 ^ 16 := bitsOf_lt _ _ _
  have hread : (s.mdioWrite v).rd ETH_MDIO_BUSY =
      bitsOf ((s.setReg (ETH_MDIO_BUSY.addr 0 0) (2 ^ 31 + bitsOf v 30 20 * 2 ^ 20 + bitsOf v 15 0)).reg (ETH_MDIO_BUSY.addr 0 0)) 31 31 := by
    rw [s.mdioWrite_idle h]
    rfl
  rw [hread, State.reg_setReg_same, bitsOf]
  omega

theorem exec_mdioComplete_read {d : BitVec 16} (hp : s.host.halted = false) (hbusy : s.rd ETH_MDIO_BUSY ≠ 0)
    (hread : s.rd ETH_MDIO_READ = 1) :
    exec (.mdioComplete d) s = .next ((s.wr ETH_MDIO_BUSY 0).wr ETH_MDIO_DATA d.toNat) := by
  simp only [exec, execMdioComplete, State.powered_of_not_halted hp, hbusy, hread, if_true, if_false]
  rfl

theorem State.ethLink_link (s : State) (m : Nat) (up : Bool) (speed : Nat) :
    (s.ethLink m up speed).rdi ETH_STAT_LINK m = b2n (up && s.rdi ETH_CTRL_EN m == 1) := by
  refine (State.rdij_raiseIf _ _ _ _ ETH_STAT_LINK m 0 (by decide)).trans ?_
  exact State.rdij_wrij_flag _ ⟨by decide, by decide⟩ _ _ (by unfold b2n; split <;> decide)

theorem exec_ethLinkChange_present {up : Bool} {sp : Fin 3} (hp : s.host.halted = false) (h : m.val = 0 ∨ s.is20 = false) :
    exec (.ethLinkChange m up sp) s = .next (s.ethLink m up sp) := by
  have hpresent : (decide (m.val = 1) && s.is20) = false := by
    rcases h with h | h <;> simp [h]
  simp only [exec, execEthLinkChange, State.powered_of_not_halted hp, hpresent, Bool.false_eq_true, if_false]
  rfl

/-! ## Receive (R470, R471) -/

/-- A pause frame holds the transmitter for the time it names. -/
def State.paused (s : State) (m : Nat) (b : List Nat) : State :=
  s.macM m fun x => { x with pauseTill := s.clk.el + beNat (slice (b.drop 14) 2 2) * 64 * s.byteNs m }

theorem exec_ethFrameReceive_pause {f b : List Nat} {ago : Nat} (hp : s.host.halted = false) (hb : f.map (fun x => x % 256) = b)
    (hup : s.macUp m.val = true) (hmin : 60 ≤ b.length) (hmax : b.length ≤ 1518) (htyp : beNat (slice b 12 2) = 0x8808)
    (hop : beNat (slice (b.drop 14) 0 2) = 1) : exec (.ethFrameReceive m f true ago) s = .next (s.paused m.val b) := by
  simp only [exec, execEthFrameReceive, State.powered_of_not_halted hp, hb, hup, Nat.not_lt.mpr hmin, Nat.not_lt.mpr hmax, htyp,
    hop, decide_false, Bool.not_true, Bool.or_self, Bool.false_eq_true, if_false, Nat.reduceBEq, BEq.rfl, decide_true, Bool.and_self,
    if_true]
  rfl

theorem exec_ethFrameReceive_badFcs {f : List Nat} {ago : Nat} (hp : s.host.halted = false) (hup : s.macUp m.val = true) :
    exec (.ethFrameReceive m f false ago) s = .next ((s.inci ETH_ERR_FCS m.val 1).raise 29 (2 + m.val)) := by
  simp only [exec, execEthFrameReceive, State.powered_of_not_halted hp, hup, Bool.not_true, Bool.not_false, Bool.true_or,
    Bool.false_eq_true, if_false, if_true]
  rfl

end Ethernet

/-- Settles O32: the MAC that a command works on, and the fields of its window, after each command. -/
theorem ethernetCommandsComplete : Obligations.EthernetCommandsComplete := by
  unfold Obligations.EthernetCommandsComplete
  refine ⟨fun m e s hp h2 hcyc => ⟨_, exec_gateControlInterval_cycle hp hcyc, ?_⟩,
    fun m s hp h2 hcyc hon htill hix => ⟨_, exec_gateControlInterval_interval hp hcyc hon htill hix, ?_⟩,
    fun m v s hp habs => ?_,
    fun m h s hp h2 hup hfree hpause hx => ⟨_, exec_transmitComplete_start hp hup hfree hpause hx, s.txHand_frames m.val h,
      s.txHand_freeAt h (mac_lt h2 m)⟩,
    fun m d s hp h2 hup hfree hpause hx => ⟨_, exec_transmitComplete_start hp hup hfree hpause hx, s.txDescriptor_done m.val d⟩,
    fun v s hp hidle => ⟨_, State.powered_of_not_halted hp _, State.mdioWrite_busy hidle _, ?_⟩,
    fun d s hp hbusy hread => ⟨_, exec_mdioComplete_read hp hbusy hread, ?_, ?_⟩,
    fun m up sp s hp hm => ⟨_, exec_ethLinkChange_present hp hm, s.ethLink_link m.val up sp.val⟩,
    fun m f b ago s hp h2 hb hup hmin hmax htyp hop => ⟨_, exec_ethFrameReceive_pause hp hb hup hmin hmax htyp hop, ?_, rfl⟩,
    fun m f ago s hp hup => ⟨_, exec_ethFrameReceive_badFcs hp hup, ?_, ?_⟩⟩
  · rw [State.gateStarted, State.mac_macM_same _ _ (mac_lt h2 m)]
    exact ⟨rfl, rfl, rfl, rfl⟩
  · rw [State.gateNext, State.mac_macM_same _ _ (mac_lt h2 m)]
    exact ⟨rfl, rfl⟩
  · refine ⟨_, ?_, s.ethPost_txwr m.val v.toNat⟩
    simp only [exec, execTransmitPost, State.powered_of_not_halted hp, habs, Bool.false_eq_true, if_false]
    rfl
  · rw [State.mdioWrite_idle hidle]
    rfl
  · refine (State.rdij_wrij_apart _ _ _ _ _ _ _ _ (by decide)).trans ?_
    exact State.rdij_wrij_flag s ⟨by decide, by decide⟩ 0 0 (by decide)
  · exact (State.rdij_wrij_same _ ETH_MDIO_DATA 0 0 _ (by decide) (by decide)).trans (Nat.mod_eq_of_lt d.isLt)
  · rw [State.paused, State.mac_macM_same _ _ (mac_lt h2 m)]
  · refine (State.rdij_raise _ _ _ ETH_ERR_FCS m.val 0 (by decide)).trans ?_
    exact s.rdi_inci_same ETH_ERR_FCS m.val 1 (by decide) (by decide)
  · exact State.raise_bit _ 29 (2 + m.val) (State.winPresent_ethernet _) hp (by omega)

end Sys2Proof.Machine

/-! # Settled statements on the township -/

namespace Sys2Proof.Machine

open Sys2Proof

section Township

variable {s t u : State} {r : CfgRec}

/-! ## 802.1AS (R474) -/

/-- From `s` to `t` what the peer delay request keeps stays: its next sequence number and when it was last sent. -/
def SamePd (s t : State) : Prop := t.twn.ptp.pdSeq = s.twn.ptp.pdSeq ∧ t.twn.ptp.pdAt = s.twn.ptp.pdAt

theorem SamePd.of_twn (h : t.twn = s.twn) : SamePd s t := by
  rw [SamePd, h]
  exact ⟨Eq.refl _, Eq.refl _⟩

theorem SamePd.rfl (s : State) : SamePd s s := .of_twn (Eq.refl _)

theorem SamePd.trans (h : SamePd s t) (h' : SamePd t u) : SamePd s u := ⟨h'.1.trans h.1, h'.2.trans h.2⟩

theorem State.ptpSend_twn (s : State) (msg : List Nat) : (s.ptpSend msg).twn = s.twn :=
  (s.ptpSend_frame msg).1 .twn (by decide)

/-- A message is sent and a change of the end station that is not about the request made. -/
theorem SamePd.send (h : SamePd s t) (msg : List Nat) (f : Ptp → Ptp) (hseq : ∀ p, (f p).pdSeq = p.pdSeq)
    (hat : ∀ p, (f p).pdAt = p.pdAt) : SamePd s ((t.ptpSend msg).ptpM f) :=
  h.trans ⟨(hseq _).trans (congrArg (·.ptp.pdSeq) (t.ptpSend_twn msg)), (hat _).trans (congrArg (·.ptp.pdAt) (t.ptpSend_twn msg))⟩

theorem SamePd.sent (h : SamePd s t) (msg : List Nat) : SamePd s (t.ptpSend msg) := h.trans (.of_twn (t.ptpSend_twn msg))

theorem SamePd.sendIf {c : Prop} [Decidable c] (h : SamePd s t) (msg : List Nat) (f : Ptp → Ptp) (hseq : ∀ p, (f p).pdSeq = p.pdSeq)
    (hat : ∀ p, (f p).pdAt = p.pdAt) : SamePd s (if c then (t.ptpSend msg).ptpM f else t) := by
  split
  · exact h.send msg f hseq hat
  · exact h

/-- The shown selection follows the one made. -/
theorem SamePd.gmShown (h : SamePd s t) (g : Nat) :
    SamePd s (if t.rd TWN_STAT_GM = g then t else (t.wr TWN_STAT_GM g).raise 30 1) := by
  split
  · exact h
  · exact h.trans (SamePd.of_twn ((State.raise_frame _ _ _).1 .twn (by decide)))

theorem State.ptpSelect_pd (s : State) : SamePd s s.ptpSelect := by
  unfold State.ptpSelect
  extract_lets heard gm
  refine SamePd.gmShown ?_ gm
  unfold heard
  split
  · exact ⟨rfl, rfl⟩
  · exact ⟨rfl, rfl⟩

/-- A peer delay request goes out at `s`, where the selection has made `s0` of it. -/
def State.pdSent (s : State) (r : CfgRec) : State :=
  (s.ptpSelect.ptpSend (s.ptpMsg 2 54 8 0 s.ptpSelect.twn.ptp.pdSeq 5 (r.v C_PTP_PDELAY_LOG) (List.replicate 20 0))).ptpM fun p =>
    { p with
      req := some (p.pdSeq, (s.txStamp (r.v C_PTP_MAC) : Int) - s.time.stepSum), resp := none
      pdSeq := (p.pdSeq + 1) % 65536, pdAt := some s.clk.el }

theorem State.pdSent_pd (s : State) (r : CfgRec) :
    (s.pdSent r).twn.ptp.pdSeq = (s.twn.ptp.pdSeq + 1) % 65536 ∧ (s.pdSent r).twn.ptp.pdAt = some s.clk.el := by
  refine ⟨congrArg (fun n => (n + 1) % 65536) ?_, rfl⟩
  exact (congrArg (·.ptp.pdSeq) (State.ptpSend_twn _ _)).trans s.ptpSelect_pd.1

theorem exec_syncSend_due (hp : s.host.halted = false) (hr : s.crec1 C_PTP_MAC = some r) (hup : s.macUp (r.v C_PTP_MAC) = true)
    (hdue : dueAt s.twn.ptp.pdAt (logNs (r.v C_PTP_PDELAY_LOG)) s.clk.el = true) :
    ∃ t, exec .syncSend s = .next t ∧ SamePd (s.pdSent r) t := by
  have hdue0 : dueAt s.ptpSelect.twn.ptp.pdAt (logNs (r.v C_PTP_PDELAY_LOG)) s.clk.el = true := by
    rwa [s.ptpSelect_pd.2]
  simp only [exec, execSyncSend, State.powered_of_not_halted hp, hr, hup, hdue0, Bool.not_true, Bool.false_eq_true, if_false,
    if_true]
  rw [← State.pdSent]
  split
  · exact ⟨_, rfl, rfl, rfl⟩
  split
  · refine ⟨_, rfl, SamePd.send (SamePd.sent ?_ _) _ _ (fun _ => rfl) fun _ => rfl⟩
    exact SamePd.sendIf (.rfl (s.pdSent r)) _ _ (fun _ => rfl) fun _ => rfl
  · refine ⟨_, rfl, ?_⟩
    exact SamePd.sendIf (.rfl (s.pdSent r)) _ _ (fun _ => rfl) fun _ => rfl

/-! ## Handoff frames in (R476, R481) -/

/-- The oldest received frame leaves the queue; a foreign frame of this parcel and side is noted. -/
def State.handOff (s : State) (f : TwnRx) (l : List TwnRx) : State :=
  (s.twnM fun t => { t with rx := l }).dupTest f.src f.bytes

theorem State.handOff_rx (s : State) (f : TwnRx) (l : List TwnRx) : (s.handOff f l).twn.rx = l :=
  congrArg TwnUnit.rx ((State.dupTest_frame _ _ _).1 .twn (by decide))

theorem State.handOff_frame (s : State) (f : TwnRx) (l : List TwnRx) : Frame 0x28000000090000000000401 s (s.handOff f l) :=
  Frame.comp (State.dupTest_frame _ _ _) (by decide) ((s.twnM_frame _).mono (by decide))

theorem State.handOff_warmStandby (s : State) (f : TwnRx) (l : List TwnRx) : (s.handOff f l).warmStandby = s.warmStandby := by
  have hf := s.handOff_frame f l
  simp only [State.warmStandby, State.standby, hf.winPresent (by decide), hf.rd (f := PAIR_STAT_ROLE) (by decide),
    hf.rd (f := PAIR_STAT_MODE) (by decide)]

theorem State.crec_congr (h : t.loader.recs = s.loader.recs) (c : CRef) (k : Nat) : t.crec c k = s.crec c k := by
  unfold State.crec
  rw [h]

theorem State.handOff_crec (s : State) (f : TwnRx) (l : List TwnRx) (c : CRef) (k : Nat) : (s.handOff f l).crec c k = s.crec c k :=
  State.crec_congr ((s.handOff_frame f l).1 .loaderRecs (by decide)) c k

theorem State.handOff_imperr (s : State) (f : TwnRx) (l : List TwnRx) : (s.handOff f l).rd TWN_IMPERR_V = s.rd TWN_IMPERR_V := by
  unfold State.handOff State.dupTest
  dsimp only
  split
  · exact (State.rdij_raiseIf _ _ _ _ _ _ _ (by decide)).trans (State.rdij_wrij_apart _ _ _ _ _ _ _ _ (by decide))
  · rfl

theorem State.importEntry_twn (s : State) (ch : Nat) (rec : CfgRec) (flags : Nat) (stamp sig : Int) (e : List Nat) :
    (s.importEntry ch rec flags stamp sig e).twn = s.twn :=
  (s.importEntry_frame ch rec flags stamp sig e).1 .twn (by decide)

theorem State.handTake_rx (s : State) (ch : Nat) (rec : CfgRec) (f : TwnRx) : (s.handTake ch rec f).twn.rx = s.twn.rx := by
  unfold State.handTake
  extract_lets p seq gap s1 s2 n s3
  have hgap : s2.twn = s1.twn := by
    unfold s2
    split
    · rfl
    · exact (State.raise_frame _ _ _).1 .twn (by decide)
  have hcopy : s3.twn = s2.twn := (State.mirrorCopy_frame _ _ _ _).1 .twn (by decide)
  have htaken := foldl_keeps (g := State.twn) (fun t k => t.importEntry_twn ch rec (leAt p 16 2) f.stamp f.sig
    (slice p (24 + 112 * k) 112)) (List.range n) s3
  have hall := htaken.trans (hcopy.trans hgap)
  exact (congrArg TwnUnit.rx hall).trans rfl

theorem exec_handoffFrame_rx {f : TwnRx} {l : List TwnRx} (hp : s.host.halted = false) (h : s.twn.rx = f :: l) :
    ∃ t : State, exec .handoffFrame s = .next t ∧ t.twn.rx = l ∧ (s.warmStandby = false → s.crec C_IMPORT_CHANNEL (leAt f.bytes 4 1)
    = none → t = (s.handOff f l).inc TWN_IMPERR_V 1) := by
  simp only [exec, execHandoffFrame, State.powered_of_not_halted hp, h]
  rw [← State.handOff, s.handOff_warmStandby, s.handOff_crec]
  split
  · next hwarm => exact ⟨_, rfl, s.handOff_rx f l, fun h => absurd hwarm (by simp [h])⟩
  split
  · next r hr =>
    split
    · exact ⟨_, rfl, (State.handTake_rx _ _ _ _).trans (s.handOff_rx f l), fun _ h => absurd (hr.symm.trans h) (by simp)⟩
    · exact ⟨_, rfl, s.handOff_rx f l, fun _ h => absurd (hr.symm.trans h) (by simp)⟩
  · exact ⟨_, rfl, s.handOff_rx f l, fun _ _ => rfl⟩

/-! ## Announces and flushes (R476, R480) -/

theorem exec_announce_due (hp : s.host.halted = false) (hparcel : (s.crec1 C_PARCEL_PARCEL).isSome = true)
    (hon : s.cv1 C_PARCEL_ANNOUNCE ≠ 0) (hstandby : s.standby = false) (hsec : s.twn.annSec ≠ s.sec)
    (hroom : s.twn.frames.length < 32) :
    exec .announce s = .next (s.twnM fun t => { t with
      annSec := s.sec, annSeq := (t.annSeq + 1) % 65536
      frames := t.frames ++ [{ bytes := s.frameHead 2 0 0 s.twn.annSeq, ch := 8, n := 0, since := s.clk.el }] }) := by
  have hnone : (s.crec1 C_PARCEL_PARCEL).isNone = false := by simpa using hparcel
  simp only [exec, execAnnounce, State.powered_of_not_halted hp, hnone, hon, hstandby, beq_eq_false_iff_ne.mpr hsec,
    Nat.not_le.mpr hroom, decide_false, Bool.or_self, Bool.false_eq_true, if_false]
  rfl

/-- The collected entries of channel `c` have become the last frame of the queue. -/
theorem State.handQueue_queues {c : Nat} (hc : c < s.twn.outs.length) (hents : (s.outCh c).ents ≠ []) (hroom : s.twn.frames.length < 32) :
    ((s.handQueue c).outCh c).ents = [] ∧ ((s.handQueue c).outCh c).seq = ((s.outCh c).seq + 1) % 65536 ∧
    (s.handQueue c).twn.frames.map (·.ch) = s.twn.frames.map (·.ch) ++ [c] ∧
    (s.handQueue c).twn.frames.map (·.n) = s.twn.frames.map (·.n) ++ [(s.outCh c).ents.length] := by
  have hnone : (s.outCh c).ents.isEmpty = false := List.isEmpty_eq_false_iff.mpr hents
  have hout : (s.handQueue c).outCh c = { s.outCh c with ents := [], seq := ((s.outCh c).seq + 1) % 65536 } := by
    simp only [State.handQueue, hnone, Nat.not_le.mpr hroom, decide_false, Bool.or_self, Bool.false_eq_true, if_false]
    exact listAt_listMod_same s.twn.outs c _ {} hc
  have hframes : ∃ bytes, (s.handQueue c).twn.frames =
      s.twn.frames ++ [{ bytes, ch := c, n := (s.outCh c).ents.length, since := s.clk.el }] := by
    simp only [State.handQueue, hnone, Nat.not_le.mpr hroom, decide_false, Bool.or_self, Bool.false_eq_true, if_false]
    exact ⟨_, rfl⟩
  obtain ⟨bytes, hframes⟩ := hframes
  rw [hout, hframes, List.map_append, List.map_append]
  exact ⟨rfl, rfl, rfl, rfl⟩

theorem exec_handoffFlush_due {c : Fin 8} (hp : s.host.halted = false) (hents : (s.outCh c.val).ents ≠ [])
    (hdue : (s.outCh c.val).since + s.cv C_HANDOFF_OUT_FLUSH_US c.val * 1000 ≤ s.clk.el) :
    exec (.handoffFlush c) s = .next (s.handQueue c.val) := by
  have hnone : (s.outCh c.val).ents.isEmpty = false := List.isEmpty_eq_false_iff.mpr hents
  simp only [exec, execHandoffFlush, State.powered_of_not_halted hp, hnone, hdue, decide_true, Bool.not_false, Bool.and_self,
    Bool.or_true, if_true]
  rfl

end Township

/-- Settles O33: the township unit's part of the state after each command. -/
theorem townshipCommandsComplete : Obligations.TownshipCommandsComplete := by
  unfold Obligations.TownshipCommandsComplete
  refine ⟨fun r s hp hr hup hdue => ?_, fun f l s hp hrx => ?_, fun s hp hparcel hon hstandby hsec hroom =>
    ⟨_, exec_announce_due hp hparcel hon hstandby hsec hroom, rfl, rfl, List.map_append⟩,
    fun c s hp h8 hents hdue hroom => ⟨_, exec_handoffFlush_due hp hents hdue,
      State.handQueue_queues (c.isLt.trans_eq h8.symm) hents hroom⟩⟩
  · obtain ⟨t, ht, hseq, hat⟩ := exec_syncSend_due hp hr hup hdue
    exact ⟨t, ht, hseq.trans (s.pdSent_pd r).1, hat.trans (s.pdSent_pd r).2⟩
  · obtain ⟨t, ht, hleft, hcount⟩ := exec_handoffFrame_rx hp hrx
    refine ⟨t, ht, hleft, fun hwarm hnone => ?_⟩
    rw [hcount hwarm hnone, State.rd_inc_same _ TWN_IMPERR_V 1 (by decide) (by decide), s.handOff_imperr]
    rfl

end Sys2Proof.Machine

/-! # Settled statements on the redundant pair -/

namespace Sys2Proof.Machine

open Sys2Proof

section Pair

variable {s t : State} {f : Fld}

/-! ## Roles (R487, R488) -/

/-- Outside its window a new role shows in the outputs alone. -/
theorem State.setRole_shows {r : Nat} (h : s.rd PAIR_STAT_ROLE ≠ r) :
    Frame 0x20000380080300000000401 (s.wr PAIR_STAT_ROLE r) (s.setRole r) := by
  rw [State.setRole, if_neg h]
  exact ((((State.raise_frame _ _ _).mono (by decide)).trans ((State.stkShow_frame _).mono (by decide))).trans
    ((State.vlShow_frame _).mono (by decide))).trans ((State.padRefresh_frame _).mono (by decide))

theorem State.setRole_role (s : State) {r : Nat} (hr : r < 4) : (s.setRole r).rd PAIR_STAT_ROLE = r := by
  by_cases h : s.rd PAIR_STAT_ROLE = r
  · rwa [State.setRole, if_pos h]
  · exact ((State.setRole_shows h).rd (by decide)).trans
      ((State.rdij_wrij_same s PAIR_STAT_ROLE 0 0 r (by decide) (by decide)).trans (Nat.mod_eq_of_lt hr))

/-- A field of the pair's window other than the role. -/
theorem State.setRole_rd (s : State) (r : Nat) (hf : PAIR_STAT_ROLE.apart f = true) (hout : f.outside 0x20000380080300000000401 = true) :
    (s.setRole r).rd f = s.rd f := by
  by_cases h : s.rd PAIR_STAT_ROLE = r
  · rw [State.setRole, if_pos h]
  · exact ((State.setRole_shows h).rd hout).trans (State.rdij_wrij_apart _ _ _ _ _ _ _ _ hf)

theorem State.setRole_pair (s : State) (r : Nat) : (s.setRole r).pair = s.pair := (s.setRole_frame r).1 .pair (by decide)

theorem State.aliveShow_pair (s : State) : s.aliveShow.pair = s.pair := s.aliveShow_frame.1 .pair (by decide)

theorem State.aliveShow_rd (s : State) (hf : PAIR_STAT_ALIVE.apart f = true) : s.aliveShow.rd f = s.rd f :=
  State.rdij_wrij_apart _ _ _ _ _ _ _ _ hf

theorem exec_roleDecision_due {e : Nat} (hp : s.host.halted = false) (hlisten : s.pair.listenFrom = some e) (hon : s.pairOn = true)
    (hrun : s.running = true) (hdue : e + s.cv1 C_PAIRREC_WAIT_MS * 1000000 ≤ s.clk.el) :
    ∃ quiet : Bool, exec .roleDecision s = .next ((s.pairM fun p => { p with listenFrom := none }).setRole
      (if !s.pair.heardPrimary && (s.side == 0 || (!s.pair.heardAny && quiet)) then 1 else 2)) := by
  simp only [exec, execRoleDecision, State.powered_of_not_halted hp, hlisten, hon, hrun, hdue, decide_true, Bool.and_self, if_true]
  exact ⟨_, rfl⟩

/-! ## Takeover (R491, R492) -/

/-- The standby counts its takeover and takes the role. -/
def State.roleTaken (s : State) : State := ((s.inc PAIR_TAKEOVERS_V 1).raise 31 0).setRole 1

/-- Once the role is taken, the pair's window stays. -/
theorem State.takeOver_follows (s : State) : Frame 0x200003888a03c2000000407 s.roleTaken s.takeOver := by
  unfold State.takeOver State.roleTaken
  extract_lets s1 s2 s3 s4
  have htime : Frame 0x200003888a03c2000000407 s1 s2 := by
    refine Frame.comp (State.raiseIf_frame _ _ _ _) (by decide) ?_
    exact Frame.comp (State.setActive_frame _ _) (by decide) (Frame.put_time _ (by decide) (.rfl _ _))
  have houts : Frame 0x200003888a03c2000000407 s1 s3 :=
    Frame.comp (State.stkTakeover_frame _) (by decide) (Frame.wr (by decide) htime)
  have hheld : Frame 0x200003888a03c2000000407 s1 s4 := Frame.put_pair _ (by decide) houts
  exact Frame.ite (Frame.foldl _ hheld fun t q => (t.stkIntake_frame q.1 false).mono (by decide)) hheld

theorem State.takeOver_role (s : State) : s.takeOver.rd PAIR_STAT_ROLE = 1 :=
  (s.takeOver_follows.rd (by decide)).trans (State.setRole_role _ (by decide))

theorem State.takeOver_link (s : State) : s.takeOver.rd PAIR_STAT_LINK = s.rd PAIR_STAT_LINK :=
  calc s.takeOver.rd PAIR_STAT_LINK
      = s.roleTaken.rd PAIR_STAT_LINK := s.takeOver_follows.rd (by decide)
    _ = ((s.inc PAIR_TAKEOVERS_V 1).raise 31 0).rd PAIR_STAT_LINK := State.setRole_rd _ 1 (by decide) (by decide)
    _ = (s.inc PAIR_TAKEOVERS_V 1).rd PAIR_STAT_LINK := State.rdij_raise _ _ _ _ _ _ (by decide)
    _ = s.rd PAIR_STAT_LINK := State.rdij_wrij_apart _ _ _ _ _ _ _ _ (by decide)

theorem State.takeOver_takeovers (s : State) : s.takeOver.rd PAIR_TAKEOVERS_V = min (s.rd PAIR_TAKEOVERS_V + 1) (2 ^ 32 - 1) :=
  calc s.takeOver.rd PAIR_TAKEOVERS_V
      = s.roleTaken.rd PAIR_TAKEOVERS_V := s.takeOver_follows.rd (by decide)
    _ = ((s.inc PAIR_TAKEOVERS_V 1).raise 31 0).rd PAIR_TAKEOVERS_V := State.setRole_rd _ 1 (by decide) (by decide)
    _ = (s.inc PAIR_TAKEOVERS_V 1).rd PAIR_TAKEOVERS_V := State.rdij_raise _ _ _ _ _ _ (by decide)
    _ = min (s.rd PAIR_TAKEOVERS_V + 1) (2 ^ 32 - 1) := s.rd_inc_same _ _ (by decide) (by decide)

/-- Heartbeats are missed: LINK falls, and ALIVE follows the pin. -/
def State.linkDropped (s : State) : State := ((s.wr PAIR_STAT_LINK 0).raiseIf (s.rd PAIR_STAT_LINK == 1) 31 4).aliveShow

theorem State.linkDropped_link (s : State) : s.linkDropped.rd PAIR_STAT_LINK = 0 :=
  ((State.aliveShow_rd _ (by decide)).trans (State.rdij_raiseIf _ _ _ _ _ _ _ (by decide))).trans
    (State.rdij_wrij_flag s ⟨by decide, by decide⟩ 0 0 (by decide))

theorem State.linkDropped_takeovers (s : State) : s.linkDropped.rd PAIR_TAKEOVERS_V = s.rd PAIR_TAKEOVERS_V :=
  ((State.aliveShow_rd _ (by decide)).trans (State.rdij_raiseIf _ _ _ _ _ _ _ (by decide))).trans
    (State.rdij_wrij_apart _ _ _ _ _ _ _ _ (by decide))

theorem State.wr_raiseIf_pair (s : State) (f : Fld) (v : Nat) (c : Bool) (w e : Nat) : ((s.wr f v).raiseIf c w e).pair = s.pair :=
  (State.raiseIf_frame _ _ _ _).1 .pair (by decide)

theorem State.linkDropped_pair (s : State) : s.linkDropped.pair = s.pair :=
  (State.aliveShow_pair _).trans (s.wr_raiseIf_pair _ _ _ _ _)

/-- The primary still toggles its pin: the standby sets SPLIT. -/
def State.splitShown (s : State) : State := (s.linkDropped.wr PAIR_STAT_SPLIT 1).raiseIf (s.rd PAIR_STAT_SPLIT == 0) 31 2

theorem State.judgeLoss_due (hon : s.pairOn = true) (hlate : s.pair.lastHb + 6500 ≤ s.clk.el) : s.judgeLoss =
    if s.standby then (if s.aliveSilent then s.linkDropped.takeOver else s.splitShown) else s.linkDropped := by
  simp only [State.judgeLoss, hon, Nat.not_lt.mpr hlate, decide_false, Bool.not_true, Bool.or_self, Bool.false_eq_true, if_false]
  cases s.standby <;> rfl

theorem State.judgeLoss_link (hon : s.pairOn = true) (hlate : s.pair.lastHb + 6500 ≤ s.clk.el) :
    s.judgeLoss.rd PAIR_STAT_LINK = 0 := by
  rw [State.judgeLoss_due hon hlate]
  split
  · split
    · exact (State.takeOver_link _).trans s.linkDropped_link
    · exact ((State.rdij_raiseIf _ _ _ _ _ _ _ (by decide)).trans (State.rdij_wrij_apart _ _ _ _ _ _ _ _ (by decide))).trans
        s.linkDropped_link
  · exact s.linkDropped_link

theorem State.judgeLoss_takesOver (hon : s.pairOn = true) (hlate : s.pair.lastHb + 6500 ≤ s.clk.el) (hstandby : s.standby = true)
    (hsilent : s.aliveSilent = true) : s.judgeLoss = s.linkDropped.takeOver := by
  rw [State.judgeLoss_due hon hlate, if_pos hstandby, if_pos hsilent]

theorem State.splitShown_pair (s : State) : s.splitShown.pair = s.pair :=
  (State.wr_raiseIf_pair _ _ _ _ _ _).trans s.linkDropped_pair

theorem State.judgeLoss_skip (h : (!s.pairOn || decide (s.clk.el < s.pair.lastHb + 6500)) = true) : s.judgeLoss = s := by
  rw [State.judgeLoss, if_pos h]

/-- A partner that shows edges is not taken over from. -/
theorem State.judgeLoss_pair (h : s.aliveSilent = false) : s.judgeLoss.pair = s.pair := by
  have hnot : ¬ s.aliveSilent = true := Bool.eq_false_iff.mp h
  rcases Bool.eq_false_or_eq_true (!s.pairOn || decide (s.clk.el < s.pair.lastHb + 6500)) with hskip | hdue
  · rw [State.judgeLoss_skip hskip]
  · rw [Bool.or_eq_false_iff, Bool.not_eq_false', decide_eq_false_iff_not] at hdue
    rw [State.judgeLoss_due hdue.1 (Nat.le_of_not_lt hdue.2), if_neg hnot]
    split
    · exact s.splitShown_pair
    · exact s.linkDropped_pair

/-- The partner's pin has just changed its level. -/
def State.edgeSeen (s : State) : State :=
  ((s.pinM (s.cv1 C_PAIRREC_ALIVE_IN) fun x => { x with ext := !x.ext }).pairM fun u => { u with lastAlive := some s.clk.el }).aliveShow

theorem exec_aliveInEdge_wired (hp : s.host.halted = false) (hon : s.pairOn = true) (hin : s.cv1 C_PAIRREC_ALIVE_IN ≠ 0xFF) :
    exec .aliveInEdge s = .next s.edgeSeen.judgeLoss.padRefresh := by
  simp only [exec, execAliveInEdge, State.powered_of_not_halted hp, hon, beq_eq_false_iff_ne.mpr hin, Bool.not_true, Bool.or_self,
    Bool.false_eq_true, if_false]
  rfl

theorem State.edgeSeen_lastAlive (s : State) : s.edgeSeen.pair.lastAlive = some s.clk.el :=
  congrArg PairUnit.lastAlive (State.aliveShow_pair _)

theorem State.edgeSeen_not_silent (h : s.cv1 C_PAIRREC_ALIVE_IN ≠ 0xFF) : s.edgeSeen.aliveSilent = false := by
  have hin : s.edgeSeen.cv1 C_PAIRREC_ALIVE_IN = s.cv1 C_PAIRREC_ALIVE_IN := rfl
  have hel : s.edgeSeen.clk.el = s.clk.el := rfl
  simp only [State.aliveSilent, hin, hel, beq_eq_false_iff_ne.mpr h, s.edgeSeen_lastAlive, Bool.false_or, decide_eq_false_iff_not]
  omega

/-! ## Heartbeats (R485, R489) -/

theorem exec_heartbeat_due (hp : s.host.halted = false) (hon : s.pairOn = true) (hslot : s.pair.hbSlot ≠ s.clk.el / 2000) :
    ∃ x, exec .heartbeat s = .next (((s.free 12).2.pairM fun p => { p with
      hbSlot := s.clk.el / 2000, hbCount := (p.hbCount + 1) % 2 ^ 32 }).emit x) := by
  simp only [exec, execHeartbeat, State.powered_of_not_halted hp, hon, beq_eq_false_iff_ne.mpr hslot, Bool.not_true, Bool.or_self,
    Bool.false_eq_true, if_false]
  exact ⟨_, rfl⟩

theorem exec_outputMessage_due (hp : s.host.halted = false) (hon : s.pairOn = true) (hprimary : s.primary = true)
    (hdue : s.pair.outAt + 1000000 ≤ s.clk.el) : exec .outputMessage s =
    .next ((s.pairM fun p => { p with outLast := s.outputBody, outAt := s.clk.el }).emit (.tie (tieMsg 4 1 s.outputBody))) := by
  have hsend : ((s.pairM fun p => { p with outLast := s.outputBody, outAt := s.clk.el }).tieSend 4 1 s.outputBody) =
      (s.pairM fun p => { p with outLast := s.outputBody, outAt := s.clk.el }).emit (.tie (tieMsg 4 1 s.outputBody)) :=
    if_pos hprimary
  simp only [exec, execOutputMessage, State.powered_of_not_halted hp, hon, hprimary, hdue, decide_true, Bool.or_true, Bool.and_self,
    if_true, hsend]
  rfl

/-- The pin's next level at a microsecond boundary, an asked switchover taken back (R486, R493). -/
def State.aliveToggled (s : State) : State :=
  let wired := s.cv1 C_PAIRREC_ALIVE_OUT != 0xFF
  let s1 := (s.pairM fun p => { p with aliveUs := s.clk.now / 1000, aliveOut := s.pair.aliveOut != wired, switching := false }).aliveShow
  if wired then s1.emit (.aliveOut (s.pair.aliveOut != wired)) else s1

/-- An asked switchover makes the device a standby; the pads follow the pin otherwise. -/
def State.handOver (s : State) (asked : Bool) : State := if asked then s.setRole 2 else s.padRefresh

theorem State.handOver_pair (s : State) (asked : Bool) : (s.handOver asked).pair = s.pair := by
  unfold State.handOver
  split
  · exact s.setRole_pair 2
  · exact s.padRefresh_frame.1 .pair (by decide)

theorem exec_aliveOutToggle_due (hp : s.host.halted = false) (hon : s.pairOn = true) (hus : s.pair.aliveUs ≠ s.clk.now / 1000) :
    exec .aliveOutToggle s =
      .next (s.aliveToggled.handOver (s.pair.switching && s.primary)) := by
  simp only [exec, execAliveOutToggle, State.powered_of_not_halted hp, hon, beq_eq_false_iff_ne.mpr hus, Bool.not_true, Bool.or_self,
    Bool.false_eq_true, if_false]
  unfold State.handOver
  split
  · rfl
  · rfl

theorem State.aliveToggled_pair (s : State) : s.aliveToggled.pair = { s.pair with
    aliveUs := s.clk.now / 1000, aliveOut := s.pair.aliveOut != (s.cv1 C_PAIRREC_ALIVE_OUT != 0xFF), switching := false } := by
  unfold State.aliveToggled
  dsimp only
  split
  · exact State.aliveShow_pair _
  · exact State.aliveShow_pair _

theorem State.pairStep_lastHb (s : State) (d : Int) : (s.pairStep d).pair.lastHb = s.pair.lastHb := rfl

/-- When the partner was last heard stays when device time steps. -/
theorem State.stepAll_lastHb (s : State) (d : Int) : (s.stepAll d).pair.lastHb = s.pair.lastHb := by
  have hbefore : (((s.timeStep d).stkStep d).talStep d).pair = s.pair :=
    calc (((s.timeStep d).stkStep d).talStep d).pair
        = ((s.timeStep d).stkStep d).pair := (State.talStep_frame _ _).1 .pair (by decide)
      _ = (s.timeStep d).pair := (State.stkStep_frame _ _).1 .pair (by decide)
      _ = s.pair := (State.timeStep_frame _ _).1 .pair (by decide)
  have hafter : Frame 0x200c0208885cc6000000487 ((((s.timeStep d).stkStep d).talStep d).pairStep d) (s.stepAll d) := by
    unfold State.stepAll
    refine Frame.put_can _ (by decide) (Frame.put_gns _ (by decide) ?_)
    refine Frame.comp (State.msrStep_frame _) (by decide) (Frame.comp (State.sigStep_frame _) (by decide) ?_)
    exact (State.afeStep_frame _ d).mono (by decide)
  calc (s.stepAll d).pair.lastHb
      = ((((s.timeStep d).stkStep d).talStep d).pairStep d).pair.lastHb :=
        congrArg PairUnit.lastHb (hafter.1 .pair (by decide))
    _ = (((s.timeStep d).stkStep d).talStep d).pair.lastHb := State.pairStep_lastHb _ d
    _ = s.pair.lastHb := congrArg PairUnit.lastHb hbefore

theorem State.followTime_lastHb (s : State) (n : Nat) : (s.followTime n).pair.lastHb = s.pair.lastHb := by
  unfold State.followTime
  extract_lets d
  split
  · exact s.stepAll_lastHb d
  · rfl

/-- A heartbeat is noted; a link that was down is up (R489, R491). -/
def State.hbNoted (s : State) (role lat : Nat) : State :=
  (if s.rd PAIR_STAT_LINK = 0 then (s.wr PAIR_STAT_LINK 1).wr PAIR_STAT_LAT_NS lat else s).pairM fun p => { p with
    lastHb := s.clk.el
    heardAny := p.heardAny || p.listenFrom.isSome
    heardPrimary := p.heardPrimary || (p.listenFrom.isSome && role == 1) }

theorem State.heartbeatIn_lastHb (s : State) (b : List Nat) (lat : Nat) : (s.heartbeatIn b lat).pair.lastHb = s.clk.el := by
  have hnoted : (s.hbNoted (leAt b 0 1) lat).pair.lastHb = s.clk.el := rfl
  unfold State.heartbeatIn
  dsimp only
  rw [← State.hbNoted]
  split
  · exact (congrArg PairUnit.lastHb (State.setRole_pair _ _)).trans hnoted
  split
  · exact (congrArg PairUnit.lastHb (((State.stkTakeover_frame _).1 .pair (by decide)).trans (State.setRole_pair _ _))).trans hnoted
  split
  · exact (State.followTime_lastHb _ _).trans hnoted
  · exact hnoted

theorem State.diverge_pair (s : State) (f : Fld) (n : Nat) : (s.diverge f n).pair = s.pair := by
  unfold State.diverge
  split
  · rfl
  · exact (State.raise_frame _ _ _).1 .pair (by decide)

theorem State.pairM_pair (s : State) (f : PairUnit → PairUnit) : (s.pairM f).pair = f s.pair := rfl

theorem State.pairAge_lastHb (s : State) : s.pairAge.pair.lastHb = s.pair.lastHb := by
  unfold State.pairAge
  dsimp only
  rw [State.pairM_pair, State.diverge_pair, State.diverge_pair]

/-- A tie message is whole when its length and its CRC are right (R485). -/
def tieWhole (m : List Nat) : Prop :=
  8 ≤ m.length ∧ leAt m 2 2 = m.length - 8 ∧ leAt m 4 4 = crc32c (m.take 4 ++ [0, 0, 0, 0] ++ m.drop 8)

/-- At a hot standby what has waited too long is judged after each message (R490). -/
def State.tieDone (s : State) : State := if s.hotStandby then s.pairAge else s

theorem State.tieDone_lastHb (s : State) : s.tieDone.pair.lastHb = s.pair.lastHb := by
  unfold State.tieDone
  split
  · exact s.pairAge_lastHb
  · rfl

variable {l m : List Nat} {lat : BitVec 16}

theorem exec_tieMessage_heartbeat (hp : s.host.halted = false) (hon : s.pairOn = true) (hm : l.map (fun x => x % 256) = m)
    (hwhole : tieWhole m) (htyp : leAt m 0 1 = 1) :
    exec (.tieMessage l lat) s = .next (s.heartbeatIn (m.drop 8) lat.toNat).tieDone := by
  obtain ⟨hmin, hlen, hcrc⟩ := hwhole
  have hlen : leAt m 2 2 = (m.drop 8).length := hlen.trans (List.length_drop ..).symm
  simp only [exec, execTieMessage, State.powered_of_not_halted hp, hm, hon, Nat.not_lt.mpr hmin, hlen, hcrc, htyp, bne_self_eq_false,
    decide_false, Bool.not_true, Bool.or_self, Bool.false_eq_true, if_false]
  rfl

theorem exec_tieMessage_broken (hp : s.host.halted = false) (hon : s.pairOn = true) (hm : l.map (fun x => x % 256) = m)
    (hbroken : ¬ tieWhole m) : exec (.tieMessage l lat) s = .next (s.inc PAIR_ERR_V 1) := by
  have hcond : (decide (m.length < 8) || leAt m 2 2 != (m.drop 8).length ||
      leAt m 4 4 != crc32c (m.take 4 ++ [0, 0, 0, 0] ++ m.drop 8)) = true := by
    rw [Bool.or_eq_true_iff, Bool.or_eq_true_iff, decide_eq_true_eq, bne_iff_ne, bne_iff_ne, List.length_drop]
    by_contra hnone
    push Not at hnone
    exact hbroken ⟨hnone.1.1, hnone.1.2, hnone.2⟩
  simp only [exec, execTieMessage, State.powered_of_not_halted hp, hm, hon, hcond, Bool.not_true, Bool.false_eq_true, if_false, if_true]
  rfl

end Pair

/-- Settles O34: the pair unit's part of the state, and the fields of its window, after each command. -/
theorem pairCommandsComplete : Obligations.PairCommandsComplete := by
  unfold Obligations.PairCommandsComplete
  refine ⟨fun s hp hon hslot => ?_,
    fun s hp hon hprimary hdue => exec_outputMessage_due hp hon hprimary hdue,
    fun s hp hon hus => ⟨_, exec_aliveOutToggle_due hp hon hus, ?_⟩,
    fun s hp hon hlate => ⟨_, State.powered_of_not_halted hp _, State.judgeLoss_link hon hlate, fun hstandby hsilent => ?_⟩,
    fun s hp hon hin => ⟨_, exec_aliveInEdge_wired hp hon hin, ?_⟩,
    fun e s hp hlisten hon hrun hdue => ?_,
    fun s hp hon hprimary hlink => ?_,
    fun l m lat s hp hon hm hmin hlen hcrc htyp => ⟨_, exec_tieMessage_heartbeat hp hon hm ⟨hmin, hlen, hcrc⟩ htyp,
      (State.tieDone_lastHb _).trans (s.heartbeatIn_lastHb _ _)⟩,
    fun l m lat s hp hon hm hbroken => ⟨_, exec_tieMessage_broken hp hon hm ?_, s.rd_inc_same _ _ (by decide) (by decide), rfl⟩⟩
  · obtain ⟨x, hx⟩ := exec_heartbeat_due hp hon hslot
    exact ⟨_, hx, rfl, rfl, rfl⟩
  · rw [State.handOver_pair, State.aliveToggled_pair]
    refine ⟨rfl, rfl, fun hout => ?_, fun hswitch hprimary => ?_⟩
    · rw [bne_iff_ne.mpr hout, Bool.bne_true]
    · rw [State.handOver, if_pos (Bool.and_eq_true_iff.mpr ⟨hswitch, hprimary⟩)]
      exact State.setRole_role _ (by decide)
  · rw [State.judgeLoss_takesOver hon hlate hstandby hsilent]
    exact ⟨State.takeOver_role _, by rw [State.takeOver_takeovers, State.linkDropped_takeovers]⟩
  · calc s.edgeSeen.judgeLoss.padRefresh.pair.lastAlive
        = s.edgeSeen.judgeLoss.pair.lastAlive := congrArg PairUnit.lastAlive ((State.padRefresh_frame _).1 .pair (by decide))
      _ = s.edgeSeen.pair.lastAlive := congrArg PairUnit.lastAlive (State.judgeLoss_pair (State.edgeSeen_not_silent hin))
      _ = some s.clk.el := s.edgeSeen_lastAlive
  · obtain ⟨quiet, ht⟩ := exec_roleDecision_due hp hlisten hon hrun hdue
    refine ⟨_, ht, congrArg PairUnit.listenFrom (State.setRole_pair _ _), fun hheard => ?_, fun hheard hside => ?_⟩
    · simp only [hheard, Bool.not_true, Bool.false_and, Bool.false_eq_true, if_false]
      exact State.setRole_role _ (by decide)
    · simp only [hheard, hside, BEq.rfl, Bool.not_false, Bool.true_or, Bool.and_self, if_true]
      exact State.setRole_role _ (by decide)
  · simp only [exec, execSwitchover, State.powered_of_not_halted hp, hon, hprimary, hlink, BEq.rfl, Bool.and_self, if_true]
    rfl
  · rintro ⟨hmin, hlen, hcrc⟩
    rcases hbroken with h | h | h
    · omega
    · exact h hlen
    · exact h hcrc

end Sys2Proof.Machine
